-- ==== Sys2Proof/Word.lean ====
section
/-! DEFINITION. Word.lean: the word types of the model. -/
namespace Sys2Proof

/-- One byte of a memory. -/
abbrev Byte := BitVec 8

/-- The contents of one 32-bit register (00 R5). -/
abbrev Word := BitVec 32

/-- A 64-bit quantity (00 R8). -/
abbrev DWord := BitVec 64

end Sys2Proof
end

