-- ==== Sys2Proof/Terms.lean ====
section
/-! DEFINITION. Terms.lean: the things commands carry: flits, packets, images, records, messages. The spec keeps several binary
forms private (03 R80, 02 R58); those things are held here by their content, not by their bytes (log entry 4). -/
namespace Sys2Proof

/-- Who makes a register access (00 R10): host software, the same on a bound TSP stream, or the management agent. -/
inductive Party where
  | host | bound | mgmt
  deriving DecidableEq, Repr

/-- What else the cycle of a register write holds: the W1C bits of the register that hardware sets in it (00 R7; those of a pair's high
half from bit 32), and the value that the other party writes to the same register (08 R284, 16 R493 and their like). -/
structure Meanwhile where
  sets : Nat := 0
  other : Option Nat := none
  deriving DecidableEq, Repr

/-- The half of a 64-bit pair that a read takes, or both at once (00 R8, R11). -/
inductive PairPart where
  | lo | hi | both
  deriving DecidableEq, Repr

/-! ### Plan control flits (01 Table 1.3) -/

inductive CtlType where
  | report | hold | release | faultStop | other
  deriving DecidableEq, Repr

/-- A plan control flit (01 R26, Table 1.3). -/
structure CtlFlit where
  type : CtlType
  tag : Nat
  origin : Nat
  tick : Nat
  cause : Nat := 0
  hops : Nat := 0
  hem : Nat := 0
  stopped : Bool := false
  deriving DecidableEq, Repr

/-- The plan settings that PLAN_SETTING_WRITE writes (01 R53). -/
inductive PlanSetting where
  | holdTimeout | stopTick | startTime | stopAtTick
  deriving DecidableEq, Repr

/-- Who starts a side read (05 Table 5.6). -/
inductive SideBy where
  | host | thimble | mgmt
  deriving DecidableEq, Repr

/-! ### Macro-operations (03 Table 3.3) -/

inductive Family where
  | matmul | attn | vec | reduce | sample | move | fill | copy | give | take | wait | barrier | illegal
  deriving DecidableEq, Repr

/-- Where a macro-operation operand comes from (03 R87). -/
inductive Operand where
  | imm (v : Nat) | prm (n : Nat) | slot (n : Nat) | sreg (n : Nat)
  deriving DecidableEq, Repr

/-- The named operands of the macro-operation families (03 "Macro-operation families"). -/
inductive Arg where
  | hA | hB | hSA | hSB | hSV | hSC | hC | m | n | k | transA | transB | fmtA | fmtB | accBase | cont | wb | fmtOut | round | seed
  | hQ | hK | hV | hState | hOut | rows | headDim | blockLen | scale | maskMode | q0 | k0 | hMask | first | final
  | vop | len | src1 | src2 | src3 | dst | fmt1 | fmt2 | fmt3 | bcast1 | bcast2 | bcast3 | cols | accumulate | pred | sat
  | rop | vocab | slotRow (i : Nat) | result | counter | amount
  | srcKind | srcHandle | srcOff | srcWindow | srcAddr | srcGroup | srcBind | srcLayer | srcTensor
  | dstKind | dstHandle | dstOff | dstWindow | dstAddr | dstGroup | size | trafficClass | sigCounter | sigAmount
  | pattern | off | window | rank | dstRank | remote | waitFlag | index | token
  deriving DecidableEq, Repr

/-- A macro-operation as the plan holds it. -/
structure MacroT where
  fam : Family
  tag : Nat := 0
  args : List (Arg × Operand) := []
  deriving DecidableEq, Repr

/-- A macro-operation with its operands resolved (03 R87): its issue index, the tick it belongs to, and a value per operand. -/
structure MacroOp where
  id : Nat := 0
  tick : Nat := 0
  fam : Family
  tag : Nat := 0
  args : List (Arg × Nat) := []
  deriving DecidableEq, Repr

/-! ### Shape images (02). The body's binary form is private to Sirman (02 "The signed container"); its records are held by what they
say (log entry 4). -/

/-- Serving geometry of a partition (13 Table 13.1). -/
structure Geom where
  decSlots : Nat := 0
  decSlotTokens : Nat := 0
  preSlots : Nat := 0
  preChunk : Nat := 0
  seqBase : Nat := 0
  seqMax : Nat := 0
  deriving DecidableEq, Repr

/-- What an image makes of a port (02 Table 2.3). -/
inductive PortUse where
  | owned (p : Nat) | transit | unassigned
  deriving DecidableEq, Repr

/-- A record of an image's body: an item of Table 2.3, or something else (02 R60). -/
inductive ArmRec where
  | quad (q part role : Nat)
  | handles (p v : Nat)
  | windows (p v : Nat)
  | landing (p v : Nat)
  | linkVcs (p v : Nat)
  | vcMap (p v : Nat)
  | poolGroup (g : Nat) (owner : Option Nat)
  | slice (sl : Nat) (owner : Option Nat)
  | port (n : Nat) (use : PortUse)
  | fabricVcs (v : Nat)
  | route (node dst vc entry : Nat)
  | geometry (p : Nat) (g : Geom) (map : List Nat)
  | outside
  deriving DecidableEq, Repr

/-- A fetched shape image (02 R62): the 256 bytes of its header (Table 2.5), the KEY_ID under which its SIGNATURE verifies (0 for none),
the SHA-512 of its body and of header and body, whether its body is well formed, and its records. -/
structure ArmImage where
  fetched : Bool := true
  header : List Byte
  signedBy : Nat
  bodySha : Nat
  fullSha : Nat
  bodyOk : Bool := true
  recs : List ArmRec
  deriving DecidableEq, Repr

/-! ### Control-processor instructions (03 Table 3.2) -/

inductive ScalarOp where
  | add | sub | mul | and | or | xor | shl | shr | sar | minS | minU | maxS | maxU | eq | ne | ltS | ltU | leS | leU
  deriving DecidableEq, Repr

/-- The second source of a SCALAR instruction: an s register or an immediate of up to 32 bits. -/
inductive ScalarSrc where
  | reg (n : Nat) | imm (v : Nat)
  deriving DecidableEq, Repr

inductive SkipCond where
  | zero | nonZero | negative | nonNegative
  deriving DecidableEq, Repr

inductive CpInstr where
  | scalar (op : ScalarOp) (rd ra : Nat) (b : ScalarSrc)
  | readPrm (rd n : Nat)
  | readSlot (rd n : Nat)
  | fetch (rd handle : Nat) (off : ScalarSrc)
  | skip (c : SkipCond) (rs n : Nat)
  | loop (count : Operand)
  | endloop
  | issue (op : MacroT)
  | tick
  | mark (v : Nat)
  | fin
  | undecodable
  /-- An instruction whose word is uncorrectable (03 Table 3.9). -/
  | damaged
  deriving DecidableEq, Repr

/-! ### Plinth objects and packages (12 Table 12.3 to 12.5). Keys are named by their KEY_ID; a signature is held as the KEY_ID under
which it verifies, 0 for none (log entry 20). -/

/-- A layer entry of a manifest: its place, its format code, its SHA-512 digest. -/
structure LayerEntry where
  off : Nat
  len : Nat
  fmt : Nat := 0xF
  digest : Nat := 0
  deriving DecidableEq, Repr

/-- A manifest: its header (Table 12.3) and layer table (Table 12.4) by their bytes, and the KEY_ID under which its SIGNATURE verifies. -/
structure Manifest where
  header : List Byte := []
  table : List Byte := []
  signedBy : Nat := 0
  deriving DecidableEq, Repr

/-- A Plinth token (Table 12.5): its bytes, and the KEY_ID under which its SIGNATURE verifies. -/
structure PlinthToken where
  bytes : List Byte
  signedBy : Nat := 0
  deriving DecidableEq, Repr

/-- An install package read from host memory (12 R383). -/
structure PlinthPackage where
  token : PlinthToken
  manifest : Manifest := {}
  deriving DecidableEq, Repr

/-! ### Plan images (01, 03; 14 R442). The binary form is private to the plan compiler (03 R80); an image is held by what a full load
writes (log entry 4). -/

/-- What an image carries for a core: instruction store, parameter registers, handle, window and declaration entries (index and
value), membership mask of BARRIER_MEMBER, ARITH_TRAP. -/
structure CoreImage where
  core : Nat
  prog : List CpInstr := []
  prm : List (Nat × Nat) := []
  handles : List (Nat × Nat) := []
  windows : List (Nat × Nat) := []
  decls : List (Nat × Nat) := []
  members : Nat := 0
  trap : Nat := 0
  deriving DecidableEq, Repr

/-- A plan image as the device finds it: fetched completely; its digest and format valid for stepping B0; its cores; BAR_RANKS values by
barrier; arrival list entries (tick, core, counter, target); EXCHANGE_PORTS; job tag; the serving fields of 13 R421; ND_CTRL; its digest (15 Table
15.10). -/
structure PlanImage where
  fetched : Bool := true
  valid : Bool := true
  cores : List CoreImage := []
  barRanks : List (Nat × Nat) := []
  arrivals : List (Nat × Nat × Nat × Nat) := []
  exchangePorts : Nat := 0
  jobTag : Nat := 0
  lag : Nat := 1
  blockLog2 : Nat := 4
  maxBlocks : Nat := 1
  kvBlocks : Nat := 0
  kvTable : Nat := 0
  vocab : Nat := 1
  ndCtrl : Nat := 0
  digest : Nat := 0
  deriving DecidableEq, Repr

/-! ### Requests of the serving unit (13 Table 13.3) -/

/-- A request descriptor by its fields; `reserved` says that a reserved byte is not zero. -/
structure ReqDesc where
  reqId : Nat := 0
  seed : Nat := 0
  tickAt : Nat := 0
  promptAddr : Nat := 0
  promptLen : Nat := 0
  maxNew : Nat := 0
  deadline : Nat := 0
  stream : Nat := 0
  temperature : Nat := 0
  topP : Nat := 0
  minP : Nat := 0
  repPenalty : Nat := 0
  topK : Nat := 0
  repWindow : Nat := 0
  bind : Nat := 0
  op : Nat := 0
  stops : List Nat := []
  reserved : Bool := false
  deriving DecidableEq, Repr

/-! ### Fabric packets (07 Table 7.4) -/

inductive Op where
  | write | readReq | readResp | give | ack | errorResp | barArrive | barRelease | memWrite | memRead | sampleData | bad
  deriving DecidableEq, Repr

/-- A packet: the head word's fields, the partition of the flit control field, and the body's data bytes (07 R218, R219). -/
structure Pkt where
  op : Op
  part : Nat := 0
  dstNode : Nat := 0
  srcNode : Nat := 0
  dstUnit : Nat := 0
  srcUnit : Nat := 0
  tag : Nat := 0
  srcRank : Nat := 0
  dstRank : Nat := 0
  tclass : Nat := 0
  final : Bool := true
  handle : Nat := 0
  off : Nat := 0
  addr : Nat := 0
  sig : Bool := false
  sigCounter : Nat := 0
  sigAmount : Nat := 0
  xfer : Nat := 0
  data : List Byte := []
  /-- Bad bytes of each body word, in order; a word not listed is good. -/
  bad : List Nat := []
  member : Bool := false
  barrier : Nat := 0
  round : Nat := 0
  sub : Nat := 0
  /-- Bytes a read request asks for. -/
  len : Nat := 0
  /-- Tick in which a pool request was issued (05 R177). -/
  tick : Nat := 0
  /-- Code an error response answers with. -/
  code : Nat := 0
  deriving DecidableEq, Repr

/-- A packet's body is at most 512 bytes of whole words (07 R219). -/
def Pkt.fits (k : Pkt) : Bool := k.data.length ≤ 512 && k.data.length % 32 = 0

/-- The packet as it was injected, without the bad bytes it gathers on its way. -/
def Pkt.sent (k : Pkt) : Pkt := { k with bad := [] }

/-- What the head packet of a full buffer waits on: a link port, a pool bank queue, an HBM controller queue, or the buffer downstream
(07 R233). -/
inductive HeadWait where
  | link | pool | hbm | downstream
  deriving DecidableEq, Repr

/-- A fabric flit as an edge carries it: its word with the check bytes, and its control field (07 R218). -/
structure Flit where
  word : List Byte
  ctl : Nat
  deriving DecidableEq, Repr

/-! ### Channels, tokens, firmware (15, 16) -/

/-- How a request reaches Thimble: the host mailbox, the management port by bus 0 (A) or 1 (B), DOE instance 0 outside a session, or an
SPDM session (15 R461, R465; 16 R482). -/
inductive Chan where
  | mailbox | mgmt (bus : Nat) | doe | session (id : Nat)
  deriving DecidableEq, Repr

/-- A secrecy token (15 Table 15.4): its bytes, and the KEY_IDs under which SIGNATURE and CONSENT verify, 0 for none. -/
structure SecToken where
  bytes : List Byte
  signedBy : Nat := 0
  consentBy : Nat := 0
  deriving DecidableEq, Repr

/-- What SUBMIT_TOKEN carries: a secrecy token, or a Plinth token for an installation or a deletion (16 Table 16.3). -/
inductive AnyToken where
  | sec (t : SecToken)
  | install (p : PlinthPackage)
  | delete (t : PlinthToken)
  deriving DecidableEq, Repr

/-- A firmware image header (16 Table 16.8): its bytes, and the KEY_ID under which SIGNATURE verifies. -/
structure FwHeader where
  bytes : List Byte
  signedBy : Nat := 0
  deriving DecidableEq, Repr

/-- A piece of a pulled firmware image. -/
inductive FwData where
  | header (h : FwHeader)
  | body (data : List Byte)
  deriving DecidableEq, Repr

/-- The registers of a dump point, and of the observation ring, that a write names (19 Table 19.12). -/
inductive DumpReg where
  | cfg | tag | src | offset | length | tick
  deriving DecidableEq, Repr

inductive RingReg where
  | base | cfg
  deriving DecidableEq, Repr

/-! ### Link frames (08 Table 8.3, R242 to R244) -/

/-- A packet on a link: its link bits (08 R244), and, of a sealed one, the ciphertext that takes the plaintext's place and the seal word: SEQ,
the 128-bit tag, and whether seal bytes 24 to 35 are zero; the origin port, of which the seal's IV is made (08 Table 8.13). -/
structure LPkt where
  pkt : Pkt
  epoch : Nat := 0
  lvc : Nat := 0
  isSealed : Bool := false
  kgen : Nat := 0
  seq : Nat := 0
  auth : Nat := 0
  cipher : List Byte := []
  tailZero : Bool := true
  port : Nat := 0
  deriving DecidableEq, Repr

/-- A slot: EMPTY, or a word of a packet: kind 1 HEAD, 2 BODY (its number, from 0), 3 SEAL (08 R242, R243). -/
inductive Slot where
  | empty
  | word (kind : Nat) (k : LPkt) (i : Nat := 0)
  deriving DecidableEq, Repr

/-- A link management message (08 Table 8.7). -/
structure LinkMsg where
  op : Nat
  txn : Nat := 0
  lane : Nat := 0
  reason : Nat := 0
  half : Nat := 0
  data : Nat := 0
  deriving DecidableEq, Repr

/-- A time protocol message (10 Table 10.5): its payload bits [87:16] as a number. -/
structure TimeMsg where
  op : Nat
  id : Nat := 0
  payload : Nat := 0
  deriving DecidableEq, Repr

/-- The control message of a frame (08 Table 8.3, CKIND). -/
inductive Cmsg where
  | none | ctl (f : CtlFlit) | link (m : LinkMsg) | time (m : TimeMsg)
  deriving DecidableEq, Repr

/-- A frame: the fields of its header and its 17 slots (08 R242, Table 8.3). -/
structure Frame where
  idle : Bool
  fseq : Nat := 0
  ack : Nat := 0
  ackV : Bool := false
  nak : Bool := false
  slots : List Slot := []
  cmsg : Cmsg := .none
  fcnt : Nat := 0
  ctag : Nat := 0
  crc : Nat := 0
  deriving DecidableEq, Repr

/-- A lane marker: lane number, port number and BIP-8 parity (08 R241). -/
structure Marker where
  lane : Nat
  port : Nat
  bip : Nat
  deriving DecidableEq, Repr

/-- What the medium adds to a frame: its bad symbols and what is added to each, by number; the markers that follow it, by lane, LNS last, where
4,096 frames have passed; the RX stamp of the frame (10 R328); and, for an RTT_ECHO, the round trip measured, in ns. -/
structure FrameCheck where
  errs : List (Nat × Nat) := []
  markers : List (Option Marker) := []
  stamp : Nat := 0
  rtt : Nat := 0
  deriving DecidableEq, Repr

/-- A lane as LOCK finds it (08 R265): the far lane and far port it carries, and whether it is inverted. -/
structure LaneLock where
  farLane : Nat
  farPort : Nat
  inverted : Bool := false
  deriving DecidableEq, Repr

/-! ### Host requests for device memory (11 R358 to R360, 14 R433, R450) -/

/-- A CXL.mem request for a line of 64 bytes: its HDM offset; what it writes; whether the host keeps a copy in its cache; whether it
carries the TEE attribute, and its CKID; the bad bytes that a read finds in the two words, or that the two words of a write arrive with; and
the on-die ECC severity reports of a read (R349). -/
structure HdmReq where
  addr : Nat
  write : Bool := false
  data : List Byte := []
  caches : Bool := false
  tee : Bool := false
  ckid : Nat := 0
  bad : List Nat := []
  odecc : Nat := 0
  deriving DecidableEq, Repr

end Sys2Proof
end

