-- ==== Sys2Proof/Syntax.lean ====
section
/-! DEFINITION. Syntax.lean: the commands of the block, one constructor per row of spec/opcode_table.json. The operands are what
the spec says each command carries; a core, partition, port, die, slot or queue is named by its number. -/
namespace Sys2Proof

/-- The commands (spec/opcode_table.json; the rule each follows is named beside it). -/
inductive Instr where
  /-- REGISTER_WRITE: A write to a register that has no row of its own takes effect according to the access codes of its fields. (R6) -/
  | registerWrite (party : Party) (bar2 : Bool) (off v : Nat) (also : Meanwhile := {})
  /-- PAIR_LO_READ: A read of the _LO half of a 64-bit pair returns the low half and latches the high half for the reading party. (R8) -/
  | pairLoRead (party : Party) (bar2 : Bool) (off : Nat) (part : PairPart := .lo)
  /-- PAIR_LO_WRITE: A write to the _LO half of a writable 64-bit pair is held until the following write to _HI. (R9) -/
  | pairLoWrite (party : Party) (bar2 : Bool) (off v : Nat) (hi : Option Nat := none)
  /-- PAIR_HI_WRITE: A write to the _HI half commits both halves in one cycle, or the high half alone when no low half is held. (R9) -/
  | pairHiWrite (party : Party) (bar2 : Bool) (off v : Nat) (also : Meanwhile := {})
  /-- RC_COUNTER_READ: A read of an RC field by the host or the management agent returns its value and clears it; a count made in the same cycle is kept. (R7) -/
  | rcCounterRead (party : Party) (bar2 : Bool) (off : Nat) (counted : Bool)
  /-- TICK_COMPLETE: A device completes tick t of a partition once every core has finished the tick and every listed arrival has landed. (R15) -/
  | tickComplete (p : Nat)
  /-- TICK_GRANT: The sequencer grants tick t+1 once completion, the hem, the hold cap, pool delivery and the stop conditions all hold. (R16) -/
  | tickGrant (p : Nat)
  /-- REPORT_RECEIVE: An accepted REPORT updates c(n) for its neighbour, or is ignored or faults the partition on a hem mismatch. (R20) -/
  | reportReceive (port : Nat) (f : CtlFlit)
  /-- HOLD_RECEIVE: A received HOLD is dropped, forwarded, or stored and applied as a cap, following the hold-table rules. (R29) -/
  | holdReceive (port : Nat) (f : CtlFlit)
  /-- RELEASE_RECEIVE: A received RELEASE releases a matching live entry, stores a released key, or drops a second copy, and forwards as required. (R30) -/
  | releaseReceive (port : Nat) (f : CtlFlit)
  /-- HOLD_ENTRY_EXPIRE: A released hold entry is deleted once the longer of HOLD_TIMEOUT and 1 ms has passed since its release. (R30) -/
  | holdEntryExpire (p : Nat)
  /-- FAULT_STOP_RECEIVE: A received FAULT_STOP is forwarded and puts the running partition in FAULT with E_PLAN_REMOTE_FAULT, or is dropped. (R32) -/
  | faultStopReceive (port : Nat) (f : CtlFlit)
  /-- PLAN_CTRL_ARM: ARM stores the start time and arms a LOADED partition, or records E_PLAN_START_LATE. (R38) -/
  | planCtrlArm (party : Party) (p : Nat)
  /-- PLAN_CTRL_START_NOW: START_NOW grants tick 0 when every exchange port is UP or RETRAIN, or records E_PLAN_PORT_DOWN. (R18) -/
  | planCtrlStartNow (party : Party) (p : Nat)
  /-- PLAN_START_TIME_REACHED: When corrected time reaches PLAN_START_TIME, an ARMED partition is granted tick 0 or returns to LOADED. (R39) -/
  | planStartTimeReached (p : Nat)
  /-- PLAN_CTRL_STOP: STOP moves a RUNNING partition to STOPPING, to stop after the tick in progress. (R40) -/
  | planCtrlStop (p : Nat)
  /-- PLAN_CTRL_ABORT: ABORT cancels an armed start, or stops issue and sends FAULT_STOP, leaving the partition STOPPED. (R38) -/
  | planCtrlAbort (p : Nat)
  /-- PLAN_CTRL_RESUME: RESUME takes a partition out of BREAK and issues the stopped macro-operation without re-evaluating its conditions. (R110) -/
  | planCtrlResume (party : Party) (p : Nat)
  /-- PLAN_CTRL_CLEAR: CLEAR empties the hold table, zeroes tick counters and error codes, and returns a STOPPED or FAULT partition to IDLE. (R38) -/
  | planCtrlClear (p : Nat)
  /-- PLAN_CTRL_UNLOAD: UNLOAD returns a LOADED or ARMED partition to IDLE and keeps the image resident. (R38) -/
  | planCtrlUnload (p : Nat)
  /-- HEM_DEPTH_WRITE: A write of HEM_DEPTH stores 0 to 8 in IDLE, LOADED or ARMED, and otherwise sets CMD_REJECT. (R22) -/
  | hemDepthWrite (p v : Nat)
  /-- PLAN_SETTING_WRITE: Writes of HOLD_TIMEOUT, PLAN_STOP_TICK, PLAN_START_TIME and STOP_AT_TICK are accepted only in IDLE, LOADED or ARMED. (R53) -/
  | planSettingWrite (p : Nat) (which : PlanSetting) (v : Nat)
  /-- HOLD_TIMEOUT_EXPIRE: On expiry of the no-progress timer the sequencer follows the wait graph and records E_PLAN_DEADLOCK or E_PLAN_HOLD_TIMEOUT. (R45) -/
  | holdTimeoutExpire (p : Nat)
  /-- POWER_TOKENS_RECOMPUTE: POWER_TOKENS is recomputed from POWER_CAP within 1 µs of each change of the cap. (R41) -/
  | powerTokensRecompute
  /-- TOKEN_GRANT: A waiting heavy macro-operation is granted physical token (k mod Q) once the die quota and the token allow it. (R42) -/
  | tokenGrant (g : Nat) (rivals : List Nat := [])
  /-- ARM_CTRL_STAGE: STAGE fetches the image from ARM_SRC over CXL.io and begins the staging checks. (R67) -/
  | armCtrlStage (party : Party) (clash : Bool)
  /-- ARM_VERIFY_COMPLETE: When fetch and checks end, the image becomes STAGED or the first failing check is recorded. (R66) -/
  | armVerifyComplete (img : ArmImage)
  /-- ARM_CTRL_DISCARD: DISCARD drops the staged image, or records E_ARM_NOT_STAGED or E_ARM_BUSY. (R67) -/
  | armCtrlDiscard (party : Party) (clash : Bool)
  /-- ARM_CTRL_APPLY: APPLY runs the scope check and begins the cut or base application, closing in-scope fabric ports. (R68) -/
  | armCtrlApply (party : Party) (clash : Bool)
  /-- ARM_DRAIN_DONE: Once the in-flight flits of in-scope dies have drained, clearing of changed cores and pool groups begins. (R71) -/
  | armDrainDone
  /-- ARM_DRAIN_TIMEOUT: A drain unfinished at 20 µs stops the application with E_ARM_DRAIN_TIMEOUT. (R72) -/
  | armDrainTimeout
  /-- ARM_SHADOW_CHECK_DONE: Once shadow tables are checked, a Q-code failure ends the apply with E_ARM_WRITE_FAULT and may assert FAULT_N. (R73) -/
  | armShadowCheckDone (ok : Bool)
  /-- ARM_SHARED_SWITCH: Shared tables switch to their shadow copies, with traffic through them paused for at most 8 µs. (R71) -/
  | armSharedSwitch
  /-- ARM_COMMIT: Every die switches to the shadow copies in one fabric cycle, the ports reopen, APPLIED is set and the interrupt is raised. (R71) -/
  | armCommit
  /-- SCALAR: A SCALAR instruction performs a 64-bit operation between s registers or with an immediate. (R82) -/
  | scalar (g : Nat)
  /-- READ: READ copies a parameter or slot register into an s register, waiting for the slot bank of the tick to be published. (R104) -/
  | readSc (g : Nat)
  /-- FETCH: FETCH copies a scratchpad word into an s register once earlier overlapping writes have completed. (R84) -/
  | fetch (g : Nat)
  /-- SKIP: SKIP jumps forward when its condition holds, or ends the stream with E_CORE_SKIP_RANGE. (R83) -/
  | skip (g : Nat)
  /-- LOOP: LOOP locates its ENDLOOP, reads its count once, and runs the body that many times. (R105) -/
  | loop (g : Nat)
  /-- ENDLOOP: ENDLOOP closes an iteration or the loop, or ends the stream with E_CORE_ILLEGAL_OP when no loop is open. (R105) -/
  | endloop (g : Nat)
  /-- ISSUE: ISSUE places one macro-operation, with operands resolved, into the issue queue in program order. (R86) -/
  | issue (g : Nat)
  /-- TICK: TICK ends the core's part of the current tick and waits for the grant of the next. (R85) -/
  | tick (g : Nat)
  /-- MARK: MARK writes a 16-bit value into the trace. (R82) -/
  | mark (g : Nat)
  /-- END: END ends the core's stream, and the core counts as having completed every later tick. (R85) -/
  | fin (g : Nat)
  /-- MACRO_OP_START: A unit starts a queued macro-operation once the scoreboard shows no overlapping earlier access outstanding. (R88) -/
  | macroOpStart (g id : Nat)
  /-- MATMUL: MATMUL accumulates a tile product into an accumulator region and, with WB, rounds it once into the output. (R93) -/
  | matmul (g id : Nat)
  /-- ATTN: ATTN performs one streaming-attention step over a key/value block and updates the running state. (R95) -/
  | attn (g id : Nat)
  /-- VEC: VEC applies one element-wise operation to up to three sources and writes one destination. (R97) -/
  | vec (g id : Nat)
  /-- REDUCE: REDUCE reduces each row to one value with SUM, SUMSQ, MAX, MIN, ARGMAX or ARGMIN. (R98) -/
  | reduce (g id : Nat)
  /-- SAMPLE: SAMPLE hands rows of logits to the serving unit's sampling unit. (R99) -/
  | sample (g id : Nat) (full : List HeadWait := [])
  /-- MOVE: MOVE transfers 32-byte multiples between local, window, pool, HBM and Plinth endpoints, optionally with a signal. (R100) -/
  | move (g id : Nat) (full : List HeadWait := [])
  /-- FILL: FILL writes a repeated 32-bit pattern into a handle range at the memory. (R101) -/
  | fill (g id : Nat)
  /-- COPY: COPY copies a handle range to another range of the core's own scratchpad. (R101) -/
  | copy (g id : Nat)
  /-- GIVE: GIVE raises GIVEN of a local counter, or sends a give packet through a window, after earlier macro-operations complete. (R194) -/
  | give (g id : Nat) (full : List HeadWait := []) (tied : Bool := false)
  /-- TAKE: TAKE consumes from a counter, failing with E_SYNC_UNDERFLOW or blocking issue when WAIT is set. (R194) -/
  | take (g id : Nat) (tied : Bool := false)
  /-- WAIT: WAIT blocks issue until the counter has the amount available, without consuming it. (R194) -/
  | wait (g id : Nat) (tied : Bool := false)
  /-- TAKE_SATISFIED: A blocked TAKE or WAIT retried in a later cycle finds the amount available and lets issue resume. (R194) -/
  | takeSatisfied (g : Nat) (tied : Bool := false)
  /-- BARRIER: BARRIER records the core's arrival for a round, stalls when a full generation ahead, and may block until the round completes. (R204) -/
  | barrier (g id : Nat)
  /-- MACRO_OP_COMPLETE: A macro-operation completes, releasing its token and scoreboard entries, or ends with an error that stops the core's issue. (R90) -/
  | macroOpComplete (g id : Nat)
  /-- PRM_WRITE: A host write of a parameter register is accepted in IDLE, LOADED or STOPPED, and otherwise sets PATCH_REJECT. (R103) -/
  | prmWrite (party : Party) (g n v : Nat)
  /-- ARITH_TRAP_WRITE: A host write of ARITH_TRAP is accepted under the same state rules as the parameter registers. (R145) -/
  | arithTrapWrite (party : Party) (g v : Nat)
  /-- BRK_REG_WRITE: A breakpoint register write is accepted only while tenant debug or failure analysis is granted, and otherwise sets DENIED. (R111) -/
  | brkRegWrite (party : Party) (g which v : Nat)
  /-- SPAD_SCRUB_READ: The scrubber reads one word of a bank through port C every 1,024 cycles and counts what it finds. (R158) -/
  | spadScrubRead (g b found : Nat)
  /-- SPAD_CORRECTION_WRITEBACK: A pending corrected word is written back in the first cycle in which port B has no other request. (R155) -/
  | spadCorrectionWriteback (g w : Nat)
  /-- HANDLE_ENTRY_COMMIT: A write of HANDLE_HI commits a handle entry unless a check refuses it. (R161) -/
  | handleEntryCommit (party : Party) (g hi : Nat)
  /-- WINDOW_ENTRY_COMMIT: A write of WINDOW_HI commits a window entry unless a check refuses it. (R166) -/
  | windowEntryCommit (party : Party) (g hi : Nat)
  /-- REMOTE_WRITE_ARRIVE: A remote-write packet is checked and written at the target core, and its signal is applied after the last packet. (R169) -/
  | remoteWriteArrive (k : Pkt) (tied : Bool := false)
  /-- REMOTE_READ_ARRIVE: A remote-read request is checked at the target and served by its data mover, or answered with an error response. (R170) -/
  | remoteReadArrive (k : Pkt)
  /-- READ_RESP_ARRIVE: Returning read data lands in the issuing core's scratchpad, and the signal is applied after the last packet. (R196) -/
  | readRespArrive (k : Pkt) (tied : Bool := false)
  /-- ERROR_RESP_ARRIVE: An ERROR_RESP ends the issuing MOVE with the error it reports. (R368) -/
  | errorRespArrive (k : Pkt)
  /-- MEMORY_ACK_ARRIVE: A pool or HBM write acknowledgement applies the MOVE's signal at the issuing core once the whole transfer is acknowledged. (R196) -/
  | memoryAckArrive (k : Pkt) (tied : Bool := false)
  /-- SPAD_RECOVERY_WRITE: A write of SPAD_RECOVERY sets a bit only while the partition is STOPPED or FAULT with tenant debug granted. (R173) -/
  | spadRecoveryWrite (v : Nat)
  /-- SIDE_READ_GO: GO starts a side read, checking the mode, handle and shape before reading through port C. (R174) -/
  | sideReadGo (by_ : SideBy) (v : Nat)
  /-- SIDE_READ_DONE: A side read finishes writing its result to host memory and sets DONE with its code. (R174) -/
  | sideReadDone
  /-- POOL_REQUEST_ARRIVE: A pool request at its bank takes or matches the owner record, is served, or meets another core's access. (R177) -/
  | poolRequestArrive (k : Pkt) (rivals : List Pkt := [])
  /-- POOL_SCRUB_READ: The pool scrubber reads a word of an idle bank every 4,096 pool cycles. (R180) -/
  | poolScrubRead (w found : Nat)
  /-- PARTITION_CLEAR_START: A SPAD_CLEAR_CTRL bit starts a partition clear of an IDLE partition, or sets the refusal bit. (R183) -/
  | partitionClearStart (mask : Nat)
  /-- PARTITION_CLEAR_DONE: A running partition clear finishes filling its scratchpad, tables and pool groups with zero, and sets DONE. (R182) -/
  | partitionClearDone (p : Nat)
  /-- SYNC_DECL_COMMIT: A write of SYNC_DECL_HI commits a counter declaration unless a check refuses it. (R192) -/
  | syncDeclCommit (party : Party) (g hi : Nat)
  /-- GIVE_PACKET_ARRIVE: An arriving give packet is checked at the target core and applied, counted or faulted by the partition state. (R199) -/
  | givePacketArrive (k : Pkt) (tied : Bool := false)
  /-- BAR_ARRIVE_RECEIVE: The home counts a device arrival for a round, completes the round when all have arrived and sends releases. (R206) -/
  | barArriveReceive (k : Pkt)
  /-- BAR_RELEASE_RECEIVE: A release for round g+1 advances g and moves NEXT into CUR, freeing blocked and stalled members. (R206) -/
  | barReleaseReceive (k : Pkt)
  /-- BAR_RANKS_WRITE: A BAR_RANKS write is accepted under the partition-state rules and refused when RANK_LO exceeds RANK_HI. (R202) -/
  | barRanksWrite (party : Party) (p b v : Nat)
  /-- BARRIER_MEMBER_WRITE: A BARRIER_MEMBER write is accepted under the partition-state rules, and LOCAL_COUNT follows from the masks. (R202) -/
  | barrierMemberWrite (party : Party) (g v : Nat)
  /-- FABRIC_PACKET_RECEIVE: A router corrects and routes an arriving head word, or discards the packet for an uncorrectable or bad head. (R231) -/
  | fabricPacketReceive (n edge : Nat) (k : Pkt) (headBad : Nat)
  /-- EDGE_RETRY: A fabric flit that fails its CRC is retried by the die-to-die adapter, adding delay. (R229) -/
  | edgeRetry (n : Nat)
  /-- EDGE_MODULE_FAIL: An unrepairable UCIe module is taken out, degrading the edge, or the edge goes down and faults every active partition. (R216) -/
  | edgeModuleFail (n e : Nat) (retries : Bool)
  /-- FRAME_SEND: Each frame time the port sends a DATA or IDLE frame, buffering DATA frames for replay. (R246) -/
  | frameSend (n : Nat)
  /-- FRAME_RECEIVE: A received frame is checked, accepted, dropped as a duplicate or discarded, and its ACK, NAK and messages are processed. (R247) -/
  | frameReceive (n : Nat) (f : Frame) (chk : FrameCheck)
  /-- REPLAY_TIMER_EXPIRE: On expiry of the replay timer, the sender replays from the oldest unacknowledged frame and counts LINK_TMO. (R250) -/
  | replayTimerExpire (n : Nat)
  /-- RETRAIN_COMPLETE: A fast retrain reaches UP and the sender replays from the oldest unacknowledged frame. (R275) -/
  | retrainComplete (n : Nat)
  /-- RETRAIN_TIMEOUT: A fast retrain not UP within 100 µs takes the port DOWN with E_LINK_PORT_DOWN. (R275) -/
  | retrainTimeout (n : Nat)
  /-- PLAN_CTL_QUEUE: A link die takes a plan control flit from the fabric into a port's queue, replacing an older REPORT of the same job. (R260) -/
  | planCtlQueue (n : Nat) (f : CtlFlit)
  /-- LINK_MSG_REPEAT: An unanswered link management message is repeated every 1 µs, and after 64 repeats a fast retrain starts. (R261) -/
  | linkMsgRepeat (n : Nat)
  /-- DARN_REQ: The follower asks the leader to darn a lane for calibration or failure. (R261) -/
  | darnReq (n : Nat) (m : LinkMsg)
  /-- DARN_START: The leader starts darning a lane and its transmitter copies the lane onto LNS. (R270) -/
  | darnStart (n : Nat) (m : LinkMsg)
  /-- DARN_ACK: The follower reports that its copy of the lane onto LNS has begun. (R270) -/
  | darnAck (n : Nat) (m : LinkMsg)
  /-- DARN_DONE: An end reports that its receiver has switched the lane to LNS. (R270) -/
  | darnDone (n : Nat) (m : LinkMsg)
  /-- UNDARN_START: The leader starts returning a lane from LNS. (R271) -/
  | undarnStart (n : Nat) (m : LinkMsg)
  /-- UNDARN_ACK: The follower reports that it sends the lane on both the lane and LNS. (R271) -/
  | undarnAck (n : Nat) (m : LinkMsg)
  /-- UNDARN_DONE: An end reports that its receiver has switched back from LNS. (R271) -/
  | undarnDone (n : Nat) (m : LinkMsg)
  /-- HALF_START: The leader starts a half-width fast retrain to the chosen half. (R274) -/
  | halfStart (n : Nat) (m : LinkMsg)
  /-- HALF_ACK: The follower agrees to the half-width retrain. (R274) -/
  | halfAck (n : Nat) (m : LinkMsg)
  /-- RTT_PROBE: An end sends a nonce to measure the round trip, and the peer answers with RTT_ECHO. (R261) -/
  | rttProbe (n : Nat) (m : LinkMsg)
  /-- RTT_ECHO: The echoed nonce completes a round-trip measurement. (R261) -/
  | rttEcho (n : Nat) (m : LinkMsg) (ns : Nat)
  /-- LANE_FAIL: The receiver declares a lane failed on loss of lock, missing markers or excess corrected symbols. (R269) -/
  | laneFail (n lane : Nat)
  /-- DARN_SWITCH: After 256 matching or cleanly decoded frames, the receiver switches the lane to LNS at a frame boundary. (R270) -/
  | darnSwitch (n : Nat)
  /-- UNDARN_TIMEOUT: Without 256 matching frames within 64 µs, the lane is declared failed and stays darned. (R271) -/
  | undarnTimeout (n : Nat)
  /-- CAL_CYCLE_START: Every INTERVAL_MS the leader begins calibrating the lanes of a port in turn. (R272) -/
  | calCycleStart (n : Nat)
  /-- CAL_DWELL_DONE: When the retune dwell of a darned lane ends, the lane is un-darned and calibration moves to the next lane. (R272) -/
  | calDwellDone (n : Nat)
  /-- DETECT_DWELL_EXPIRE: When a DETECT dwell passes unheard, the port exchanges the roles of the pairs on every lane. (R264) -/
  | detectDwellExpire (n : Nat)
  /-- DETECT_PATTERN_HEARD: A port in DETECT hears the detect pattern and moves to LOCK. (R262) -/
  | detectPatternHeard (n : Nat)
  /-- LANES_LOCKED: The working lanes lock at a common rate, with lane map and polarity set, and the port moves to IDENTIFY or DOWN. (R265) -/
  | lanesLocked (n rates : Nat) (lanes : List (Option LaneLock))
  /-- IDENTITY_BLOCK_RECEIVE: The peer's identity block is received and decides the leader. (R266) -/
  | identityBlockReceive (n key port rates : Nat) (halfOk : Bool) (nonce pub : Nat := 0)
  /-- PORT_STATEMENT_RECEIVE: The peer's signed statement is verified, port keys are derived, and the port moves to ALIGN, HELD or DOWN. (R472) -/
  | portStatementReceive (n : Nat) (chainOk : Bool) (key : Nat) (sigOk peerHeld : Bool)
  /-- PORT_ALIGN_DONE: Frame lock, deskew and RTT measurement complete and the port enters UP. (R262) -/
  | portAlignDone (n rtt : Nat)
  /-- TRAIN_TIMEOUT: Training not UP within 50 ms takes the port DOWN with E_LINK_TRAIN_FAIL. (R263) -/
  | trainTimeout (n : Nat)
  /-- LOSS_OF_SIGNAL: Every lane losing signal for 1 µs returns a training port to DETECT, or loses a port that is up. (R262) -/
  | lossOfSignal (n : Nat)
  /-- DOWN_TIMER_EXPIRE: A DOWN port returns to DETECT after 1 s. (R262) -/
  | downTimerExpire (n : Nat)
  /-- LINK_ENABLE: Setting LINK_CTRL.ENABLE takes a DISABLED port to DETECT. (R262) -/
  | linkEnable (n : Nat)
  /-- LINK_DISABLE: Clearing LINK_CTRL.ENABLE takes the port to DISABLED from any state. (R262) -/
  | linkDisable (n : Nat)
  /-- LINK_RETRAIN: LINK_CTRL.RETRAIN starts a fast retrain. (R275) -/
  | linkRetrain (n : Nat)
  /-- LINK_FULL_TRAIN: LINK_CTRL.FULL_TRAIN restarts the port at DETECT, losing it when it is up. (R276) -/
  | linkFullTrain (n : Nat)
  /-- LINK_ACCEPT_PEER: ACCEPT_PEER moves a HELD port on to ALIGN with the peer found. (R267) -/
  | linkAcceptPeer (n : Nat)
  /-- INGRESS_DELIVER: A packet leaves the ingress buffer: it is checked and unsealed for delivery, forwarded in transit, or dropped as foreign. (R298) -/
  | ingressDeliver (n vc : Nat)
  /-- TRANSIT_FORWARD_START: A transit packet starts on its egress port once that port is free and its head or last slot is in. (R299) -/
  | transitForwardStart (n m : Nat)
  /-- EGRESS_PACKET_SEND: The origin link die sets EPOCH and LVC, seals the packet and sends it, or discards it when the port is not up. (R297) -/
  | egressPacketSend (k : Pkt)
  /-- SLOT_CTRL_ACTIVATE: ACTIVATE checks a job slot and makes it ACTIVE, or records the code of the failing check. (R290) -/
  | slotCtrlActivate (j : Nat)
  /-- SLOT_CTRL_DRAIN: DRAIN stops off-device injection of the tag and moves the slot to DRAINING. (R289) -/
  | slotCtrlDrain (j : Nat)
  /-- SLOT_CTRL_CLOSE: CLOSE zeroes a DRAINED slot's tables and releases its tag. (R289) -/
  | slotCtrlClose (j : Nat)
  /-- SLOT_CTRL_SWITCH_ARM: SWITCH_ARM arms an epoch switch at time T, or records E_ROUTE_SWITCH_LATE or E_ROUTE_STATE. (R303) -/
  | slotCtrlSwitchArm (j : Nat)
  /-- SLOT_CTRL_SWITCH_ABORT: SWITCH_ABORT before T cancels the pending switch. (R305) -/
  | slotCtrlSwitchAbort (j : Nat)
  /-- SLOT_DRAINED: When no packet of the tag remains on the device, a DRAINING slot becomes DRAINED. (R289) -/
  | slotDrained (j : Nat)
  /-- EPOCH_SWITCH_START: At time T off-device injection of the job waits and both epochs are in use. (R303) -/
  | epochSwitchStart (j : Nat)
  /-- EPOCH_SWITCH_COMPLETE: At T + G injection resumes in the new epoch and SWITCH_DONE is set. (R303) -/
  | epochSwitchComplete (j : Nat)
  /-- ROUTE_TBL_HOLD_WRITE: A write of ROUTE_TBL_RANKS or ROUTE_TBL_PORTS is held until ROUTE_TBL_ATTR commits. (R307) -/
  | routeTblHoldWrite (party : Party) (ports : Bool) (v : Nat)
  /-- ROUTE_TBL_COMMIT: A write of ROUTE_TBL_ATTR commits the entry at ROUTE_TBL_INDEX unless the epoch rules refuse it. (R302) -/
  | routeTblCommit (party : Party) (v : Nat)
  /-- ROUTE_TBL_INDEX_WRITE: A write of ROUTE_TBL_INDEX selects the entry and discards held values. (R307) -/
  | routeTblIndexWrite (party : Party) (v : Nat)
  /-- SLOT_CONFIG_WRITE: Writes of SLOT_CFG, SLOT_RANK and SLOT_PORTS are accepted only in the states and epochs that allow them. (R302) -/
  | slotConfigWrite (party : Party) (j which v : Nat)
  /-- TIME_SYNC_WORD: Every 256 ns KD's sync word checks each link-die counter copy and reloads one that disagrees. (R313) -/
  | timeSyncWord (d : Nat) (diff : Int)
  /-- REF_LOST: Loss of the selected reference puts the main PLL in holdover and moves it to the next good candidate. (R315) -/
  | refLost (c : Nat)
  /-- REF_REQUALIFIED: With AUTO set, the PLL moves to a better candidate that has stayed good for the requalification time. (R314) -/
  | refRequalified (c : Nat) (full : Bool := true)
  /-- AO_REFCLK_LOST: The AO oscillator loses REFCLK and runs free. (R316) -/
  | aoRefclkLost
  /-- AO_RELOCK: The AO oscillator relocks once REFCLK has stayed good for 100 ms. (R316) -/
  | aoRelock
  /-- PLL_UNLOCK: The main PLL losing lock records E_TIME_PLL_UNLOCK, faults every active partition and asserts FAULT_N. (R317) -/
  | pllUnlock
  /-- DIE_WAKE: A gated compute die starts its 8 µs wake on a grant, a load or a BAR0 access. (R318) -/
  | dieWake (nn : Nat)
  /-- DIE_WAKE_COMPLETE: A waking compute die releases its sleeve and sets AWAKE. (R318) -/
  | dieWakeComplete (nn : Nat)
  /-- CLOCK_STEP_REQUEST: A new arithmetic clock step is requested for a die by the grade, clock cap or thermal step. (R320) -/
  | clockStepRequest (nn : Nat)
  /-- CLOCK_STEP_SWITCH: Once the idle PLL has relocked, the die pauses issue for 16 ns and switches PLLs. (R319) -/
  | clockStepSwitch (nn : Nat)
  /-- TIME_RATE_WRITE: A write of TIME_RATE_HI changes RATE while keeping F continuous, or is refused. (R324) -/
  | timeRateWrite (party : Party) (hi : Nat)
  /-- TIME_STEP_WRITE: A write of TIME_STEP_HI requests a step of OFF, subject to the jump limit. (R325) -/
  | timeStepWrite (party : Party) (hi : Nat)
  /-- TIME_S_OFFSET_HOLD_WRITE: A write of TIME_S_OFFSET_LO or _HI is held and changes nothing. (R343) -/
  | timeSOffsetHoldWrite (party : Party) (hi : Bool) (v : Nat)
  /-- TIME_S_OFFSET_COMMIT: A write of TIME_S_OFFSET_EXT commits all three parts of S_OFFSET together, or is refused. (R343) -/
  | timeSOffsetCommit (party : Party) (ext : Nat)
  /-- TIME_WRAP: When F wraps, 2^58 ns is added to S_OFFSET in the same cycle. (R326) -/
  | timeWrap
  /-- TIME_PERIOD_ELAPSE: Each TIME_PERIOD a port sends a MARK and its TX_STAMP, and every 16 periods ANNOUNCE, TOD_A and TOD_B. (R330) -/
  | timePeriodElapse (n ph : Nat)
  /-- TIME_MARK: A received MARK is stamped at the receiver, which sends its RX_STAMP. (R329) -/
  | timeMark (n id ph : Nat)
  /-- TX_STAMP: A received TX_STAMP supplies t1 of an exchange. (R331) -/
  | txStamp (n : Nat) (m : TimeMsg)
  /-- RX_STAMP: A received RX_STAMP completes an exchange, and θ and d are computed when it is valid. (R331) -/
  | rxStamp (n : Nat) (m : TimeMsg)
  /-- ANNOUNCE: A received ANNOUNCE updates the port's domain, hops, synced and grandmaster state. (R336) -/
  | announce (n : Nat) (m : TimeMsg)
  /-- TOD_A: A received TOD_A supplies the seconds of the parent's S_OFFSET. (R332) -/
  | todA (n : Nat) (m : TimeMsg)
  /-- TOD_B: A received TOD_B supplies the nanoseconds and fraction, and a full version is adopted. (R332) -/
  | todB (n : Nat) (m : TimeMsg)
  /-- ASYM: A received ASYM gives the peer's measured skew, and TPORT_ASYM is updated. (R333) -/
  | asym (n : Nat) (m : TimeMsg)
  /-- ASYM_MEASURE: At the end of a calibration pass the spare pair's skew is measured in both directions. (R333) -/
  | asymMeasure (n cycle : Nat) (skew : Int)
  /-- TIME_ROLE_OFF: Setting ROLE to OFF stops the servo and announces SYNCED = 0. (R337) -/
  | timeRoleOff
  /-- TIME_ROLE_GRANDMASTER: Setting ROLE to GRANDMASTER announces HOPS = 0 and SYNCED = 1, and sets SET. (R337) -/
  | timeRoleGrandmaster
  /-- TIME_ROLE_FOLLOWER: Setting ROLE to FOLLOWER chooses a parent and enters ACQUIRE. (R337) -/
  | timeRoleFollower
  /-- TIME_ACCEPT_STEP: ACCEPT_STEP arms a one-shot exemption from the jump limit and clears REFUSED marks. (R341) -/
  | timeAcceptStep
  /-- NO_PARENT_TIMEOUT: A follower with SET = 0 that finds no usable candidate for 1 s records E_TIME_NO_PARENT. (R337) -/
  | noParentTimeout
  /-- PARENT_LOST: With the parent unusable or no valid exchange for 16 periods, the follower moves to another candidate or to HOLDOVER. (R337) -/
  | parentLost
  /-- PARENT_PRIORITY_SWITCH: A higher-priority candidate usable for 1 s without a break becomes the parent. (R337) -/
  | parentPrioritySwitch
  /-- PPS_IN_EDGE: An accepted PPS_IN edge latches F into TIME_PPS and disciplines a grandmaster. (R339) -/
  | ppsInEdge
  /-- PPS_MISSING_TIMEOUT: With PPS_IN_EN set and no edge for 1.5 s, the grandmaster enters GM_HOLDOVER. (R337) -/
  | ppsMissingTimeout
  /-- PPS_OUT_RISE: PPS_OUT rises in the TIME cycle in which S reaches a whole second. (R339) -/
  | ppsOutRise
  /-- PPS_OUT_FALL: PPS_OUT falls after WIDTH_US. (R339) -/
  | ppsOutFall
  /-- HBM_WRITE_ARRIVE: An HBM controller checks, encrypts and queues a write packet, and acknowledges it. (R356) -/
  | hbmWriteArrive (k : Pkt)
  /-- HBM_READ_ARRIVE: An HBM controller reads, corrects and decrypts a word and returns it, or answers ERROR_RESP. (R356) -/
  | hbmReadArrive (k : Pkt) (odecc : Nat)
  /-- HDM_REQUEST: A host CXL.mem request is served or refused by the slice's mode and tenant binding. (R359) -/
  | hdmRequest (r : HdmReq)
  /-- BACK_INVALIDATE_RESPONSE: The host answers a back-invalidate snoop and the waiting device-side access proceeds. (R360) -/
  | backInvalidateResponse (n b : Nat) (data : List Byte) (bad : List Nat := [])
  /-- REFRESH_WINDOW: A pseudo-channel opens its 240 ns refresh window at its staggered instant of F. (R361) -/
  | refreshWindow (n pc : Nat)
  /-- HBM_TEMP_CROSS: A stack at 85 °C doubles its refresh rate, and one below 82 °C returns to normal. (R363) -/
  | hbmTempCross (n c : Nat)
  /-- RINSE_WINDOW_START: A stack closes to access for its 2 µs rinse window at its instant of F. (R364) -/
  | rinseWindowStart (n : Nat)
  /-- RINSE_WINDOW_END: Adjustments that pass their check apply; after 8 failures of one pseudo-channel the stack becomes FAILED. (R365) -/
  | rinseWindowEnd (n : Nat) (checks : List (Nat × Bool))
  /-- HBM_SCRUB_READ: A controller half scrubs a word when its pseudo-channel is idle and outside refresh and rinse windows. (R367) -/
  | hbmScrubRead (n w found : Nat) (odecc : Nat := 0)
  /-- HBM_SCRUB_WRITEBACK: A corrected word is written back in the next idle cycle of the pseudo-channel. (R367) -/
  | hbmScrubWriteback (n w : Nat)
  /-- HBM_KEY_SWITCH: A requested key-pair change takes effect once no queue holds a request for the partition's slices. (R357) -/
  | hbmKeySwitch (p : Nat)
  /-- HDM_MODE_WRITE: A write of HDM_MODE changes a slice's mode; OPEN to CLOSED completes after every cached line is back-invalidated. (R360) -/
  | hdmModeWrite (party : Party) (sl : Nat) (open_ : Bool)
  /-- PLINTH_UPKEEP_WINDOW: A Plinth die enters its 1 µs upkeep window, serving no plan read. (R375) -/
  | plinthUpkeepWindow (k : Nat)
  /-- PLINTH_NONCE_READ: A read of PLINTH_NONCE0 draws and latches a fresh 128-bit nonce. (R382) -/
  | plinthNonceRead (party : Party)
  /-- PLINTH_INSTALL: INSTALL reads the install package and runs the installation checks before the object enters WRITING. (R383) -/
  | plinthInstall (p : PlinthPackage) (withDelete : Bool)
  /-- PLINTH_LAYER_WRITTEN: A layer finished writing is checked against its digest, and after the last layer the object becomes READY. (R383) -/
  | plinthLayerWritten (data : List Byte)
  /-- PLINTH_DELETE: DELETE checks the token and object and moves the object to ERASING. (R384) -/
  | plinthDelete (t : PlinthToken)
  /-- PLINTH_ERASE_DONE: An object's groups have been filled with zero, and it becomes FREE. (R384) -/
  | plinthEraseDone (n : Nat)
  /-- PLINTH_AUDIT_LAYER: An audit recomputes a layer digest and marks the object CORRUPT on a mismatch. (R386) -/
  | plinthAuditLayer (n layer : Nat) (ok : Bool)
  /-- BIND_COMMIT: A write of BIND_W3 commits a binding entry unless a check refuses it. (R388) -/
  | bindCommit (party : Party) (w3 : Nat)
  /-- REPL_CTRL_ARM: ARM fetches the replacement descriptor over CXL.io. (R392) -/
  | replCtrlArm (party : Party) (p : Nat)
  /-- REPL_DESC_FETCHED: With the descriptor fetched, the replacement checks run and the replacement becomes ARMED. (R392) -/
  | replDescFetched (p : Nat) (desc : List (Nat × Bool × Nat))
  /-- REPL_STEP_BEGIN: At a step boundary the next grant is withheld, a HOLD is sent, and copying of the step's layers begins. (R393) -/
  | replStepBegin (p : Nat)
  /-- REPL_LAYER_COPIED: A layer finishes copying and REPL_DONE_LAYER advances; after the step's last layer, RELEASE is sent and the grant made. (R393) -/
  | replLayerCopied (p : Nat) (fixed : List Nat) (bad : Option (Nat × Nat))
  /-- REPL_CTRL_ABORT: ABORT stops the replacement, finishing any layer being copied. (R396) -/
  | replCtrlAbort (party : Party) (p : Nat)
  /-- REPL_CTRL_FINISH: FINISH copies the remaining layers without holds, or records E_PLINTH_REPL_STATE. (R396) -/
  | replCtrlFinish (party : Party) (p : Nat)
  /-- REQ_DESCRIPTOR_FETCH: The serving unit fetches a request descriptor into the store of undecided requests. (R444) -/
  | reqDescriptorFetch (q : Nat) (data : List Byte)
  /-- SRV_ADMIT_THROUGH_WRITE: A write of SRV_ADMIT_THROUGH raises the admitted tick, or is ignored when lower. (R403) -/
  | srvAdmitThroughWrite (party : Party) (p hi : Nat)
  /-- SRV_CFG_WRITE: A write of SRV_CFG is accepted under the state rules, and ARRIVAL is refused when exchange ports are set. (R404) -/
  | srvCfgWrite (party : Party) (p v : Nat)
  /-- SRV_KV_WRITE: Writes of SRV_KV_* and SRV_VOCAB are accepted under the state and HBM-space rules. (R421) -/
  | srvKvWrite (party : Party) (p off v : Nat)
  /-- SLOT_BUILD: The build of tick v applies placements, admits requests and fills the decode and prefill slots. (R410) -/
  | slotBuild (p : Nat)
  /-- BLOCK_TABLE_ACK: The HBM controllers acknowledge a sequence's block table, or answer ERROR_RESP with E_SRV_KV_TABLE. (R408) -/
  | blockTableAck (p seq : Nat) (ok : Bool)
  /-- SLOT_BANK_PUBLISH: The bank for tick v is written through the slot map and published. (R104) -/
  | slotBankPublish (p : Nat)
  /-- SAMPLE_ROW_RECEIVE: The sampling unit takes a complete SAMPLE row, samples its token, writes it to the result handle and gives the counter. (R414) -/
  | sampleRowReceive (k : Pkt) (tied : Bool := false)
  /-- MISSED_SAMPLE_DETECT: A required sample that has not arrived once its window of ticks has passed records E_SRV_MISSED_SAMPLE. (R409) -/
  | missedSampleDetect (p : Nat)
  /-- RESULT_RECORD_WRITE: The serving unit writes the next record to the result ring once the ring has room. (R445) -/
  | resultRecordWrite (p : Nat)
  /-- HOST_LINK_TRAIN: The host link trains in the first mode the host, the strap and the lanes allow. (R423) -/
  | hostLinkTrain (offers : List (Nat × Nat × Nat))
  /-- HOT_RESET: Hot reset, link disable or DL_Down resets the host die's queues and configuration, and leaves partitions running. (R429) -/
  | hotReset (down : Bool)
  /-- CONFIG_REQUEST: A configuration request is answered with retry status until the boot base has committed, and normally after that. (R430) -/
  | configRequest (write : Bool) (off v : Nat)
  /-- BAR_ACCESS_ERROR: A BAR access of an unsupported size, alignment or byte-enable is not carried out and records E_HOST_ACCESS. (R434) -/
  | barAccessError (read : Bool)
  /-- DOORBELL_WRITE: A doorbell write carries a new PI or CI, accepted only within the ring's bounds. (R437) -/
  | doorbellWrite (q idx : Nat)
  /-- SHADOW_WRITE: The device writes its changed queue index to Q_SHADOW, coalesced to at most one write per microsecond. (R438) -/
  | shadowWrite (q : Nat)
  /-- QUEUE_ENABLE: ENABLE = 1 starts a DISABLED queue with zeroed indices, or resumes a STOPPING queue. (R439) -/
  | queueEnable (party : Party) (q v : Nat)
  /-- QUEUE_DISABLE: ENABLE = 0 moves a queue to STOPPING. (R439) -/
  | queueDisable (party : Party) (q : Nat)
  /-- Q_CFG_WRITE: Other Q_CFG writes are accepted only while the queue is DISABLED. (R439) -/
  | qCfgWrite (party : Party) (q v : Nat)
  /-- QUEUE_FETCH_DONE: A queue fetch completes, and a STOPPING queue becomes DISABLED; an error completion puts the queue in ERROR. (R440) -/
  | queueFetchDone (q : Nat) (ok : Bool) (entry : List Byte)
  /-- NOP: NOP completes at once. (R441) -/
  | nop (q : Nat)
  /-- LOAD_FULL: LOAD_FULL checks and writes a plan image into the partition and leaves it LOADED. (R442) -/
  | loadFull (q : Nat) (img : PlanImage)
  /-- LOAD_RESIDENT: LOAD_RESIDENT returns the partition to LOADED from its resident image, keeping patched values. (R442) -/
  | loadResident (q : Nat)
  /-- COPY_IN: COPY_IN copies host memory to the partition's HBM after the size, range and tenant checks. (R443) -/
  | copyIn (q : Nat) (data : List Byte)
  /-- COPY_OUT: COPY_OUT copies the partition's HBM to host memory after the size, range and tenant checks. (R443) -/
  | copyOut (q : Nat)
  /-- RES_IRQ_TIMER: A RES ring raises its vector once DELAY_US has passed since the oldest unsignalled record. (R447) -/
  | resIrqTimer (q : Nat)
  /-- DOE_REQUEST: A DOE object is passed to Thimble and answered, or refused when too long or written before the previous response was read. (R448) -/
  | doeRequest (inst kind len : Nat) (read : Bool) (key : Option Nat)
  /-- IDE_FAILURE: An IDE stream that fails an integrity check enters the insecure state and its bound queues enter ERROR. (R449) -/
  | ideFailure (stream : Nat)
  /-- HDM_DECODER_COMMIT: A commit of the HDM decoder succeeds only with one-way interleave and the Range 1 size. (R428) -/
  | hdmDecoderCommit (ways size : Nat)
  /-- GET_TIMESTAMP: The CXL mailbox Get Timestamp returns the time of day S. (R428) -/
  | getTimestamp
  /-- SET_TIMESTAMP: The CXL mailbox Set Timestamp is refused. (R428) -/
  | setTimestamp
  /-- OBSERVE: An operator OBSERVE token grants aggregate observation and tenant-less plaster snapshots. (R462) -/
  | observe (ch : Chan) (t : SecToken)
  /-- TENANT_DEBUG: A TENANT_DEBUG token unlocks breakpoints, trace, gated fields, side reads and dumps of the partitions named. (R462) -/
  | tenantDebug (ch : Chan) (t : SecToken)
  /-- VENDOR_FA: A VENDOR_FA token ends bindings, clears partitions, redraws HBM keys and enters failure analysis. (R464) -/
  | vendorFa (ch : Chan) (t : SecToken)
  /-- REPLACE_OPERATOR: REPLACE_OPERATOR replaces the operator key and zeroes ARM_MIN_SVN_OP. (R454) -/
  | replaceOperator (ch : Chan) (t : SecToken)
  /-- ENROL_PUBLISHER: ENROL_PUBLISHER adds a publisher key, or records E_SEC_FULL. (R455) -/
  | enrolPublisher (ch : Chan) (t : SecToken)
  /-- REMOVE_PUBLISHER: REMOVE_PUBLISHER removes a publisher key. (R455) -/
  | removePublisher (ch : Chan) (t : SecToken)
  /-- SET_POLICY: SET_POLICY sets IDE_REQUIRED and OPEN_ALLOWED, and may blow the failure-analysis fuse. (R459) -/
  | setPolicy (ch : Chan) (t : SecToken)
  /-- RAISE_ARM_SVN: RAISE_ARM_SVN raises a minimum Armature security version. (R64) -/
  | raiseArmSvn (ch : Chan) (t : SecToken)
  /-- OPERATOR_RESET: OPERATOR_RESET ends every binding and removes the operator key and every publisher. (R454) -/
  | operatorReset (ch : Chan) (t : SecToken)
  /-- ENROL_OPERATOR: ENROL_OPERATOR enrols an operator key over the management port when none is enrolled. (R454) -/
  | enrolOperator (ch : Chan) (key : List Byte)
  /-- GRANT_EXPIRE: A debug grant whose DURATION_S has elapsed on F ends. (R463) -/
  | grantExpire (which : Option Nat)
  /-- END_GRANT: END_GRANT ends a debug grant of the level named. (R463) -/
  | endGrant (ch : Chan) (p : Nat)
  /-- SEC_NONCE_READ: A read of SEC_NONCE0 draws a fresh mailbox nonce. (R461) -/
  | secNonceRead (party : Party)
  /-- GET_NONCE: GET_NONCE draws a fresh nonce for the management port or an SPDM session. (R461) -/
  | getNonce (ch : Chan)
  /-- SUBMIT_TOKEN: SUBMIT_TOKEN checks a secrecy or Plinth token and carries out its action when it passes. (R460) -/
  | submitToken (ch : Chan) (t : AnyToken) (fetched : Bool)
  /-- GRANT_SESSION: GRANT_SESSION allows one SPDM session to bind a partition. (R465) -/
  | grantSession (ch : Chan) (p session : Nat)
  /-- EVICT: EVICT ends a partition's binding through the ending sequence. (R467) -/
  | evict (ch : Chan) (p : Nat)
  /-- BIND_PARTITION: BIND_PARTITION binds a granted, IDLE partition to the session's tenant, clearing it when required. (R466) -/
  | bindPartition (id p : Nat)
  /-- UNBIND: UNBIND ends the binding: partition to IDLE, keys to NONE, queues unbound, clear and a new HBM key pair. (R467) -/
  | unbind (id p : Nat)
  /-- SET_HBM_KEY: SET_HBM_KEY replaces the partition's AES-256-XTS key pair while it is IDLE. (R468) -/
  | setHbmKey (id p k1 k2 : Nat)
  /-- SET_JOB_KEY: SET_JOB_KEY installs a link key generation in every link die and raises KFLOOR. (R469) -/
  | setJobKey (ch : Chan) (p gen : Nat) (sealedMode : Bool) (kseq : Nat) (secret : List Byte) (fetched : Bool)
  /-- SWITCH_KGEN: SWITCH_KGEN arms a switch of the sending generation at time T. (R470) -/
  | switchKgen (ch : Chan) (p gen t : Nat) (fetched : Bool)
  /-- KGEN_SWITCH_TIME: When F reaches T, every link die seals the partition's new packets with the new generation. (R470) -/
  | kgenSwitchTime (p : Nat)
  /-- CLEAR_KGEN: CLEAR_KGEN sets a link key generation to NONE. (R470) -/
  | clearKgen (ch : Chan) (p gen : Nat) (fetched : Bool)
  /-- BIND_CKID: BIND_CKID binds a TSP CKID to the tenant's partition. (R450) -/
  | bindCkid (id p ckid : Nat)
  /-- BIND_QUEUES: BIND_QUEUES binds the partition's CMD, REQ and RES queues and observation ring to the tenant. (R450) -/
  | bindQueues (id p stream : Nat)
  /-- GET_KFLOOR: GET_KFLOOR returns the device's KFLOOR. (R469) -/
  | getKfloor (id : Nat)
  /-- GET_VERSION: The SPDM responder reports version 1.3. (R473) -/
  | getVersion (ch : Chan)
  /-- GET_CAPABILITIES: The SPDM responder reports its capabilities. (R473) -/
  | getCapabilities (ch : Chan)
  /-- NEGOTIATE_ALGORITHMS: The SPDM responder settles on the algorithms of Table 15.9. (R473) -/
  | negotiateAlgorithms (ch : Chan)
  /-- GET_DIGESTS: The responder returns the digests of certificate slot 0. (R473) -/
  | getDigests (ch : Chan) (slot : Nat)
  /-- GET_CERTIFICATE: The responder returns the certificate chain of slot 0. (R473) -/
  | getCertificate (ch : Chan) (slot : Nat)
  /-- CHALLENGE: The responder answers a challenge signed with the alias key. (R473) -/
  | challenge (ch : Chan)
  /-- GET_MEASUREMENTS: The responder returns the measurement blocks that the requester may see. (R474) -/
  | getMeasurements (ch : Chan) (idx : Option Nat)
  /-- KEY_EXCHANGE: KEY_EXCHANGE starts a secured session, refused with Busy beyond 32 sessions. (R473) -/
  | keyExchange (ch : Chan) (id : Nat)
  /-- FINISH: FINISH completes a mutually authenticated secured session. (R473) -/
  | finishMsg (id tenant : Nat)
  /-- HEARTBEAT: HEARTBEAT keeps a session alive. (R473) -/
  | heartbeat (id : Nat)
  /-- KEY_UPDATE: KEY_UPDATE updates a session's keys. (R473) -/
  | keyUpdate (id : Nat)
  /-- END_SESSION: END_SESSION ends a secured session, with the grants that depend on it. (R473) -/
  | endSession (id : Nat)
  /-- CHUNK_SEND: CHUNK_SEND carries one chunk of a large SPDM request. (R473) -/
  | chunkSend (ch : Chan)
  /-- CHUNK_GET: CHUNK_GET returns one chunk of a large SPDM response. (R473) -/
  | chunkGet (ch : Chan)
  /-- SPDM_UNSUPPORTED_REQUEST: An unsupported SPDM request receives ERROR with UnsupportedRequest. (R473) -/
  | spdmUnsupportedRequest (ch : Chan)
  /-- MBX_CTRL_GO: GO submits the mailbox command in MBX_CMD, or records E_SEC_TOKEN_FORMAT for an unassigned OP. (R480) -/
  | mbxCtrlGo (party : Party)
  /-- I3C_DYNAMIC_ADDRESS: ENTDAA or SETDASA assigns a dynamic address and puts the bus in I3C mode. (R483) -/
  | i3cDynamicAddress (b addr : Nat)
  /-- I3C_RSTDAA: RSTDAA returns the bus to SMBus mode. (R483) -/
  | i3cRstdaa (b : Nat)
  /-- BUS_STUCK_LOW: A bus line held low for the stuck-low time is recovered with clock pulses and a STOP. (R485) -/
  | busStuckLow (b : Nat)
  /-- BUS_ISOLATE: A line still low 1 ms after the STOP isolates the bus with E_MGMT_BUS_STUCK. (R485) -/
  | busIsolate (b : Nat)
  /-- BUS_RETURN: An isolated bus returns to service in SMBus mode after 100 ms with both lines high. (R485) -/
  | busReturn (b : Nat)
  /-- SET_ENDPOINT_ID: The bus owner assigns Thimble's MCTP endpoint ID. (R483) -/
  | setEndpointId (b eid : Nat)
  /-- GET_ENDPOINT_ID: Thimble returns its MCTP endpoint ID. (R486) -/
  | getEndpointId (b : Nat)
  /-- GET_MCTP_VERSION_SUPPORT: Thimble returns the MCTP versions it supports. (R486) -/
  | getMctpVersionSupport (b : Nat)
  /-- GET_MESSAGE_TYPE_SUPPORT: Thimble returns the MCTP message types it supports. (R486) -/
  | getMessageTypeSupport (b : Nat)
  /-- GET_VENDOR_DEFINED_MSG_SUPPORT: Thimble returns its vendor-defined message support. (R486) -/
  | getVendorDefinedMsgSupport (b : Nat)
  /-- MCTP_UNSUPPORTED_TYPE: A message of an unsupported MCTP type is dropped and counted in MGMT_BAD_MSG. (R486) -/
  | mctpUnsupportedType (b : Nat)
  /-- GETTID: PLDM GetTID returns the terminus ID. (R486) -/
  | gettid (b : Nat)
  /-- GETPLDMVERSION: PLDM GetPLDMVersion returns the supported versions. (R486) -/
  | getpldmversion (b : Nat)
  /-- GETPLDMTYPES: PLDM GetPLDMTypes returns the supported types. (R486) -/
  | getpldmtypes (b : Nat)
  /-- GETPLDMCOMMANDS: PLDM GetPLDMCommands returns the supported commands. (R486) -/
  | getpldmcommands (b type : Nat)
  /-- GETPDR: GetPDR returns the Platform Descriptor Records of the sensors. (R489) -/
  | getpdr (b : Nat)
  /-- FRU_DATA_READ: A PLDM Type 4 request returns FRU data. (R486) -/
  | fruDataRead (b : Nat)
  /-- POLL_FOR_PLATFORM_EVENT_MESSAGE: PollForPlatformEventMessage returns queued events, oldest first. (R490) -/
  | pollForPlatformEventMessage (b : Nat)
  /-- READ_REG: READ_REG proxies a 4-byte aligned BAR0 read for the management agent. (R488) -/
  | readReg (b off : Nat)
  /-- WRITE_REG: WRITE_REG proxies a 4-byte aligned BAR0 write as a management-agent access. (R488) -/
  | writeReg (b off v : Nat)
  /-- TAKE_PLAN: TAKE_PLAN gives the PLAN domain to the management agent when the host link has been down for 1 s. (R494) -/
  | takePlan (b : Nat)
  /-- SET_POWER_STATE: SET_POWER_STATE starts a move between AO, IDLE and RUN, or refuses it with E_PWR_STATE_BUSY. (R512) -/
  | setPowerState (b : Nat) (st : Fin 3)
  /-- POWER_STATE_MOVE_DONE: A power-state move completes, and a newer pending request is carried out. (R512) -/
  | powerStateMoveDone
  /-- POWER_CYCLE: POWER_CYCLE replies, then removes every rail for the off time and restores them as a power-on reset. (R496) -/
  | powerCycle (b seconds : Nat)
  /-- CLEAR_FAULT: CLEAR_FAULT releases FAULT_N when no fault condition remains, or records E_MGMT_FAULT_PRESENT. (R491) -/
  | clearFault (b : Nat) (input : Bool)
  /-- GET_EVENTS: GET_EVENTS returns and clears up to 16 queued events. (R490) -/
  | getEvents (b : Nat)
  /-- SENSOR_REFRESH: Each millisecond the sensor readings are refreshed and thresholds checked, driving THERM_N and events. (R489) -/
  | sensorRefresh (mv ca watts : Nat)
  /-- CONTROL_OWNER_CLAIM: Host software reclaims the PLAN domain with CLAIM while the link is up. (R494) -/
  | controlOwnerClaim (party : Party)
  /-- POWER_CAP_WRITE: A write of POWER_CAP stores a value clamped to 1,500 W and to POWER_ENVELOPE. (R493) -/
  | powerCapWrite (party : Party) (v : Nat) (also : Option Nat)
  /-- POWER_ENVELOPE_WRITE: A management write of POWER_ENVELOPE clamps POWER_CAP down when it is lowered. (R493) -/
  | powerEnvelopeWrite (party : Party) (v : Nat)
  /-- CLOCK_CAP_WRITE: A management write of CLOCK_CAP sets the clock cap that limits every die's step. (R319) -/
  | clockCapWrite (party : Party) (v : Nat)
  /-- REQUEST_UPDATE: RequestUpdate begins a firmware update, or is refused while one runs. (R498) -/
  | requestUpdate (b : Nat)
  /-- FIRMWARE_DATA_RECEIVE: Pulled firmware data is checked at the header, written and hashed, and its digest compared at the end. (R498) -/
  | firmwareDataReceive (d : FwData)
  /-- FIRMWARE_TRANSFER_TIMEOUT: A transfer that stops for 120 s records E_MGMT_FW_DIGEST and marks the image invalid. (R498) -/
  | firmwareTransferTimeout
  /-- CANCEL_UPDATE: CancelUpdate ends the update, marking the image invalid once writing has begun. (R498) -/
  | cancelUpdate (b : Nat)
  /-- ACTIVATE_FIRMWARE: ActivateFirmware restarts Thimble through its ROM, or defers activation to the next power-on. (R499) -/
  | activateFirmware (b : Nat)
  /-- THIMBLE_RESTART_DONE: The ROM has measured the new image and derived a new alias key, and the firmware runs. (R499) -/
  | thimbleRestartDone
  /-- WATCHDOG_RESTART: Thimble restarts the input-stage watchdog. (R509) -/
  | watchdogRestart
  /-- WATCHDOG_EXPIRE: With no restart for 1 s, the input stage removes every rail for 1 s as a power-on reset. (R509) -/
  | watchdogExpire
  /-- INPUT_BROWNOUT: An input below 36 V for over 20 µs asserts power-on reset to every domain. (R504) -/
  | inputBrownout (lost : Bool)
  /-- POR_RELEASE: Power-on reset releases once the input has stayed above the turn-on threshold for 10 ms. (R504) -/
  | porRelease
  /-- INPUT_LOW: An input between 36 V and 38 V sets LOW and records E_PWR_INPUT_LOW. (R504) -/
  | inputLow (on : Bool)
  /-- INPUT_HIGH: An input above 55 V for 1 ms sets the high-input warning. (R503) -/
  | inputHigh (on : Bool)
  /-- OVERVOLTAGE_TRIP: An input above 60 V for over 1 ms opens the eFuse with E_PWR_OVERVOLTAGE. (R507) -/
  | overvoltageTrip
  /-- REVERSE_POLARITY: A reversed input is blocked and charges a latch that sets REVERSE at the next correct input. (R505) -/
  | reversePolarity
  /-- EFUSE_TRIP: An eFuse trip opens the main path, leaves the device in AO and asserts FAULT_N. (R506) -/
  | efuseTrip (aoPath : Bool)
  /-- AO_PATH_RETRY: The controller retries a shorted always-on path once per second. (R506) -/
  | aoPathRetry (clear : Bool)
  /-- SENSE_OPEN: Readings differing by over 2 V for 10 ms switch sensing to the input pins with E_PWR_SENSE_OPEN. (R508) -/
  | senseOpen
  /-- SENSE_RESTORE: Sensing returns to the sense pair once the readings have agreed within 0.5 V for 1 s. (R508) -/
  | senseRestore
  /-- RAIL_IN_REGULATION: A rail reaches regulation, and the next rail starts 100 µs later. (R510) -/
  | railInRegulation
  /-- RAIL_TIMEOUT: A rail not in regulation within 2 ms stops the sequence with E_PWR_RAIL_FAULT. (R510) -/
  | railTimeout
  /-- DIE_GATE_TIMER: A compute die is gated once its gate condition has held for its whole gate interval. (R513) -/
  | dieGateTimer (nn : Nat)
  /-- DOMAIN_DISABLE: A disable starts the isolation of a power domain, or is deferred or cancels a recorded enable. (R514) -/
  | domainDisable (k : Nat)
  /-- DOMAIN_ENABLE: An enable releases isolation, turns the rail back on, is recorded, or starts a full wake by domain state. (R514) -/
  | domainEnable (k : Nat)
  /-- ISOLATION_COMPLETE: Isolation completes and the rail is commanded off, or released when an enable arrived. (R514) -/
  | isolationComplete (k : Nat)
  /-- RAIL_FALLEN: The domain's rail falls below 90 % and the domain is DISCHARGING. (R514) -/
  | railFallen (k : Nat)
  /-- RAIL_OFF: The rail falls below 10 % and the domain is OFF or starts its recorded wake. (R514) -/
  | railOff (k : Nat)
  /-- DOMAIN_WAKE_COMPLETE: A domain's wake completes and it is ON, or proceeds to a pending disable. (R514) -/
  | domainWakeComplete (k : Nat)
  /-- TEMP_SAMPLE: Every 10 µs each die is measured and its thermal step and the thresholds applied. (R515) -/
  | tempSample (temps : List (Nat × Int))
  /-- PERST_ASSERT: An accepted assertion of PERST_N sleeves every block outside the always-on domain and drops their rails. (R517) -/
  | perstAssert
  /-- PERST_RELEASE: An accepted release of PERST_N reloads options and runs bring-up from step 5. (R518) -/
  | perstRelease
  /-- OPTION_LOAD: Option loading samples STRAP_SEL, reads and checks the option bytes, and applies the result. (R520) -/
  | optionLoad (code : Nat)
  /-- BRING_UP: The device comes up through the bring-up steps, from the rails to the boot base and FAULT_N release. (R528) -/
  | bringUp (k : Nat) (storeBad : Bool) (edges : List (Nat × Nat)) (untrained : List Nat)
  /-- SLEEVE_GO: GO closes the named block's ports and starts its sleeve reset, or records a refusal. (R526) -/
  | sleeveGo (party : Party) (b : Nat) (host : Option Nat)
  /-- SLEEVE_DRAIN_TIMEOUT: After 100 µs, transfers still outstanding are answered with ERROR_RESP or discarded. (R526) -/
  | sleeveDrainTimeout
  /-- SLEEVE_RESET_DONE: The block's reset and post-reset work finish, ports reopen and SLEEVE_STATUS reads DONE. (R526) -/
  | sleeveResetDone
  /-- STATUS_LINE_STUCK: A released status line read low for 1 ms sets its STUCK bit and queues an event. (R539) -/
  | statusLineStuck (line : Fin 3)
  /-- OBS_COUNTER_READ: A read of OBS_CNT_VALUE_LO fetches the selected counter from its station. (R547) -/
  | obsCounterRead (party : Party) (p : Nat)
  /-- AGG_PERIOD_LATCH: Each OBS_AGG_PERIOD the hub latches the aggregates over all partitions. (R548) -/
  | aggPeriodLatch
  /-- STARCH_CTRL_NOW: NOW takes a starch of every counter at once. (R549) -/
  | starchCtrlNow
  /-- STARCH_CTRL_ARM: ARM arms a starch at STARCH_TIME, or sets REFUSED. (R550) -/
  | starchCtrlArm
  /-- STARCH_TIME_REACHED: When F reaches STARCH_TIME, an armed starch is taken. (R549) -/
  | starchTimeReached
  /-- STARCH_CTRL_RELEASE: RELEASE drains a held starch or cancels an armed one. (R550) -/
  | starchCtrlRelease
  /-- STARCH_DRAIN_DONE: When every COUNTER record of the starch has been written or discarded, the state returns to LIVE. (R550) -/
  | starchDrainDone
  /-- OBS_RECORD_WRITE: The hub writes an observation record to the partition's ring once it may and the ring has room. (R552) -/
  | obsRecordWrite (p : Nat)
  /-- OBS_RING_CFG_WRITE: Writes of OBS_RING_BASE and OBS_RING_CFG are accepted while disabled, and enabling zeroes PI, CI and SEQ. (R553) -/
  | obsRingCfgWrite (party : Party) (p : Nat) (reg : RingReg) (v : Nat)
  /-- OBS_RING_CI_WRITE: A CI write moves the consumer count, or is ignored with CI_ERR when it moves backward or past PI. (R553) -/
  | obsRingCiWrite (party : Party) (p v : Nat)
  /-- PLASTER_DEMAND: OBS_PART_CTRL.PLASTER captures a demand snapshot of a partition that is not IDLE. (R555) -/
  | plasterDemand (party : Party) (p : Nat)
  /-- PLASTER_SEND: A held snapshot is sent to the ring once the ring is enabled and bound, or an OBSERVE grant holds. (R557) -/
  | plasterSend (p : Nat)
  /-- DUMP_CFG_WRITE: A dump-point register write is accepted only under tenant debug, and enabling checks the point. (R559) -/
  | dumpCfgWrite (party : Party) (p k : Nat) (reg : DumpReg) (v : Nat)
  /-- DUMP_TRIGGER: A dump point fires on its tag or tick and starts reading its range through port C. (R560) -/
  | dumpTrigger (p k tag : Nat)
  /-- DUMP_COMPLETE: A dump sends its last DUMP record and sets DONE, or stops with ABORTED. (R560) -/
  | dumpComplete (p k : Nat) (seen : List (Nat × List Byte × Bool))
  /-- TRACE_RECORD_SEND: A station sends a TRACE record when it holds 13 entries or 10 µs after its first entry. (R562) -/
  | traceRecordSend (g : Nat)
  /-- ND_CTRL_WRITE: A host write of ND_CTRL is accepted in IDLE, LOADED or STOPPED and otherwise sets CMD_REJECT. (R571) -/
  | ndCtrlWrite (party : Party) (p v : Nat)
  /-- RETRAIN_PATTERN_RECEIVE: A port that receives the retrain pattern from its peer joins a fast retrain, and two retrains started together become one, driven by the leader. (R275) -/
  | retrainPatternReceive (n : Nat)
  /-- HELD_IDLE_PATTERN_END: A port waiting in IDENTIFY behind a HELD peer continues, with a fresh training limit, when the peer's training idle pattern gives way to ALIGN or the peer returns to DETECT. (R263) -/
  | heldIdlePatternEnd (n : Nat) (detect : Bool)
  /-- PLINTH_READ_REQUEST: A Plinth die takes a read request, waits out its upkeep window if in one, and returns corrected data or answers ERROR_RESP for an uncorrectable word. (R377) -/
  | plinthReadRequest (k : Pkt)
  /-- COMMAND_COMPLETE: A command-queue command that took time completes: the device writes CODE, RESULT and PHASE into the entry, advances CI, and raises the vector when required. (R441) -/
  | commandComplete (q : Nat) (fetched : Bool)
  /-- HI_READ_ADVANCE: A read of the _HI or last register of an indexed entry with AUTO set advances the index by one, wrapping. (R186) -/
  | hiReadAdvance (party : Party) (bar2 : Bool) (off : Nat)
  /-- PERST_GLITCH: A PERST_N pulse that does not hold its new level for 1 µs is ignored and sets PIN_EVENTS.PERST_GLITCH. (R538) -/
  | perstGlitch
  /-- RAILS_RESTORE: When the off time of a POWER_CYCLE or of a watchdog expiry has run out, the input stage restores every rail, the always-on rails included. (R496) -/
  | railsRestore
  deriving DecidableEq, Repr

end Sys2Proof
end

