-- ==== Sys2Proof/Machine/Codes.lean ====
section
/-! DEFINITION. Machine/Codes.lean: the error codes of Table 20.5 (20 R574, 00 R12), each with its 16-bit value. -/
namespace Sys2Proof.Machine

def E_PLAN_DEADLOCK : Nat := 0x0101
def E_PLAN_HOLD_TIMEOUT : Nat := 0x0102
def E_PLAN_START_LATE : Nat := 0x0103
def E_PLAN_HEM_MISMATCH : Nat := 0x0104
def E_PLAN_REMOTE_FAULT : Nat := 0x0105
def E_PLAN_TOKEN_RANGE : Nat := 0x0106
def E_PLAN_PORT_DOWN : Nat := 0x0107
def E_ARM_SIZE : Nat := 0x0201
def E_ARM_FORMAT : Nat := 0x0202
def E_ARM_STEPPING : Nat := 0x0203
def E_ARM_SIGNER : Nat := 0x0204
def E_ARM_SIGNATURE : Nat := 0x0205
def E_ARM_DIGEST : Nat := 0x0206
def E_ARM_ROLLBACK : Nat := 0x0207
def E_ARM_BASE_MISMATCH : Nat := 0x0208
def E_ARM_LIMIT : Nat := 0x0209
def E_ARM_PART_BUSY : Nat := 0x020A
def E_ARM_SCOPE : Nat := 0x020B
def E_ARM_DRAIN_TIMEOUT : Nat := 0x020C
def E_ARM_WRITE_FAULT : Nat := 0x020D
def E_ARM_BUSY : Nat := 0x020E
def E_ARM_NOT_STAGED : Nat := 0x020F
def E_ARM_PORT_NOT_OWNED : Nat := 0x0210
def E_CORE_ILLEGAL_OP : Nat := 0x0301
def E_CORE_SHAPE : Nat := 0x0302
def E_CORE_FORMAT : Nat := 0x0303
def E_CORE_ACC_STATE : Nat := 0x0304
def E_CORE_LOOP_DEPTH : Nat := 0x0305
def E_CORE_LOOP_TICK : Nat := 0x0306
def E_CORE_SKIP_RANGE : Nat := 0x0307
def E_CORE_SLOT : Nat := 0x0308
def E_CORE_IMEM : Nat := 0x0309
def E_ARITH_ACC_SAT : Nat := 0x0401
def E_ARITH_ACC_LOW : Nat := 0x0402
def E_ARITH_OVERFLOW : Nat := 0x0403
def E_ARITH_UNDERFLOW : Nat := 0x0404
def E_ARITH_NAN : Nat := 0x0405
def E_ARITH_INF : Nat := 0x0406
def E_ARITH_INVALID : Nat := 0x0407
def E_ARITH_DIV_ZERO : Nat := 0x0408
def E_ARITH_SCALE_NAN : Nat := 0x0409
def E_SPAD_HANDLE_RANGE : Nat := 0x0501
def E_SPAD_PERMISSION : Nat := 0x0502
def E_SPAD_ALIGN : Nat := 0x0503
def E_SPAD_BOUNDS : Nat := 0x0504
def E_SPAD_UNCORRECTABLE : Nat := 0x0505
def E_SPAD_WINDOW : Nat := 0x0506
def E_SPAD_WINDOW_PERM : Nat := 0x0507
def E_SPAD_WINDOW_RANK : Nat := 0x0508
def E_SPAD_REMOTE_REJECT : Nat := 0x0509
def E_SPAD_HANDLE_INVALID : Nat := 0x050A
def E_SPAD_WINDOW_INVALID : Nat := 0x050B
def E_SPAD_SIDE_DENIED : Nat := 0x050C
def E_SPAD_SIDE_SHAPE : Nat := 0x050D
def E_POOL_CONFLICT : Nat := 0x050E
def E_POOL_GROUP : Nat := 0x050F
def E_POOL_UNCORRECTABLE : Nat := 0x0510
def E_SYNC_UNDERFLOW : Nat := 0x0601
def E_SYNC_OVERFLOW : Nat := 0x0602
def E_SYNC_UNDECLARED : Nat := 0x0603
def E_SYNC_AMOUNT : Nat := 0x0604
def E_SYNC_BARRIER_FOREIGN : Nat := 0x0605
def E_SYNC_DECL_INVALID : Nat := 0x0606
def E_FAB_HEAD_UNCORRECTABLE : Nat := 0x0701
def E_FAB_BAD_HEAD : Nat := 0x0702
def E_FAB_NO_ROUTE : Nat := 0x0703
def E_FAB_FENCE : Nat := 0x0704
def E_FAB_EDGE_DOWN : Nat := 0x0705
def E_LINK_SINK_OVERRUN : Nat := 0x0801
def E_LINK_PORT_DOWN : Nat := 0x0802
def E_LINK_TRAIN_FAIL : Nat := 0x0803
def E_LINK_UNEXPECTED_PEER : Nat := 0x0804
def E_LINK_MISWIRE : Nat := 0x0805
def E_LINK_HEADER_AUTH : Nat := 0x0806
def E_LINK_AUTH_FAIL : Nat := 0x0807
def E_LINK_NO_KEY : Nat := 0x0808
def E_LINK_SEQ_EXHAUSTED : Nat := 0x0809
def E_ROUTE_NO_ROUTE : Nat := 0x0901
def E_ROUTE_DEAD_PORT : Nat := 0x0902
def E_ROUTE_U_TURN : Nat := 0x0903
def E_ROUTE_EPOCH_LATE : Nat := 0x0904
def E_ROUTE_NO_JOB : Nat := 0x0905
def E_ROUTE_TAG_IN_USE : Nat := 0x0906
def E_ROUTE_SLOT_INVALID : Nat := 0x0907
def E_ROUTE_TABLE_INVALID : Nat := 0x0908
def E_ROUTE_SWITCH_LATE : Nat := 0x0909
def E_ROUTE_STATE : Nat := 0x090A
def E_TIME_JUMP_REFUSED : Nat := 0x0A01
def E_TIME_REF_LOST : Nat := 0x0A02
def E_TIME_CLK_HOLDOVER : Nat := 0x0A03
def E_TIME_HOLDOVER : Nat := 0x0A04
def E_TIME_PPS_MISSING : Nat := 0x0A05
def E_TIME_NO_PARENT : Nat := 0x0A06
def E_TIME_RATE_RANGE : Nat := 0x0A07
def E_TIME_WRITE_REFUSED : Nat := 0x0A08
def E_TIME_PLL_UNLOCK : Nat := 0x0A09
def E_HBM_UNCORRECTABLE : Nat := 0x0B01
def E_HBM_RANGE : Nat := 0x0B02
def E_HBM_TRAIN_FAIL : Nat := 0x0B03
def E_HBM_HDM_DENIED : Nat := 0x0B04
def E_PLINTH_AUTH : Nat := 0x0C01
def E_PLINTH_FORMAT : Nat := 0x0C02
def E_PLINTH_SIGNER : Nat := 0x0C03
def E_PLINTH_SIGNATURE : Nat := 0x0C04
def E_PLINTH_DIGEST : Nat := 0x0C05
def E_PLINTH_FULL : Nat := 0x0C06
def E_PLINTH_BUSY : Nat := 0x0C07
def E_PLINTH_NOT_BOUND : Nat := 0x0C08
def E_PLINTH_RANGE : Nat := 0x0C09
def E_PLINTH_UNCORRECTABLE : Nat := 0x0C0A
def E_PLINTH_CORRUPT : Nat := 0x0C0B
def E_PLINTH_SHAPE : Nat := 0x0C0C
def E_PLINTH_REPL_STATE : Nat := 0x0C0D
def E_PLINTH_BIND_INVALID : Nat := 0x0C0E
def E_SRV_SEQ : Nat := 0x0D01
def E_SRV_DOUBLE_SAMPLE : Nat := 0x0D02
def E_SRV_MISSED_SAMPLE : Nat := 0x0D03
def E_SRV_VOCAB : Nat := 0x0D04
def E_SRV_CONFIG : Nat := 0x0D05
def E_SRV_KV_TABLE : Nat := 0x0D06
def E_HOST_QUEUE_CFG : Nat := 0x0E01
def E_HOST_DOORBELL : Nat := 0x0E02
def E_HOST_FETCH : Nat := 0x0E03
def E_HOST_BAD_CMD : Nat := 0x0E04
def E_HOST_STATE : Nat := 0x0E05
def E_HOST_NO_IMAGE : Nat := 0x0E06
def E_HOST_IMAGE : Nat := 0x0E07
def E_HOST_COPY_DENIED : Nat := 0x0E08
def E_HOST_REQ_OVERFLOW : Nat := 0x0E09
def E_HOST_LINK_RESET : Nat := 0x0E0A
def E_HOST_IDE : Nat := 0x0E0B
def E_HOST_ACCESS : Nat := 0x0E0C
def E_SEC_TOKEN_FORMAT : Nat := 0x0F01
def E_SEC_TOKEN_DEVICE : Nat := 0x0F02
def E_SEC_TOKEN_NONCE : Nat := 0x0F03
def E_SEC_TOKEN_SIGNER : Nat := 0x0F04
def E_SEC_TOKEN_SIGNATURE : Nat := 0x0F05
def E_SEC_CONSENT : Nat := 0x0F06
def E_SEC_STATE : Nat := 0x0F07
def E_SEC_NOT_BOUND : Nat := 0x0F08
def E_SEC_KSEQ : Nat := 0x0F09
def E_SEC_POLICY : Nat := 0x0F0A
def E_SEC_KEY_INVALID : Nat := 0x0F0B
def E_SEC_FA_ACTIVE : Nat := 0x0F0C
def E_SEC_STORE : Nat := 0x0F0D
def E_SEC_NO_GRANT : Nat := 0x0F0E
def E_SEC_ENROLLED : Nat := 0x0F0F
def E_SEC_FULL : Nat := 0x0F10
def E_SEC_IDE_REQUIRED : Nat := 0x0F11
def E_MGMT_BUS_STUCK : Nat := 0x1001
def E_MGMT_BAD_MSG : Nat := 0x1002
def E_MGMT_NOT_OWNER : Nat := 0x1003
def E_MGMT_REG_ACCESS : Nat := 0x1004
def E_MGMT_FAULT_PRESENT : Nat := 0x1005
def E_MGMT_FW_FORMAT : Nat := 0x1006
def E_MGMT_FW_SIGNATURE : Nat := 0x1007
def E_MGMT_FW_ROLLBACK : Nat := 0x1008
def E_MGMT_FW_DIGEST : Nat := 0x1009
def E_MGMT_ACTIVATE_BUSY : Nat := 0x100A
def E_MGMT_ROM_RECOVERY : Nat := 0x100B
def E_PWR_INPUT_LOW : Nat := 0x1101
def E_PWR_EFUSE_TRIP : Nat := 0x1102
def E_PWR_OVERVOLTAGE : Nat := 0x1103
def E_PWR_SENSE_OPEN : Nat := 0x1104
def E_PWR_RAIL_FAULT : Nat := 0x1105
def E_PWR_THERMAL_TRIP : Nat := 0x1106
def E_PWR_STATE_BUSY : Nat := 0x1107
def E_PWR_STRAP_OPEN : Nat := 0x1108
def E_PWR_OPTION_BYTES : Nat := 0x1109
def E_PWR_SLEEVE_BLOCK : Nat := 0x110A
def E_PWR_SLEEVE_BUSY : Nat := 0x110B
def E_PWR_BLOCK_RESET : Nat := 0x110C

end Sys2Proof.Machine
end

