-- ==== Sys2Proof/Machine/Bank.lean ====
section
/-! DEFINITION. Machine/Bank.lean: sparse data by key, the one form in which memories, tables and arrays of records are held.
A bank is a list of (key, value) pairs with rising keys and no value equal to the default, so equal contents are equal lists. -/
namespace Sys2Proof.Machine

/-- What key `k` holds: the default `d` where the bank lists nothing. -/
def bankGet {α : Type} (d : α) : List (Nat × α) → Nat → α
  | [], _ => d
  | e :: t, k => if e.1 = k then e.2 else bankGet d t k

/-- Put `v` at key `k`, keeping the keys in rising order. -/
def bankIns {α : Type} (k : Nat) (v : α) : List (Nat × α) → List (Nat × α)
  | [] => [(k, v)]
  | e :: t => if k < e.1 then (k, v) :: e :: t else if e.1 = k then (k, v) :: t else e :: bankIns k v t

/-- Take key `k` out of the bank. -/
def bankDel {α : Type} (k : Nat) : List (Nat × α) → List (Nat × α)
  | [] => []
  | e :: t => if e.1 = k then bankDel k t else e :: bankDel k t

/-- Write `v` at key `k`; writing the default takes the key out. -/
def bankSet {α : Type} [DecidableEq α] (d : α) (b : List (Nat × α)) (k : Nat) (v : α) : List (Nat × α) :=
  if v = d then bankDel k b else bankIns k v b

/-- The canonical form: keys strictly rising, no value equal to the default. -/
def bankWf {α : Type} [DecidableEq α] (d : α) : List (Nat × α) → Bool
  | [] => true
  | [e] => e.2 ≠ d
  | e :: f :: t => e.2 ≠ d && e.1 < f.1 && bankWf d (f :: t)

/-- The bank without the keys that satisfy `p`: those places hold the default again. -/
def bankDrop {α : Type} (p : Nat → Bool) (b : List (Nat × α)) : List (Nat × α) :=
  b.filter (fun e => !p e.1)

/-- Set `n` consecutive keys from `k` to the values of a list, in order. -/
def bankPutList {α : Type} [DecidableEq α] (d : α) (b : List (Nat × α)) (k : Nat) : List α → List (Nat × α)
  | [] => b
  | v :: t => bankPutList d (bankSet d b k v) (k + 1) t

/-- The values at `n` consecutive keys from `k`. -/
def bankList {α : Type} (d : α) (b : List (Nat × α)) (k n : Nat) : List α :=
  (List.range n).map (fun j => bankGet d b (k + j))

end Sys2Proof.Machine
end

