-- ==== Sys2Proof/Config.lean ====
section
/-! DEFINITION. Config.lean: what a part, its fuses and its firmware image fix, and the values the spec leaves open. Every
constant here is opaque: no proof can see which value it has (log entries 3 and 10). -/
namespace Sys2Proof

/-- Whether an access of a partition is held up at a level (HOLD_CAUSE codes 0x05 to 0x09) by arbitration and queues that are timing:
raw count, partition, code (01 Table 1.5; log entry 5). -/
opaque Config.levelWait : Nat → Nat → Nat → Bool

/-- A fresh free value: the model applies it to the counter `State.free`, which each use advances (log entry 3). -/
opaque Config.freeValue : Nat → BitVec 64

/-- DEVICE_ID.GRADE and DET_CLASS.GRADE, from fuse (00 Table 0.2). -/
opaque Config.grade : Nat
/-- DIE_SPARES_USED.COUNT, from fuse (03 Table 3.8). -/
opaque Config.dieSparesUsed : Nat
/-- DIE_PHYS_ACTIVE, from fuse (03 Table 3.8). -/
opaque Config.diePhysActive : Nat
/-- SEC_STATUS.FA_FUSED, from fuse (15 Table 15.13). -/
opaque Config.faFused : Nat
/-- FW_INFO.FLOOR, from fuse (16 Table 16.9). -/
opaque Config.fwFloor : Nat
/-- FW_INFO.VERSION_MINOR, from the firmware image (16 Table 16.9). -/
opaque Config.fwVersion : Nat
/-- FW_INFO.SVN, from the firmware image (16 Table 16.9). -/
opaque Config.fwSvn : Nat
/-- OPTB_STATUS.FUSE_EN, from fuse (17 Table 17.13). -/
opaque Config.optbFuseEn : Nat
/-- OPTB_VALUE0, from one-time-programmable memory (17 Table 17.13). -/
opaque Config.optb0 : Nat
/-- OPTB_VALUE1, from one-time-programmable memory (17 Table 17.13). -/
opaque Config.optb1 : Nat
/-- Complement byte of option pair OBk, from one-time-programmable memory (17 R525). -/
opaque Config.optbComp : Nat → Nat
/-- STRAP_READ.CODE, from the converter on the strap (17 Table 17.12). -/
opaque Config.strapCode : Nat
/-- STRAP_READ.CHOICE, from the converter on the strap (17 Table 17.12). -/
opaque Config.strapChoice : Nat
/-- STRAP_READ.OPEN, from the converter on the strap (17 Table 17.12). -/
opaque Config.strapOpen : Nat
/-- ARM_ACTIVE_VERSION of the boot base image (02 R75). -/
opaque Config.bootVersion : Nat
/-- ARM_ACTIVE_SVN of the boot base image (02 R75). -/
opaque Config.bootSvn : Nat

/-- Subsystem vendor and subsystem ID, from fuses (14 Table 14.3). -/
opaque Config.subsystem : Nat
/-- What a dword of configuration space that the PCIe or CXL specification defines reads as, by its offset and by the value last written
there (14 R427). -/
opaque Config.configSpace : Nat → Nat → Nat
/-- First 8 bytes of SHA-512 of this device's DeviceID public key (12 Table 12.5, 15). -/
opaque Config.deviceKeyId : BitVec 64
/-- KEY_ID of Quinian's Armature key (02 R63). -/
opaque Config.quinianArmKey : BitVec 64
/-- The boot base's digest (512 bits) and IMAGE_ID (128 bits), from the firmware image (02 R75). -/
opaque Config.bootDigest : Nat
opaque Config.bootImageId : Nat
/-- SHA-512 of some bytes, its 64 bytes as a little-endian number: the function itself, of which nothing is assumed (log entry 20). -/
opaque Config.sha512 : List Byte → BitVec 512
/-- KEY_ID of a public key, a link job key made from a secret, a job tag and a KSEQ, never 0 (15 R469), and the digest of a measurement's
content (15 R474): functions of which nothing is assumed (log entry 20). -/
opaque Config.keyId : List Byte → BitVec 64
opaque Config.linkKey : List Byte → Nat → Nat → Nat
opaque Config.digestOf : List Nat → Nat
/-- Cryptographic and coding functions, of which nothing is assumed (log entry 20): the check bytes of the Q-code for 32 bytes (00 Table 0.3);
the 30 parity symbols of RS(544,514) for a message (08 R240); the tag of AES-256-GCM, from key, IV, additional data (as a number) and plaintext,
and its ciphertext, from key, IV and plaintext (08 R257, Table 8.13); an X25519 public key and shared secret; HKDF from salt, secret and direction; and an
alias-key signature over two identity blocks and two X25519 keys (15 R472). -/
opaque Config.qCheck : List Byte → List Byte
opaque Config.kp4Parity : Nat → Nat
opaque Config.gcmTag : Nat → Nat → Nat → List Byte → Nat
opaque Config.gcmCipher : Nat → Nat → List Byte → List Byte
opaque Config.x25519Public : Nat → Nat
opaque Config.x25519 : Nat → Nat → Nat
opaque Config.hkdf : Nat → Nat → Bool → Nat
opaque Config.aliasSign : Nat → Nat → Nat → Nat → Nat
/-- The number r from 0 to 15 drawn for a DETECT dwell, from KEY_ID, port number and the dwell's number (08 R264). -/
opaque Config.dwellDraw : Nat → Nat → Nat → Nat
/-- Parity that the idle pattern of LNS adds in the time of one frame (08 R268). -/
opaque Config.idleParity : Nat
/-- KEY_IDs of Quinian's failure-analysis key and firmware key (15 Table 15.1), SHA-512 of the ROM, and FW_DIGEST of the image that the
part is delivered with (15 Table 15.10). -/
opaque Config.quinianFaKey : BitVec 64
opaque Config.quinianFwKey : BitVec 64
opaque Config.romDigest : Nat
opaque Config.fwDigest : Nat
/-- What the boot base of a firmware image received in an update shows after it is applied, by the image's digest: 0 IMAGE_VERSION,
1 SECURITY_VERSION, 2 IMAGE_ID, 3 digest (02 R75). -/
opaque Config.bootOf : Nat → Nat → Nat
/-- What a management response carries where the spec names no content for it: by request (16 R486). -/
opaque Config.mctpData : Nat → List Nat
/-- What a byte of HBM reads as that was not written under the pair in force: that pair, the device byte address, and what the AES block of
the byte holds (11 R355; log entry 21). -/
opaque Config.hbmFill : Nat → Nat → List Nat → Byte

/-- What the special functions of the vector unit give within the error bounds of Table 4.9, by number: 0 exp, 1 log, 2 reciprocal square
root, 3 tanh, 4 sigmoid, 5 SiLU, 6 GELU: a fixed function of the FP32 input (04 R141). -/
opaque Config.special : Nat → BitVec 32 → BitVec 32

end Sys2Proof
end

