-- ==== Sys2Proof/Machine/RegMap.lean ====
section
/-! DEFINITION. Machine/RegMap.lean: the register tables of the spec, one constant per named field (its place, width,
access code and reset value) and one row per register (its block, offset and, for a numbered range of registers, how many).
Written from Tables 0.2, 1.7, 1.9, 2.11, 3.8, 4.11, 5.8, 5.9, 6.7, 6.8, 7.8, 8.14, 9.6, 10.10, 11.4, 11.5, 12.9, 13.12, 14.13,
15.13, 16.9, 17.12, 17.13, 18.13, 19.12, 20.2 and 20.3. A reset value that the spec takes from a fuse, an option or the firmware
image is a constant of Config (log entry 10); one it takes from a store is that of an empty store (log entry 9). -/
namespace Sys2Proof.Machine

/-- The access codes of Table 0.6 (R6). -/
inductive Access where
  | RO | RW | W1C | W1S | RC | WO | RWL | RWS
  deriving DecidableEq, Repr

/-- A named field of a register: `code` is 32 × the register's number in this file + the field's lowest bit, `width` its
number of bits, `acc` its access code, `rst` the value it holds at reset where that value does not depend on the instance. -/
structure Fld where
  code : Nat
  width : Nat
  acc : Access
  rst : Nat
  deriving DecidableEq, Repr

/-- The register blocks: a base address and what the instance number counts (partition, core, port and so on). -/
inductive RegGroup where
  | globG | propsG | planG | planP | armG | armQ | armP | dieD | coreC | spadG | barB | fabG | fabN | ldL | linkP | routeG | slotJ
  | timeG | timeT | hbmH | hbmG | plinthG | plinthP | srvG | srvP | dbD | queueQ | hostH | secG | secP | mgmtG | pwrG
  | obsG | obsP | dumpD
  deriving DecidableEq, Repr

/-- A register of a table: name, number, block, offset, the step and the count of a numbered range, its fields. -/
structure RegRow where
  name : String
  id : Nat
  group : RegGroup
  off : Nat
  step : Nat
  count : Nat
  fields : List Fld
  deriving DecidableEq, Repr

def Fld.DEVICE_ID_PART : Fld := ⟨16, 16, .RO, 0x6416⟩
def Fld.DEVICE_ID_STEPPING : Fld := ⟨8, 8, .RO, 0xB0⟩
def Fld.DEVICE_ID_GRADE : Fld := ⟨4, 4, .RO, Config.grade⟩
def Fld.DET_CLASS_STEPPING : Fld := ⟨32, 8, .RO, 0xB0⟩
def Fld.DET_CLASS_GRADE : Fld := ⟨40, 4, .RO, Config.grade⟩
def Fld.DET_CLASS_SFU : Fld := ⟨44, 4, .RO, 1⟩
def Fld.DET_CLASS_SAMPLER : Fld := ⟨48, 4, .RO, 1⟩
def Fld.DET_CLASS_ACC : Fld := ⟨52, 4, .RO, 1⟩
def Fld.PROPS_CORES : Fld := ⟨64, 32, .RO, 0x1800⟩
def Fld.PROPS_SPAD_KIB : Fld := ⟨96, 32, .RO, 0x200⟩
def Fld.PROPS_SPAD_BANKS : Fld := ⟨128, 32, .RO, 0x10⟩
def Fld.PROPS_POOL_MIB : Fld := ⟨160, 32, .RO, 0x300⟩
def Fld.PROPS_POOL_BANKS : Fld := ⟨192, 32, .RO, 0x100⟩
def Fld.PROPS_SYNC_COUNTERS : Fld := ⟨224, 32, .RO, 0x100⟩
def Fld.PROPS_HANDLES : Fld := ⟨256, 32, .RO, 0x400⟩
def Fld.PROPS_WINDOWS : Fld := ⟨288, 32, .RO, 0x40⟩
def Fld.PROPS_PARAM_REGS : Fld := ⟨320, 32, .RO, 0x40⟩
def Fld.PROPS_FABRIC_VCS : Fld := ⟨352, 32, .RO, 0x8⟩
def Fld.PROPS_LINK_VCS : Fld := ⟨384, 32, .RO, 0x8⟩
def Fld.PROPS_PORTS : Fld := ⟨416, 32, .RO, 0x20⟩
def Fld.PROPS_HBM_GB : Fld := ⟨448, 32, .RO, 0x500⟩
def Fld.PROPS_TOKENS_MAX : Fld := ⟨480, 32, .RO, 0x1800⟩
def Fld.PROPS_PARTITIONS : Fld := ⟨512, 32, .RO, 0x10⟩
def Fld.PROPS_HEM_MAX : Fld := ⟨544, 32, .RO, 0x8⟩
def Fld.PROPS_HOLD_TABLE : Fld := ⟨576, 32, .RO, 0x20⟩
def Fld.PROPS_TOKENS_PER_DIE : Fld := ⟨608, 32, .RO, 0x60⟩
def Fld.PROPS_PLINTH_GIB : Fld := ⟨640, 32, .RO, 0x400⟩
def Fld.POWER_TOKENS : Fld := ⟨672, 13, .RO, 0x1800⟩
def Fld.PLAN_PART_RUN : Fld := ⟨704, 16, .RO, 0x0⟩
def Fld.HOLD_HOPS : Fld := ⟨736, 8, .RW, 0x40⟩
def Fld.PLAN_CTRL_ARM : Fld := ⟨768, 1, .W1S, 0⟩
def Fld.PLAN_CTRL_START_NOW : Fld := ⟨769, 1, .W1S, 0⟩
def Fld.PLAN_CTRL_STOP : Fld := ⟨770, 1, .W1S, 0⟩
def Fld.PLAN_CTRL_ABORT : Fld := ⟨771, 1, .W1S, 0⟩
def Fld.PLAN_CTRL_RESUME : Fld := ⟨772, 1, .W1S, 0⟩
def Fld.PLAN_CTRL_CLEAR : Fld := ⟨773, 1, .W1S, 0⟩
def Fld.PLAN_CTRL_UNLOAD : Fld := ⟨774, 1, .W1S, 0⟩
def Fld.PLAN_CTRL_STOP_AT_TICK : Fld := ⟨776, 1, .RW, 0⟩
def Fld.PLAN_STATUS_STATE : Fld := ⟨800, 4, .RO, 0x0⟩
def Fld.PLAN_STATUS_HELD : Fld := ⟨804, 1, .RO, 0⟩
def Fld.PLAN_STATUS_LATE : Fld := ⟨805, 1, .RO, 0⟩
def Fld.PLAN_STATUS_CMD_REJECT : Fld := ⟨806, 1, .W1C, 0⟩
def Fld.PLAN_STATUS_HEM_WAIT : Fld := ⟨807, 1, .RO, 0⟩
def Fld.PLAN_STATUS_MAX_LAG : Fld := ⟨808, 4, .RO, 0x0⟩
def Fld.PLAN_TICK_LO : Fld := ⟨832, 32, .RO, 0x0⟩
def Fld.PLAN_TICK_HI : Fld := ⟨864, 32, .RO, 0x0⟩
def Fld.PLAN_STOP_TICK_LO : Fld := ⟨896, 32, .RW, 0x0⟩
def Fld.PLAN_STOP_TICK_HI : Fld := ⟨928, 32, .RW, 0x0⟩
def Fld.PLAN_START_TIME_LO : Fld := ⟨960, 32, .RW, 0x0⟩
def Fld.PLAN_START_TIME_HI : Fld := ⟨992, 32, .RW, 0x0⟩
def Fld.HEM_DEPTH : Fld := ⟨1024, 4, .RW, 0x2⟩
def Fld.HOLD_TIMEOUT : Fld := ⟨1056, 24, .RW, 0x2710⟩
def Fld.HOLD_CAUSE_CODE : Fld := ⟨1088, 8, .RO, 0x0⟩
def Fld.HOLD_CAUSE_REMOTE : Fld := ⟨1096, 1, .RO, 0⟩
def Fld.HOLD_CAUSE_HOPS : Fld := ⟨1104, 8, .RO, 0x0⟩
def Fld.HOLD_CAUSE_SET : Fld := ⟨1121, 23, .RO, 0x0⟩
def Fld.HOLD_ORIGIN_RANK : Fld := ⟨1152, 16, .RO, 0x0⟩
def Fld.HOLD_ORIGIN_JOB_TAG : Fld := ⟨1168, 16, .RO, 0x0⟩
def Fld.HOLD_TICK : Fld := ⟨1184, 32, .RO, 0x0⟩
def Fld.HOLD_TIME_LO : Fld := ⟨1216, 32, .RO, 0x0⟩
def Fld.HOLD_TIME_HI : Fld := ⟨1248, 32, .RO, 0x0⟩
def Fld.HOLD_COUNT : Fld := ⟨1280, 32, .RO, 0x0⟩
def Fld.HOLD_OVF : Fld := ⟨1312, 32, .RC, 0x0⟩
def Fld.PLAN_ERROR_CODE : Fld := ⟨1344, 16, .RO, 0x0⟩
def Fld.PLAN_ERROR_MULTI : Fld := ⟨1360, 1, .W1C, 0⟩
def Fld.DEADLOCK_INFO_LENGTH : Fld := ⟨1376, 4, .RO, 0x0⟩
def Fld.DEADLOCK_INFO_TRUNCATED : Fld := ⟨1380, 1, .RO, 0⟩
def Fld.DEADLOCK_INFO_CROSS_DEVICE : Fld := ⟨1381, 1, .RO, 0⟩
def Fld.DEADLOCK_INFO_REMOTE_RANK : Fld := ⟨1392, 16, .RO, 0x0⟩
def Fld.DEADLOCK_CYCLE_CORE : Fld := ⟨1408, 13, .RO, 0x0⟩
def Fld.DEADLOCK_CYCLE_COUNTER : Fld := ⟨1421, 8, .RO, 0x0⟩
def Fld.DEADLOCK_CYCLE_BAR : Fld := ⟨1429, 1, .RO, 0⟩
def Fld.DEADLOCK_CYCLE_NOWAIT : Fld := ⟨1430, 1, .RO, 0⟩
def Fld.DEADLOCK_CYCLE_VALID : Fld := ⟨1439, 1, .RO, 0⟩
def Fld.EXCHANGE_PORTS : Fld := ⟨1440, 32, .RO, 0x0⟩
def Fld.TOKENS_HELD : Fld := ⟨1472, 13, .RO, 0x0⟩
def Fld.PLAN_JOB_TAG : Fld := ⟨1504, 16, .RO, 0x0⟩
def Fld.ARM_CTRL_STAGE : Fld := ⟨1536, 1, .W1S, 0⟩
def Fld.ARM_CTRL_APPLY : Fld := ⟨1537, 1, .W1S, 0⟩
def Fld.ARM_CTRL_DISCARD : Fld := ⟨1538, 1, .W1S, 0⟩
def Fld.ARM_STATUS_STATE : Fld := ⟨1568, 2, .RO, 0x0⟩
def Fld.ARM_STATUS_APPLIED : Fld := ⟨1570, 1, .W1C, 0⟩
def Fld.ARM_STATUS_FAILED : Fld := ⟨1571, 1, .W1C, 0⟩
def Fld.ARM_STATUS_BASE_ACTIVE : Fld := ⟨1572, 1, .RO, 1⟩
def Fld.ARM_ERROR_CODE : Fld := ⟨1600, 16, .RO, 0x0⟩
def Fld.ARM_ERROR_MULTI : Fld := ⟨1616, 1, .W1C, 0⟩
def Fld.ARM_ERROR_VALID : Fld := ⟨1631, 1, .W1C, 0⟩
def Fld.ARM_SRC_LO : Fld := ⟨1632, 32, .RW, 0x0⟩
def Fld.ARM_SRC_HI : Fld := ⟨1664, 32, .RW, 0x0⟩
def Fld.ARM_SRC_SIZE : Fld := ⟨1696, 23, .RW, 0x0⟩
def Fld.ARM_SCOPE : Fld := ⟨1728, 16, .RO, 0x0⟩
def Fld.ARM_ACTIVE_VERSION : Fld := ⟨1760, 32, .RO, Config.bootVersion⟩
def Fld.ARM_ACTIVE_SVN : Fld := ⟨1792, 32, .RO, Config.bootSvn⟩
def Fld.ARM_MIN_SVN_Q : Fld := ⟨1824, 32, .RO, 0⟩
def Fld.ARM_MIN_SVN_OP : Fld := ⟨1856, 32, .RO, 0⟩
def Fld.ARM_APPLY_TIME : Fld := ⟨1888, 10, .RO, 0x0⟩
def Fld.ARM_COUNT : Fld := ⟨1920, 32, .RO, 0x0⟩
def Fld.ARM_BASE_DIGEST : Fld := ⟨1952, 32, .RO, 0⟩
def Fld.ARM_IMAGE_ID : Fld := ⟨1984, 32, .RO, 0⟩
def Fld.ARM_QUAD_PARTITION : Fld := ⟨2016, 4, .RO, 0x0⟩
def Fld.ARM_QUAD_ROLE : Fld := ⟨2020, 2, .RO, 0⟩
def Fld.ARM_QUAD_RIM : Fld := ⟨2022, 1, .RO, 0⟩
def Fld.ARM_PART_QUADS : Fld := ⟨2048, 16, .RO, 0⟩
def Fld.ARM_PART_LIMITS_HANDLES : Fld := ⟨2080, 11, .RO, 0x400⟩
def Fld.ARM_PART_LIMITS_WINDOWS : Fld := ⟨2091, 7, .RO, 0x40⟩
def Fld.ARM_PART_LIMITS_LANDING : Fld := ⟨2098, 4, .RO, 0x2⟩
def Fld.ARM_PART_LIMITS_LINK_VCS : Fld := ⟨2102, 4, .RO, 0x4⟩
def Fld.ARM_PART_POOL_LO : Fld := ⟨2112, 32, .RO, 0⟩
def Fld.ARM_PART_POOL_HI : Fld := ⟨2144, 32, .RO, 0⟩
def Fld.ARM_PART_PORTS : Fld := ⟨2176, 32, .RO, 0⟩
def Fld.ARM_PART_HBM : Fld := ⟨2208, 9, .RO, 0⟩
def Fld.ARM_PART_VCMAP_CLASS_VC : Fld := ⟨2240, 12, .RO, 0x688⟩
def Fld.ARM_PART_VCMAP_FABRIC_VCS : Fld := ⟨2252, 4, .RO, 0x4⟩
def Fld.DIE_STATUS_DIE : Fld := ⟨2272, 6, .RO, 0⟩
def Fld.DIE_STATUS_RIM : Fld := ⟨2278, 1, .RO, 0⟩
def Fld.DIE_STATUS_AWAKE : Fld := ⟨2279, 1, .RO, 0⟩
def Fld.DIE_STATUS_PARTITION : Fld := ⟨2280, 4, .RO, 0x0⟩
def Fld.DIE_SPARES_USED : Fld := ⟨2304, 4, .RO, Config.dieSparesUsed⟩
def Fld.DIE_ERROR_CORE_CORE : Fld := ⟨2336, 7, .RO, 0x0⟩
def Fld.DIE_ERROR_CORE_VALID : Fld := ⟨2343, 1, .RO, 0⟩
def Fld.DIE_BREAK_CORE_CORE : Fld := ⟨2368, 7, .RO, 0x0⟩
def Fld.DIE_BREAK_CORE_VALID : Fld := ⟨2375, 1, .RO, 0⟩
def Fld.DIE_PHYS_ACTIVE : Fld := ⟨2400, 32, .RO, Config.diePhysActive⟩
def Fld.CORE_STATUS_STATE : Fld := ⟨2432, 3, .RO, 0x0⟩
def Fld.CORE_STATUS_PATCH_REJECT : Fld := ⟨2435, 1, .W1C, 0⟩
def Fld.CORE_STATUS_QUEUE : Fld := ⟨2436, 4, .RO, 0x0⟩
def Fld.CORE_STATUS_LOOP_DEPTH : Fld := ⟨2440, 3, .RO, 0x0⟩
def Fld.CORE_ERROR_CODE : Fld := ⟨2464, 16, .RO, 0x0⟩
def Fld.CORE_ERROR_MULTI : Fld := ⟨2480, 1, .W1C, 0⟩
def Fld.CORE_ERROR_TAG : Fld := ⟨2496, 16, .RO, 0x0⟩
def Fld.CP_PC : Fld := ⟨2528, 14, .RO, 0x0⟩
def Fld.MACRO_COUNT_LO : Fld := ⟨2560, 32, .RO, 0x0⟩
def Fld.MACRO_COUNT_HI : Fld := ⟨2592, 32, .RO, 0x0⟩
def Fld.BRK_CTRL_COUNT_EN : Fld := ⟨2624, 1, .RW, 0⟩
def Fld.BRK_CTRL_TAG_EN : Fld := ⟨2625, 1, .RW, 0⟩
def Fld.BRK_CTRL_TICK_EN : Fld := ⟨2626, 1, .RW, 0⟩
def Fld.BRK_CTRL_ONESHOT : Fld := ⟨2627, 1, .RW, 0⟩
def Fld.BRK_TAG_VALUE : Fld := ⟨2656, 16, .RW, 0x0⟩
def Fld.BRK_TAG_MASK : Fld := ⟨2672, 16, .RW, 0xffff⟩
def Fld.BRK_COUNT_LO : Fld := ⟨2688, 32, .RW, 0x0⟩
def Fld.BRK_COUNT_HI : Fld := ⟨2720, 32, .RW, 0x0⟩
def Fld.BRK_TICK_LO : Fld := ⟨2752, 32, .RW, 0x0⟩
def Fld.BRK_TICK_HI : Fld := ⟨2784, 32, .RW, 0x0⟩
def Fld.BRK_STATUS_COUNT_HIT : Fld := ⟨2816, 1, .W1C, 0⟩
def Fld.BRK_STATUS_TAG_HIT : Fld := ⟨2817, 1, .W1C, 0⟩
def Fld.BRK_STATUS_TICK_HIT : Fld := ⟨2818, 1, .W1C, 0⟩
def Fld.BRK_STATUS_DENIED : Fld := ⟨2819, 1, .W1C, 0⟩
def Fld.TRACE_CTRL_EN : Fld := ⟨2848, 1, .RW, 0⟩
def Fld.TRACE_CTRL_ISSUE : Fld := ⟨2849, 1, .RW, 0⟩
def Fld.TRACE_CTRL_DONE : Fld := ⟨2850, 1, .RW, 0⟩
def Fld.TRACE_CTRL_LOOP : Fld := ⟨2851, 1, .RW, 0⟩
def Fld.TRACE_CTRL_SKIP : Fld := ⟨2852, 1, .RW, 0⟩
def Fld.TRACE_CTRL_MARK : Fld := ⟨2853, 1, .RW, 0⟩
def Fld.TRACE_CTRL_BLOCK : Fld := ⟨2854, 1, .RW, 0⟩
def Fld.PRM : Fld := ⟨2880, 32, .RW, 0x0⟩
def Fld.SLOT : Fld := ⟨2912, 32, .RO, 0x0⟩
def Fld.SLOT_TICK : Fld := ⟨2944, 32, .RO, 0x0⟩
def Fld.SCALAR_LO : Fld := ⟨2976, 32, .RO, 0⟩
def Fld.SCALAR_HI : Fld := ⟨3008, 32, .RO, 0⟩
def Fld.ARITH_FLAGS_SAT : Fld := ⟨3040, 1, .W1C, 0⟩
def Fld.ARITH_FLAGS_LOW : Fld := ⟨3041, 1, .W1C, 0⟩
def Fld.ARITH_FLAGS_OVF : Fld := ⟨3042, 1, .W1C, 0⟩
def Fld.ARITH_FLAGS_UNF : Fld := ⟨3043, 1, .W1C, 0⟩
def Fld.ARITH_FLAGS_NAN : Fld := ⟨3044, 1, .W1C, 0⟩
def Fld.ARITH_FLAGS_INF : Fld := ⟨3045, 1, .W1C, 0⟩
def Fld.ARITH_FLAGS_INVALID : Fld := ⟨3046, 1, .W1C, 0⟩
def Fld.ARITH_FLAGS_DIV0 : Fld := ⟨3047, 1, .W1C, 0⟩
def Fld.ARITH_FLAGS_SCALE_NAN : Fld := ⟨3048, 1, .W1C, 0⟩
def Fld.ARITH_TRAP : Fld := ⟨3072, 9, .RW, 0x0⟩
def Fld.ARITH_FIRST_TAG_TAG : Fld := ⟨3104, 16, .RO, 0x0⟩
def Fld.ARITH_FIRST_TAG_VALID : Fld := ⟨3120, 1, .RO, 0⟩
def Fld.SPAD_MODE : Fld := ⟨3136, 2, .RO, 0x1⟩
def Fld.SPAD_RECOVERY : Fld := ⟨3168, 16, .RW, 0x0⟩
def Fld.SPAD_CLEAR_CTRL : Fld := ⟨3200, 16, .W1S, 0x0⟩
def Fld.SPAD_CLEAR_STATUS_BUSY : Fld := ⟨3232, 16, .RO, 0x0⟩
def Fld.SPAD_CLEAR_STATUS_DONE : Fld := ⟨3248, 16, .W1C, 0x0⟩
def Fld.SPAD_CLEAR_ERROR : Fld := ⟨3264, 16, .W1C, 0x0⟩
def Fld.SIDE_CTRL_GO : Fld := ⟨3296, 1, .W1S, 0⟩
def Fld.SIDE_CTRL_TRANSPOSE : Fld := ⟨3297, 1, .RW, 0⟩
def Fld.SIDE_CTRL_ESIZE : Fld := ⟨3298, 2, .RW, 0x0⟩
def Fld.SIDE_SRC_CORE : Fld := ⟨3328, 13, .RW, 0x0⟩
def Fld.SIDE_SRC_HANDLE : Fld := ⟨3341, 10, .RW, 0x0⟩
def Fld.SIDE_OFFSET : Fld := ⟨3360, 19, .RW, 0x0⟩
def Fld.SIDE_SHAPE_COLS : Fld := ⟨3392, 16, .RW, 0x0⟩
def Fld.SIDE_SHAPE_ROWS : Fld := ⟨3408, 16, .RW, 0x0⟩
def Fld.SIDE_STRIDE : Fld := ⟨3424, 19, .RW, 0x0⟩
def Fld.SIDE_DST_LO : Fld := ⟨3456, 32, .RW, 0x0⟩
def Fld.SIDE_DST_HI : Fld := ⟨3488, 32, .RW, 0x0⟩
def Fld.SIDE_STATUS_BUSY : Fld := ⟨3520, 1, .RO, 0⟩
def Fld.SIDE_STATUS_DONE : Fld := ⟨3521, 1, .W1C, 0⟩
def Fld.SIDE_STATUS_CODE : Fld := ⟨3536, 16, .RO, 0x0⟩
def Fld.POOL_CONFLICT_LOC_DIE : Fld := ⟨3552, 2, .RO, 0x0⟩
def Fld.POOL_CONFLICT_LOC_BANK : Fld := ⟨3554, 8, .RO, 0x0⟩
def Fld.POOL_CONFLICT_LOC_TICK : Fld := ⟨3568, 8, .RO, 0x0⟩
def Fld.POOL_CONFLICT_LOC_VALID : Fld := ⟨3583, 1, .W1C, 0⟩
def Fld.POOL_CONFLICT_CORES_OWNER : Fld := ⟨3584, 13, .RO, 0x0⟩
def Fld.POOL_CONFLICT_CORES_LATER : Fld := ⟨3600, 13, .RO, 0x0⟩
def Fld.POOL_CE : Fld := ⟨3616, 32, .RC, 0x0⟩
def Fld.POOL_UE : Fld := ⟨3648, 32, .RC, 0x0⟩
def Fld.POOL_SCRUB : Fld := ⟨3680, 1, .RW, 1⟩
def Fld.HANDLE_INDEX_INDEX : Fld := ⟨3712, 10, .RW, 0x0⟩
def Fld.HANDLE_INDEX_AUTO : Fld := ⟨3722, 1, .RW, 0⟩
def Fld.HANDLE_LO : Fld := ⟨3744, 32, .RW, 0x0⟩
def Fld.HANDLE_HI : Fld := ⟨3776, 32, .RW, 0x0⟩
def Fld.WINDOW_INDEX_INDEX : Fld := ⟨3808, 6, .RW, 0x0⟩
def Fld.WINDOW_INDEX_AUTO : Fld := ⟨3814, 1, .RW, 0⟩
def Fld.WINDOW_LO : Fld := ⟨3840, 32, .RW, 0x0⟩
def Fld.WINDOW_HI : Fld := ⟨3872, 32, .RW, 0x0⟩
def Fld.SPAD_CFG_STATUS_CODE : Fld := ⟨3904, 16, .RO, 0x0⟩
def Fld.SPAD_CFG_STATUS_REJECT : Fld := ⟨3920, 1, .W1C, 0⟩
def Fld.SPAD_CE : Fld := ⟨3936, 32, .RC, 0x0⟩
def Fld.SPAD_UE : Fld := ⟨3968, 32, .RC, 0x0⟩
def Fld.SPAD_UE_ADDR_ADDR : Fld := ⟨4000, 19, .RO, 0x0⟩
def Fld.SPAD_UE_ADDR_VALID : Fld := ⟨4031, 1, .W1C, 0⟩
def Fld.SPAD_REMOTE_REJECT : Fld := ⟨4032, 32, .RC, 0x0⟩
def Fld.SYNC_DECL_INDEX_INDEX : Fld := ⟨4064, 8, .RW, 0x0⟩
def Fld.SYNC_DECL_INDEX_AUTO : Fld := ⟨4072, 1, .RW, 0⟩
def Fld.SYNC_DECL_LO : Fld := ⟨4096, 32, .RW, 0x0⟩
def Fld.SYNC_DECL_HI : Fld := ⟨4128, 32, .RW, 0x0⟩
def Fld.SYNC_CFG_STATUS_CODE : Fld := ⟨4160, 16, .RO, 0x0⟩
def Fld.SYNC_CFG_STATUS_REJECT : Fld := ⟨4176, 1, .W1C, 0⟩
def Fld.SYNC_STATUS_COUNTER : Fld := ⟨4192, 8, .RO, 0x0⟩
def Fld.SYNC_STATUS_TAKE_WAIT : Fld := ⟨4200, 1, .RO, 0⟩
def Fld.SYNC_STATUS_BAR_WAIT : Fld := ⟨4201, 1, .RO, 0⟩
def Fld.SYNC_STATUS_BAR_AHEAD : Fld := ⟨4202, 1, .RO, 0⟩
def Fld.SYNC_STATUS_BARRIER : Fld := ⟨4203, 5, .RO, 0x0⟩
def Fld.SYNC_ERR_INFO_COUNTER : Fld := ⟨4224, 8, .RO, 0x0⟩
def Fld.SYNC_ERR_INFO_AMOUNT : Fld := ⟨4232, 16, .RO, 0x0⟩
def Fld.SYNC_ERR_INFO_BARRIER : Fld := ⟨4248, 5, .RO, 0x0⟩
def Fld.SYNC_ERR_INFO_IS_BARRIER : Fld := ⟨4253, 1, .RO, 0⟩
def Fld.SYNC_ERR_INFO_ARRIVED : Fld := ⟨4254, 1, .RO, 0⟩
def Fld.SYNC_ERR_INFO_VALID : Fld := ⟨4255, 1, .W1C, 0⟩
def Fld.SYNC_ERR_RANK : Fld := ⟨4256, 16, .RO, 0x0⟩
def Fld.SYNC_REMOTE_DROP : Fld := ⟨4288, 32, .RC, 0x0⟩
def Fld.BARRIER_MEMBER : Fld := ⟨4320, 32, .RW, 0x0⟩
def Fld.BAR_ARRIVED : Fld := ⟨4352, 32, .RO, 0x0⟩
def Fld.SYNC_GIVEN : Fld := ⟨4384, 32, .RO, 0x0⟩
def Fld.SYNC_TAKEN : Fld := ⟨4416, 32, .RO, 0x0⟩
def Fld.BAR_RANKS_RANK_LO : Fld := ⟨4448, 16, .RW, 0x0⟩
def Fld.BAR_RANKS_RANK_HI : Fld := ⟨4464, 16, .RW, 0x0⟩
def Fld.BAR_CFG_LOCAL_COUNT : Fld := ⟨4480, 13, .RO, 0x0⟩
def Fld.BAR_CFG_HOME : Fld := ⟨4493, 1, .RO, 0⟩
def Fld.BAR_CFG_REJECT : Fld := ⟨4494, 1, .W1C, 0⟩
def Fld.BAR_ROUND : Fld := ⟨4512, 32, .RO, 0x0⟩
def Fld.BAR_LOCAL_CUR : Fld := ⟨4544, 13, .RO, 0x0⟩
def Fld.BAR_LOCAL_NEXT : Fld := ⟨4560, 13, .RO, 0x0⟩
def Fld.BAR_HOME_CUR : Fld := ⟨4576, 17, .RO, 0x0⟩
def Fld.BAR_HOME_NEXT : Fld := ⟨4608, 17, .RO, 0x0⟩
def Fld.BAR_DROP : Fld := ⟨4640, 32, .RC, 0x0⟩
def Fld.FAB_CFG_VCS : Fld := ⟨4672, 4, .RO, 0x4⟩
def Fld.FAB_CFG_DIAMETER : Fld := ⟨4680, 8, .RO, 0x15⟩
def Fld.FAB_ERROR_CODE : Fld := ⟨4704, 16, .RO, 0x0⟩
def Fld.FAB_ERROR_MULTI : Fld := ⟨4720, 1, .W1C, 0⟩
def Fld.FAB_ERROR_INFO_NODE : Fld := ⟨4736, 7, .RO, 0x0⟩
def Fld.FAB_ERROR_INFO_EDGE : Fld := ⟨4743, 3, .RO, 0x0⟩
def Fld.FAB_ERROR_INFO_PARTITION : Fld := ⟨4746, 4, .RO, 0x0⟩
def Fld.FAB_ERROR_INFO_VALID : Fld := ⟨4767, 1, .W1C, 0⟩
def Fld.FAB_DEGRADED : Fld := ⟨4768, 8, .RO, 0x0⟩
def Fld.FAB_NODE_NODE : Fld := ⟨4800, 7, .RO, 0⟩
def Fld.FAB_NODE_KIND : Fld := ⟨4807, 4, .RO, 0⟩
def Fld.FAB_EDGE_MODULES : Fld := ⟨4832, 3, .RO, 0⟩
def Fld.FAB_EDGE_UP : Fld := ⟨4835, 1, .RO, 1⟩
def Fld.FAB_EDGE_DEGRADED : Fld := ⟨4836, 1, .RO, 0⟩
def Fld.FAB_EDGE_PEER : Fld := ⟨4837, 7, .RO, 0⟩
def Fld.FAB_EDGE_PRESENT : Fld := ⟨4844, 1, .RO, 0⟩
def Fld.FAB_RETRY : Fld := ⟨4864, 32, .RC, 0x0⟩
def Fld.FAB_HEAD_CE : Fld := ⟨4896, 32, .RC, 0x0⟩
def Fld.FAB_HEAD_UE : Fld := ⟨4928, 32, .RC, 0x0⟩
def Fld.FAB_DATA_CE : Fld := ⟨4960, 32, .RC, 0x0⟩
def Fld.FAB_DATA_UE : Fld := ⟨4992, 32, .RC, 0x0⟩
def Fld.FAB_FENCE_DROP : Fld := ⟨5024, 32, .RC, 0x0⟩
def Fld.FAB_ROUTE_INDEX_DEST : Fld := ⟨5056, 7, .RW, 0x0⟩
def Fld.FAB_ROUTE_INDEX_VC : Fld := ⟨5063, 3, .RW, 0x0⟩
def Fld.FAB_ROUTE_ENTRY_EDGE : Fld := ⟨5088, 3, .RO, 0⟩
def Fld.FAB_ROUTE_ENTRY_LOCAL : Fld := ⟨5091, 1, .RO, 0⟩
def Fld.FAB_ROUTE_ENTRY_VALID : Fld := ⟨5092, 1, .RO, 0⟩
def Fld.LD_INFO : Fld := ⟨5120, 3, .RO, 0⟩
def Fld.LD_KEYS_SEALED : Fld := ⟨5152, 16, .RO, 0x0⟩
def Fld.LD_KEYS_OPEN : Fld := ⟨5168, 16, .RO, 0x0⟩
def Fld.LINK_CTRL_ENABLE : Fld := ⟨5184, 1, .RW, 0⟩
def Fld.LINK_CTRL_RETRAIN : Fld := ⟨5185, 1, .W1S, 0⟩
def Fld.LINK_CTRL_FULL_TRAIN : Fld := ⟨5186, 1, .W1S, 0⟩
def Fld.LINK_CTRL_ACCEPT_PEER : Fld := ⟨5187, 1, .W1S, 0⟩
def Fld.LINK_CTRL_CAL_EN : Fld := ⟨5188, 1, .RW, 1⟩
def Fld.LINK_CTRL_HALF_WIDTH_EN : Fld := ⟨5189, 1, .RW, 1⟩
def Fld.LINK_CTRL_RATE_MASK : Fld := ⟨5192, 3, .RW, 7⟩
def Fld.LINK_STATUS_STATE : Fld := ⟨5216, 4, .RO, 0x0⟩
def Fld.LINK_STATUS_RATE : Fld := ⟨5220, 2, .RO, 0x0⟩
def Fld.LINK_STATUS_HALF : Fld := ⟨5222, 1, .RO, 0⟩
def Fld.LINK_STATUS_HALF_UPPER : Fld := ⟨5223, 1, .RO, 0⟩
def Fld.LINK_STATUS_SWAPPED : Fld := ⟨5224, 1, .RO, 0⟩
def Fld.LINK_STATUS_UNEXPECTED_PEER : Fld := ⟨5225, 1, .RO, 0⟩
def Fld.LINK_STATUS_SELF : Fld := ⟨5226, 1, .RO, 0⟩
def Fld.LINK_STATUS_LEADER : Fld := ⟨5227, 1, .RO, 0⟩
def Fld.LINK_STATUS_DARNED : Fld := ⟨5228, 1, .RO, 0⟩
def Fld.LINK_STATUS_DARN_LANE : Fld := ⟨5229, 4, .RO, 0x0⟩
def Fld.LINK_STATUS_DARN_FAILED : Fld := ⟨5233, 1, .RO, 0⟩
def Fld.LINK_STATUS_SPARE_LOST : Fld := ⟨5234, 1, .RO, 0⟩
def Fld.LINK_STATUS_CAL_ACTIVE : Fld := ⟨5235, 1, .RO, 0⟩
def Fld.LINK_STATUS_REPLAYING : Fld := ⟨5236, 1, .RO, 0⟩
def Fld.LINK_STATUS_LONG : Fld := ⟨5237, 1, .RO, 0⟩
def Fld.LINK_STATUS_MISWIRE : Fld := ⟨5238, 1, .RO, 0⟩
def Fld.LINK_LANE_MAP : Fld := ⟨5248, 32, .RO, 0x76543210⟩
def Fld.LINK_POLARITY_RX_INV : Fld := ⟨5280, 9, .RO, 0x0⟩
def Fld.LINK_POLARITY_LNS_FROM : Fld := ⟨5292, 4, .RO, 0x8⟩
def Fld.PEER_KEY_ID_LO : Fld := ⟨5312, 32, .RO, 0x0⟩
def Fld.PEER_KEY_ID_HI : Fld := ⟨5344, 32, .RO, 0x0⟩
def Fld.PEER_INFO_PORT : Fld := ⟨5376, 5, .RO, 0x0⟩
def Fld.PEER_INFO_RATES : Fld := ⟨5381, 3, .RO, 0x0⟩
def Fld.PEER_INFO_HALF_OK : Fld := ⟨5384, 1, .RO, 0⟩
def Fld.PEER_INFO_VERIFIED : Fld := ⟨5385, 1, .RO, 0⟩
def Fld.PEER_EXPECT_CTRL_PORT : Fld := ⟨5408, 5, .RW, 0x0⟩
def Fld.PEER_EXPECT_CTRL_VALID : Fld := ⟨5416, 1, .RW, 0⟩
def Fld.PEER_EXPECT_CTRL_ANY_PORT : Fld := ⟨5417, 1, .RW, 0⟩
def Fld.PEER_EXPECT_KEY_ID_LO : Fld := ⟨5440, 32, .RW, 0x0⟩
def Fld.PEER_EXPECT_KEY_ID_HI : Fld := ⟨5472, 32, .RW, 0x0⟩
def Fld.LINK_RTT : Fld := ⟨5504, 16, .RO, 0x0⟩
def Fld.REPLAY_TMO : Fld := ⟨5536, 16, .RW, 0x0⟩
def Fld.REPLAY_MAX : Fld := ⟨5568, 8, .RW, 0x20⟩
def Fld.CAL_CTRL_INTERVAL_MS : Fld := ⟨5600, 16, .RW, 0x3e8⟩
def Fld.CAL_CTRL_DWELL_US : Fld := ⟨5616, 16, .RW, 0xc8⟩
def Fld.LANE_FAIL_CFG_THRESH : Fld := ⟨5632, 16, .RW, 0x800⟩
def Fld.LANE_FAIL_CFG_WINDOW_US : Fld := ⟨5648, 16, .RW, 0x40⟩
def Fld.LINK_OWNER_PARTITION : Fld := ⟨5664, 4, .RO, 0x0⟩
def Fld.LINK_OWNER_KIND : Fld := ⟨5668, 2, .RO, 0x1⟩
def Fld.LINK_OWNER_VCS : Fld := ⟨5670, 4, .RO, 0x4⟩
def Fld.LINK_ERROR_CODE : Fld := ⟨5696, 16, .RO, 0x0⟩
def Fld.LINK_ERROR_MULTI : Fld := ⟨5712, 1, .W1C, 0⟩
def Fld.LINK_ERROR_INFO_JOB_TAG : Fld := ⟨5728, 16, .RO, 0x0⟩
def Fld.LINK_ERROR_INFO_LANE : Fld := ⟨5744, 4, .RO, 0x0⟩
def Fld.LINK_ERROR_INFO_VALID : Fld := ⟨5759, 1, .W1C, 0⟩
def Fld.LINK_FEC_CORR : Fld := ⟨5760, 32, .RC, 0x0⟩
def Fld.LINK_FEC_UNCORR : Fld := ⟨5792, 32, .RC, 0x0⟩
def Fld.LINK_CRC_ERR : Fld := ⟨5824, 32, .RC, 0x0⟩
def Fld.LINK_CTAG_FAIL : Fld := ⟨5856, 32, .RC, 0x0⟩
def Fld.LINK_DUP : Fld := ⟨5888, 32, .RC, 0x0⟩
def Fld.LINK_NAK_TX : Fld := ⟨5920, 32, .RC, 0x0⟩
def Fld.LINK_NAK_RX : Fld := ⟨5952, 32, .RC, 0x0⟩
def Fld.LINK_TMO : Fld := ⟨5984, 32, .RC, 0x0⟩
def Fld.LINK_REPLAYS : Fld := ⟨6016, 32, .RC, 0x0⟩
def Fld.LINK_REPLAY_FRAMES : Fld := ⟨6048, 32, .RC, 0x0⟩
def Fld.LINK_DARNS : Fld := ⟨6080, 32, .RC, 0x0⟩
def Fld.LINK_RETRAINS : Fld := ⟨6112, 32, .RC, 0x0⟩
def Fld.LINK_OVERRUN : Fld := ⟨6144, 32, .RC, 0x0⟩
def Fld.LINK_AUTH_FAIL : Fld := ⟨6176, 32, .RC, 0x0⟩
def Fld.LINK_PROTO_ERR : Fld := ⟨6208, 32, .RC, 0x0⟩
def Fld.LANE_ERR : Fld := ⟨6240, 32, .RC, 0x0⟩
def Fld.ROUTE_STATUS : Fld := ⟨6272, 6, .RO, 0x20⟩
def Fld.ROUTE_ERROR_CODE : Fld := ⟨6304, 16, .RO, 0x0⟩
def Fld.ROUTE_ERROR_MULTI : Fld := ⟨6320, 1, .W1C, 0⟩
def Fld.ROUTE_ERROR_INFO_JOB_TAG : Fld := ⟨6336, 16, .RO, 0x0⟩
def Fld.ROUTE_ERROR_INFO_PORT : Fld := ⟨6352, 5, .RO, 0x0⟩
def Fld.ROUTE_ERROR_INFO_VALID : Fld := ⟨6367, 1, .W1C, 0⟩
def Fld.ROUTE_TBL_INDEX_ENTRY : Fld := ⟨6368, 8, .RW, 0x0⟩
def Fld.ROUTE_TBL_INDEX_EPOCH : Fld := ⟨6376, 1, .RW, 0⟩
def Fld.ROUTE_TBL_INDEX_SLOT : Fld := ⟨6377, 5, .RW, 0x0⟩
def Fld.ROUTE_TBL_INDEX_AUTO : Fld := ⟨6382, 1, .RW, 0⟩
def Fld.ROUTE_TBL_RANKS : Fld := ⟨6400, 32, .RW, 0x0⟩
def Fld.ROUTE_TBL_PORTS : Fld := ⟨6432, 32, .RW, 0x0⟩
def Fld.ROUTE_TBL_ATTR : Fld := ⟨6464, 5, .RW, 0x0⟩
def Fld.ROUTE_TBL_STATUS_CODE : Fld := ⟨6496, 16, .RO, 0x0⟩
def Fld.ROUTE_TBL_STATUS_REJECT : Fld := ⟨6512, 1, .W1C, 0⟩
def Fld.SLOT_CFG_JOB_TAG : Fld := ⟨6528, 16, .RW, 0x0⟩
def Fld.SLOT_CFG_KIND : Fld := ⟨6544, 1, .RW, 0⟩
def Fld.SLOT_CFG_PARTITION : Fld := ⟨6545, 4, .RW, 0x0⟩
def Fld.SLOT_CFG_EPOCH : Fld := ⟨6549, 1, .RW, 0⟩
def Fld.SLOT_RANK : Fld := ⟨6560, 16, .RW, 0x0⟩
def Fld.SLOT_PORTS0 : Fld := ⟨6592, 32, .RW, 0x0⟩
def Fld.SLOT_PORTS1 : Fld := ⟨6624, 32, .RW, 0x0⟩
def Fld.SLOT_CTRL_ACTIVATE : Fld := ⟨6656, 1, .W1S, 0⟩
def Fld.SLOT_CTRL_DRAIN : Fld := ⟨6657, 1, .W1S, 0⟩
def Fld.SLOT_CTRL_CLOSE : Fld := ⟨6658, 1, .W1S, 0⟩
def Fld.SLOT_CTRL_SWITCH_ARM : Fld := ⟨6659, 1, .W1S, 0⟩
def Fld.SLOT_CTRL_SWITCH_ABORT : Fld := ⟨6660, 1, .W1S, 0⟩
def Fld.SLOT_STATUS_STATE : Fld := ⟨6688, 2, .RO, 0x0⟩
def Fld.SLOT_STATUS_SWITCH_PENDING : Fld := ⟨6690, 1, .RO, 0⟩
def Fld.SLOT_STATUS_SWITCH_DONE : Fld := ⟨6691, 1, .W1C, 0⟩
def Fld.SLOT_STATUS_CANCELLED : Fld := ⟨6692, 1, .W1C, 0⟩
def Fld.SLOT_STATUS_REJECT : Fld := ⟨6693, 1, .W1C, 0⟩
def Fld.SLOT_STATUS_CODE : Fld := ⟨6704, 16, .RO, 0x0⟩
def Fld.SLOT_SWITCH_TIME_LO : Fld := ⟨6720, 32, .RW, 0x0⟩
def Fld.SLOT_SWITCH_TIME_HI : Fld := ⟨6752, 32, .RW, 0x0⟩
def Fld.SLOT_GUARD : Fld := ⟨6784, 16, .RW, 0x96⟩
def Fld.SLOT_PKTS : Fld := ⟨6816, 32, .RO, 0x0⟩
def Fld.SLOT_HELD : Fld := ⟨6848, 24, .RO, 0x0⟩
def Fld.ROUTE_FOREIGN : Fld := ⟨6880, 32, .RC, 0x0⟩
def Fld.ROUTE_FOREIGN_TAG : Fld := ⟨6912, 16, .RO, 0x0⟩
def Fld.ROUTE_FOREIGN_CTL : Fld := ⟨6944, 32, .RC, 0x0⟩
def Fld.ROUTE_TRANSIT : Fld := ⟨6976, 32, .RC, 0x0⟩
def Fld.ROUTE_DISCARD : Fld := ⟨7008, 32, .RC, 0x0⟩
def Fld.CLK_CTRL_REF_PRI0 : Fld := ⟨7040, 2, .RWS, 0x0⟩
def Fld.CLK_CTRL_REF_PRI1 : Fld := ⟨7042, 2, .RWS, 0x1⟩
def Fld.CLK_CTRL_REF_PRI2 : Fld := ⟨7044, 2, .RWS, 0x2⟩
def Fld.CLK_CTRL_AUTO : Fld := ⟨7046, 1, .RWS, 1⟩
def Fld.CLK_STATUS_REF_SEL : Fld := ⟨7072, 2, .RO, 0x2⟩
def Fld.CLK_STATUS_PLL_LOCKED : Fld := ⟨7074, 1, .RO, 0⟩
def Fld.CLK_STATUS_CLK_HOLDOVER : Fld := ⟨7075, 1, .RO, 0⟩
def Fld.CLK_STATUS_REFCLK_OK : Fld := ⟨7076, 1, .RO, 0⟩
def Fld.CLK_STATUS_RECOVERED_OK : Fld := ⟨7077, 1, .RO, 0⟩
def Fld.CLK_STATUS_AO_LOCKED : Fld := ⟨7078, 1, .RO, 0⟩
def Fld.CLK_STATUS_LOR : Fld := ⟨7079, 1, .W1C, 0⟩
def Fld.CLK_STATUS_REF_SWITCHED : Fld := ⟨7080, 1, .W1C, 0⟩
def Fld.CLK_DIE_STEP : Fld := ⟨7104, 32, .RO, 0⟩
def Fld.CLK_STEP_COUNT : Fld := ⟨7136, 32, .RC, 0x0⟩
def Fld.TIME_COPY_FIX : Fld := ⟨7168, 32, .RC, 0x0⟩
def Fld.TIME_MODE : Fld := ⟨7200, 1, .RWS, 0⟩
def Fld.TIME_CTRL_ROLE : Fld := ⟨7232, 2, .RWS, 0x0⟩
def Fld.TIME_CTRL_ACCEPT_STEP : Fld := ⟨7234, 1, .W1S, 0⟩
def Fld.TIME_CTRL_PPS_IN_EN : Fld := ⟨7235, 1, .RWS, 0⟩
def Fld.TIME_CTRL_PPS_OUT_EN : Fld := ⟨7236, 1, .RWS, 0⟩
def Fld.TIME_STATUS_STATE : Fld := ⟨7264, 3, .RO, 0x0⟩
def Fld.TIME_STATUS_SET : Fld := ⟨7267, 1, .RO, 0⟩
def Fld.TIME_STATUS_JUMP_REFUSED : Fld := ⟨7268, 1, .W1C, 0⟩
def Fld.TIME_STATUS_PPS_MISSING : Fld := ⟨7269, 1, .RO, 0⟩
def Fld.TIME_STATUS_COARSE : Fld := ⟨7270, 1, .RO, 0⟩
def Fld.TIME_STATUS_CMD_REJECT : Fld := ⟨7271, 1, .W1C, 0⟩
def Fld.TIME_STATUS_PARENT : Fld := ⟨7272, 5, .RO, 0x0⟩
def Fld.TIME_STATUS_PARENT_VALID : Fld := ⟨7277, 1, .RO, 0⟩
def Fld.TIME_STATUS_HOPS : Fld := ⟨7278, 4, .RO, 0x0⟩
def Fld.TIME_STATUS_GM_HOLDOVER : Fld := ⟨7282, 1, .RO, 0⟩
def Fld.TIME_STATUS_ACCEPT_ARMED : Fld := ⟨7283, 1, .RO, 0⟩
def Fld.TIME_JUMPS : Fld := ⟨7296, 32, .RC, 0x0⟩
def Fld.TIME_JUMP_LIMIT : Fld := ⟨7328, 24, .RWS, 0x3e8⟩
def Fld.TIME_PERIOD : Fld := ⟨7360, 10, .RWS, 0x40⟩
def Fld.TIME_DOMAIN_DOMAIN : Fld := ⟨7392, 8, .RWS, 0x0⟩
def Fld.TIME_DOMAIN_MAX_HOPS : Fld := ⟨7400, 4, .RWS, 0xf⟩
def Fld.TIME_PARENTS_PORT0 : Fld := ⟨7424, 5, .RWS, 0x0⟩
def Fld.TIME_PARENTS_PORT1 : Fld := ⟨7432, 5, .RWS, 0x0⟩
def Fld.TIME_PARENTS_PORT2 : Fld := ⟨7440, 5, .RWS, 0x0⟩
def Fld.TIME_PARENTS_PORT3 : Fld := ⟨7448, 5, .RWS, 0x0⟩
def Fld.TIME_PARENTS_V0_V30 : Fld := ⟨7431, 1, .RWS, 0⟩
def Fld.TIME_PARENTS_V0_V31 : Fld := ⟨7439, 1, .RWS, 0⟩
def Fld.TIME_PARENTS_V0_V32 : Fld := ⟨7447, 1, .RWS, 0⟩
def Fld.TIME_PARENTS_V0_V33 : Fld := ⟨7455, 1, .RWS, 0⟩
def Fld.TIME_NOW_LO : Fld := ⟨7456, 32, .RO, 0x0⟩
def Fld.TIME_NOW_HI : Fld := ⟨7488, 32, .RO, 0x0⟩
def Fld.TIME_NOW_EXT : Fld := ⟨7520, 20, .RO, 0x0⟩
def Fld.TIME_OFFSET_LO : Fld := ⟨7552, 32, .RO, 0x0⟩
def Fld.TIME_OFFSET_HI : Fld := ⟨7584, 32, .RO, 0x0⟩
def Fld.TIME_RATE_LO : Fld := ⟨7616, 32, .RWS, 0x0⟩
def Fld.TIME_RATE_HI : Fld := ⟨7648, 32, .RWS, 0x0⟩
def Fld.TIME_STEP_LO : Fld := ⟨7680, 32, .WO, 0x0⟩
def Fld.TIME_STEP_HI : Fld := ⟨7712, 32, .WO, 0x0⟩
def Fld.TIME_S_OFFSET_LO : Fld := ⟨7744, 32, .RWS, 0x0⟩
def Fld.TIME_S_OFFSET_HI : Fld := ⟨7776, 32, .RWS, 0x0⟩
def Fld.TIME_S_OFFSET_EXT : Fld := ⟨7808, 20, .RWS, 0x0⟩
def Fld.TIME_THETA : Fld := ⟨7840, 32, .RO, 0x0⟩
def Fld.TIME_TOD_CHANGES : Fld := ⟨7872, 32, .RC, 0x0⟩
def Fld.TIME_PPS_LO : Fld := ⟨7904, 32, .RO, 0x0⟩
def Fld.TIME_PPS_HI : Fld := ⟨7936, 32, .RO, 0x0⟩
def Fld.TIME_PPS_EXT : Fld := ⟨7968, 20, .RO, 0x0⟩
def Fld.PPS_OUT_CFG : Fld := ⟨8000, 16, .RWS, 0x64⟩
def Fld.TIME_GM_ID : Fld := ⟨8032, 32, .RO, 0x0⟩
def Fld.TIME_ERROR_CODE : Fld := ⟨8064, 16, .RO, 0x0⟩
def Fld.TIME_ERROR_MULTI : Fld := ⟨8080, 1, .W1C, 0⟩
def Fld.TIME_ERROR_VALID : Fld := ⟨8095, 1, .W1C, 0⟩
def Fld.TPORT_STATUS_ANNOUNCE_OK : Fld := ⟨8096, 1, .RO, 0⟩
def Fld.TPORT_STATUS_PEER_SYNCED : Fld := ⟨8097, 1, .RO, 0⟩
def Fld.TPORT_STATUS_PEER_HOPS : Fld := ⟨8098, 4, .RO, 0x0⟩
def Fld.TPORT_STATUS_REFUSED : Fld := ⟨8102, 1, .RO, 0⟩
def Fld.TPORT_STATUS_ASYM_VALID : Fld := ⟨8103, 1, .RO, 0⟩
def Fld.TPORT_STATUS_MEASURING : Fld := ⟨8104, 1, .RO, 0⟩
def Fld.TPORT_OFFSET : Fld := ⟨8128, 32, .RO, 0x0⟩
def Fld.TPORT_DELAY : Fld := ⟨8160, 24, .RO, 0x0⟩
def Fld.TPORT_ASYM : Fld := ⟨8192, 32, .RO, 0x0⟩
def Fld.TPORT_ASYM_ADJ : Fld := ⟨8224, 32, .RWS, 0x0⟩
def Fld.TPORT_LOST : Fld := ⟨8256, 32, .RC, 0x0⟩
def Fld.TPORT_EXCH : Fld := ⟨8288, 32, .RC, 0x0⟩
def Fld.HBM_STATUS_STATE : Fld := ⟨8320, 3, .RO, 0x0⟩
def Fld.HBM_STATUS_REFRESH_X2 : Fld := ⟨8323, 1, .RO, 0⟩
def Fld.HBM_STATUS_TEMP_C : Fld := ⟨8328, 8, .RO, 0x0⟩
def Fld.HBM_STATUS_RINSE_NEXT : Fld := ⟨8336, 5, .RO, 0x0⟩
def Fld.HBM_PC_FAIL : Fld := ⟨8352, 32, .RO, 0x0⟩
def Fld.HBM_CE : Fld := ⟨8384, 32, .RC, 0x0⟩
def Fld.HBM_UE : Fld := ⟨8416, 32, .RC, 0x0⟩
def Fld.HBM_UE_ADDR_LO : Fld := ⟨8448, 32, .RO, 0x0⟩
def Fld.HBM_UE_ADDR_HI_ADDR : Fld := ⟨8480, 5, .RO, 0x0⟩
def Fld.HBM_UE_ADDR_HI_VALID : Fld := ⟨8511, 1, .W1C, 0⟩
def Fld.HBM_ODECC : Fld := ⟨8512, 32, .RC, 0x0⟩
def Fld.HBM_SCRUB_EN : Fld := ⟨8544, 1, .RW, 1⟩
def Fld.HBM_SCRUB_PERIOD_H : Fld := ⟨8552, 8, .RW, 0x18⟩
def Fld.HBM_SCRUB_PASSES : Fld := ⟨8560, 16, .RO, 0x0⟩
def Fld.HBM_RINSES : Fld := ⟨8576, 32, .RC, 0x0⟩
def Fld.HBM_RINSE_FAILS : Fld := ⟨8608, 32, .RC, 0x0⟩
def Fld.HBM_ERROR_CODE : Fld := ⟨8640, 16, .RO, 0x0⟩
def Fld.HBM_ERROR_MULTI : Fld := ⟨8656, 1, .W1C, 0⟩
def Fld.HBM_ERROR_VALID : Fld := ⟨8671, 1, .W1C, 0⟩
def Fld.HBM_SLICE_PARTITION : Fld := ⟨8672, 4, .RO, 0x0⟩
def Fld.HBM_SLICE_OWNED : Fld := ⟨8676, 1, .RO, 1⟩
def Fld.HBM_SLICE_TENANT : Fld := ⟨8677, 1, .RO, 0⟩
def Fld.HBM_SLICE_HDM_MODE : Fld := ⟨8678, 1, .RW, 0⟩
def Fld.HBM_KEYS : Fld := ⟨8704, 16, .RO, 0x0⟩
def Fld.HBM_READY : Fld := ⟨8736, 16, .RO, 0x0⟩
def Fld.HBM_HDM_DENY : Fld := ⟨8768, 32, .RC, 0x0⟩
def Fld.HBM_HDM_DENY_INFO_SLICE : Fld := ⟨8800, 8, .RO, 0x0⟩
def Fld.HBM_HDM_DENY_INFO_WRITE : Fld := ⟨8808, 1, .RO, 0⟩
def Fld.HBM_HDM_DENY_INFO_VALID : Fld := ⟨8831, 1, .W1C, 0⟩
def Fld.HBM_G_ERROR_CODE : Fld := ⟨8832, 16, .RO, 0x0⟩
def Fld.HBM_G_ERROR_MULTI : Fld := ⟨8848, 1, .W1C, 0⟩
def Fld.PLINTH_CTRL_INSTALL : Fld := ⟨8864, 1, .W1S, 0⟩
def Fld.PLINTH_CTRL_DELETE : Fld := ⟨8865, 1, .W1S, 0⟩
def Fld.PLINTH_CTRL_AUDIT_EN : Fld := ⟨8866, 1, .RW, 1⟩
def Fld.PLINTH_STATUS_OP : Fld := ⟨8896, 2, .RO, 0x0⟩
def Fld.PLINTH_STATUS_DONE : Fld := ⟨8898, 1, .W1C, 0⟩
def Fld.PLINTH_STATUS_FAILED : Fld := ⟨8899, 1, .W1C, 0⟩
def Fld.PLINTH_STATUS_CODE : Fld := ⟨8912, 16, .RO, 0x0⟩
def Fld.PLINTH_SRC_LO : Fld := ⟨8928, 32, .RW, 0x0⟩
def Fld.PLINTH_SRC_HI : Fld := ⟨8960, 32, .RW, 0x0⟩
def Fld.PLINTH_NONCE : Fld := ⟨8992, 32, .RO, 0x0⟩
def Fld.PLINTH_FREE : Fld := ⟨9024, 17, .RO, 0⟩
def Fld.PLINTH_OBJ_SEL : Fld := ⟨9056, 10, .RW, 0x0⟩
def Fld.PLINTH_OBJ_INFO_STATE : Fld := ⟨9088, 3, .RO, 0⟩
def Fld.PLINTH_OBJ_INFO_LAYERS : Fld := ⟨9092, 13, .RO, 0⟩
def Fld.PLINTH_OBJ_INFO_BINDS : Fld := ⟨9105, 13, .RO, 0x0⟩
def Fld.PLINTH_OBJ_SIZE_LO : Fld := ⟨9120, 32, .RO, 0⟩
def Fld.PLINTH_OBJ_SIZE_HI : Fld := ⟨9152, 32, .RO, 0⟩
def Fld.PLINTH_OBJ_PUB_LO : Fld := ⟨9184, 32, .RO, 0⟩
def Fld.PLINTH_OBJ_PUB_HI : Fld := ⟨9216, 32, .RO, 0⟩
def Fld.PLINTH_OBJ_VERSION : Fld := ⟨9248, 32, .RO, 0⟩
def Fld.PLINTH_CE : Fld := ⟨9280, 32, .RC, 0x0⟩
def Fld.PLINTH_UE : Fld := ⟨9312, 32, .RC, 0x0⟩
def Fld.PLINTH_AUDIT : Fld := ⟨9344, 16, .RO, 0x0⟩
def Fld.PLINTH_ERROR_CODE : Fld := ⟨9376, 16, .RO, 0x0⟩
def Fld.PLINTH_ERROR_MULTI : Fld := ⟨9392, 1, .W1C, 0⟩
def Fld.BIND_INDEX_INDEX : Fld := ⟨9408, 12, .RW, 0x0⟩
def Fld.BIND_INDEX_AUTO : Fld := ⟨9420, 1, .RW, 0⟩
def Fld.BIND_W : Fld := ⟨9440, 32, .RW, 0x0⟩
def Fld.BIND_STATUS_CODE : Fld := ⟨9472, 16, .RO, 0x0⟩
def Fld.BIND_STATUS_REJECT : Fld := ⟨9488, 1, .W1C, 0⟩
def Fld.REPL_CTRL_ARM : Fld := ⟨9504, 1, .W1S, 0⟩
def Fld.REPL_CTRL_ABORT : Fld := ⟨9505, 1, .W1S, 0⟩
def Fld.REPL_CTRL_FINISH : Fld := ⟨9506, 1, .W1S, 0⟩
def Fld.REPL_CTRL_MODE : Fld := ⟨9507, 1, .RW, 0⟩
def Fld.REPL_BIND_BIND : Fld := ⟨9536, 12, .RW, 0x0⟩
def Fld.REPL_BIND_NEW_OBJECT : Fld := ⟨9552, 10, .RW, 0x0⟩
def Fld.REPL_TICK_LO : Fld := ⟨9568, 32, .RW, 0x0⟩
def Fld.REPL_TICK_HI : Fld := ⟨9600, 32, .RW, 0x0⟩
def Fld.REPL_STRIDE : Fld := ⟨9632, 16, .RW, 0x1⟩
def Fld.REPL_DESC_LO : Fld := ⟨9664, 32, .RW, 0x0⟩
def Fld.REPL_DESC_HI : Fld := ⟨9696, 32, .RW, 0x0⟩
def Fld.REPL_STATUS_STATE : Fld := ⟨9728, 3, .RO, 0x0⟩
def Fld.REPL_STATUS_PARTIAL : Fld := ⟨9731, 1, .W1C, 0⟩
def Fld.REPL_STATUS_CODE : Fld := ⟨9744, 16, .RO, 0x0⟩
def Fld.REPL_DONE_LAYER_LAYER : Fld := ⟨9760, 13, .RO, 0x0⟩
def Fld.REPL_DONE_LAYER_VALID : Fld := ⟨9791, 1, .RO, 0⟩
def Fld.SRV_INFO_LIVE : Fld := ⟨9792, 15, .RO, 0x0⟩
def Fld.SRV_INFO_SERVING : Fld := ⟨9808, 4, .RO, 0x0⟩
def Fld.SRV_MAP_INDEX_INDEX : Fld := ⟨9824, 16, .RW, 0x0⟩
def Fld.SRV_MAP_INDEX_AUTO : Fld := ⟨9840, 1, .RW, 0⟩
def Fld.SRV_MAP_LO : Fld := ⟨9856, 32, .RO, 0x0⟩
def Fld.SRV_MAP_HI : Fld := ⟨9888, 32, .RO, 0x0⟩
def Fld.SRV_MAP_COUNT : Fld := ⟨9920, 17, .RO, 0x0⟩
def Fld.SRV_CFG_ADMIT : Fld := ⟨9952, 1, .RW, 0⟩
def Fld.SRV_CFG_LAG : Fld := ⟨9953, 3, .RW, 0x1⟩
def Fld.SRV_CFG_ADMIT_PER_TICK : Fld := ⟨9956, 9, .RW, 0x40⟩
def Fld.SRV_GEOM0_DEC_SLOTS : Fld := ⟨9984, 15, .RO, 0x0⟩
def Fld.SRV_GEOM0_DEC_SLOT_TOKENS : Fld := ⟨9999, 9, .RO, 0x0⟩
def Fld.SRV_GEOM1_PRE_SLOTS : Fld := ⟨10016, 9, .RO, 0x0⟩
def Fld.SRV_GEOM1_PRE_CHUNK : Fld := ⟨10025, 14, .RO, 0x0⟩
def Fld.SRV_GEOM2_SEQ_BASE : Fld := ⟨10048, 15, .RO, 0x0⟩
def Fld.SRV_GEOM2_SEQ_MAX : Fld := ⟨10064, 15, .RO, 0x0⟩
def Fld.SRV_KV_CFG_BLOCK_LOG2 : Fld := ⟨10080, 4, .RW, 0x4⟩
def Fld.SRV_KV_CFG_MAX_BLOCKS_PER_SEQ : Fld := ⟨10084, 13, .RW, 0x1⟩
def Fld.SRV_KV_BLOCKS : Fld := ⟨10112, 24, .RW, 0x0⟩
def Fld.SRV_KV_TABLE_LO : Fld := ⟨10144, 32, .RW, 0x0⟩
def Fld.SRV_KV_TABLE_HI : Fld := ⟨10176, 32, .RW, 0x0⟩
def Fld.SRV_VOCAB : Fld := ⟨10208, 21, .RW, 0x0⟩
def Fld.SRV_ADMIT_THROUGH_LO : Fld := ⟨10240, 32, .RW, 0x0⟩
def Fld.SRV_ADMIT_THROUGH_HI : Fld := ⟨10272, 32, .RW, 0x0⟩
def Fld.SRV_STATUS_BUILDING : Fld := ⟨10304, 1, .RO, 0⟩
def Fld.SRV_STATUS_WAIT_HOST : Fld := ⟨10305, 1, .RO, 0⟩
def Fld.SRV_STATUS_WAIT_SAMPLE : Fld := ⟨10306, 1, .RO, 0⟩
def Fld.SRV_STATUS_MODE_FORCED : Fld := ⟨10307, 1, .W1C, 0⟩
def Fld.SRV_STATUS_CMD_REJECT : Fld := ⟨10308, 1, .W1C, 0⟩
def Fld.SRV_LIVE_LIVE : Fld := ⟨10336, 15, .RO, 0x0⟩
def Fld.SRV_LIVE_QUEUED : Fld := ⟨10352, 16, .RO, 0x0⟩
def Fld.SRV_KV_FREE : Fld := ⟨10368, 24, .RO, 0x0⟩
def Fld.SRV_BUILT_TICK_LO : Fld := ⟨10400, 32, .RO, 0x0⟩
def Fld.SRV_BUILT_TICK_HI : Fld := ⟨10432, 32, .RO, 0x0⟩
def Fld.SRV_ADMITTED : Fld := ⟨10464, 32, .RC, 0x0⟩
def Fld.SRV_REJECTED : Fld := ⟨10496, 32, .RC, 0x0⟩
def Fld.SRV_TOKENS_LO : Fld := ⟨10528, 32, .RO, 0x0⟩
def Fld.SRV_TOKENS_HI : Fld := ⟨10560, 32, .RO, 0x0⟩
def Fld.SRV_ERROR_CODE : Fld := ⟨10592, 16, .RO, 0x0⟩
def Fld.SRV_ERROR_MULTI : Fld := ⟨10608, 1, .W1C, 0⟩
def Fld.SRV_ERROR_INFO_SEQ : Fld := ⟨10624, 14, .RO, 0x0⟩
def Fld.SRV_ERROR_INFO_VALID : Fld := ⟨10655, 1, .W1C, 0⟩
def Fld.DOORBELL : Fld := ⟨10656, 16, .WO, 0x0⟩
def Fld.Q_BASE_LO : Fld := ⟨10688, 32, .RW, 0x0⟩
def Fld.Q_BASE_HI : Fld := ⟨10720, 32, .RW, 0x0⟩
def Fld.Q_CFG_ENABLE : Fld := ⟨10752, 1, .RW, 0⟩
def Fld.Q_CFG_SIZE_LOG2 : Fld := ⟨10753, 4, .RW, 0x4⟩
def Fld.Q_CFG_COHERENT : Fld := ⟨10757, 1, .RW, 0⟩
def Fld.Q_CFG_IRQ_EN : Fld := ⟨10758, 1, .RW, 0⟩
def Fld.Q_STATUS_STATE : Fld := ⟨10784, 2, .RO, 0x0⟩
def Fld.Q_STATUS_DB_ERR : Fld := ⟨10786, 1, .W1C, 0⟩
def Fld.Q_STATUS_CFG_REJECT : Fld := ⟨10787, 1, .W1C, 0⟩
def Fld.Q_STATUS_BOUND : Fld := ⟨10788, 1, .RO, 0⟩
def Fld.Q_STATUS_CODE : Fld := ⟨10800, 16, .RO, 0x0⟩
def Fld.Q_INDEX_PI : Fld := ⟨10816, 16, .RO, 0x0⟩
def Fld.Q_INDEX_CI : Fld := ⟨10832, 16, .RO, 0x0⟩
def Fld.Q_SHADOW_LO : Fld := ⟨10848, 32, .RW, 0x0⟩
def Fld.Q_SHADOW_HI : Fld := ⟨10880, 32, .RW, 0x0⟩
def Fld.Q_IRQ_COUNT : Fld := ⟨10912, 16, .RW, 0x1⟩
def Fld.Q_IRQ_DELAY_US : Fld := ⟨10928, 16, .RW, 0x0⟩
def Fld.HOST_LINK_MODE : Fld := ⟨10944, 4, .RO, 0x0⟩
def Fld.HOST_LINK_RATE : Fld := ⟨10948, 4, .RO, 0x0⟩
def Fld.HOST_LINK_WIDTH : Fld := ⟨10952, 5, .RO, 0x0⟩
def Fld.HOST_LINK_FLIT : Fld := ⟨10957, 1, .RO, 0⟩
def Fld.HOST_LINK_MEM_ON : Fld := ⟨10958, 1, .RO, 0⟩
def Fld.HOST_LINK_CACHE_ON : Fld := ⟨10959, 1, .RO, 0⟩
def Fld.HOST_LINK_CFG_L0P_EN : Fld := ⟨10976, 1, .RW, 0⟩
def Fld.HOST_LINK_CFG_L1_EN : Fld := ⟨10977, 1, .RW, 0⟩
def Fld.INT_STATUS_LO : Fld := ⟨11008, 32, .W1C, 0x0⟩
def Fld.INT_STATUS_HI : Fld := ⟨11040, 32, .W1C, 0x0⟩
def Fld.INT_MODE : Fld := ⟨11072, 2, .RO, 0x0⟩
def Fld.HOST_ERROR_CODE : Fld := ⟨11104, 16, .RO, 0x0⟩
def Fld.HOST_ERROR_MULTI : Fld := ⟨11120, 1, .W1C, 0⟩
def Fld.HOST_ERROR_INFO_QUEUE : Fld := ⟨11136, 7, .RO, 0x0⟩
def Fld.HOST_ERROR_INFO_VALID : Fld := ⟨11167, 1, .W1C, 0⟩
def Fld.HOST_HDM_HOLE : Fld := ⟨11168, 32, .RC, 0x0⟩
def Fld.HOST_IDE_STATUS_LINK_SECURE : Fld := ⟨11200, 1, .RO, 0⟩
def Fld.HOST_IDE_STATUS_SEL_SECURE : Fld := ⟨11201, 4, .RO, 0x0⟩
def Fld.HOST_IDE_STATUS_CM_SECURE : Fld := ⟨11205, 1, .RO, 0⟩
def Fld.HOST_IDE_STATUS_FAIL : Fld := ⟨11206, 1, .W1C, 0⟩
def Fld.HOST_RESETS : Fld := ⟨11232, 32, .RO, 0x0⟩
def Fld.SEC_STATUS_OPERATOR : Fld := ⟨11264, 1, .RO, 0⟩
def Fld.SEC_STATUS_FA_ACTIVE : Fld := ⟨11265, 1, .RO, 0⟩
def Fld.SEC_STATUS_OBSERVE : Fld := ⟨11266, 1, .RO, 0⟩
def Fld.SEC_STATUS_IDE_REQUIRED : Fld := ⟨11267, 1, .RO, 0⟩
def Fld.SEC_STATUS_OPEN_ALLOWED : Fld := ⟨11268, 1, .RO, 0⟩
def Fld.SEC_STATUS_FA_FUSED : Fld := ⟨11269, 1, .RO, Config.faFused⟩
def Fld.SEC_STATUS_PUBLISHERS : Fld := ⟨11270, 7, .RO, 0⟩
def Fld.SEC_OPERATOR_ID_LO : Fld := ⟨11296, 32, .RO, 0⟩
def Fld.SEC_OPERATOR_ID_HI : Fld := ⟨11328, 32, .RO, 0⟩
def Fld.SEC_BOUND_TENANT : Fld := ⟨11360, 16, .RO, 0x0⟩
def Fld.SEC_BOUND_DEBUG : Fld := ⟨11376, 16, .RO, 0x0⟩
def Fld.SEC_NONCE : Fld := ⟨11392, 32, .RO, 0x0⟩
def Fld.SEC_KFLOOR_LO : Fld := ⟨11424, 32, .RO, 0⟩
def Fld.SEC_KFLOOR_HI : Fld := ⟨11456, 32, .RO, 0⟩
def Fld.MBX_CMD_OP : Fld := ⟨11488, 8, .RW, 0x0⟩
def Fld.MBX_CMD_PART : Fld := ⟨11496, 4, .RW, 0x0⟩
def Fld.MBX_ARG_LO : Fld := ⟨11520, 32, .RW, 0x0⟩
def Fld.MBX_ARG_HI : Fld := ⟨11552, 32, .RW, 0x0⟩
def Fld.MBX_CTRL : Fld := ⟨11584, 1, .W1S, 0⟩
def Fld.MBX_STATUS_BUSY : Fld := ⟨11616, 1, .RO, 0⟩
def Fld.MBX_STATUS_DONE : Fld := ⟨11617, 1, .W1C, 0⟩
def Fld.MBX_STATUS_CODE : Fld := ⟨11632, 16, .RO, 0x0⟩
def Fld.SEC_ERROR_CODE : Fld := ⟨11648, 16, .RO, 0x0⟩
def Fld.SEC_ERROR_MULTI : Fld := ⟨11664, 1, .W1C, 0⟩
def Fld.SEC_PART_BOUND : Fld := ⟨11680, 1, .RO, 0⟩
def Fld.SEC_PART_DEBUG : Fld := ⟨11681, 1, .RO, 0⟩
def Fld.SEC_PART_HBM_TENANT : Fld := ⟨11682, 1, .RO, 0⟩
def Fld.SEC_PART_CKID_BOUND : Fld := ⟨11683, 1, .RO, 0⟩
def Fld.SEC_PART_QUEUES_BOUND : Fld := ⟨11684, 1, .RO, 0⟩
def Fld.SEC_PART_KGEN0 : Fld := ⟨11685, 2, .RO, 0x0⟩
def Fld.SEC_PART_KGEN1 : Fld := ⟨11687, 2, .RO, 0x0⟩
def Fld.SEC_PART_SEND_KGEN : Fld := ⟨11689, 1, .RO, 0⟩
def Fld.SEC_PART_SWITCH_PENDING : Fld := ⟨11690, 1, .RO, 0⟩
def Fld.SEC_TENANT_ID_LO : Fld := ⟨11712, 32, .RO, 0x0⟩
def Fld.SEC_TENANT_ID_HI : Fld := ⟨11744, 32, .RO, 0x0⟩
def Fld.SEC_DEBUG_LEFT : Fld := ⟨11776, 32, .RO, 0x0⟩
def Fld.CONTROL_OWNER_PLAN_MGMT : Fld := ⟨11808, 1, .RO, 0⟩
def Fld.CONTROL_OWNER_CLAIM : Fld := ⟨11809, 1, .W1S, 0⟩
def Fld.POWER_ENVELOPE : Fld := ⟨11840, 13, .RW, 0xce4⟩
def Fld.POWER_CAP : Fld := ⟨11872, 13, .RW, 0xce4⟩
def Fld.CLOCK_CAP : Fld := ⟨11904, 2, .RW, 0x0⟩
def Fld.MGMT_STATUS_BUS_A : Fld := ⟨11936, 2, .RO, 0x0⟩
def Fld.MGMT_STATUS_BUS_B : Fld := ⟨11938, 2, .RO, 0x0⟩
def Fld.MGMT_STATUS_ALERT : Fld := ⟨11940, 1, .RO, 0⟩
def Fld.MGMT_STATUS_FAULT : Fld := ⟨11941, 1, .RO, 1⟩
def Fld.MGMT_STATUS_THERM : Fld := ⟨11942, 1, .RO, 0⟩
def Fld.MGMT_STATUS_ACTIVATE_PENDING : Fld := ⟨11943, 1, .RO, 0⟩
def Fld.MGMT_STATUS_UPDATING : Fld := ⟨11944, 1, .RO, 0⟩
def Fld.FW_INFO_VERSION_MINOR : Fld := ⟨11968, 16, .RO, Config.fwVersion⟩
def Fld.FW_INFO_SVN : Fld := ⟨11984, 7, .RO, Config.fwSvn⟩
def Fld.FW_INFO_FLOOR : Fld := ⟨11991, 7, .RO, Config.fwFloor⟩
def Fld.MGMT_EVENTS_LOST : Fld := ⟨12000, 32, .RC, 0x0⟩
def Fld.MGMT_BAD_MSG : Fld := ⟨12032, 32, .RC, 0x0⟩
def Fld.MGMT_ERROR_CODE : Fld := ⟨12064, 16, .RO, 0x0⟩
def Fld.MGMT_ERROR_MULTI : Fld := ⟨12080, 1, .W1C, 0⟩
def Fld.MGMT_ERROR_VALID : Fld := ⟨12095, 1, .W1C, 0⟩
def Fld.RESET_CAUSE_POR_COLD : Fld := ⟨12096, 1, .W1C, 0⟩
def Fld.RESET_CAUSE_POR_BROWNOUT : Fld := ⟨12097, 1, .W1C, 0⟩
def Fld.RESET_CAUSE_PIN : Fld := ⟨12098, 1, .W1C, 0⟩
def Fld.RESET_CAUSE_PIN_COUNT : Fld := ⟨12104, 8, .RO, 0x0⟩
def Fld.STRAP_READ_CODE : Fld := ⟨12128, 10, .RO, Config.strapCode⟩
def Fld.STRAP_READ_CHOICE : Fld := ⟨12138, 4, .RO, Config.strapChoice⟩
def Fld.STRAP_READ_OPEN : Fld := ⟨12142, 1, .RO, Config.strapOpen⟩
def Fld.STRAP_READ_CHANGED : Fld := ⟨12143, 1, .W1C, 0⟩
def Fld.STRAP_READ_ADDR_OFFSET : Fld := ⟨12144, 2, .RO, 0⟩
def Fld.STRAP_READ_HOST_MODE : Fld := ⟨12146, 1, .RO, 0⟩
def Fld.STRAP_READ_BOOT : Fld := ⟨12147, 1, .RO, 0⟩
def Fld.STRAP_READ_FROM_OPTB : Fld := ⟨12148, 1, .RO, 0⟩
def Fld.PWR_STATE_STATE : Fld := ⟨12160, 2, .RO, 0x1⟩
def Fld.PWR_STATE_TARGET : Fld := ⟨12162, 2, .RO, 0x3⟩
def Fld.PWR_STATE_MOVING : Fld := ⟨12164, 1, .RO, 0⟩
def Fld.PWR_STATE_HOLD_BOOT : Fld := ⟨12165, 1, .RO, 0⟩
def Fld.PWR_STATE_PERST : Fld := ⟨12166, 1, .RO, 0⟩
def Fld.PWR_DIE_AWAKE_LO : Fld := ⟨12192, 32, .RO, 0x0⟩
def Fld.PWR_DIE_AWAKE_HI : Fld := ⟨12224, 32, .RO, 0x0⟩
def Fld.PWR_GATE_CFG : Fld := ⟨12256, 16, .RW, 0x0⟩
def Fld.INPUT_STATUS_SENSE_OPEN : Fld := ⟨12288, 1, .RO, 0⟩
def Fld.INPUT_STATUS_LOW : Fld := ⟨12289, 1, .RO, 0⟩
def Fld.INPUT_STATUS_HIGH : Fld := ⟨12290, 1, .RO, 0⟩
def Fld.INPUT_STATUS_EFUSE_OPEN : Fld := ⟨12291, 1, .RO, 0⟩
def Fld.INPUT_EVENTS_REVERSE : Fld := ⟨12320, 1, .W1C, 0⟩
def Fld.INPUT_EVENTS_EFUSE_TRIP : Fld := ⟨12321, 1, .W1C, 0⟩
def Fld.INPUT_EVENTS_OV_TRIP : Fld := ⟨12322, 1, .W1C, 0⟩
def Fld.INPUT_EVENTS_BROWNOUT : Fld := ⟨12323, 1, .W1C, 0⟩
def Fld.INPUT_EVENTS_WATCHDOG : Fld := ⟨12324, 1, .W1C, 0⟩
def Fld.INPUT_EVENTS_MGMT_CYCLE : Fld := ⟨12325, 1, .W1C, 0⟩
def Fld.INPUT_EVENTS_THERMAL_TRIP : Fld := ⟨12326, 1, .W1C, 0⟩
def Fld.INPUT_EVENTS_SENSE_OPEN : Fld := ⟨12327, 1, .W1C, 0⟩
def Fld.INPUT_VOLTAGE : Fld := ⟨12352, 16, .RO, 0x0⟩
def Fld.INPUT_CURRENT : Fld := ⟨12384, 16, .RO, 0x0⟩
def Fld.THERM_DIE_STEP : Fld := ⟨12416, 32, .RO, 0x0⟩
def Fld.SLEEVE_CTRL_BLOCK : Fld := ⟨12448, 7, .RW, 0x0⟩
def Fld.SLEEVE_CTRL_GO : Fld := ⟨12455, 1, .W1S, 0⟩
def Fld.SLEEVE_STATUS_STATE : Fld := ⟨12480, 2, .RO, 0x0⟩
def Fld.SLEEVE_STATUS_BLOCK : Fld := ⟨12482, 7, .RO, 0x0⟩
def Fld.SLEEVE_STATUS_CODE : Fld := ⟨12496, 16, .RO, 0x0⟩
def Fld.SLEEVE_DROPS : Fld := ⟨12512, 32, .RC, 0x0⟩
def Fld.OPTB_STATUS_FUSE_EN : Fld := ⟨12544, 1, .RO, Config.optbFuseEn⟩
def Fld.OPTB_STATUS_APPLIED : Fld := ⟨12545, 1, .RO, 0⟩
def Fld.OPTB_STATUS_BAD : Fld := ⟨12546, 8, .RO, 0x0⟩
def Fld.OPTB_VALUE0 : Fld := ⟨12576, 32, .RO, Config.optb0⟩
def Fld.OPTB_VALUE1 : Fld := ⟨12608, 32, .RO, Config.optb1⟩
def Fld.PWR_ERROR_CODE : Fld := ⟨12640, 16, .RO, 0x0⟩
def Fld.PWR_ERROR_MULTI : Fld := ⟨12656, 1, .W1C, 0⟩
def Fld.PWR_ERROR_INFO_ITEM : Fld := ⟨12672, 8, .RO, 0x0⟩
def Fld.PWR_ERROR_INFO_VALID : Fld := ⟨12703, 1, .W1C, 0⟩
def Fld.PIN_RESET_MAP_FAULT_N : Fld := ⟨12704, 2, .RO, 0x1⟩
def Fld.PIN_RESET_MAP_ALERT_N : Fld := ⟨12706, 2, .RO, 0x0⟩
def Fld.PIN_RESET_MAP_THERM_N : Fld := ⟨12708, 2, .RO, 0x0⟩
def Fld.PIN_RESET_MAP_PPS_OUT : Fld := ⟨12710, 2, .RO, 0x1⟩
def Fld.PIN_RESET_MAP_LINK_TX : Fld := ⟨12712, 2, .RO, 0x3⟩
def Fld.PIN_RESET_MAP_HOST_TX : Fld := ⟨12714, 2, .RO, 0x3⟩
def Fld.PIN_RESET_MAP_MGMT_A : Fld := ⟨12716, 2, .RO, 0x0⟩
def Fld.PIN_RESET_MAP_MGMT_B : Fld := ⟨12718, 2, .RO, 0x0⟩
def Fld.PIN_LEVEL_PERST_LOW : Fld := ⟨12736, 1, .RO, 0⟩
def Fld.PIN_LEVEL_PPS_IN_HIGH : Fld := ⟨12737, 1, .RO, 0⟩
def Fld.PIN_LEVEL_ALERT_LOW : Fld := ⟨12738, 1, .RO, 0⟩
def Fld.PIN_LEVEL_FAULT_LOW : Fld := ⟨12739, 1, .RO, 0⟩
def Fld.PIN_LEVEL_THERM_LOW : Fld := ⟨12740, 1, .RO, 0⟩
def Fld.PIN_LEVEL_REFCLK_ACTIVE : Fld := ⟨12741, 1, .RO, 0⟩
def Fld.PIN_EVENTS_PPS_RUNT : Fld := ⟨12768, 1, .W1C, 0⟩
def Fld.PIN_EVENTS_PERST_GLITCH : Fld := ⟨12769, 1, .W1C, 0⟩
def Fld.PIN_EVENTS_ALERT_STUCK : Fld := ⟨12770, 1, .W1C, 0⟩
def Fld.PIN_EVENTS_FAULT_STUCK : Fld := ⟨12771, 1, .W1C, 0⟩
def Fld.PIN_EVENTS_THERM_STUCK : Fld := ⟨12772, 1, .W1C, 0⟩
def Fld.OBS_STATUS : Fld := ⟨12800, 1, .RO, 0⟩
def Fld.OBS_HOST_BW : Fld := ⟨12832, 3, .RW, 0x2⟩
def Fld.STARCH_CTRL_NOW : Fld := ⟨12864, 1, .W1S, 0⟩
def Fld.STARCH_CTRL_ARM : Fld := ⟨12865, 1, .W1S, 0⟩
def Fld.STARCH_CTRL_RELEASE : Fld := ⟨12866, 1, .W1S, 0⟩
def Fld.STARCH_CTRL_ON_FAULT : Fld := ⟨12867, 1, .RW, 1⟩
def Fld.STARCH_STATUS_STATE : Fld := ⟨12896, 2, .RO, 0x0⟩
def Fld.STARCH_STATUS_REFUSED : Fld := ⟨12898, 1, .W1C, 0⟩
def Fld.STARCH_STATUS_COUNT : Fld := ⟨12912, 16, .RO, 0x0⟩
def Fld.STARCH_TIME_LO : Fld := ⟨12928, 32, .RW, 0x0⟩
def Fld.STARCH_TIME_HI : Fld := ⟨12960, 32, .RW, 0x0⟩
def Fld.STARCH_AT_LO : Fld := ⟨12992, 32, .RO, 0x0⟩
def Fld.STARCH_AT_HI : Fld := ⟨13024, 32, .RO, 0x0⟩
def Fld.OBS_AGG_PERIOD : Fld := ⟨13056, 10, .RW, 0x1⟩
def Fld.OBS_AGG_LO : Fld := ⟨13088, 32, .RO, 0⟩
def Fld.OBS_AGG_HI : Fld := ⟨13120, 32, .RO, 0⟩
def Fld.OBS_RING_BASE_LO : Fld := ⟨13152, 32, .RW, 0x0⟩
def Fld.OBS_RING_BASE_HI : Fld := ⟨13184, 32, .RW, 0x0⟩
def Fld.OBS_RING_CFG_EN : Fld := ⟨13216, 1, .RW, 0⟩
def Fld.OBS_RING_CFG_SIZE_LOG2 : Fld := ⟨13217, 5, .RW, 0x10⟩
def Fld.OBS_RING_PI : Fld := ⟨13248, 32, .RO, 0x0⟩
def Fld.OBS_RING_CI : Fld := ⟨13280, 32, .RW, 0x0⟩
def Fld.OBS_PART_CTRL : Fld := ⟨13312, 1, .W1S, 0⟩
def Fld.OBS_PART_STATUS_CI_ERR : Fld := ⟨13344, 1, .W1C, 0⟩
def Fld.OBS_PART_STATUS_CFG_REJECT : Fld := ⟨13345, 1, .W1C, 0⟩
def Fld.OBS_PART_STATUS_BOUND : Fld := ⟨13346, 1, .RO, 0⟩
def Fld.OBS_PART_STATUS_PLASTER_HELD : Fld := ⟨13347, 1, .RO, 0⟩
def Fld.OBS_PART_STATUS_PLASTER_SENDING : Fld := ⟨13348, 1, .RO, 0⟩
def Fld.OBS_PLASTER_LOST : Fld := ⟨13376, 32, .RC, 0x0⟩
def Fld.OBS_REC_LOST : Fld := ⟨13408, 32, .RC, 0x0⟩
def Fld.OBS_TRACE_LOST : Fld := ⟨13440, 32, .RC, 0x0⟩
def Fld.OBS_CNT_MASK : Fld := ⟨13472, 32, .RW, 0x0⟩
def Fld.OBS_CNT_SEL_ID : Fld := ⟨13504, 8, .RW, 0x0⟩
def Fld.OBS_CNT_SEL_SUB : Fld := ⟨13512, 5, .RW, 0x0⟩
def Fld.OBS_CNT_SEL_LIVE : Fld := ⟨13517, 1, .RW, 0⟩
def Fld.OBS_CNT_SEL_INSTANCE : Fld := ⟨13518, 18, .RW, 0x0⟩
def Fld.OBS_CNT_VALUE_LO : Fld := ⟨13536, 32, .RO, 0x0⟩
def Fld.OBS_CNT_VALUE_HI : Fld := ⟨13568, 32, .RO, 0x0⟩
def Fld.OBS_PLASTER_COUNT : Fld := ⟨13600, 32, .RO, 0x0⟩
def Fld.DUMP_CFG_EN : Fld := ⟨13632, 1, .RW, 0⟩
def Fld.DUMP_CFG_KIND : Fld := ⟨13633, 1, .RW, 0⟩
def Fld.DUMP_CFG_COUNT : Fld := ⟨13640, 8, .RW, 0x1⟩
def Fld.DUMP_TAG_VALUE : Fld := ⟨13664, 16, .RW, 0x0⟩
def Fld.DUMP_TAG_MASK : Fld := ⟨13680, 16, .RW, 0xffff⟩
def Fld.DUMP_SRC_CORE : Fld := ⟨13696, 13, .RW, 0x0⟩
def Fld.DUMP_SRC_HANDLE : Fld := ⟨13709, 10, .RW, 0x0⟩
def Fld.DUMP_OFFSET : Fld := ⟨13728, 19, .RW, 0x0⟩
def Fld.DUMP_LENGTH : Fld := ⟨13760, 20, .RW, 0x20⟩
def Fld.DUMP_TICK_LO : Fld := ⟨13792, 32, .RW, 0x0⟩
def Fld.DUMP_TICK_HI : Fld := ⟨13824, 32, .RW, 0x0⟩
def Fld.DUMP_STATUS_RUNNING : Fld := ⟨13856, 1, .RO, 0⟩
def Fld.DUMP_STATUS_DONE : Fld := ⟨13857, 1, .W1C, 0⟩
def Fld.DUMP_STATUS_ABORTED : Fld := ⟨13858, 1, .W1C, 0⟩
def Fld.DUMP_STATUS_DENIED : Fld := ⟨13859, 1, .W1C, 0⟩
def Fld.DUMP_STATUS_MISSED : Fld := ⟨13864, 8, .RO, 0x0⟩
def Fld.DUMP_STATUS_CODE : Fld := ⟨13872, 16, .RO, 0x0⟩
def Fld.ND_CTRL_OVERFLOW_DROP : Fld := ⟨13888, 1, .RW, 0⟩
def Fld.ND_CTRL_DROP_LO : Fld := ⟨13896, 8, .RW, 0x0⟩
def Fld.ND_CTRL_DROP_HI : Fld := ⟨13904, 8, .RW, 0x0⟩
def Fld.ND_EVENTS_LO : Fld := ⟨13920, 32, .RO, 0x0⟩
def Fld.ND_EVENTS_HI : Fld := ⟨13952, 32, .RO, 0x0⟩
def Fld.ND_FIRST_TICK : Fld := ⟨13984, 32, .RO, 0x0⟩

/-- Rows 0 to 29 of the register tables, in the order of the spec's chapters. -/
def regRows0 : List RegRow := [
  ⟨"DEVICE_ID", 0, .globG, 0x0, 4, 1, [.DEVICE_ID_PART, .DEVICE_ID_STEPPING, .DEVICE_ID_GRADE]⟩,
  ⟨"DET_CLASS", 1, .globG, 0x8, 4, 1, [.DET_CLASS_STEPPING, .DET_CLASS_GRADE, .DET_CLASS_SFU, .DET_CLASS_SAMPLER, .DET_CLASS_ACC]⟩,
  ⟨"PROPS_CORES", 2, .propsG, 0x100, 4, 1, [.PROPS_CORES]⟩,
  ⟨"PROPS_SPAD_KIB", 3, .propsG, 0x104, 4, 1, [.PROPS_SPAD_KIB]⟩,
  ⟨"PROPS_SPAD_BANKS", 4, .propsG, 0x108, 4, 1, [.PROPS_SPAD_BANKS]⟩,
  ⟨"PROPS_POOL_MIB", 5, .propsG, 0x10c, 4, 1, [.PROPS_POOL_MIB]⟩,
  ⟨"PROPS_POOL_BANKS", 6, .propsG, 0x110, 4, 1, [.PROPS_POOL_BANKS]⟩,
  ⟨"PROPS_SYNC_COUNTERS", 7, .propsG, 0x114, 4, 1, [.PROPS_SYNC_COUNTERS]⟩,
  ⟨"PROPS_HANDLES", 8, .propsG, 0x118, 4, 1, [.PROPS_HANDLES]⟩,
  ⟨"PROPS_WINDOWS", 9, .propsG, 0x11c, 4, 1, [.PROPS_WINDOWS]⟩,
  ⟨"PROPS_PARAM_REGS", 10, .propsG, 0x120, 4, 1, [.PROPS_PARAM_REGS]⟩,
  ⟨"PROPS_FABRIC_VCS", 11, .propsG, 0x124, 4, 1, [.PROPS_FABRIC_VCS]⟩,
  ⟨"PROPS_LINK_VCS", 12, .propsG, 0x128, 4, 1, [.PROPS_LINK_VCS]⟩,
  ⟨"PROPS_PORTS", 13, .propsG, 0x12c, 4, 1, [.PROPS_PORTS]⟩,
  ⟨"PROPS_HBM_GB", 14, .propsG, 0x130, 4, 1, [.PROPS_HBM_GB]⟩,
  ⟨"PROPS_TOKENS_MAX", 15, .propsG, 0x134, 4, 1, [.PROPS_TOKENS_MAX]⟩,
  ⟨"PROPS_PARTITIONS", 16, .propsG, 0x138, 4, 1, [.PROPS_PARTITIONS]⟩,
  ⟨"PROPS_HEM_MAX", 17, .propsG, 0x13c, 4, 1, [.PROPS_HEM_MAX]⟩,
  ⟨"PROPS_HOLD_TABLE", 18, .propsG, 0x140, 4, 1, [.PROPS_HOLD_TABLE]⟩,
  ⟨"PROPS_TOKENS_PER_DIE", 19, .propsG, 0x144, 4, 1, [.PROPS_TOKENS_PER_DIE]⟩,
  ⟨"PROPS_PLINTH_GIB", 20, .propsG, 0x148, 4, 1, [.PROPS_PLINTH_GIB]⟩,
  ⟨"POWER_TOKENS", 21, .planG, 0x0, 4, 1, [.POWER_TOKENS]⟩,
  ⟨"PLAN_PART_RUN", 22, .planG, 0x4, 4, 1, [.PLAN_PART_RUN]⟩,
  ⟨"HOLD_HOPS", 23, .planG, 0x8, 4, 1, [.HOLD_HOPS]⟩,
  ⟨"PLAN_CTRL", 24, .planP, 0x0, 4, 1, [.PLAN_CTRL_ARM, .PLAN_CTRL_START_NOW, .PLAN_CTRL_STOP, .PLAN_CTRL_ABORT, .PLAN_CTRL_RESUME, .PLAN_CTRL_CLEAR, .PLAN_CTRL_UNLOAD, .PLAN_CTRL_STOP_AT_TICK]⟩,
  ⟨"PLAN_STATUS", 25, .planP, 0x4, 4, 1, [.PLAN_STATUS_STATE, .PLAN_STATUS_HELD, .PLAN_STATUS_LATE, .PLAN_STATUS_CMD_REJECT, .PLAN_STATUS_HEM_WAIT, .PLAN_STATUS_MAX_LAG]⟩,
  ⟨"PLAN_TICK_LO", 26, .planP, 0x8, 4, 1, [.PLAN_TICK_LO]⟩,
  ⟨"PLAN_TICK_HI", 27, .planP, 0xc, 4, 1, [.PLAN_TICK_HI]⟩,
  ⟨"PLAN_STOP_TICK_LO", 28, .planP, 0x10, 4, 1, [.PLAN_STOP_TICK_LO]⟩,
  ⟨"PLAN_STOP_TICK_HI", 29, .planP, 0x14, 4, 1, [.PLAN_STOP_TICK_HI]⟩]

/-- Rows 30 to 59 of the register tables, in the order of the spec's chapters. -/
def regRows1 : List RegRow := [
  ⟨"PLAN_START_TIME_LO", 30, .planP, 0x18, 4, 1, [.PLAN_START_TIME_LO]⟩,
  ⟨"PLAN_START_TIME_HI", 31, .planP, 0x1c, 4, 1, [.PLAN_START_TIME_HI]⟩,
  ⟨"HEM_DEPTH", 32, .planP, 0x20, 4, 1, [.HEM_DEPTH]⟩,
  ⟨"HOLD_TIMEOUT", 33, .planP, 0x24, 4, 1, [.HOLD_TIMEOUT]⟩,
  ⟨"HOLD_CAUSE", 34, .planP, 0x28, 4, 1, [.HOLD_CAUSE_CODE, .HOLD_CAUSE_REMOTE, .HOLD_CAUSE_HOPS]⟩,
  ⟨"HOLD_CAUSE_SET", 35, .planP, 0x2c, 4, 1, [.HOLD_CAUSE_SET]⟩,
  ⟨"HOLD_ORIGIN", 36, .planP, 0x30, 4, 1, [.HOLD_ORIGIN_RANK, .HOLD_ORIGIN_JOB_TAG]⟩,
  ⟨"HOLD_TICK", 37, .planP, 0x34, 4, 1, [.HOLD_TICK]⟩,
  ⟨"HOLD_TIME_LO", 38, .planP, 0x38, 4, 1, [.HOLD_TIME_LO]⟩,
  ⟨"HOLD_TIME_HI", 39, .planP, 0x3c, 4, 1, [.HOLD_TIME_HI]⟩,
  ⟨"HOLD_COUNT", 40, .planP, 0x40, 4, 1, [.HOLD_COUNT]⟩,
  ⟨"HOLD_OVF", 41, .planP, 0x44, 4, 1, [.HOLD_OVF]⟩,
  ⟨"PLAN_ERROR", 42, .planP, 0x48, 4, 1, [.PLAN_ERROR_CODE, .PLAN_ERROR_MULTI]⟩,
  ⟨"DEADLOCK_INFO", 43, .planP, 0x4c, 4, 1, [.DEADLOCK_INFO_LENGTH, .DEADLOCK_INFO_TRUNCATED, .DEADLOCK_INFO_CROSS_DEVICE, .DEADLOCK_INFO_REMOTE_RANK]⟩,
  ⟨"DEADLOCK_CYCLE", 44, .planP, 0x50, 4, 8, [.DEADLOCK_CYCLE_CORE, .DEADLOCK_CYCLE_COUNTER, .DEADLOCK_CYCLE_BAR, .DEADLOCK_CYCLE_NOWAIT, .DEADLOCK_CYCLE_VALID]⟩,
  ⟨"EXCHANGE_PORTS", 45, .planP, 0x70, 4, 1, [.EXCHANGE_PORTS]⟩,
  ⟨"TOKENS_HELD", 46, .planP, 0x74, 4, 1, [.TOKENS_HELD]⟩,
  ⟨"PLAN_JOB_TAG", 47, .planP, 0x78, 4, 1, [.PLAN_JOB_TAG]⟩,
  ⟨"ARM_CTRL", 48, .armG, 0x0, 4, 1, [.ARM_CTRL_STAGE, .ARM_CTRL_APPLY, .ARM_CTRL_DISCARD]⟩,
  ⟨"ARM_STATUS", 49, .armG, 0x4, 4, 1, [.ARM_STATUS_STATE, .ARM_STATUS_APPLIED, .ARM_STATUS_FAILED, .ARM_STATUS_BASE_ACTIVE]⟩,
  ⟨"ARM_ERROR", 50, .armG, 0x8, 4, 1, [.ARM_ERROR_CODE, .ARM_ERROR_MULTI, .ARM_ERROR_VALID]⟩,
  ⟨"ARM_SRC_LO", 51, .armG, 0xc, 4, 1, [.ARM_SRC_LO]⟩,
  ⟨"ARM_SRC_HI", 52, .armG, 0x10, 4, 1, [.ARM_SRC_HI]⟩,
  ⟨"ARM_SRC_SIZE", 53, .armG, 0x14, 4, 1, [.ARM_SRC_SIZE]⟩,
  ⟨"ARM_SCOPE", 54, .armG, 0x18, 4, 1, [.ARM_SCOPE]⟩,
  ⟨"ARM_ACTIVE_VERSION", 55, .armG, 0x1c, 4, 1, [.ARM_ACTIVE_VERSION]⟩,
  ⟨"ARM_ACTIVE_SVN", 56, .armG, 0x20, 4, 1, [.ARM_ACTIVE_SVN]⟩,
  ⟨"ARM_MIN_SVN_Q", 57, .armG, 0x24, 4, 1, [.ARM_MIN_SVN_Q]⟩,
  ⟨"ARM_MIN_SVN_OP", 58, .armG, 0x28, 4, 1, [.ARM_MIN_SVN_OP]⟩,
  ⟨"ARM_APPLY_TIME", 59, .armG, 0x2c, 4, 1, [.ARM_APPLY_TIME]⟩]

/-- Rows 60 to 89 of the register tables, in the order of the spec's chapters. -/
def regRows2 : List RegRow := [
  ⟨"ARM_COUNT", 60, .armG, 0x30, 4, 1, [.ARM_COUNT]⟩,
  ⟨"ARM_BASE_DIGEST", 61, .armG, 0x40, 4, 16, [.ARM_BASE_DIGEST]⟩,
  ⟨"ARM_IMAGE_ID", 62, .armG, 0x80, 4, 4, [.ARM_IMAGE_ID]⟩,
  ⟨"ARM_QUAD", 63, .armQ, 0x0, 4, 1, [.ARM_QUAD_PARTITION, .ARM_QUAD_ROLE, .ARM_QUAD_RIM]⟩,
  ⟨"ARM_PART_QUADS", 64, .armP, 0x0, 4, 1, [.ARM_PART_QUADS]⟩,
  ⟨"ARM_PART_LIMITS", 65, .armP, 0x4, 4, 1, [.ARM_PART_LIMITS_HANDLES, .ARM_PART_LIMITS_WINDOWS, .ARM_PART_LIMITS_LANDING, .ARM_PART_LIMITS_LINK_VCS]⟩,
  ⟨"ARM_PART_POOL_LO", 66, .armP, 0x8, 4, 1, [.ARM_PART_POOL_LO]⟩,
  ⟨"ARM_PART_POOL_HI", 67, .armP, 0xc, 4, 1, [.ARM_PART_POOL_HI]⟩,
  ⟨"ARM_PART_PORTS", 68, .armP, 0x10, 4, 1, [.ARM_PART_PORTS]⟩,
  ⟨"ARM_PART_HBM", 69, .armP, 0x14, 4, 1, [.ARM_PART_HBM]⟩,
  ⟨"ARM_PART_VCMAP", 70, .armP, 0x18, 4, 1, [.ARM_PART_VCMAP_CLASS_VC, .ARM_PART_VCMAP_FABRIC_VCS]⟩,
  ⟨"DIE_STATUS", 71, .dieD, 0x0, 4, 1, [.DIE_STATUS_DIE, .DIE_STATUS_RIM, .DIE_STATUS_AWAKE, .DIE_STATUS_PARTITION]⟩,
  ⟨"DIE_SPARES_USED", 72, .dieD, 0x4, 4, 1, [.DIE_SPARES_USED]⟩,
  ⟨"DIE_ERROR_CORE", 73, .dieD, 0x8, 4, 1, [.DIE_ERROR_CORE_CORE, .DIE_ERROR_CORE_VALID]⟩,
  ⟨"DIE_BREAK_CORE", 74, .dieD, 0xc, 4, 1, [.DIE_BREAK_CORE_CORE, .DIE_BREAK_CORE_VALID]⟩,
  ⟨"DIE_PHYS_ACTIVE", 75, .dieD, 0x10, 4, 4, [.DIE_PHYS_ACTIVE]⟩,
  ⟨"CORE_STATUS", 76, .coreC, 0x0, 4, 1, [.CORE_STATUS_STATE, .CORE_STATUS_PATCH_REJECT, .CORE_STATUS_QUEUE, .CORE_STATUS_LOOP_DEPTH]⟩,
  ⟨"CORE_ERROR", 77, .coreC, 0x4, 4, 1, [.CORE_ERROR_CODE, .CORE_ERROR_MULTI]⟩,
  ⟨"CORE_ERROR_TAG", 78, .coreC, 0x8, 4, 1, [.CORE_ERROR_TAG]⟩,
  ⟨"CP_PC", 79, .coreC, 0xc, 4, 1, [.CP_PC]⟩,
  ⟨"MACRO_COUNT_LO", 80, .coreC, 0x10, 4, 1, [.MACRO_COUNT_LO]⟩,
  ⟨"MACRO_COUNT_HI", 81, .coreC, 0x14, 4, 1, [.MACRO_COUNT_HI]⟩,
  ⟨"BRK_CTRL", 82, .coreC, 0x20, 4, 1, [.BRK_CTRL_COUNT_EN, .BRK_CTRL_TAG_EN, .BRK_CTRL_TICK_EN, .BRK_CTRL_ONESHOT]⟩,
  ⟨"BRK_TAG", 83, .coreC, 0x24, 4, 1, [.BRK_TAG_VALUE, .BRK_TAG_MASK]⟩,
  ⟨"BRK_COUNT_LO", 84, .coreC, 0x28, 4, 1, [.BRK_COUNT_LO]⟩,
  ⟨"BRK_COUNT_HI", 85, .coreC, 0x2c, 4, 1, [.BRK_COUNT_HI]⟩,
  ⟨"BRK_TICK_LO", 86, .coreC, 0x30, 4, 1, [.BRK_TICK_LO]⟩,
  ⟨"BRK_TICK_HI", 87, .coreC, 0x34, 4, 1, [.BRK_TICK_HI]⟩,
  ⟨"BRK_STATUS", 88, .coreC, 0x38, 4, 1, [.BRK_STATUS_COUNT_HIT, .BRK_STATUS_TAG_HIT, .BRK_STATUS_TICK_HIT, .BRK_STATUS_DENIED]⟩,
  ⟨"TRACE_CTRL", 89, .coreC, 0x40, 4, 1, [.TRACE_CTRL_EN, .TRACE_CTRL_ISSUE, .TRACE_CTRL_DONE, .TRACE_CTRL_LOOP, .TRACE_CTRL_SKIP, .TRACE_CTRL_MARK, .TRACE_CTRL_BLOCK]⟩]

/-- Rows 90 to 119 of the register tables, in the order of the spec's chapters. -/
def regRows3 : List RegRow := [
  ⟨"PRM", 90, .coreC, 0x100, 4, 64, [.PRM]⟩,
  ⟨"SLOT", 91, .coreC, 0x200, 4, 16, [.SLOT]⟩,
  ⟨"SLOT_TICK", 92, .coreC, 0x240, 4, 1, [.SLOT_TICK]⟩,
  ⟨"SCALAR_LO", 93, .coreC, 0x300, 8, 32, [.SCALAR_LO]⟩,
  ⟨"SCALAR_HI", 94, .coreC, 0x304, 8, 32, [.SCALAR_HI]⟩,
  ⟨"ARITH_FLAGS", 95, .coreC, 0x50, 4, 1, [.ARITH_FLAGS_SAT, .ARITH_FLAGS_LOW, .ARITH_FLAGS_OVF, .ARITH_FLAGS_UNF, .ARITH_FLAGS_NAN, .ARITH_FLAGS_INF, .ARITH_FLAGS_INVALID, .ARITH_FLAGS_DIV0, .ARITH_FLAGS_SCALE_NAN]⟩,
  ⟨"ARITH_TRAP", 96, .coreC, 0x54, 4, 1, [.ARITH_TRAP]⟩,
  ⟨"ARITH_FIRST_TAG", 97, .coreC, 0x58, 4, 1, [.ARITH_FIRST_TAG_TAG, .ARITH_FIRST_TAG_VALID]⟩,
  ⟨"SPAD_MODE", 98, .spadG, 0x0, 4, 1, [.SPAD_MODE]⟩,
  ⟨"SPAD_RECOVERY", 99, .spadG, 0x4, 4, 1, [.SPAD_RECOVERY]⟩,
  ⟨"SPAD_CLEAR_CTRL", 100, .spadG, 0x8, 4, 1, [.SPAD_CLEAR_CTRL]⟩,
  ⟨"SPAD_CLEAR_STATUS", 101, .spadG, 0xc, 4, 1, [.SPAD_CLEAR_STATUS_BUSY, .SPAD_CLEAR_STATUS_DONE]⟩,
  ⟨"SPAD_CLEAR_ERROR", 102, .spadG, 0x10, 4, 1, [.SPAD_CLEAR_ERROR]⟩,
  ⟨"SIDE_CTRL", 103, .spadG, 0x20, 4, 1, [.SIDE_CTRL_GO, .SIDE_CTRL_TRANSPOSE, .SIDE_CTRL_ESIZE]⟩,
  ⟨"SIDE_SRC", 104, .spadG, 0x24, 4, 1, [.SIDE_SRC_CORE, .SIDE_SRC_HANDLE]⟩,
  ⟨"SIDE_OFFSET", 105, .spadG, 0x28, 4, 1, [.SIDE_OFFSET]⟩,
  ⟨"SIDE_SHAPE", 106, .spadG, 0x2c, 4, 1, [.SIDE_SHAPE_COLS, .SIDE_SHAPE_ROWS]⟩,
  ⟨"SIDE_STRIDE", 107, .spadG, 0x30, 4, 1, [.SIDE_STRIDE]⟩,
  ⟨"SIDE_DST_LO", 108, .spadG, 0x34, 4, 1, [.SIDE_DST_LO]⟩,
  ⟨"SIDE_DST_HI", 109, .spadG, 0x38, 4, 1, [.SIDE_DST_HI]⟩,
  ⟨"SIDE_STATUS", 110, .spadG, 0x3c, 4, 1, [.SIDE_STATUS_BUSY, .SIDE_STATUS_DONE, .SIDE_STATUS_CODE]⟩,
  ⟨"POOL_CONFLICT_LOC", 111, .spadG, 0x40, 4, 1, [.POOL_CONFLICT_LOC_DIE, .POOL_CONFLICT_LOC_BANK, .POOL_CONFLICT_LOC_TICK, .POOL_CONFLICT_LOC_VALID]⟩,
  ⟨"POOL_CONFLICT_CORES", 112, .spadG, 0x44, 4, 1, [.POOL_CONFLICT_CORES_OWNER, .POOL_CONFLICT_CORES_LATER]⟩,
  ⟨"POOL_CE", 113, .spadG, 0x50, 4, 4, [.POOL_CE]⟩,
  ⟨"POOL_UE", 114, .spadG, 0x60, 4, 4, [.POOL_UE]⟩,
  ⟨"POOL_SCRUB", 115, .spadG, 0x70, 4, 1, [.POOL_SCRUB]⟩,
  ⟨"HANDLE_INDEX", 116, .coreC, 0x400, 4, 1, [.HANDLE_INDEX_INDEX, .HANDLE_INDEX_AUTO]⟩,
  ⟨"HANDLE_LO", 117, .coreC, 0x404, 4, 1, [.HANDLE_LO]⟩,
  ⟨"HANDLE_HI", 118, .coreC, 0x408, 4, 1, [.HANDLE_HI]⟩,
  ⟨"WINDOW_INDEX", 119, .coreC, 0x40c, 4, 1, [.WINDOW_INDEX_INDEX, .WINDOW_INDEX_AUTO]⟩]

/-- Rows 120 to 149 of the register tables, in the order of the spec's chapters. -/
def regRows4 : List RegRow := [
  ⟨"WINDOW_LO", 120, .coreC, 0x410, 4, 1, [.WINDOW_LO]⟩,
  ⟨"WINDOW_HI", 121, .coreC, 0x414, 4, 1, [.WINDOW_HI]⟩,
  ⟨"SPAD_CFG_STATUS", 122, .coreC, 0x418, 4, 1, [.SPAD_CFG_STATUS_CODE, .SPAD_CFG_STATUS_REJECT]⟩,
  ⟨"SPAD_CE", 123, .coreC, 0x41c, 4, 1, [.SPAD_CE]⟩,
  ⟨"SPAD_UE", 124, .coreC, 0x420, 4, 1, [.SPAD_UE]⟩,
  ⟨"SPAD_UE_ADDR", 125, .coreC, 0x424, 4, 1, [.SPAD_UE_ADDR_ADDR, .SPAD_UE_ADDR_VALID]⟩,
  ⟨"SPAD_REMOTE_REJECT", 126, .coreC, 0x428, 4, 1, [.SPAD_REMOTE_REJECT]⟩,
  ⟨"SYNC_DECL_INDEX", 127, .coreC, 0x500, 4, 1, [.SYNC_DECL_INDEX_INDEX, .SYNC_DECL_INDEX_AUTO]⟩,
  ⟨"SYNC_DECL_LO", 128, .coreC, 0x504, 4, 1, [.SYNC_DECL_LO]⟩,
  ⟨"SYNC_DECL_HI", 129, .coreC, 0x508, 4, 1, [.SYNC_DECL_HI]⟩,
  ⟨"SYNC_CFG_STATUS", 130, .coreC, 0x50c, 4, 1, [.SYNC_CFG_STATUS_CODE, .SYNC_CFG_STATUS_REJECT]⟩,
  ⟨"SYNC_STATUS", 131, .coreC, 0x510, 4, 1, [.SYNC_STATUS_COUNTER, .SYNC_STATUS_TAKE_WAIT, .SYNC_STATUS_BAR_WAIT, .SYNC_STATUS_BAR_AHEAD, .SYNC_STATUS_BARRIER]⟩,
  ⟨"SYNC_ERR_INFO", 132, .coreC, 0x514, 4, 1, [.SYNC_ERR_INFO_COUNTER, .SYNC_ERR_INFO_AMOUNT, .SYNC_ERR_INFO_BARRIER, .SYNC_ERR_INFO_IS_BARRIER, .SYNC_ERR_INFO_ARRIVED, .SYNC_ERR_INFO_VALID]⟩,
  ⟨"SYNC_ERR_RANK", 133, .coreC, 0x518, 4, 1, [.SYNC_ERR_RANK]⟩,
  ⟨"SYNC_REMOTE_DROP", 134, .coreC, 0x51c, 4, 1, [.SYNC_REMOTE_DROP]⟩,
  ⟨"BARRIER_MEMBER", 135, .coreC, 0x520, 4, 1, [.BARRIER_MEMBER]⟩,
  ⟨"BAR_ARRIVED", 136, .coreC, 0x580, 4, 32, [.BAR_ARRIVED]⟩,
  ⟨"SYNC_GIVEN", 137, .coreC, 0x800, 8, 256, [.SYNC_GIVEN]⟩,
  ⟨"SYNC_TAKEN", 138, .coreC, 0x804, 8, 256, [.SYNC_TAKEN]⟩,
  ⟨"BAR_RANKS", 139, .barB, 0x0, 4, 1, [.BAR_RANKS_RANK_LO, .BAR_RANKS_RANK_HI]⟩,
  ⟨"BAR_CFG", 140, .barB, 0x4, 4, 1, [.BAR_CFG_LOCAL_COUNT, .BAR_CFG_HOME, .BAR_CFG_REJECT]⟩,
  ⟨"BAR_ROUND", 141, .barB, 0x8, 4, 1, [.BAR_ROUND]⟩,
  ⟨"BAR_LOCAL", 142, .barB, 0xc, 4, 1, [.BAR_LOCAL_CUR, .BAR_LOCAL_NEXT]⟩,
  ⟨"BAR_HOME_CUR", 143, .barB, 0x10, 4, 1, [.BAR_HOME_CUR]⟩,
  ⟨"BAR_HOME_NEXT", 144, .barB, 0x14, 4, 1, [.BAR_HOME_NEXT]⟩,
  ⟨"BAR_DROP", 145, .barB, 0x18, 4, 1, [.BAR_DROP]⟩,
  ⟨"FAB_CFG", 146, .fabG, 0x0, 4, 1, [.FAB_CFG_VCS, .FAB_CFG_DIAMETER]⟩,
  ⟨"FAB_ERROR", 147, .fabG, 0x4, 4, 1, [.FAB_ERROR_CODE, .FAB_ERROR_MULTI]⟩,
  ⟨"FAB_ERROR_INFO", 148, .fabG, 0x8, 4, 1, [.FAB_ERROR_INFO_NODE, .FAB_ERROR_INFO_EDGE, .FAB_ERROR_INFO_PARTITION, .FAB_ERROR_INFO_VALID]⟩,
  ⟨"FAB_DEGRADED", 149, .fabG, 0xc, 4, 1, [.FAB_DEGRADED]⟩]

/-- Rows 150 to 179 of the register tables, in the order of the spec's chapters. -/
def regRows5 : List RegRow := [
  ⟨"FAB_NODE", 150, .fabN, 0x0, 4, 1, [.FAB_NODE_NODE, .FAB_NODE_KIND]⟩,
  ⟨"FAB_EDGE", 151, .fabN, 0x4, 4, 6, [.FAB_EDGE_MODULES, .FAB_EDGE_UP, .FAB_EDGE_DEGRADED, .FAB_EDGE_PEER, .FAB_EDGE_PRESENT]⟩,
  ⟨"FAB_RETRY", 152, .fabN, 0x20, 4, 1, [.FAB_RETRY]⟩,
  ⟨"FAB_HEAD_CE", 153, .fabN, 0x24, 4, 1, [.FAB_HEAD_CE]⟩,
  ⟨"FAB_HEAD_UE", 154, .fabN, 0x28, 4, 1, [.FAB_HEAD_UE]⟩,
  ⟨"FAB_DATA_CE", 155, .fabN, 0x2c, 4, 1, [.FAB_DATA_CE]⟩,
  ⟨"FAB_DATA_UE", 156, .fabN, 0x30, 4, 1, [.FAB_DATA_UE]⟩,
  ⟨"FAB_FENCE_DROP", 157, .fabN, 0x34, 4, 1, [.FAB_FENCE_DROP]⟩,
  ⟨"FAB_ROUTE_INDEX", 158, .fabN, 0x38, 4, 1, [.FAB_ROUTE_INDEX_DEST, .FAB_ROUTE_INDEX_VC]⟩,
  ⟨"FAB_ROUTE_ENTRY", 159, .fabN, 0x3c, 4, 1, [.FAB_ROUTE_ENTRY_EDGE, .FAB_ROUTE_ENTRY_LOCAL, .FAB_ROUTE_ENTRY_VALID]⟩,
  ⟨"LD_INFO", 160, .ldL, 0x0, 4, 1, [.LD_INFO]⟩,
  ⟨"LD_KEYS", 161, .ldL, 0x4, 4, 1, [.LD_KEYS_SEALED, .LD_KEYS_OPEN]⟩,
  ⟨"LINK_CTRL", 162, .linkP, 0x0, 4, 1, [.LINK_CTRL_ENABLE, .LINK_CTRL_RETRAIN, .LINK_CTRL_FULL_TRAIN, .LINK_CTRL_ACCEPT_PEER, .LINK_CTRL_CAL_EN, .LINK_CTRL_HALF_WIDTH_EN, .LINK_CTRL_RATE_MASK]⟩,
  ⟨"LINK_STATUS", 163, .linkP, 0x4, 4, 1, [.LINK_STATUS_STATE, .LINK_STATUS_RATE, .LINK_STATUS_HALF, .LINK_STATUS_HALF_UPPER, .LINK_STATUS_SWAPPED, .LINK_STATUS_UNEXPECTED_PEER, .LINK_STATUS_SELF, .LINK_STATUS_LEADER, .LINK_STATUS_DARNED, .LINK_STATUS_DARN_LANE, .LINK_STATUS_DARN_FAILED, .LINK_STATUS_SPARE_LOST, .LINK_STATUS_CAL_ACTIVE, .LINK_STATUS_REPLAYING, .LINK_STATUS_LONG, .LINK_STATUS_MISWIRE]⟩,
  ⟨"LINK_LANE_MAP", 164, .linkP, 0x8, 4, 1, [.LINK_LANE_MAP]⟩,
  ⟨"LINK_POLARITY", 165, .linkP, 0xc, 4, 1, [.LINK_POLARITY_RX_INV, .LINK_POLARITY_LNS_FROM]⟩,
  ⟨"PEER_KEY_ID_LO", 166, .linkP, 0x10, 4, 1, [.PEER_KEY_ID_LO]⟩,
  ⟨"PEER_KEY_ID_HI", 167, .linkP, 0x14, 4, 1, [.PEER_KEY_ID_HI]⟩,
  ⟨"PEER_INFO", 168, .linkP, 0x18, 4, 1, [.PEER_INFO_PORT, .PEER_INFO_RATES, .PEER_INFO_HALF_OK, .PEER_INFO_VERIFIED]⟩,
  ⟨"PEER_EXPECT_CTRL", 169, .linkP, 0x1c, 4, 1, [.PEER_EXPECT_CTRL_PORT, .PEER_EXPECT_CTRL_VALID, .PEER_EXPECT_CTRL_ANY_PORT]⟩,
  ⟨"PEER_EXPECT_KEY_ID_LO", 170, .linkP, 0x20, 4, 1, [.PEER_EXPECT_KEY_ID_LO]⟩,
  ⟨"PEER_EXPECT_KEY_ID_HI", 171, .linkP, 0x24, 4, 1, [.PEER_EXPECT_KEY_ID_HI]⟩,
  ⟨"LINK_RTT", 172, .linkP, 0x28, 4, 1, [.LINK_RTT]⟩,
  ⟨"REPLAY_TMO", 173, .linkP, 0x2c, 4, 1, [.REPLAY_TMO]⟩,
  ⟨"REPLAY_MAX", 174, .linkP, 0x30, 4, 1, [.REPLAY_MAX]⟩,
  ⟨"CAL_CTRL", 175, .linkP, 0x34, 4, 1, [.CAL_CTRL_INTERVAL_MS, .CAL_CTRL_DWELL_US]⟩,
  ⟨"LANE_FAIL_CFG", 176, .linkP, 0x38, 4, 1, [.LANE_FAIL_CFG_THRESH, .LANE_FAIL_CFG_WINDOW_US]⟩,
  ⟨"LINK_OWNER", 177, .linkP, 0x3c, 4, 1, [.LINK_OWNER_PARTITION, .LINK_OWNER_KIND, .LINK_OWNER_VCS]⟩,
  ⟨"LINK_ERROR", 178, .linkP, 0x40, 4, 1, [.LINK_ERROR_CODE, .LINK_ERROR_MULTI]⟩,
  ⟨"LINK_ERROR_INFO", 179, .linkP, 0x44, 4, 1, [.LINK_ERROR_INFO_JOB_TAG, .LINK_ERROR_INFO_LANE, .LINK_ERROR_INFO_VALID]⟩]

/-- Rows 180 to 209 of the register tables, in the order of the spec's chapters. -/
def regRows6 : List RegRow := [
  ⟨"LINK_FEC_CORR", 180, .linkP, 0x80, 4, 1, [.LINK_FEC_CORR]⟩,
  ⟨"LINK_FEC_UNCORR", 181, .linkP, 0x84, 4, 1, [.LINK_FEC_UNCORR]⟩,
  ⟨"LINK_CRC_ERR", 182, .linkP, 0x88, 4, 1, [.LINK_CRC_ERR]⟩,
  ⟨"LINK_CTAG_FAIL", 183, .linkP, 0x8c, 4, 1, [.LINK_CTAG_FAIL]⟩,
  ⟨"LINK_DUP", 184, .linkP, 0x90, 4, 1, [.LINK_DUP]⟩,
  ⟨"LINK_NAK_TX", 185, .linkP, 0x94, 4, 1, [.LINK_NAK_TX]⟩,
  ⟨"LINK_NAK_RX", 186, .linkP, 0x98, 4, 1, [.LINK_NAK_RX]⟩,
  ⟨"LINK_TMO", 187, .linkP, 0x9c, 4, 1, [.LINK_TMO]⟩,
  ⟨"LINK_REPLAYS", 188, .linkP, 0xa0, 4, 1, [.LINK_REPLAYS]⟩,
  ⟨"LINK_REPLAY_FRAMES", 189, .linkP, 0xa4, 4, 1, [.LINK_REPLAY_FRAMES]⟩,
  ⟨"LINK_DARNS", 190, .linkP, 0xa8, 4, 1, [.LINK_DARNS]⟩,
  ⟨"LINK_RETRAINS", 191, .linkP, 0xac, 4, 1, [.LINK_RETRAINS]⟩,
  ⟨"LINK_OVERRUN", 192, .linkP, 0xb0, 4, 1, [.LINK_OVERRUN]⟩,
  ⟨"LINK_AUTH_FAIL", 193, .linkP, 0xb4, 4, 1, [.LINK_AUTH_FAIL]⟩,
  ⟨"LINK_PROTO_ERR", 194, .linkP, 0xb8, 4, 1, [.LINK_PROTO_ERR]⟩,
  ⟨"LANE_ERR", 195, .linkP, 0xc0, 4, 9, [.LANE_ERR]⟩,
  ⟨"ROUTE_STATUS", 196, .routeG, 0x0, 4, 1, [.ROUTE_STATUS]⟩,
  ⟨"ROUTE_ERROR", 197, .routeG, 0x4, 4, 1, [.ROUTE_ERROR_CODE, .ROUTE_ERROR_MULTI]⟩,
  ⟨"ROUTE_ERROR_INFO", 198, .routeG, 0x8, 4, 1, [.ROUTE_ERROR_INFO_JOB_TAG, .ROUTE_ERROR_INFO_PORT, .ROUTE_ERROR_INFO_VALID]⟩,
  ⟨"ROUTE_TBL_INDEX", 199, .routeG, 0x10, 4, 1, [.ROUTE_TBL_INDEX_ENTRY, .ROUTE_TBL_INDEX_EPOCH, .ROUTE_TBL_INDEX_SLOT, .ROUTE_TBL_INDEX_AUTO]⟩,
  ⟨"ROUTE_TBL_RANKS", 200, .routeG, 0x14, 4, 1, [.ROUTE_TBL_RANKS]⟩,
  ⟨"ROUTE_TBL_PORTS", 201, .routeG, 0x18, 4, 1, [.ROUTE_TBL_PORTS]⟩,
  ⟨"ROUTE_TBL_ATTR", 202, .routeG, 0x1c, 4, 1, [.ROUTE_TBL_ATTR]⟩,
  ⟨"ROUTE_TBL_STATUS", 203, .routeG, 0x20, 4, 1, [.ROUTE_TBL_STATUS_CODE, .ROUTE_TBL_STATUS_REJECT]⟩,
  ⟨"SLOT_CFG", 204, .slotJ, 0x0, 4, 1, [.SLOT_CFG_JOB_TAG, .SLOT_CFG_KIND, .SLOT_CFG_PARTITION, .SLOT_CFG_EPOCH]⟩,
  ⟨"SLOT_RANK", 205, .slotJ, 0x4, 4, 1, [.SLOT_RANK]⟩,
  ⟨"SLOT_PORTS0", 206, .slotJ, 0x8, 4, 1, [.SLOT_PORTS0]⟩,
  ⟨"SLOT_PORTS1", 207, .slotJ, 0xc, 4, 1, [.SLOT_PORTS1]⟩,
  ⟨"SLOT_CTRL", 208, .slotJ, 0x10, 4, 1, [.SLOT_CTRL_ACTIVATE, .SLOT_CTRL_DRAIN, .SLOT_CTRL_CLOSE, .SLOT_CTRL_SWITCH_ARM, .SLOT_CTRL_SWITCH_ABORT]⟩,
  ⟨"SLOT_STATUS", 209, .slotJ, 0x14, 4, 1, [.SLOT_STATUS_STATE, .SLOT_STATUS_SWITCH_PENDING, .SLOT_STATUS_SWITCH_DONE, .SLOT_STATUS_CANCELLED, .SLOT_STATUS_REJECT, .SLOT_STATUS_CODE]⟩]

/-- Rows 210 to 239 of the register tables, in the order of the spec's chapters. -/
def regRows7 : List RegRow := [
  ⟨"SLOT_SWITCH_TIME_LO", 210, .slotJ, 0x18, 4, 1, [.SLOT_SWITCH_TIME_LO]⟩,
  ⟨"SLOT_SWITCH_TIME_HI", 211, .slotJ, 0x1c, 4, 1, [.SLOT_SWITCH_TIME_HI]⟩,
  ⟨"SLOT_GUARD", 212, .slotJ, 0x20, 4, 1, [.SLOT_GUARD]⟩,
  ⟨"SLOT_PKTS", 213, .slotJ, 0x24, 4, 1, [.SLOT_PKTS]⟩,
  ⟨"SLOT_HELD", 214, .slotJ, 0x28, 4, 1, [.SLOT_HELD]⟩,
  ⟨"ROUTE_FOREIGN", 215, .linkP, 0x100, 4, 1, [.ROUTE_FOREIGN]⟩,
  ⟨"ROUTE_FOREIGN_TAG", 216, .linkP, 0x104, 4, 1, [.ROUTE_FOREIGN_TAG]⟩,
  ⟨"ROUTE_FOREIGN_CTL", 217, .linkP, 0x108, 4, 1, [.ROUTE_FOREIGN_CTL]⟩,
  ⟨"ROUTE_TRANSIT", 218, .linkP, 0x10c, 4, 1, [.ROUTE_TRANSIT]⟩,
  ⟨"ROUTE_DISCARD", 219, .linkP, 0x110, 4, 1, [.ROUTE_DISCARD]⟩,
  ⟨"CLK_CTRL", 220, .timeG, 0x0, 4, 1, [.CLK_CTRL_REF_PRI0, .CLK_CTRL_REF_PRI1, .CLK_CTRL_REF_PRI2, .CLK_CTRL_AUTO]⟩,
  ⟨"CLK_STATUS", 221, .timeG, 0x4, 4, 1, [.CLK_STATUS_REF_SEL, .CLK_STATUS_PLL_LOCKED, .CLK_STATUS_CLK_HOLDOVER, .CLK_STATUS_REFCLK_OK, .CLK_STATUS_RECOVERED_OK, .CLK_STATUS_AO_LOCKED, .CLK_STATUS_LOR, .CLK_STATUS_REF_SWITCHED]⟩,
  ⟨"CLK_DIE_STEP", 222, .timeG, 0x8, 4, 4, [.CLK_DIE_STEP]⟩,
  ⟨"CLK_STEP_COUNT", 223, .timeG, 0x18, 4, 1, [.CLK_STEP_COUNT]⟩,
  ⟨"TIME_COPY_FIX", 224, .timeG, 0x1c, 4, 1, [.TIME_COPY_FIX]⟩,
  ⟨"TIME_MODE", 225, .timeG, 0x20, 4, 1, [.TIME_MODE]⟩,
  ⟨"TIME_CTRL", 226, .timeG, 0x24, 4, 1, [.TIME_CTRL_ROLE, .TIME_CTRL_ACCEPT_STEP, .TIME_CTRL_PPS_IN_EN, .TIME_CTRL_PPS_OUT_EN]⟩,
  ⟨"TIME_STATUS", 227, .timeG, 0x28, 4, 1, [.TIME_STATUS_STATE, .TIME_STATUS_SET, .TIME_STATUS_JUMP_REFUSED, .TIME_STATUS_PPS_MISSING, .TIME_STATUS_COARSE, .TIME_STATUS_CMD_REJECT, .TIME_STATUS_PARENT, .TIME_STATUS_PARENT_VALID, .TIME_STATUS_HOPS, .TIME_STATUS_GM_HOLDOVER, .TIME_STATUS_ACCEPT_ARMED]⟩,
  ⟨"TIME_JUMPS", 228, .timeG, 0x2c, 4, 1, [.TIME_JUMPS]⟩,
  ⟨"TIME_JUMP_LIMIT", 229, .timeG, 0x30, 4, 1, [.TIME_JUMP_LIMIT]⟩,
  ⟨"TIME_PERIOD", 230, .timeG, 0x34, 4, 1, [.TIME_PERIOD]⟩,
  ⟨"TIME_DOMAIN", 231, .timeG, 0x38, 4, 1, [.TIME_DOMAIN_DOMAIN, .TIME_DOMAIN_MAX_HOPS]⟩,
  ⟨"TIME_PARENTS", 232, .timeG, 0x3c, 4, 1, [.TIME_PARENTS_PORT0, .TIME_PARENTS_PORT1, .TIME_PARENTS_PORT2, .TIME_PARENTS_PORT3, .TIME_PARENTS_V0_V30, .TIME_PARENTS_V0_V31, .TIME_PARENTS_V0_V32, .TIME_PARENTS_V0_V33]⟩,
  ⟨"TIME_NOW_LO", 233, .timeG, 0x40, 4, 1, [.TIME_NOW_LO]⟩,
  ⟨"TIME_NOW_HI", 234, .timeG, 0x44, 4, 1, [.TIME_NOW_HI]⟩,
  ⟨"TIME_NOW_EXT", 235, .timeG, 0x48, 4, 1, [.TIME_NOW_EXT]⟩,
  ⟨"TIME_OFFSET_LO", 236, .timeG, 0x50, 4, 1, [.TIME_OFFSET_LO]⟩,
  ⟨"TIME_OFFSET_HI", 237, .timeG, 0x54, 4, 1, [.TIME_OFFSET_HI]⟩,
  ⟨"TIME_RATE_LO", 238, .timeG, 0x58, 4, 1, [.TIME_RATE_LO]⟩,
  ⟨"TIME_RATE_HI", 239, .timeG, 0x5c, 4, 1, [.TIME_RATE_HI]⟩]

/-- Rows 240 to 269 of the register tables, in the order of the spec's chapters. -/
def regRows8 : List RegRow := [
  ⟨"TIME_STEP_LO", 240, .timeG, 0x60, 4, 1, [.TIME_STEP_LO]⟩,
  ⟨"TIME_STEP_HI", 241, .timeG, 0x64, 4, 1, [.TIME_STEP_HI]⟩,
  ⟨"TIME_S_OFFSET_LO", 242, .timeG, 0x68, 4, 1, [.TIME_S_OFFSET_LO]⟩,
  ⟨"TIME_S_OFFSET_HI", 243, .timeG, 0x6c, 4, 1, [.TIME_S_OFFSET_HI]⟩,
  ⟨"TIME_S_OFFSET_EXT", 244, .timeG, 0x70, 4, 1, [.TIME_S_OFFSET_EXT]⟩,
  ⟨"TIME_THETA", 245, .timeG, 0x74, 4, 1, [.TIME_THETA]⟩,
  ⟨"TIME_TOD_CHANGES", 246, .timeG, 0x78, 4, 1, [.TIME_TOD_CHANGES]⟩,
  ⟨"TIME_PPS_LO", 247, .timeG, 0x80, 4, 1, [.TIME_PPS_LO]⟩,
  ⟨"TIME_PPS_HI", 248, .timeG, 0x84, 4, 1, [.TIME_PPS_HI]⟩,
  ⟨"TIME_PPS_EXT", 249, .timeG, 0x88, 4, 1, [.TIME_PPS_EXT]⟩,
  ⟨"PPS_OUT_CFG", 250, .timeG, 0x8c, 4, 1, [.PPS_OUT_CFG]⟩,
  ⟨"TIME_GM_ID", 251, .timeG, 0x90, 4, 1, [.TIME_GM_ID]⟩,
  ⟨"TIME_ERROR", 252, .timeG, 0x94, 4, 1, [.TIME_ERROR_CODE, .TIME_ERROR_MULTI, .TIME_ERROR_VALID]⟩,
  ⟨"TPORT_STATUS", 253, .timeT, 0x0, 4, 1, [.TPORT_STATUS_ANNOUNCE_OK, .TPORT_STATUS_PEER_SYNCED, .TPORT_STATUS_PEER_HOPS, .TPORT_STATUS_REFUSED, .TPORT_STATUS_ASYM_VALID, .TPORT_STATUS_MEASURING]⟩,
  ⟨"TPORT_OFFSET", 254, .timeT, 0x4, 4, 1, [.TPORT_OFFSET]⟩,
  ⟨"TPORT_DELAY", 255, .timeT, 0x8, 4, 1, [.TPORT_DELAY]⟩,
  ⟨"TPORT_ASYM", 256, .timeT, 0xc, 4, 1, [.TPORT_ASYM]⟩,
  ⟨"TPORT_ASYM_ADJ", 257, .timeT, 0x10, 4, 1, [.TPORT_ASYM_ADJ]⟩,
  ⟨"TPORT_LOST", 258, .timeT, 0x14, 4, 1, [.TPORT_LOST]⟩,
  ⟨"TPORT_EXCH", 259, .timeT, 0x18, 4, 1, [.TPORT_EXCH]⟩,
  ⟨"HBM_STATUS", 260, .hbmH, 0x0, 4, 1, [.HBM_STATUS_STATE, .HBM_STATUS_REFRESH_X2, .HBM_STATUS_TEMP_C, .HBM_STATUS_RINSE_NEXT]⟩,
  ⟨"HBM_PC_FAIL", 261, .hbmH, 0x4, 4, 1, [.HBM_PC_FAIL]⟩,
  ⟨"HBM_CE", 262, .hbmH, 0x8, 4, 1, [.HBM_CE]⟩,
  ⟨"HBM_UE", 263, .hbmH, 0xc, 4, 1, [.HBM_UE]⟩,
  ⟨"HBM_UE_ADDR_LO", 264, .hbmH, 0x10, 4, 1, [.HBM_UE_ADDR_LO]⟩,
  ⟨"HBM_UE_ADDR_HI", 265, .hbmH, 0x14, 4, 1, [.HBM_UE_ADDR_HI_ADDR, .HBM_UE_ADDR_HI_VALID]⟩,
  ⟨"HBM_ODECC", 266, .hbmH, 0x18, 4, 1, [.HBM_ODECC]⟩,
  ⟨"HBM_SCRUB", 267, .hbmH, 0x1c, 4, 1, [.HBM_SCRUB_EN, .HBM_SCRUB_PERIOD_H, .HBM_SCRUB_PASSES]⟩,
  ⟨"HBM_RINSES", 268, .hbmH, 0x20, 4, 1, [.HBM_RINSES]⟩,
  ⟨"HBM_RINSE_FAILS", 269, .hbmH, 0x24, 4, 1, [.HBM_RINSE_FAILS]⟩]

/-- Rows 270 to 299 of the register tables, in the order of the spec's chapters. -/
def regRows9 : List RegRow := [
  ⟨"HBM_ERROR", 270, .hbmH, 0x28, 4, 1, [.HBM_ERROR_CODE, .HBM_ERROR_MULTI, .HBM_ERROR_VALID]⟩,
  ⟨"HBM_SLICE", 271, .hbmH, 0x100, 4, 16, [.HBM_SLICE_PARTITION, .HBM_SLICE_OWNED, .HBM_SLICE_TENANT, .HBM_SLICE_HDM_MODE]⟩,
  ⟨"HBM_KEYS", 272, .hbmG, 0x0, 4, 1, [.HBM_KEYS]⟩,
  ⟨"HBM_READY", 273, .hbmG, 0x4, 4, 1, [.HBM_READY]⟩,
  ⟨"HBM_HDM_DENY", 274, .hbmG, 0x8, 4, 1, [.HBM_HDM_DENY]⟩,
  ⟨"HBM_HDM_DENY_INFO", 275, .hbmG, 0xc, 4, 1, [.HBM_HDM_DENY_INFO_SLICE, .HBM_HDM_DENY_INFO_WRITE, .HBM_HDM_DENY_INFO_VALID]⟩,
  ⟨"HBM_G_ERROR", 276, .hbmG, 0x10, 4, 1, [.HBM_G_ERROR_CODE, .HBM_G_ERROR_MULTI]⟩,
  ⟨"PLINTH_CTRL", 277, .plinthG, 0x0, 4, 1, [.PLINTH_CTRL_INSTALL, .PLINTH_CTRL_DELETE, .PLINTH_CTRL_AUDIT_EN]⟩,
  ⟨"PLINTH_STATUS", 278, .plinthG, 0x4, 4, 1, [.PLINTH_STATUS_OP, .PLINTH_STATUS_DONE, .PLINTH_STATUS_FAILED, .PLINTH_STATUS_CODE]⟩,
  ⟨"PLINTH_SRC_LO", 279, .plinthG, 0x8, 4, 1, [.PLINTH_SRC_LO]⟩,
  ⟨"PLINTH_SRC_HI", 280, .plinthG, 0xc, 4, 1, [.PLINTH_SRC_HI]⟩,
  ⟨"PLINTH_NONCE", 281, .plinthG, 0x10, 4, 4, [.PLINTH_NONCE]⟩,
  ⟨"PLINTH_FREE", 282, .plinthG, 0x20, 4, 1, [.PLINTH_FREE]⟩,
  ⟨"PLINTH_OBJ_SEL", 283, .plinthG, 0x24, 4, 1, [.PLINTH_OBJ_SEL]⟩,
  ⟨"PLINTH_OBJ_INFO", 284, .plinthG, 0x28, 4, 1, [.PLINTH_OBJ_INFO_STATE, .PLINTH_OBJ_INFO_LAYERS, .PLINTH_OBJ_INFO_BINDS]⟩,
  ⟨"PLINTH_OBJ_SIZE_LO", 285, .plinthG, 0x2c, 4, 1, [.PLINTH_OBJ_SIZE_LO]⟩,
  ⟨"PLINTH_OBJ_SIZE_HI", 286, .plinthG, 0x30, 4, 1, [.PLINTH_OBJ_SIZE_HI]⟩,
  ⟨"PLINTH_OBJ_PUB_LO", 287, .plinthG, 0x34, 4, 1, [.PLINTH_OBJ_PUB_LO]⟩,
  ⟨"PLINTH_OBJ_PUB_HI", 288, .plinthG, 0x38, 4, 1, [.PLINTH_OBJ_PUB_HI]⟩,
  ⟨"PLINTH_OBJ_VERSION", 289, .plinthG, 0x3c, 4, 1, [.PLINTH_OBJ_VERSION]⟩,
  ⟨"PLINTH_CE", 290, .plinthG, 0x40, 4, 4, [.PLINTH_CE]⟩,
  ⟨"PLINTH_UE", 291, .plinthG, 0x50, 4, 4, [.PLINTH_UE]⟩,
  ⟨"PLINTH_AUDIT", 292, .plinthG, 0x60, 4, 1, [.PLINTH_AUDIT]⟩,
  ⟨"PLINTH_ERROR", 293, .plinthG, 0x64, 4, 1, [.PLINTH_ERROR_CODE, .PLINTH_ERROR_MULTI]⟩,
  ⟨"BIND_INDEX", 294, .plinthG, 0x70, 4, 1, [.BIND_INDEX_INDEX, .BIND_INDEX_AUTO]⟩,
  ⟨"BIND_W", 295, .plinthG, 0x74, 4, 4, [.BIND_W]⟩,
  ⟨"BIND_STATUS", 296, .plinthG, 0x84, 4, 1, [.BIND_STATUS_CODE, .BIND_STATUS_REJECT]⟩,
  ⟨"REPL_CTRL", 297, .plinthP, 0x0, 4, 1, [.REPL_CTRL_ARM, .REPL_CTRL_ABORT, .REPL_CTRL_FINISH, .REPL_CTRL_MODE]⟩,
  ⟨"REPL_BIND", 298, .plinthP, 0x4, 4, 1, [.REPL_BIND_BIND, .REPL_BIND_NEW_OBJECT]⟩,
  ⟨"REPL_TICK_LO", 299, .plinthP, 0x8, 4, 1, [.REPL_TICK_LO]⟩]

/-- Rows 300 to 329 of the register tables, in the order of the spec's chapters. -/
def regRows10 : List RegRow := [
  ⟨"REPL_TICK_HI", 300, .plinthP, 0xc, 4, 1, [.REPL_TICK_HI]⟩,
  ⟨"REPL_STRIDE", 301, .plinthP, 0x10, 4, 1, [.REPL_STRIDE]⟩,
  ⟨"REPL_DESC_LO", 302, .plinthP, 0x14, 4, 1, [.REPL_DESC_LO]⟩,
  ⟨"REPL_DESC_HI", 303, .plinthP, 0x18, 4, 1, [.REPL_DESC_HI]⟩,
  ⟨"REPL_STATUS", 304, .plinthP, 0x1c, 4, 1, [.REPL_STATUS_STATE, .REPL_STATUS_PARTIAL, .REPL_STATUS_CODE]⟩,
  ⟨"REPL_DONE_LAYER", 305, .plinthP, 0x20, 4, 1, [.REPL_DONE_LAYER_LAYER, .REPL_DONE_LAYER_VALID]⟩,
  ⟨"SRV_INFO", 306, .srvG, 0x0, 4, 1, [.SRV_INFO_LIVE, .SRV_INFO_SERVING]⟩,
  ⟨"SRV_MAP_INDEX", 307, .srvG, 0x4, 4, 1, [.SRV_MAP_INDEX_INDEX, .SRV_MAP_INDEX_AUTO]⟩,
  ⟨"SRV_MAP_LO", 308, .srvG, 0x8, 4, 1, [.SRV_MAP_LO]⟩,
  ⟨"SRV_MAP_HI", 309, .srvG, 0xc, 4, 1, [.SRV_MAP_HI]⟩,
  ⟨"SRV_MAP_COUNT", 310, .srvG, 0x10, 4, 1, [.SRV_MAP_COUNT]⟩,
  ⟨"SRV_CFG", 311, .srvP, 0x0, 4, 1, [.SRV_CFG_ADMIT, .SRV_CFG_LAG, .SRV_CFG_ADMIT_PER_TICK]⟩,
  ⟨"SRV_GEOM0", 312, .srvP, 0x4, 4, 1, [.SRV_GEOM0_DEC_SLOTS, .SRV_GEOM0_DEC_SLOT_TOKENS]⟩,
  ⟨"SRV_GEOM1", 313, .srvP, 0x8, 4, 1, [.SRV_GEOM1_PRE_SLOTS, .SRV_GEOM1_PRE_CHUNK]⟩,
  ⟨"SRV_GEOM2", 314, .srvP, 0xc, 4, 1, [.SRV_GEOM2_SEQ_BASE, .SRV_GEOM2_SEQ_MAX]⟩,
  ⟨"SRV_KV_CFG", 315, .srvP, 0x10, 4, 1, [.SRV_KV_CFG_BLOCK_LOG2, .SRV_KV_CFG_MAX_BLOCKS_PER_SEQ]⟩,
  ⟨"SRV_KV_BLOCKS", 316, .srvP, 0x14, 4, 1, [.SRV_KV_BLOCKS]⟩,
  ⟨"SRV_KV_TABLE_LO", 317, .srvP, 0x18, 4, 1, [.SRV_KV_TABLE_LO]⟩,
  ⟨"SRV_KV_TABLE_HI", 318, .srvP, 0x1c, 4, 1, [.SRV_KV_TABLE_HI]⟩,
  ⟨"SRV_VOCAB", 319, .srvP, 0x20, 4, 1, [.SRV_VOCAB]⟩,
  ⟨"SRV_ADMIT_THROUGH_LO", 320, .srvP, 0x24, 4, 1, [.SRV_ADMIT_THROUGH_LO]⟩,
  ⟨"SRV_ADMIT_THROUGH_HI", 321, .srvP, 0x28, 4, 1, [.SRV_ADMIT_THROUGH_HI]⟩,
  ⟨"SRV_STATUS", 322, .srvP, 0x2c, 4, 1, [.SRV_STATUS_BUILDING, .SRV_STATUS_WAIT_HOST, .SRV_STATUS_WAIT_SAMPLE, .SRV_STATUS_MODE_FORCED, .SRV_STATUS_CMD_REJECT]⟩,
  ⟨"SRV_LIVE", 323, .srvP, 0x30, 4, 1, [.SRV_LIVE_LIVE, .SRV_LIVE_QUEUED]⟩,
  ⟨"SRV_KV_FREE", 324, .srvP, 0x34, 4, 1, [.SRV_KV_FREE]⟩,
  ⟨"SRV_BUILT_TICK_LO", 325, .srvP, 0x38, 4, 1, [.SRV_BUILT_TICK_LO]⟩,
  ⟨"SRV_BUILT_TICK_HI", 326, .srvP, 0x3c, 4, 1, [.SRV_BUILT_TICK_HI]⟩,
  ⟨"SRV_ADMITTED", 327, .srvP, 0x40, 4, 1, [.SRV_ADMITTED]⟩,
  ⟨"SRV_REJECTED", 328, .srvP, 0x44, 4, 1, [.SRV_REJECTED]⟩,
  ⟨"SRV_TOKENS_LO", 329, .srvP, 0x48, 4, 1, [.SRV_TOKENS_LO]⟩]

/-- Rows 330 to 359 of the register tables, in the order of the spec's chapters. -/
def regRows11 : List RegRow := [
  ⟨"SRV_TOKENS_HI", 330, .srvP, 0x4c, 4, 1, [.SRV_TOKENS_HI]⟩,
  ⟨"SRV_ERROR", 331, .srvP, 0x50, 4, 1, [.SRV_ERROR_CODE, .SRV_ERROR_MULTI]⟩,
  ⟨"SRV_ERROR_INFO", 332, .srvP, 0x54, 4, 1, [.SRV_ERROR_INFO_SEQ, .SRV_ERROR_INFO_VALID]⟩,
  ⟨"DOORBELL", 333, .dbD, 0x0, 4, 1, [.DOORBELL]⟩,
  ⟨"Q_BASE_LO", 334, .queueQ, 0x0, 4, 1, [.Q_BASE_LO]⟩,
  ⟨"Q_BASE_HI", 335, .queueQ, 0x4, 4, 1, [.Q_BASE_HI]⟩,
  ⟨"Q_CFG", 336, .queueQ, 0x8, 4, 1, [.Q_CFG_ENABLE, .Q_CFG_SIZE_LOG2, .Q_CFG_COHERENT, .Q_CFG_IRQ_EN]⟩,
  ⟨"Q_STATUS", 337, .queueQ, 0xc, 4, 1, [.Q_STATUS_STATE, .Q_STATUS_DB_ERR, .Q_STATUS_CFG_REJECT, .Q_STATUS_BOUND, .Q_STATUS_CODE]⟩,
  ⟨"Q_INDEX", 338, .queueQ, 0x10, 4, 1, [.Q_INDEX_PI, .Q_INDEX_CI]⟩,
  ⟨"Q_SHADOW_LO", 339, .queueQ, 0x14, 4, 1, [.Q_SHADOW_LO]⟩,
  ⟨"Q_SHADOW_HI", 340, .queueQ, 0x18, 4, 1, [.Q_SHADOW_HI]⟩,
  ⟨"Q_IRQ", 341, .queueQ, 0x1c, 4, 1, [.Q_IRQ_COUNT, .Q_IRQ_DELAY_US]⟩,
  ⟨"HOST_LINK", 342, .hostH, 0x0, 4, 1, [.HOST_LINK_MODE, .HOST_LINK_RATE, .HOST_LINK_WIDTH, .HOST_LINK_FLIT, .HOST_LINK_MEM_ON, .HOST_LINK_CACHE_ON]⟩,
  ⟨"HOST_LINK_CFG", 343, .hostH, 0x4, 4, 1, [.HOST_LINK_CFG_L0P_EN, .HOST_LINK_CFG_L1_EN]⟩,
  ⟨"INT_STATUS_LO", 344, .hostH, 0x8, 4, 1, [.INT_STATUS_LO]⟩,
  ⟨"INT_STATUS_HI", 345, .hostH, 0xc, 4, 1, [.INT_STATUS_HI]⟩,
  ⟨"INT_MODE", 346, .hostH, 0x10, 4, 1, [.INT_MODE]⟩,
  ⟨"HOST_ERROR", 347, .hostH, 0x14, 4, 1, [.HOST_ERROR_CODE, .HOST_ERROR_MULTI]⟩,
  ⟨"HOST_ERROR_INFO", 348, .hostH, 0x18, 4, 1, [.HOST_ERROR_INFO_QUEUE, .HOST_ERROR_INFO_VALID]⟩,
  ⟨"HOST_HDM_HOLE", 349, .hostH, 0x1c, 4, 1, [.HOST_HDM_HOLE]⟩,
  ⟨"HOST_IDE_STATUS", 350, .hostH, 0x20, 4, 1, [.HOST_IDE_STATUS_LINK_SECURE, .HOST_IDE_STATUS_SEL_SECURE, .HOST_IDE_STATUS_CM_SECURE, .HOST_IDE_STATUS_FAIL]⟩,
  ⟨"HOST_RESETS", 351, .hostH, 0x24, 4, 1, [.HOST_RESETS]⟩,
  ⟨"SEC_STATUS", 352, .secG, 0x0, 4, 1, [.SEC_STATUS_OPERATOR, .SEC_STATUS_FA_ACTIVE, .SEC_STATUS_OBSERVE, .SEC_STATUS_IDE_REQUIRED, .SEC_STATUS_OPEN_ALLOWED, .SEC_STATUS_FA_FUSED, .SEC_STATUS_PUBLISHERS]⟩,
  ⟨"SEC_OPERATOR_ID_LO", 353, .secG, 0x4, 4, 1, [.SEC_OPERATOR_ID_LO]⟩,
  ⟨"SEC_OPERATOR_ID_HI", 354, .secG, 0x8, 4, 1, [.SEC_OPERATOR_ID_HI]⟩,
  ⟨"SEC_BOUND", 355, .secG, 0xc, 4, 1, [.SEC_BOUND_TENANT, .SEC_BOUND_DEBUG]⟩,
  ⟨"SEC_NONCE", 356, .secG, 0x10, 4, 4, [.SEC_NONCE]⟩,
  ⟨"SEC_KFLOOR_LO", 357, .secG, 0x20, 4, 1, [.SEC_KFLOOR_LO]⟩,
  ⟨"SEC_KFLOOR_HI", 358, .secG, 0x24, 4, 1, [.SEC_KFLOOR_HI]⟩,
  ⟨"MBX_CMD", 359, .secG, 0x30, 4, 1, [.MBX_CMD_OP, .MBX_CMD_PART]⟩]

/-- Rows 360 to 389 of the register tables, in the order of the spec's chapters. -/
def regRows12 : List RegRow := [
  ⟨"MBX_ARG_LO", 360, .secG, 0x34, 4, 1, [.MBX_ARG_LO]⟩,
  ⟨"MBX_ARG_HI", 361, .secG, 0x38, 4, 1, [.MBX_ARG_HI]⟩,
  ⟨"MBX_CTRL", 362, .secG, 0x3c, 4, 1, [.MBX_CTRL]⟩,
  ⟨"MBX_STATUS", 363, .secG, 0x40, 4, 1, [.MBX_STATUS_BUSY, .MBX_STATUS_DONE, .MBX_STATUS_CODE]⟩,
  ⟨"SEC_ERROR", 364, .secG, 0x44, 4, 1, [.SEC_ERROR_CODE, .SEC_ERROR_MULTI]⟩,
  ⟨"SEC_PART", 365, .secP, 0x0, 4, 1, [.SEC_PART_BOUND, .SEC_PART_DEBUG, .SEC_PART_HBM_TENANT, .SEC_PART_CKID_BOUND, .SEC_PART_QUEUES_BOUND, .SEC_PART_KGEN0, .SEC_PART_KGEN1, .SEC_PART_SEND_KGEN, .SEC_PART_SWITCH_PENDING]⟩,
  ⟨"SEC_TENANT_ID_LO", 366, .secP, 0x4, 4, 1, [.SEC_TENANT_ID_LO]⟩,
  ⟨"SEC_TENANT_ID_HI", 367, .secP, 0x8, 4, 1, [.SEC_TENANT_ID_HI]⟩,
  ⟨"SEC_DEBUG_LEFT", 368, .secP, 0xc, 4, 1, [.SEC_DEBUG_LEFT]⟩,
  ⟨"CONTROL_OWNER", 369, .mgmtG, 0x0, 4, 1, [.CONTROL_OWNER_PLAN_MGMT, .CONTROL_OWNER_CLAIM]⟩,
  ⟨"POWER_ENVELOPE", 370, .mgmtG, 0x4, 4, 1, [.POWER_ENVELOPE]⟩,
  ⟨"POWER_CAP", 371, .mgmtG, 0x8, 4, 1, [.POWER_CAP]⟩,
  ⟨"CLOCK_CAP", 372, .mgmtG, 0xc, 4, 1, [.CLOCK_CAP]⟩,
  ⟨"MGMT_STATUS", 373, .mgmtG, 0x10, 4, 1, [.MGMT_STATUS_BUS_A, .MGMT_STATUS_BUS_B, .MGMT_STATUS_ALERT, .MGMT_STATUS_FAULT, .MGMT_STATUS_THERM, .MGMT_STATUS_ACTIVATE_PENDING, .MGMT_STATUS_UPDATING]⟩,
  ⟨"FW_INFO", 374, .mgmtG, 0x14, 4, 1, [.FW_INFO_VERSION_MINOR, .FW_INFO_SVN, .FW_INFO_FLOOR]⟩,
  ⟨"MGMT_EVENTS_LOST", 375, .mgmtG, 0x18, 4, 1, [.MGMT_EVENTS_LOST]⟩,
  ⟨"MGMT_BAD_MSG", 376, .mgmtG, 0x1c, 4, 1, [.MGMT_BAD_MSG]⟩,
  ⟨"MGMT_ERROR", 377, .mgmtG, 0x20, 4, 1, [.MGMT_ERROR_CODE, .MGMT_ERROR_MULTI, .MGMT_ERROR_VALID]⟩,
  ⟨"RESET_CAUSE", 378, .globG, 0x40, 4, 1, [.RESET_CAUSE_POR_COLD, .RESET_CAUSE_POR_BROWNOUT, .RESET_CAUSE_PIN, .RESET_CAUSE_PIN_COUNT]⟩,
  ⟨"STRAP_READ", 379, .globG, 0x44, 4, 1, [.STRAP_READ_CODE, .STRAP_READ_CHOICE, .STRAP_READ_OPEN, .STRAP_READ_CHANGED, .STRAP_READ_ADDR_OFFSET, .STRAP_READ_HOST_MODE, .STRAP_READ_BOOT, .STRAP_READ_FROM_OPTB]⟩,
  ⟨"PWR_STATE", 380, .pwrG, 0x0, 4, 1, [.PWR_STATE_STATE, .PWR_STATE_TARGET, .PWR_STATE_MOVING, .PWR_STATE_HOLD_BOOT, .PWR_STATE_PERST]⟩,
  ⟨"PWR_DIE_AWAKE_LO", 381, .pwrG, 0x4, 4, 1, [.PWR_DIE_AWAKE_LO]⟩,
  ⟨"PWR_DIE_AWAKE_HI", 382, .pwrG, 0x8, 4, 1, [.PWR_DIE_AWAKE_HI]⟩,
  ⟨"PWR_GATE_CFG", 383, .pwrG, 0xc, 4, 1, [.PWR_GATE_CFG]⟩,
  ⟨"INPUT_STATUS", 384, .pwrG, 0x10, 4, 1, [.INPUT_STATUS_SENSE_OPEN, .INPUT_STATUS_LOW, .INPUT_STATUS_HIGH, .INPUT_STATUS_EFUSE_OPEN]⟩,
  ⟨"INPUT_EVENTS", 385, .pwrG, 0x14, 4, 1, [.INPUT_EVENTS_REVERSE, .INPUT_EVENTS_EFUSE_TRIP, .INPUT_EVENTS_OV_TRIP, .INPUT_EVENTS_BROWNOUT, .INPUT_EVENTS_WATCHDOG, .INPUT_EVENTS_MGMT_CYCLE, .INPUT_EVENTS_THERMAL_TRIP, .INPUT_EVENTS_SENSE_OPEN]⟩,
  ⟨"INPUT_VOLTAGE", 386, .pwrG, 0x18, 4, 1, [.INPUT_VOLTAGE]⟩,
  ⟨"INPUT_CURRENT", 387, .pwrG, 0x1c, 4, 1, [.INPUT_CURRENT]⟩,
  ⟨"THERM_DIE_STEP", 388, .pwrG, 0x20, 4, 4, [.THERM_DIE_STEP]⟩,
  ⟨"SLEEVE_CTRL", 389, .pwrG, 0x30, 4, 1, [.SLEEVE_CTRL_BLOCK, .SLEEVE_CTRL_GO]⟩]

/-- Rows 390 to 419 of the register tables, in the order of the spec's chapters. -/
def regRows13 : List RegRow := [
  ⟨"SLEEVE_STATUS", 390, .pwrG, 0x34, 4, 1, [.SLEEVE_STATUS_STATE, .SLEEVE_STATUS_BLOCK, .SLEEVE_STATUS_CODE]⟩,
  ⟨"SLEEVE_DROPS", 391, .pwrG, 0x38, 4, 1, [.SLEEVE_DROPS]⟩,
  ⟨"OPTB_STATUS", 392, .pwrG, 0x3c, 4, 1, [.OPTB_STATUS_FUSE_EN, .OPTB_STATUS_APPLIED, .OPTB_STATUS_BAD]⟩,
  ⟨"OPTB_VALUE0", 393, .pwrG, 0x40, 4, 1, [.OPTB_VALUE0]⟩,
  ⟨"OPTB_VALUE1", 394, .pwrG, 0x44, 4, 1, [.OPTB_VALUE1]⟩,
  ⟨"PWR_ERROR", 395, .pwrG, 0x48, 4, 1, [.PWR_ERROR_CODE, .PWR_ERROR_MULTI]⟩,
  ⟨"PWR_ERROR_INFO", 396, .pwrG, 0x4c, 4, 1, [.PWR_ERROR_INFO_ITEM, .PWR_ERROR_INFO_VALID]⟩,
  ⟨"PIN_RESET_MAP", 397, .pwrG, 0x100, 4, 1, [.PIN_RESET_MAP_FAULT_N, .PIN_RESET_MAP_ALERT_N, .PIN_RESET_MAP_THERM_N, .PIN_RESET_MAP_PPS_OUT, .PIN_RESET_MAP_LINK_TX, .PIN_RESET_MAP_HOST_TX, .PIN_RESET_MAP_MGMT_A, .PIN_RESET_MAP_MGMT_B]⟩,
  ⟨"PIN_LEVEL", 398, .pwrG, 0x104, 4, 1, [.PIN_LEVEL_PERST_LOW, .PIN_LEVEL_PPS_IN_HIGH, .PIN_LEVEL_ALERT_LOW, .PIN_LEVEL_FAULT_LOW, .PIN_LEVEL_THERM_LOW, .PIN_LEVEL_REFCLK_ACTIVE]⟩,
  ⟨"PIN_EVENTS", 399, .pwrG, 0x108, 4, 1, [.PIN_EVENTS_PPS_RUNT, .PIN_EVENTS_PERST_GLITCH, .PIN_EVENTS_ALERT_STUCK, .PIN_EVENTS_FAULT_STUCK, .PIN_EVENTS_THERM_STUCK]⟩,
  ⟨"OBS_STATUS", 400, .obsG, 0x0, 4, 1, [.OBS_STATUS]⟩,
  ⟨"OBS_HOST_BW", 401, .obsG, 0x4, 4, 1, [.OBS_HOST_BW]⟩,
  ⟨"STARCH_CTRL", 402, .obsG, 0x8, 4, 1, [.STARCH_CTRL_NOW, .STARCH_CTRL_ARM, .STARCH_CTRL_RELEASE, .STARCH_CTRL_ON_FAULT]⟩,
  ⟨"STARCH_STATUS", 403, .obsG, 0xc, 4, 1, [.STARCH_STATUS_STATE, .STARCH_STATUS_REFUSED, .STARCH_STATUS_COUNT]⟩,
  ⟨"STARCH_TIME_LO", 404, .obsG, 0x10, 4, 1, [.STARCH_TIME_LO]⟩,
  ⟨"STARCH_TIME_HI", 405, .obsG, 0x14, 4, 1, [.STARCH_TIME_HI]⟩,
  ⟨"STARCH_AT_LO", 406, .obsG, 0x18, 4, 1, [.STARCH_AT_LO]⟩,
  ⟨"STARCH_AT_HI", 407, .obsG, 0x1c, 4, 1, [.STARCH_AT_HI]⟩,
  ⟨"OBS_AGG_PERIOD", 408, .obsG, 0x20, 4, 1, [.OBS_AGG_PERIOD]⟩,
  ⟨"OBS_AGG_LO", 409, .obsG, 0x40, 8, 8, [.OBS_AGG_LO]⟩,
  ⟨"OBS_AGG_HI", 410, .obsG, 0x44, 8, 8, [.OBS_AGG_HI]⟩,
  ⟨"OBS_RING_BASE_LO", 411, .obsP, 0x0, 4, 1, [.OBS_RING_BASE_LO]⟩,
  ⟨"OBS_RING_BASE_HI", 412, .obsP, 0x4, 4, 1, [.OBS_RING_BASE_HI]⟩,
  ⟨"OBS_RING_CFG", 413, .obsP, 0x8, 4, 1, [.OBS_RING_CFG_EN, .OBS_RING_CFG_SIZE_LOG2]⟩,
  ⟨"OBS_RING_PI", 414, .obsP, 0xc, 4, 1, [.OBS_RING_PI]⟩,
  ⟨"OBS_RING_CI", 415, .obsP, 0x10, 4, 1, [.OBS_RING_CI]⟩,
  ⟨"OBS_PART_CTRL", 416, .obsP, 0x14, 4, 1, [.OBS_PART_CTRL]⟩,
  ⟨"OBS_PART_STATUS", 417, .obsP, 0x18, 4, 1, [.OBS_PART_STATUS_CI_ERR, .OBS_PART_STATUS_CFG_REJECT, .OBS_PART_STATUS_BOUND, .OBS_PART_STATUS_PLASTER_HELD, .OBS_PART_STATUS_PLASTER_SENDING]⟩,
  ⟨"OBS_PLASTER_LOST", 418, .obsP, 0x1c, 4, 1, [.OBS_PLASTER_LOST]⟩,
  ⟨"OBS_REC_LOST", 419, .obsP, 0x20, 4, 1, [.OBS_REC_LOST]⟩]

/-- Rows 420 to 437 of the register tables, in the order of the spec's chapters. -/
def regRows14 : List RegRow := [
  ⟨"OBS_TRACE_LOST", 420, .obsP, 0x24, 4, 1, [.OBS_TRACE_LOST]⟩,
  ⟨"OBS_CNT_MASK", 421, .obsP, 0x28, 4, 1, [.OBS_CNT_MASK]⟩,
  ⟨"OBS_CNT_SEL", 422, .obsP, 0x2c, 4, 1, [.OBS_CNT_SEL_ID, .OBS_CNT_SEL_SUB, .OBS_CNT_SEL_LIVE, .OBS_CNT_SEL_INSTANCE]⟩,
  ⟨"OBS_CNT_VALUE_LO", 423, .obsP, 0x30, 4, 1, [.OBS_CNT_VALUE_LO]⟩,
  ⟨"OBS_CNT_VALUE_HI", 424, .obsP, 0x34, 4, 1, [.OBS_CNT_VALUE_HI]⟩,
  ⟨"OBS_PLASTER_COUNT", 425, .obsP, 0x38, 4, 1, [.OBS_PLASTER_COUNT]⟩,
  ⟨"DUMP_CFG", 426, .dumpD, 0x0, 4, 1, [.DUMP_CFG_EN, .DUMP_CFG_KIND, .DUMP_CFG_COUNT]⟩,
  ⟨"DUMP_TAG", 427, .dumpD, 0x4, 4, 1, [.DUMP_TAG_VALUE, .DUMP_TAG_MASK]⟩,
  ⟨"DUMP_SRC", 428, .dumpD, 0x8, 4, 1, [.DUMP_SRC_CORE, .DUMP_SRC_HANDLE]⟩,
  ⟨"DUMP_OFFSET", 429, .dumpD, 0xc, 4, 1, [.DUMP_OFFSET]⟩,
  ⟨"DUMP_LENGTH", 430, .dumpD, 0x10, 4, 1, [.DUMP_LENGTH]⟩,
  ⟨"DUMP_TICK_LO", 431, .dumpD, 0x14, 4, 1, [.DUMP_TICK_LO]⟩,
  ⟨"DUMP_TICK_HI", 432, .dumpD, 0x18, 4, 1, [.DUMP_TICK_HI]⟩,
  ⟨"DUMP_STATUS", 433, .dumpD, 0x1c, 4, 1, [.DUMP_STATUS_RUNNING, .DUMP_STATUS_DONE, .DUMP_STATUS_ABORTED, .DUMP_STATUS_DENIED, .DUMP_STATUS_MISSED, .DUMP_STATUS_CODE]⟩,
  ⟨"ND_CTRL", 434, .planP, 0x80, 4, 1, [.ND_CTRL_OVERFLOW_DROP, .ND_CTRL_DROP_LO, .ND_CTRL_DROP_HI]⟩,
  ⟨"ND_EVENTS_LO", 435, .planP, 0x84, 4, 1, [.ND_EVENTS_LO]⟩,
  ⟨"ND_EVENTS_HI", 436, .planP, 0x88, 4, 1, [.ND_EVENTS_HI]⟩,
  ⟨"ND_FIRST_TICK", 437, .planP, 0x8c, 4, 1, [.ND_FIRST_TICK]⟩]

/-- Every register of the spec. -/
def regRows : List RegRow :=
  regRows0 ++ regRows1 ++ regRows2 ++ regRows3 ++ regRows4 ++ regRows5 ++ regRows6 ++ regRows7 ++ regRows8 ++ regRows9 ++ regRows10 ++ regRows11 ++ regRows12 ++ regRows13 ++ regRows14

end Sys2Proof.Machine
end

