-- ==== Sys2Proof/Machine/State.lean ====
section
/-! DEFINITION. Machine/State.lean: everything the spec gives the block, as plain data. Register fields live in one bank (`regs`,
keyed by field, instance and element); what the spec keeps that is no register has a field of its own. Records are kept by number
in banks whose unlisted entries are at their reset value. -/
namespace Sys2Proof.Machine
open Sys2Proof

/-! ### Plan sequencer (01) -/

/-- An entry of a tick's arrival list (01 R14). -/
structure Arrival where
  tick : Nat
  core : Nat
  counter : Nat
  target : Nat
  deriving DecidableEq, Repr

/-- A hold-table entry (01 R29, R30): its key, what the flit carried, whether it caps the partition, and when it was released. -/
structure HoldEntry where
  tag : Nat
  origin : Nat
  tick : Nat
  cause : Nat
  hops : Nat
  live : Bool
  since : Nat
  deriving DecidableEq, Repr

/-- What the sequencer keeps of a partition beside its registers. -/
structure Part where
  /-- PLAN_STATUS.STATE that BREAK came from (01 Table 1.6). -/
  prev : Nat := 3
  arrivals : List Arrival := []
  /-- c(n) + 1 by port; 0 stands for the −1 before the first report (01 R20). -/
  reported : List (Nat × Nat) := []
  holds : List HoldEntry := []
  /-- The values of h for which this device has sent HOLD (01 R27). -/
  sentHolds : List Nat := []
  /-- REPL_DONE_LAYER, VALID bit included, as it stood when a tick was granted, by tick (12 R395). -/
  layerAt : List (Nat × Nat) := []
  startTime : Nat := 0
  /-- Ticks completed: tick t is complete when this is above t. -/
  completed : Nat := 0
  /-- Time on the no-progress timer, in 1/64 ns (01 R44). -/
  noProg : Nat := 0
  /-- A grant was denied by the hem or the cap when last looked at (01 R37). -/
  denied : Bool := false
  /-- Origin rank of the FAULT_STOP that put the partition in FAULT, plus 1; 0 for none (01 R32). -/
  faultOrigin : Nat := 0
  /-- Raw counts, plus 1, at which a breakpoint put the partition in BREAK (03 R109), and at which ABORT stopped it with macro-operations
  in flight (01 Table 1.6); 0 for none. -/
  breakAt : Nat := 0
  abortAt : Nat := 0
  /-- Issue ticks of pool requests that have not reached their bank (01 R16, 05 R177). -/
  poolPending : List Nat := []
  /-- A full load has completed since the last power-on, PERST_N or partition clear (14 Table 14.9). -/
  resident : Bool := false
  /-- Digest of the last full plan image (15 Table 15.10). -/
  digest : Nat := 0
  deriving DecidableEq, Repr

/-! ### Core (03, 04, 05, 06) -/

/-- A level of the loop stack (03 Table 3.1): iterations left, first instruction of the body, its ENDLOOP. -/
structure LoopLevel where
  left : Nat
  body : Nat
  last : Nat
  deriving DecidableEq, Repr

/-- A started macro-operation: whether its effect is carried out, whether it waits, the error it ended with (0 for none), and the
arithmetic flags it raised (04 R144). -/
structure Running where
  op : MacroOp
  done : Bool := false
  /-- A TAKE, WAIT or BARRIER that waits (03 R89, 06 R205). -/
  blocked : Bool := false
  /-- HOLD_CAUSE code of the level on which its injection waits (07 R233); 0 for none. -/
  level : Nat := 0
  /-- The transfer whose data a MOVE from a source that is not local waits for (03 R100). -/
  xfer : Option Nat := none
  err : Nat := 0
  flags : Nat := 0
  deriving DecidableEq, Repr

/-- A transfer this core started and whose data or acknowledgement it still expects (06 R196). -/
structure Xfer where
  id : Nat
  /-- Returning packets and acknowledgements still expected. -/
  left : Nat
  acks : Nat := 0
  /-- Operands of the MOVE that started it. -/
  args : List (Arg × Nat) := []
  /-- The transfer was answered with an error: its signal is never applied (05 R170). -/
  failed : Bool := false
  tag : Nat := 0
  deriving DecidableEq, Repr

/-- An accumulator entry (04 Table 4.5). Exact class: the value is a × 2^b. Compensated class: HI and LO, each a mantissa and an
exponent of 2. The sticky bits record what terms were seen. -/
structure AccEntry where
  a : Int := 0
  b : Int := 0
  hiM : Int := 0
  hiE : Int := 0
  loM : Int := 0
  loE : Int := 0
  nan : Bool := false
  pinf : Bool := false
  ninf : Bool := false
  sat : Bool := false
  low : Bool := false
  /-- An infinity times zero was seen (04 R124). -/
  invalid : Bool := false
  deriving DecidableEq, Repr

/-- An open accumulator region (03 R93): its entries, its accumulation class (1 exact, 2 compensated) and KCOUNT. -/
structure Region where
  base : Nat
  m : Nat
  n : Nat
  cls : Nat
  kcount : Nat
  deriving DecidableEq, Repr

/-- The accumulator file of a core: its open regions and its entries. -/
structure AccFile where
  regions : List Region := []
  entries : List (Nat × AccEntry) := []
  deriving DecidableEq, Repr

/-- Where the control processor stands. -/
inductive CpState where
  | run | ended | error
  deriving DecidableEq, Repr

/-- What a core keeps beside its registers. -/
structure Core where
  prog : List CpInstr := []
  cp : CpState := .run
  /-- The next instruction lies beyond the store: CP_PC has gone past 16,383 (03 R82). -/
  ranOut : Bool := false
  /-- The tick whose macro-operations the CP issues: TICK instructions executed since tick 0. -/
  tick : Nat := 0
  loops : List LoopLevel := []
  queue : List MacroOp := []
  started : List Running := []
  acc : AccFile := {}
  /-- Power token granted to the heavy macro-operation at the head of the queue, with its index: (index, physical token). -/
  token : Option (Nat × Nat) := none
  /-- The breakpoint conditions that stopped the core: bits COUNT, TAG, TICK (03 R109); 0 when not stopped. -/
  fired : Nat := 0
  /-- The macro-operation stopped at is issued without its conditions being evaluated again (03 R110). -/
  resume : Bool := false
  /-- The CP waits for the slot bank of its tick (03 R104). -/
  slotWait : Bool := false
  /-- Raw count and issue index of the macro-operation in ARITH_FIRST_TAG (04 R144). -/
  tagAt : Option (Nat × Nat) := none
  /-- Tick of the last macro-operation issued, plus 1 (03 R108, condition TICK). -/
  lastTick : Nat := 0
  handles : List (Nat × Nat) := []
  windows : List (Nat × Nat) := []
  decls : List (Nat × Nat) := []
  xfers : List Xfer := []
  nextXfer : Nat := 0
  /-- Remote transfers whose later packets are dropped (05 R169): job tag, source rank, node, unit and transfer number. -/
  dropped : List (Nat × Nat × Nat × Nat × Nat) := []
  /-- Bad bytes per damaged word, by word number (05 R155). -/
  bad : List (Nat × Nat) := []
  /-- Words with a correction waiting to be written back (05 R155). -/
  corrections : List Nat := []
  /-- Next row the scrubber reads, per bank (05 R158). -/
  scrub : List (Nat × Nat) := []
  /-- Barrier the core waits at: (barrier, arrival number, stalled before acceptance) (06 R204, R205). -/
  barrier : Option (Nat × Nat × Bool) := none
  /-- Trace entries waiting in the core's FIFO, oldest first, each with the F it was made at, and entries lost since the last record
  (19 R562, R563). -/
  trace : List (Nat × Nat) := []
  traceLost : Nat := 0
  deriving DecidableEq, Repr

/-! ### Outputs -/

/-- What a DOE instance does with an object (14 R448, R431). -/
inductive DoeAnswer where
  | answered | romMeasurement | refused | discarded
  deriving DecidableEq, Repr

/-- An SPDM response (15 Table 15.9): the message answered, and what it carries where the spec says so: the session opened, the
measurement blocks by index. -/
inductive Spdm where
  | version | capabilities | algorithms | digests | certificate | challenge
  | measurements (blocks : List (Nat × List Nat))
  | keyExchange (id : Nat)
  | finished | heartbeat | keyUpdate | endSession | chunkSend | chunk
  | busy | unsupported
  deriving DecidableEq, Repr

/-- An event for the management agent (16 R490). -/
inductive MgmtEvent where
  /-- A code recorded in a first-error field. -/
  | code (c : Nat)
  /-- FAULT_N asserted or released. -/
  | faultN (asserted : Bool)
  /-- A threshold crossing of a sensor (16 Table 16.4): 0 below the warning value, 1 above it, 2 above the critical value. -/
  | sensor (id state : Nat)
  /-- A firmware update state (16 R498): 0 started, 1 image complete, 2 failed, 3 activated, 4 activation pending. -/
  | firmware (st : Nat)
  /-- A status line that the module released is held low: 0 ALERT_N, 1 FAULT_N, 2 THERM_N (18 R539). -/
  | stuck (line : Nat)
  /-- A management bus was isolated, for the other bus (16 R485). -/
  | busStuck (bus : Nat)
  deriving DecidableEq, Repr

/-- What Thimble answers a request with. -/
inductive Reply where
  /-- A 16-bit code and what is returned (15 R465, 16 R487). -/
  | code (c : Nat) (data : List Nat)
  | spdm (r : Spdm)
  /-- An MCTP control or PLDM response and what it carries (16 R486). -/
  | mctp (data : List Nat)
  /-- Events, oldest first (16 R490). -/
  | events (es : List MgmtEvent)
  /-- PLDM's ALREADY_IN_UPDATE_MODE, or a refusal by another PLDM code (16 R498). -/
  | pldmBusy
  | pldmError
  deriving DecidableEq, Repr

/-- What the block sends out. -/
inductive Out where
  /-- A plan control flit handed to a port's link die (01 R26). -/
  | ctl (port : Nat) (flit : CtlFlit)
  /-- A packet injected into the package fabric (07 R219). -/
  | packet (p : Pkt)
  /-- A router sends a packet on by an edge, as these flits (07 R218, R225). -/
  | hop (node edge : Nat) (p : Pkt) (flits : List Flit)
  /-- A frame sent by a port (08 R246), and the markers its lanes insert, LNS last (08 R241). -/
  | frame (port : Nat) (f : Frame)
  | marker (port : Nat) (lanes : List Marker)
  /-- The identity block of Table 8.9 (08 R266). -/
  | identity (port key : Nat) (peerPort rates : Nat) (halfOk : Bool) (nonce : Nat)
  /-- Thimble's statement in IDENTIFY: its X25519 key and the alias key's signature (15 R472); its certificates go with it. -/
  | statement (port pub sig : Nat)
  /-- Bytes written to host memory, with the TEE attribute and a CKID where the writer is bound to a tenant (14 R440, R450; 15 R477). -/
  | hostWrite (addr : Nat) (data : List Byte) (tee : Option Nat := none)
  /-- The value answered to a register read (00). -/
  | readData (party : Party) (v : Nat)
  /-- A back-invalidate snoop of a line: stack and stack address (11 R360). -/
  | backInv (stack addr : Nat)
  /-- The answer to a host's read of device memory, with the poison indication (11 R359, R365, R369). -/
  | hdmData (addr : Nat) (data : List Byte) (poison : Bool)
  /-- The answer to a configuration request: retry status, or a completion with a value (14 R430). -/
  | config (retry : Bool) (v : Nat)
  /-- A DOE instance answers an object, refuses it with the DOE error bit, or discards it (14 R448). -/
  | doe (inst : Nat) (what : DoeAnswer)
  /-- The answer of the CXL mailbox: a timestamp, or none for a command that is refused (14 R428). -/
  | mailbox (v : Option Nat)
  /-- An MSI-X message of a vector (14 R446). -/
  | msix (vector : Nat)
  /-- The single MSI message (14 R446). -/
  | msi
  /-- Thimble's answer on a channel (15 R481, 16 R484). -/
  | reply (ch : Chan) (r : Reply)
  /-- An in-band interrupt on a bus in I3C mode (16 R490). -/
  | ibi (bus : Nat)
  /-- Thimble releases its drivers of a bus and sends 16 clock pulses and a STOP (16 R485). -/
  | busRecover (bus : Nat)
  deriving DecidableEq, Repr

/-! ### Routing (07, 09) -/

/-- A rank-table entry (09 Table 9.2). -/
structure RankEntry where
  lo : Nat := 0
  hi : Nat := 0
  ports : Nat := 0
  valid : Bool := false
  spread : Bool := false
  inc : Nat := 0
  deriving DecidableEq, Repr

/-- What a job slot keeps beside its registers: the armed switch (its instant T, its guard G in µs), whether T has passed (09 R303),
whether a DRAIN waits for it (R305), and whether a switch has completed since ACTIVATE from FREE (R304). -/
structure JobSlot where
  switchAt : Nat := 0
  guardUs : Nat := 0
  inGuard : Bool := false
  drainAfter : Bool := false
  switched : Bool := false
  deriving DecidableEq, Repr

/-- A side read that runs (05 R172, R174): who started it, its core, the handle entry checked at GO, and the SIDE_* registers as they stood
then. -/
structure SideJob where
  by_ : SideBy
  core : Nat
  entry : Nat
  off : Nat
  rows : Nat
  cols : Nat
  stride : Nat
  esize : Nat
  transpose : Bool
  dst : Nat
  deriving DecidableEq, Repr

/-! ### Links (08) -/

/-- A DATA frame in the replay buffer (08 R246, R252, R253). -/
structure TxFrame where
  seq : Nat
  slots : List Slot
  ctl : Option CtlFlit := none
  replays : Nat := 0
  deriving DecidableEq, Repr

/-- Sender states (08 Table 8.6). -/
inductive Sender where
  | normal | wait | replay | retrain
  deriving DecidableEq, Repr

/-- The darning sequence on a port (08 R270, R271). -/
inductive SeqKind where
  | idle | darn | undarn
  deriving DecidableEq, Repr

/-- A transfer whose later packets are discarded (08 R278, R283; 09 R297, R300, R304): its job tag, source rank, node, unit and transfer
number, and whether ROUTE_DISCARD counts them. -/
structure Drop where
  key : Nat × Nat × Nat × Nat × Nat
  counts : Bool := false
  deriving DecidableEq, Repr

/-- What a port keeps beside its registers. -/
structure Port where
  /-- FSEQ of the next new DATA frame, and the frames not acknowledged, oldest first. -/
  nextSeq : Nat := 0
  unacked : List TxFrame := []
  sender : Sender := .normal
  /-- Frames of `unacked` that the running replay has resent, and the FSEQ it started from. -/
  resent : Nat := 0
  replayStart : Nat := 0
  /-- Raw count when the replay timer was last restarted. -/
  timer : Nat := 0
  /-- E, the FSEQ expected next; a DATA frame was accepted since UP; NAKED, and a NAK still to be sent. -/
  expect : Nat := 0
  ackV : Bool := false
  naked : Bool := false
  nakDue : Bool := false
  /-- Frame counters of the two directions (08 R257); the receiver takes its counter from the next frame after a fast retrain. -/
  txCount : Nat := 0
  rxCount : Nat := 0
  resync : Bool := false
  /-- Frames in a row that failed only FCNT or CTAG (08 R258). -/
  badRun : Nat := 0
  ctlQ : List CtlFlit := []
  egress : List Slot := []
  /-- The packet being received: it, its slots still to come, and whether it was admitted. -/
  rx : Option (LPkt × Nat × Bool) := none
  ingress : List LPkt := []
  /-- Transit packets routed and not yet started: packet, egress port, link VC there. -/
  waiting : List (LPkt × Nat × Nat) := []
  /-- Transfers whose later packets are discarded on arrival, and on their way out. -/
  dropIn : List Drop := []
  dropOut : List Drop := []
  /-- Link management messages to send; those awaiting an answer, with their repeats; requests already handled, with the answer. -/
  msgs : List LinkMsg := []
  awaiting : List (LinkMsg × Nat) := []
  handled : List (LinkMsg × Option LinkMsg) := []
  /-- Frames since the last marker of each direction, the parity of each lane since then, and the markers that failed in a row, by lane
  (08 R241, R269). -/
  txMark : Nat := 0
  rxMark : Nat := 0
  txBip : List Nat := []
  rxBip : List Nat := []
  markBad : List Nat := []
  /-- Raw count when the window of LANE_FAIL_CFG began, and corrected symbols in it, by lane (08 R269). -/
  winAt : Nat := 0
  winErr : List Nat := []
  /-- DETECT dwells begun, and the raw count when the last one began (08 R264). -/
  dwells : Nat := 0
  dwellAt : Nat := 0
  /-- Own nonce and X25519 secret, the peer's nonce and X25519 key, and the port keys of the two directions (08 R266, 15 R472). -/
  nonce : Nat := 0
  secret : Nat := 0
  peerNonce : Nat := 0
  peerPub : Nat := 0
  txKey : Nat := 0
  rxKey : Nat := 0
  txn : Nat := 0
  timeMsgs : List TimeMsg := []
  seqKind : SeqKind := .idle
  seqLane : Nat := 0
  seqFailed : Bool := false
  seqSwitched : Bool := false
  seqPeer : Bool := false
  /-- TXN of this end's last DARN_DONE or UNDARN_DONE. -/
  ownDone : Option Nat := none
  /-- The lane that the calibration cycle has reached. -/
  cal : Option Nat := none
  /-- Lanes declared failed; those whose darn waits for UP; the half that the running retrain goes to. -/
  failed : List Nat := []
  deferred : List Nat := []
  /-- The failed lane to be darned once the calibrated lane is back (08 Table 8.12). -/
  after : Option Nat := none
  pendingHalf : Option Nat := none
  identified : Bool := false
  /-- IDENTIFY behind a HELD peer (08 R263). -/
  behindHeld : Bool := false
  deriving DecidableEq, Repr

/-! ### Power domains and clock -/

/-- States of a gated power domain (17 Table 17.4). -/
inductive DomState where
  | on | isolating | falling | discharging | off | waking
  deriving DecidableEq, Repr

/-- A gated power domain: a compute die, a link port or an HBM pseudo-channel (17 R514). -/
structure Domain where
  st : DomState := .off
  /-- An enable recorded while it isolates or discharges. -/
  want : Bool := false
  /-- A disable that waits for the wake to complete. -/
  drop : Bool := false
  deriving DecidableEq, Repr

/-- What a compute die keeps of its clock beside its registers (10 R319, R320). -/
structure Die where
  /-- Its step, plus 1; 0 stands for the grade's maximum, the step after reset. -/
  step : Nat := 0
  /-- The step a change under way goes to, plus 1; 0 when none is under way. -/
  changing : Nat := 0
  /-- The newest step requested meanwhile, plus 1; 0 for none. -/
  newest : Nat := 0
  /-- Raw count, plus 1, at which the units stopped being issued to for the last switch (10 R319); 0 for none. -/
  stopAt : Nat := 0
  deriving DecidableEq, Repr

/-- An exchange being formed on a port (10 R331): the peer's MARK m received at t2, and the other stamps as they become known. -/
structure Exch where
  m : Nat
  t2 : Nat
  t1 : Option Nat := none
  /-- The own MARK sent next: its number, t3, and the raw count then. -/
  own : Option (Nat × Nat × Nat) := none
  t4 : Option Nat := none
  deriving DecidableEq, Repr

/-- What the time protocol keeps of a port beside its registers (10). -/
structure TPort where
  nextMark : Nat := 0
  /-- Periods elapsed, modulo 16. -/
  tick : Nat := 0
  exchs : List Exch := []
  /-- An ANNOUNCE was received; periods elapsed since; what it said. -/
  heard : Bool := false
  age : Nat := 0
  domain : Nat := 0
  hops : Nat := 0
  synced : Bool := false
  gmHoldover : Bool := false
  gmId : Nat := 0
  /-- Periods elapsed since the last valid exchange. -/
  quiet : Nat := 0
  /-- The halves of the peer's S_OFFSET: version and seconds, version and [35:6] nanoseconds with [5:0] fraction. -/
  todA : Option (Nat × Nat) := none
  todB : Option (Nat × Nat) := none
  /-- Own and peer's measured skew, with the calibration cycle number. -/
  skew : Option (Nat × Int) := none
  peerSkew : Option (Nat × Int) := none
  deriving DecidableEq, Repr

/-- What the clock die keeps beside its registers (10). -/
structure Clock where
  /-- The anchor A of the corrected time (10 R322). -/
  anchor : Nat := 0
  /-- The main PLL holds a mean control word of 100 ms (10 R315); raw count when it locked to the candidate in use. -/
  hasHeld : Bool := false
  lockedAt : Option Nat := none
  /-- Candidates that have stayed good for 100 ms (10 R314); the PLL has failed (10 R317). -/
  requal : List Nat := []
  pllFailed : Bool := false
  /-- What the copy of N in a link die differs by, modulo 2^64 (10 R313). -/
  copies : List (Nat × Nat) := []
  /-- Version of the S_OFFSET announced (10 R332). -/
  todVersion : Nat := 0
  /-- F and S (84 bits, packed) at the last PPS_IN edge; the next edge is the first since PPS_IN_EN was set (10 R338, R339). -/
  ppsF : Nat := 0
  ppsS : Nat := 0
  ppsFirst : Bool := false
  /-- PPS_OUT is high, since this raw count; the second of S at which it does not rise (again) (10 R339). -/
  ppsOut : Option Nat := none
  ppsLast : Option Nat := none
  /-- Servo: exchanges with the parent since ACQUIRE and the sum of their 32 θ; the step is made; exchanges in a row within 100 ps,
  and beyond 10 ns (10 Table 10.7). -/
  exchCount : Nat := 0
  exchSum : Int := 0
  stepped : Bool := false
  goodRun : Nat := 0
  farRun : Nat := 0
  /-- Raw count when the device left SYNCED, and the HOPS of the parent it last had (10 R336). -/
  left : Option (Nat × Nat) := none
  deriving DecidableEq, Repr

/-! ### Serving (13) -/

/-- A request fetched and not decided (13 R444): its queue number, its fetch number, whether its TICK_AT lay at or below the last tick
built when it was fetched (R403), its descriptor. -/
structure SrvReq where
  queue : Nat
  num : Nat
  late : Bool := false
  desc : ReqDesc
  deriving DecidableEq, Repr

/-- A live sequence (13 R408): its number, descriptor, decode slot and KV blocks; whether it is in GENERATE; prompt tokens placed; the
tokens generated; whether a placement of it is not applied yet; whether its block table is acknowledged. -/
structure Seq where
  num : Nat
  desc : ReqDesc
  slot : Nat
  blocks : List Nat
  gen : Bool := false
  placed : Nat := 0
  tokens : List Nat := []
  waiting : Bool := false
  acked : Bool := false
  deriving DecidableEq, Repr

/-- A placement (13 R409): its tick, engine (0 decode, 1 prefill) and slot; its sequence; whether it is a generation; whether it carries
the prompt's last chunk; the tokens in its chunk; its slot fields 0 to 8 (Table 13.6); the token sampled and whether that sample was
FINAL. -/
structure Placement where
  tick : Nat
  engine : Nat
  slot : Nat
  seq : Nat
  gen : Bool
  last : Bool := false
  count : Nat := 1
  vals : List Nat := []
  result : Option (Nat × Bool) := none
  deriving DecidableEq, Repr

/-- A result record (13 Table 13.9). -/
structure Rec where
  reqId : Nat
  token : Nat := 0xFFFFFFFF
  index : Nat := 0
  tick : Nat
  logprob : Nat := 0
  seq : Nat := 0x3FFF
  reason : Nat := 0
  flags : Nat := 0
  repl : Nat := 0
  deriving DecidableEq, Repr

/-- What the serving unit keeps of a partition beside its registers: undecided requests and the number fetched; values of
SRV_ADMIT_THROUGH written and not yet in use, each with the descriptors still to fetch by queue, and the value in use (R402); live
sequences in order of admission; placements of the last ticks; the next tick to build, and the one built and not yet published; the
published banks by tick, each with its non-zero values by core × 16 + register (R104); records not yet written (R445); SAMPLE rows on
their way to the sampling unit, and rows finished of each SAMPLE under way, by (core, issue index) (R409, 03 R99). -/
structure Srv where
  store : List SrvReq := []
  fetched : Nat := 0
  promises : List (Nat × List (Nat × Nat)) := []
  through : Nat := 0
  seqs : List Seq := []
  places : List Placement := []
  next : Nat := 0
  building : Option Nat := none
  banks : List (Nat × List (Nat × Nat)) := []
  records : List Rec := []
  rowsDue : Nat := 0
  rowsDone : List (Nat × Nat × Nat) := []
  deriving DecidableEq, Repr

/-! ### Observation (19) -/

/-- A plaster snapshot: what was latched, from which its records are written (19 R555, R558). -/
structure Plaster where
  part : Nat
  number : Nat
  reason : Nat
  time : Nat
  regs : List (Nat × Nat)
  plan : Part
  cores : List (Nat × Core)
  ports : List (Nat × Port)
  tokens : List (Nat × List (Nat × Nat × Nat))
  domains : List (Nat × Domain)
  srvs : List (Nat × Srv)
  sending : Bool := false
  deriving DecidableEq, Repr

/-- An observation record that waits for its ring (19 Table 19.4): TYPE, sub-type, TIME, and its body from byte 16 on. -/
structure ObsRec where
  kind : Nat
  sub : Nat := 0
  time : Nat
  body : List Byte
  deriving DecidableEq, Repr

/-- A dump under way (19 R560): the time, tag and tick of its trigger. -/
structure Dump where
  time : Nat
  tag : Nat := 0
  tick : Nat := 0
  deriving DecidableEq, Repr

/-- What the tacking network keeps beside its registers (19). -/
structure Obs where
  /-- Observation counters, by partition, ID, SUB and INSTANCE (19 Table 19.3). -/
  counts : List (Nat × Nat) := []
  /-- The copies of the last starch (19 R549). -/
  starched : List (Nat × Nat) := []
  /-- The plaster shadows in use, one per partition at most (19 R556). -/
  shadows : List Plaster := []
  /-- Snapshots taken since power-on. -/
  snapshots : Nat := 0
  /-- Increases of the aggregates in the period under way, by pair, the raw count when it began and its length in ms (19 R548). -/
  agg : List (Nat × Nat) := []
  aggAt : Nat := 0
  aggMs : Nat := 1
  /-- Records that wait for a partition's ring, oldest first, and the records written to it since it was enabled (19 R552, R554). -/
  hub : List (Nat × List ObsRec) := []
  seq : List (Nat × Nat) := []
  /-- TRACE records discarded and not yet told of in a LOSS record, by partition: records, entries, time of the first (19 R563). -/
  loss : List (Nat × Nat × Nat × Nat) := []
  /-- Dumps under way, by partition × 8 + dump point (19 R560). -/
  dumps : List (Nat × Dump) := []
  deriving DecidableEq, Repr

/-! ### Host (14) -/

/-- A command of a CMD queue (14 Table 14.7): its fields; its effect is under way and it completes later; the code it completes with. -/
structure HostCmd where
  op : Nat
  flags : Nat := 0
  id : Nat := 0
  addr : Nat := 0
  size : Nat := 0
  hbm : Nat := 0
  begun : Bool := false
  code : Nat := 0
  deriving DecidableEq, Repr

/-- What a queue keeps beside its registers (14): an ENABLE written during STOPPING waits (R439); the command in hand (R441); a shadow
write is due, and the raw count plus 1 of the last one (R438); its interrupt waits for the shadow write; records since its last
interrupt, and the raw count plus 1 of the oldest one not signalled (R447). -/
structure Queue where
  restart : Bool := false
  cmd : Option HostCmd := none
  shadowDue : Bool := false
  shadowAt : Nat := 0
  irqDue : Bool := false
  unsignalled : Nat := 0
  oldest : Nat := 0
  deriving DecidableEq, Repr

/-- What the host die keeps beside its registers (14). -/
structure HostSide where
  queues : List (Nat × Queue) := []
  /-- Bus Master Enable; the function is in D3hot (14 R440). -/
  busMaster : Bool := false
  d3 : Bool := false
  /-- MSI-X vectors whose mask bit is clear, and the other dwords of the MSI-X table, by number (14 Table 14.4). -/
  unmasked : List Nat := []
  msixWords : List (Nat × Nat) := []
  /-- Pending bits of masked vectors. -/
  pba : Nat := 0
  /-- CKIDs bound, with their partition plus 1 (14 R450); the CXL.cachemem stream has failed an integrity check (14 R449); the HDM decoder
  is committed (14 R428). -/
  ckids : List (Nat × Nat) := []
  memFailed : Bool := false
  hdmMapped : Bool := false
  /-- The last decoder commit failed (14 R428). -/
  hdmErr : Bool := false
  /-- MSI and MSI-X are enabled in configuration space (14 R446). -/
  msiOn : Bool := false
  msixOn : Bool := false
  /-- Configuration requests are answered normally (14 R430). -/
  ready : Bool := false
  /-- Raw count plus 1 when the host link went down; 0 while it is up (16 R494). -/
  downAt : Nat := 1
  /-- DOE instances whose last response has not been read (14 R448). -/
  doeUnread : List Nat := []
  /-- IDE stream over which a queue is bound, plus 1: 0 link, 1 to 4 selective, 5 CXL.cachemem (14 R449, R450). -/
  qStreams : List (Nat × Nat) := []
  /-- The values last written to the dwords of configuration space, by offset (14 R427). -/
  config : List (Nat × Nat) := []
  deriving DecidableEq, Repr

/-! ### HBM (11) -/

/-- An access that a controller holds: a fabric packet with the on-die ECC reports of its words; a host request; or a packet of the COPY_IN
or COPY_OUT of queue q at address b of stack n, the latter with the host address that its bytes go to (14 R443). -/
inductive HbmAcc where
  | pkt (k : Pkt) (odecc : Nat)
  | hdm (r : HdmReq)
  | copyIn (q n b : Nat) (data : List Byte)
  | copyOut (q n b len addr : Nat)
  deriving DecidableEq, Repr

/-- What a stack keeps beside its registers: failed checks in a row by pseudo-channel (R365), raw count plus 1 at which each
pseudo-channel's last refresh window opened (R361), words scrubbed in the pass under way (R367), and accesses that wait, oldest
first. -/
structure Stack where
  fails : List (Nat × Nat) := []
  refresh : List (Nat × Nat) := []
  scrubbed : Nat := 0
  waiting : List HbmAcc := []
  deriving DecidableEq, Repr

/-! ### Plinth (12) -/

/-- An object of the directory (12 Table 12.2): 0 FREE, 1 WRITING, 2 READY, 3 CORRUPT, 4 ERASING; its manifest; layers written so
far. -/
structure PlinthObj where
  state : Nat := 0
  manifest : Manifest := {}
  written : Nat := 0
  deriving DecidableEq, Repr

/-- What a replacement keeps beside its registers (12 R392, R393, R396): the descriptor (resident, HBM address, by layer); whether a
descriptor is being fetched; the binding and the new object it was armed with; the steps begun since ARM; layers still to copy in the
step; the tick named in its HOLD; whether it ends in STOPPED after the layer being copied; whether it copies without holds after
FINISH. -/
structure Repl where
  desc : List (Bool × Nat) := []
  fetching : Bool := false
  bind : Nat := 0
  newObject : Nat := 0
  steps : Nat := 0
  stepLeft : Nat := 0
  held : Option Nat := none
  stopping : Bool := false
  finishing : Bool := false
  deriving DecidableEq, Repr

/-! ### Thimble (15, 16) -/

/-- An SPDM session (15 R465, R473): its ID, the tenant's KEY_ID once FINISH has authenticated it, and how often its keys were
updated. -/
structure Session where
  id : Nat
  tenant : Option Nat := none
  keys : Nat := 0
  deriving DecidableEq, Repr

/-- A firmware image: whether it is valid, its version, security version, RAISE_FLOOR flag and digest (16 R497, R498). -/
structure Firmware where
  valid : Bool := true
  version : Nat
  svn : Nat
  raiseFloor : Bool := false
  digest : Nat
  deriving DecidableEq, Repr

/-- A firmware update under way (16 R498): its header once received, and the body so far. -/
structure FwUpdate where
  header : Option FwHeader := none
  body : List Byte := []
  deriving DecidableEq, Repr

/-- What Thimble keeps beside its registers. -/
structure Thimble where
  /-- Thimble is in ROM recovery (14 R431, 16 R500); it restarts through its ROM (16 R499). -/
  romRecovery : Bool := false
  restarting : Bool := false
  /-- KEY_IDs of the publishers enrolled (15 R455); the store failed its check (15 R453). -/
  publishers : List Nat := []
  storeBad : Bool := false
  /-- Current nonces plus 1, 0 for none: 0 of the mailbox, 1 of the management port, 2 + n of session n (15 R461). -/
  nonces : List (Nat × Nat) := []
  sessions : List Session := []
  /-- Session, plus 1, that may bind a partition (15 R465). -/
  grants : List (Nat × Nat) := []
  /-- Ends on F, plus 1, of the OBSERVE grant and of tenant debug by partition (15 R463). -/
  observeEnd : Nat := 0
  debugEnd : List (Nat × Nat) := []
  /-- Pending switches of the sending generation, T × 2 + KGEN + 1, by partition (15 R470). -/
  kgenSwitch : List (Nat × Nat) := []
  /-- Partitions that have had a tenant since power-on (15 R466). -/
  hadTenant : List Nat := []
  /-- The image in the store, none for the one the part was delivered with; FW_DIGEST of the image that runs (16 R498, R499). -/
  stored : Option Firmware := none
  running : Option Nat := none
  update : Option FwUpdate := none
  /-- An image has been received whole and can be activated (16 R499). -/
  updated : Bool := false
  /-- MCTP endpoint ID, 0 for none; dynamic addresses plus 1 by bus; buses whose stuck-low recovery has run; MCTP messages and PLDM terminus
  are fixed (16 R483, R485). -/
  eid : Nat := 0
  addrs : List (Nat × Nat) := []
  stuck : List Nat := []
  /-- Latest readings by sensor 1 to 14 and the state of sensors 6 to 10 (16 Table 16.4). -/
  readings : List (Nat × Int) := []
  sensors : List (Nat × Nat) := []
  deriving DecidableEq, Repr

/-! ### Power and reset (17) -/

/-- What the input stage and the bring-up keep beside their registers. -/
structure Power where
  /-- Power-on reset is asserted; from a brown-out (17 R519); every rail is removed for an off time (16 R496, 17 R509). -/
  por : Bool := true
  brownout : Bool := false
  railsOff : Bool := false
  /-- The input is below 30 V: neither the input stage nor Thimble runs (18 R534). -/
  dark : Bool := false
  /-- The input was reversed: the latch of R505. The always-on path is shorted (17 R506). -/
  reversed : Bool := false
  aoShort : Bool := false
  /-- Last step of Table 17.9 completed, and rails of Table 17.2 in regulation. -/
  step : Nat := 0
  rail : Nat := 0
  /-- The loading that follows power-on reset has been done (17 R523). -/
  loaded : Bool := false
  /-- The first bring-up after power-on has released FAULT_N (17 R528, 18 R535). -/
  up : Bool := false
  /-- Newest power state requested during a move, 0 for none (17 R512). -/
  next : Nat := 0
  /-- CLEAR_FAULT was accepted since the eFuse opened; a thermal trip has not been cleared (17 R506, R516). -/
  cleared : Bool := false
  thermal : Bool := false
  /-- Raw count when the watchdog was last restarted (17 R509). -/
  watchdog : Nat := 0
  /-- Latest die readings in °C by block: compute die nn, 64 + n link die, 72 on the other dies, 96 + n stacks, 112 the input stage
  (17 R515). -/
  temps : List (Nat × Int) := []
  /-- Raw counts, plus 1, since when a compute die's gate condition has held, by die × 2 + which (17 R513). -/
  gate : List (Nat × Nat) := []
  /-- The bring-up from step 5 is wanted (17 R512, R518, R522); option loading was abandoned by PERST_N (17 R520). -/
  go : Bool := false
  abandoned : Bool := false
  deriving DecidableEq, Repr

/-! ### Armature loader (02) -/

/-- What the loader keeps beside its registers: the staged image, ARM_SRC_SIZE as it stood at STAGE, the phase of an application
(0 draining, 1 cleared, 2 shadow copies checked, 3 shared tables switched), the raw count at APPLY, and the signature and corrected time
of the last write fault (02 R73). -/
structure Loader where
  staged : Option ArmImage := none
  size : Nat := 0
  phase : Nat := 0
  startedAt : Nat := 0
  /-- Compute dies whose fabric ports are closed to new injection (02 Table 2.8). -/
  closed : List Nat := []
  lastFault : Option (Nat × Nat) := none
  deriving DecidableEq, Repr

/-! ### The whole block -/

/-- The four memories. An unlisted byte of a scratchpad, a pool die or a Plinth object reads 0, one of HBM as log entry 21 says. -/
structure Memory where
  /-- Scratchpad bytes, core g's address a at g × 524,288 + a (05 R149). -/
  spad : List (Nat × Byte) := []
  /-- Pool bytes, group g's offset o at g × 50,331,648 + o (05 R175). -/
  pool : List (Nat × Byte) := []
  /-- HBM bytes written, byte b of stack n at n × 80,000,000,000 + b: key pair × 256 + byte + 1 (11 R350, R355). -/
  hbm : List (Nat × Nat) := []
  /-- Plinth bytes, object n's byte o at n × 2^41 + o (12). -/
  plinthData : List (Nat × Byte) := []
  deriving DecidableEq, Repr

structure State where
  /-- Commands waiting, first in first out. -/
  pending : List Instr
  /-- Register fields away from their reset value. -/
  regs : List (Nat × Nat)
  /-- Held low halves plus 1, by BAR0 address of the _LO register × 2, + 1 for the management agent (00 R9, R10). -/
  held : List (Nat × Nat)
  /-- Latched high halves plus 1, keyed in the same way (00 R8, R10). -/
  latch : List (Nat × Nat)
  parts : List (Nat × Part)
  cores : List (Nat × Core)
  mem : Memory
  /-- Bad bytes per damaged word of the pool, by word number (05 R155, R175). -/
  poolBad : List (Nat × Nat)
  /-- Key pair in force, by partition, 16 for the device pair, and the number of pairs drawn: 0 before the first draw, 2k the kth pair drawn,
  2(KEY1 × 2^256 + KEY2) + 1 a pair that a tenant supplied (11 R355, R357; 15 R468). -/
  hbmPairs : List (Nat × Nat)
  hbmDraws : Nat
  /-- Bad bytes per damaged word of HBM, by device byte address div 32, and words with a correction to be written back (11 R367). -/
  hbmBad : List (Nat × Nat)
  hbmFix : List Nat
  hbmStacks : List (Nat × Stack)
  /-- Snoop filters, oldest line first, by 2 × stack + half: stack address div 64, and whether a back-invalidate is under way
  (11 R360). -/
  snoop : List (Nat × List (Nat × Bool))
  /-- Slices whose change from OPEN to CLOSED waits (11 R360). -/
  hdmClosing : List Nat
  /-- Key pairs requested and not yet in force, by partition: 1 drawn by Thimble, 2 drawn and counted as the tenant's, 3 + the tenant's pair
  (11 R357). -/
  hbmKeyReq : List (Nat × Nat)
  /-- Plinth objects and binding entries (12). -/
  plinth : List (Nat × PlinthObj)
  binds : List (Nat × Nat)
  /-- The latched nonce is current (12 R382); plan reads that wait for a die's upkeep window to end (12 R375). -/
  plinthNonce : Bool
  plinthWait : List Pkt
  /-- Object of the installation or deletion under way. -/
  plinthOp : Nat
  thimble : Thimble
  loader : Loader
  /-- Slot map entries by partition (13 R400). -/
  slotMaps : List (Nat × List Nat)
  /-- The serving unit, by partition (13). -/
  srvs : List (Nat × Srv)
  repls : List (Nat × Repl)
  /-- Events for the management agent, oldest first. -/
  events : List MgmtEvent
  outs : List Out
  /-- Packets on the package fabric, in the order in which they were injected (07 R224). -/
  flight : List Pkt
  /-- Packets that no macro-operation sends at once and that wait to be injected, with the partition that sends them (09 R289, R303;
  02 Table 2.8). -/
  outbox : List (Nat × Pkt)
  /-- Gives of the arithmetic-clock cycle under way: core, counter, GIVEN at the start of the cycle, and whether a give was refused
  (06 R200). -/
  gives : List (Nat × Nat × Nat × Bool)
  /-- The side read that runs. -/
  side : Option SideJob
  /-- Fabric route entries that differ from the boot base's, as FAB_ROUTE_ENTRY holds them plus 1, by node, destination, VC. -/
  fabRoutes : List (Nat × Nat)
  /-- Rank-table entries, entry e of epoch k of slot j at j × 512 + k × 256 + e (09 R292). -/
  ranks : List (Nat × RankEntry)
  jobSlots : List (Nat × JobSlot)
  ports : List (Nat × Port)
  /-- Link job keys by partition × 2 + generation, 0 for none, and sealing counters by (partition × 2 + generation) × 32 + port
  (08 R279, R281). -/
  jobKeys : List (Nat × Nat)
  sealSeq : List (Nat × Nat)
  /-- Barrier i of partition p at p × 32 + i: bit 0 (bit 1) set when an arrival for round g + 1 (g + 2) came from a device with a
  member core (06 R206). -/
  barFlags : List (Nat × Nat)
  /-- Power tokens held, by die: (physical token, core, issue index) (01 R42). -/
  tokens : List (Nat × List (Nat × Nat × Nat))
  dies : List (Nat × Die)
  /-- Gated power domains: compute die nn at nn, port n at 64 + n, pseudo-channel c of stack k at 96 + 32k + c (17 R514). -/
  domains : List (Nat × Domain)
  tports : List (Nat × TPort)
  /-- Owner records of pool bank b (group × 16 + bank in group), parity k, at 2b + k: owner core × 256 + owner tick + 1 (05 R177). -/
  owners : List (Nat × Nat)
  clock : Clock
  power : Power
  obs : Obs
  host : HostSide
  /-- The raw count N (10 R321), in 1/64 ns. -/
  raw : Nat
  /-- The MODEL's own counter of free values used (log entry 3). -/
  free : Nat
  deriving DecidableEq, Repr

/-- Why the block would stop. No rule of the spec stops the block itself, so nothing raises it. -/
inductive Fault where
  /-- Raised by nothing; safe. -/
  | none
  deriving DecidableEq, Repr

/-- Why a command has no meaning. -/
inductive Refusal where
  /-- Raised by the dispatcher for a command whose meaning is not written yet; safe. -/
  | notModelled (mnemonic : String)
  deriving DecidableEq, Repr

/-- The block right after reset. -/
def State.reset : State where
  pending := []
  -- ARM_PART_QUADS, ARM_PART_POOL_LO and HI, ARM_PART_PORTS and ARM_PART_HBM of partition 0 (02 Table 2.11)
  regs := [(2048, 0xFFFF), (2112, 0xFFFFFFFF), (2144, 0xFFFFFFFF), (2176, 0xFFFFFFFF), (2208, 0x100)]
  held := []
  latch := []
  parts := []
  cores := []
  mem := {}
  poolBad := []
  hbmPairs := []
  hbmDraws := 0
  hbmBad := []
  hbmFix := []
  hbmStacks := []
  snoop := []
  hdmClosing := []
  hbmKeyReq := []
  plinth := []
  binds := []
  plinthNonce := false
  plinthWait := []
  plinthOp := 0
  thimble := {}
  loader := {}
  slotMaps := []
  srvs := []
  repls := []
  events := []
  outs := []
  flight := []
  outbox := []
  gives := []
  side := none
  fabRoutes := []
  ranks := []
  jobSlots := []
  ports := []
  jobKeys := []
  sealSeq := []
  barFlags := []
  tokens := []
  dies := []
  domains := []
  tports := []
  owners := []
  clock := {}
  power := {}
  obs := {}
  host := {}
  raw := 0
  free := 0

end Sys2Proof.Machine
end

