-- ==== Sys2Proof/Machine/Regs.lean ====
section
/-! DEFINITION. Machine/Regs.lean: reading and writing register fields, partition records and core records: the one way every
meaning reaches them. -/
namespace Sys2Proof

/-- The n bytes from an offset, lowest first, as a number: a field of a little-endian layout. -/
def byteField (l : List Byte) (off n : Nat) : Nat := ((List.range n).map (fun j => (l.getD (off + j) 0).toNat * 256 ^ j)).sum

/-- SHA-512 of some bytes, the KEY_ID of a public key, and this device's own KEY_ID, as numbers (12 R379, Table 12.5). -/
def sha512 (l : List Byte) : Nat := (Config.sha512 l).toNat
def keyIdOf (l : List Byte) : Nat := (Config.keyId l).toNat
def ownKeyId : Nat := Config.deviceKeyId.toNat

end Sys2Proof
namespace Sys2Proof.Machine
open Sys2Proof

/-- Where field `f` of instance `i` (partition, core, port and so on), element `k` of a numbered range, is kept. -/
def Fld.key (f : Fld) (i k : Nat) : Nat := (i * 256 + k % 256) * 16384 + f.code % 16384

/-- The value of a register field. -/
def State.fld (s : State) (f : Fld) (i : Nat := 0) (k : Nat := 0) : Nat := bankGet f.rst s.regs (f.key i k)

/-- The field is not zero. -/
def State.flag (s : State) (f : Fld) (i : Nat := 0) (k : Nat := 0) : Bool := s.fld f i k != 0

/-- Set a register field; a value wider than the field keeps its low bits. -/
def State.setFld (s : State) (f : Fld) (v : Nat) (i : Nat := 0) (k : Nat := 0) : State :=
  { s with regs := bankSet f.rst s.regs (f.key i k) (v % 2 ^ f.width) }

/-- Add to a register field, modulo its width. -/
def State.addFld (s : State) (f : Fld) (n : Nat := 1) (i : Nat := 0) (k : Nat := 0) : State :=
  s.setFld f (s.fld f i k + n) i k

/-- A 64-bit quantity held in a _LO and a _HI field (00 R8). -/
def State.fld64 (s : State) (lo hi : Fld) (i : Nat := 0) (k : Nat := 0) : Nat := s.fld lo i k + s.fld hi i k * 2 ^ 32

/-- Set a 64-bit quantity held in a _LO and a _HI field. -/
def State.setFld64 (s : State) (lo hi : Fld) (v : Nat) (i : Nat := 0) (k : Nat := 0) : State :=
  (s.setFld lo v i k).setFld hi (v / 2 ^ 32) i k

/-- Bit `n` of a mask field. -/
def State.bit (s : State) (f : Fld) (n : Nat) (i : Nat := 0) : Bool := (s.fld f i).testBit n

/-- A number with bit `n` set or cleared. -/
def putBit (v n : Nat) (b : Bool) : Nat :=
  if v.testBit n = b then v else if b then v + 2 ^ n else v - 2 ^ n

/-- Set or clear bit `n` of a mask field. -/
def State.setBit (s : State) (f : Fld) (n : Nat) (b : Bool) (i : Nat := 0) : State :=
  s.setFld f (putBit (s.fld f i) n b) i

/-! ### 64-bit pairs (00 R8 to R10) -/

/-- The host and the management agent each have their own latch and held half (00 R10). -/
def pairKey (party : Party) (lo : Nat) : Nat := lo * 2 + (if party = .mgmt then 1 else 0)

/-- Hold a low half (00 R9). -/
def State.holdLow (s : State) (party : Party) (lo v : Nat) : State :=
  { s with held := bankSet 0 s.held (pairKey party lo) (v % 2 ^ 32 + 1) }

/-- The value a write of the high half commits, `cur` being the low half when none is held; the held half is used up (00 R9). -/
def State.commitPair (s : State) (party : Party) (lo cur hi : Nat) : Nat × State :=
  let low := match bankGet 0 s.held (pairKey party lo) with
    | 0 => cur
    | v + 1 => v
  (low + hi % 2 ^ 32 * 2 ^ 32, { s with held := bankSet 0 s.held (pairKey party lo) 0 })

/-- BAR0 address of offset `off` in the window of a core (03 R113). -/
def coreAddr (g off : Nat) : Nat := 0x02000000 + g / 96 * 0x80000 + 0x1000 + g % 96 * 0x1000 + off

/-- The fields that satisfy `p`, back at their reset values: every field whose number and instance are named. -/
def State.dropFlds (s : State) (p : Nat → Nat → Bool) : State :=
  { s with regs := bankDrop (fun key => p (key % 16384) (key / 16384 / 256)) s.regs }

def State.part (s : State) (p : Nat) : Part := bankGet {} s.parts p
def State.setPart (s : State) (p : Nat) (x : Part) : State := { s with parts := bankSet {} s.parts p x }
def State.core (s : State) (g : Nat) : Core := bankGet {} s.cores g
def State.setCore (s : State) (g : Nat) (x : Core) : State := { s with cores := bankSet {} s.cores g x }

/-- The bits set in a mask, lowest first, of the first `n` bits. -/
def bitsOf (mask n : Nat) : List Nat := (List.range n).filter (fun j => mask.testBit j)

/-- A 64-bit pattern as a signed number. -/
def sgn (w v : Nat) : Int := if v % 2 ^ w < 2 ^ (w - 1) then (v % 2 ^ w : Nat) else ((v % 2 ^ w : Nat) : Int) - 2 ^ w

/-- A signed number as a 64-bit pattern. -/
def unsgn (w : Nat) (v : Int) : Nat := (v % 2 ^ w).toNat

/-- `b` reached from `a` going upward modulo 2^w: (a − b) mod 2^w < 2^(w−1) (06 R189, 10 R323). -/
def reached (w a b : Nat) : Bool := (a + 2 ^ w - b % 2 ^ w) % 2 ^ w < 2 ^ (w - 1)

/-- A fresh free value and the state that has used it (log entry 3). -/
def State.draw (s : State) : BitVec 64 × State := (Config.freeValue s.free, { s with free := s.free + 1 })

/-- Append an output. -/
def State.out (s : State) (o : Out) : State := { s with outs := s.outs ++ [o] }

/-! ### Bytes and numbers, little-endian (04 R115) -/

def leNat : List Byte → Nat
  | [] => 0
  | b :: t => b.toNat + 256 * leNat t

/-- The n low bytes of a number, lowest first. -/
def leBytes (n v : Nat) : List Byte := (List.range n).map (fun j => BitVec.ofNat 8 (v / 256 ^ j))

end Sys2Proof.Machine
end

