-- ==== Sys2Proof/Machine/Ops.lean ====
section
/-! DEFINITION. Machine/Ops.lean: the shared operations: time, ownership, job slots, recording an error, raising an interrupt,
queuing an event, taking a plaster or a starch, sending plan control flits, and entering FAULT. -/
namespace Sys2Proof.Machine
open Sys2Proof

/-! ### Time (10) -/

/-- The offset OFF, signed (10 R322). -/
def State.timeOff (s : State) : Int := sgn 64 (s.fld64 .TIME_OFFSET_LO .TIME_OFFSET_HI)

/-- The rate RATE, signed, in units of 2^-48 (10 R322). -/
def State.timeRate (s : State) : Int := sgn 64 (s.fld64 .TIME_RATE_LO .TIME_RATE_HI)

/-- The correction gathered since the anchor: floor((N − A) × RATE / 2^48) (10 R322). -/
def State.rateGain (s : State) : Int :=
  Int.fdiv (((s.raw + 2 ^ 64 - s.clock.anchor % 2 ^ 64) % 2 ^ 64 : Nat) * s.timeRate) (2 ^ 48)

/-- The corrected time F = (N + OFF + floor((N − A) × RATE / 2^48)) mod 2^64 (10 R322). -/
def State.now (s : State) : Nat := unsgn 64 ((s.raw : Int) + s.timeOff + s.rateGain)

/-- The corrected time has reached V (10 R323). -/
def State.timeReached (s : State) (v : Nat) : Bool := reached 64 s.now v

/-- V lies at least 2 µs ahead of the corrected time: 128,000 units of 1/64 ns (01 Table 1.6, 09 R303, 19 R550). -/
def State.twoMicrosAhead (s : State) (v : Nat) : Bool := reached 64 v (s.now + 128000)

/-- At least `ns` nanoseconds of the raw count have passed since `mark`. -/
def State.elapsed (s : State) (mark ns : Nat) : Bool := mark + ns * 64 ≤ s.raw

/-! ### Partitions (01 Table 1.6, 02) -/

/-- The partition states of Table 1.6. -/
inductive PState where
  | idle | loaded | armed | running | stopping | stopped | fault | brk
  deriving DecidableEq, Repr

/-- PLAN_STATUS.STATE codes (01 Table 1.9). -/
def PState.code : PState → Nat
  | .idle => 0 | .loaded => 1 | .armed => 2 | .running => 3 | .stopping => 4 | .stopped => 5 | .fault => 6 | .brk => 7

/-- The state with a code. The field never holds a code above 7. -/
def PState.ofCode : Nat → PState
  | 1 => .loaded | 2 => .armed | 3 => .running | 4 => .stopping | 5 => .stopped | 6 => .fault | 7 => .brk | _ => .idle

/-- The partition's state. -/
def State.pstate (s : State) (p : Nat) : PState := .ofCode (s.fld .PLAN_STATUS_STATE p)

/-- RUNNING, STOPPING or BREAK. -/
def PState.active : PState → Bool
  | .running | .stopping | .brk => true
  | _ => false

/-- Put a partition in a state; PLAN_PART_RUN follows (01 Table 1.9). -/
def State.setPState (s : State) (p : Nat) (st : PState) : State :=
  (s.setFld .PLAN_STATUS_STATE st.code p).setBit .PLAN_PART_RUN p st.active

/-- IDLE, LOADED or STOPPED: the states in which host software may patch a partition (03 R103, 05 R162). -/
def State.patchable (s : State) (p : Nat) : Bool :=
  s.pstate p = .idle || s.pstate p = .loaded || s.pstate p = .stopped

/-- IDLE, LOADED or ARMED: the states in which the plan settings may be written (01 R53). -/
def State.settable (s : State) (p : Nat) : Bool :=
  s.pstate p = .idle || s.pstate p = .loaded || s.pstate p = .armed

/-- The partition of a quad (02 R54). -/
def State.quadPart (s : State) (q : Nat) : Nat := s.fld .ARM_QUAD_PARTITION q
/-- The partition of a compute die: quad nn div 4 (02 R54). -/
def State.diePart (s : State) (nn : Nat) : Nat := s.quadPart (nn / 4)
/-- The partition of a core: its die is g div 96 (03 R79). -/
def State.corePart (s : State) (g : Nat) : Nat := s.diePart (g / 96)
/-- The role of a core's quad (02 Table 2.1): 0 GENERAL, 1 DECODE, 2 PREFILL. -/
def State.coreRole (s : State) (g : Nat) : Nat := s.fld .ARM_QUAD_ROLE (g / 96 / 4)
/-- ARM_STATUS.STATE codes (02 Table 2.11). -/
def armEmpty : Nat := 0
def armVerifying : Nat := 1
def armStaged : Nat := 2
def armApplying : Nat := 3

/-- The partition owns a quad, so it exists (02 R58). -/
def State.partExists (s : State) (p : Nat) : Bool := (List.range 16).any (fun q => s.quadPart q = p)
/-- The cores of a partition that are away from their reset state. -/
def State.partCores (s : State) (p : Nat) : List (Nat × Core) := s.cores.filter (fun e => s.corePart e.1 = p)
/-- The tick in progress (01 R17). -/
def State.planTick (s : State) (p : Nat) : Nat := s.fld64 .PLAN_TICK_LO .PLAN_TICK_HI p
/-- The effective hop limit: HOLD_HOPS, where 0 acts as 1 (01 Table 1.9). -/
def State.hopLimit (s : State) : Nat := max 1 (s.fld .HOLD_HOPS)

/-! ### Job slots (09) -/

/-- SLOT_STATUS.STATE codes (09 Table 9.6). -/
def slotFree : Nat := 0
def slotActive : Nat := 1
def slotDraining : Nat := 2
def slotDrained : Nat := 3

/-- The slot that holds a tag: the lowest that is not FREE (09 R287, R290). -/
def State.jobSlot (s : State) (tag : Nat) : Option Nat :=
  (List.range 32).find? (fun j => s.fld .SLOT_STATUS_STATE j ≠ slotFree && s.fld .SLOT_CFG_JOB_TAG j = tag)

/-- The RUN slot of a partition that is not FREE (09 R287). -/
def State.runSlot (s : State) (p : Nat) : Option Nat :=
  (List.range 32).find? (fun j => s.fld .SLOT_STATUS_STATE j ≠ slotFree && s.fld .SLOT_CFG_KIND j = 0 && s.fld .SLOT_CFG_PARTITION j = p)

/-- The ports that carry the slot's job: those of JOB_PORTS0 or JOB_PORTS1 (09 R288). -/
def State.slotPorts (s : State) (j : Nat) : Nat := s.fld .SLOT_PORTS0 j ||| s.fld .SLOT_PORTS1 j

/-- The device's rank in the job of a partition; 0 where it has no RUN slot (09 R287). -/
def State.ownRank (s : State) (p : Nat) : Nat := (s.runSlot p).elim 0 (fun j => s.fld .SLOT_RANK j)

/-- The ports on which a partition's job travels (09 R288). -/
def State.partPorts (s : State) (p : Nat) : List Nat := bitsOf ((s.runSlot p).elim 0 s.slotPorts) 32

/-- The exchange neighbours' ports (01 R18). -/
def State.exchangePorts (s : State) (p : Nat) : List Nat := bitsOf (s.fld .EXCHANGE_PORTS p) 32

/-! ### Link port states (08 Table 8.8) -/

/-- LINK_STATUS.STATE codes. -/
def linkUp : Nat := 5
def linkRetrain : Nat := 6

/-- The port is UP or RETRAIN. -/
def State.portLive (s : State) (n : Nat) : Bool := s.fld .LINK_STATUS_STATE n = linkUp || s.fld .LINK_STATUS_STATE n = linkRetrain

/-- RUN: the clocks of the link dies' transmitters, of the compute dies and of HBM are present (10 Table 10.1). -/
def State.inRun (s : State) : Bool := s.fld .PWR_STATE_STATE = 3

/-- LINK_STATUS.STATE (08 Table 8.8). -/
def State.linkState (s : State) (n : Nat) : Nat := s.fld .LINK_STATUS_STATE n

/-! ### Outputs -/

/-- Hand a plan control flit to each of some ports (01 R26). -/
def State.sendCtl (s : State) (ports : List Nat) (f : CtlFlit) : State :=
  { s with outs := s.outs ++ ports.map (fun n => .ctl n f) }

/-- Raise interrupt vector v: set its INT_STATUS bit and send a message as enabled (14 R446). -/
def State.raiseVector (s : State) (v : Nat) : State :=
  let f : Fld := if v < 32 then .INT_STATUS_LO else .INT_STATUS_HI
  if s.bit f (v % 32) then s
  else
    let s := s.setBit f (v % 32) true
    if s.fld .INT_MODE = 2 then
      if s.host.unmasked.contains v then s.out (.msix v)
      else { s with host := { s.host with pba := putBit s.host.pba v true } }
    else if s.fld .INT_MODE = 1 then s.out .msi
    else s

/-- Queue an event for the management agent; a full queue of 256 loses its oldest event. A queue that was empty asserts ALERT_N and sends
an in-band interrupt on each bus in I3C mode (16 R490). -/
def State.queueEvent (s : State) (e : MgmtEvent) : State :=
  let s := if s.events.isEmpty then
      let s := if s.fld .MGMT_STATUS_BUS_A = 1 then s.out (.ibi 0) else s
      if s.fld .MGMT_STATUS_BUS_B = 1 then s.out (.ibi 1) else s
    else s
  let s := s.setFld .MGMT_STATUS_ALERT 1
  if s.events.length < 256 then { s with events := s.events ++ [e] }
  else { s.addFld .MGMT_EVENTS_LOST with events := s.events.tail ++ [e] }

/-- Thimble asserts FAULT_N: an event and vector 0 when it was released (16 R490, R491; 14 Table 14.10). -/
def State.assertFaultN (s : State) : State :=
  if s.flag .MGMT_STATUS_FAULT then s else ((s.setFld .MGMT_STATUS_FAULT 1).queueEvent (.faultN true)).raiseVector 0

/-- Thimble releases FAULT_N: an event when it was asserted (16 R490, R491). -/
def State.releaseFaultN (s : State) : State :=
  if s.flag .MGMT_STATUS_FAULT then (s.setFld .MGMT_STATUS_FAULT 0).queueEvent (.faultN false) else s

/-- Record a code in a first-error field: the first code stays, a later one sets MULTI; either is an event (16 R490). -/
def State.recordFirst (s : State) (fc fm : Fld) (code : Nat) (i : Nat := 0) : State :=
  if s.fld fc i = 0 then (s.setFld fc code i).queueEvent (.code code) else (s.setFld fm 1 i).queueEvent (.code code)

/-- The same for a field with a VALID bit. -/
def State.recordValid (s : State) (fc fm fv : Fld) (code : Nat) (i : Nat := 0) : State :=
  if s.fld fv i = 0 then ((s.setFld fc code i).setFld fv 1 i).queueEvent (.code code)
  else (s.setFld fm 1 i).queueEvent (.code code)

/-- Record a plan error of a partition (01 R50, R51). -/
def State.planError (s : State) (p code : Nat) : State := s.recordFirst .PLAN_ERROR_CODE .PLAN_ERROR_MULTI code p

/-- Record an error of a core: CORE_ERROR keeps the first, with its TAG, and DIE_ERROR_CORE the lowest core of the die
(03 R90, Table 3.8). -/
def State.coreError (s : State) (g code tag : Nat) : State :=
  let first : Bool := s.fld .CORE_ERROR_CODE g = 0
  let s := s.recordFirst .CORE_ERROR_CODE .CORE_ERROR_MULTI code g
  let s := if first then s.setFld .CORE_ERROR_TAG tag g else s
  let nn := g / 96
  if s.fld .DIE_ERROR_CORE_VALID nn = 0 || g % 96 < s.fld .DIE_ERROR_CORE_CORE nn then
    (s.setFld .DIE_ERROR_CORE_CORE (g % 96) nn).setFld .DIE_ERROR_CORE_VALID 1 nn
  else s

/-! ### Observation taken by other steps (19) -/

/-- Record types (19 Table 19.4). -/
def recPad : Nat := 0
def recTrace : Nat := 1
def recDump : Nat := 2
def recPlaster : Nat := 3
def recCounter : Nat := 4
def recLoss : Nat := 5

/-- Records may be written to the ring of a partition: it is enabled and, when the partition has a tenant, bound (19 R554). -/
def State.ringOpen (s : State) (p : Nat) : Bool :=
  s.flag .OBS_RING_CFG_EN p && (!s.flag .SEC_PART_BOUND p || s.flag .OBS_PART_STATUS_BOUND p)

def State.hub (s : State) (p : Nat) : List ObsRec := bankGet [] s.obs.hub p
def State.setHub (s : State) (p : Nat) (l : List ObsRec) : State := { s with obs := { s.obs with hub := bankSet [] s.obs.hub p l } }

/-- A record sets out for the ring, or is discarded and counted (19 R554). -/
def State.sendRec (s : State) (p : Nat) (r : ObsRec) : State :=
  if s.ringOpen p then s.setHub p (s.hub p ++ [r]) else s.addFld .OBS_REC_LOST 1 p

/-- Key of the counter of a partition by ID, SUB and INSTANCE (19 R546). -/
def countKey (p id sub inst : Nat) : Nat := ((p * 256 + id) * 32 + sub) * 2 ^ 18 + inst

/-- The aggregate that a counter adds to, of those the model counts (19 Table 19.5). -/
def aggPair (id : Nat) : Option Nat :=
  match id with
  | 0x01 => some 0 | 0x02 => some 1 | 0x09 => some 3 | 0x0D => some 5 | 0x13 => some 7 | _ => none

/-- An observation counter counts up, modulo 2^64, and its aggregate with it (19 R545, R548). -/
def State.countUp (s : State) (p id sub inst n : Nat) : State :=
  let k := countKey p id sub inst
  let o := s.obs
  let agg := match aggPair id with
    | some a => bankSet 0 o.agg a (bankGet 0 o.agg a + n)
    | none => o.agg
  { s with obs := { o with counts := bankSet 0 o.counts k ((bankGet 0 o.counts k + n) % 2 ^ 64), agg := agg } }

/-- Capture a plaster snapshot of a partition, unless its shadow is in use (19 R555, R556). -/
def State.capturePlaster (s : State) (p reason : Nat) : State :=
  if s.obs.shadows.any (fun x => x.part = p) then s.addFld .OBS_PLASTER_LOST 1 p
  else
    let n := s.obs.snapshots + 1
    let snap : Plaster := { part := p, number := n, reason := reason, time := s.now, regs := s.regs, plan := s.part p, cores := s.partCores p, ports := s.ports, tokens := s.tokens, domains := s.domains, srvs := s.srvs }
    ({ s with obs := { s.obs with shadows := s.obs.shadows ++ [snap], snapshots := n } }.setFld .OBS_PART_STATUS_PLASTER_HELD 1 p)

/-- STARCH_STATUS.STATE codes (19 Table 19.12). -/
def starchLive : Nat := 0
def starchArmed : Nat := 1
def starchHeld : Nat := 2
def starchDraining : Nat := 3

/-- Counters of a global core, a core's bank, a router's edge: how many instances there are (19 Table 19.3). -/
def coreCount : Nat := 6144

/-- The catalogue of Table 19.3: ID, its SUBs, its number of instances, and whether only time or cycles that the model does not keep count
in it (log entry 3). Class A counters are left out: no partition is given them (19 R547). -/
def counterCatalogue : List (Nat × List Nat × Nat × Bool) := [
  (0x01, (List.range 23).map (· + 1), 1, false), (0x02, [0], 1, false), (0x03, List.range 10, coreCount, false),
  (0x04, List.range 4, coreCount, true), (0x05, [0], 64, false), (0x06, List.range 3, coreCount * 16, true),
  (0x07, List.range 3, coreCount * 16, true), (0x08, [0], 64, true), (0x09, List.range 9, 84 * 8, false), (0x0A, List.range 9, 84 * 8, true),
  (0x0C, List.range 16, coreCount, true), (0x0D, List.range 8, 32, false), (0x0E, List.range 8, 32, false), (0x0F, [0], 32, false),
  (0x10, List.range 32, 32, false), (0x11, [0], 512, true), (0x12, List.range 3, 512, true), (0x13, [0], 4, false), (0x14, List.range 3, 1, false),
  (0x15, [0], 1, true)]

/-- Kinds of the job slots (09 Table 9.6): a TRANSIT slot's counts are class A (19 Table 19.3). -/
def slotTransit : Nat := 1

/-- The catalogue row of a counter, when ID, SUB and INSTANCE are within range and the counter is of class P (19 R546, R547). -/
def State.counterRow (s : State) (id sub inst : Nat) : Option (Nat × List Nat × Nat × Bool) :=
  if id = 0x10 && s.fld .SLOT_CFG_KIND sub = slotTransit then none
  else counterCatalogue.find? (fun r => r.1 = id && r.2.1.contains sub && inst < r.2.2.1)

/-- The value of a counter of a partition in a bank of counts: what was counted, or a free value where the model does not keep what it
counts (19 R545; log entry 3). -/
def State.counterValue (s : State) (bank : List (Nat × Nat)) (p id sub inst : Nat) : State × Nat :=
  match s.counterRow id sub inst with
  | none => (s, 0)
  | some r => if r.2.2.2 then (s.draw.2, s.draw.1.toNat) else (s, bankGet 0 bank (countKey p id sub inst))

/-- The counters of the IDs of a mask, in ascending ID, SUB and INSTANCE order (19 R551). -/
def State.counterNames (s : State) (mask : Nat) : List (Nat × Nat × Nat) :=
  (counterCatalogue.filter (fun r => mask.testBit r.1)).flatMap (fun r => r.2.1.flatMap (fun sub =>
    ((List.range r.2.2.1).filter (fun i => (s.counterRow r.1 sub i).isSome)).map (fun i => (r.1, sub, i))))

/-- The entries of COUNTER records, 16 bytes each (19 R551). -/
def State.counterEntries (s : State) (p : Nat) : List (Nat × Nat × Nat) → State × List Byte
  | [] => (s, [])
  | (id, sub, inst) :: t =>
    let (s, v) := s.counterValue s.obs.starched p id sub inst
    let (s, l) := s.counterEntries p t
    (s, leBytes 1 id ++ leBytes 1 sub ++ leBytes 2 0 ++ leBytes 4 inst ++ leBytes 8 v ++ l)

/-- Entries cut into records of at most 254 (19 R551). -/
def cutEntries : Nat → List Byte → List (List Byte)
  | 0, _ => []
  | n + 1, l => if l.isEmpty then [] else l.take (254 * 16) :: cutEntries n (l.drop (254 * 16))

/-- The COUNTER records of a starch for one partition (19 R551). -/
def State.counterRecords (s : State) (p : Nat) : State :=
  if !s.flag .OBS_RING_CFG_EN p then s
  else
    let names := s.counterNames (s.fld .OBS_CNT_MASK p)
    let (s, bytes) := s.counterEntries p names
    (cutEntries names.length bytes).foldl (fun s l => s.sendRec p
      { kind := recCounter, time := s.fld64 .STARCH_AT_LO .STARCH_AT_HI,
        body := leBytes 2 (l.length / 16) ++ leBytes 2 0 ++ leBytes 4 (s.fld .STARCH_STATUS_COUNT) ++ leBytes 8 0 ++ l }) s

/-- Copy every counter, record the time, count the starch, and become HELD (19 R549, R550). -/
def State.holdCounts (s : State) : State :=
  ((({ s with obs := { s.obs with starched := s.obs.counts } }.setFld64 .STARCH_AT_LO .STARCH_AT_HI s.now).setFld
    .STARCH_STATUS_STATE starchHeld).addFld .STARCH_STATUS_COUNT)

/-- Take a starch: hold the counters; then every partition whose ring is enabled gets its COUNTER records (19 R549 to R551). -/
def State.takeStarch (s : State) : State :=
  (List.range 16).foldl (fun s p => s.counterRecords p) s.holdCounts

/-! ### Entering FAULT (01 R32, R33, R38; 20 R572) -/

/-- The FAULT_STOP flit of a partition (01 Table 1.3). -/
def State.faultStopFlit (s : State) (p : Nat) : CtlFlit :=
  { type := .faultStop, tag := s.fld .PLAN_JOB_TAG p, origin := s.ownRank p, tick := s.fld .PLAN_TICK_LO p, cause := 0x17 }

/-- REPL_STATUS.STATE codes (12 Table 12.9). -/
def replIdle : Nat := 0
def replArmed : Nat := 1
def replWriting : Nat := 2
def replDone : Nat := 3
def replStopped : Nat := 4

/-- A partition leaves RUNNING, STOPPING and BREAK: an ARMED replacement becomes STOPPED (12 R394). -/
def State.leaveActive (s : State) (p : Nat) : State :=
  if s.fld .REPL_STATUS_STATE p = replArmed then s.setFld .REPL_STATUS_STATE replStopped p else s

/-- Empty the hold table of a partition and forget what it sent (01 R33). -/
def State.clearHolds (s : State) (p : Nat) : State := s.setPart p { s.part p with holds := [], sentHolds := [] }

/-- The actions of Table 20.4 in order. -/
def State.faultActions (s : State) (p code : Nat) : State :=
  let s := s.planError p code
  let s := if (s.pstate p).active then s.leaveActive p else s
  let s := (s.setPState p .fault).clearHolds p
  let s := s.capturePlaster p 1
  let s :=
    if s.flag .STARCH_CTRL_ON_FAULT then
      if s.fld .STARCH_STATUS_STATE = starchLive then s.takeStarch else s.setFld .STARCH_STATUS_REFUSED 1
    else s
  let s := s.sendCtl (s.partPorts p) (s.faultStopFlit p)
  s.raiseVector (8 + p)

/-- An error in a partition: RUNNING, STOPPING and BREAK go to FAULT. A partition already in FAULT keeps its first code and sets MULTI
(01 R51); Table 1.6 lists no such event for the other states. -/
def State.enterFault (s : State) (p code : Nat) : State :=
  match s.pstate p with
  | .fault => s.planError p code
  | st => if st.active then s.faultActions p code else s

/-- A FAULT_STOP received, or an event that puts every partition that is not IDLE in FAULT (01 Table 1.6: 07 R216, 10 R317, 11 R365,
17 Table 17.11). -/
def State.forceFault (s : State) (p code : Nat) : State :=
  match s.pstate p with
  | .idle => s
  | .fault => s.planError p code
  | _ => s.faultActions p code

/-- Every partition that is not IDLE enters FAULT (07 R216, 10 R317, 11 R365). -/
def State.faultAll (s : State) (code : Nat) : State := (List.range 16).foldl (fun s p => s.forceFault p code) s

/-- A core records an error and its partition enters FAULT (03 R90). -/
def State.coreFault (s : State) (g code tag : Nat) : State := (s.coreError g code tag).enterFault (s.corePart g) code

/-! ### Trace entries (03 R112, 19 R563) -/

/-- The TRACE_CTRL bit of an entry kind; TICK_GRANT and BREAK are always enabled while EN is set (03 Table 3.7). -/
def State.traces (s : State) (g kind : Nat) : Bool :=
  s.flag .TRACE_CTRL_EN g && s.flag .SEC_PART_DEBUG (s.corePart g) &&
    (match kind with
     | 1 => s.flag .TRACE_CTRL_ISSUE g | 2 => s.flag .TRACE_CTRL_DONE g | 3 => s.flag .TRACE_CTRL_LOOP g
     | 4 => s.flag .TRACE_CTRL_SKIP g | 6 => s.flag .TRACE_CTRL_MARK g | 8 => s.flag .TRACE_CTRL_BLOCK g | _ => true)

/-- Put a trace entry into the core's FIFO of 64; with the FIFO full it is lost and counted (19 R563). The DELTA field counts clock
cycles, which the model does not keep: a free value (log entry 3). -/
def State.trace (s : State) (g kind value : Nat) : State :=
  let p := s.corePart g
  if s.traces g kind then
    let c := s.core g
    if 64 ≤ c.trace.length then (s.setCore g { c with traceLost := c.traceLost + 1 }).addFld .OBS_TRACE_LOST 1 p
    else
      let (d, s) := s.draw
      s.setCore g { c with trace := c.trace ++ [(kind * 2 ^ 60 + s.fld .PLAN_TICK_LO p % 2 ^ 16 * 2 ^ 44 + s.fld .CP_PC g * 2 ^ 30 + value % 2 ^ 16 * 2 ^ 14 + d.toNat % 2 ^ 14, s.now)] }
  else s

end Sys2Proof.Machine
end

