-- ==== Sys2Proof/Machine/Domain.lean ====
section
/-! DEFINITION. Machine/Domain.lean: gated power domains (17 Table 17.4) and the arithmetic clock steps of compute dies (10 R318 to
R320). -/
namespace Sys2Proof.Machine
open Sys2Proof

def State.domain (s : State) (k : Nat) : Domain := bankGet {} s.domains k
def State.setDomain (s : State) (k : Nat) (x : Domain) : State := { s with domains := bankSet {} s.domains k x }

/-- Keys of a port's and of a pseudo-channel's domain; a compute die's is its number. -/
def portDom (n : Nat) : Nat := 64 + n
def chanDom (stack c : Nat) : Nat := 96 + stack * 32 + c

/-- Enable: the next state of Table 17.4. -/
def Domain.enable (x : Domain) : Domain :=
  match x.st with
  | .on => x
  | .isolating => { x with want := true }
  | .falling => { st := .on }
  | .discharging => { x with want := true }
  | .off => { st := .waking }
  | .waking => { x with drop := false }

/-- Disable. -/
def Domain.disable (x : Domain) : Domain :=
  match x.st with
  | .on => { st := .isolating }
  | .isolating => { x with want := false }
  | .discharging => { x with want := false }
  | .waking => { x with drop := true }
  | .falling => x
  | .off => x

/-- Isolation complete: the rail is commanded off, or isolation is released if an enable came. -/
def Domain.isolated (x : Domain) : Domain := if x.st = .isolating then if x.want then { st := .on } else { st := .falling } else x
/-- The rail has fallen. -/
def Domain.fallen (x : Domain) : Domain := if x.st = .falling then { st := .discharging } else x
/-- The rail is off. -/
def Domain.railOff (x : Domain) : Domain := if x.st = .discharging then if x.want then { st := .waking } else { st := .off } else x
/-- The wake is complete. -/
def Domain.woken (x : Domain) : Domain := if x.st = .waking then if x.drop then { st := .isolating } else { st := .on } else x

/-- The domain's rail is up or its wake runs. -/
def Domain.powered (x : Domain) : Bool := x.st = .on || x.st = .waking

/-- A compute die is awake: powered, clocked, its sleeve released (03 Table 3.8, 10 Table 10.4). -/
def State.awake (s : State) (nn : Nat) : Bool := (s.domain nn).st = .on

def State.die (s : State) (nn : Nat) : Die := bankGet {} s.dies nn
def State.setDie (s : State) (nn : Nat) (x : Die) : State := { s with dies := bankSet {} s.dies nn x }

/-- The grade's maximum: step 0 for grade A, 1 for grade S (10 Table 10.10). -/
def gradeStep : Nat := if Config.grade = 2 then 1 else 0

/-- Step in force on a die. -/
def Die.now (x : Die) : Nat := if x.step = 0 then gradeStep else x.step - 1

/-- The two bits of die nn in a step register of 16 dies each (10 Table 10.10, 17 Table 17.13). -/
def State.dieStep (s : State) (f : Fld) (nn : Nat) : Nat := s.fld f 0 (nn / 16) / 4 ^ (nn % 16) % 4

/-- The step a die should run at: the lowest clock of the grade's, the management agent's cap and the die's thermal step (10 R319). -/
def State.wantedStep (s : State) (nn : Nat) : Nat := max gradeStep (max (s.fld .CLOCK_CAP) (s.dieStep .THERM_DIE_STEP nn))

/-- A compute die's domain takes a state; a die that comes on runs at the step requested while it was gated (10 R318, R320). -/
def State.setDieDomain (s : State) (nn : Nat) (x : Domain) : State :=
  let d := s.die nn
  let s := if !s.awake nn && x.st = .on && d.newest ≠ 0 then s.setDie nn { d with step := d.newest, changing := 0, newest := 0 } else s
  s.setDomain nn x

/-- DIE_WAKE: in RUN, where its clocks are present, a gated die wakes on a grant, a load or a BAR0 access (10 R318, Table 10.1), which
also starts its gate timers again (17 R513). -/
def State.dieWake (s : State) (nn : Nat) : State :=
  if s.inRun then { s with power := { s.power with gate := s.power.gate.filter (fun e => e.1 / 2 ≠ nn) } }.setDieDomain nn (s.domain nn).enable else s

def execDieWake (nn : Nat) (s : State) : Host.Outcome State Fault Refusal := .next (s.dieWake nn)

/-- The wake completes. -/
def State.dieWoken (s : State) (nn : Nat) : State := s.setDieDomain nn (s.domain nn).woken

/-- DIE_WAKE_COMPLETE. -/
def execDieWakeComplete (nn : Nat) (s : State) : Host.Outcome State Fault Refusal := .next (s.dieWoken nn)

/-- A step is requested for a die: recorded for a gated die, started on an idle PLL, or held as the newest while a change runs
(10 R320). -/
def State.requestStep (s : State) (nn : Nat) : State :=
  let x := s.die nn
  let want := s.wantedStep nn + 1
  if !s.awake nn then s.setDie nn { x with newest := want }
  else if x.changing ≠ 0 then s.setDie nn { x with newest := want }
  else if x.now + 1 = want then s
  else s.setDie nn { x with changing := want }

/-- CLOCK_STEP_REQUEST. -/
def execClockStepRequest (nn : Nat) (s : State) : Host.Outcome State Fault Refusal := .next (s.requestStep nn)

/-- The die issues nothing to its units: the 16 ns of a switch of PLLs (10 R319). -/
def State.stepping (s : State) (nn : Nat) : Bool :=
  match (s.die nn).stopAt with
  | 0 => false
  | v + 1 => !s.elapsed v 16

/-- The die stops issuing for 16 ns and switches to the PLL relocked to the new step; the newest request is then carried out
(10 R319, R320). -/
def State.switchStep (s : State) (nn : Nat) : State :=
  let x := s.die nn
  if x.changing = 0 then s
  else
    let next := if x.newest = x.changing then 0 else x.newest
    (s.setDie nn { step := x.changing, changing := next, newest := 0, stopAt := s.raw + 1 }).addFld .CLK_STEP_COUNT

/-- CLOCK_STEP_SWITCH. -/
def execClockStepSwitch (nn : Nat) (s : State) : Host.Outcome State Fault Refusal := .next (s.switchStep nn)

end Sys2Proof.Machine
end

