-- ==== Sys2Proof/Machine/SpadOps.lean ====
section
/-! DEFINITION. Machine/SpadOps.lean: handles, windows and the scratchpad's words (05). -/
namespace Sys2Proof.Machine
open Sys2Proof

/-! ### Handle entries (05 Table 5.3) -/

def hBase (v : Nat) : Nat := v % 2 ^ 10
def hSize (v : Nat) : Nat := v / 2 ^ 10 % 2 ^ 15
def hMask (v : Nat) : Nat := v / 2 ^ 32 % 2 ^ 16
def hValid (v : Nat) : Bool := v.testBit 48
def hReserved (v : Nat) : Bool := v / 2 ^ 25 % 2 ^ 7 ≠ 0 || v / 2 ^ 53 % 2 ^ 11 ≠ 0
/-- The banks of the entry's mask, lowest first (05 R160). -/
def hBanks (v : Nat) : List Nat := bitsOf (hMask v) 16

/-- The permissions of Table 5.3, by bit. -/
inductive Perm where
  | lr | lw | rr | rwr
  deriving DecidableEq, Repr

def hAllows (v : Nat) : Perm → Bool
  | .lr => v.testBit 49 | .lw => v.testBit 50 | .rr => v.testBit 51 | .rwr => v.testBit 52

/-- Word number (bank × 1,024 + row) of word w of a handle (05 R149, R160). -/
def hWord (v w : Nat) : Nat :=
  let bs := hBanks v
  bs.getD (w % bs.length) 0 * 1024 + (hBase v + w / bs.length)

/-- Core address of byte o of a handle (05 R160). -/
def hAddr (v o : Nat) : Nat := hWord v (o / 32) * 32 + o % 32

/-- Rows the buffer takes in each bank: ceil(SIZE / n) (05 R160). -/
def hRows (v : Nat) : Nat := (hSize v + (hBanks v).length - 1) / (hBanks v).length

/-- The landing banks of a partition: 16 − L to 15 (05 R154). -/
def State.landing (s : State) (p : Nat) : Nat := s.fld .ARM_PART_LIMITS_LANDING p

/-- A commit of this entry is refused (05 R161). -/
def State.handleRefused (s : State) (p idx v : Nat) : Bool :=
  hValid v && (s.fld .ARM_PART_LIMITS_HANDLES p ≤ idx || hMask v = 0 || hSize v = 0 || 16384 < hSize v || 1024 < hBase v + hRows v
    || (hAllows v .rwr && 0 < s.landing p && (hBanks v).any (fun b => b < 16 - s.landing p)) || hReserved v)

def State.handle (s : State) (g h : Nat) : Nat := bankGet 0 (s.core g).handles h

/-- The checks of R163 in order; 0 when they pass. -/
def State.handleCode (s : State) (g h : Nat) (perm : Perm) (off len align : Nat) : Nat :=
  let v := s.handle g h
  if s.fld .ARM_PART_LIMITS_HANDLES (s.corePart g) ≤ h || !hValid v then E_SPAD_HANDLE_RANGE
  else if !hAllows v perm then E_SPAD_PERMISSION
  else if off % align ≠ 0 || len % align ≠ 0 then E_SPAD_ALIGN
  else if hSize v * 32 < off + len then E_SPAD_BOUNDS
  else 0

/-! ### Window entries (05 Table 5.5) -/

def wTag (v : Nat) : Nat := v % 2 ^ 16
def wLo (v : Nat) : Nat := v / 2 ^ 16 % 2 ^ 16
def wHi (v : Nat) : Nat := v / 2 ^ 32 % 2 ^ 16
def wCore (v : Nat) : Nat := v / 2 ^ 48 % 2 ^ 13
def wWr (v : Nat) : Bool := v.testBit 61
def wRd (v : Nat) : Bool := v.testBit 62
def wValid (v : Nat) : Bool := v.testBit 63

/-- A commit of this entry is refused (05 R166). -/
def State.windowRefused (s : State) (p idx v : Nat) : Bool :=
  wValid v && (s.fld .ARM_PART_LIMITS_WINDOWS p ≤ idx || wTag v ≠ s.fld .PLAN_JOB_TAG p || wHi v < wLo v || 6143 < wCore v
    || (!wWr v && !wRd v))

def State.window (s : State) (g w : Nat) : Nat := bankGet 0 (s.core g).windows w

/-- The window checks of R167 in order; 0 when they pass. -/
def State.windowCode (s : State) (g w rank : Nat) (write : Bool) : Nat :=
  let v := s.window g w
  if s.fld .ARM_PART_LIMITS_WINDOWS (s.corePart g) ≤ w || !wValid v then E_SPAD_WINDOW
  else if (write && !wWr v) || (!write && !wRd v) then E_SPAD_WINDOW_PERM
  else if rank < wLo v || wHi v < rank then E_SPAD_WINDOW_RANK
  else 0

/-! ### Words and bytes (05 R149, R155 to R157) -/

/-- Byte at a core address. -/
def State.spadByte (s : State) (g a : Nat) : Byte := bankGet 0 s.mem.spad (g * 524288 + a)

/-- Bytes of a handle from an offset. -/
def State.hRead (s : State) (g h off len : Nat) : List Byte :=
  (List.range len).map (fun j => s.spadByte g (hAddr (s.handle g h) (off + j)))

/-- Put bytes at consecutive offsets of a handle. -/
def State.hPut (s : State) (g v off : Nat) : List Byte → State
  | [] => s
  | b :: t => State.hPut { s with mem.spad := bankSet 0 s.mem.spad (g * 524288 + hAddr v off) b } g v (off + 1) t

/-- The word numbers of a byte range of a handle, in order. -/
def hWords (v off len : Nat) : List Nat :=
  if len = 0 then [] else (List.range ((off + len - 1) / 32 + 1 - off / 32)).map (fun j => hWord v (off / 32 + j))

/-- Bad bytes of a word of a core's scratchpad. -/
def State.badBytes (s : State) (g w : Nat) : Nat := bankGet 0 (s.core g).bad w

/-- 3 or more bad bytes are uncorrectable; 1 or 2 are corrected (05 R155). -/
def uncorrectable (n : Nat) : Bool := 3 ≤ n
def correctable (n : Nat) : Bool := n = 1 || n = 2

/-- Note an uncorrectable word of a core (05 R157). -/
def State.noteUe (s : State) (g w : Nat) : State :=
  ((s.addFld .SPAD_UE 1 g).setFld .SPAD_UE_ADDR_ADDR (w * 32) g).setFld .SPAD_UE_ADDR_VALID 1 g

/-- A read of one word: corrected and counted, with its correction left to be written back (05 R155). -/
def State.readWordCount (s : State) (g w : Nat) : State :=
  if correctable (s.badBytes g w) then
    let c := s.core g
    (s.setCore g { c with corrections := if c.corrections.contains w then c.corrections else c.corrections ++ [w] }).addFld .SPAD_CE 1 g
  else s

/-- The reads of some words by a macro-operation: the first uncorrectable word ends it with E_SPAD_UNCORRECTABLE (05 R157). -/
def State.consumeWords (s : State) (g : Nat) : List Nat → State × Nat
  | [] => (s, 0)
  | w :: t => if uncorrectable (s.badBytes g w) then (s.noteUe g w, E_SPAD_UNCORRECTABLE) else (s.readWordCount g w).consumeWords g t

/-- Words written whole are good again, and a correction waiting for them is cancelled (05 R155, R158). -/
def State.freshWords (s : State) (g : Nat) (ws : List Nat) : State :=
  let c := s.core g
  s.setCore g { c with bad := bankDrop (fun w => ws.contains w) c.bad, corrections := c.corrections.filter (fun w => !ws.contains w) }

/-- The words of a range that a write covers only in part: its first and last, one word when both fall in it (05 R156). -/
def partialWords (v off len : Nat) : List Nat :=
  if len = 0 then []
  else
    let head : Bool := off % 32 ≠ 0
    (if head then [hWord v (off / 32)] else []) ++
      (if (off + len) % 32 ≠ 0 && !(head && off / 32 = (off + len) / 32) then [hWord v ((off + len) / 32)] else [])

/-- The old words that a write merges with: read and corrected, the uncorrectable ones noted and listed (05 R155, R156). -/
def State.mergeWords (s : State) (g : Nat) : List Nat → State × List Nat
  | [] => (s, [])
  | w :: t =>
    if uncorrectable (s.badBytes g w) then let (s, l) := (s.noteUe g w).mergeWords g t; (s, w :: l) else (s.readWordCount g w).mergeWords g t

/-- The bytes of a write, those of some words as they are. -/
def State.sparing (s : State) (g v off : Nat) (lost : List Nat) (data : List Byte) : List Byte :=
  data.zipIdx.map (fun x => if lost.contains (hWord v ((off + x.2) / 32)) then s.spadByte g (hAddr v (off + x.2)) else x.1)

/-- Write bytes to a handle range. A word covered in part is merged; one that is uncorrectable is not written, and the macro-operation
ends with E_SPAD_UNCORRECTABLE (05 R156). -/
def State.hWrite (s : State) (g h off : Nat) (data : List Byte) : State × Nat :=
  let v := s.handle g h
  let (s, lost) := s.mergeWords g (partialWords v off data.length)
  let data := if lost.isEmpty then data else s.sparing g v off lost data
  ((s.hPut g v off data).freshWords g ((hWords v off data.length).filter (fun w => !lost.contains w)),
   if lost.isEmpty then 0 else E_SPAD_UNCORRECTABLE)

end Sys2Proof.Machine
end

