-- ==== Sys2Proof/Machine/HbmOps.lean ====
section
/-! DEFINITION. Machine/HbmOps.lean: HBM slices, the address map, and the bytes of the stacks (11 R350 to R357). -/
namespace Sys2Proof.Machine
open Sys2Proof

/-! ### Pieces of a transfer -/

/-- A transfer in packets of at most 512 bytes, cut at multiples of 512 of its address: (offset in the transfer, bytes). `n` bounds
the number of pieces. -/
def pieces (base len : Nat) : Nat → Nat → List (Nat × Nat)
  | 0, _ => []
  | n + 1, o =>
    if len ≤ o then []
    else let k := min (512 - (base + o) % 512) (len - o); (o, k) :: pieces base len n (o + k)

def cut (base len : Nat) : List (Nat × Nat) := pieces base len (len / 512 + 2) 0

/-- Bytes of a slice. -/
def sliceBytes : Nat := 5000000000

/-! ### Stacks (11 Table 11.4) -/

def stackOff : Nat := 0
def stackTraining : Nat := 1
def stackReady : Nat := 2
def stackRinse : Nat := 3
def stackSelfRefresh : Nat := 4
def stackFailed : Nat := 5

def State.stack (s : State) (n : Nat) : Stack := bankGet {} s.hbmStacks n
def State.setStack (s : State) (n : Nat) (x : Stack) : State := { s with hbmStacks := bankSet {} s.hbmStacks n x }
def State.stackState (s : State) (n : Nat) : Nat := s.fld .HBM_STATUS_STATE n

/-- Pseudo-channel of a stack address (11 R352). -/
def pseudoCh (b : Nat) : Nat := b / 512 % 32

/-- The pseudo-channel is inside a refresh window of 240 ns (11 R361). -/
def State.refreshing (s : State) (n pc : Nat) : Bool :=
  match bankGet 0 (s.stack n).refresh pc with
  | 0 => false
  | v + 1 => !s.elapsed v 240

/-- The pseudo-channel serves accesses: outside a refresh window (11 R361), and its gated domain is on or still drains its queue
(17 R514). -/
def State.chanServes (s : State) (n pc : Nat) : Bool :=
  !s.refreshing n pc && ((s.domain (chanDom n pc)).st = .on || (s.domain (chanDom n pc)).st = .isolating)

/-- Owner of a global slice, if any (11 Table 11.4). -/
def State.sliceOwner (s : State) (sl : Nat) : Option Nat :=
  if s.flag .HBM_SLICE_OWNED (sl % 16) (sl / 16) then some (s.fld .HBM_SLICE_PARTITION (sl % 16) (sl / 16)) else none

/-- The slices of a partition in ascending global number (11 R351). -/
def State.partSlices (s : State) (p : Nat) : List Nat := (List.range 256).filter (fun sl => s.sliceOwner sl = some p)

/-- Bytes of a partition's HBM space. -/
def State.hbmSpace (s : State) (p : Nat) : Nat := (s.partSlices p).length * sliceBytes

/-- Stack and stack address of a partition-relative address (11 R351). -/
def hbmPlace (slices : List Nat) (a : Nat) : Nat × Nat :=
  let n := slices.length
  let g := a / 512
  let sl := slices.getD (g % n) 0
  (sl % 16, sl / 16 * sliceBytes + g / n * 512 + a % 512)

/-- Device byte address of a stack address. -/
def deviceByte (stack b : Nat) : Nat := stack * 80000000000 + b
/-- Global slice of a stack address (11 R350). -/
def sliceOf (stack b : Nat) : Nat := 16 * (b / sliceBytes) + stack

/-- The check of an HBM footprint (11 R353); 0 when it passes. -/
def State.hbmCode (s : State) (p a len : Nat) : Nat :=
  if a % 32 ≠ 0 || len % 32 ≠ 0 then E_SPAD_ALIGN else if s.hbmSpace p < a + len then E_HBM_RANGE else 0

/-- Rim die of a stack address: the half that serves its pseudo-channel (11 R348, R352, Table 11.1). -/
def hbmNode (stack b : Nat) : Nat := (if stack < 8 then 2 * stack else 2 * stack + 32) + (if b / 512 % 32 < 16 then 0 else 1)

/-- Stack of a rim die. -/
def nodeStack (n : Nat) : Nat := if n < 16 then n / 2 else (n - 32) / 2

/-! ### Key pairs and bytes (11 R355, R357) -/

/-- Number of the device key pair among the pairs. -/
def devicePair : Nat := 16

/-- The pair in force for a slice: its owner's, or the device pair when it is unassigned (11 R355). -/
def State.pairOf (s : State) (sl : Nat) : Nat := bankGet 0 s.hbmPairs ((s.sliceOwner sl).getD devicePair)

/-- The pair of two keys of a tenant (15 R468). -/
def tenantPair (k1 k2 : Nat) : Nat := 2 * (k1 % 2 ^ 256 * 2 ^ 256 + k2 % 2 ^ 256) + 1

/-- A pair drawn at random, of which no cell holds anything, for a partition or the device (11 R355). -/
def State.drawPair (s : State) (who : Nat) : State :=
  { s with hbmDraws := s.hbmDraws + 1, hbmPairs := bankSet 0 s.hbmPairs who (2 * (s.hbmDraws + 1)) }

/-- What the AES block of a device byte holds. -/
def State.aesBlock (s : State) (a : Nat) : List Nat := (List.range 16).map (fun j => bankGet 0 s.mem.hbm (a / 16 * 16 + j))

/-- A byte of a stack: what was written under the pair in force, else what decryption of other contents gives (11 R355). -/
def State.hbmByte (s : State) (stack b : Nat) : Byte :=
  let a := deviceByte stack b
  let pair := s.pairOf (sliceOf stack b)
  match bankGet 0 s.mem.hbm a with
  | 0 => Config.hbmFill pair a (s.aesBlock a)
  | v + 1 => if v / 256 = pair then BitVec.ofNat 8 v else Config.hbmFill pair a (s.aesBlock a)

def State.hbmRead (s : State) (stack b len : Nat) : List Byte := (List.range len).map (fun j => s.hbmByte stack (b + j))

/-- Bytes are written under the pair in force. -/
def State.hbmWrite (s : State) (stack b : Nat) (data : List Byte) : State :=
  let cells := data.zipIdx.map (fun x => s.pairOf (sliceOf stack (b + x.2)) * 256 + x.1.toNat + 1)
  { s with mem.hbm := bankPutList 0 s.mem.hbm (deviceByte stack b) cells }

/-- The packets of a partition-relative range: offset in it, bytes, stack and stack address (11 R351, R353). -/
def State.hbmPieces (s : State) (p a len : Nat) : List (Nat × Nat × Nat × Nat) :=
  (cut a len).map (fun x => let (st, b) := hbmPlace (s.partSlices p) (a + x.1); (x.1, x.2, st, b))

/-- A partition-relative range. -/
def State.partHbmRead (s : State) (p a len : Nat) : List Byte :=
  (s.hbmPieces p a len).flatMap (fun x => s.hbmRead x.2.2.1 x.2.2.2 x.2.1)

/-! ### Words (11 R356, R367 to R369) -/

/-- Word number of a stack address, over the device (11 R355). -/
def hbmWord (n b : Nat) : Nat := deviceByte n b / 32

/-- Record an uncorrectable word (11 Table 11.4). -/
def State.hbmUe (s : State) (n b : Nat) : State :=
  let s := (s.addFld .HBM_UE 1 n).setFld .HBM_UE_ADDR_LO b n
  (s.setFld .HBM_UE_ADDR_HI_ADDR (b / 2 ^ 32) n).setFld .HBM_UE_ADDR_HI_VALID 1 n

/-- The bad bytes of the words from b: what stands in the stack, or what this access finds. -/
def State.hbmFound (s : State) (n b len : Nat) (bad : List Nat) : List Nat :=
  (List.range ((len + 31) / 32)).map (fun j => max (bankGet 0 s.hbmBad (hbmWord n b + j)) (bad.getD j 0))

/-- Count what a read finds: corrected words, uncorrectable words with the last one's address. -/
def State.hbmCount (s : State) (n b : Nat) (found : List Nat) : State :=
  let s := s.addFld .HBM_CE (found.filter correctable).length n
  (found.zipIdx.filter (fun x => uncorrectable x.1)).foldl (fun s x => s.hbmUe n (b + 32 * x.2)) s

/-- Whole words are written, but for those at places that `skip` names: damage and waiting corrections end there (11 R367, R368). -/
def State.hbmStore (s : State) (n b : Nat) (data : List Byte) (skip : List Nat) : State :=
  (List.range ((data.length + 31) / 32)).foldl (fun s j =>
    if skip.contains j then s
    else
      let w := hbmWord n b + j
      { s.hbmWrite n (b + 32 * j) ((data.drop (32 * j)).take 32) with hbmBad := bankSet 0 s.hbmBad w 0, hbmFix := s.hbmFix.filter (fun x => x ≠ w) }) s

/-- A write packet of bytes whose words arrive with these bad bytes: 1 or 2 are corrected and counted, an uncorrectable word is not written
(11 R356). -/
def State.hbmTake (s : State) (n b : Nat) (data : List Byte) (bad : List Nat) : State :=
  (s.addFld .HBM_CE (bad.filter correctable).length n).hbmStore n b data ((bad.zipIdx.filter (fun x => uncorrectable x.1)).map Prod.snd)

/-- A partition-relative range is written. -/
def State.partHbmWrite (s : State) (p a : Nat) (data : List Byte) : State :=
  (s.hbmPieces p a data.length).foldl (fun s x => s.hbmStore x.2.2.1 x.2.2.2 ((data.drop x.1).take x.2.1) []) s

/-! ### Snoop filters (11 R360) -/

/-- Lines a controller half's filter holds. -/
def snoopLines : Nat := 262144
def snoopHalf (n b : Nat) : Nat := 2 * n + (if pseudoCh b < 16 then 0 else 1)
def State.filter (s : State) (n b : Nat) : List (Nat × Bool) := bankGet [] s.snoop (snoopHalf n b)

/-- Back-invalidate a listed line, once. -/
def State.backInvalidate (s : State) (n line : Nat) : State :=
  let f := s.filter n (line * 64)
  if f.any (fun e => e.1 = line && !e.2) then
    { s with snoop := bankSet [] s.snoop (snoopHalf n (line * 64)) (f.map (fun (e : Nat × Bool) => if e.1 = line then (line, true) else e)) }.out (.backInv n (line * 64))
  else s

/-! ### Waiting (11 R354, R360, R361, R364) -/

/-- Global slice, stack and stack address of an HDM offset (11 R358). -/
def hdmSlice (h : Nat) : Nat := h / sliceBytes
def hdmStack (h : Nat) : Nat := hdmSlice h % 16
def hdmAddr (h : Nat) : Nat := hdmSlice h / 16 * sliceBytes + h % sliceBytes

/-- Stack, first byte and length of an access. -/
def HbmAcc.place : HbmAcc → Nat × Nat × Nat
  | .pkt k _ => (nodeStack k.dstNode, k.addr, if k.op = .memWrite then k.data.length else k.len)
  | .hdm r => (hdmStack r.addr, hdmAddr r.addr, 64)
  | .copyIn _ n b data => (n, b, data.length)
  | .copyOut _ n b len _ => (n, b, len)

/-- Two accesses meet in a word. -/
def HbmAcc.meets (a b : HbmAcc) : Bool :=
  let (_, x, l) := a.place
  let (_, y, m) := b.place
  x / 32 < (y + m + 31) / 32 && y / 32 < (x + l + 31) / 32

/-- Lines listed in a range of a stack: a device-side access must have them back from the host (11 R360). -/
def State.linesIn (s : State) (n b len : Nat) : List Nat :=
  ((s.filter n b).filter (fun e => b / 64 ≤ e.1 && e.1 < (b + len + 63) / 64)).map Prod.fst

def State.heldLines (s : State) (a : HbmAcc) : List Nat :=
  match a with
  | .hdm _ => []
  | _ => s.linesIn a.place.1 a.place.2.1 a.place.2.2

/-- The filter is full of other lines than the one that a host request has it list (11 R360). -/
def State.filterFull (s : State) (a : HbmAcc) : Bool :=
  match a with
  | .hdm r =>
    let f := s.filter a.place.1 a.place.2.1
    r.caches && snoopLines ≤ f.length && f.all (fun e => e.1 ≠ a.place.2.1 / 64)
  | _ => false

/-- The lines that an access waits for are asked back: those that the host holds of it, or the oldest of a full filter (11 R360). -/
def State.recall (s : State) (a : HbmAcc) : State :=
  let (n, b, _) := a.place
  if s.stackState n = stackFailed then s
  else
    let s := (s.heldLines a).foldl (fun s l => s.backInvalidate n l) s
    if s.filterFull a then (match (s.filter n b).head? with
      | some e => s.backInvalidate n e.1
      | none => s)
    else s

/-- An access can be served now: the stack is open (a FAILED one answers with errors), its pseudo-channel serves, the host
holds none of its lines, and the filter has room for the line it is to list (11 R360, R361, R364). -/
def State.servable (s : State) (a : HbmAcc) : Bool :=
  let (n, b, _) := a.place
  s.stackState n = stackFailed ||
    (s.stackState n = stackReady && s.chanServes n (pseudoCh b) && s.heldLines a = [] && !s.filterFull a)

/-- A write by the device to a partition-relative range reaches the stacks at once: every packet of it can be served and meets no access
that waits (11 R354, R360). -/
def State.hbmOpen (s : State) (p a len : Nat) : Bool :=
  (s.hbmPieces p a len).all (fun x =>
    let acc : HbmAcc := .copyOut p x.2.2.1 x.2.2.2 x.2.1 0
    s.servable acc && !(s.stack x.2.2.1).waiting.any acc.meets)

/-- The lines of the range that the host holds are asked back (11 R360). -/
def State.recallRange (s : State) (p a len : Nat) : State :=
  (s.hbmPieces p a len).foldl (fun s x => s.recall (.copyOut p x.2.2.1 x.2.2.2 x.2.1 0)) s

/-- Part of the range lies in a FAILED stack (11 R365). -/
def State.failedIn (s : State) (p a len : Nat) : Bool := (s.hbmPieces p a len).any (fun x => s.stackState x.2.2.1 = stackFailed)

/-- Write a range but for what lies in FAILED stacks (11 R365; log entry 90). -/
def State.partHbmPut (s : State) (p a : Nat) (data : List Byte) : State :=
  (s.hbmPieces p a data.length).foldl (fun s x =>
    if s.stackState x.2.2.1 = stackFailed then s else s.hbmStore x.2.2.1 x.2.2.2 ((data.drop x.1).take x.2.1) []) s

/-! ### Key changes (11 R357) -/

/-- A queue holds a request for a slice of p. -/
def State.hbmBusy (s : State) (p : Nat) : Bool :=
  s.hbmStacks.any (fun e => e.2.waiting.any (fun a => s.sliceOwner (sliceOf a.place.1 a.place.2.1) = some p))

/-- The pair requested takes effect, once no queue holds a request, while p is IDLE or does not exist (11 R357). -/
def State.hbmKeySwitch (s : State) (p : Nat) : State :=
  let req := bankGet 0 s.hbmKeyReq p
  if req = 0 || s.hbmBusy p || (s.partExists p && s.pstate p ≠ .idle) then s
  else
    let s := if req ≤ 2 then s.drawPair p else { s with hbmPairs := bankSet 0 s.hbmPairs p (req - 3) }
    ({ s with hbmKeyReq := bankSet 0 s.hbmKeyReq p 0 }.setBit .HBM_KEYS p (2 ≤ req)).setFld .SEC_PART_HBM_TENANT (if 2 ≤ req then 1 else 0) p

/-- Thimble asks for a new pair that it draws, the tenant's or not (11 R355, R357; 15 R466, R467). A pair that counts as the tenant's makes
the slices the tenant's from the request on; one that does not leaves the bits until the old pair is gone (log entry 89). -/
def State.drawHbmKey (s : State) (p : Nat) (tenant : Bool) : State :=
  let s := { s with hbmKeyReq := bankSet 0 s.hbmKeyReq p (if tenant then 2 else 1) }
  let s := if tenant then (s.setBit .HBM_KEYS p true).setFld .SEC_PART_HBM_TENANT 1 p else s
  s.hbmKeySwitch p

end Sys2Proof.Machine
end

