-- ==== Sys2Proof/Machine/PlinthOps.lean ====
section
/-! DEFINITION. Machine/PlinthOps.lean: Plinth objects, bindings and the checks of a read (12 R374, R378 to R391). -/
namespace Sys2Proof

/-! ### Manifests (12 R379, R380, Tables 12.3, 12.4) -/

def Manifest.layerCount (m : Manifest) : Nat := byteField m.header 0x008 4
def Manifest.version (m : Manifest) : Nat := byteField m.header 0x00C 4
def Manifest.objectSize (m : Manifest) : Nat := byteField m.header 0x010 8
def Manifest.keyId (m : Manifest) : Nat := byteField m.header 0x018 8
def Manifest.modelId (m : Manifest) : Nat := byteField m.header 0x020 16
def Manifest.layersDigest (m : Manifest) : Nat := byteField m.header 0x040 64

/-- MAGIC, FORMAT and HEADER_SIZE are as Table 12.3 has them, and its reserved bytes zero. -/
def Manifest.headerOk (m : Manifest) : Bool :=
  m.header.length = 192 && m.header.take 4 = [0x51, 0x50, 0x4C, 0x4D] && byteField m.header 0x004 2 = 1
    && byteField m.header 0x006 2 = 0xC0 && byteField m.header 0x030 16 = 0

/-- Layer entry i. -/
def Manifest.layer (m : Manifest) (i : Nat) : LayerEntry :=
  { off := byteField m.table (88 * i) 8, len := byteField m.table (88 * i + 0x08) 8, fmt := byteField m.table (88 * i + 0x10) 1,
    digest := byteField m.table (88 * i + 0x18) 64 }
def Manifest.layers (m : Manifest) : List LayerEntry := (List.range m.layerCount).map m.layer

/-- The table has LAYER_COUNT entries whose reserved bytes are zero. -/
def Manifest.tableOk (m : Manifest) : Bool :=
  m.table.length = 88 * m.layerCount && (List.range m.layerCount).all (fun i => byteField m.table (88 * i + 0x11) 7 = 0)

/-- The manifest digest (12 R380). -/
def Manifest.sha (m : Manifest) : Nat := sha512 (m.header.take 0xC0)

/-! ### Plinth tokens (12 R381, Table 12.5) -/

def PlinthToken.action (t : PlinthToken) : Nat := byteField t.bytes 0x04 1
def PlinthToken.object (t : PlinthToken) : Nat := byteField t.bytes 0x06 2
def PlinthToken.deviceKeyId (t : PlinthToken) : Nat := byteField t.bytes 0x08 8
def PlinthToken.nonce (t : PlinthToken) : Nat := byteField t.bytes 0x10 16
def PlinthToken.operatorKeyId (t : PlinthToken) : Nat := byteField t.bytes 0x20 8
def PlinthToken.manifestDigest (t : PlinthToken) : Nat := byteField t.bytes 0x30 64

/-- MAGIC is as Table 12.5 has it, and the token whole. -/
def PlinthToken.magicOk (t : PlinthToken) : Bool := t.bytes.length = 176 && t.bytes.take 4 = [0x51, 0x50, 0x4C, 0x54]

end Sys2Proof

namespace Sys2Proof.Machine
open Sys2Proof

/-! ### Binding entries (12 Table 12.7) -/

def bValid (v : Nat) : Bool := v.testBit 0
def bPatch (v : Nat) : Bool := v.testBit 1
def bPart (v : Nat) : Nat := v / 2 ^ 2 % 16
def bObject (v : Nat) : Nat := v / 2 ^ 8 % 1024
def bBase (v : Nat) : Nat := v / 2 ^ 32 % 4096
def bRank (v : Nat) : Nat := v / 2 ^ 44 % 512
def bHbm (v : Nat) : Nat := v / 2 ^ 64 % 2 ^ 36 * 32
def bStride (v : Nat) : Nat := v / 2 ^ 100 % 2 ^ 24 * 32
def bReserved (v : Nat) : Bool :=
  v / 2 ^ 6 % 4 ≠ 0 || v / 2 ^ 18 % 2 ^ 14 ≠ 0 || v / 2 ^ 53 % 2 ^ 11 ≠ 0 || v / 2 ^ 124 % 16 ≠ 0

/-- Object states (12 Table 12.2). -/
def objFree : Nat := 0
def objWriting : Nat := 1
def objReady : Nat := 2
def objCorrupt : Nat := 3
def objErasing : Nat := 4

def State.obj (s : State) (n : Nat) : PlinthObj := bankGet {} s.plinth n
def State.setObj (s : State) (n : Nat) (o : PlinthObj) : State := { s with plinth := bankSet {} s.plinth n o }
def State.bind_ (s : State) (n : Nat) : Nat := bankGet 0 s.binds n
def State.repl (s : State) (p : Nat) : Repl := bankGet {} s.repls p
def State.setRepl (s : State) (p : Nat) (r : Repl) : State := { s with repls := bankSet {} s.repls p r }

/-- Groups of 16 MiB an object takes (12 R374, Table 12.6). -/
def objGroups (size : Nat) : Nat := (size + 16777215) / 16777216

/-- Free groups of the store. -/
def State.freeGroups (s : State) : Nat :=
  65536 - ((s.plinth.filter (fun e => e.2.state ≠ objFree)).map (fun e => objGroups e.2.manifest.objectSize)).sum

/-- A byte of an object. -/
def plinthKey (obj off : Nat) : Nat := obj * 2 ^ 41 + off
def State.plinthRead (s : State) (obj off len : Nat) : List Byte := bankList 0 s.mem.plinthData (plinthKey obj off) len

/-- Die that holds byte o of an object: stripes of 4,096 bytes rotate over the four dies (12 R374). -/
def plinthDie (o : Nat) : Nat := o / 4096 % 4

/-- The object from which a BASE binding reads a layer: during a replacement the new one where the layer has been replaced. REPL_DONE_LAYER
changes at tick boundaries only, or is cleared while the binding's object is still the old one (12 R391). -/
def State.bindObject (s : State) (p n layer : Nat) : Nat :=
  if (s.repl p).bind = n && s.fld .REPL_STATUS_STATE p ≠ replIdle && s.fld .REPL_STATUS_STATE p ≠ replDone
      && s.flag .REPL_DONE_LAYER_VALID p && layer ≤ s.fld .REPL_DONE_LAYER_LAYER p then (s.repl p).newObject
  else bObject (s.bind_ n)

/-- Valid BASE bindings of an object (12 R384, R388, Table 12.9). -/
def State.objBinds (s : State) (n : Nat) : Nat := (s.binds.filter (fun e => bValid e.2 && !bPatch e.2 && bObject e.2 = n)).length

/-- Layers replaced so far: the next to copy. -/
def State.replNext (s : State) (p : Nat) : Nat := if s.flag .REPL_DONE_LAYER_VALID p then s.fld .REPL_DONE_LAYER_LAYER p + 1 else 0

/-- The tick after whose completion the next step is taken (12 R393). -/
def State.replTick (s : State) (p : Nat) : Nat :=
  s.fld64 .REPL_TICK_LO .REPL_TICK_HI p + (if s.flag .REPL_CTRL_MODE p then (s.repl p).steps * max 1 (s.fld .REPL_STRIDE p) else 0)

/-- A step is due at the boundary after the tick in progress, which is complete (12 R393, R394). -/
def State.replDue (s : State) (p : Nat) : Bool :=
  s.fld .REPL_STATUS_STATE p = replArmed && s.pstate p = .running && s.planTick p = s.replTick p && s.planTick p < (s.part p).completed

/-- The checks of R390 in order; 0 when they pass. -/
def State.plinthCode (s : State) (p n layer off len : Nat) : Nat :=
  let v := s.bind_ n
  if 4095 < n || !bValid v || bPart v ≠ p then E_PLINTH_NOT_BOUND
  else if off % 32 ≠ 0 || len % 32 ≠ 0 then E_SPAD_ALIGN
  else
    let base := if bPatch v then s.bind_ (bBase v) else v
    let o := s.obj (if bPatch v then bObject base else s.bindObject p n layer)
    let room := if bPatch v then bStride v else (o.manifest.layers[layer]?).elim 0 LayerEntry.len
    if o.manifest.layerCount ≤ layer || room < off + len then E_PLINTH_RANGE
    else if !bPatch v && o.state = objCorrupt then E_PLINTH_CORRUPT
    else if bPatch v then s.hbmCode p (bHbm v + layer * bStride v + off) len
    else 0

end Sys2Proof.Machine
end

