-- ==== Sys2Proof/Machine/Wire.lean ====
section
/-! DEFINITION. Machine/Wire.lean: the words of packets, the flits of the package fabric and the frames of the links, bit by bit (07 Tables
7.3 and 7.4; 08 R240 to R244, R257, R261, Table 8.13). -/
namespace Sys2Proof.Machine
open Sys2Proof

/-- A field of a word: w bits of v at bit k. -/
def fieldAt (k w v : Nat) : Nat := v % 2 ^ w * 2 ^ k

/-! ### Packet words (07 R218, R219) -/

/-- OP of Table 7.4. -/
def opCode : Op → Nat
  | .write => 1 | .readReq => 2 | .readResp => 3 | .give => 4 | .ack => 5 | .errorResp => 6 | .barArrive => 7 | .barRelease => 8
  | .memWrite => 9 | .memRead => 0xA | .sampleData => 0xB | .bad => 0

/-- LEN: body flits. -/
def pktLen (k : Pkt) : Nat := (k.data.length + 31) / 32

/-- The head word (07 Table 7.4). What the spec gives no place in it is not shown (log entry 80). -/
def headWord (k : Pkt) : Nat :=
  fieldAt 0 4 (opCode k.op) + fieldAt 4 7 k.dstNode + fieldAt 11 7 k.srcNode + fieldAt 18 7 k.dstUnit + fieldAt 25 7 k.srcUnit
    + fieldAt 32 16 k.tag + fieldAt 48 16 k.srcRank + fieldAt 64 16 k.dstRank + fieldAt 80 2 k.tclass + fieldAt 82 5 (pktLen k)
    + fieldAt 87 1 k.final.toNat + fieldAt 88 1 k.sig.toNat + fieldAt 96 10 k.handle + fieldAt 106 19 k.off + fieldAt 128 64 k.addr
    + fieldAt 192 8 k.sigCounter + fieldAt 200 16 k.sigAmount + fieldAt 216 16 k.xfer

/-- Body word i of a packet. -/
def bodyWord (k : Pkt) (i : Nat) : List Byte := (k.data.drop (32 * i)).take 32

/-- A word as it travels: 32 data bytes and 4 check bytes (00 Table 0.3). -/
def coded (w : List Byte) : List Byte := w ++ (Config.qCheck w).take 4

/-- The control field of a flit: its channel, KIND, PARTITION, and no credit returned (07 Table 7.3; log entry 80). -/
def flitCtl (channel kind part : Nat) : Nat :=
  (if channel = 8 then 2 ^ 3 else channel % 8) + kind * 2 ^ 5 + part % 16 * 2 ^ 7 + 15 * 2 ^ 11

/-! ### Slots (08 R242 to R244, Table 8.13) -/

/-- The slots of a packet: HEAD, one BODY per 32 bytes, SEAL (08 R243). -/
def pktSlots (k : LPkt) : List Slot :=
  .word 1 k :: ((List.range (pktLen k.pkt)).map (fun i => .word 2 k i) ++ (if k.isSealed then [.word 3 k] else []))

/-- Link bits [94:89] of a head word (08 R244). -/
def linkBits (k : LPkt) : Nat := fieldAt 89 1 k.epoch + fieldAt 90 3 k.lvc + fieldAt 93 1 k.isSealed.toNat + fieldAt 94 1 k.kgen

/-- The head word on the link, with the check bytes of the word whose link bits are zero (08 R244). -/
def linkHead (k : LPkt) : List Byte := leBytes 32 (headWord k.pkt + linkBits k) ++ (Config.qCheck (leBytes 32 (headWord k.pkt))).take 4

/-- IV, additional data and plaintext of a seal (08 Table 8.13). -/
def sealIv (k : LPkt) : Nat := fieldAt 80 16 k.pkt.srcRank + fieldAt 75 5 k.port + fieldAt 74 1 k.kgen + fieldAt 0 64 k.seq
def sealAad (k : LPkt) : Nat := headWord k.pkt % 2 ^ 96 + fieldAt 93 1 k.isSealed.toNat + fieldAt 94 1 k.kgen
def sealPlain (k : LPkt) : List Byte := (linkHead k).drop 12 ++ (List.range (pktLen k.pkt)).flatMap (fun i => coded (bodyWord k.pkt i))

/-- The tag of a packet's seal under a job key. -/
def sealTag (key : Nat) (k : LPkt) : Nat := Config.gcmTag key (sealIv k) (sealAad k) (sealPlain k) % 2 ^ 128

/-- Bytes 24 to 35 of a seal word that are not zero: which they are does not matter, so they read 1. -/
def sealTail (k : LPkt) : List Byte := List.replicate 12 (if k.tailZero then 0 else 1)

/-- The packet with its seal under a job key (08 R280). -/
def sealed (key : Nat) (k : LPkt) : LPkt :=
  { k with auth := sealTag key k, cipher := Config.gcmCipher key (sealIv k) (sealPlain k) }

/-- The 36 bytes of a slot. An EMPTY slot is sent as zeros (log entry 81). -/
def slotBytes : Slot → List Byte
  | .empty => List.replicate 36 0
  | .word kind k i =>
    let c := if k.isSealed then k.cipher else sealPlain k
    if kind = 1 then (linkHead k).take 12 ++ c.take 24
    else if kind = 2 then (c.drop (24 + 36 * i)).take 36
    else leBytes 16 k.auth ++ leBytes 8 k.seq ++ sealTail k

/-! ### Frames (08 Tables 8.3 and 8.7; 01 Table 1.3; 10 Table 10.5) -/

/-- TYPE of a plan control flit; a value that is not assigned is sent as 0. -/
def ctlCode : CtlType → Nat
  | .report => 1 | .hold => 2 | .release => 3 | .faultStop => 4 | .other => 0

/-- CMSG of a plan control flit: the fields of Table 1.3 in order (log entry 81). -/
def ctlBits (f : CtlFlit) : Nat :=
  fieldAt 0 3 (ctlCode f.type) + fieldAt 3 16 f.tag + fieldAt 19 16 f.origin + fieldAt 35 32 f.tick + fieldAt 67 8 f.cause + fieldAt 75 8 f.hops
    + fieldAt 83 4 f.hem + fieldAt 87 1 f.stopped.toNat

/-- CMSG of a link management message (08 Table 8.7). -/
def linkMsgBits (m : LinkMsg) : Nat :=
  fieldAt 0 8 m.op + fieldAt 8 8 m.txn + fieldAt 16 4 m.lane + fieldAt 20 2 m.reason + fieldAt 22 1 m.half + fieldAt 24 64 m.data

/-- CMSG of a time protocol message (10 Table 10.5). -/
def timeMsgBits (m : TimeMsg) : Nat := fieldAt 0 8 m.op + fieldAt 8 8 m.id + fieldAt 16 72 m.payload

/-- CKIND and CMSG. -/
def cmsgBits : Cmsg → Nat × Nat
  | .none => (0, 0)
  | .ctl f => (1, ctlBits f)
  | .link m => (2, linkMsgBits m)
  | .time m => (3, timeMsgBits m)

/-- SLOTMAP code of a slot. -/
def slotCode : Slot → Nat
  | .empty => 0
  | .word k _ _ => k

/-- Header bits [162:0] (08 Table 8.3). -/
def frameLow (f : Frame) : Nat :=
  fieldAt 0 12 (if f.idle then 0 else f.fseq) + fieldAt 12 12 f.ack + fieldAt 24 1 f.ackV.toNat + fieldAt 25 1 f.nak.toNat
    + fieldAt 26 1 f.idle.toNat + ((List.range 17).map (fun i => fieldAt (27 + 2 * i) 2 (slotCode (f.slots.getD i .empty)))).sum
    + fieldAt 61 2 (cmsgBits f.cmsg).1 + fieldAt 63 88 (cmsgBits f.cmsg).2 + fieldAt 151 12 f.fcnt

/-- The 17 slots as a number of 4,896 bits. -/
def frameSlots (f : Frame) : Nat :=
  leNat ((List.range 17).flatMap (fun i => slotBytes (f.slots.getD i .empty)))

/-- CTAG under a port key and frame counter (08 R257). -/
def frameTag (portKey count : Nat) (f : Frame) : Nat :=
  Config.gcmTag portKey (count % 2 ^ 64) (frameLow f + frameSlots f * 2 ^ 163) [] % 2 ^ 48

/-- CRC-32C, bit by bit, least significant bit first, of n bits of v (08 Table 8.3; log entry 81). -/
def crcBits : Nat → Nat → Nat → Nat
  | 0, _, c => c
  | n + 1, v, c => crcBits n (v / 2) (c / 2 ^^^ (if (c + v) % 2 = 1 then 0x82F63B78 else 0))
def crc32c (n v : Nat) : Nat := crcBits n v (2 ^ 32 - 1) ^^^ (2 ^ 32 - 1)

/-- CRC over header bits [210:0] and the slots. -/
def frameCrc (f : Frame) : Nat := crc32c 5107 (frameLow f + fieldAt 163 48 f.ctag + frameSlots f * 2 ^ 211)

/-- The codeword of a frame: 514 message symbols (header, then slots), then 30 parity symbols, of 10 bits each (08 R240, R242). -/
def frameCode (f : Frame) : Nat :=
  let m := frameLow f + fieldAt 163 48 f.ctag + fieldAt 211 32 f.crc + frameSlots f * 2 ^ 244
  m + Config.kp4Parity m % 2 ^ 300 * 2 ^ 5140

/-! ### Lanes (08 R240, R241) -/

/-- The data lane of symbol i: i mod 8, or i mod 4 of the half in use. -/
def symbolLane (half : Option Nat) (i : Nat) : Nat :=
  match half with
  | none => i % 8
  | some h => i % 4 + 4 * h

/-- The bits that data lane d carries of a codeword, first symbol lowest, with how many there are. -/
def laneBits (half : Option Nat) (code d : Nat) : Nat × Nat :=
  ((List.range 544).filter (fun i => symbolLane half i = d)).foldl (fun (a : Nat × Nat) i => (a.1 + fieldAt a.2 10 (code / 2 ^ (10 * i)), a.2 + 10)) (0, 0)

/-- BIP-8: bit j is the parity of the bits j, j + 8, and so on. -/
def bip8 (b : Nat × Nat) : Nat := (List.range (b.2 / 8)).foldl (fun a j => a ^^^ (b.1 / 256 ^ j % 256)) 0

/-- What a frame adds to the parities of the lanes, LNS last: LNS carries the darned lane, or its idle pattern. -/
def lanesBip (half darn : Option Nat) (code : Nat) : List Nat :=
  (List.range 9).map (fun l => if l = 8 then darn.elim (Config.idleParity % 256) (fun d => bip8 (laneBits half code d)) else bip8 (laneBits half code l))

/-- Parities added. -/
def addBip (a b : List Nat) : List Nat := (List.range 9).map (fun l => a.getD l 0 ^^^ b.getD l 0)

end Sys2Proof.Machine
end

