-- ==== Sys2Proof/Machine/FabOps.lean ====
section
/-! DEFINITION. Machine/FabOps.lean: the package fabric's nodes and routes, the rank tables, and injecting a packet (07, 09). -/
namespace Sys2Proof.Machine
open Sys2Proof

/-! ### Nodes and boot routes (07 Table 7.1, R226) -/

/-- The node a leaf, a link die, HD or SD hangs from, and the edge of that node that leads to it; none for a node of the grid and
spine (07 Table 7.1). -/
def hangsFrom (n : Nat) : Option (Nat × Nat) :=
  if 64 ≤ n && n ≤ 67 then some (16 * (n - 64), 3)
  else if 68 ≤ n && n ≤ 71 then some (16 * (n - 68) + 15, 1)
  else if n = 76 then some (72, 4) else if n = 77 then some (72, 5)
  else if n = 78 then some (75, 4) else if n = 79 then some (75, 5)
  else if n = 80 then some (72, 0) else if n = 81 then some (74, 4) else if n = 82 then some (73, 4)
  else if n = 83 then some (75, 2) else none

/-- The only edge of a hanging node. -/
def ownEdge (n : Nat) : Nat :=
  if 64 ≤ n && n ≤ 67 then 1 else if 68 ≤ n && n ≤ 71 then 3 else if n = 80 then 2 else if n = 83 then 0 else 4

/-- Position of a compute or pool node (07 Table 7.1). -/
def nodeX (n : Nat) : Nat := if 72 ≤ n then 8 else if n % 16 ≤ 7 then n % 16 else n % 16 + 1
def nodeY (n : Nat) : Nat := if 72 ≤ n then n - 72 else n / 16

/-- The edge that brings x, or y, nearer: 0 N, 1 E, 2 S, 3 W. -/
def stepX (n d : Nat) : Nat := if nodeX n < nodeX d then 1 else 3
def stepY (n d : Nat) : Nat := if nodeY n < nodeY d then 2 else 0

/-- The boot base's entry of a node for a destination and VC, as FAB_ROUTE_ENTRY holds it: EDGE, 8 × LOCAL, 16 × VALID. VCs 0
and 2 go x-first, 1 and 3 y-first, 4 to 7 have no entry (07 R226; hanging nodes by log entry 11). -/
def bootRoute (n d vc : Nat) : Nat :=
  if 4 ≤ vc || 84 ≤ n || 84 ≤ d then 0
  else if n = d then 24
  else match hangsFrom n with
    | some _ => 16 + ownEdge n
    | none =>
      let t := (hangsFrom d).elim d Prod.fst
      if n = t then 16 + (hangsFrom d).elim 0 Prod.snd
      else if vc % 2 = 0 then 16 + (if nodeX n ≠ nodeX t then stepX n t else stepY n t)
      else 16 + (if nodeY n ≠ nodeY t then stepY n t else stepX n t)

/-- The route entry in force (07 R225). -/
def State.route (s : State) (n d vc : Nat) : Nat :=
  match bankGet 0 s.fabRoutes ((n * 84 + d) * 8 + vc) with
  | 0 => bootRoute n d vc
  | e + 1 => e

/-- The entry is VALID. -/
def State.routeValid (s : State) (n d vc : Nat) : Bool := (s.route n d vc).testBit 4

/-- The request VC of a traffic class of a partition: ARM_PART_VCMAP (07 R220). -/
def State.classVc (s : State) (p c : Nat) : Nat := s.fld .ARM_PART_VCMAP_CLASS_VC p / 8 ^ c % 8

/-! ### Rank tables (09 R293, R294) -/

/-- The lookup: the first valid entry of the epoch that matches the rank. -/
def State.rankLookup (s : State) (j epoch rank : Nat) : Option RankEntry :=
  ((List.range 256).map (fun e => bankGet {} s.ranks (j * 512 + epoch * 256 + e))).find?
    (fun e => e.valid && e.lo ≤ rank && rank ≤ e.hi)

/-- The bit of the mask at a position counted from the lowest set bit. -/
def nthBit (mask n : Nat) : Option Nat := (bitsOf mask 32)[n]?

/-- The port the entry and the head word choose; none when the candidate mask is empty. -/
def choosePort (e : RankEntry) (mask : Nat) (k : Pkt) : Option Nat :=
  let n := (bitsOf mask 32).length
  if n = 0 then none
  else nthBit mask ((if e.spread then k.dstRank + k.srcNode * 128 + k.srcUnit + k.dstUnit else k.dstRank) % n)

/-- The egress port of an off-device packet at its origin (09 R294, R295). -/
def State.egressPort (s : State) (j : Nat) (k : Pkt) : Option Nat :=
  match s.rankLookup j (s.fld .SLOT_CFG_EPOCH j) k.dstRank with
  | some e => choosePort e e.ports k
  | none => none

/-- The packet leaves the device (09 R295). -/
def State.offDevice (s : State) (p : Nat) (k : Pkt) : Bool := k.dstRank ≠ s.ownRank p

/-- What names a transfer beyond its origin: its job, and the rank, node, unit and number of its source. -/
def xferKey (k : Pkt) : Nat × Nat × Nat × Nat × Nat := (k.tag, k.srcRank, k.srcNode, k.srcUnit, k.xfer)

/-! ### Errors of the fabric and of routing -/

/-- Record a fabric error: the first one's node, edge and partition are kept until VALID is cleared; vector 0 (07 R236, Table 7.8;
14 Table 14.10). -/
def State.fabError (s : State) (node edge p code : Nat) : State :=
  let s := s.recordFirst .FAB_ERROR_CODE .FAB_ERROR_MULTI code
  let s := if s.flag .FAB_ERROR_INFO_VALID then s
    else ((s.setFld .FAB_ERROR_INFO_NODE node).setFld .FAB_ERROR_INFO_EDGE edge).setFld .FAB_ERROR_INFO_PARTITION p |>.setFld .FAB_ERROR_INFO_VALID 1
  s.raiseVector 0

/-- Record a routing error with its job and port (09 R308, Table 9.6). -/
def State.routeError (s : State) (code tag n : Nat) : State :=
  let s := s.recordFirst .ROUTE_ERROR_CODE .ROUTE_ERROR_MULTI code
  if s.flag .ROUTE_ERROR_INFO_VALID then s
  else ((s.setFld .ROUTE_ERROR_INFO_JOB_TAG tag).setFld .ROUTE_ERROR_INFO_PORT n).setFld .ROUTE_ERROR_INFO_VALID 1

/-! ### Channels (07 R220, R226, R296) -/

/-- The packet travels on RSP, whose routes are fixed x-first. -/
def onRsp (k : Pkt) : Bool := k.op = .readResp || k.op = .ack || k.op = .errorResp

/-- The node a router routes the packet to: its egress port's link die when it is on its way off the device (09 R296, Table 9.3). -/
def State.routingNode (s : State) (k : Pkt) : Nat := if s.offDevice k.part k then 64 + k.addr % 32 / 4 else k.dstNode

/-- The channel of a packet: its request VC, or 8 for RSP. -/
def State.channel (s : State) (k : Pkt) : Nat := if onRsp k then 8 else s.classVc k.part k.tclass

/-- The entry that routes a packet at a node. -/
def State.packetRoute (s : State) (n : Nat) (k : Pkt) : Nat :=
  if onRsp k then bootRoute n (s.routingNode k) 0 else s.route n (s.routingNode k) (s.classVc k.part k.tclass)

/-! ### Packets on the fabric (07 R224) -/

/-- Two packets go from one source unit to one destination unit on one channel. -/
def State.sameStream (s : State) (j k : Pkt) : Bool :=
  j.srcRank = k.srcRank && j.srcNode = k.srcNode && j.srcUnit = k.srcUnit && s.routingNode j = s.routingNode k && j.dstUnit = k.dstUnit
    && s.channel j = s.channel k

/-- The packet would overtake another of its stream that is still on the fabric. -/
def State.overtakes (s : State) (k : Pkt) : Bool := (s.flight.find? (fun j => s.sameStream j k)).elim false (fun j => j ≠ k.sent)

/-- The packet is no longer on the fabric. -/
def State.leavesFabric (s : State) (k : Pkt) : State := { s with flight := s.flight.eraseP (fun j => j = k.sent) }

/-! ### Injection -/

/-- SEC_PART.KGENn of a partition: 0 NONE, 1 OPEN, 2 SEALED (15 Table 15.13). -/
def State.kgenState (s : State) (p gen : Nat) : Nat :=
  if gen = 0 then s.fld .SEC_PART_KGEN0 p else s.fld .SEC_PART_KGEN1 p

/-- T of the pending switch of a slot has come (09 R303). -/
def State.inGuard (s : State) (j : Nat) : Bool :=
  s.flag .SLOT_STATUS_SWITCH_PENDING j && ((bankGet {} s.jobSlots j).inGuard || s.timeReached (bankGet {} s.jobSlots j).switchAt)

/-- Off-device injection of the partition's job waits: its slot drains or is inside a switch guard (09 R289, R303). -/
def State.injectionWaits (s : State) (p : Nat) : Bool :=
  match s.runSlot p with
  | some j => s.fld .SLOT_STATUS_STATE j ≠ slotActive || s.inGuard j
  | none => false

/-- The shared tables are being switched: traffic through link, pool, host and serving dies, and through routers outside the scope, is
paused (02 Table 2.8). -/
def State.sharedPaused (s : State) : Bool := s.fld .ARM_STATUS_STATE = armApplying && s.loader.phase = 3

/-- The packet goes to or through a shared die. -/
def State.shared (s : State) (p : Nat) (k : Pkt) : Bool := s.offDevice p k || 64 ≤ k.dstNode

/-- The fabric ports of a compute die are closed to new injection: by an Armature application (02 Table 2.8) or by a sleeve reset under
way (17 R526). -/
def State.diesShut (s : State) (nn : Nat) : Bool :=
  s.loader.closed.contains nn ||
    ((s.fld .SLEEVE_STATUS_STATE = 1 || s.fld .SLEEVE_STATUS_STATE = 2) && s.fld .SLEEVE_STATUS_BLOCK = nn)

/-- Injection of the packet waits: for its job slot, for the fabric ports of its die to reopen, or for the shared tables (09 R289, R303;
02 Table 2.8, 17 R526). -/
def State.mustHold (s : State) (p : Nat) (k : Pkt) : Bool :=
  (s.offDevice p k && s.injectionWaits p) || (k.srcNode < 64 && k.srcUnit < 96 && s.diesShut k.srcNode)
    || (s.sharedPaused && s.shared p k)

/-- The egress port of an off-device packet of a partition, by the slot's current epoch. -/
def State.portOf (s : State) (p : Nat) (k : Pkt) : Option (Nat × Nat) :=
  match s.runSlot p with
  | some j => (s.egressPort j k).map (fun n => (j, n))
  | none => none

/-- Why a packet of partition p cannot be sent, or 0: no route to its rank (09 R295), no key (08 R282), no fabric route (07 R227).
Responses and acknowledgements travel on RSP, whose routes are fixed. -/
def State.injectCode (s : State) (p : Nat) (k : Pkt) : Nat :=
  let vc := s.classVc p k.tclass
  if s.offDevice p k then
    match s.portOf p k with
    | none => E_ROUTE_NO_ROUTE
    | some (_, n) =>
      if s.kgenState p (s.fld .SEC_PART_SEND_KGEN p) = 0 then E_LINK_NO_KEY
      else if onRsp k || s.routeValid k.srcNode (64 + n / 4) vc then 0 else E_FAB_NO_ROUTE
  else if onRsp k || s.routeValid k.srcNode k.dstNode vc then 0 else E_FAB_NO_ROUTE

/-- The packet as it enters the fabric: PARTITION set, and the egress port and epoch in ADDR when it leaves the device (07 R219;
09 Table 9.3); none without a route. -/
def State.stamped (s : State) (p : Nat) (k : Pkt) : Option Pkt :=
  if s.offDevice p k then (s.portOf p k).map (fun x => { k with part := p, addr := x.2 + s.fld .SLOT_CFG_EPOCH x.1 * 32 })
  else some { k with part := p }

/-- Send a packet. The rows of a SAMPLE reach the sampling unit as one, so their packets are not followed on the fabric (log entry 22). -/
def State.inject (s : State) (p : Nat) (k : Pkt) : State :=
  match s.stamped p k with
  | some k => if k.op = .sampleData then s.out (.packet k) else { s with flight := s.flight ++ [k.sent] }.out (.packet k)
  | none => s

/-- The answer to a request: back to the unit and rank it came from (07 Table 7.4). -/
def answer (k : Pkt) (op : Op) : Pkt :=
  { op := op, part := k.part, dstNode := k.srcNode, dstUnit := k.srcUnit, srcNode := k.dstNode, srcUnit := k.dstUnit, tag := k.tag,
    srcRank := k.dstRank, dstRank := k.srcRank, tclass := k.tclass, xfer := k.xfer, sub := k.sub, final := k.final }

/-! ### Arriving -/

/-- The block of R526 that a packet is for, at its node: a compute die, a link die, a pool or Plinth die, the serving die, or the HBM
controller half of a rim die. -/
def pktBlock (k : Pkt) : Option Nat :=
  let n := k.dstNode
  if n < 64 && (k.op = .memWrite || k.op = .memRead) then some (81 + (if n < 16 then n else n - 32))
  else if n < 80 then some n
  else if n = 83 then some 80
  else none

/-- The operation expects a response (07 Table 7.4). -/
def expectsResp (op : Op) : Bool := op = .readReq || op = .memRead || op = .memWrite

/-- A packet arrives at a block: while the block is sleeved it is answered with ERROR_RESP or discarded, and counted (17 R526). -/
def State.atSleeve (s : State) (b : Option Nat) (k : Pkt) (f : State → State) : State :=
  if s.fld .SLEEVE_STATUS_STATE = 2 && b = some (s.fld .SLEEVE_STATUS_BLOCK) then
    let s := s.addFld .SLEEVE_DROPS
    if expectsResp k.op then s.inject k.part { answer k .errorResp with code := E_PWR_BLOCK_RESET } else s
  else f s

/-- Node and unit of a core (07 Table 7.1, R219). -/
def coreNode (g : Nat) : Nat := g / 96
def coreUnit (g : Nat) : Nat := g % 96

/-- The global core a packet is for. -/
def pktCore (k : Pkt) : Nat := k.dstNode * 96 + k.dstUnit

/-- A change of a sync counter, a completed macro-operation, a packet landing or a completed tick restarts the no-progress timer
(01 R44, 06 R201). -/
def State.progress (s : State) (p : Nat) : State := s.setPart p { s.part p with noProg := 0 }

/-- The fence of a compute die: the packet is for a core of it whose partition differs from the flit's (07 R232). -/
def State.fenced (s : State) (n : Nat) (k : Pkt) : Bool :=
  n = k.dstNode && n < 64 && k.dstUnit < 96 && !s.offDevice k.part k && s.corePart (pktCore k) ≠ k.part

/-- The fence discards a packet. -/
def State.fenceDrop (s : State) (n edge : Nat) (k : Pkt) : State :=
  ((s.leavesFabric k).addFld .FAB_FENCE_DROP 1 n |>.fabError n edge k.part E_FAB_FENCE).enterFault k.part E_FAB_FENCE

/-- A packet may reach the unit it is for: it does not overtake another of its stream, and traffic through its die is not paused (07 R224;
02 Table 2.8). -/
def State.mayLand (s : State) (k : Pkt) : Bool := !s.overtakes k && !(s.sharedPaused && 64 ≤ s.routingNode k)

/-- A packet reaches the unit it is for at block b: it leaves the fabric, the fence is passed, and the no-progress timer of its partition
restarts (07 R224, R232; 01 R44). A packet that cannot arrive yet changes nothing; nor does one that is no packet. -/
def State.arriveAt (s : State) (b : Option Nat) (k : Pkt) (f : State → State) : State :=
  if !k.fits || !s.mayLand k then s
  else if s.fenced k.dstNode k then s.fenceDrop k.dstNode 6 k
  else ((s.leavesFabric k).progress k.part).atSleeve b k f

/-! ### Sending what no macro-operation sends at once -/

/-- The transfer a packet belongs to at the core it is for, and the transfer a core's own packet belongs to. -/
def State.xferOf (s : State) (k : Pkt) : Option Xfer := (s.core (pktCore k)).xfers.find? (fun x => x.id = k.xfer)
def State.xferFrom (s : State) (k : Pkt) : Option Xfer := (s.core (k.srcNode * 96 + k.srcUnit)).xfers.find? (fun x => x.id = k.xfer)

/-- A transfer of a core ends with an error: its signal is never applied, and its MOVE, where it has not completed, completes with the error
(03 R90, 05 R170). -/
def State.failXfer (s : State) (g : Nat) (x : Xfer) (code : Nat) : State :=
  let c := s.core g
  let live : Bool := c.started.any (fun r => r.xfer = some x.id)
  let s := s.setCore g { c with xfers := c.xfers.map (fun y => if y.id = x.id then { y with failed := true } else y),
                                started := c.started.filter (fun r => r.xfer ≠ some x.id), cp := .error }
  let s := if live then (s.progress (s.corePart g)).trace g 2 x.tag else s
  s.coreFault g code x.tag

/-- A packet that cannot be sent. The data of a MOVE whose source is not local ends the MOVE (07 R227, 08 R282, 09 R295); of the answers and
barrier packets, which no macro-operation is left to end for, the missing route is recorded (09 R308; log entry 78). -/
def State.unsent (s : State) (k : Pkt) (code : Nat) : State :=
  match k.op, s.xferFrom k with
  | .write, some x => s.failXfer (k.srcNode * 96 + k.srcUnit) x code
  | _, _ => if code = E_ROUTE_NO_ROUTE then s.routeError code k.tag 0 else s

/-- A packet sets out, waits, or cannot be sent. -/
def State.sendOrWait (s : State) (p : Nat) (k : Pkt) : State :=
  if s.mustHold p k then { s with outbox := s.outbox ++ [(p, k)] }
  else
    let code := s.injectCode p k
    if code = 0 then s.inject p k else s.unsent k code

/-- Everything that waits is tried again, in order. -/
def State.flush (s : State) : State := s.outbox.foldl (fun s e => s.sendOrWait e.1 e.2) { s with outbox := [] }

/-- A packet that no macro-operation sends joins those that wait. -/
def State.queueOut (s : State) (p : Nat) (k : Pkt) : State := { s with outbox := s.outbox ++ [(p, k)] }

/-- Send a packet that no macro-operation sends, as soon as it may go. -/
def State.post (s : State) (p : Nat) (k : Pkt) : State := (s.queueOut p k).flush

end Sys2Proof.Machine
end

