-- ==== Sys2Proof/Machine/SyncOps.lean ====
section
/-! DEFINITION. Machine/SyncOps.lean: sync counters, gives that no core or another device makes, and barrier rounds (06; 20 R569). -/
namespace Sys2Proof.Machine
open Sys2Proof

/-! ### Counters (06 R188, Table 6.1) -/

def State.decl (s : State) (g c : Nat) : Nat := bankGet 0 (s.core g).decls c
def dBound (v : Nat) : Nat := v % 2 ^ 24
def dKind (v : Nat) : Nat := v / 2 ^ 24 % 4
def dCore (v : Nat) : Nat := v / 2 ^ 32 % 2 ^ 13
def dRank (v : Nat) : Nat := v / 2 ^ 48 % 2 ^ 16
def dReserved (v : Nat) : Bool := v / 2 ^ 26 % 2 ^ 6 ≠ 0 || v / 2 ^ 45 % 2 ^ 3 ≠ 0

/-- A declaration write is refused (06 R192). -/
def declRefused (v : Nat) : Bool := dKind v = 3 || (dKind v = 0 && 6143 < dCore v) || dReserved v

def State.bound (s : State) (g c : Nat) : Nat := dBound (s.decl g c)
/-- The available count: (GIVEN − TAKEN) mod 2^32 (06 R188). -/
def State.available (s : State) (g c : Nat) : Nat := (s.fld .SYNC_GIVEN g c + 2 ^ 32 - s.fld .SYNC_TAKEN g c) % 2 ^ 32

/-! ### Events of one cycle (06 R200) -/

/-- An event begins a cycle of its own, or (`tied`) falls in the arithmetic-clock cycle of the event before it (log entry 27). -/
def State.inCycle (s : State) (tied : Bool) : State := if tied then s else { s with gives := [] }

/-- What the cycle's gives have done to a counter: GIVEN at the start of the cycle, and whether one was refused. -/
def State.cycleGive (s : State) (g c : Nat) : Option (Nat × Bool) :=
  (s.gives.find? (fun x => x.1 = g && x.2.1 = c)).map (fun x => x.2.2)

/-- Note a give to a counter. -/
def State.noteGive (s : State) (g c : Nat) (refused : Bool) : State :=
  let (start, old) := (s.cycleGive g c).getD (s.fld .SYNC_GIVEN g c, false)
  { s with gives := (g, c, start, old || refused) :: s.gives.filter (fun x => !(x.1 = g && x.2.1 = c)) }

/-- The available count as a TAKE or WAIT sees it: against GIVEN at the start of the cycle (06 R200, step 1). -/
def State.takeable (s : State) (g c : Nat) : Nat :=
  (((s.cycleGive g c).elim (s.fld .SYNC_GIVEN g c) Prod.fst) + 2 ^ 32 - s.fld .SYNC_TAKEN g c) % 2 ^ 32

/-- GIVEN rises. -/
def State.raiseGiven (s : State) (g c n : Nat) : State := ((s.noteGive g c false).addFld .SYNC_GIVEN n g c).progress (s.corePart g)
/-- TAKEN rises. -/
def State.raiseTaken (s : State) (g c n : Nat) : State := (s.addFld .SYNC_TAKEN n g c).progress (s.corePart g)

/-- A give of n would carry the available count above BOUND, or follows one of its cycle that was refused (06 R200, step 3). -/
def State.giveOverflows (s : State) (g c n : Nat) : Bool :=
  s.bound g c < s.available g c + n || (s.cycleGive g c).elim false Prod.snd

/-- Keep the first sync error of a core until VALID is cleared (06 Table 6.7). -/
def State.syncErrInfo (s : State) (g counter amount barrier : Nat) (isBar arrived : Bool) (rank : Nat) : State :=
  if s.flag .SYNC_ERR_INFO_VALID g then s
  else
    let s := (s.setFld .SYNC_ERR_INFO_COUNTER counter g).setFld .SYNC_ERR_INFO_AMOUNT amount g
    let s := (s.setFld .SYNC_ERR_INFO_BARRIER barrier g).setFld .SYNC_ERR_INFO_IS_BARRIER isBar.toNat g
    let s := (s.setFld .SYNC_ERR_INFO_ARRIVED arrived.toNat g).setFld .SYNC_ERR_INFO_VALID 1 g
    s.setFld .SYNC_ERR_RANK rank g

/-- A counted choice of a partition, in a tick (20 R568). -/
def State.ndEvent (s : State) (p tick : Nat) : State :=
  let n := s.fld64 .ND_EVENTS_LO .ND_EVENTS_HI p
  let s := if n = 0 then s.setFld .ND_FIRST_TICK tick p else s
  s.setFld64 .ND_EVENTS_LO .ND_EVENTS_HI (n + 1) p

/-- The counter is marked for overflow drop (20 R569). -/
def State.dropMarked (s : State) (p c : Nat) : Bool :=
  s.flag .ND_CTRL_OVERFLOW_DROP p && s.fld .ND_CTRL_DROP_LO p ≤ c && c ≤ s.fld .ND_CTRL_DROP_HI p

/-- A give to a marked counter is dropped and counted (20 R569). -/
def State.overflowDrop (s : State) (g : Nat) : State :=
  (s.addFld .SYNC_REMOTE_DROP 1 g).ndEvent (s.corePart g) (s.fld .PLAN_TICK_LO (s.corePart g))

/-- Checks 2 and 3 of R199; 0 when they pass. -/
def State.giveCode (s : State) (g c n : Nat) : Nat :=
  if s.bound g c = 0 then E_SYNC_UNDECLARED else if s.giveOverflows g c n then E_SYNC_OVERFLOW else 0

/-- A give that no core of this device makes by a GIVE: an arriving one (with its rank), or one of R576 (arrived false). -/
def State.outsideGive (s : State) (g c n : Nat) (arrived : Bool) (rank : Nat) : State :=
  let p := s.corePart g
  let code := s.giveCode g c n
  if code = 0 then s.raiseGiven g c n
  else if code = E_SYNC_OVERFLOW && s.dropMarked p c then (s.noteGive g c true).overflowDrop g
  else
    let s := (s.noteGive g c (code = E_SYNC_OVERFLOW)).addFld .SYNC_REMOTE_DROP 1 g
    if (s.pstate p).active then (s.syncErrInfo g c n 0 false arrived rank).coreFault g code 0 else s

/-- A give packet or arriving signal at the target core: dropped and counted without checks in IDLE (06 R199). -/
def State.arrivingGive (s : State) (g c n rank : Nat) : State :=
  if s.pstate (s.corePart g) = .idle then s.addFld .SYNC_REMOTE_DROP 1 g else s.outsideGive g c n true rank

/-! ### Barriers (06 R202 to R207); barrier i of partition p is instance p × 32 + i. What they send joins the packets that wait, and sets
out when the operation is done (`State.flush`). -/

/-- The cores of a partition that are members of barrier i, in ascending order. -/
def State.barMembers (s : State) (p i : Nat) : List Nat :=
  (List.range 6144).filter (fun g => s.bit .BARRIER_MEMBER i g && s.corePart g = p)

/-- LOCAL_COUNT: the member cores, which follows from the member masks (06 R202). -/
def State.localCount (s : State) (p i : Nat) : Nat := (s.barMembers p i).length

/-- This device is the barrier's home (06 R202). -/
def State.barHome (s : State) (p i : Nat) : Bool :=
  match s.runSlot p with
  | some j => s.fld .SLOT_RANK j = s.fld .BAR_RANKS_RANK_LO (p * 32 + i)
  | none => false

/-- This device lies in the barrier's range of ranks. -/
def State.barInRange (s : State) (p i : Nat) : Bool :=
  match s.runSlot p with
  | some j => s.fld .BAR_RANKS_RANK_LO (p * 32 + i) ≤ s.fld .SLOT_RANK j && s.fld .SLOT_RANK j ≤ s.fld .BAR_RANKS_RANK_HI (p * 32 + i)
  | none => false

/-- The number of devices in the range. -/
def State.barSize (s : State) (p i : Nat) : Nat :=
  s.fld .BAR_RANKS_RANK_HI (p * 32 + i) + 1 - s.fld .BAR_RANKS_RANK_LO (p * 32 + i)

/-- The home counts a device's arrival for a round: HOME_CUR for g + 1, HOME_NEXT for g + 2; any other round is dropped. -/
def State.homeCount (s : State) (p i round : Nat) (member : Bool) : State :=
  let b := p * 32 + i
  let g := s.fld .BAR_ROUND b
  let fl := bankGet 0 s.barFlags b
  if round = (g + 1) % 2 ^ 32 then
    ({ s with barFlags := bankSet 0 s.barFlags b (if member then putBit fl 0 true else fl) }.addFld .BAR_HOME_CUR 1 b).progress p
  else if round = (g + 2) % 2 ^ 32 then
    ({ s with barFlags := bankSet 0 s.barFlags b (if member then putBit fl 1 true else fl) }.addFld .BAR_HOME_NEXT 1 b).progress p
  else s.addFld .BAR_DROP 1 b

/-- The packet of a barrier arrival or release (06 R206): class 0, to the device of a rank. -/
def State.barPacket (s : State) (op : Op) (p i round rank : Nat) (member : Bool) : Pkt :=
  { op := op, part := p, tag := s.fld .PLAN_JOB_TAG p, srcRank := s.ownRank p, dstRank := rank, srcNode := 73, dstNode := 73,
    barrier := i, round := round, member := member }

/-- This device's arrival for a round: counted at the home, sent to it elsewhere (06 R206). -/
def State.deviceArrival (s : State) (p i round : Nat) (member : Bool) : State :=
  if s.barHome p i then s.homeCount p i round member
  else if (s.runSlot p).isNone then s
  else s.queueOut p (s.barPacket .barArrive p i round (s.fld .BAR_RANKS_RANK_LO (p * 32 + i)) member)

/-- An accepted arrival of a member core with arrival number n (06 R204, R206). -/
def State.acceptArrival (s : State) (p i g n : Nat) : State :=
  let b := p * 32 + i
  let s := (s.setFld .BAR_ARRIVED n g i).progress p
  let next : Bool := n ≠ (s.fld .BAR_ROUND b + 1) % 2 ^ 32
  let s := if next then s.addFld .BAR_LOCAL_NEXT 1 b else s.addFld .BAR_LOCAL_CUR 1 b
  let tally := if next then s.fld .BAR_LOCAL_NEXT b else s.fld .BAR_LOCAL_CUR b
  if tally = s.localCount p i then s.deviceArrival p i n true else s

/-- Mark the blocked macro-operation of a core done, where its wait is over. -/
def unblock (c : Core) : Core :=
  { c with barrier := none, started := c.started.map (fun r => if r.blocked && !r.done then { r with blocked := false, done := true } else r) }

/-- What a release of the new round g does to one core that waits at barrier i: a stalled arrival is accepted when its number is
g + 2, and a core blocked under R205 goes on once g has reached its number. -/
def State.releaseCore (s : State) (p i g : Nat) : State :=
  match (s.core g).barrier with
  | some (j, n, stalled) =>
    if j ≠ i then s
    else
      let round := s.fld .BAR_ROUND (p * 32 + i)
      if stalled then
        if n = (round + 2) % 2 ^ 32 then
          let s := s.acceptArrival p i g n
          let c := s.core g
          match c.started.find? (fun r => r.blocked && !r.done) with
          | some r => if (r.op.args.lookup .waitFlag).getD 0 = 0 then s.setCore g (unblock c)
                      else s.setCore g { c with barrier := some (i, n, false) }
          | none => s.setCore g { c with barrier := none }
        else s
      else if reached 32 round n then s.setCore g (unblock (s.core g)) else s
  | none => s

/-- A release of round g + 1 takes effect: the tallies move up, waiting cores go on, and a device with no member sends its arrival
for the following round (06 R206, R207). -/
def State.applyRelease (s : State) (p i : Nat) : State :=
  let b := p * 32 + i
  let s := (s.addFld .BAR_ROUND 1 b).progress p
  let s := (s.setFld .BAR_LOCAL_CUR (s.fld .BAR_LOCAL_NEXT b) b).setFld .BAR_LOCAL_NEXT 0 b
  let s := (s.setFld .BAR_HOME_CUR (s.fld .BAR_HOME_NEXT b) b).setFld .BAR_HOME_NEXT 0 b
  let s := { s with barFlags := bankSet 0 s.barFlags b (bankGet 0 s.barFlags b / 2) }
  let s := (s.partCores p).foldl (fun s e => s.releaseCore p i e.1) s
  if s.barInRange p i && s.localCount p i = 0 then s.deviceArrival p i ((s.fld .BAR_ROUND b + 1) % 2 ^ 32) false else s

/-- The home's tally for round g + 1 is full, with an arrival from a device with a member core (06 R206). -/
def State.barFull (s : State) (p i : Nat) : Bool :=
  s.barHome p i && s.fld .BAR_HOME_CUR (p * 32 + i) = s.barSize p i && (bankGet 0 s.barFlags (p * 32 + i)).testBit 0

/-- The home completes rounds while its tally is full: a release to every other rank, then to itself. Each pass completes one
round; `n` bounds the passes, and one arrival can complete no more than two. -/
def State.settleBarrier (s : State) (p i : Nat) : Nat → State
  | 0 => s
  | n + 1 =>
    if s.barFull p i then
      let lo := s.fld .BAR_RANKS_RANK_LO (p * 32 + i)
      let round := (s.fld .BAR_ROUND (p * 32 + i) + 1) % 2 ^ 32
      let s := ((List.range (s.barSize p i)).drop 1).foldl (fun s d => s.queueOut p (s.barPacket .barRelease p i round (lo + d) false)) s
      (s.applyRelease p i).settleBarrier p i n
    else s

/-- The arrivals for round 1 that a device without members sends when tick 0 is granted (06 R207). -/
def State.startBarriers (s : State) (p : Nat) : State :=
  ((List.range 32).foldl (fun s i =>
    if s.barInRange p i && s.localCount p i = 0
    then (s.deviceArrival p i 1 false).settleBarrier p i 2 else s) s).flush

/-- Give a core a barrier mask (06 R202). -/
def State.setMembers (s : State) (g mask : Nat) : State := s.setFld .BARRIER_MEMBER mask g

/-- The barrier state of a partition at zero (06 R190). -/
def State.zeroBarriers (s : State) (p : Nat) : State :=
  let bars : List Fld := [.BAR_ROUND, .BAR_LOCAL_CUR, .BAR_LOCAL_NEXT, .BAR_HOME_CUR, .BAR_HOME_NEXT]
  let s := s.dropFlds (fun f i => bars.any (fun x => x.code = f) && i / 32 = p)
  { s with barFlags := bankDrop (fun b => b / 32 = p) s.barFlags }

/-- The macro-operations of a core that were issued are ended without completing, and their tokens released. -/
def State.endOps (s : State) (g : Nat) : State :=
  let s := { s with tokens := bankSet [] s.tokens (g / 96) ((bankGet [] s.tokens (g / 96)).filter (fun k => k.2.1 ≠ g)) }
  s.setCore g { s.core g with queue := [], started := [], token := none, barrier := none }

/-- GIVEN, TAKEN and the barrier state of a partition at zero; no macro-operation is left that waits for them (06 R190). -/
def State.zeroSync (s : State) (p : Nat) : State :=
  let cores : List Fld := [.SYNC_GIVEN, .SYNC_TAKEN, .BAR_ARRIVED]
  let s := (s.dropFlds (fun f g => cores.any (fun x => x.code = f) && s.corePart g = p)).zeroBarriers p
  (s.partCores p).foldl (fun s e => s.endOps e.1) s

end Sys2Proof.Machine
end

