-- ==== Sys2Proof/Machine/ClearOps.lean ====
section
/-! DEFINITION. Machine/ClearOps.lean: filling cores and pool groups with zero (05 R182, Table 5.7). -/
namespace Sys2Proof.Machine
open Sys2Proof

/-- The memories of some cores filled with zero: banks, handle table, windows, sync counters and their declarations, parameter
registers and ARITH_TRAP (05 Table 5.7; 06 R191, R192; 04 R145). -/
def State.clearCores (s : State) (m : Nat → Bool) : State :=
  let fs : List Fld := [.SYNC_GIVEN, .SYNC_TAKEN, .BAR_ARRIVED, .PRM, .ARITH_TRAP]
  let s := s.dropFlds (fun f g => fs.any (fun x => x.code = f) && m g)
  let s := { s with mem.spad := bankDrop (fun a => m (a / 524288)) s.mem.spad }
  (s.cores.filter (fun e => m e.1)).foldl (fun s e =>
    s.setCore e.1 { e.2 with handles := [], windows := [], decls := [], bad := [], corrections := [] }) s

/-- Some pool groups filled with zero, and the owner records of their banks (05 Table 5.7). -/
def State.clearGroups (s : State) (m : Nat → Bool) : State :=
  { s with mem.pool := bankDrop (fun a => m (a / 50331648)) s.mem.pool,
           poolBad := bankDrop (fun w => m (w / 1572864)) s.poolBad,
           owners := bankDrop (fun b => m (b / 32)) s.owners }

end Sys2Proof.Machine
end

