-- ==== Sys2Proof/Machine/QueueOps.lean ====
section
/-! DEFINITION. Machine/QueueOps.lean: host queues, their rings and errors (14 R435 to R440, R446, R452). -/
namespace Sys2Proof.Machine
open Sys2Proof

def State.queue (s : State) (q : Nat) : Queue := bankGet {} s.host.queues q
def State.setQueue (s : State) (q : Nat) (x : Queue) : State :=
  { s with host := { s.host with queues := bankSet {} s.host.queues q x } }

/-- The party's accesses end at configuration space: host software's while Thimble is in ROM recovery (14 R431). -/
def State.hostShut (s : State) (party : Party) : Bool := party ≠ .mgmt && s.thimble.romRecovery

/-- Q_STATUS.STATE codes (14 Table 14.13). -/
def qDisabled : Nat := 0
def qRunning : Nat := 1
def qStopping : Nat := 2
def qError : Nat := 3
def State.qState (s : State) (q : Nat) : Nat := s.fld .Q_STATUS_STATE q

/-- Queue q is a CMD, REQ or RES queue, and its partition (14 Table 14.6). -/
def qIsCmd (q : Nat) : Bool := q < 16
def qIsReq (q : Nat) : Bool := 16 ≤ q && q < 80
def qIsRes (q : Nat) : Bool := 80 ≤ q && q < 96
def qPart (q : Nat) : Nat := if q < 16 then q else if q < 80 then (q - 16) / 4 else q - 80

/-- Bytes of an entry (14 Table 14.6). -/
def qEntry (q : Nat) : Nat := if qIsCmd q then 64 else if qIsReq q then 128 else 32

/-- Entries of the ring (14 R436). -/
def State.qSize (s : State) (q : Nat) : Nat := 2 ^ s.fld .Q_CFG_SIZE_LOG2 q

/-- Entries in use: (PI − CI) mod 65,536 (14 R436). -/
def State.qUsed (s : State) (q : Nat) : Nat := (s.fld .Q_INDEX_PI q + 65536 - s.fld .Q_INDEX_CI q) % 65536

/-- Host address of the entry of index i; bits [5:0] of Q_BASE are ignored (14 R436). -/
def State.qAddr (s : State) (q i : Nat) : Nat := s.fld64 .Q_BASE_LO .Q_BASE_HI q / 64 * 64 + i % s.qSize q * qEntry q

/-- The queues may fetch and write: Bus Master Enable is set and the function is not in D3hot (14 R440, Table 14.4). -/
def State.dma (s : State) : Bool := s.host.busMaster && !s.host.d3

/-- HOST_ERROR keeps the first error and its queue, and raises vector 56 (14 R452, Tables 14.10, 14.13). -/
def State.hostError (s : State) (code : Nat) (queue : Nat := 0) : State :=
  if s.flag .HOST_ERROR_INFO_VALID then s.recordValid .HOST_ERROR_CODE .HOST_ERROR_MULTI .HOST_ERROR_INFO_VALID code
  else ((s.recordValid .HOST_ERROR_CODE .HOST_ERROR_MULTI .HOST_ERROR_INFO_VALID code).setFld .HOST_ERROR_INFO_QUEUE queue).raiseVector 56

/-- A code raised by a queue (14 R452). -/
def State.queueError (s : State) (q code : Nat) : State := (s.setFld .Q_STATUS_CODE code q).hostError code q

/-- A queue enters ERROR: vector 56 (14 R440, Table 14.10). -/
def State.queueToError (s : State) (q code : Nat) : State :=
  ((s.setFld .Q_STATUS_STATE qError q).queueError q code).raiseVector 56

/-- Q_SHADOW is not zero; its bits [2:0] are ignored (14 R438, Table 14.13). -/
def State.shadowAddr (s : State) (q : Nat) : Nat := s.fld64 .Q_SHADOW_LO .Q_SHADOW_HI q / 8 * 8

/-- The device's own index has changed: a shadow write is due when there is a shadow (14 R438). -/
def State.indexMoved (s : State) (q : Nat) : State :=
  if s.shadowAddr q = 0 then s else s.setQueue q { s.queue q with shadowDue := true }

/-- The CKID with which a bound queue of the partition writes (14 R450). -/
def State.partTee (s : State) (p : Nat) : Option Nat :=
  if s.flag .SEC_PART_QUEUES_BOUND p then (s.host.ckids.find? (fun e => e.2 = p + 1)).map Prod.fst else none
def State.queueTee (s : State) (q : Nat) : Option Nat := if s.flag .Q_STATUS_BOUND q then s.partTee (qPart q) else none

/-- The queue's vector: 24 + q of a CMD queue, 40 + p of a RES ring (14 Table 14.10). -/
def qVector (q : Nat) : Nat := if qIsCmd q then 24 + q else q - 40

/-- Issue the queue's interrupt, after the shadow write that announces its cause where one is due (14 R438). -/
def State.queueIrq (s : State) (q : Nat) : State :=
  if (s.queue q).shadowDue then s.setQueue q { s.queue q with irqDue := true } else s.raiseVector (qVector q)

/-- The RES ring of partition p can take a record (14 R445, R440). -/
def State.ringRoom (s : State) (p : Nat) : Bool := s.qState (80 + p) = qRunning && s.qUsed (80 + p) < s.qSize (80 + p) && s.dma

end Sys2Proof.Machine
end

