-- ==== Sys2Proof/Machine/SrvOps.lean ====
section
/-! DEFINITION. Machine/SrvOps.lean: what other units ask of the serving unit (13 R402, R410; 03 R104; 14 R445). -/
namespace Sys2Proof.Machine
open Sys2Proof

def State.srv (s : State) (p : Nat) : Srv := bankGet {} s.srvs p
def State.setSrv (s : State) (p : Nat) (x : Srv) : State := { s with srvs := bankSet {} s.srvs p x }

/-- SRV_CFG.LAG: 0 acts as 8 (13 Table 13.12). -/
def State.srvLag (s : State) (p : Nat) : Nat := if s.fld .SRV_CFG_LAG p = 0 then 8 else s.fld .SRV_CFG_LAG p

/-- The partition is admitted in ARRIVAL mode; a partition that exchanges runs in ORDERED mode (13 R402, R404). -/
def State.arrivalMode (s : State) (p : Nat) : Bool := s.flag .SRV_CFG_ADMIT p && s.fld .EXCHANGE_PORTS p = 0

/-- A record of the partition waits: it cannot be written (14 R445). -/
def State.recordWaits (s : State) (p : Nat) : Bool := !(s.srv p).records.isEmpty && !s.ringRoom p

/-- The first condition of R410: tick v − 1 has been granted, or the partition is LOADED or ARMED for v = 0. A partition that was
started before its first build still builds tick 0 (log entry 36). -/
def State.buildGranted (s : State) (p : Nat) : Bool :=
  let v := (s.srv p).next
  let st := s.pstate p
  if v = 0 then st = .loaded || st = .armed || st.active else st.active && v ≤ s.planTick p + 1

/-- The build waits on SRV_ADMIT_THROUGH (13 R402). -/
def State.srvWaitHost (s : State) (p : Nat) : Bool :=
  s.buildGranted p && (s.srv p).building.isNone && !s.arrivalMode p && (s.srv p).through < (s.srv p).next

def Placement.needs (x : Placement) : Bool := x.gen || x.last

/-- The build waits for samples of the tick LAG before (13 R410). -/
def State.srvWaitSample (s : State) (p : Nat) : Bool :=
  let x := s.srv p
  s.buildGranted p && x.building.isNone && !x.places.all (fun y => y.tick + s.srvLag p ≠ x.next || !y.needs || y.result.isSome)

/-- The value of slot register n of core g in the bank of a tick; none while that bank is not published (03 R104). -/
def State.slotReg (s : State) (p tick g n : Nat) : Option Nat :=
  match (s.srv p).banks.lookup tick with
  | none => none
  | some b => some ((b.lookup (g * 16 + n)).getD 0)

/-- Take into use every promised value of SRV_ADMIT_THROUGH whose descriptors have all been fetched (13 R402). -/
def usePromises (x : Srv) : Srv :=
  let due : Nat × List (Nat × Nat) → Bool := fun e => e.2.all (fun o => o.2 = 0)
  { x with through := ((x.promises.filter due).map (fun e => e.1)).foldl max x.through, promises := x.promises.filter (fun e => !due e) }

/-- Change what is owed by a queue in every promise. -/
def owe (x : Srv) (q : Nat) (f : Nat → Nat) : Srv :=
  usePromises { x with promises := x.promises.map (fun e => (e.1, e.2.map (fun o => if o.1 = q then (o.1, f o.2) else o))) }

/-- A queue becomes DISABLED; a descriptor it never fetched holds no build up (14 R439). -/
def State.queueOff (s : State) (q : Nat) : State :=
  let s := s.setFld .Q_STATUS_STATE qDisabled q
  if qIsReq q then s.setSrv (qPart q) (owe (s.srv (qPart q)) q (fun _ => 0)) else s

/-- The fetch or command in progress of a STOPPING queue is finished: it becomes DISABLED, or RUNNING with its indices kept when ENABLE
was written meanwhile (14 R439). -/
def State.queueSettle (s : State) (q : Nat) : State :=
  if s.qState q ≠ qStopping then s
  else if (s.queue q).restart then (s.setQueue q { s.queue q with restart := false }).setFld .Q_STATUS_STATE qRunning q
  else s.queueOff q

end Sys2Proof.Machine
end

