-- ==== Sys2Proof/Machine/Cause.lean ====
section
/-! DEFINITION. Machine/Cause.lean: what blocks a partition: the hem, the hold cap and the HOLD_CAUSE codes (01 R20 to R36). -/
namespace Sys2Proof.Machine
open Sys2Proof

/-- The full number of the tick whose low 32 bits are given, nearest to a tick that the partition knows (01 R26). -/
def widenTick (near low : Nat) : Nat :=
  let up := (low + 2 ^ 32 - near % 2 ^ 32) % 2 ^ 32
  if up < 2 ^ 31 then near + up else near - (2 ^ 32 - up)

/-- c(n) + 1 for the neighbour on a port (01 R20). -/
def State.reportedTicks (s : State) (p n : Nat) : Nat := bankGet 0 (s.part p).reported n

/-- Ticks completed by the slowest neighbour, and by the fastest. -/
def State.slowest (s : State) (p : Nat) : Option Nat := ((s.exchangePorts p).map (s.reportedTicks p)).min?
def State.fastest (s : State) (p : Nat) : Option Nat := ((s.exchangePorts p).map (s.reportedTicks p)).max?

/-- The hem condition for granting tick t + 1: t − c(n) ≤ HEM_DEPTH for every exchange neighbour (01 R21). -/
def State.hemOk (s : State) (p t : Nat) : Bool :=
  (s.exchangePorts p).all (fun n => t + 1 ≤ s.fld .HEM_DEPTH p + s.reportedTicks p n)

/-- The live hold entry with the lowest h (01 R28). -/
def lowestHold (near : Nat) : List HoldEntry → Option HoldEntry
  | [] => none
  | e :: t =>
    if !e.live then lowestHold near t
    else match lowestHold near t with
      | none => some e
      | some f => if widenTick near f.tick < widenTick near e.tick then some f else some e

def State.lowestHold (s : State) (p : Nat) : Option HoldEntry := Sys2Proof.Machine.lowestHold (s.planTick p) (s.part p).holds

/-- The cap allows tick t (01 R28). -/
def State.capAllows (s : State) (p t : Nat) : Bool :=
  match s.lowestHold p with
  | none => true
  | some e => t ≤ widenTick (s.planTick p) e.tick + s.fld .HEM_DEPTH p

/-- The next grant is denied by the hem or the cap (01 R37). -/
def State.grantDenied (s : State) (p : Nat) : Bool :=
  let t := s.planTick p
  s.pstate p = .running && t < (s.part p).completed && (!s.hemOk p t || !s.capAllows p (t + 1))

/-- HOLD_COUNT counts a transition into that condition (01 R37). -/
def State.noteDenied (s : State) (p : Nat) : State :=
  let now := s.grantDenied p
  if now = (s.part p).denied then s
  else
    let s := s.setPart p { s.part p with denied := now }
    if now then s.addFld .HOLD_COUNT 1 p else s

/-- The core has completed tick t: it has passed its TICK, or ended, and no macro-operation of tick t or before is outstanding
(03 R85). A core without instructions has no part in the plan (log entry 12). -/
def Core.doneTick (c : Core) (t : Nat) : Bool :=
  c.prog.isEmpty || ((c.cp = .ended || t < c.tick) && c.queue.all (fun o => t < o.tick) && c.started.all (fun r => t < r.op.tick))

/-- The arrivals of tick t have landed (01 R14, 06 R189). -/
def State.landed (s : State) (p t : Nat) : Bool :=
  (s.part p).arrivals.all (fun a => a.tick ≠ t || reached 32 (s.fld .SYNC_GIVEN a.core a.counter) a.target)

/-- Both conditions of R15 hold for tick t. -/
def State.tickReady (s : State) (p t : Nat) : Bool := (s.partCores p).all (fun e => e.2.doneTick t) && s.landed p t

/-- Heavy families hold a power token (03 Table 3.3). -/
def isHeavy : Family → Bool
  | .matmul | .attn => true
  | _ => false

/-- The dies of a partition. -/
def State.partDies (s : State) (p : Nat) : List Nat := (List.range 64).filter (fun nn => s.diePart nn = p)

/-- A neighbouring partition is being re-cut on a shared die resource: the partition runs, is out of scope, and the shared tables are being
switched (01 Table 1.5, 02 Table 2.8). -/
def State.recutNear (s : State) (p : Nat) : Bool := (s.pstate p).active && s.sharedPaused && !s.bit .ARM_SCOPE p

/-- A tick is in progress and not complete. -/
def State.tickOpen (s : State) (p : Nat) : Bool :=
  (s.pstate p = .running || s.pstate p = .stopping) && (s.part p).completed ≤ s.planTick p

/-- The ports by which an arrival of the tick may still come: those of the job while an arrival whose declared producer is on another
device has not landed (06 R193; log entry 71). -/
def State.arrivalPorts (s : State) (p : Nat) : List Nat :=
  let t := s.planTick p
  let due : Bool := (s.part p).arrivals.any (fun a => a.tick = t && !reached 32 (s.fld .SYNC_GIVEN a.core a.counter) a.target &&
    dKind (s.decl a.core a.counter) = 0 && dRank (s.decl a.core a.counter) ≠ s.ownRank p)
  if s.tickOpen p && due then (List.range 32).filter (fun n => (s.partPorts p).contains n || (s.exchangePorts p).contains n) else []

/-- An arrival of the tick comes from the Plinth: a step of a replacement, or a MOVE that reads an object (01 Table 1.5). -/
def State.plinthLoads (s : State) (p : Nat) : Bool :=
  (s.pstate p).active &&
    (s.fld .REPL_STATUS_STATE p = 2 || (s.partCores p).any (fun e => e.2.xfers.any (fun x => (x.args.lookup .srcKind).getD 0 = 4)))

/-- Accesses of a partition that wait at a stack, each with the code it presents (11 R366): the rinse window, the refresh window of its
pseudo-channel, the queue. -/
def State.stackWaits (s : State) (p : Nat) : List Nat :=
  s.hbmStacks.flatMap (fun e => e.2.waiting.filterMap (fun a =>
    match a with
    | .pkt k _ =>
      if k.part ≠ p then none
      else if s.stackState e.1 = stackRinse then some 0x0D
      else if s.refreshing e.1 (pseudoCh k.addr) then some 0x0C
      else some 0x08
    | _ => none))

/-- A macro-operation of the partition waits at the level of a code: its injection waits on a full buffer or for its epoch (07 R233,
09 R303), or arbitration that is timing holds it up (log entry 5). -/
def State.levelStalled (s : State) (p code : Nat) : Bool :=
  let ops := (s.partCores p).flatMap (fun e => e.2.started.filter (fun r => !r.done && !r.blocked))
  ops.any (fun r => r.level = code) || (!ops.isEmpty && s.tickOpen p && Config.levelWait s.raw p code)

/-- A pool request of an earlier tick withholds the grant (01 R16). -/
def State.poolDelays (s : State) (p : Nat) : Bool :=
  let t := s.planTick p
  s.pstate p = .running && t < (s.part p).completed && !(s.part p).poolPending.all (fun k => t ≤ k)

/-- A level below is stalled: a code from 0x05 to 0x09 is present (01 Table 1.5). -/
def State.anyLevel (s : State) (p : Nat) : Bool :=
  [5, 6, 7, 8, 9].any (s.levelStalled p) || s.poolDelays p || !(s.stackWaits p).isEmpty

/-- The condition of a HOLD_CAUSE code is present (01 Table 1.5; which arrivals and ports the codes 0x02, 0x0A and 0x0B mean: log entry 71). -/
def State.causePresent (s : State) (p code : Nat) : Bool :=
  let st := s.pstate p
  let run : Bool := st = .running || st = .stopping
  let t := s.planTick p
  let open_ := s.tickOpen p
  let cores := s.partCores p
  let replaying : Bool := (s.arrivalPorts p).any (fun n => s.flag .LINK_STATUS_REPLAYING n)
  let darning : Bool := (s.arrivalPorts p).any (fun n => s.fld .LINK_STATUS_STATE n = linkRetrain || s.flag .LINK_STATUS_CAL_ACTIVE n ||
    (bankGet {} s.ports n).seqKind ≠ .idle)
  match code with
  | 0x01 => open_ && cores.any (fun e => e.2.started.any (fun r => r.op.tick ≤ t && !r.blocked)) && !s.anyLevel p
  | 0x02 => open_ && !s.landed p t && !replaying && !darning && !s.plinthLoads p
  | 0x03 => st.active && cores.any (fun e => e.2.started.any (fun r => r.blocked && e.2.barrier = none) || (e.2.barrier.elim false (fun b => !b.2.2)))
  | 0x04 => st.active && cores.any (fun e => e.2.barrier.elim false (fun b => b.2.2))
  | 0x05 => s.levelStalled p 0x05
  | 0x06 => s.levelStalled p 0x06 || s.poolDelays p
  | 0x07 => s.levelStalled p 0x07
  | 0x08 => s.levelStalled p 0x08 || (s.stackWaits p).contains 0x08
  | 0x09 => s.levelStalled p 0x09 || (open_ && s.outbox.any (fun e => e.1 = p && s.offDevice p e.2 && s.injectionWaits p))
  | 0x0A => replaying
  | 0x0B => darning
  | 0x0C => (s.stackWaits p).contains 0x0C
  | 0x0D => (s.stackWaits p).contains 0x0D
  | 0x0E => st.active && (s.partDies p).any (fun nn => s.dieStep .THERM_DIE_STEP nn ≠ 0)
  | 0x0F => open_ && cores.any (fun e => e.2.queue.any (fun o => isHeavy o.fam && e.2.token.elim true (fun k => k.1 ≠ o.id)))
  | 0x10 => (s.partDies p).any (fun nn => (s.domain nn).st = .waking || ((s.domain nn).st = .discharging && (s.domain nn).want))
  | 0x11 => (s.partDies p).any s.stepping
  | 0x12 => s.plinthLoads p
  | 0x13 => run && cores.any (fun e => e.2.slotWait)
  | 0x14 => run && (s.srvWaitHost p || s.recordWaits p)
  | 0x15 => s.recutNear p
  | 0x16 => st = .brk
  | 0x17 => st = .fault
  | _ => false

/-- The highest local code present; 0 for none (01 R36). -/
def State.localCause (s : State) (p : Nat) : Nat := ((List.range 24).reverse.find? (s.causePresent p)).getD 0

/-- HOLD_CAUSE_SET.BITS: field bit n − 1 stands for code n (01 R36). -/
def State.causeSet (s : State) (p : Nat) : Nat := ((List.range 23).map (fun k => if s.causePresent p (k + 1) then 2 ^ k else 0)).sum

/-- HOLD_CAUSE.CODE, REMOTE and HOPS (01 R36). -/
def State.holdCause (s : State) (p : Nat) : Nat × Bool × Nat :=
  let c := s.localCause p
  if c ≠ 0 then (c, false, 0)
  else match s.lowestHold p with
    | some e => (e.cause, true, e.hops)
    | none => (0, false, 0)

end Sys2Proof.Machine
end

