-- ==== Sys2Proof/Machine/Plan.lean ====
section
/-! DEFINITION. Machine/Plan.lean: the plan sequencer: reports, holds, releases, fault stops, grants, the partition state machine,
plan settings and power tokens (01). -/
namespace Sys2Proof.Machine
open Sys2Proof

/-! ### Leaving states -/

/-- A partition becomes STOPPED: its hold table is emptied and vector 8 + p raised (01 R33, 14 Table 14.10). -/
def State.stop (s : State) (p : Nat) : State := (((s.setPState p .stopped).clearHolds p).leaveActive p).raiseVector (8 + p)

/-- Refuse a command or write of a partition (01 R38). -/
def State.cmdReject (s : State) (p : Nat) : State := s.setFld .PLAN_STATUS_CMD_REJECT 1 p

/-- A clear of partition p runs (05 R183). -/
def State.clearing (s : State) (p : Nat) : Bool := s.bit .SPAD_CLEAR_STATUS_BUSY p

/-- A party that does not own the control domain is turned away with E_MGMT_NOT_OWNER (16 R492). -/
def State.notOwner (s : State) : State := s.recordValid .MGMT_ERROR_CODE .MGMT_ERROR_MULTI .MGMT_ERROR_VALID E_MGMT_NOT_OWNER

/-- The party owns the PLAN domain (16 Table 16.5). -/
def State.ownsPlan (s : State) (party : Party) : Bool := (party = .mgmt) = s.flag .CONTROL_OWNER_PLAN_MGMT

/-! ### Granting ticks (01 R16 to R18) -/

/-- The pool groups a partition owns (02 Table 2.11). -/
def State.ownsGroup (s : State) (p g : Nat) : Bool :=
  if g < 32 then s.bit .ARM_PART_POOL_LO g p else s.bit .ARM_PART_POOL_HI (g - 32) p

/-- Empty the owner records of parity k, or of both, of the banks of a partition's pool groups (05 R177). -/
def State.emptyOwners (s : State) (p : Nat) (parity : Option Nat) : State :=
  { s with owners := bankDrop (fun b => s.ownsGroup p (b / 32) && (parity.elim true (fun k => b % 2 = k))) s.owners }

/-- Tick t is granted: it is the tick in progress, the pool banks empty their record of its parity, the replacement's progress is
noted, and traced cores make an entry (01 R17, 05 R177, 12 R395, 03 Table 3.7). -/
def State.grant (s : State) (p t : Nat) : State :=
  let s := (s.setFld64 .PLAN_TICK_LO .PLAN_TICK_HI t p).emptyOwners p (some (t % 2))
  let x := s.part p
  let layer := s.fld .REPL_DONE_LAYER_LAYER p + s.fld .REPL_DONE_LAYER_VALID p * 2 ^ 31
  let s := s.setPart p { x with denied := false, noProg := 0, layerAt := bankSet 0 (x.layerAt.filter (fun e => t < e.1 + 16)) t layer }
  ((s.partDies p).flatMap (fun nn => (List.range 96).map (fun i => nn * 96 + i))).foldl (fun s g => s.trace g 5 0) s

/-- The macro-operations of a core that were issued are ended without completing, and their transfers discarded. -/
def State.sleeveOps (s : State) (g : Nat) : State :=
  let s := s.endOps g
  s.setCore g { s.core g with xfers := [] }

/-- What the grant of tick 0 resets in a core (03 R81, 04 R144). -/
def State.startCore (s : State) (g : Nat) : State :=
  let fs : List Fld := [.CP_PC, .SCALAR_LO, .SCALAR_HI, .MACRO_COUNT_LO, .MACRO_COUNT_HI, .ARITH_FLAGS_SAT, .ARITH_FLAGS_LOW, .ARITH_FLAGS_OVF,
    .ARITH_FLAGS_UNF, .ARITH_FLAGS_NAN, .ARITH_FLAGS_INF, .ARITH_FLAGS_INVALID, .ARITH_FLAGS_DIV0, .ARITH_FLAGS_SCALE_NAN,
    .ARITH_FIRST_TAG_TAG, .ARITH_FIRST_TAG_VALID]
  let s := s.dropFlds (fun f i => i = g && fs.any (fun x => x.code = f))
  let c := s.core g
  let s := { s with tokens := bankSet [] s.tokens (g / 96) ((bankGet [] s.tokens (g / 96)).filter (fun k => k.2.1 ≠ g)) }
  s.setCore g { c with cp := .run, ranOut := false, tick := 0, loops := [], queue := [], started := [], token := none, fired := 0, resume := false,
                       barrier := none, xfers := [], acc := {}, slotWait := false, lastTick := 0, tagAt := none }

/-- Send HOLD for tick h with a cause, once per h (01 R27). -/
def State.sendHold (s : State) (p h cause : Nat) : State :=
  if (s.part p).sentHolds.contains h then s
  else
    let x := s.part p
    (s.sendCtl (s.partPorts p) { type := .hold, tag := s.fld .PLAN_JOB_TAG p, origin := s.ownRank p, tick := h % 2 ^ 32, cause := cause }).setPart p
      { x with sentHolds := x.sentHolds ++ [h] }

/-- A partition that runs is late at every tick h that it has not completed while a neighbour has completed h + HEM_DEPTH: it sends
HOLD for each, once (01 R27), with HOLD_CAUSE.CODE (Table 1.3). -/
def State.checkLate (s : State) (p : Nat) : State :=
  if (s.pstate p).active then
    match s.fastest p with
    | none => s
    | some f =>
      let done := (s.part p).completed
      let hem := s.fld .HEM_DEPTH p
      (List.range (f - hem - done)).foldl (fun s k => s.sendHold p (done + k) (s.holdCause p).1) s
  else s

/-- Tick 0 is granted, with an empty hold table (01 R18, R33, R37; 03 R81; 05 R177; 06 R207; 13 R404). -/
def State.grantZero (s : State) (p : Nat) : State :=
  let s := (s.setPState p .running).clearHolds p
  let s := (((s.setFld64 .HOLD_TIME_LO .HOLD_TIME_HI 0 p).setFld .HOLD_COUNT 0 p).emptyOwners p none)
  let s := (s.partCores p).foldl (fun s e => s.startCore e.1) s
  let s := s.setPart p { s.part p with completed := 0, poolPending := [], layerAt := [], denied := false, abortAt := 0 }
  let s := if s.flag .SRV_CFG_ADMIT p && s.fld .EXCHANGE_PORTS p ≠ 0 then s.setFld .SRV_STATUS_MODE_FORCED 1 p else s
  let s := s.setFld64 .SRV_TOKENS_LO .SRV_TOKENS_HI 0 p
  ((s.grant p 0).startBarriers p).checkLate p

/-- Tick 0 would be granted: it is when every exchange port is UP or RETRAIN; otherwise the partition is (back) in LOADED and
E_PLAN_PORT_DOWN is recorded (01 R18, Table 1.6). -/
def State.tryStart (s : State) (p : Nat) : State :=
  if (s.exchangePorts p).all s.portLive then s.grantZero p
  else (s.setPState p .loaded).planError p E_PLAN_PORT_DOWN

/-! ### Completing a tick (01 R15, R19, R30) -/

/-- The report of a completed tick, on every exchange port (01 R19). -/
def State.sendReport (s : State) (p t : Nat) (stopped : Bool) : State :=
  s.sendCtl (s.exchangePorts p) { type := .report, tag := s.fld .PLAN_JOB_TAG p, origin := s.ownRank p, tick := t % 2 ^ 32,
                                  hem := s.fld .HEM_DEPTH p, stopped := stopped }

/-- The RELEASE for a hold this device sent for tick t; its CAUSE is HOLD_CAUSE.CODE, as that of every type but REPORT (01 R30,
Table 1.3). -/
def State.sendRelease (s : State) (p t : Nat) : State :=
  if (s.part p).sentHolds.contains t then
    let x := s.part p
    (s.sendCtl (s.partPorts p) { type := .release, tag := s.fld .PLAN_JOB_TAG p, origin := s.ownRank p, tick := t % 2 ^ 32,
                                 cause := (s.holdCause p).1 }).setPart p
      { x with sentHolds := x.sentHolds.filter (fun h => h ≠ t) }
  else s

/-- TICK_COMPLETE: when both conditions of R15 hold, tick t is complete: report, release, and the stop that waits for it. A STOP
written while the partition is held finds the tick complete: it stops at once, with its report (01 R40; log entry 41). -/
def execTickComplete (p : Nat) (s : State) : Host.Outcome State Fault Refusal :=
  let t := s.planTick p
  if (s.pstate p).active && (s.part p).completed ≤ t && s.tickReady p t then
    let x := s.part p
    let s := (s.setPart p { x with completed := t + 1, noProg := 0 }).countUp p 0x02 0 0 1
    let st := s.pstate p
    let stops : Bool := st = .stopping ||
      (st = .running && s.flag .PLAN_CTRL_STOP_AT_TICK p && t = s.fld64 .PLAN_STOP_TICK_LO .PLAN_STOP_TICK_HI p)
    let s := (s.sendReport p t stops).sendRelease p t
    .next (if stops then s.stop p else s.noteDenied p)
  else if s.pstate p = .stopping && t < (s.part p).completed then .next ((s.sendReport p t true).stop p)
  else .next s

/-- The conditions of R16 for granting the next tick; a replacement step that is due or under way withholds it (12 R393). -/
def State.grantable (s : State) (p : Nat) : Bool :=
  let t := s.planTick p
  (s.pstate p = .running) && t < (s.part p).completed && s.hemOk p t && s.capAllows p (t + 1)
    && (s.part p).poolPending.all (fun k => t ≤ k) && !s.replDue p
    && !(s.fld .REPL_STATUS_STATE p = replWriting && !(s.repl p).finishing)

/-- TICK_GRANT: tick t + 1 is granted when every condition of R16 holds; while the hem or the cap denies it the partition counts as
held (01 R37). -/
def execTickGrant (p : Nat) (s : State) : Host.Outcome State Fault Refusal :=
  .next (if s.grantable p then s.grant p (s.planTick p + 1) else s.noteDenied p)

/-! ### Receiving plan control flits (01 R20 to R32) -/

/-- The flit's job is not carried on the arrival port: dropped and counted (09 R301). -/
def State.foreignCtl (s : State) (port tag : Nat) : State := (s.addFld .ROUTE_FOREIGN_CTL 1 port).setFld .ROUTE_FOREIGN_TAG tag port

/-- Forward a flit on every port of the job but the arrival port, with HOPS incremented, unless HOPS has reached HOLD_HOPS
(01 R29). -/
def State.forwardCtl (s : State) (j port : Nat) (f : CtlFlit) : State :=
  if s.hopLimit ≤ f.hops then s
  else s.sendCtl ((bitsOf (s.slotPorts j) 32).filter (fun n => n ≠ port)) { f with hops := f.hops + 1 }

/-- Deal with a flit by its slot: foreign, in transit, or of a job that partition p runs. -/
def State.onFlit (s : State) (port : Nat) (f : CtlFlit) (transit : Nat → State) (run : Nat → Nat → State) : State :=
  match s.jobSlot f.tag with
  | none => s.foreignCtl port f.tag
  | some j =>
    if !(s.slotPorts j).testBit port then s.foreignCtl port f.tag
    else if s.fld .SLOT_CFG_KIND j = 1 then transit j
    else run j (s.fld .SLOT_CFG_PARTITION j)

/-- REPORT_RECEIVE: taken only from an exchange port of a partition that runs the job; a different HEM_DEPTH faults a running
partition and is ignored otherwise (01 R20, R23). -/
def execReportReceive (port : Nat) (f : CtlFlit) (s : State) : Host.Outcome State Fault Refusal :=
  .next (s.onFlit port f (fun _ => s) (fun _ p =>
    if !(s.fld .EXCHANGE_PORTS p).testBit port then s
    else if f.hem ≠ s.fld .HEM_DEPTH p then
      if (s.pstate p).active then s.enterFault p E_PLAN_HEM_MISMATCH else s
    else
      let x := s.part p
      let n := widenTick (max (s.planTick p) (bankGet 0 x.reported port - 1)) f.tick + 1
      (s.setPart p { x with reported := bankSet 0 x.reported port (max n (bankGet 0 x.reported port)) }).checkLate p |>.noteDenied p))

/-- The entry has the flit's key (01 R29). -/
def HoldEntry.hasKey (e : HoldEntry) (f : CtlFlit) : Bool := e.tag = f.tag && e.origin = f.origin && e.tick = f.tick

/-- The place of the oldest released entry. -/
def dropOldestReleased (hs : List HoldEntry) : List HoldEntry :=
  match (hs.filter (fun e => !e.live)).map HoldEntry.since |>.min? with
  | none => hs
  | some m => match hs.findIdx? (fun e => !e.live && e.since = m) with
    | some k => hs.eraseIdx k
    | none => hs

/-- Make room for a new entry in a table of 32: released entries give up their slots, the oldest first (01 R30). -/
def makeRoom (hs : List HoldEntry) : List HoldEntry := if hs.length < 32 then hs else dropOldestReleased hs

/-- Store a live entry (01 R29, R31): a table of 32 live entries keeps the lower ticks. -/
def storeHold (near : Nat) (hs : List HoldEntry) (e : HoldEntry) : List HoldEntry :=
  if (hs.filter HoldEntry.live).length < 32 then makeRoom hs ++ [e]
  else match ((hs.filter HoldEntry.live).map (fun x => widenTick near x.tick)).max? with
    | none => hs
    | some m =>
      if widenTick near e.tick < m then
        match hs.findIdx? (fun x => x.live && widenTick near x.tick = m) with
        | some k => hs.set k e
        | none => hs
      else hs

/-- HOLD_RECEIVE (01 R29, R31). -/
def execHoldReceive (port : Nat) (f : CtlFlit) (s : State) : Host.Outcome State Fault Refusal :=
  .next (s.onFlit port f (fun j => s.forwardCtl j port f) (fun j p =>
    let x := s.part p
    if f.origin = s.fld .SLOT_RANK j || x.holds.any (fun e => e.hasKey f) then s
    else
      let e : HoldEntry := { tag := f.tag, origin := f.origin, tick := f.tick, cause := f.cause, hops := f.hops, live := true, since := s.raw }
      let full : Bool := 32 ≤ (x.holds.filter HoldEntry.live).length
      let s := s.setPart p { x with holds := storeHold (s.planTick p) x.holds e }
      ((if full then s.addFld .HOLD_OVF 1 p else s).forwardCtl j port f).noteDenied p))

/-- RELEASE_RECEIVE (01 R30). A RELEASE that matches no entry is stored also when the table is full: it takes the slot of the oldest
released entry, and stands beside the 32 when all are live (DESIGN CHOICE, log entry 73). -/
def execReleaseReceive (port : Nat) (f : CtlFlit) (s : State) : Host.Outcome State Fault Refusal :=
  .next (s.onFlit port f (fun j => s.forwardCtl j port f) (fun j p =>
    let x := s.part p
    match x.holds.find? (fun e => e.hasKey f) with
    | some e =>
      if e.live then
        (s.setPart p { x with holds := x.holds.map (fun e => if e.hasKey f then { e with live := false, since := s.raw } else e) }).forwardCtl j port f |>.noteDenied p
      else s
    | none =>
      let e : HoldEntry := { tag := f.tag, origin := f.origin, tick := f.tick, cause := f.cause, hops := f.hops, live := false, since := s.raw }
      (s.setPart p { x with holds := makeRoom x.holds ++ [e] }).forwardCtl j port f))

/-- HOLD_ENTRY_EXPIRE: a released entry goes when the longer of HOLD_TIMEOUT and 1 ms has passed since its release (01 R30). -/
def execHoldEntryExpire (p : Nat) (s : State) : Host.Outcome State Fault Refusal :=
  let x := s.part p
  let us := max (s.fld .HOLD_TIMEOUT p) 1000
  .next (s.setPart p { x with holds := x.holds.filter (fun e => e.live || !s.elapsed e.since (us * 1000)) })

/-- FAULT_STOP_RECEIVE (01 R32): forwarded; a partition that is not IDLE and not yet in FAULT enters FAULT with
E_PLAN_REMOTE_FAULT and records the origin. -/
def execFaultStopReceive (port : Nat) (f : CtlFlit) (s : State) : Host.Outcome State Fault Refusal :=
  .next (s.onFlit port f (fun j => s.forwardCtl j port f) (fun j p =>
    match s.pstate p with
    | .fault => s
    | .idle => s.forwardCtl j port f
    | _ =>
      let s := s.forwardCtl j port f
      let s := s.setPart p { s.part p with faultOrigin := f.origin + 1 }
      s.forceFault p E_PLAN_REMOTE_FAULT))

/-! ### PLAN_CTRL commands (01 Table 1.6) -/

/-- The partition is in the scope of an application under way (02 R70). -/
def State.applying (s : State) (p : Nat) : Bool := s.fld .ARM_STATUS_STATE = 3 && s.bit .ARM_SCOPE p

/-- Run a PLAN_CTRL command unless a clear of the partition runs (05 R183) or an application has it in scope (02 R70). -/
def State.planCmd (s : State) (p : Nat) (f : State → State) : State := if s.clearing p || s.applying p then s.cmdReject p else f s

/-- PLAN_CTRL.ARM (01 Table 1.6, 16 R492). The start time is stored: a write of PLAN_START_TIME while ARMED does not move the armed start
(DESIGN CHOICE, log entry 74). -/
def execPlanCtrlArm (party : Party) (p : Nat) (s : State) : Host.Outcome State Fault Refusal :=
  .next (if !s.ownsPlan party then (s.cmdReject p).notOwner else s.planCmd p (fun s =>
    if s.pstate p = .loaded then
      let t := s.fld64 .PLAN_START_TIME_LO .PLAN_START_TIME_HI p
      if s.twoMicrosAhead t then (s.setPart p { s.part p with startTime := t }).setPState p .armed
      else s.planError p E_PLAN_START_LATE
    else s.cmdReject p))

/-- PLAN_CTRL.START_NOW (01 R18). -/
def execPlanCtrlStartNow (party : Party) (p : Nat) (s : State) : Host.Outcome State Fault Refusal :=
  .next (if !s.ownsPlan party then (s.cmdReject p).notOwner else s.planCmd p (fun s =>
    if s.pstate p = .loaded then s.tryStart p else s.cmdReject p))

/-- PLAN_START_TIME_REACHED: the corrected time reaches the stored start time of an ARMED partition (01 R39). -/
def execPlanStartTimeReached (p : Nat) (s : State) : Host.Outcome State Fault Refusal :=
  .next (if s.pstate p = .armed && s.timeReached (s.part p).startTime then s.tryStart p else s)

/-- PLAN_CTRL.STOP (01 Table 1.6, R40): in BREAK reached from RUNNING the stop is carried out after RESUME only when it came in the
breakpoint's own cycle, that is at the same raw count; a STOP written later in BREAK is not listed and is refused. -/
def execPlanCtrlStop (p : Nat) (s : State) : Host.Outcome State Fault Refusal :=
  .next (s.planCmd p (fun s => 
    if s.pstate p = .running then s.setPState p .stopping
    else if s.pstate p = .brk && (s.part p).breakAt = s.raw + 1 then s.setPart p { s.part p with prev := PState.stopping.code }
    else s.cmdReject p))

/-- PLAN_CTRL.ABORT (01 Table 1.6): an armed start is cancelled; a run is stopped and FAULT_STOP sent. What is in flight then has 100 µs
(`State.passAbort`). -/
def execPlanCtrlAbort (p : Nat) (s : State) : Host.Outcome State Fault Refusal :=
  .next (s.planCmd p (fun s =>
    if s.pstate p = .armed then s.setPState p .loaded
    else if (s.pstate p).active then
      let s := (s.sendCtl (s.partPorts p) (s.faultStopFlit p)).stop p
      s.setPart p { s.part p with abortAt := s.raw + 1 }
    else s.cmdReject p))

/-- PLAN_CTRL.RESUME: the partition returns to the state BREAK came from; each stopped core issues its macro-operation without its
conditions being evaluated again, and with ONESHOT the conditions that fired are cleared (03 R110). -/
def State.resumeCore (s : State) (g : Nat) : State :=
  let c := s.core g
  if c.fired = 0 then s
  else
    let s := s.setCore g { c with fired := 0, resume := true }
    if s.flag .BRK_CTRL_ONESHOT g then
      let s := if c.fired.testBit 0 then s.setFld .BRK_CTRL_COUNT_EN 0 g else s
      let s := if c.fired.testBit 1 then s.setFld .BRK_CTRL_TAG_EN 0 g else s
      if c.fired.testBit 2 then s.setFld .BRK_CTRL_TICK_EN 0 g else s
    else s

def execPlanCtrlResume (party : Party) (p : Nat) (s : State) : Host.Outcome State Fault Refusal :=
  .next (if !s.ownsPlan party then (s.cmdReject p).notOwner else s.planCmd p (fun s =>
    if s.pstate p = .brk then (s.partCores p).foldl (fun s e => s.resumeCore e.1) (s.setPState p (.ofCode (s.part p).prev))
    else s.cmdReject p))

/-- PLAN_CTRL.UNLOAD (01 Table 1.6): LOADED or ARMED to IDLE; the image stays resident. -/
def execPlanCtrlUnload (p : Nat) (s : State) : Host.Outcome State Fault Refusal :=
  .next (s.planCmd p (fun s =>
    if s.pstate p = .loaded || s.pstate p = .armed then (s.setPState p .idle).clearHolds p else s.cmdReject p))

/-! ### Settings (01 R22, R53) -/

/-- HEM_DEPTH_WRITE (01 R22). -/
def execHemDepthWrite (p v : Nat) (s : State) : Host.Outcome State Fault Refusal :=
  .next (if s.settable p && v % 16 ≤ 8 then s.setFld .HEM_DEPTH v p else s.cmdReject p)

/-- PLAN_SETTING_WRITE: HOLD_TIMEOUT (writes below 100 store 100), PLAN_STOP_TICK, PLAN_START_TIME or STOP_AT_TICK (01 R53). A write
that leaves STOP_AT_TICK as it is changes nothing and is not refused. -/
def execPlanSettingWrite (p : Nat) (which : PlanSetting) (v : Nat) (s : State) : Host.Outcome State Fault Refusal :=
  .next (if s.settable p then
      match which with
      | .holdTimeout => s.setFld .HOLD_TIMEOUT (max 100 (v % 2 ^ 24)) p
      | .stopTick => s.setFld64 .PLAN_STOP_TICK_LO .PLAN_STOP_TICK_HI v p
      | .startTime => s.setFld64 .PLAN_START_TIME_LO .PLAN_START_TIME_HI v p
      | .stopAtTick => s.setFld .PLAN_CTRL_STOP_AT_TICK v p
    else if which = .stopAtTick && s.fld .PLAN_CTRL_STOP_AT_TICK p = v % 2 then s
    else s.cmdReject p)

/-! ### Power tokens (01 R41 to R43) -/

/-- POWER_TOKENS for a cap in watts: min(6,144, max(96, floor((cap − 1,380) × 3.2))) (01 R41). -/
def tokensFor (watts : Nat) : Nat := min 6144 (max 96 ((watts - 1380) * 16 / 5))

/-- POWER_TOKENS_RECOMPUTE (01 R41). -/
def execPowerTokensRecompute (s : State) : Host.Outcome State Fault Refusal :=
  .next (s.setFld .POWER_TOKENS (tokensFor (s.fld .POWER_CAP)))

/-- The die quota Q (01 R42). -/
def State.dieQuota (s : State) (nn : Nat) : Nat :=
  s.fld .POWER_TOKENS / 64 + (if nn < s.fld .POWER_TOKENS % 64 then 1 else 0)

/-- The operand of a resolved macro-operation; 0 where the plan names none. -/
def arg (o : MacroOp) (a : Arg) : Nat := (o.args.lookup a).getD 0

/-- The heavy macro-operation of a core that waits for a token: the first of its queue, when it holds none. -/
def Core.wantsToken (c : Core) : Option MacroOp :=
  match c.queue.find? (fun o => isHeavy o.fam) with
  | some o => if c.token.elim false (fun k => k.1 = o.id) then none else some o
  | none => none

/-- A request of core h for the physical token of `o` that arrives in the same cycle and has the lower k (01 R42). -/
def State.rivalToken (s : State) (g q k h : Nat) : Bool :=
  h / 96 = g / 96 && h ≠ g && (s.core h).wantsToken.elim false (fun o => arg o .token % q = k % q && arg o .token < k)

/-- TOKEN_GRANT: physical token (k mod Q) is granted when fewer than Q are held on the die and it is free (01 R42); of the requests that
arrive in one cycle (`rivals`: the other cores that make one) the lower k is granted first. -/
def execTokenGrant (g : Nat) (s : State) (rivals : List Nat := []) : Host.Outcome State Fault Refusal :=
  let c := s.core g
  let nn := g / 96
  let q := s.dieQuota nn
  let held := bankGet [] s.tokens nn
  .next (match c.wantsToken with
    | some o =>
      let phys := arg o .token % q
      if arg o .token < 96 && held.length < q && held.all (fun e => e.1 ≠ phys) && !rivals.any (s.rivalToken g q (arg o .token)) then
        { s.setCore g { c with token := some (o.id, phys) } with tokens := bankSet [] s.tokens nn (held ++ [(phys, g, o.id)]) }
      else s
    | none => s)

end Sys2Proof.Machine
end

