-- ==== Sys2Proof/Machine/Armature.lean ====
section
/-! DEFINITION. Machine/Armature.lean: staging, checking and applying shape images (02). -/
namespace Sys2Proof

/-! ### The header (02 R62, Table 2.5). Multi-byte fields are little-endian. -/

def ArmImage.kind (i : ArmImage) : Nat := byteField i.header 0x008 1
def ArmImage.signer (i : ArmImage) : Nat := byteField i.header 0x009 1
def ArmImage.stepping (i : ArmImage) : Nat := byteField i.header 0x00A 1
def ArmImage.gradeMask (i : ArmImage) : Nat := byteField i.header 0x00B 1
def ArmImage.version (i : ArmImage) : Nat := byteField i.header 0x00C 4
def ArmImage.svn (i : ArmImage) : Nat := byteField i.header 0x010 4
def ArmImage.bodySize (i : ArmImage) : Nat := byteField i.header 0x014 4
def ArmImage.scope (i : ArmImage) : Nat := byteField i.header 0x018 2
def ArmImage.imageId (i : ArmImage) : Nat := byteField i.header 0x020 16
def ArmImage.baseDigest (i : ArmImage) : Nat := byteField i.header 0x030 64
def ArmImage.bodyDigest (i : ArmImage) : Nat := byteField i.header 0x070 64
def ArmImage.keyId (i : ArmImage) : Nat := byteField i.header 0x0B0 8
def ArmImage.signature (i : ArmImage) : Nat := byteField i.header 0x0C0 64

/-- MAGIC, FORMAT and HEADER_SIZE are as Table 2.5 has them; FLAGS and the reserved bytes are zero. -/
def ArmImage.headerOk (i : ArmImage) : Bool :=
  i.header.length = 256 && i.header.take 4 = [0x51, 0x41, 0x52, 0x4D] && byteField i.header 0x004 2 = 1
    && byteField i.header 0x006 2 = 0x100 && byteField i.header 0x01A 6 = 0 && byteField i.header 0x0B8 8 = 0

end Sys2Proof

namespace Sys2Proof.Machine
open Sys2Proof

/-! ### Recording (02 R78) -/

/-- A loader error: kept while VALID is clear, MULTI after it. -/
def State.armError (s : State) (code : Nat) : State := s.recordValid .ARM_ERROR_CODE .ARM_ERROR_MULTI .ARM_ERROR_VALID code

/-- The loader becomes EMPTY with FAILED set; vector 1 is raised (02 Table 2.7, 14 Table 14.10). -/
def State.armFail (s : State) (code : Nat) : State :=
  let s := ((s.armError code).setFld .ARM_STATUS_FAILED 1).setFld .ARM_STATUS_STATE armEmpty
  { s with loader := { s.loader with staged := none, closed := [] } }.flush.raiseVector 1

/-! ### The shape an image would give: its records over the shape in force (log entry 23) -/

def recQuad (q : Nat) : List ArmRec → Option (Nat × Nat)
  | [] => none
  | .quad a p r :: t => if a = q then some (p, r) else recQuad q t
  | _ :: t => recQuad q t

def recGroup (g : Nat) : List ArmRec → Option (Option Nat)
  | [] => none
  | .poolGroup a o :: t => if a = g then some o else recGroup g t
  | _ :: t => recGroup g t

def recSlice (sl : Nat) : List ArmRec → Option (Option Nat)
  | [] => none
  | .slice a o :: t => if a = sl then some o else recSlice sl t
  | _ :: t => recSlice sl t

def recPort (n : Nat) : List ArmRec → Option PortUse
  | [] => none
  | .port a u :: t => if a = n then some u else recPort n t
  | _ :: t => recPort n t

def recRoute (k : Nat) : List ArmRec → Option Nat
  | [] => none
  | .route n d v e :: t => if (n * 84 + d) * 8 + v = k then some e else recRoute k t
  | _ :: t => recRoute k t

def recGeom (p : Nat) : List ArmRec → Option (Geom × List Nat)
  | [] => none
  | .geometry a g m :: t => if a = p then some (g, m) else recGeom p t
  | _ :: t => recGeom p t

/-- A per-partition number: handle, window or landing limit, link VCs, class map. -/
def recPart (f : Fld) (p : Nat) : List ArmRec → Option Nat
  | [] => none
  | .handles a v :: t => if f = .ARM_PART_LIMITS_HANDLES && a = p then some v else recPart f p t
  | .windows a v :: t => if f = .ARM_PART_LIMITS_WINDOWS && a = p then some v else recPart f p t
  | .landing a v :: t => if f = .ARM_PART_LIMITS_LANDING && a = p then some v else recPart f p t
  | .linkVcs a v :: t => if f = .ARM_PART_LIMITS_LINK_VCS && a = p then some v else recPart f p t
  | .vcMap a v :: t => if f = .ARM_PART_VCMAP_CLASS_VC && a = p then some v else recPart f p t
  | _ :: t => recPart f p t

def recVcs : List ArmRec → Option Nat
  | [] => none
  | .fabricVcs v :: _ => some v
  | _ :: t => recVcs t

/-- Owner of a pool group and use of a port in force. -/
def State.groupOwner (s : State) (g : Nat) : Option Nat := (List.range 16).find? (fun p => s.ownsGroup p g)
def State.portUse (s : State) (n : Nat) : PortUse :=
  match s.fld .LINK_OWNER_KIND n with
  | 1 => .owned (s.fld .LINK_OWNER_PARTITION n)
  | 2 => .transit
  | _ => .unassigned

def portOwner : PortUse → Option Nat
  | .owned p => some p
  | _ => none

def State.geom (s : State) (p : Nat) : Geom :=
  { decSlots := s.fld .SRV_GEOM0_DEC_SLOTS p, decSlotTokens := s.fld .SRV_GEOM0_DEC_SLOT_TOKENS p, preSlots := s.fld .SRV_GEOM1_PRE_SLOTS p,
    preChunk := s.fld .SRV_GEOM1_PRE_CHUNK p, seqBase := s.fld .SRV_GEOM2_SEQ_BASE p, seqMax := s.fld .SRV_GEOM2_SEQ_MAX p }

def State.slotMap (s : State) (p : Nat) : List Nat := bankGet [] s.slotMaps p

def State.newQuad (s : State) (r : List ArmRec) (q : Nat) : Nat × Nat := (recQuad q r).getD (s.quadPart q, s.fld .ARM_QUAD_ROLE q)
def State.newGroup (s : State) (r : List ArmRec) (g : Nat) : Option Nat := (recGroup g r).getD (s.groupOwner g)
def State.newSlice (s : State) (r : List ArmRec) (sl : Nat) : Option Nat := (recSlice sl r).getD (s.sliceOwner sl)
def State.newPort (s : State) (r : List ArmRec) (n : Nat) : PortUse := (recPort n r).getD (s.portUse n)
def State.newPartFld (s : State) (r : List ArmRec) (f : Fld) (p : Nat) : Nat := (recPart f p r).getD (s.fld f p)
def State.newVcs (s : State) (r : List ArmRec) : Nat := (recVcs r).getD (s.fld .FAB_CFG_VCS)
def State.newGeom (s : State) (r : List ArmRec) (p : Nat) : Geom × List Nat := (recGeom p r).getD (s.geom p, s.slotMap p)

/-- The route entry an image leaves: its own; else, of a base, none, and of a cut the one in force. A VC at or above the device's
count has no valid entry (07 R225, R226). -/
def State.newRoute (s : State) (img : ArmImage) (n d vc : Nat) : Nat :=
  if s.newVcs img.recs ≤ vc then 0
  else (recRoute ((n * 84 + d) * 8 + vc) img.recs).getD (if img.kind = 1 then 0 else s.route n d vc)

def State.newExists (s : State) (r : List ArmRec) (p : Nat) : Bool := (List.range 16).any (fun q => (s.newQuad r q).1 = p)
def State.newHasRole (s : State) (r : List ArmRec) (p role : Nat) : Bool := (List.range 16).any (fun q => s.newQuad r q = (p, role))
/-- Serving partitions hold a DECODE quad (02 R57). -/
def State.newServing (s : State) (r : List ArmRec) (p : Nat) : Bool := s.newHasRole r p 1

/-! ### Staging checks (02 Table 2.6) -/

/-- Check 1. -/
def State.armSizeOk (s : State) (i : ArmImage) : Bool :=
  i.fetched && i.bodySize % 32 = 0 && 32 ≤ i.bodySize && i.bodySize ≤ 4194304 && i.bodySize + 256 = s.loader.size

/-- Check 2. A BASE whose SCOPE is not 0xFFFF or whose BASE_DIGEST is not zero fails here; the spec names no check for it
(DESIGN CHOICE, log entry 72). -/
def armFormatOk (i : ArmImage) : Bool :=
  i.headerOk && (i.kind = 1 || i.kind = 2) && (i.kind = 2 || (i.scope = 0xFFFF && i.baseDigest = 0))

/-- Check 3: grade A is bit 0, grade S bit 1 (00 Table 0.2). A GRADE_MASK with another bit set fails here; the spec names no check for it
(DESIGN CHOICE, log entry 72). -/
def State.armSteppingOk (s : State) (i : ArmImage) : Bool :=
  i.stepping = s.fld .DEVICE_ID_STEPPING && i.gradeMask < 4 &&
    ((s.fld .DEVICE_ID_GRADE = 1 && i.gradeMask.testBit 0) || (s.fld .DEVICE_ID_GRADE = 2 && i.gradeMask.testBit 1))

/-- Check 4 (02 R63). -/
def State.armSignerOk (s : State) (i : ArmImage) : Bool :=
  (i.signer = 1 && i.keyId = Config.quinianArmKey.toNat) ||
    (i.signer = 2 && i.kind = 2 && s.flag .SEC_STATUS_OPERATOR && i.keyId = s.fld64 .SEC_OPERATOR_ID_LO .SEC_OPERATOR_ID_HI)

/-- Check 7 (02 R64). -/
def State.armSvnOk (s : State) (i : ArmImage) : Bool :=
  (if i.signer = 1 then s.fld .ARM_MIN_SVN_Q else s.fld .ARM_MIN_SVN_OP) ≤ i.svn

/-- ARM_BASE_DIGEST0 to 15 as one number, its first byte lowest (02 Table 2.11). -/
def State.baseDigest (s : State) : Nat := ((List.range 16).map (fun k => s.fld .ARM_BASE_DIGEST 0 k * 2 ^ (32 * k))).sum

/-- Check 8 (02 R65). -/
def State.armBaseOk (s : State) (i : ArmImage) : Bool :=
  i.kind = 1 || (i.baseDigest = s.baseDigest && i.version / 65536 = s.fld .ARM_ACTIVE_VERSION / 65536)

/-- Check 9: no record outside Table 2.3, and in a cut none for a Base-only item (02 R58, R60). -/
def armBodyOk (i : ArmImage) : Bool :=
  i.bodyOk && i.recs.all (fun r => match r with
    | .outside => false
    | .fabricVcs _ => i.kind = 1
    | _ => true)

/-! ### Check 10: limits -/

/-- A record's own values lie within Table 2.3. -/
def recRangeOk : ArmRec → Bool
  | .quad q p r => q < 16 && p < 16 && r < 3
  | .handles p v => p < 16 && 64 ≤ v && v ≤ 1024 && v % 64 = 0
  | .windows p v => p < 16 && v ≤ 64
  | .landing p v => p < 16 && v ≤ 8
  | .linkVcs p v => p < 16 && 2 ≤ v && v ≤ 8
  | .vcMap p v => p < 16 && v < 4096
  | .poolGroup g o => g < 64 && o.all (fun p => p < 16)
  | .slice sl o => sl < 256 && o.all (fun p => p < 16)
  | .port n u => n < 32 && (portOwner u).all (fun p => p < 16)
  | .fabricVcs v => 2 ≤ v && v ≤ 8
  | .route n d vc e => n < 84 && d < 84 && vc < 8 && e < 32
  | .geometry p _ _ => p < 16
  | .outside => false

/-- Two records give one resource, or one item, different values (02 R59). -/
def recClash : ArmRec → ArmRec → Bool
  | .quad a p r, .quad b q t => a = b && (p, r) ≠ (q, t)
  | .poolGroup a o, .poolGroup b u => a = b && o ≠ u
  | .slice a o, .slice b u => a = b && o ≠ u
  | .port a o, .port b u => a = b && o ≠ u
  | _, _ => false

def recsClash : List ArmRec → Bool
  | [] => false
  | r :: t => t.any (recClash r) || recsClash t

/-- Serving geometry within Table 13.1 (13 R399). -/
def geomOk (g : Geom) (pre : Bool) : Bool :=
  1 ≤ g.decSlots && g.decSlots ≤ 16384 && (g.decSlotTokens = 1 || (g.decSlotTokens % 8 = 0 && 8 ≤ g.decSlotTokens && g.decSlotTokens ≤ 256))
    && (if pre then 1 ≤ g.preSlots && g.preSlots ≤ 256 else g.preSlots = 0)
    && (if g.preSlots = 0 then g.preChunk = 0 else g.preChunk % 8 = 0 && 8 ≤ g.preChunk && g.preChunk ≤ 8192)
    && 1 ≤ g.seqMax && g.seqMax ≤ g.decSlots && g.seqBase + g.seqMax ≤ 16384

/-! Fields of a slot map entry (13 Table 13.2) -/
def mSlot (e : Nat) : Nat := e % 2 ^ 14
def mEngine (e : Nat) : Nat := e / 2 ^ 14 % 2
def mField (e : Nat) : Nat := e / 2 ^ 16 % 16
def mReg (e : Nat) : Nat := e / 2 ^ 20 % 16
def mDie (e : Nat) : Nat := e / 2 ^ 24 % 64
def mLo (e : Nat) : Nat := e / 2 ^ 32 % 128
def mHi (e : Nat) : Nat := e / 2 ^ 40 % 128

/-- Highest assigned field code of Table 13.6. -/
def slotFieldMax : Nat := 9

/-- A slot map entry passes R400. -/
def State.mapEntryOk (s : State) (r : List ArmRec) (p : Nat) (g : Geom) (e : Nat) : Bool :=
  let q := s.newQuad r (mDie e / 4)
  q = (p, if mEngine e = 0 then 1 else 2) && mLo e ≤ mHi e && mHi e ≤ 95
    && mSlot e < (if mEngine e = 0 then g.decSlots else g.preSlots) && mField e ≤ slotFieldMax

/-- Two entries name the same register of the same core. -/
def mapClash (a b : Nat) : Bool := mDie a = mDie b && mReg a = mReg b && mLo a ≤ mHi b && mLo b ≤ mHi a

def mapClashes : List Nat → Bool
  | [] => false
  | e :: t => t.any (mapClash e) || mapClashes t

def State.newGeomOk (s : State) (r : List ArmRec) (p : Nat) : Bool :=
  let (g, m) := s.newGeom r p
  if s.newServing r p then geomOk g (s.newHasRole r p 2) && m.all (s.mapEntryOk r p g) && !mapClashes m
  else (recGeom p r).all (fun x => x = ({}, []))

/-- The sequence ranges of the serving partitions do not overlap (13 R399). -/
def State.seqOverlap (s : State) (r : List ArmRec) : Bool :=
  let ps := (List.range 16).filter (s.newServing r)
  ps.any (fun p => ps.any (fun q => p < q &&
    (s.newGeom r p).1.seqBase < (s.newGeom r q).1.seqBase + (s.newGeom r q).1.seqMax &&
    (s.newGeom r q).1.seqBase < (s.newGeom r p).1.seqBase + (s.newGeom r p).1.seqMax))

/-- The node at the far end of an edge; none where the edge is absent (07 Table 7.1). -/
def edgePeer (n e : Nat) : Option Nat :=
  if n < 64 then
    match e with
    | 0 => if n < 16 then none else some (n - 16)
    | 1 => if n % 16 = 15 then some (68 + n / 16) else if n % 16 = 7 then some (72 + n / 16) else some (n + 1)
    | 2 => if 48 ≤ n then none else some (n + 16)
    | 3 => if n % 16 = 0 then some (64 + n / 16) else if n % 16 = 8 then some (72 + n / 16) else some (n - 1)
    | _ => none
  else if n < 72 then if e = ownEdge n then (hangsFrom n).map Prod.fst else none
  else if n < 76 then
    match e with
    | 0 => if n = 72 then some 80 else some (n - 1)
    | 1 => some (16 * (n - 72) + 8)
    | 2 => if n = 75 then some 83 else some (n + 1)
    | 3 => some (16 * (n - 72) + 7)
    | 4 => if n = 72 then some 76 else if n = 73 then some 82 else if n = 74 then some 81 else some 78
    | 5 => if n = 72 then some 77 else if n = 75 then some 79 else none
    | _ => none
  else if n < 84 then if e = ownEdge n then (hangsFrom n).map Prod.fst else none
  else none

/-- Hops from a node to a destination under a table; none where following it does not reach the destination in `fuel` hops. -/
def hopsTo (rt : Nat → Nat) (d : Nat) : Nat → Nat → Option Nat
  | 0, n => if n = d then some 0 else none
  | k + 1, n =>
    if n = d then some 0
    else if (rt n).testBit 4 then (edgePeer n (rt n % 8)).bind (fun m => (hopsTo rt d k m).map (· + 1))
    else none

/-- The entries of a VC are good: a valid one names a present edge or is LOCAL at its own node, and every destination is reached within
32 hops (07 R225). -/
def vcRoutesOk (rt : Nat → Nat → Nat) : Bool :=
  (List.range 84).all (fun d => (List.range 84).all (fun n =>
    (!(rt n d).testBit 4 || (if (rt n d).testBit 3 then n = d else (edgePeer n (rt n d % 8)).isSome)) && (hopsTo (fun m => rt m d) d 32 n).isSome))

/-- Channels a packet that enters node `n` by some edge may take next: (node, edge) pairs that follow channel (n, e) (07 R225). -/
def vcNext (rt : Nat → Nat → Nat) (c : Nat) : List Nat :=
  match edgePeer (c / 8) (c % 8) with
  | none => []
  | some m => ((List.range 84).filter (fun d => d ≠ m && rt (c / 8) d / 16 % 2 = 1 && rt (c / 8) d % 8 = c % 8 && d ≠ c / 8)).map (fun d => m * 8 + rt m d % 8)

/-- Take channels that lead nowhere out of the graph, again and again; what stays lies on or before a cycle. -/
def pruneChannels (next : Nat → List Nat) : Nat → List Nat → List Nat
  | 0, cs => cs
  | k + 1, cs =>
    let cs' := cs.filter (fun c => (next c).any (fun x => cs.contains x))
    if cs'.length = cs.length then cs else pruneChannels next k cs'

/-- The channel-dependency graph of a VC has a cycle. -/
def vcCyclic (rt : Nat → Nat → Nat) : Bool :=
  let cs := (List.range 672).filter (fun c => (edgePeer (c / 8) (c % 8)).isSome)
  !(pruneChannels (vcNext rt) 672 cs).isEmpty

/-- The image's records touch routes, or it is a base, which writes them all. -/
def touchesRoutes (i : ArmImage) : Bool := i.kind = 1 || i.recs.any (fun r => match r with | .route _ _ _ _ => true | _ => false)

def State.routesOk (s : State) (i : ArmImage) : Bool :=
  !touchesRoutes i || (List.range (s.newVcs i.recs)).all (fun vc =>
    vcRoutesOk (fun n d => s.newRoute i n d vc) && !vcCyclic (fun n d => s.newRoute i n d vc))

/-- Check 10 (02 R57 to R59; 07 R225, R226; 13 R399, R400). The class map of every partition is held to the image's fabric VC count, that
of a partition without quads too (DESIGN CHOICE, log entry 72). -/
def State.armLimitOk (s : State) (i : ArmImage) : Bool :=
  let r := i.recs
  let ex := s.newExists r
  r.all recRangeOk && !recsClash r
    && (List.range 16).all (fun p => !s.newHasRole r p 2 || s.newHasRole r p 1)
    && ((List.range 16).filter (s.newServing r)).length ≤ 8
    && (List.range 64).all (fun g => (s.newGroup r g).all ex) && (List.range 256).all (fun x => (s.newSlice r x).all ex)
    && (List.range 32).all (fun n => (portOwner (s.newPort r n)).all ex)
    && (List.range 16).all (fun p => (List.range 4).all (fun c => s.newPartFld r .ARM_PART_VCMAP_CLASS_VC p / 8 ^ c % 8 < s.newVcs r))
    && (List.range 16).all (s.newGeomOk r) && !s.seqOverlap r
    && ((List.range 16).map (fun p => if s.newServing r p then (s.newGeom r p).2.length else 0)).sum ≤ 65536
    && s.routesOk i

/-- The first failing check of Table 2.6; 0 when all pass. -/
def State.armCheck (s : State) (i : ArmImage) : Nat :=
  if !s.armSizeOk i then E_ARM_SIZE
  else if !armFormatOk i then E_ARM_FORMAT
  else if !s.armSteppingOk i then E_ARM_STEPPING
  else if !s.armSignerOk i then E_ARM_SIGNER
  else if i.signedBy ≠ i.keyId then E_ARM_SIGNATURE
  else if i.bodySha ≠ i.bodyDigest then E_ARM_DIGEST
  else if !s.armSvnOk i then E_ARM_ROLLBACK
  else if !s.armBaseOk i then E_ARM_BASE_MISMATCH
  else if !armBodyOk i then E_ARM_FORMAT
  else if !s.armLimitOk i then E_ARM_LIMIT
  else 0

/-! ### Commands (02 R67 to R69) -/

/-- A command of ARM_CTRL: the host's loses to a different one of the management agent in the same cycle (02 R69), and none is taken
in VERIFYING or APPLYING. -/
def State.armCmd (s : State) (party : Party) (clash : Bool) (f : State → State) : State :=
  if (clash && party ≠ .mgmt) || s.fld .ARM_STATUS_STATE = armVerifying || s.fld .ARM_STATUS_STATE = armApplying then s.armError E_ARM_BUSY
  else f s

/-- ARM_CTRL_STAGE: the image is fetched from ARM_SRC; an image staged before is discarded. -/
def State.armStage (s : State) : State :=
  { s with loader := { s.loader with staged := none, size := s.fld .ARM_SRC_SIZE } }.setFld .ARM_STATUS_STATE armVerifying

def execArmCtrlStage (party : Party) (clash : Bool) (s : State) : Host.Outcome State Fault Refusal := .next (s.armCmd party clash State.armStage)

/-- ARM_VERIFY_COMPLETE: what was fetched. -/
def State.armVerify (s : State) (img : ArmImage) : State :=
  if s.fld .ARM_STATUS_STATE ≠ armVerifying then s
  else
    let code := s.armCheck img
    if code ≠ 0 then s.armFail code
    else { s with loader := { s.loader with staged := some img } }.setFld .ARM_STATUS_STATE armStaged |>.setFld .ARM_SCOPE img.scope

def execArmVerifyComplete (img : ArmImage) (s : State) : Host.Outcome State Fault Refusal := .next (s.armVerify img)

/-- ARM_CTRL_DISCARD. ARM_SCOPE keeps its value while nothing is staged (DESIGN CHOICE, log entry 72). -/
def State.armDiscard (s : State) : State :=
  if s.fld .ARM_STATUS_STATE = armEmpty then s.armError E_ARM_NOT_STAGED
  else { s with loader := { s.loader with staged := none } }.setFld .ARM_STATUS_STATE armEmpty

def execArmCtrlDiscard (party : Party) (clash : Bool) (s : State) : Host.Outcome State Fault Refusal := .next (s.armCmd party clash State.armDiscard)

/-! ### The scope check (02 R68) -/

/-- A resource keeps its owner, or moves between in-scope partitions and nobody. -/
def moveOk (scope : Nat) (a b : Option Nat) : Bool := a = b || (a.all (fun p => scope.testBit p) && b.all (fun p => scope.testBit p))

/-- Dies of quads that belong to an in-scope partition before or after. -/
def State.inScopeDie (s : State) (i : ArmImage) (n : Nat) : Bool :=
  n < 64 && (i.scope.testBit (s.quadPart (n / 4)) || i.scope.testBit (s.newQuad i.recs (n / 4)).1)

/-- A record gives an out-of-scope partition or route its value in force. -/
def State.recInScope (s : State) (i : ArmImage) : ArmRec → Bool
  | .handles p v => i.scope.testBit p || v = s.fld .ARM_PART_LIMITS_HANDLES p
  | .windows p v => i.scope.testBit p || v = s.fld .ARM_PART_LIMITS_WINDOWS p
  | .landing p v => i.scope.testBit p || v = s.fld .ARM_PART_LIMITS_LANDING p
  | .linkVcs p v => i.scope.testBit p || v = s.fld .ARM_PART_LIMITS_LINK_VCS p
  | .vcMap p v => i.scope.testBit p || v = s.fld .ARM_PART_VCMAP_CLASS_VC p
  | .geometry p g m => i.scope.testBit p || (g = s.geom p && m = s.slotMap p)
  | .route n d vc e => i.kind = 1 || s.inScopeDie i n || s.inScopeDie i d || e = s.route n d vc
  | _ => true

def State.scopeOk (s : State) (i : ArmImage) : Bool :=
  (List.range 16).all (fun q => s.newQuad i.recs q = (s.quadPart q, s.fld .ARM_QUAD_ROLE q)
      || moveOk i.scope (some (s.quadPart q)) (some (s.newQuad i.recs q).1) && i.scope.testBit (s.quadPart q))
    && (List.range 64).all (fun g => moveOk i.scope (s.groupOwner g) (s.newGroup i.recs g))
    && (List.range 256).all (fun x => moveOk i.scope (s.sliceOwner x) (s.newSlice i.recs x))
    && (List.range 32).all (fun n => moveOk i.scope (portOwner (s.portUse n)) (portOwner (s.newPort i.recs n)))
    && i.recs.all (s.recInScope i)

/-- ARM_CTRL_APPLY: the fabric ports of in-scope dies close to new injection (02 Table 2.8). -/
def State.armApply (s : State) : State :=
  match s.loader.staged with
  | none => s.armError E_ARM_NOT_STAGED
  | some i =>
    if (List.range 16).any (fun p => i.scope.testBit p && s.pstate p ≠ .idle) then s.armError E_ARM_PART_BUSY
    else if !s.scopeOk i then s.armError E_ARM_SCOPE
    else { s with loader := { s.loader with phase := 0, startedAt := s.raw, closed := (List.range 64).filter (s.inScopeDie i) } }.setFld
      .ARM_STATUS_STATE armApplying

def execArmCtrlApply (party : Party) (clash : Bool) (s : State) : Host.Outcome State Fault Refusal := .next (s.armCmd party clash State.armApply)

/-! ### Application (02 R71 to R74, Table 2.8) -/

/-- Run a phase of an application: only in that phase. -/
def State.armPhase (s : State) (k : Nat) (f : ArmImage → State) : State :=
  match s.loader.staged with
  | some i => if s.fld .ARM_STATUS_STATE = armApplying && s.loader.phase = k then f i else s
  | none => s

def State.setPhase (s : State) (k : Nat) : State := { s with loader := { s.loader with phase := k } }

/-- ARM_DRAIN_DONE: every core whose partition changes, and every pool group whose owner changes, is filled with zero (05 R182). -/
def State.armDrained (s : State) : State :=
  s.armPhase 0 (fun i =>
    let cores := fun g => (s.newQuad i.recs (g / 96 / 4)).1 ≠ s.corePart g
    let groups := fun g => s.newGroup i.recs g ≠ s.groupOwner g
    let parts := (List.range 16).filter (fun p => (List.range 16).any (fun q =>
      (s.newQuad i.recs q).1 ≠ s.quadPart q && (s.quadPart q = p || (s.newQuad i.recs q).1 = p)))
    (parts.foldl (fun s p => s.zeroBarriers p) ((s.clearCores cores).clearGroups groups)).setPhase 1)

def execArmDrainDone (s : State) : Host.Outcome State Fault Refusal := .next s.armDrained

/-- ARM_DRAIN_TIMEOUT (02 R72). -/
def execArmDrainTimeout (s : State) : Host.Outcome State Fault Refusal := .next (s.armPhase 0 (fun _ => s.armFail E_ARM_DRAIN_TIMEOUT))

/-- ARM_SHADOW_CHECK_DONE: a shadow table that fails its Q-code ends the application; the second failure of one image within 1 s
asserts FAULT_N (02 R73). -/
def State.armShadow (s : State) (ok : Bool) : State :=
  s.armPhase 1 (fun i =>
    if ok then s.setPhase 2
    else
      let again : Bool := s.loader.lastFault.elim false (fun k => k.1 = i.signature && (s.now + 2 ^ 64 - k.2) % 2 ^ 64 < 64000000000)
      let s := s.armFail E_ARM_WRITE_FAULT
      let s := { s with loader := { s.loader with lastFault := some (i.signature, s.now) } }
      if again then s.assertFaultN else s)

def execArmShadowCheckDone (ok : Bool) (s : State) : Host.Outcome State Fault Refusal := .next (s.armShadow ok)

/-- ARM_SHARED_SWITCH: until the commit, transfers through shared resources wait (02 Table 2.8; `State.sharedPaused`). -/
def execArmSharedSwitch (s : State) : Host.Outcome State Fault Refusal := .next (s.armPhase 2 (fun _ => s.setPhase 3))

/-! ### Commit -/

/-- A mask of the numbers below n that satisfy a test. -/
def maskOf (n : Nat) (f : Nat → Bool) : Nat := ((List.range n).map (fun k => if f k then 2 ^ k else 0)).sum

/-- Quads take their partition and role. -/
def State.commitQuads (s : State) (r : List ArmRec) : State :=
  (List.range 16).foldl (fun t q => (t.setFld .ARM_QUAD_PARTITION (s.newQuad r q).1 q).setFld .ARM_QUAD_ROLE (s.newQuad r q).2 q) s

/-- The registers of a partition; `t` is the state before the commit. -/
def State.commitPart (s t : State) (r : List ArmRec) (p : Nat) : State :=
  let s := s.setFld .ARM_PART_QUADS (maskOf 16 (fun q => (t.newQuad r q).1 = p)) p
  let fs : List Fld := [.ARM_PART_LIMITS_HANDLES, .ARM_PART_LIMITS_WINDOWS, .ARM_PART_LIMITS_LANDING, .ARM_PART_LIMITS_LINK_VCS, .ARM_PART_VCMAP_CLASS_VC]
  let s := fs.foldl (fun s f => s.setFld f (t.newPartFld r f p) p) s
  let s := s.setFld .ARM_PART_VCMAP_FABRIC_VCS (t.newVcs r) p
  let s := s.setFld .ARM_PART_POOL_LO (maskOf 32 (fun g => t.newGroup r g = some p)) p
  let s := s.setFld .ARM_PART_POOL_HI (maskOf 32 (fun g => t.newGroup r (g + 32) = some p)) p
  let s := s.setFld .ARM_PART_PORTS (maskOf 32 (fun n => portOwner (t.newPort r n) = some p)) p
  s.setFld .ARM_PART_HBM ((List.range 256).filter (fun x => t.newSlice r x = some p)).length p

/-- A partition's geometry; that of a partition that serves nothing is zero (13 R399). -/
def State.commitGeom (s t : State) (r : List ArmRec) (p : Nat) : State :=
  let (g, m) := if t.newServing r p then t.newGeom r p else ({}, [])
  let s := (s.setFld .SRV_GEOM0_DEC_SLOTS g.decSlots p).setFld .SRV_GEOM0_DEC_SLOT_TOKENS g.decSlotTokens p
  let s := (s.setFld .SRV_GEOM1_PRE_SLOTS g.preSlots p).setFld .SRV_GEOM1_PRE_CHUNK g.preChunk p
  let s := (s.setFld .SRV_GEOM2_SEQ_BASE g.seqBase p).setFld .SRV_GEOM2_SEQ_MAX g.seqMax p
  { s with slotMaps := bankSet [] s.slotMaps p m }

/-- A slice's owner. -/
def State.commitSlice (s t : State) (r : List ArmRec) (sl : Nat) : State :=
  let o := t.newSlice r sl
  if o = t.sliceOwner sl then s
  else
    (s.setFld .HBM_SLICE_OWNED o.isSome.toNat (sl % 16) (sl / 16)).setFld .HBM_SLICE_PARTITION (o.getD 0) (sl % 16) (sl / 16)

/-- A partition that gains a slice gets a new pair for all its slices, which counts as its tenant's when it has one (02 R73, 11 R355; log
entry 89). -/
def State.commitKeys (s t : State) (r : List ArmRec) (p : Nat) : State :=
  if (List.range 256).any (fun sl => t.newSlice r sl = some p && t.sliceOwner sl ≠ some p) then s.drawHbmKey p (s.bit .HBM_KEYS p) else s

/-- A port's owner, kind and link VCs (08 Table 8.14): 8 when transit-only. -/
def State.commitPort (s t : State) (r : List ArmRec) (n : Nat) : State :=
  match t.newPort r n with
  | .owned p => ((s.setFld .LINK_OWNER_KIND 1 n).setFld .LINK_OWNER_PARTITION p n).setFld .LINK_OWNER_VCS (t.newPartFld r .ARM_PART_LIMITS_LINK_VCS p) n
  | .transit => ((s.setFld .LINK_OWNER_KIND 2 n).setFld .LINK_OWNER_PARTITION 0 n).setFld .LINK_OWNER_VCS 8 n
  | .unassigned => ((s.setFld .LINK_OWNER_KIND 0 n).setFld .LINK_OWNER_PARTITION 0 n).setFld .LINK_OWNER_VCS 0 n

/-- The longest route in hops of a table (07 Table 7.8). -/
def longestRoute (rt : Nat → Nat → Nat → Nat) (vcs : Nat) : Nat :=
  (List.range vcs).foldl (fun m vc => (List.range 84).foldl (fun m d => (List.range 84).foldl (fun m n =>
    max m ((hopsTo (fun k => rt k d vc) d 32 n).getD 0)) m) m) 0

/-- Every route entry, as the difference from the boot base. -/
def State.commitRoutes (s t : State) (i : ArmImage) : State :=
  if touchesRoutes i then
    let ks := (List.range 56448).filter (fun k => t.newRoute i (k / 672) (k / 8 % 84) (k % 8) ≠ bootRoute (k / 672) (k / 8 % 84) (k % 8))
    let s := { s with fabRoutes := ks.map (fun k => (k, t.newRoute i (k / 672) (k / 8 % 84) (k % 8) + 1)) }
    (s.setFld .FAB_CFG_VCS (t.newVcs i.recs)).setFld .FAB_CFG_DIAMETER (longestRoute (fun n d vc => t.newRoute i n d vc) (t.newVcs i.recs))
  else s

/-- The plan-sequencer registers of a partition that exists no more read as at reset (02 R58); their numbers are 24 to 47 and 434 to
437. -/
def State.dropPart (s : State) (p : Nat) : State :=
  let s := s.dropFlds (fun f i => i = p && ((768 ≤ f && f < 1536) || (13888 ≤ f && f < 14016)))
  { s with parts := bankSet {} s.parts p {} }

/-- Split a number over numbered registers of 32 bits. -/
def State.setWords (s : State) (f : Fld) (n v : Nat) : State := (List.range n).foldl (fun s k => s.setFld f (v / 2 ^ (32 * k)) 0 k) s

/-- The new tables in force. -/
def State.commitShape (t : State) (i : ArmImage) : State :=
  let r := i.recs
  let s := t.commitQuads r
  let s := (List.range 16).foldl (fun s p => (s.commitPart t r p).commitGeom t r p) s
  let s := (List.range 256).foldl (fun s x => s.commitSlice t r x) s
  let s := (List.range 16).foldl (fun s p => s.commitKeys t r p) s
  let s := (List.range 32).foldl (fun s n => s.commitPort t r n) s
  let s := s.commitRoutes t i
  let s := s.setFld .SRV_MAP_COUNT ((List.range 16).map (fun p => (s.slotMap p).length)).sum
  let s := s.setFld .SRV_INFO_SERVING ((List.range 16).filter (t.newServing r)).length
  (List.range 16).foldl (fun s p => if t.newExists r p then s else s.dropPart p) s

/-- ARM_COMMIT (02 Table 2.7, R71). -/
def State.armCommit (s : State) : State :=
  s.armPhase 3 (fun i =>
    let us := (s.raw - s.loader.startedAt) / 64000
    let s := s.commitShape i
    let s := (s.setFld .ARM_ACTIVE_VERSION i.version).setFld .ARM_ACTIVE_SVN i.svn
    let s := s.setWords .ARM_IMAGE_ID 4 i.imageId
    let s := if i.kind = 1 then s.setWords .ARM_BASE_DIGEST 16 i.fullSha else s
    let s := ((s.addFld .ARM_COUNT).setFld .ARM_APPLY_TIME us).setFld .ARM_STATUS_APPLIED 1
    let s := { s with loader := { s.loader with staged := none, phase := 0, closed := [] } }.setFld .ARM_STATUS_STATE armEmpty
    s.flush.raiseVector 1)

def execArmCommit (s : State) : Host.Outcome State Fault Refusal := .next s.armCommit

end Sys2Proof.Machine
end

