-- ==== Sys2Proof/Machine/ObsOps.lean ====
section
/-! DEFINITION. Machine/ObsOps.lean: observation records on their way to a ring, dumps, held snapshots (19 R552 to R563). -/
namespace Sys2Proof.Machine
open Sys2Proof

/-- Instance of dump point k of partition p. -/
def dumpAt (p k : Nat) : Nat := p * 8 + k

def State.dump (s : State) (i : Nat) : Dump := bankGet { time := 0 } s.obs.dumps i
def State.setDump (s : State) (i : Nat) (d : Dump) : State :=
  { s with obs := { s.obs with dumps := bankSet { time := 0 } s.obs.dumps i d } }

/-- The body of a DUMP record (19 Table 19.9): its flags, the words it carries from a chunk of the range, and their TORN and UE masks. -/
def State.dumpRec (s : State) (p k flags chunk torn ue : Nat) (data : List Byte) : ObsRec :=
  let d := s.dump (dumpAt p k)
  { kind := recDump, time := d.time,
    body := leBytes 1 k ++ leBytes 1 flags ++ leBytes 2 (s.fld .DUMP_SRC_CORE (dumpAt p k)) ++ leBytes 2 d.tag ++ leBytes 2 torn ++ leBytes 2 ue
      ++ leBytes 2 chunk ++ leBytes 4 d.tick ++ data }

/-- A running dump stops: ABORTED in its last record and in DUMP_STATUS, CODE when the grant ended (19 R561). -/
def State.abortDump (s : State) (p k code : Nat) : State :=
  let i := dumpAt p k
  if s.flag .DUMP_STATUS_RUNNING i then
    let s := s.sendRec p (s.dumpRec p k 3 0 0 0 [])
    let s := ((s.setFld .DUMP_STATUS_RUNNING 0 i).setFld .DUMP_STATUS_ABORTED 1 i).setDump i { time := 0 }
    if code = 0 then s else s.setFld .DUMP_STATUS_CODE code i
  else s

/-- Stop every dump of a partition (19 R561). -/
def State.abortDumps (s : State) (p code : Nat) : State := (List.range 8).foldl (fun s k => s.abortDump p k code) s

/-- Discard the held or part-sent snapshot of a partition; records of it already on their way go with it (19 R557). -/
def State.dropPlaster (s : State) (p : Nat) : State :=
  let s := { s with obs := { s.obs with shadows := s.obs.shadows.filter (fun x => x.part ≠ p) } }
  let s := s.setHub p ((s.hub p).filter (fun r => r.kind ≠ recPlaster))
  (s.setFld .OBS_PART_STATUS_PLASTER_HELD 0 p).setFld .OBS_PART_STATUS_PLASTER_SENDING 0 p

/-- The counters of a partition at zero, the starched copies with them (19 R545). -/
def State.zeroCounts (s : State) (p : Nat) : State :=
  let mine : Nat → Bool := fun k => k / 2 ^ 31 = p
  { s with obs := { s.obs with counts := bankDrop mine s.obs.counts, starched := bankDrop mine s.obs.starched } }

end Sys2Proof.Machine
end

