-- ==== Sys2Proof/Machine/Special.lean ====
section
/-! DEFINITION. Machine/Special.lean: the exact results that Table 4.9 measures its errors against, in fixed point with 400 fraction
bits: far below the last place of every FP32 number (04 R141). -/
namespace Sys2Proof.Machine

/-- Fraction bits. -/
def fxBits : Nat := 400
def fxOne : Int := 2 ^ fxBits
def fxMul (a b : Int) : Int := a * b / fxOne
def fxDiv (a b : Int) : Int := a * fxOne / b

/-- m × 2^e, exactly for every FP32 number. -/
def fxOf (m : Nat) (e : Int) : Int := (m * 2 ^ ((fxBits : Int) + e).toNat : Nat)

/-- 2 artanh(z) for 0 ≤ z ≤ 1/3: the sum of 2 z^(2i+1) / (2i+1). -/
def fxArtanh2 (z : Int) : Int :=
  let w := fxMul z z
  ((List.range 132).foldl (fun (acc : Int × Int) (i : Nat) => (acc.1 + 2 * acc.2 / (2 * (i : Int) + 1), fxMul acc.2 w)) (0, z)).1

/-- ln 2 = 2 artanh(1/3). -/
def fxLn2 : Int := fxArtanh2 (fxOne / 3)

/-- ln(m × 2^e) for m > 0. -/
def fxLog (m : Nat) (e : Int) : Int :=
  let top := Nat.log2 m
  let y : Int := m * fxOne / 2 ^ top
  fxArtanh2 (fxDiv (y - fxOne) (y + fxOne)) + (e + top) * fxLn2

/-- exp of a fixed-point number: 2^k exp(r) with 0 ≤ r < ln 2. -/
def fxExp (x : Int) : Int :=
  let ln2 := fxLn2
  let k := x / ln2
  let r := x - k * ln2
  let v := ((List.range 96).foldl (fun (acc : Int × Int) (i : Nat) => (acc.1 + acc.2, fxMul acc.2 r / ((i : Int) + 1))) (0, fxOne)).1
  if 0 ≤ k then v * 2 ^ k.toNat else v / 2 ^ (-k).toNat

/-- 1 / sqrt(m × 2^e) for m > 0. -/
def fxRsqrt (m : Nat) (e : Int) : Int :=
  let den := m * 2 ^ (e + 160).toNat
  (Nat.sqrt (2 ^ (2 * fxBits + 160) / den) : Nat)

/-- arctan(1/n). -/
def fxAtanInv (n : Int) : Int :=
  ((List.range 180).foldl (fun (acc : Int × Int) (i : Nat) =>
    (if i % 2 = 0 then acc.1 + acc.2 / (2 * (i : Int) + 1) else acc.1 - acc.2 / (2 * (i : Int) + 1), acc.2 / (n * n))) (0, fxOne / n)).1

/-- Pi, by Machin's formula. -/
def fxPi : Int := 16 * fxAtanInv 5 - 4 * fxAtanInv 239

/-- erf(x / sqrt 2) for 0 ≤ x ≤ 15: sqrt(2/π) exp(−x²/2) times the sum of x^(2n+1) / (1 × 3 × … × (2n+1)). -/
def fxErf (x : Int) : Int :=
  let w := fxMul x x
  let sum := ((List.range 520).foldl (fun (acc : Int × Int) (i : Nat) => (acc.1 + acc.2, fxMul acc.2 w / (2 * (i : Int) + 3))) (0, x)).1
  let c : Int := (Nat.sqrt (2 * fxOne * fxOne * fxOne / fxPi).toNat : Nat)
  fxMul (fxMul c (fxExp (-(w / 2)))) sum

/-- The logistic function 1 / (1 + exp(−x)). -/
def fxSigmoid (x : Int) : Int :=
  if 0 ≤ x then fxDiv fxOne (fxOne + fxExp (-x)) else let e := fxExp x; fxDiv e (fxOne + e)

/-- Magnitudes from which a function has reached its limit to more than 400 bits, or for GELU to more than 150. -/
def fxFar (fn : Nat) (x : Int) : Bool := (if fn = 6 then 15 else 400) * fxOne < x.natAbs

/-- The exact result of a special function of (−1)^neg × m × 2^e, by number (`Config.special`), where Table 4.9 states none. A result that is
not zero is not zero here. -/
def fxSpecial (fn : Nat) (neg : Bool) (m : Nat) (e : Int) : Int :=
  let a := fxOf m e
  let x := if neg then -a else a
  let far := fxFar fn x
  match fn with
  | 0 => if far then (if neg then 1 else 2 ^ 200 * fxOne) else max 1 (fxExp x)
  | 1 => fxLog m e
  | 2 => fxRsqrt m e
  | 3 =>
    let t := if far then fxOne - 1 else let q := fxExp (2 * a); fxDiv (q - fxOne) (q + fxOne)
    if neg then -t else t
  | 4 => if far then (if neg then 1 else fxOne - 1) else max 1 (fxSigmoid x)
  | 5 => if far then (if neg then -1 else x - 1) else fxMul x (fxSigmoid x)
  | _ => if far then (if neg then -1 else x - 1) else
      let r := fxErf a
      fxMul x ((if neg then fxOne - r else fxOne + r) / 2)

/-- Maximum error in ulp (04 Table 4.9). -/
def ulpBound (fn : Nat) : Int :=
  match fn with
  | 0 | 1 | 2 => 1 | 3 | 4 => 2 | 5 => 3 | _ => 4

end Sys2Proof.Machine
end

