-- ==== Sys2Proof/Machine/Num.lean ====
section
/-! DEFINITION. Machine/Num.lean: number formats, exact values, rounding and the rounding stream (04). -/
namespace Sys2Proof.Machine
open Sys2Proof

/-! ### Formats (04 Table 4.1, Table 4.2) -/

inductive Fmt where
  | int4 | fp4 | mxfp4 | int8 | e4m3 | e5m2 | mx6a | mx6b | mx8a | mx8b | bf16 | fp16 | fp32 | fp64 | int32
  deriving DecidableEq, Repr

/-- The format of a code; 0xF is not assigned (04 R115). -/
def fmtOf : Nat → Option Fmt
  | 0 => some .int4 | 1 => some .fp4 | 2 => some .mxfp4 | 3 => some .int8 | 4 => some .e4m3 | 5 => some .e5m2 | 6 => some .mx6a
  | 7 => some .mx6b | 8 => some .mx8a | 9 => some .mx8b | 10 => some .bf16 | 11 => some .fp16 | 12 => some .fp32 | 13 => some .fp64
  | 14 => some .int32 | _ => none

/-- Shape of a format: element bits; for a floating-point one the exponent bits, mantissa bits, bias, the significand of the
largest finite value on the top step, and whether it has infinities and NaN. -/
structure FmtInfo where
  bits : Nat
  int : Bool := false
  eb : Nat := 0
  mb : Nat := 0
  bias : Nat := 0
  top : Nat := 0
  inf : Bool := false
  nan : Bool := false
  mx : Bool := false

def fmtInfo : Fmt → FmtInfo
  | .int4 => { bits := 4, int := true }
  | .int8 => { bits := 8, int := true }
  | .int32 => { bits := 32, int := true }
  | .fp4 => { bits := 4, eb := 2, mb := 1, bias := 1, top := 3 }
  | .mxfp4 => { bits := 4, eb := 2, mb := 1, bias := 1, top := 3, mx := true }
  | .mx6a => { bits := 6, eb := 2, mb := 3, bias := 1, top := 15, mx := true }
  | .mx6b => { bits := 6, eb := 3, mb := 2, bias := 3, top := 7, mx := true }
  | .e4m3 => { bits := 8, eb := 4, mb := 3, bias := 7, top := 14, nan := true }
  | .mx8a => { bits := 8, eb := 4, mb := 3, bias := 7, top := 14, nan := true, mx := true }
  | .e5m2 => { bits := 8, eb := 5, mb := 2, bias := 15, top := 7, inf := true, nan := true }
  | .mx8b => { bits := 8, eb := 5, mb := 2, bias := 15, top := 7, inf := true, nan := true, mx := true }
  | .bf16 => { bits := 16, eb := 8, mb := 7, bias := 127, top := 255, inf := true, nan := true }
  | .fp16 => { bits := 16, eb := 5, mb := 10, bias := 15, top := 2047, inf := true, nan := true }
  | .fp32 => { bits := 32, eb := 8, mb := 23, bias := 127, top := 16777215, inf := true, nan := true }
  | .fp64 => { bits := 64, eb := 11, mb := 52, bias := 1023, top := 9007199254740991, inf := true, nan := true }

/-- Formats of codes 0x0 to 0x9 are narrow (04 Table 4.4). -/
def fmtNarrow (f : Fmt) : Bool := (fmtInfo f).bits ≤ 8

/-! ### Exact values -/

/-- A value: not a number, an infinity, or (−1)^neg × m × 2^e exactly (a zero keeps its sign). -/
inductive Val where
  | nan
  | inf (neg : Bool)
  | fin (neg : Bool) (m : Nat) (e : Int)
  deriving DecidableEq, Repr

/-- The value with mantissa i and exponent e. -/
def mkVal (i : Int) (e : Int) : Val := .fin (i < 0) i.natAbs e

/-- The signed mantissa. -/
def sMant (neg : Bool) (m : Nat) : Int := if neg then -(m : Int) else m

/-- The value of an element's bits (04 R116). -/
def decodeElem (f : Fmt) (b : Nat) : Val :=
  let i := fmtInfo f
  if i.int then
    let v : Int := if b < 2 ^ (i.bits - 1) then b else (b : Int) - 2 ^ i.bits
    mkVal v 0
  else
    let neg := b.testBit (i.bits - 1)
    let E := b / 2 ^ i.mb % 2 ^ i.eb
    let M := b % 2 ^ i.mb
    if i.inf && E = 2 ^ i.eb - 1 then (if M = 0 then .inf neg else .nan)
    else if i.nan && !i.inf && E = 2 ^ i.eb - 1 && M = 2 ^ i.mb - 1 then .nan
    else if E = 0 then .fin neg M (1 - (i.bias : Int) - i.mb)
    else .fin neg (2 ^ i.mb + M) ((E : Int) - i.bias - i.mb)

/-- m × 2^k as an integer part and the remainder's place: the quotient by 2^q, with the part left over as a numerator over 2^d. -/
def cutAt (m : Nat) (e q : Int) : Nat × Nat × Nat :=
  if q ≤ e then (m * 2 ^ (e - q).toNat, 0, 0)
  else let d := (q - e).toNat; (m / 2 ^ d, m % 2 ^ d, d)

/-- Rounding modes (04 R136): to nearest even, or stochastic with a 32-bit random integer. -/
inductive RMode where
  | rne
  | sr (r : Nat)
  deriving DecidableEq, Repr

/-- Round a magnitude to a multiple of 2^q: the count of steps. -/
def roundSteps (mode : RMode) (m : Nat) (e q : Int) : Nat :=
  let (k, rem, d) := cutAt m e q
  if rem = 0 then k
  else match mode with
    | .rne => if 2 ^ d < 2 * rem || (2 ^ d = 2 * rem && k % 2 = 1) then k + 1 else k
    | .sr r => if r < rem * 2 ^ 32 / 2 ^ d then k + 1 else k

/-- floor(log2) of a magnitude that is not zero. -/
def topExp (m : Nat) (e : Int) : Int := e + (Nat.log2 m : Nat)

/-! ### Flags (04 Table 4.11), as bits -/

def flSat : Nat := 1
def flLow : Nat := 2
def flOvf : Nat := 4
def flUnf : Nat := 8
def flNan : Nat := 16
def flInf : Nat := 32
def flInvalid : Nat := 64
def flDiv0 : Nat := 128
def flScaleNan : Nat := 256

/-- The canonical NaN (04 R117); 0 for a format without NaN. -/
def nanBits (f : Fmt) : Nat :=
  match f with
  | .e4m3 | .mx8a | .e5m2 | .mx8b => 0x7F
  | .bf16 => 0x7FC0
  | .fp16 => 0x7E00
  | .fp32 => 0x7FC00000
  | .fp64 => 0x7FF8000000000000
  | _ => 0

/-- An infinity's bits. -/
def infBits (i : FmtInfo) (neg : Bool) : Nat := neg.toNat * 2 ^ (i.bits - 1) + (2 ^ i.eb - 1) * 2 ^ i.mb

/-- The exponent of the smallest step and of the top step of a floating-point format. -/
def minStep (i : FmtInfo) : Int := 1 - (i.bias : Int) - i.mb
def maxStep (i : FmtInfo) : Int := ((if i.inf then 2 ^ i.eb - 2 else 2 ^ i.eb - 1 : Nat) : Int) - i.bias - i.mb

/-- Bits of the magnitude k × 2^q on a format's grid. -/
def encodeMag (i : FmtInfo) (k : Nat) (q : Int) : Nat :=
  if k < 2 ^ i.mb then k
  else if k = 2 ^ (i.mb + 1) then (q - minStep i + 2).toNat * 2 ^ i.mb
  else (q - minStep i + 1).toNat * 2 ^ i.mb + (k - 2 ^ i.mb)

/-- The largest finite value of a sign. -/
def maxBits (i : FmtInfo) (neg : Bool) : Nat :=
  neg.toNat * 2 ^ (i.bits - 1) + encodeMag i i.top (maxStep i)

/-- Write a value in a format, rounded once; the bits and the flags raised (04 R135, R139, R142, R575, Table 4.10). -/
def writeVal (f : Fmt) (mode : RMode) (v : Val) : Nat × Nat :=
  let i := fmtInfo f
  match v with
  | .nan => if i.nan then (nanBits f, flNan) else (0, flInvalid)
  | .inf neg =>
    if i.int then ((if neg then 2 ^ (i.bits - 1) else 2 ^ (i.bits - 1) - 1), flOvf)
    else if i.inf then (infBits i neg, flInf) else (maxBits i neg, flOvf)
  | .fin neg m e =>
    if i.int then
      let k := roundSteps mode m e 0
      let lim := if neg then 2 ^ (i.bits - 1) else 2 ^ (i.bits - 1) - 1
      if lim < k then ((if neg then 2 ^ (i.bits - 1) else 2 ^ (i.bits - 1) - 1), flOvf)
      else ((if neg then (2 ^ i.bits - k) % 2 ^ i.bits else k), if k = 0 && m ≠ 0 then flUnf else 0)
    else if m = 0 then (neg.toNat * 2 ^ (i.bits - 1), 0)
    else
      let q := min (max (topExp m e - i.mb) (minStep i)) (maxStep i)
      let k := roundSteps mode m e q
      if q = maxStep i && i.top < k then (maxBits i neg, flOvf)
      else (neg.toNat * 2 ^ (i.bits - 1) + encodeMag i k q, if k = 0 then flUnf else 0)

/-! ### Exact arithmetic on values -/

def vNeg : Val → Val
  | .nan => .nan
  | .inf n => .inf (!n)
  | .fin n m e => .fin (!n) m e

def vAbs : Val → Val
  | .nan => .nan
  | .inf _ => .inf false
  | .fin _ m e => .fin false m e

/-- The exact product; infinity times zero is not a number and raises INVALID. -/
def vMul : Val → Val → Val × Nat
  | .nan, _ => (.nan, 0)
  | _, .nan => (.nan, 0)
  | .inf a, .inf b => (.inf (a != b), 0)
  | .inf a, .fin b m _ => if m = 0 then (.nan, flInvalid) else (.inf (a != b), 0)
  | .fin a m _, .inf b => if m = 0 then (.nan, flInvalid) else (.inf (a != b), 0)
  | .fin a m e, .fin b n f => (.fin (a != b) (m * n) (e + f), 0)

/-- The exact sum; infinities of opposite sign raise INVALID. A sum of zero is +0 unless both terms are negative zeros. -/
def vAdd : Val → Val → Val × Nat
  | .nan, _ => (.nan, 0)
  | _, .nan => (.nan, 0)
  | .inf a, .inf b => if a = b then (.inf a, 0) else (.nan, flInvalid)
  | .inf a, .fin _ _ _ => (.inf a, 0)
  | .fin _ _ _, .inf b => (.inf b, 0)
  | .fin a m e, .fin b n f =>
    let q := min e f
    let i := sMant a m * 2 ^ (e - q).toNat + sMant b n * 2 ^ (f - q).toNat
    if i = 0 then (.fin (a && b && m = 0) 0 q, 0) else (mkVal i q, 0)

/-- Strictly less, for ordered comparisons; false with a NaN. −0 orders below +0 only where `zeros` asks for it (04 R140). -/
def vLt (zeros : Bool) : Val → Val → Bool
  | .nan, _ => false
  | _, .nan => false
  | .inf a, .inf b => a && !b
  | .inf a, .fin _ _ _ => a
  | .fin _ _ _, .inf b => !b
  | .fin a m e, .fin b n f =>
    if m = 0 && n = 0 then zeros && a && !b
    else
      let q := min e f
      sMant a m * 2 ^ (e - q).toNat < sMant b n * 2 ^ (f - q).toNat

def vIsNan : Val → Bool
  | .nan => true
  | _ => false

def vIsZero : Val → Bool
  | .fin _ 0 _ => true
  | _ => false

def vEq (a b : Val) : Bool := !vIsNan a && !vIsNan b && !vLt false a b && !vLt false b a

/-- minimumNumber and maximumNumber (04 R140). -/
def vMin (a b : Val) : Val := if vIsNan a then b else if vIsNan b then a else if vLt true b a then b else a
def vMax (a b : Val) : Val := if vIsNan a then b else if vIsNan b then a else if vLt true a b then b else a

/-- The quotient m / n of two magnitudes, cut to 128 bits below its top with a last bit that says whether anything was cut: enough
that every rounding of it to a format is that of the exact quotient. -/
def quotient (m : Nat) (e : Int) (n : Nat) (f : Int) : Nat × Int :=
  let sh := 128 + (Nat.log2 n + 1) 
  let q := m * 2 ^ sh / n
  (2 * q + (if m * 2 ^ sh % n = 0 then 0 else 1), e - f - sh - 1)

/-- a / b. Zero over zero and infinity over infinity are not numbers. -/
def vDiv : Val → Val → Val × Nat
  | .nan, _ => (.nan, 0)
  | _, .nan => (.nan, 0)
  | .inf _, .inf _ => (.nan, flInvalid)
  | .inf a, .fin b _ _ => (.inf (a != b), 0)
  | .fin a _ _, .inf b => (.fin (a != b) 0 0, 0)
  | .fin a m e, .fin b n f =>
    if n = 0 then (if m = 0 then (.nan, flInvalid) else (.inf (a != b), flDiv0))
    else let (k, q) := quotient m e n f; (.fin (a != b) k q, 0)

/-- FP32 bits of a value, rounded to nearest even. -/
def toF32 (v : Val) : Nat := (writeVal .fp32 .rne v).1
def ofF32 (b : Nat) : Val := decodeElem .fp32 b
/-- A value rounded once to FP32, and the flags raised. -/
def roundF32 (v : Val) : Val × Nat := let (b, f) := writeVal .fp32 .rne v; (ofF32 b, f)

/-! ### Special functions (04 Table 4.9) -/

def fnExp : Nat := 0
def fnLog : Nat := 1
def fnRsqrt : Nat := 2
def fnTanh : Nat := 3
def fnSigmoid : Nat := 4
def fnSilu : Nat := 5
def fnGelu : Nat := 6

def vOne : Val := .fin false 1 0

/-- A finite value within the error of Table 4.9: so many ulp of FP32 at the exact result, in fixed point (04 R141). -/
def withinUlp (fn : Nat) (exact : Int) : Val → Bool
  | .fin neg m e =>
    let q := max ((Nat.log2 exact.natAbs : Int) - fxBits - 23) (-149)
    (((if neg then -(fxOf m e) else fxOf m e) - exact).natAbs : Int) ≤ ulpBound fn * 2 ^ (q + fxBits).toNat
  | _ => false

/-- The largest finite FP32 value. -/
def f32Max : Val := .fin false (2 ^ 24 - 1) 104

/-- A special function's result where Table 4.9 gives its error alone: what `Config.special` has if that is within the error, else the
nearest FP32 value; exp above the largest finite value gives that value with OVF. -/
def specialFinite (fn : Nat) (neg : Bool) (m : Nat) (e : Int) : Val × Nat :=
  let exact := fxSpecial fn neg m e
  if fn = fnExp && (2 ^ 24 - 1) * 2 ^ (104 + fxBits) < exact then (f32Max, flOvf)
  else
    let c := ofF32 (Config.special fn (BitVec.ofNat 32 (toF32 (.fin neg m e)))).toNat
    let r := if withinUlp fn exact c then c else (roundF32 (mkVal exact (-fxBits))).1
    (r, if vIsZero r && exact ≠ 0 then flUnf else 0)

/-- A special function's FP32 result and flags. -/
def special (fn : Nat) (v : Val) : Val × Nat :=
  match v with
  | .nan => (.nan, 0)
  | .inf neg =>
    if fn = fnExp || fn = fnSigmoid then (if neg then .fin false 0 0 else if fn = fnExp then .inf false else vOne, 0)
    else if fn = fnLog || fn = fnRsqrt then
      (if neg then (.nan, flInvalid) else if fn = fnLog then (.inf false, 0) else (.fin false 0 0, 0))
    else if fn = fnTanh then (.fin neg 1 0, 0)
    else (if neg then .fin true 0 0 else .inf false, 0)
  | .fin neg m e =>
    if fn = fnLog then (if m = 0 then (.inf true, flDiv0) else if neg then (.nan, flInvalid) else specialFinite fn neg m e)
    else if fn = fnRsqrt then (if m = 0 then (.inf neg, flDiv0) else if neg then (.nan, flInvalid) else specialFinite fn neg m e)
    else specialFinite fn neg m e

/-- The reciprocal, exact before its one rounding (04 Table 4.9). -/
def recip (v : Val) : Val × Nat :=
  match v with
  | .nan => (.nan, 0)
  | .inf neg => (.fin neg 0 0, 0)
  | .fin neg m e => if m = 0 then (.inf neg, flDiv0) else let (k, q) := quotient 1 0 m e; (.fin neg k q, 0)

/-! ### The exact accumulator (04 R124) -/

/-- One term placed on the grid 2^b: the integer, and SAT and LOW. -/
def placeTerm (b : Int) (neg : Bool) (m : Nat) (e : Int) : Int × Bool × Bool :=
  let (k0, rem, _) := cutAt m e b
  let k := if rem = 0 then k0 else roundSteps .rne m e b
  let lim := 2 ^ 122 - 1
  if lim < k then (sMant neg lim, true, rem ≠ 0) else (sMant neg k, false, rem ≠ 0)

/-- An exact sum with an automatic base (04 R126): the value, and the flags LOW, INVALID and NaN-making terms. -/
def exactSum (terms : List Val) : Val × Nat :=
  let tops := terms.filterMap (fun t => match t with
    | .fin _ m e => if m = 0 then none else some (topExp m e)
    | _ => none)
  let b : Int := match tops.max? with
    | some t => t - 121
    | none => -90
  let nan := terms.any vIsNan
  let pinf := terms.contains (.inf false)
  let ninf := terms.contains (.inf true)
  let parts := terms.filterMap (fun t => match t with
    | .fin neg m e => some (placeTerm b neg m e)
    | _ => none)
  let low := parts.any (fun x => x.2.2)
  let fl := if low then flLow else 0
  if nan then (.nan, fl)
  else if pinf && ninf then (.nan, fl ||| flInvalid)
  else if pinf then (.inf false, fl)
  else if ninf then (.inf true, fl)
  else (mkVal ((parts.map (fun x => x.1)).sum) b, fl)

/-- Round a mantissa and exponent to a number of significant bits, to nearest even (04 R129). -/
def roundSig (bits : Nat) (i e : Int) : Int × Int :=
  if i = 0 then (0, 0)
  else
    let q := max e (topExp i.natAbs e - bits + 1)
    let k := roundSteps .rne i.natAbs e q
    (if i < 0 then -(k : Int) else k, q)

/-- The exact sum of two mantissa and exponent pairs. -/
def addPair (i e j f : Int) : Int × Int :=
  let q := min e f
  (i * 2 ^ (e - q).toNat + j * 2 ^ (f - q).toNat, q)

/-- One compensated addition (04 R129): HI and LO after the term. -/
def compAdd (hiM hiE loM loE pM pE : Int) : Int × Int × Int × Int :=
  let (tM, tE) := addPair hiM hiE pM pE
  let (sM, sE) := roundSig 24 tM tE
  let (eM, eE) := addPair tM tE (-sM) sE
  let (lM, lE) := addPair loM loE eM eE
  let (lM, lE) := roundSig 48 lM lE
  (sM, sE, lM, lE)

/-! ### The rounding stream: Philox4x32-10 (04 R137, Table 4.8; its round constants by log entry 13) -/

def philoxRound (c : Nat × Nat × Nat × Nat) (k0 k1 : Nat) : Nat × Nat × Nat × Nat :=
  let p0 := 0xD2511F53 * c.1
  let p1 := 0xCD9E8D57 * c.2.2.1
  ((p1 / 2 ^ 32) ^^^ c.2.1 ^^^ k0, p1 % 2 ^ 32, (p0 / 2 ^ 32) ^^^ c.2.2.2 ^^^ k1, p0 % 2 ^ 32)

def philoxRounds : Nat → Nat × Nat × Nat × Nat → Nat → Nat → Nat × Nat × Nat × Nat
  | 0, c, _, _ => c
  | n + 1, c, k0, k1 => philoxRounds n (philoxRound c k0 k1) ((k0 + 0x9E3779B9) % 2 ^ 32) ((k1 + 0xBB67AE85) % 2 ^ 32)

/-- The output block for a key and counter. -/
def philox (key c0 c1 c2 c3 : Nat) : Nat × Nat × Nat × Nat :=
  philoxRounds 10 (c0 % 2 ^ 32, c1 % 2 ^ 32, c2 % 2 ^ 32, c3 % 2 ^ 32) (key % 2 ^ 32) (key / 2 ^ 32 % 2 ^ 32)

/-- Word n of a block. -/
def blockWord (b : Nat × Nat × Nat × Nat) : Nat → Nat
  | 0 => b.1 | 1 => b.2.1 | 2 => b.2.2.1 | _ => b.2.2.2

/-- The random integer of element e in a rounding stream (04 R137). -/
def srWord (seed stream e : Nat) : Nat := blockWord (philox seed (e / 4) 0 0 (0x53520000 + stream)) (e % 4)

/-- The rounding mode of element e: code 1 is SR, any other RNE. -/
def rmode (code seed stream e : Nat) : RMode := if code = 1 then .sr (srWord seed stream e) else .rne

/-! ### Rows of packed elements (04 Table 4.1, R119) -/

/-- Bytes of a row of n elements: 6-bit elements come four to 3 bytes, 4-bit ones two to a byte. -/
def rowBytes (f : Fmt) (n : Nat) : Nat :=
  let b := (fmtInfo f).bits
  if b = 6 then (n + 3) / 4 * 3 else (n * b + 7) / 8

/-- Bytes of a scale row for rows of n elements (04 Table 4.3). -/
def scaleRowBytes (n : Nat) : Nat := (4 + (n + 31) / 32 + 31) / 32 * 32

/-- Element k of a row held as a little-endian number. -/
def elemBits (f : Fmt) (row k : Nat) : Nat := row / 2 ^ ((fmtInfo f).bits * k) % 2 ^ (fmtInfo f).bits

/-- A value scaled by the block scale x: 2^(x − 127); 0xFF is NaN (04 R118, R120). -/
def scaleBy (x : Nat) (v : Val) : Val :=
  if x = 255 then .nan
  else match v with
    | .fin n m e => .fin n m (e + (x : Int) - 127)
    | w => w

end Sys2Proof.Machine
end

