-- ==== Sys2Proof/Machine/MacroOps.lean ====
section
/-! DEFINITION. Machine/MacroOps.lean: what every macro-operation shares: its unit, the scratchpad ranges it reads and writes, the
scoreboard, starting it, carrying out its effect and completing it (03 R86 to R91, 04 R144 to R147). -/
namespace Sys2Proof.Machine
open Sys2Proof

/-! ### Units (03 R86, Table 3.3) -/

inductive CoreUnit where
  | matrix | vector | mover | sync
  deriving DecidableEq, Repr

def unitOf : Family → CoreUnit
  | .matmul | .attn => .matrix
  | .vec | .reduce | .sample => .vector
  | .move | .fill | .copy => .mover
  | .give | .take | .wait | .barrier | .illegal => .sync

/-- Macro-operations a unit runs at a time. -/
def unitRoom : CoreUnit → Nat
  | .mover => 4
  | _ => 1

/-! ### Tensor sizes (04 Table 4.1, Table 4.3; row-major by log entry 14) -/

/-- The format an operand names; code 0xF where it names none. -/
def fmtArg (o : MacroOp) (a : Arg) : Option Fmt := fmtOf (arg o a)

/-- Bytes of `rows` rows of `cols` elements. -/
def matBytes (f : Option Fmt) (rows cols : Nat) : Nat := f.elim 0 (fun f => rows * rowBytes f cols)

def isMx (f : Option Fmt) : Bool := f.elim false (fun f => (fmtInfo f).mx)

/-- Rows of `cols` elements that `len` elements fill; a row length of 0 stands for one row. -/
def vecCols (o : MacroOp) : Nat := if arg o .cols = 0 then max 1 (arg o .len) else arg o .cols
def vecRows (o : MacroOp) : Nat := (arg o .len + vecCols o - 1) / vecCols o

/-- Bytes of a vector operand of `len` elements, whole rows and a last one that may be short. -/
def vecBytes (o : MacroOp) (f : Option Fmt) (bcast : Nat) : Nat :=
  let c := vecCols o
  let n := arg o .len
  f.elim 0 (fun f =>
    if bcast = 1 then rowBytes f c
    else if bcast = 2 then rowBytes f (vecRows o)
    else n / c * rowBytes f c + (if n % c = 0 then 0 else rowBytes f (n % c)))

/-- Sources of an element-wise operation (03 R97): 0 add, 1 subtract, 2 multiply, 3 fused multiply-add, 4 minimum, 5 maximum,
6 absolute value, 7 negate, 8 exponential, 9 logarithm, 10 reciprocal, 11 reciprocal square root, 12 tanh, 13 sigmoid, 14 SiLU,
15 GELU, 16 compare, 17 select, 18 conversion. -/
def vecSources (vop : Nat) : Nat :=
  if vop = 3 || vop = 17 then 3 else if vop ≤ 5 || vop = 16 then 2 else 1

/-- A range of a handle: handle, offset, length, and the alignment Table 5.4 asks of it. -/
structure HRange where
  h : Nat
  off : Nat
  len : Nat
  align : Nat := 1
  deriving DecidableEq, Repr

/-- Scale rows of a vector source and their row length: a row broadcast reads one row, a column broadcast one row with an element for each
row of the result (03 R97, 04 R118). -/
def vecScaleShape (o : MacroOp) (bcast : Nat) : Nat × Nat :=
  if bcast = 1 then (1, vecCols o) else if bcast = 2 then (1, vecRows o) else (vecRows o, vecCols o)

/-- The vector source j of an operation, with its scale tensor. -/
def vecSource : Nat → Arg × Arg × Arg × Arg
  | 0 => (.src1, .fmt1, .bcast1, .hSA)
  | 1 => (.src2, .fmt2, .bcast2, .hSB)
  | _ => (.src3, .fmt3, .bcast3, .hSV)

def vecReads (o : MacroOp) : List HRange :=
  (List.range (vecSources (arg o .vop))).flatMap (fun j =>
    let (h, f, b, sc) := vecSource j
    [{ h := arg o h, off := 0, len := vecBytes o (fmtArg o f) (arg o b) }] ++
    (if isMx (fmtArg o f) then [{ h := arg o sc, off := 0, len := (vecScaleShape o (arg o b)).1 * scaleRowBytes (vecScaleShape o (arg o b)).2 }] else []))

/-- The scratchpad ranges a macro-operation reads (03 R88). -/
def opReads (o : MacroOp) : List HRange :=
  match o.fam with
  | .matmul =>
    let a := fmtArg o .fmtA
    let b := fmtArg o .fmtB
    [{ h := arg o .hA, off := 0, len := if arg o .transA = 1 then matBytes a (arg o .k) (arg o .m) else matBytes a (arg o .m) (arg o .k) },
     { h := arg o .hB, off := 0, len := if arg o .transB = 1 then matBytes b (arg o .n) (arg o .k) else matBytes b (arg o .k) (arg o .n) }] ++
    (if isMx a then [{ h := arg o .hSA, off := 0, len := arg o .m * scaleRowBytes (arg o .k) }] else []) ++
    (if isMx b then [{ h := arg o .hSB, off := 0, len := arg o .n * scaleRowBytes (arg o .k) }] else [])
  | .attn =>
    let q := fmtArg o .fmt1
    let k := fmtArg o .fmt2
    let v := fmtArg o .fmt3
    let d := arg o .headDim
    let b := arg o .blockLen
    [{ h := arg o .hQ, off := 0, len := matBytes q (arg o .rows) d }, { h := arg o .hK, off := 0, len := matBytes k b d },
     { h := arg o .hV, off := 0, len := matBytes v b d }, { h := arg o .hState, off := 0, len := arg o .rows * (8 + 4 * d) }] ++
    (if isMx q then [{ h := arg o .hSA, off := 0, len := arg o .rows * scaleRowBytes d }] else []) ++
    (if isMx k then [{ h := arg o .hSB, off := 0, len := b * scaleRowBytes d }] else []) ++
    (if isMx v then [{ h := arg o .hSV, off := 0, len := d * scaleRowBytes b }] else []) ++
    (if arg o .maskMode = 2 then [{ h := arg o .hMask, off := 0, len := arg o .rows * ((b + 7) / 8) }] else [])
  | .vec => vecReads o
  | .reduce =>
    [{ h := arg o .src1, off := 0, len := matBytes (fmtArg o .fmt1) (arg o .rows) (arg o .cols) }] ++
    (if isMx (fmtArg o .fmt1) then [{ h := arg o .hSA, off := 0, len := arg o .rows * scaleRowBytes (arg o .cols) }] else [])
  | .sample => [{ h := arg o .src1, off := 0, len := matBytes (fmtArg o .fmt1) (arg o .rows) (arg o .vocab) }]
  | .move => if arg o .srcKind = 0 then [{ h := arg o .srcHandle, off := arg o .srcOff, len := arg o .size, align := 32 }] else []
  | .copy => [{ h := arg o .srcHandle, off := arg o .srcOff, len := arg o .size, align := 32 }]
  | _ => []

/-- The scratchpad ranges a macro-operation writes (03 R88). A SAMPLE's result and the data a MOVE brings in from elsewhere land
later and are ordered by counters alone. -/
def opWrites (o : MacroOp) : List HRange :=
  match o.fam with
  | .matmul => if arg o .wb = 1 then [{ h := arg o .hC, off := 0, len := matBytes (fmtArg o .fmtOut) (arg o .m) (arg o .n) }] else []
  | .attn =>
    [{ h := arg o .hState, off := 0, len := arg o .rows * (8 + 4 * arg o .headDim) }] ++
    (if arg o .final = 1 then [{ h := arg o .hOut, off := 0, len := matBytes (fmtArg o .fmtOut) (arg o .rows) (arg o .headDim) }] else [])
  | .vec =>
    let f := fmtArg o .fmtOut
    [{ h := arg o .dst, off := 0, len := if arg o .accumulate = 1 then 8 else vecBytes o f 0 }] ++
    (if isMx f then [{ h := arg o .hSC, off := 0, len := vecRows o * scaleRowBytes (vecCols o) }] else [])
  | .reduce => [{ h := arg o .dst, off := 0, len := matBytes (fmtArg o .fmtOut) 1 (arg o .rows) }]
  | .move => if arg o .dstKind = 0 then [{ h := arg o .dstHandle, off := arg o .dstOff, len := arg o .size, align := 32 }] else []
  | .fill | .copy => [{ h := arg o .dstHandle, off := arg o .dstOff, len := arg o .size, align := 32 }]
  | _ => []

/-! ### Starting (03 R86, R88, R89; 01 R42) -/

/-- The physical words of some ranges, which the scoreboard compares (05 R164). -/
def State.wordsOf (s : State) (g : Nat) (rs : List HRange) : List Nat := rs.flatMap (fun r => hWords (s.handle g r.h) r.off r.len)

/-- The bytes of a handle range, as spans of physical words: word, first byte, byte after the last (03 R84). -/
def hSpans (v off len : Nat) : List (Nat × Nat × Nat) :=
  if len = 0 then []
  else (List.range ((off + len - 1) / 32 + 1 - off / 32)).map (fun j =>
    (hWord v (off / 32 + j), if j = 0 then off % 32 else 0, if off / 32 + j = (off + len - 1) / 32 then (off + len - 1) % 32 + 1 else 32))

def State.spansOf (s : State) (g : Nat) (rs : List HRange) : List (Nat × Nat × Nat) :=
  rs.flatMap (fun r => hSpans (s.handle g r.h) r.off r.len)

/-- Two sets of spans share a byte. -/
def overlap (a b : List (Nat × Nat × Nat)) : Bool :=
  a.any (fun x => b.any (fun y => x.1 = y.1 && x.2.1 < y.2.2 && y.2.1 < x.2.2))

/-- Two sets of words share one. -/
def meet (a b : List Nat) : Bool := a.any b.contains

/-- The macro-operations of a core that have not completed and are earlier in program order than `id`. -/
def Core.earlier (c : Core) (id : Nat) : List MacroOp := (c.started.map Running.op ++ c.queue).filter (fun o => o.id < id)

/-- The scoreboard lets the macro-operation start. Accumulator entries need no entry of their own: the only unit that uses them
runs one macro-operation at a time, in program order. -/
def State.boardFree (s : State) (g : Nat) (o : MacroOp) : Bool :=
  let rd := s.wordsOf g (opReads o)
  let wr := s.wordsOf g (opWrites o)
  ((s.core g).earlier o.id).all (fun e =>
    let ew := s.wordsOf g (opWrites e)
    !meet rd ew && !meet wr ew && !meet wr (s.wordsOf g (opReads e)))

/-- A unit has room and the macro-operation is the first of its unit in the queue (03 R86). -/
def Core.unitFree (c : Core) (o : MacroOp) : Bool :=
  let u := unitOf o.fam
  (c.started.filter (fun r => unitOf r.op.fam = u)).length < unitRoom u
    && (c.queue.filter (fun x => unitOf x.fam = u)).all (fun x => o.id ≤ x.id)

/-- A GIVE or BARRIER waits for every earlier macro-operation (03 R89, 06 R204). -/
def waitsForAll : Family → Bool
  | .give | .barrier => true
  | _ => false

/-- A heavy macro-operation holds its token, or its number is out of range and it ends with an error (01 R42). -/
def Core.tokenReady (c : Core) (o : MacroOp) : Bool :=
  !isHeavy o.fam || 96 ≤ arg o .token || c.token.elim false (fun k => k.1 = o.id)

/-- MACRO_OP_START: the unit takes the macro-operation from the queue. -/
def State.macroOpStart (s : State) (g id : Nat) : State :=
  let c := s.core g
  match c.queue.find? (fun o => o.id = id) with
  | none => s
  | some o =>
    if s.awake (g / 96) && !s.stepping (g / 96) && (s.pstate (s.corePart g)).active && c.cp ≠ .error && c.unitFree o && c.tokenReady o && s.boardFree g o
        && (!waitsForAll o.fam || (c.earlier id).isEmpty) then
      s.setCore g { c with queue := c.queue.filter (fun x => x.id ≠ id), started := c.started ++ [{ op := o }] }
    else s

def execMacroOpStart (g id : Nat) (s : State) : Host.Outcome State Fault Refusal := .next (s.macroOpStart g id)

/-! ### Carrying out the effect -/

/-- What the effect of a macro-operation leaves: the state, the error it ends with (0 for none), its flags, and whether it waits:
`stays` to be carried out again, with the HOLD_CAUSE code of the level it waits at, `blocks` for a TAKE, WAIT or BARRIER. -/
structure Effect where
  st : State
  err : Nat := 0
  flags : Nat := 0
  stays : Bool := false
  level : Nat := 0
  blocks : Bool := false

/-- Update the record of a started macro-operation. -/
def State.setRun (s : State) (g id : Nat) (f : Running → Running) : State :=
  let c := s.core g
  s.setCore g { c with started := c.started.map (fun r => if r.op.id = id then f r else r) }

/-- The started macro-operation of a family whose effect is not yet carried out. -/
def State.toRun (s : State) (g id : Nat) (fam : Family) : Option MacroOp :=
  ((s.core g).started.find? (fun r => r.op.id = id && r.op.fam = fam && !r.done && !r.blocked)).map Running.op

/-- Carry out a started macro-operation; nothing happens when there is none. -/
def State.runOp (s : State) (g id : Nat) (fam : Family) (f : State → MacroOp → Effect) : State :=
  match s.toRun g id fam with
  | none => s
  | some o =>
    let e := if isHeavy fam && 96 ≤ arg o .token then { st := s, err := E_PLAN_TOKEN_RANGE } else f s o
    if e.stays then e.st.setRun g id (fun r => { r with level := e.level })
    else if e.blocks then e.st.setRun g id (fun r => { r with blocked := true })
    else e.st.setRun g id (fun r => { r with done := true, level := 0, err := e.err, flags := e.flags })

/-- The handle checks of some accesses, in order; 0 when all pass (05 R163). -/
def State.rangesCode (s : State) (g : Nat) (perm : Perm) : List HRange → Nat
  | [] => 0
  | r :: t => let c := s.handleCode g r.h perm r.off r.len r.align; if c = 0 then s.rangesCode g perm t else c

/-- Ranges written later by another unit, which the handle checks cover all the same: the results of a SAMPLE, 4 bytes a row (03 R99). -/
def opLater (o : MacroOp) : List HRange :=
  if o.fam = .sample then [{ h := arg o .result, off := 0, len := 4 * arg o .rows }] else []

/-- The handle checks of everything a macro-operation touches: sources, then destinations. -/
def State.accessCode (s : State) (g : Nat) (o : MacroOp) : Nat :=
  let c := s.rangesCode g .lr (opReads o)
  if c = 0 then s.rangesCode g .lw (opWrites o ++ opLater o) else c

/-- Read what a macro-operation reads: an uncorrectable word ends it (05 R155, R157). -/
def State.consume (s : State) (g : Nat) (o : MacroOp) : State × Nat := s.consumeWords g (s.wordsOf g (opReads o))

/-- Carry out an effect after the checks: `shape` is the family's own check, made first. One that waits has read nothing yet. -/
def State.checked (s : State) (g : Nat) (o : MacroOp) (shape : Nat) (f : State → Effect) : Effect :=
  if shape ≠ 0 then { st := s, err := shape }
  else
    let c := s.accessCode g o
    if c ≠ 0 then { st := s, err := c }
    else
      let (t, e) := s.consume g o
      if e ≠ 0 then { st := t, err := e }
      else
        let x := f t
        if x.stays then { x with st := s } else x

/-- Write results to handles in order; the first write that fails ends the macro-operation (05 R156). -/
def State.writeAll (s : State) (g : Nat) : List (Nat × Nat × List Byte) → State × Nat
  | [] => (s, 0)
  | (h, off, data) :: t => let (s, e) := s.hWrite g h off data; if e = 0 then s.writeAll g t else (s, e)

/-! ### Completing (03 R90; 04 R144, R145, R147) -/

/-- The flag fields in the order of their bits. -/
def arithFlags : List Fld :=
  [.ARITH_FLAGS_SAT, .ARITH_FLAGS_LOW, .ARITH_FLAGS_OVF, .ARITH_FLAGS_UNF, .ARITH_FLAGS_NAN, .ARITH_FLAGS_INF, .ARITH_FLAGS_INVALID,
   .ARITH_FLAGS_DIV0, .ARITH_FLAGS_SCALE_NAN]

/-- Set sticky flags; the first macro-operation that sets any leaves its TAG, and of two units that set flags in one cycle the one that is
earlier in program order (04 R144). -/
def State.raiseFlags (s : State) (g flags tag id : Nat) : State :=
  if flags % 512 = 0 then s
  else
    let fresh : Bool := arithFlags.all (fun f => s.fld f g = 0)
    let s := (arithFlags.zipIdx).foldl (fun s f => if flags.testBit f.2 then s.setFld f.1 1 g else s) s
    if fresh || (s.core g).tagAt.elim false (fun x => x.1 = s.raw && id < x.2) then
      let s := (s.setFld .ARITH_FIRST_TAG_TAG tag g).setFld .ARITH_FIRST_TAG_VALID 1 g
      s.setCore g { s.core g with tagAt := some (s.raw, id) }
    else s

/-- The trap a set of flags raises: the code of the lowest flag whose trap is enabled; 0 for none (04 R145, R147). -/
def State.trapCode (s : State) (g flags : Nat) : Nat :=
  match bitsOf (flags &&& s.fld .ARITH_TRAP g) 9 with
  | [] => 0
  | n :: _ => E_ARITH_ACC_SAT + n

/-- Release the token of a heavy macro-operation (01 R42). -/
def State.releaseToken (s : State) (g id : Nat) : State :=
  let nn := g / 96
  let c := s.core g
  let s := { s with tokens := bankSet [] s.tokens nn ((bankGet [] s.tokens nn).filter (fun e => !(e.2.1 = g && e.2.2 = id))) }
  if c.token.elim false (fun k => k.1 = id) then s.setCore g { c with token := none } else s

/-- The data a MOVE waits for has left its source and is on the fabric: what its transfer still expects is under way (03 R100). -/
def State.leftSource (s : State) (g : Nat) (r : Running) : Bool :=
  match r.xfer with
  | none => true
  | some id =>
    ((s.core g).xfers.find? (fun x => x.id = id)).elim true (fun x =>
      x.left ≤ (s.flight.filter (fun k => k.op = .readResp && pktCore k = g && k.xfer = id)).length)

/-- MACRO_OP_COMPLETE: a macro-operation whose effect is carried out completes. -/
def State.macroOpComplete (s : State) (g id : Nat) : State :=
  let c := s.core g
  match c.started.find? (fun r => r.op.id = id && r.done && s.leftSource g r) with
  | none => s
  | some r =>
    let p := s.corePart g
    let s := (s.setCore g { c with started := c.started.filter (fun x => x.op.id ≠ id) }).releaseToken g id
    let s := ((s.progress p).trace g 2 r.op.tag).raiseFlags g r.flags r.op.tag id
    let err := if r.err ≠ 0 then r.err else s.trapCode g r.flags
    if err = 0 then s
    else
      let c := s.core g
      (s.setCore g { c with cp := .error }).coreFault g err r.op.tag

def execMacroOpComplete (g id : Nat) (s : State) : Host.Outcome State Fault Refusal := .next (s.macroOpComplete g id)

end Sys2Proof.Machine
end

