-- ==== Sys2Proof/Machine/Matrix.lean ====
section
/-! DEFINITION. Machine/Matrix.lean: the matrix unit: MATMUL and ATTN (03 R92 to R96; 04 R118 to R138). -/
namespace Sys2Proof.Machine
open Sys2Proof

/-! ### Tensors in the scratchpad -/

/-- Rows of a tensor that starts at byte 0 of a handle, each as a little-endian number (04 Table 4.1). -/
def State.rowsAt (s : State) (g h : Nat) (f : Fmt) (rows cols : Nat) : List Nat :=
  (List.range rows).map (fun r => leNat (s.hRead g h (r * rowBytes f cols) (rowBytes f cols)))

/-- Scale rows of a tensor, each as a little-endian number (04 Table 4.3); an operand without block scales has REF and scales 127. -/
def State.scaleRows (s : State) (g h : Nat) (f : Fmt) (rows cols : Nat) : Option (List Nat) :=
  if (fmtInfo f).mx then
    some ((List.range rows).map (fun r => leNat (s.hRead g h (r * scaleRowBytes cols) (scaleRowBytes cols))))
  else none

/-- REF of a scale row, and the scale of block j. -/
def refOf (sc : Option (List Nat)) (r : Nat) : Nat := sc.elim 127 (fun l => l.getD r 0 % 256)
def blockScale (sc : Option (List Nat)) (r j : Nat) : Nat := sc.elim 127 (fun l => l.getD r 0 / 256 ^ (4 + j) % 256)

/-- A scale or REF byte of a row of `cols` elements is 0xFF. -/
def rowScaleNan (sc : Option (List Nat)) (r cols : Nat) : Bool :=
  refOf sc r = 255 || (List.range ((cols + 31) / 32)).any (fun j => blockScale sc r j = 255)

/-- The elements of a vector along the summed dimension, scaled: element k is `bits k`, scale row `r`. -/
def scaledVec (f : Fmt) (sc : Option (List Nat)) (r : Nat) (bits : Nat → Nat) (n : Nat) : List Val :=
  (List.range n).map (fun k => let v := decodeElem f (bits k); if sc.isNone then v else scaleBy (blockScale sc r (k / 32)) v)

/-- Elements packed into the bytes of a row. -/
def packRow (f : Fmt) (vals : List Nat) : List Byte :=
  leBytes (rowBytes f vals.length) ((vals.zipIdx.map (fun x => x.1 * 2 ^ ((fmtInfo f).bits * x.2))).sum)

/-! ### Classes and formats (04 Table 4.4, Table 4.7) -/

/-- The accumulation class of an operand pair: 1 exact, 2 compensated; none where the pair is not listed. -/
def pairClass (a b : Fmt) : Option Nat :=
  if fmtNarrow a && fmtNarrow b then some 1
  else if a = b && (a = .bf16 || a = .fp16 || a = .fp32) then some 2
  else none

/-- A write-back format. -/
def writeBackFmt : Fmt → Bool
  | .fp32 | .bf16 | .fp16 | .e4m3 | .e5m2 | .int32 | .int8 => true
  | _ => false

/-! ### Entries (04 R124, R129 to R133) -/

/-- A term that is no finite number sets a sticky bit (04 R124, R133). -/
def AccEntry.sticky (e : AccEntry) (t : Val) (invalid : Bool) : AccEntry :=
  match t with
  | .nan => { e with nan := true, invalid := e.invalid || invalid }
  | .inf false => { e with pinf := true }
  | .inf true => { e with ninf := true }
  | .fin _ _ _ => e

/-- Add one exact product to an entry of the exact class. -/
def AccEntry.addExact (e : AccEntry) (t : Val) (invalid : Bool) : AccEntry :=
  match t with
  | .fin neg m x =>
    let (q, sat, low) := placeTerm e.b neg m x
    { e with a := e.a + q, sat := e.sat || sat, low := e.low || low }
  | _ => e.sticky t invalid

/-- Add one exact product to an entry of the compensated class. -/
def AccEntry.addComp (e : AccEntry) (t : Val) (invalid : Bool) : AccEntry :=
  match t with
  | .fin neg m x =>
    let (hm, he, lm, le) := compAdd e.hiM e.hiE e.loM e.loE (sMant neg m) x
    { e with hiM := hm, hiE := he, loM := lm, loE := le }
  | _ => e.sticky t invalid

/-- An FP32 value as a head of at most 12 significant bits and the rest (04 R132). -/
def splitF32 (v : Val) : Val × Val :=
  match v with
  | .fin neg m e => let d := Nat.log2 m - 11; (.fin neg (m / 2 ^ d * 2 ^ d) e, .fin neg (m % 2 ^ d) e)
  | w => (w, .fin false 0 0)

/-- The terms of one k, in the order in which they are added (04 R132). -/
def termsOf (f : Fmt) (a b : Val) : List (Val × Bool) :=
  let one : Val × Bool := let (v, fl) := vMul a b; (v, fl ≠ 0)
  match f, a, b with
  | .fp32, .fin _ _ _, .fin _ _ _ =>
    let (ah, al) := splitF32 a
    let (bh, bl) := splitF32 b
    [((vMul ah bh).1, false), ((vMul ah bl).1, false), ((vMul al bh).1, false), ((vMul al bl).1, false)]
  | _, _, _ => [one]

/-- Accumulate a row of op(A) with a column of op(B) onto an entry, in ascending k. -/
def accumulateDot (cls : Nat) (f : Fmt) (e : AccEntry) (a b : List Val) : AccEntry :=
  (a.zip b).foldl (fun e x => (termsOf f x.1 x.2).foldl (fun e t => if cls = 1 then e.addExact t.1 t.2 else e.addComp t.1 t.2) e) e

/-- The exact value of an entry. -/
def AccEntry.value (e : AccEntry) (cls : Nat) : Val :=
  if cls = 1 then mkVal e.a e.b else let (i, x) := addPair e.hiM e.hiE e.loM e.loE; mkVal i x

/-- The result of an entry at write-back and its flags (04 R135). -/
def AccEntry.result (e : AccEntry) (cls : Nat) (f : Fmt) (mode : RMode) : Nat × Nat :=
  let sticky := (if e.sat then flSat else 0) ||| (if e.low then flLow else 0)
  if e.nan || (e.pinf && e.ninf) then
    let (b, fl) := writeVal f mode .nan
    (b, fl ||| sticky ||| (if e.invalid || (e.pinf && e.ninf) then flInvalid else 0))
  else
    let (b, fl) := writeVal f mode (if e.pinf then .inf false else if e.ninf then .inf true else e.value cls)
    (b, fl ||| sticky)

/-! ### MATMUL -/

/-- The checks of R92 and R121 in order: limits, then formats. -/
def matmulCode (o : MacroOp) : Nat :=
  let m := arg o .m
  let n := arg o .n
  let k := arg o .k
  if m = 0 || 256 < m || n = 0 || 256 < n || 4096 < m * n || k = 0 || 1048576 < k || 4096 < arg o .accBase + m * n then E_CORE_SHAPE
  else match fmtArg o .fmtA, fmtArg o .fmtB with
    | some a, some b =>
      if (pairClass a b).isNone then E_CORE_FORMAT
      else if arg o .wb = 1 && !(fmtArg o .fmtOut).elim false writeBackFmt then E_CORE_FORMAT
      else 0
    | _, _ => E_CORE_FORMAT

/-- Two ranges of accumulator entries meet. -/
def Region.meets (r : Region) (base len : Nat) : Bool := r.base < base + len && base < r.base + r.m * r.n

/-- The base exponent of output (i, j): (REF_A[i] − 127) + (REF_B[j] − 127) − 90 (04 R125). -/
def regionBase (ra rb : Nat) : Int := ((ra : Int) - 127) + ((rb : Int) - 127) - 90

/-- The matrix product once every check has passed (03 R93; 04 R120 to R137). -/
def State.matmulBody (s : State) (g : Nat) (o : MacroOp) (fa fb : Fmt) (cls : Nat) : Effect :=
  let m := arg o .m
  let n := arg o .n
  let k := arg o .k
  let base := arg o .accBase
  let ta := arg o .transA = 1
  let tb := arg o .transB = 1
  let ra := s.rowsAt g (arg o .hA) fa (if ta then k else m) (if ta then m else k)
  let rb := s.rowsAt g (arg o .hB) fb (if tb then n else k) (if tb then k else n)
  let sa := s.scaleRows g (arg o .hSA) fa m k
  let sb := s.scaleRows g (arg o .hSB) fb n k
  let aRow := fun i => scaledVec fa sa i (fun x => if ta then elemBits fa (ra.getD x 0) i else elemBits fa (ra.getD i 0) x) k
  let bCol := fun j => scaledVec fb sb j (fun x => if tb then elemBits fb (rb.getD j 0) x else elemBits fb (rb.getD x 0) j) k
  let scaleNan := (List.range m).any (fun i => rowScaleNan sa i k) || (List.range n).any (fun j => rowScaleNan sb j k)
  let flags := if scaleNan then flScaleNan else 0
  let c := s.core g
  let open_ := c.acc.regions.find? (fun r => r.base = base && r.m = m && r.n = n && r.cls = cls)
  let cont := arg o .cont = 1
  let bOf := fun idx => regionBase (refOf sa (idx / n)) (refOf sb (idx % n))
  if cont && (open_.isNone || (cls = 1 && (List.range (m * n)).any (fun idx => (bankGet {} c.acc.entries (base + idx)).b ≠ bOf idx))) then
    { st := s, err := E_CORE_ACC_STATE, flags := flags }
  else if cont && 1048576 < (open_.elim 0 Region.kcount) + k then { st := s, err := E_CORE_SHAPE, flags := flags }
  else
    let bs := (List.range n).map bCol
    let as := (List.range m).map aRow
    let entries := (List.range (m * n)).map (fun idx =>
      let e : AccEntry := if cont then bankGet {} c.acc.entries (base + idx) else { b := if cls = 1 then bOf idx else 0 }
      let e := if refOf sa (idx / n) = 255 || refOf sb (idx % n) = 255 then { e with nan := true } else e
      accumulateDot cls fa e (as.getD (idx / n) []) (bs.getD (idx % n) []))
    let others := c.acc.regions.filter (fun r => !r.meets base (m * n))
    let gone := c.acc.regions.filter (fun r => r.meets base (m * n))
    let kept := bankDrop (fun x => gone.any (fun r => r.base ≤ x && x < r.base + r.m * r.n)) c.acc.entries
    let region : Region := { base := base, m := m, n := n, cls := cls, kcount := (if cont then open_.elim 0 Region.kcount else 0) + k }
    if arg o .wb = 1 then
      let f := (fmtArg o .fmtOut).getD .fp32
      let res := entries.zipIdx.map (fun x => x.1.result cls f (rmode (arg o .round) (arg o .seed) 0 x.2))
      let data := (List.range m).flatMap (fun i => packRow f (((res.drop (i * n)).take n).map Prod.fst))
      let s := s.setCore g { c with acc := { regions := others, entries := kept } }
      let (s, e) := s.hWrite g (arg o .hC) 0 data
      { st := s, err := e, flags := res.foldl (fun fl x => fl ||| x.2) flags }
    else
      { st := s.setCore g { c with acc := { regions := others ++ [region], entries := bankPutList {} kept base entries } }, flags := flags }

def State.matmulEffect (g : Nat) (s : State) (o : MacroOp) : Effect :=
  s.checked g o (matmulCode o) (fun s =>
    match fmtArg o .fmtA, fmtArg o .fmtB with
    | some fa, some fb => s.matmulBody g o fa fb ((pairClass fa fb).getD 1)
    | _, _ => { st := s, err := E_CORE_FORMAT })

def execMatmul (g id : Nat) (s : State) : Host.Outcome State Fault Refusal := .next (s.runOp g id .matmul (State.matmulEffect g))

/-! ### ATTN (03 R95, R96; 04 R122, R126, R134) -/

/-- The limits of ATTN, then its formats. -/
def attnCode (o : MacroOp) : Nat :=
  let d := arg o .headDim
  if arg o .rows = 0 || 64 < arg o .rows || d < 32 || 256 < d || d % 32 ≠ 0 || arg o .blockLen = 0 || 256 < arg o .blockLen then E_CORE_SHAPE
  else match fmtArg o .fmt1, fmtArg o .fmt2, fmtArg o .fmt3 with
    | some q, some k, some v =>
      if (pairClass q k).isNone || (pairClass v v).isNone then E_CORE_FORMAT
      else if arg o .final = 1 && !(fmtArg o .fmtOut).elim false writeBackFmt then E_CORE_FORMAT
      else 0
    | _, _, _ => E_CORE_FORMAT

/-- Running state of a query row: m, l and O. -/
structure AttnRow where
  m : Val
  l : Val
  o : List Val

/-- Flags an intermediate result leaves: those of Table 4.11 that do not speak of a value written. -/
def innerFlags (fl : Nat) : Nat := fl &&& (flSat ||| flLow ||| flOvf ||| flInvalid)

/-- exp(a − b) in FP32: the difference is rounded once to FP32 (log entry 18). -/
def expDiff (a b : Val) : Val × Nat :=
  match a with
  | .inf true => (.fin false 0 0, 0)
  | _ =>
    let (d, f1) := vAdd a (vNeg b)
    let (d, f2) := roundF32 d
    let (e, f3) := special fnExp d
    (e, innerFlags (f1 ||| f2 ||| f3))

/-- Exact products of two lists, and whether one was infinity times zero. -/
def products (a b : List Val) : List Val × Nat :=
  let ps := (a.zip b).map (fun x => vMul x.1 x.2)
  (ps.map Prod.fst, ps.foldl (fun fl x => fl ||| x.2) 0)

/-- One step of a query row over the unmasked positions: their scores and their rows of V (03 R95, R96). It leaves the row as it is when no
position is unmasked, or m and every unmasked score are −∞. -/
def attnStep (r : AttnRow) (scores : List Val) (vs : List (List Val)) : AttnRow × Nat :=
  let mNew := scores.foldl vMax r.m
  if scores.isEmpty || (r.m = .inf true && scores.all (fun x => x = .inf true)) then (r, 0)
  else
    let used := (scores.zip vs).filter (fun x => x.1 ≠ .inf true)
    let (decay, f0) := expDiff r.m mNew
    let es := used.map (fun x => expDiff x.1 mNew)
    let ps := es.map Prod.fst
    let fe := es.foldl (fun fl x => fl ||| x.2) f0
    let (t0, f1) := vMul r.l decay
    let (lx, f2) := exactSum (t0 :: ps)
    let (lNew, f3) := roundF32 lx
    let cols := (r.o.zipIdx).map (fun x =>
      let (t, g1) := vMul x.1 decay
      let (ts, g2) := products ps (used.map (fun y => y.2.getD x.2 (.fin false 0 0)))
      let (v, g3) := exactSum (t :: ts)
      let (v, g4) := roundF32 v
      (v, innerFlags (g1 ||| g2 ||| g3) ||| g4))
    ({ m := mNew, l := lNew, o := cols.map Prod.fst }, fe ||| innerFlags (f1 ||| f2) ||| f3 ||| cols.foldl (fun fl x => fl ||| x.2) 0)

/-- The score of a pair: the scaled dot product, rounded once to FP32. -/
def score (scale : Val) (q k : List Val) : Val × Nat :=
  let (ts, f0) := products q k
  let (v, f1) := exactSum ts
  let (v, f2) := vMul scale v
  let (v, f3) := roundF32 v
  (v, innerFlags (f0 ||| f1 ||| f2 ||| f3))

/-- Position (i, j) is masked (03 R95). The BITS handle holds one row of whole bytes for each query row, bit j counted from the low bit of
the first (DESIGN CHOICE, log entry 77). -/
def attnMasked (o : MacroOp) (maskRows : List Nat) (i j : Nat) : Bool :=
  if arg o .maskMode = 1 then arg o .q0 + i < arg o .k0 + j
  else if arg o .maskMode = 2 then !(maskRows.getD i 0).testBit j
  else false

/-- Row i of the state handle: m, l and the d values of O, consecutive FP32 numbers (DESIGN CHOICE, log entry 77). -/
def attnRowAt (d row : Nat) : AttnRow :=
  { m := ofF32 (elemBits .fp32 row 0), l := ofF32 (elemBits .fp32 row 1), o := (List.range d).map (fun c => ofF32 (elemBits .fp32 row (2 + c))) }

def State.attnBody (s : State) (g : Nat) (o : MacroOp) (fq fk fv : Fmt) : Effect :=
  let q := arg o .rows
  let d := arg o .headDim
  let b := arg o .blockLen
  let scale := ofF32 (arg o .scale % 2 ^ 32)
  let rq := s.rowsAt g (arg o .hQ) fq q d
  let rk := s.rowsAt g (arg o .hK) fk b d
  let rv := s.rowsAt g (arg o .hV) fv b d
  let sq := s.scaleRows g (arg o .hSA) fq q d
  let sk := s.scaleRows g (arg o .hSB) fk b d
  let sv := s.scaleRows g (arg o .hSV) fv d b
  let maskRows := if arg o .maskMode = 2 then
      (List.range q).map (fun i => leNat (s.hRead g (arg o .hMask) (i * ((b + 7) / 8)) ((b + 7) / 8))) else []
  let nanRow := fun (sc : Option (List Nat)) (r : Nat) (vs : List Val) => if refOf sc r = 255 then vs.map (fun _ => Val.nan) else vs
  let qs := (List.range q).map (fun i => nanRow sq i (scaledVec fq sq i (fun x => elemBits fq (rq.getD i 0) x) d))
  let ks := (List.range b).map (fun j => nanRow sk j (scaledVec fk sk j (fun x => elemBits fk (rk.getD j 0) x) d))
  let vcols := (List.range d).map (fun c => nanRow sv c (scaledVec fv sv c (fun x => elemBits fv (rv.getD x 0) c) b))
  let vs := (List.range b).map (fun j => vcols.map (fun col => col.getD j .nan))
  let scaleNan := (List.range q).any (fun i => rowScaleNan sq i d) || (List.range b).any (fun j => rowScaleNan sk j d)
    || (List.range d).any (fun c => rowScaleNan sv c b)
  let done : List (AttnRow × Nat) := (List.range q).map (fun i =>
    let row : AttnRow := if arg o .first = 1 then { m := .inf true, l := .fin false 0 0, o := List.replicate d (.fin false 0 0) }
      else attnRowAt d (leNat (s.hRead g (arg o .hState) (i * (8 + 4 * d)) (8 + 4 * d)))
    let js := (List.range b).filter (fun j => !attnMasked o maskRows i j)
    let sc := js.map (fun j => score scale (qs.getD i []) (ks.getD j []))
    let (r, fl) := attnStep row (sc.map Prod.fst) (js.map (fun j => vs.getD j []))
    (r, sc.foldl (fun f x => f ||| x.2) fl))
  let flags := done.foldl (fun f x => f ||| x.2) (if scaleNan then flScaleNan else 0)
  let state := done.flatMap (fun x => packRow .fp32 (toF32 x.1.m :: toF32 x.1.l :: x.1.o.map toF32))
  let (s, e) := s.hWrite g (arg o .hState) 0 state
  if e ≠ 0 then { st := s, err := e, flags := flags }
  else if arg o .final = 1 then
    let f := (fmtArg o .fmtOut).getD .fp32
    let outs : List (List (Nat × Nat)) := done.zipIdx.map (fun x => x.1.1.o.zipIdx.map (fun y =>
      if vIsZero x.1.1.l then (0, 0)
      else
        let (v, f1) := vDiv y.1 x.1.1.l
        let (bits, f2) := writeVal f (rmode (arg o .round) (arg o .seed) 1 (x.2 * d + y.2)) v
        (bits, innerFlags f1 ||| f2)))
    let (s, e) := s.hWrite g (arg o .hOut) 0 (outs.flatMap (fun r => packRow f (r.map Prod.fst)))
    { st := s, err := e, flags := outs.foldl (fun fl r => r.foldl (fun fl x => fl ||| x.2) fl) flags }
  else { st := s, flags := flags }

def State.attnEffect (g : Nat) (s : State) (o : MacroOp) : Effect :=
  s.checked g o (attnCode o) (fun s =>
    match fmtArg o .fmt1, fmtArg o .fmt2, fmtArg o .fmt3 with
    | some q, some k, some v => s.attnBody g o q k v
    | _, _, _ => { st := s, err := E_CORE_FORMAT })

def execAttn (g id : Nat) (s : State) : Host.Outcome State Fault Refusal := .next (s.runOp g id .attn (State.attnEffect g))

end Sys2Proof.Machine
end

