-- ==== Sys2Proof/Machine/Vector.lean ====
section
/-! DEFINITION. Machine/Vector.lean: the vector unit: VEC, REDUCE and SAMPLE (03 R97 to R99; 04 R139 to R143). -/
namespace Sys2Proof.Machine
open Sys2Proof

/-! ### Element-wise operations -/

/-- A comparison by predicate: 0 equal, 1 not equal, 2 less, 3 less or equal, 4 greater, 5 greater or equal (04 R140). -/
def compareVal (pred : Nat) (a b : Val) : Bool :=
  match pred with
  | 0 => vEq a b
  | 1 => !vEq a b
  | 2 => vLt false a b
  | 3 => vLt false a b || vEq a b
  | 4 => vLt false b a
  | _ => vLt false b a || vEq a b

/-- The number of the special function of a VEC operation. -/
def specialNo : Nat → Nat
  | 8 => fnExp | 9 => fnLog | 11 => fnRsqrt | 12 => fnTanh | 13 => fnSigmoid | 14 => fnSilu | _ => fnGelu

/-- One result before its rounding to the destination, and the flags raised so far (04 R139 to R141). Special functions have FP32
inputs and FP32 results. -/
def vecResult (vop pred : Nat) (toF32Out : Bool) (a b c : Val) : Val × Nat :=
  match vop with
  | 0 => vAdd a b
  | 1 => vAdd a (vNeg b)
  | 2 => vMul a b
  | 3 => let (p, f) := vMul a b; let (v, f2) := vAdd p c; (v, f ||| f2)
  | 4 => (vMin a b, 0)
  | 5 => (vMax a b, 0)
  | 6 => (vAbs a, 0)
  | 7 => (vNeg a, 0)
  | 10 =>
    let (x, f0) := roundF32 a
    let (r, f1) := recip x
    if toF32Out then (r, innerFlags f0 ||| f1) else let (r, f2) := roundF32 r; (r, innerFlags (f0 ||| f2) ||| f1)
  | 16 => (if compareVal pred a b then vOne else .fin false 0 0, 0)
  | 17 => (if vIsZero a then c else b, 0)
  | 18 => (a, 0)
  | _ => let (x, f0) := roundF32 a; let (r, f1) := special (specialNo vop) x; (r, innerFlags f0 ||| f1)

/-- Operations that FP64 lanes support (04 R139): add, subtract, multiply, fused multiply-add, absolute value, negate, compare and
select, and conversion to and from FP32. -/
def fp64Op (vop : Nat) : Bool := vop ≤ 3 || vop = 6 || vop = 7 || vop = 16 || vop = 17 || vop = 18

/-- The limits of VEC, then its operation and formats. -/
def vecCode (o : MacroOp) : Nat :=
  let vop := arg o .vop
  if arg o .len = 0 || 1048576 < arg o .len then E_CORE_SHAPE
  else if 18 < vop then E_CORE_ILLEGAL_OP
  else
    let fs := ((List.range (vecSources vop)).map (fun j => fmtArg o (vecSource j).2.1)) ++ [fmtArg o .fmtOut]
    if fs.any Option.isNone then E_CORE_FORMAT
    else if fs.contains (some .fp64) then
      if fp64Op vop && fs.all (fun f => f = some .fp64 || f = some .fp32) && (arg o .accumulate = 0 || fs.all (fun f => f = some .fp64)) then 0
      else E_CORE_FORMAT
    else if arg o .accumulate = 1 then E_CORE_FORMAT
    else 0

/-- The elements of a vector source, by position, with broadcast (03 R97), and whether a scale or REF byte of 0xFF was read. -/
def State.vecElems (s : State) (g : Nat) (o : MacroOp) (j : Nat) : List Val × Bool :=
  let (h, fa, ba, sca) := vecSource j
  let c := vecCols o
  let n := arg o .len
  let bc := arg o ba
  match fmtArg o fa with
  | none => ([], false)
  | some f =>
    let rows := if bc = 1 then 1 else vecRows o
    let width := if bc = 2 then rows else c
    let lens := if bc = 2 then [width] else (List.range rows).map (fun r => if bc = 1 then c else min c (n - r * c))
    let data := lens.zipIdx.map (fun x => leNat (s.hRead g (arg o h) (x.2 * rowBytes f width) (rowBytes f x.1)))
    let sc := s.scaleRows g (arg o sca) f (vecScaleShape o bc).1 (vecScaleShape o bc).2
    let at_ := fun (r k : Nat) =>
      let v := decodeElem f (elemBits f (data.getD r 0) k)
      if sc.isNone then v else if refOf sc r = 255 then .nan else scaleBy (blockScale sc r (k / 32)) v
    ((List.range n).map (fun e => if bc = 1 then at_ 0 (e % c) else if bc = 2 then at_ 0 (e / c) else at_ (e / c) (e % c)),
     sc.isSome && lens.zipIdx.any (fun x => rowScaleNan sc x.2 x.1))

/-! ### Conversion into an MX format (04 R143) -/

/-- Exponent of the largest normal element value. -/
def emaxOf : Fmt → Int
  | .mxfp4 | .mx6a => 2
  | .mx6b => 4
  | .mx8a => 8
  | _ => 15

/-- The scale byte of a block. -/
def mxScale (f : Fmt) (xs : List Val) : Nat :=
  if xs.any vIsNan then 255
  else
    let tops := xs.filterMap (fun v => match v with
      | .fin _ m e => if m = 0 then none else some (topExp m e)
      | _ => none)
    match tops.max? with
    | some t => (max (-127) (min 127 (t - emaxOf f)) + 127).toNat
    | none => if xs.any (fun v => v = .inf false || v = .inf true) then 254 else 0

/-- The elements of a block, with the position of each for its rounding. -/
def mxElems (f : Fmt) (o : MacroOp) (first sc : Nat) (xs : List Val) : List (Nat × Nat) :=
  xs.zipIdx.map (fun x =>
    if sc = 255 then (0, 0)
    else
      let v : Val := match x.1 with
        | .fin n m e => .fin n m (e - ((sc : Int) - 127))
        | .inf n => .fin n 1 4096
        | .nan => .nan
      let (b, fl) := writeVal f (rmode (arg o .round) (arg o .seed) 2 (first + x.2)) v
      (b, fl))

/-- A list in pieces of n. -/
def chunks {α : Type} (n : Nat) : Nat → List α → List (List α)
  | 0, _ => []
  | k + 1, l => if l.isEmpty then [] else l.take n :: chunks n k (l.drop n)

/-- Results written to an MX destination: elements, and each row's scale row with REF raised to the largest scale written. -/
def State.writeMx (s : State) (g : Nat) (o : MacroOp) (f : Fmt) (vals : List Val) : State × Nat × Nat :=
  let c := vecCols o
  let rows := chunks c (vecRows o) vals
  let done := rows.zipIdx.map (fun r =>
    let blocks := chunks 32 ((c + 31) / 32) r.1
    let scs := blocks.map (mxScale f)
    let els := (blocks.zip scs).zipIdx.flatMap (fun b => mxElems f o (r.2 * c + b.2 * 32) b.1.2 b.1.1)
    (els, scs))
  let data := done.flatMap (fun r => packRow f (r.1.map Prod.fst))
  let flags := done.foldl (fun fl r => r.1.foldl (fun fl x => fl ||| x.2) (if r.2.contains 255 then fl ||| flNan else fl)) 0
  let w := scaleRowBytes c
  let (s, e) := s.hWrite g (arg o .dst) 0 data
  if e ≠ 0 then (s, e, flags)
  else
    let (s, e) := done.zipIdx.foldl (fun (acc : State × Nat) r =>
      if acc.2 ≠ 0 then acc
      else
        let s := acc.1
        let (s, e0) := s.consumeWords g (hWords (s.handle g (arg o .hSC)) (r.2 * w) 32)
        if e0 ≠ 0 then (s, e0)
        else
          let old := (s.hRead g (arg o .hSC) (r.2 * w) 1).headD 0
          let ref := r.1.2.foldl max old.toNat
          s.hWrite g (arg o .hSC) (r.2 * w) (leBytes 4 ref ++ r.1.2.map (BitVec.ofNat 8))) (s, 0)
    (s, e, flags)

/-! ### VEC -/

def State.vecBody (s : State) (g : Nat) (o : MacroOp) (f : Fmt) : Effect :=
  let vop := arg o .vop
  let k := vecSources vop
  let src := fun j => if j < k then s.vecElems g o j else ([], false)
  let (a, na) := src 0
  let (b, nb) := src 1
  let (c, nc) := src 2
  let z : Val := .fin false 0 0
  let sn := if na || nb || nc then flScaleNan else 0
  if arg o .accumulate = 1 then
    let (ts, f0) := products a b
    let (v, f1) := exactSum (if k = 3 then ts ++ c else ts)
    let (bits, f2) := writeVal .fp64 (rmode (arg o .round) (arg o .seed) 2 0) v
    let (s, e) := s.hWrite g (arg o .dst) 0 (leBytes 8 bits)
    { st := s, err := e, flags := f0 ||| f1 ||| f2 ||| sn }
  else
    let res := (List.range (arg o .len)).map (fun e => vecResult vop (arg o .pred) (f = .fp32) (a.getD e z) (b.getD e z) (c.getD e z))
    let f0 := res.foldl (fun fl x => fl ||| x.2) sn
    if (fmtInfo f).mx then
      let (s, e, fl) := s.writeMx g o f (res.map Prod.fst)
      { st := s, err := e, flags := f0 ||| fl }
    else
      let out := res.zipIdx.map (fun x => writeVal f (rmode (arg o .round) (arg o .seed) 2 x.2) x.1.1)
      let data := (chunks (vecCols o) (vecRows o) (out.map Prod.fst)).flatMap (packRow f)
      let (s, e) := s.hWrite g (arg o .dst) 0 data
      { st := s, err := e, flags := out.foldl (fun fl x => fl ||| x.2) f0 }

def State.vecEffect (g : Nat) (s : State) (o : MacroOp) : Effect :=
  s.checked g o (vecCode o) (fun s => s.vecBody g o ((fmtArg o .fmtOut).getD .fp32))

def execVec (g id : Nat) (s : State) : Host.Outcome State Fault Refusal := .next (s.runOp g id .vec (State.vecEffect g))

/-! ### REDUCE (03 R98; 04 R126, R140): 0 SUM, 1 SUMSQ, 2 MAX, 3 MIN, 4 ARGMAX, 5 ARGMIN -/

def reduceCode (o : MacroOp) : Nat :=
  if arg o .rows = 0 || 4096 < arg o .rows || arg o .cols = 0 || 1048576 < arg o .cols then E_CORE_SHAPE
  else if 5 < arg o .rop then E_CORE_ILLEGAL_OP
  else match fmtArg o .fmt1, fmtArg o .fmtOut with
    | some a, some b => if a = .fp64 || b = .fp64 || (fmtInfo b).mx then E_CORE_FORMAT else 0
    | _, _ => E_CORE_FORMAT

/-- The lowest index among the values no other is beyond, NaN skipped; none for a row of NaN only. -/
def bestIndex (lt : Val → Val → Bool) : List (Val × Nat) → Option (Val × Nat)
  | [] => none
  | x :: t =>
    match bestIndex lt t with
    | none => if vIsNan x.1 then none else some x
    | some y => if vIsNan x.1 || lt x.1 y.1 then some y else some x

/-- The reduction of one row. -/
def reduceRow (rop : Nat) (xs : List Val) : Val × Nat :=
  let best := if rop = 2 || rop = 4 then bestIndex (vLt true) xs.zipIdx else bestIndex (fun a b => vLt true b a) xs.zipIdx
  match rop with
  | 0 => exactSum xs
  | 1 => exactSum (xs.map (fun v => (vMul v v).1))
  | 2 | 3 => (best.elim .nan Prod.fst, 0)
  | _ => (.fin false (best.elim 0 Prod.snd) 0, 0)

def State.reduceBody (s : State) (g : Nat) (o : MacroOp) (fa f : Fmt) : Effect :=
  let rows := arg o .rows
  let c := arg o .cols
  let data := s.rowsAt g (arg o .src1) fa rows c
  let sc := s.scaleRows g (arg o .hSA) fa rows c
  let sn := if sc.isSome && (List.range rows).any (fun r => rowScaleNan sc r c) then flScaleNan else 0
  let res := (List.range rows).map (fun r =>
    let xs := scaledVec fa sc r (fun k => elemBits fa (data.getD r 0) k) c
    let xs := if refOf sc r = 255 then xs.map (fun _ => Val.nan) else xs
    let (v, f0) := reduceRow (arg o .rop) xs
    let (b, f1) := writeVal f (rmode (arg o .round) (arg o .seed) 3 r) v
    (b, f0 ||| f1))
  let (s, e) := s.hWrite g (arg o .dst) 0 (packRow f (res.map Prod.fst))
  { st := s, err := e, flags := res.foldl (fun fl x => fl ||| x.2) sn }

def State.reduceEffect (g : Nat) (s : State) (o : MacroOp) : Effect :=
  s.checked g o (reduceCode o) (fun s =>
    match fmtArg o .fmt1, fmtArg o .fmtOut with
    | some a, some b => s.reduceBody g o a b
    | _, _ => { st := s, err := E_CORE_FORMAT })

def execReduce (g id : Nat) (s : State) : Host.Outcome State Fault Refusal := .next (s.runOp g id .reduce (State.reduceEffect g))

end Sys2Proof.Machine
end

