-- ==== Sys2Proof/Machine/Mover.lean ====
section
/-! DEFINITION. Machine/Mover.lean: the data mover (MOVE, FILL, COPY) and SAMPLE's hand-over to the sampling unit (03 R99 to R101;
05 R167, R179; 06 R196; 11 R353; 12 R390). Endpoint kinds (03 Table 3.4): 0 LOCAL, 1 WINDOW, 2 POOL, 3 HBM, 4 PLINTH. -/
namespace Sys2Proof.Machine
open Sys2Proof

/-! ### Packets -/

/-- The fields every packet of a core carries (07 R219). -/
def State.corePkt (s : State) (g : Nat) (op : Op) (tclass : Nat) : Pkt :=
  let p := s.corePart g
  { op := op, part := p, srcNode := coreNode g, srcUnit := coreUnit g, tag := s.fld .PLAN_JOB_TAG p, srcRank := s.ownRank p,
    dstRank := s.ownRank p, tclass := tclass }

/-- A value of a list of resolved operands. -/
def argOf (l : List (Arg × Nat)) (a : Arg) : Nat := (l.lookup a).getD 0

/-! ### Checks of the far sides -/

/-- The pool side of a MOVE (05 R179). -/
def State.poolCode (s : State) (p group off len : Nat) : Nat :=
  if 63 < group || !s.ownsGroup p group then E_POOL_GROUP
  else if off % 32 ≠ 0 || len % 32 ≠ 0 then E_SPAD_ALIGN
  else if 50331648 < off + len then E_POOL_GROUP
  else 0

/-- The checks of a MOVE's source that are not those of a local handle. -/
def State.moveSrcCode (s : State) (g : Nat) (o : MacroOp) : Nat :=
  let p := s.corePart g
  match arg o .srcKind with
  | 1 => s.windowCode g (arg o .srcWindow) (arg o .rank) false
  | 2 => s.poolCode p (arg o .srcGroup) (arg o .srcOff) (arg o .size)
  | 3 => s.hbmCode p (arg o .srcAddr) (arg o .size)
  | 4 => s.plinthCode p (arg o .srcBind) (arg o .srcLayer) (arg o .srcOff) (arg o .size)
  | _ => 0

def State.moveDstCode (s : State) (g : Nat) (o : MacroOp) : Nat :=
  let p := s.corePart g
  match arg o .dstKind with
  | 1 => s.windowCode g (arg o .dstWindow) (arg o .dstRank) true
  | 2 => s.poolCode p (arg o .dstGroup) (arg o .dstOff) (arg o .size)
  | 3 => s.hbmCode p (arg o .dstAddr) (arg o .size)
  | _ => 0

/-! ### Packets -/

/-- Read request for an HBM piece of a partition. -/
def State.hbmPkt (s : State) (p : Nat) (k : Pkt) (a : Nat) : Pkt :=
  let (st, b) := hbmPlace (s.partSlices p) a
  { k with dstNode := hbmNode st b, dstUnit := 96, addr := b }

/-- The read requests of a MOVE whose source is not local. -/
def State.readPkts (s : State) (g xfer : Nat) (o : MacroOp) : List Pkt :=
  let p := s.corePart g
  let size := arg o .size
  let k : Pkt := { s.corePkt g .memRead (arg o .trafficClass) with xfer := xfer, tick := o.tick % 256 }
  match arg o .srcKind with
  | 1 =>
    let t := wCore (s.window g (arg o .srcWindow))
    (cut 0 size).map (fun x => { k with op := .readReq, dstNode := t / 96, dstUnit := t % 96, dstRank := arg o .rank, handle := arg o .srcHandle, off := arg o .srcOff + x.1, len := x.2, sub := x.1 })
  | 2 =>
    (cut 0 size).map (fun x => { k with dstNode := 72 + arg o .srcGroup / 16, dstUnit := 96 + arg o .srcGroup % 16, addr := arg o .srcOff + x.1, len := x.2, sub := x.1 })
  | 3 => (cut (arg o .srcAddr) size).map (fun x => s.hbmPkt p { k with len := x.2, sub := x.1 } (arg o .srcAddr + x.1))
  | _ =>
    let v := s.bind_ (arg o .srcBind)
    if bPatch v then
      let a := bHbm v + arg o .srcLayer * bStride v + arg o .srcOff
      (cut a size).map (fun x => s.hbmPkt p { k with len := x.2, sub := x.1 } (a + x.1))
    else
      let n := s.bindObject p (arg o .srcBind) (arg o .srcLayer)
      let a := ((s.obj n).manifest.layers[arg o .srcLayer]?).elim 0 LayerEntry.off + arg o .srcOff
      (cut a size).map (fun x => { k with dstNode := 76 + plinthDie (a + x.1), dstUnit := 96, handle := n, addr := a + x.1, len := x.2, sub := x.1 })

/-- The write packets that carry `data`, which lies at offset `at_` of a transfer with these operands; `last` says that nothing of
the transfer follows. The last packet to a window carries the signal (06 R196). `bad` lists the bad bytes of the data's words, which travel on (07 R230). -/
def State.writePkts (s : State) (g xfer tick : Nat) (args : List (Arg × Nat)) (at_ : Nat) (data : List Byte) (last : Bool) (bad : List Nat := []) : List Pkt :=
  let p := s.corePart g
  let a := argOf args
  let k : Pkt := { s.corePkt g .memWrite (a .trafficClass) with xfer := xfer, tick := tick % 256 }
  let fin := fun (x : Nat × Nat) => last && x.1 + x.2 = data.length
  let body := fun (x : Nat × Nat) => (data.drop x.1).take x.2
  let bads := fun (x : Nat × Nat) => (bad.drop (x.1 / 32)).take ((x.2 + 31) / 32)
  match a .dstKind with
  | 1 =>
    let t := wCore (s.window g (a .dstWindow))
    (cut 0 data.length).map (fun x => { k with op := .write, dstNode := t / 96, dstUnit := t % 96, dstRank := a .dstRank, handle := a .dstHandle, off := a .dstOff + at_ + x.1, data := body x, bad := bads x, final := fin x, sig := fin x && a .sigAmount % 2 ^ 16 ≠ 0, sigCounter := a .sigCounter % 256, sigAmount := if fin x then a .sigAmount % 2 ^ 16 else 0 })
  | 2 =>
    (cut 0 data.length).map (fun x => { k with dstNode := 72 + a .dstGroup / 16, dstUnit := 96 + a .dstGroup % 16, addr := a .dstOff + at_ + x.1, data := body x, bad := bads x, final := fin x })
  | _ =>
    (cut (a .dstAddr + at_) data.length).map (fun x => s.hbmPkt p { k with data := body x, bad := bads x, final := fin x } (a .dstAddr + at_ + x.1))

/-- Acknowledgements these write packets bring: one per HBM packet, one for the last pool packet (05 R181, 11 R353). -/
def ackCount (dstKind : Nat) (ks : List Pkt) : Nat :=
  if dstKind = 3 then ks.length else if dstKind = 2 then (ks.filter Pkt.final).length else 0

/-- Note pool requests under way (01 R16). -/
def State.notePool (s : State) (p tick : Nat) (ks : List Pkt) : State :=
  let n := (ks.filter (fun k => 72 ≤ k.dstNode && k.dstNode ≤ 75)).length
  if n = 0 then s else s.setPart p { s.part p with poolPending := (s.part p).poolPending ++ List.replicate n tick }

/-- Why packets cannot be sent: the first code of R295, R282 or R227 in the order of the packets. -/
def State.sendCode (s : State) (p : Nat) : List Pkt → Nat
  | [] => 0
  | k :: t => let c := s.injectCode p k; if c = 0 then s.sendCode p t else c

/-- Send packets in order. -/
def State.sendAll (s : State) (p : Nat) (ks : List Pkt) : State := ks.foldl (fun s k => s.inject p k) s

/-- The HOLD_CAUSE code of an injection that waits, by BP_CAUSE of the full buffer it waits on: LINK, POOL, HBM, the cause carried by the
downstream buffer where that is full, else FABRIC (07 R233). -/
def bpLevel : List HeadWait → Nat
  | .link :: _ => 0x09
  | .pool :: _ => 0x06
  | .hbm :: _ => 0x08
  | .downstream :: t => bpLevel t
  | [] => 0x07

/-- A macro-operation sends packets, waits to send them, or ends because it cannot; `full` lists what the heads of the full buffers from
its injection on wait for (07 R227, R233; 09 R295, R303; 02 Table 2.8). -/
def State.sendOp (s : State) (p : Nat) (full : List HeadWait) (ks : List Pkt) (after : State → Effect) : Effect :=
  if ks.any (s.mustHold p) then
    { st := s, stays := true, level := if ks.any (fun k => s.offDevice p k && s.injectionWaits p) then 0x09 else 0 }
  else
    let code := s.sendCode p ks
    if code ≠ 0 then { st := s, err := code }
    else if full ≠ [] then { st := s, stays := true, level := bpLevel full }
    else after (s.sendAll p ks)

/-- The signal of a core's own MOVE at the issuing core (06 R196, R576). -/
def State.ownSignal (s : State) (g : Nat) (args : List (Arg × Nat)) : State :=
  let n := argOf args .sigAmount % 2 ^ 16
  if n = 0 || argOf args .dstKind = 1 then s else s.outsideGive g (argOf args .sigCounter % 256) n false 0

/-- Record a transfer. -/
def State.addXfer (s : State) (g : Nat) (x : Xfer) : State :=
  let c := s.core g
  s.setCore g { c with xfers := c.xfers ++ [x], nextXfer := (c.nextXfer + 1) % 2 ^ 16 }

/-! ### MOVE (03 R100) -/

/-- A MOVE whose checks have passed. -/
def State.moveBody (s : State) (g : Nat) (full : List HeadWait) (o : MacroOp) : Effect :=
  let p := s.corePart g
  let id := (s.core g).nextXfer
  if arg o .srcKind = 0 then
    let data := s.hRead g (arg o .srcHandle) (arg o .srcOff) (arg o .size)
    if arg o .dstKind = 0 then
      let (s, e) := s.hWrite g (arg o .dstHandle) (arg o .dstOff) data
      { st := if e = 0 then s.ownSignal g o.args else s, err := e }
    else
      let ks := s.writePkts g id o.tick o.args 0 data true
      let n := ackCount (arg o .dstKind) ks
      s.sendOp p full ks (fun s =>
        let s := s.notePool p o.tick ks
        { st := if n = 0 then s else s.addXfer g { id := id, left := 0, acks := n, args := o.args, tag := o.tag } })
  else
    let ks := s.readPkts g id o
    s.sendOp p full ks (fun s =>
      let s := (s.notePool p o.tick ks).addXfer g { id := id, left := ks.length, args := o.args, tag := o.tag }
      { st := s.setRun g o.id (fun r => { r with xfer := some id }) })

/-- MOVE (03 R100). `full` lists what the heads of the full buffers from its injection on wait for (07 R233). -/
def State.moveEffect (g : Nat) (full : List HeadWait) (s : State) (o : MacroOp) : Effect :=
  if 4 < arg o .srcKind || 3 < arg o .dstKind then { st := s, err := E_CORE_ILLEGAL_OP }
  else
    s.checked g o 0 (fun s =>
      let c := s.moveSrcCode g o
      if c ≠ 0 then { st := s, err := c }
      else
        let c := s.moveDstCode g o
        if c ≠ 0 then { st := s, err := c } else s.moveBody g full o)

def execMove (g id : Nat) (s : State) (full : List HeadWait := []) : Host.Outcome State Fault Refusal :=
  .next (s.runOp g id .move (State.moveEffect g full))

/-! ### FILL and COPY (03 R101) -/

def State.fillEffect (g : Nat) (s : State) (o : MacroOp) : Effect :=
  s.checked g o 0 (fun s =>
    let data := (List.range (arg o .size)).map (fun j => BitVec.ofNat 8 (arg o .pattern / 256 ^ (j % 4)))
    let (s, e) := s.hWrite g (arg o .dstHandle) (arg o .dstOff) data
    { st := s, err := e })

def execFill (g id : Nat) (s : State) : Host.Outcome State Fault Refusal := .next (s.runOp g id .fill (State.fillEffect g))

def State.copyEffect (g : Nat) (s : State) (o : MacroOp) : Effect :=
  s.checked g o 0 (fun s =>
    let (s, e) := s.hWrite g (arg o .dstHandle) (arg o .dstOff) (s.hRead g (arg o .srcHandle) (arg o .srcOff) (arg o .size))
    { st := s, err := e })

def execCopy (g id : Nat) (s : State) : Host.Outcome State Fault Refusal := .next (s.runOp g id .copy (State.copyEffect g))

/-! ### SAMPLE (03 R99) -/

def State.sampleCode (s : State) (g : Nat) (o : MacroOp) : Nat :=
  if s.coreRole g = 0 then E_CORE_ILLEGAL_OP
  else if arg o .rows = 0 || 16 < arg o .rows || arg o .vocab = 0 || 1048576 < arg o .vocab then E_CORE_SHAPE
  else match fmtArg o .fmt1 with
    | some .fp32 | some .bf16 => 0
    | _ => E_CORE_FORMAT

/-- The packets that hand the logits to the sampling unit (node 83): row in ROUND, the index of its slot register in ADDR, the place in
the row in OFF, the result handle, and the counter to give (log entry 22). -/
def State.samplePkts (s : State) (g : Nat) (o : MacroOp) (f : Fmt) : List Pkt :=
  let w := rowBytes f (arg o .vocab)
  let k : Pkt := { s.corePkt g .sampleData (arg o .trafficClass) with dstNode := 83, dstUnit := 96, handle := arg o .result, sigCounter := arg o .counter % 256, sigAmount := 1, len := arg o .vocab, code := arg o .fmt1, tick := o.tick, xfer := o.id }
  (List.range (arg o .rows)).flatMap (fun r =>
    (cut 0 w).map (fun x => { k with round := r, addr := arg o (.slotRow r), off := x.1, sub := arg o .rows, data := s.hRead g (arg o .src1) (r * w + x.1) x.2, final := r + 1 = arg o .rows && x.1 + x.2 = w }))

/-- SAMPLE (03 R99). `full` lists what the heads of the full buffers from its injection on wait for (07 R233). -/
def State.sampleEffect (g : Nat) (full : List HeadWait) (s : State) (o : MacroOp) : Effect :=
  s.checked g o (s.sampleCode g o) (fun s =>
    let p := s.corePart g
    s.sendOp p full (s.samplePkts g o ((fmtArg o .fmt1).getD .fp32)) (fun s =>
      { st := s.setSrv p { s.srv p with rowsDue := (s.srv p).rowsDue + arg o .rows } }))

def execSample (g id : Nat) (s : State) (full : List HeadWait := []) : Host.Outcome State Fault Refusal :=
  .next (s.runOp g id .sample (State.sampleEffect g full))

end Sys2Proof.Machine
end

