-- ==== Sys2Proof/Machine/Sync.lean ====
section
/-! DEFINITION. Machine/Sync.lean: declarations, arriving gives, barrier packets and the barrier registers (06). -/
namespace Sys2Proof.Machine
open Sys2Proof

/-- Advance an index register with AUTO after an accepted commit or a read of _HI (05 R186). -/
def State.autoAdvance (s : State) (idx auto : Fld) (i : Nat) : State := if s.flag auto i then s.addFld idx 1 i else s

/-- SYNC_DECL_COMMIT: a write of SYNC_DECL_HI by a party (06 R192, 05 R186). -/
def State.syncDeclCommit (s : State) (party : Party) (g hi : Nat) : State :=
  if party = .mgmt then s
  else
    let idx := s.fld .SYNC_DECL_INDEX_INDEX g
    let (v, s) := s.commitPair party (coreAddr g 0x504) (s.decl g idx % 2 ^ 32) hi
    if !s.patchable (s.corePart g) then s.setFld .SYNC_CFG_STATUS_REJECT 1 g
    else if declRefused v then (s.setFld .SYNC_CFG_STATUS_REJECT 1 g).setFld .SYNC_CFG_STATUS_CODE E_SYNC_DECL_INVALID g
    else
      let c := s.core g
      (s.setCore g { c with decls := bankSet 0 c.decls idx v }).autoAdvance .SYNC_DECL_INDEX_INDEX .SYNC_DECL_INDEX_AUTO g

def execSyncDeclCommit (party : Party) (g hi : Nat) (s : State) : Host.Outcome State Fault Refusal := .next (s.syncDeclCommit party g hi)

/-- The partition of this device that runs a job tag (09 R287). -/
def State.tagPart (s : State) (tag : Nat) : Option Nat :=
  match s.jobSlot tag with
  | some j => if s.fld .SLOT_CFG_KIND j = 0 then some (s.fld .SLOT_CFG_PARTITION j) else none
  | none => none

/-- GIVE_PACKET_ARRIVE (06 R199). A tag that no partition runs is foreign at the port (09 R301) and gives nothing here. -/
def State.givePacket (s : State) (k : Pkt) : State :=
  match s.tagPart k.tag with
  | some _ => s.arrivingGive (pktCore k) k.sigCounter k.sigAmount k.srcRank
  | none => s

def execGivePacketArrive (k : Pkt) (s : State) (tied : Bool := false) : Host.Outcome State Fault Refusal :=
  .next ((s.inCycle tied).arriveAt (pktBlock k) k (fun s => s.givePacket k))

/-- A barrier arrival that does not belong here: dropped, counted, and a fault while the partition runs (06 R208). -/
def State.foreignArrival (s : State) (p i rank : Nat) : State :=
  let s := s.addFld .BAR_DROP 1 (p * 32 + i)
  if (s.pstate p).active then
    match (s.barMembers p i).head? with
    | some g => (s.syncErrInfo g 0 0 i true true rank).coreFault g E_SYNC_BARRIER_FOREIGN 0
    | none => s.enterFault p E_SYNC_BARRIER_FOREIGN
  else s

/-- BAR_ARRIVE_RECEIVE (06 R206 to R208). -/
def State.barArrive (s : State) (k : Pkt) : State :=
  match s.tagPart k.tag with
  | none => s
  | some p =>
    let b := p * 32 + k.barrier
    if s.pstate p = .idle then s.addFld .BAR_DROP 1 b
    else if !s.barHome p k.barrier || k.srcRank < s.fld .BAR_RANKS_RANK_LO b || s.fld .BAR_RANKS_RANK_HI b < k.srcRank then
      s.foreignArrival p k.barrier k.srcRank
    else ((s.homeCount p k.barrier k.round k.member).settleBarrier p k.barrier 2).flush

def execBarArriveReceive (k : Pkt) (s : State) : Host.Outcome State Fault Refusal := .next (s.arriveAt (pktBlock k) k (fun s => s.barArrive k))

/-- BAR_RELEASE_RECEIVE (06 R206, R207). -/
def State.barRelease (s : State) (k : Pkt) : State :=
  match s.tagPart k.tag with
  | none => s
  | some p =>
    let b := p * 32 + k.barrier
    if s.pstate p = .idle || k.round ≠ (s.fld .BAR_ROUND b + 1) % 2 ^ 32 then s.addFld .BAR_DROP 1 b
    else (s.applyRelease p k.barrier).flush

def execBarReleaseReceive (k : Pkt) (s : State) : Host.Outcome State Fault Refusal := .next (s.arriveAt (pktBlock k) k (fun s => s.barRelease k))

/-- BAR_RANKS_WRITE (06 R202). -/
def State.barRanksWrite (s : State) (party : Party) (p i v : Nat) : State :=
  let b := p * 32 + i
  let lo := v % 2 ^ 16
  let hi := v / 2 ^ 16 % 2 ^ 16
  if party = .mgmt then s
  else if !s.patchable p || hi < lo then s.setFld .BAR_CFG_REJECT 1 b
  else (s.setFld .BAR_RANKS_RANK_LO lo b).setFld .BAR_RANKS_RANK_HI hi b

def execBarRanksWrite (party : Party) (p i v : Nat) (s : State) : Host.Outcome State Fault Refusal := .next (s.barRanksWrite party p i v)

/-- BARRIER_MEMBER_WRITE (06 R202). -/
def State.barrierMemberWrite (s : State) (party : Party) (g v : Nat) : State :=
  if party = .mgmt then s
  else if !s.patchable (s.corePart g) then s.setFld .SYNC_CFG_STATUS_REJECT 1 g
  else s.setMembers g (v % 2 ^ 32)

def execBarrierMemberWrite (party : Party) (g v : Nat) (s : State) : Host.Outcome State Fault Refusal := .next (s.barrierMemberWrite party g v)

end Sys2Proof.Machine
end

