-- ==== Sys2Proof/Machine/SyncMac.lean ====
section
/-! DEFINITION. Machine/SyncMac.lean: the sync macro-operations GIVE, TAKE, WAIT and BARRIER (03 R102; 06 R194, R195, R200, R204,
R205). -/
namespace Sys2Proof.Machine
open Sys2Proof

/-- A sync operation that fails: SYNC_ERR_INFO is kept and the macro-operation ends with the code (06 R194, R213). -/
def State.syncFail (s : State) (g counter amount code : Nat) : Effect :=
  { st := s.syncErrInfo g counter (amount % 2 ^ 16) 0 false false 0, err := code }

/-- Counter and amount operands; a GIVE's amount is 16 bits (03 R102, log entry 19). -/
def opCounter (o : MacroOp) : Nat := arg o .counter % 256

/-- A GIVE to a counter of the own core (06 Table 6.2, 20 R569). -/
def State.giveOwn (s : State) (g c n : Nat) : Effect :=
  let code := s.giveCode g c n
  if code = 0 then { st := s.raiseGiven g c n }
  else if code = E_SYNC_OVERFLOW && s.dropMarked (s.corePart g) c then { st := (s.noteGive g c true).overflowDrop g }
  else (s.noteGive g c (code = E_SYNC_OVERFLOW)).syncFail g c n code

/-- GIVE. `full` lists what the heads of the full buffers from its injection on wait for (07 R233). -/
def State.giveEffect (g : Nat) (full : List HeadWait) (s : State) (o : MacroOp) : Effect :=
  let c := opCounter o
  let n := arg o .amount % 2 ^ 16
  if n = 0 then s.syncFail g c n E_SYNC_AMOUNT
  else if arg o .remote = 0 then s.giveOwn g c n
  else
    let w := arg o .window
    let code := s.windowCode g w (arg o .rank) true
    if code ≠ 0 then { st := s, err := code }
    else
      let p := s.corePart g
      let t := wCore (s.window g w)
      let k : Pkt := { s.corePkt g .give 0 with dstNode := t / 96, dstUnit := t % 96, dstRank := arg o .rank, sig := true, sigCounter := c, sigAmount := n }
      s.sendOp p full [k] (fun s => { st := s })

def execGive (g id : Nat) (s : State) (full : List HeadWait := []) (tied : Bool := false) : Host.Outcome State Fault Refusal :=
  .next ((s.inCycle tied).runOp g id .give (State.giveEffect g full))

/-- TAKE and WAIT; `take` says whether TAKEN rises. -/
def State.takeEffect (take : Bool) (g : Nat) (s : State) (o : MacroOp) : Effect :=
  let c := opCounter o
  let n := arg o .amount
  let waits : Bool := !take || arg o .waitFlag = 1
  if n = 0 then s.syncFail g c n E_SYNC_AMOUNT
  else if s.bound g c = 0 then s.syncFail g c n E_SYNC_UNDECLARED
  else if s.bound g c < n then s.syncFail g c n E_SYNC_AMOUNT
  else if n ≤ s.takeable g c then { st := if take then s.raiseTaken g c n else s }
  else if waits then { st := s.trace g 8 c, blocks := true }
  else s.syncFail g c n E_SYNC_UNDERFLOW

def execTake (g id : Nat) (s : State) (tied : Bool := false) : Host.Outcome State Fault Refusal :=
  .next ((s.inCycle tied).runOp g id .take (State.takeEffect true g))
def execWait (g id : Nat) (s : State) (tied : Bool := false) : Host.Outcome State Fault Refusal :=
  .next ((s.inCycle tied).runOp g id .wait (State.takeEffect false g))

/-- TAKE_SATISFIED: the retry of a TAKE or WAIT that waits; satisfied, it is done and issue resumes (06 Table 6.2). -/
def State.takeSatisfied (s : State) (g : Nat) : State :=
  match (s.core g).started.find? (fun r => r.blocked && !r.done && (r.op.fam = .take || r.op.fam = .wait)) with
  | none => s
  | some r =>
    let c := opCounter r.op
    let n := arg r.op .amount
    if n ≤ s.takeable g c then
      (if r.op.fam = .take then s.raiseTaken g c n else s).setRun g r.op.id (fun x => { x with blocked := false, done := true })
    else s

def execTakeSatisfied (g : Nat) (s : State) (tied : Bool := false) : Host.Outcome State Fault Refusal := .next ((s.inCycle tied).takeSatisfied g)

/-- Why a barrier packet that waits cannot be sent, or 0: no route (07 R227, 09 R295). Without a key it is not sent, and nothing is
recorded (08 R282). -/
def State.barCode (s : State) (e : Nat × Pkt) : Nat :=
  let code := if s.mustHold e.1 e.2 then 0 else s.injectCode e.1 e.2
  if code = E_LINK_NO_KEY then 0 else code

/-- A BARRIER's packets set out; where one has no route none does, and the macro-operation ends with the code. -/
def State.barSend (s t : State) (blocks : Bool) : Effect :=
  match ((t.outbox.drop s.outbox.length).map t.barCode).find? (· ≠ 0) with
  | some code => { st := s, err := code }
  | none => { st := t.flush, blocks := blocks }

/-- BARRIER (06 R204 to R206). -/
def State.barrierEffect (g : Nat) (s : State) (o : MacroOp) : Effect :=
  let p := s.corePart g
  let i := arg o .index % 32
  if !s.bit .BARRIER_MEMBER i g then { st := s.syncErrInfo g 0 0 i true false 0, err := E_SYNC_UNDECLARED }
  else
    let n := (s.fld .BAR_ARRIVED g i + 1) % 2 ^ 32
    let round := s.fld .BAR_ROUND (p * 32 + i)
    let wait : Bool := arg o .waitFlag = 1
    if n = (round + 1) % 2 ^ 32 || n = (round + 2) % 2 ^ 32 then
      let t := (s.acceptArrival p i g n).settleBarrier p i 2
      if wait && !reached 32 (t.fld .BAR_ROUND (p * 32 + i)) n then
        s.barSend (t.setCore g { t.core g with barrier := some (i, n, false) }) true
      else s.barSend t false
    else { st := s.setCore g { s.core g with barrier := some (i, n, true) }, blocks := true }

def execBarrier (g id : Nat) (s : State) : Host.Outcome State Fault Refusal := .next (s.runOp g id .barrier (State.barrierEffect g))

end Sys2Proof.Machine
end

