-- ==== Sys2Proof/Machine/Spad.lean ====
section
/-! DEFINITION. Machine/Spad.lean: scrubbing, handle and window entries, arriving remote accesses, responses and acknowledgements,
side reads, the pool, and starting a clear (05). -/
namespace Sys2Proof.Machine
open Sys2Proof

/-! ### Scrubbing and correction (05 R155, R158) -/

/-- The bad bytes of a word as a read finds them: those recorded, or more that the event brings. -/
def State.findBad (s : State) (g w found : Nat) : State :=
  let c := s.core g
  let n := max (s.badBytes g w) found
  s.setCore g { c with bad := bankSet 0 c.bad w n }

/-- The words of a side read, row by row: those that its elements lie in (05 R174). -/
def SideJob.words (j : SideJob) : List Nat :=
  (List.range j.rows).flatMap (fun i => hWords j.entry (j.off + i * j.stride) (j.cols * j.esize))

/-- A side read uses port C of a bank (05 R158). -/
def State.sideUses (s : State) (g b : Nat) : Bool := s.side.elim false (fun j => j.core = g && j.words.any (fun w => w / 1024 = b))

/-- SPAD_SCRUB_READ: the next word of a bank is read, unless a side read uses the bank's port C; `found` is the number of its bytes gone
bad since it was last read. -/
def State.spadScrub (s : State) (g b found : Nat) : State :=
  if s.sideUses g b then s else
  let c := s.core g
  let row := bankGet 0 c.scrub b
  let w := b * 1024 + row
  let s := s.setCore g { c with scrub := bankSet 0 c.scrub b ((row + 1) % 1024) }
  let s := s.findBad g w found
  if uncorrectable (s.badBytes g w) then s.noteUe g w else s.readWordCount g w

def execSpadScrubRead (g b found : Nat) (s : State) : Host.Outcome State Fault Refusal := .next (s.spadScrub g (b % 16) found)

/-- SPAD_CORRECTION_WRITEBACK: a corrected word is written back, once. -/
def State.spadWriteback (s : State) (g w : Nat) : State :=
  let c := s.core g
  if c.corrections.contains w then s.setCore g { c with bad := bankSet 0 c.bad w 0, corrections := c.corrections.filter (fun x => x ≠ w) } else s

def execSpadCorrectionWriteback (g w : Nat) (s : State) : Host.Outcome State Fault Refusal := .next (s.spadWriteback g w)

/-! ### Entries (05 R161, R162, R166, R186) -/

/-- A refused entry write. -/
def State.entryReject (s : State) (g code : Nat) : State := (s.setFld .SPAD_CFG_STATUS_REJECT 1 g).setFld .SPAD_CFG_STATUS_CODE code g

/-- HANDLE_ENTRY_COMMIT: a write of HANDLE_HI. -/
def State.handleCommit (s : State) (party : Party) (g hi : Nat) : State :=
  if party = .mgmt then s
  else
    let idx := s.fld .HANDLE_INDEX_INDEX g
    let (v, s) := s.commitPair party (coreAddr g 0x404) (s.handle g idx % 2 ^ 32) hi
    if !s.patchable (s.corePart g) then s.setFld .SPAD_CFG_STATUS_REJECT 1 g
    else if s.handleRefused (s.corePart g) idx v then s.entryReject g E_SPAD_HANDLE_INVALID
    else
      let c := s.core g
      (s.setCore g { c with handles := bankSet 0 c.handles idx v }).autoAdvance .HANDLE_INDEX_INDEX .HANDLE_INDEX_AUTO g

def execHandleEntryCommit (party : Party) (g hi : Nat) (s : State) : Host.Outcome State Fault Refusal := .next (s.handleCommit party g hi)

/-- WINDOW_ENTRY_COMMIT: a write of WINDOW_HI. -/
def State.windowCommit (s : State) (party : Party) (g hi : Nat) : State :=
  if party = .mgmt then s
  else
    let idx := s.fld .WINDOW_INDEX_INDEX g
    let (v, s) := s.commitPair party (coreAddr g 0x410) (s.window g idx % 2 ^ 32) hi
    if !s.patchable (s.corePart g) then s.setFld .SPAD_CFG_STATUS_REJECT 1 g
    else if s.windowRefused (s.corePart g) idx v then s.entryReject g E_SPAD_WINDOW_INVALID
    else
      let c := s.core g
      (s.setCore g { c with windows := bankSet 0 c.windows idx v }).autoAdvance .WINDOW_INDEX_INDEX .WINDOW_INDEX_AUTO g

def execWindowEntryCommit (party : Party) (g hi : Nat) (s : State) : Host.Outcome State Fault Refusal := .next (s.windowCommit party g hi)

/-! ### Remote accesses (05 R168 to R170) -/

/-- A remote access that fails the target's checks: counted, and a fault while the target partition runs. -/
def State.remoteReject (s : State) (g : Nat) : State :=
  let s := s.addFld .SPAD_REMOTE_REJECT 1 g
  if (s.pstate (s.corePart g)).active then s.coreFault g E_SPAD_REMOTE_REJECT 0 else s

/-- The range lies wholly in landing banks, where the partition has any (05 R154, R168). -/
def State.inLanding (s : State) (p v off len : Nat) : Bool :=
  s.landing p = 0 || (hWords v off len).all (fun w => 16 - s.landing p ≤ w / 1024)

/-- Words arrive with the bad bytes the packet brings: `bad` lists them by word, in order. -/
def State.landBad (s : State) (g : Nat) (ws bad : List Nat) : State :=
  (ws.zip bad).foldl (fun s x => if x.2 = 0 then s else s.findBad g x.1 x.2) s

/-- REMOTE_WRITE_ARRIVE. -/
def State.remoteWrite (s : State) (k : Pkt) : State :=
  match s.tagPart k.tag with
  | none => s
  | some _ =>
    let g := pktCore k
    let c := s.core g
    let v := s.handle g k.handle
    if c.dropped.contains (xferKey k) then
      if k.final then s.setCore g { c with dropped := c.dropped.filter (fun x => x ≠ xferKey k) } else s
    else if s.handleCode g k.handle .rwr k.off k.data.length 32 ≠ 0 || !s.inLanding (s.corePart g) v k.off k.data.length then
      let s := if k.final then s else s.setCore g { c with dropped := c.dropped ++ [xferKey k] }
      s.remoteReject g
    else
      let ws := hWords v k.off k.data.length
      let s := ((s.hPut g v k.off k.data).freshWords g ws).landBad g ws k.bad
      if k.final && k.sig then s.arrivingGive g k.sigCounter k.sigAmount k.srcRank else s

def execRemoteWriteArrive (k : Pkt) (s : State) (tied : Bool := false) : Host.Outcome State Fault Refusal :=
  .next ((s.inCycle tied).arriveAt (pktBlock k) k (fun s => s.remoteWrite k))

/-- REMOTE_READ_ARRIVE: the data mover reads and answers; a bad word travels on to its consumer (07 R230). -/
def State.remoteRead (s : State) (k : Pkt) : State :=
  match s.tagPart k.tag with
  | none => s
  | some p =>
    let g := pktCore k
    if s.handleCode g k.handle .rr k.off k.len 32 ≠ 0 then
      (s.remoteReject g).post p { answer k .errorResp with code := E_SPAD_REMOTE_REJECT }
    else
      let ws := hWords (s.handle g k.handle) k.off k.len
      let bad := ws.map (fun w => if uncorrectable (s.badBytes g w) then s.badBytes g w else 0)
      let data := s.hRead g k.handle k.off k.len
      let s := ws.foldl (fun s w => s.readWordCount g w) s
      s.post p { answer k .readResp with data := data, bad := bad }

def execRemoteReadArrive (k : Pkt) (s : State) : Host.Outcome State Fault Refusal := .next (s.arriveAt (pktBlock k) k (fun s => s.remoteRead k))

/-! ### Responses and acknowledgements (05 R170, R181; 06 R196) -/

/-- Update a transfer; one that expects nothing more is forgotten, and its signal is given unless it failed. -/
def State.stepXfer (s : State) (g : Nat) (x : Xfer) : State :=
  let c := s.core g
  if x.left = 0 && x.acks = 0 then
    let s := s.setCore g { c with xfers := c.xfers.filter (fun y => y.id ≠ x.id) }
    if x.failed then s else s.ownSignal g x.args
  else s.setCore g { c with xfers := c.xfers.map (fun y => if y.id = x.id then x else y) }

/-- READ_RESP_ARRIVE: returning data is written in the scratchpad, or sent on to a destination that is not local, bad words as they are
(07 R230). -/
def State.readResp (s : State) (k : Pkt) : State :=
  match s.xferOf k with
  | none => s
  | some x =>
    let g := pktCore k
    let p := s.corePart g
    let left := x.left - 1
    if argOf x.args .dstKind = 0 then
      let h := argOf x.args .dstHandle
      let off := argOf x.args .dstOff + k.sub
      let ws := hWords (s.handle g h) off k.data.length
      let s := ((s.hPut g (s.handle g h) off k.data).freshWords g ws).landBad g ws k.bad
      s.stepXfer g { x with left := left }
    else
      let ks := s.writePkts g x.id 0 x.args k.sub k.data (left = 0) k.bad
      let s := s.stepXfer g { x with left := left, acks := x.acks + ackCount (argOf x.args .dstKind) ks }
      if x.failed then s else ks.foldl (fun s j => s.post p j) s

def execReadRespArrive (k : Pkt) (s : State) (tied : Bool := false) : Host.Outcome State Fault Refusal :=
  .next ((s.inCycle tied).arriveAt (pktBlock k) k (fun s => s.readResp k))

/-- ERROR_RESP_ARRIVE: the code is recorded at the issuing core, its MOVE ends, and the transfer's signal is never applied (05 R170;
11 R356, R365, R368; 12 R377). -/
def State.errorResp (s : State) (k : Pkt) : State :=
  match s.xferOf k with
  | none => s
  | some x =>
    let g := pktCore k
    let y := { x with left := x.left - 1, acks := if x.left = 0 then x.acks - 1 else x.acks, failed := true }
    (s.failXfer g x k.code).stepXfer g y

def execErrorRespArrive (k : Pkt) (s : State) : Host.Outcome State Fault Refusal := .next (s.arriveAt (pktBlock k) k (fun s => s.errorResp k))

/-- MEMORY_ACK_ARRIVE (06 R196, 05 R181, 11 R353). -/
def State.memoryAck (s : State) (k : Pkt) : State :=
  match s.xferOf k with
  | none => s
  | some x => s.stepXfer (pktCore k) { x with acks := x.acks - 1 }

def execMemoryAckArrive (k : Pkt) (s : State) (tied : Bool := false) : Host.Outcome State Fault Refusal :=
  .next ((s.inCycle tied).arriveAt (pktBlock k) k (fun s => s.memoryAck k))

/-! ### Side reads (05 R172 to R174) -/

/-- SPAD_RECOVERY_WRITE (05 R173). -/
def State.recoveryWrite (s : State) (v : Nat) : State :=
  (List.range 16).foldl (fun s p =>
    s.setBit .SPAD_RECOVERY p (v.testBit p && (s.pstate p = .stopped || s.pstate p = .fault) && s.flag .SEC_PART_DEBUG p)) s

def execSpadRecoveryWrite (v : Nat) (s : State) : Host.Outcome State Fault Refusal := .next (s.recoveryWrite v)

/-- A side read is permitted (05 Table 5.6). -/
def State.sideAllowed (s : State) (by_ : SideBy) (p : Nat) : Bool :=
  match by_ with
  | .thimble => s.fld .SPAD_MODE = 1 || s.fld .SPAD_MODE = 2
  | .host => s.bit .SPAD_RECOVERY p && (s.pstate p = .stopped || s.pstate p = .fault) && s.flag .SEC_PART_DEBUG p
  | .mgmt => false

def State.sideElem (s : State) : Nat := 2 ^ s.fld .SIDE_CTRL_ESIZE

/-- The shape checks of a side read. -/
def State.sideShapeBad (s : State) : Bool :=
  let rows := s.fld .SIDE_SHAPE_ROWS
  let cols := s.fld .SIDE_SHAPE_COLS
  s.fld .SIDE_CTRL_ESIZE = 3 || (s.flag .SIDE_CTRL_TRANSPOSE && (64 < rows || 64 < cols))
    || s.fld .SIDE_STRIDE % s.sideElem ≠ 0 || s.fld .SIDE_STRIDE < cols * s.sideElem

/-- Bytes from the offset to the end of the last row. -/
def State.sideLen (s : State) : Nat :=
  if s.fld .SIDE_SHAPE_ROWS = 0 then 0
  else (s.fld .SIDE_SHAPE_ROWS - 1) * s.fld .SIDE_STRIDE + s.fld .SIDE_SHAPE_COLS * s.sideElem

def State.sideEnd (s : State) (code : Nat) : State :=
  ((({ s with side := none }).setFld .SIDE_STATUS_BUSY 0).setFld .SIDE_STATUS_DONE 1).setFld .SIDE_STATUS_CODE code

/-- The side read that the SIDE_* registers describe. -/
def State.sideJob (s : State) (by_ : SideBy) : SideJob :=
  let g := s.fld .SIDE_SRC_CORE
  { by_ := by_, core := g, entry := s.handle g (s.fld .SIDE_SRC_HANDLE), off := s.fld .SIDE_OFFSET, rows := s.fld .SIDE_SHAPE_ROWS,
    cols := s.fld .SIDE_SHAPE_COLS, stride := s.fld .SIDE_STRIDE, esize := s.sideElem, transpose := s.flag .SIDE_CTRL_TRANSPOSE,
    dst := s.fld64 .SIDE_DST_LO .SIDE_DST_HI / 32 * 32 }

/-- SIDE_READ_GO: a write of SIDE_CTRL with GO set. -/
def State.sideGo (s : State) (by_ : SideBy) (v : Nat) : State :=
  if by_ = .mgmt || s.flag .SIDE_STATUS_BUSY then s
  else
    let s := (s.setFld .SIDE_CTRL_TRANSPOSE (v / 2)).setFld .SIDE_CTRL_ESIZE (v / 4)
    let g := s.fld .SIDE_SRC_CORE
    if !s.sideAllowed by_ (s.corePart g) then s.sideEnd E_SPAD_SIDE_DENIED
    else if s.sideShapeBad then s.sideEnd E_SPAD_SIDE_SHAPE
    else
      let code := s.handleCode g (s.fld .SIDE_SRC_HANDLE) .lr (s.fld .SIDE_OFFSET) s.sideLen 1
      if code ≠ 0 then s.sideEnd code
      else (({ s with side := some (s.sideJob by_) }).setFld .SIDE_STATUS_BUSY 1).setFld .SIDE_STATUS_CODE 0

def execSideReadGo (by_ : SideBy) (v : Nat) (s : State) : Host.Outcome State Fault Refusal := .next (s.sideGo by_ v)

/-- The elements of a side read, row-major, or column-major when TRANSPOSE is set (05 R174). -/
def State.sideData (s : State) (j : SideJob) : List Byte :=
  let elem := fun r c => (List.range j.esize).map (fun b => s.spadByte j.core (hAddr j.entry (j.off + r * j.stride + c * j.esize + b)))
  if j.transpose then (List.range j.cols).flatMap (fun c => (List.range j.rows).flatMap (fun r => elem r c))
  else (List.range j.rows).flatMap (fun r => (List.range j.cols).flatMap (fun c => elem r c))

/-- SIDE_READ_DONE: the words of the elements have been read, and the elements go to host memory (05 R155, R174). -/
def State.sideDone (s : State) : State :=
  match s.side with
  | none => s
  | some j =>
    let (s, code) := s.consumeWords j.core j.words
    if code ≠ 0 then s.sideEnd code else (s.out (.hostWrite j.dst (s.sideData j) (s.partTee (s.corePart j.core)))).sideEnd 0

def execSideReadDone (s : State) : Host.Outcome State Fault Refusal := .next s.sideDone

/-! ### Pool (05 R175 to R181) -/

/-- Word number of a pool byte: group × 1,572,864 + word in the group. -/
def poolWord (group off : Nat) : Nat := group * 1572864 + off / 32

/-- Owner record of a request's bank and parity: none, or core and tick. -/
def State.poolOwner (s : State) (bank tick : Nat) : Option (Nat × Nat) :=
  match bankGet 0 s.owners (2 * bank + tick % 2) with
  | 0 => none
  | v + 1 => some (v / 256, v % 256)

def State.poolTake (s : State) (bank core tick : Nat) : State :=
  { s with owners := bankSet 0 s.owners (2 * bank + tick % 2) (core * 256 + tick + 1) }

/-- A word of a request reaches its bank: the state with the owner noted, and whether it met another core's access (05 R177). -/
def State.poolMeet (s : State) (bank core tick : Nat) : State × Option Nat :=
  match s.poolOwner bank tick with
  | some (c, t) => if t = tick then (if c = core then (s, none) else (s, some c)) else (s.poolTake bank core tick, none)
  | none => (s.poolTake bank core tick, none)

/-- The later of two accesses faults its partition (05 R178). -/
def State.poolConflict (s : State) (bank owner later tick tag : Nat) : State :=
  let s := if s.flag .POOL_CONFLICT_LOC_VALID then s
    else
      let s := ((s.setFld .POOL_CONFLICT_LOC_DIE (bank / 256)).setFld .POOL_CONFLICT_LOC_BANK (bank % 256)).setFld .POOL_CONFLICT_LOC_TICK tick
      ((s.setFld .POOL_CONFLICT_LOC_VALID 1).setFld .POOL_CONFLICT_CORES_OWNER owner).setFld .POOL_CONFLICT_CORES_LATER later
  (s.setCore later { s.core later with cp := .error }).coreFault later E_POOL_CONFLICT tag

/-- The banks of a request reached one after another; the first conflict met, if any. -/
def State.poolMeetAll (s : State) (core tick : Nat) : List Nat → State × Option (Nat × Nat)
  | [] => (s, none)
  | b :: t =>
    let (s, c) := s.poolMeet b core tick
    match c with
    | some o => (s, some (b, o))
    | none => s.poolMeetAll core tick t

/-- A write or read request at a pool die. A word found correctable is written back, one found uncorrectable stays bad (05 R155, R180;
log entry 79). -/
def State.poolRequest (s : State) (k : Pkt) : State :=
  let group := (k.dstNode - 72) * 16 + (k.dstUnit - 96)
  let core := k.srcNode * 96 + k.srcUnit
  let p := s.corePart core
  let die := group / 16
  let x := s.part p
  let s := s.setPart p { x with poolPending := match x.poolPending.findIdx? (fun t => t % 256 = k.tick) with
    | some i => x.poolPending.eraseIdx i
    | none => x.poolPending }
  let len := if k.op = .memWrite then k.data.length else k.len
  let n := (len + 31) / 32
  let banks := (List.range (min 16 n)).map (fun j => group * 16 + (k.addr / 32 + j) % 16)
  let (s, c) := s.poolMeetAll core k.tick banks
  match c with
  | some (b, o) => s.poolConflict b o core k.tick (((s.core core).xfers.find? (fun x => x.id = k.xfer)).elim 0 Xfer.tag)
  | none =>
    let w0 := poolWord group k.addr
    let a := group * 50331648 + k.addr
    if k.op = .memWrite then
      let s := { s with mem.pool := bankPutList 0 s.mem.pool a k.data }
      let s := { s with poolBad := bankDrop (fun w => w0 ≤ w && w < w0 + n) s.poolBad }
      let s := k.bad.zipIdx.foldl (fun s x => { s with poolBad := bankSet 0 s.poolBad (w0 + x.2) x.1 }) s
      if k.final then s.inject p (answer k .ack) else s
    else
      let found := (List.range n).map (fun j => max (bankGet 0 s.poolBad (w0 + j)) (k.bad.getD j 0))
      let s := found.zipIdx.foldl (fun s x => { s with poolBad := bankSet 0 s.poolBad (w0 + x.2) (if uncorrectable x.1 then x.1 else 0) }) s
      let s := s.addFld .POOL_CE (found.filter correctable).length 0 die
      if found.any uncorrectable then
        (s.addFld .POOL_UE (found.filter uncorrectable).length 0 die).inject p { answer k .errorResp with code := E_POOL_UNCORRECTABLE }
      else s.inject p { answer k .readResp with data := bankList 0 s.mem.pool a k.len }

/-- A request put among others in the order of their cores (05 R177). -/
def byCore (k : Pkt) : List Pkt → List Pkt
  | [] => [k]
  | j :: t => if k.srcNode * 96 + k.srcUnit < j.srcNode * 96 + j.srcUnit then k :: j :: t else j :: byCore k t

/-- POOL_REQUEST_ARRIVE: a request reaches a pool die, and `rivals` in the same cycle: the lower core comes first (05 R177). -/
def execPoolRequestArrive (k : Pkt) (s : State) (rivals : List Pkt := []) : Host.Outcome State Fault Refusal :=
  .next ((byCore k (rivals.foldl (fun l j => byCore j l) [])).foldl (fun s j => s.arriveAt (pktBlock j) j (fun s => s.poolRequest j)) s)

/-- POOL_SCRUB_READ: a word of a bank is read while POOL_SCRUB.EN is set; a correctable one is written back, an uncorrectable one
counted (05 R158, R180). -/
def State.poolScrub (s : State) (w found : Nat) : State :=
  if !s.flag .POOL_SCRUB then s
  else
    let n := max (bankGet 0 s.poolBad w) found
    let die := w / 1572864 / 16
    if uncorrectable n then { s with poolBad := bankSet 0 s.poolBad w n }.addFld .POOL_UE 1 0 die
    else if correctable n then { s with poolBad := bankSet 0 s.poolBad w 0 }.addFld .POOL_CE 1 0 die
    else s

def execPoolScrubRead (w found : Nat) (s : State) : Host.Outcome State Fault Refusal := .next (s.poolScrub w found)

end Sys2Proof.Machine
end

