-- ==== Sys2Proof/Machine/Plinth.lean ====
section
/-! DEFINITION. Machine/Plinth.lean: the weight store: reads, installation, deletion, audit, bindings and in-place replacement (12). -/
namespace Sys2Proof.Machine
open Sys2Proof

/-! ### Upkeep windows and reads (12 R375, R377) -/

/-- The die whose upkeep window is open (12 R375). -/
def State.upkeepDie (s : State) : Nat := s.now / 64 % 4000 / 1000

/-- A plan read is served: corrected data, or an error for an uncorrectable word. -/
def State.plinthServe (s : State) (k : Pkt) : State :=
  let d := k.dstNode - 76
  let s := s.addFld .PLINTH_CE (k.bad.filter correctable).length 0 d
  if k.bad.any uncorrectable then
    (s.addFld .PLINTH_UE (k.bad.filter uncorrectable).length 0 d).inject k.part { answer k .errorResp with code := E_PLINTH_UNCORRECTABLE }
  else (s.countUp k.part 0x13 0 d k.len).inject k.part { answer k .readResp with data := s.plinthRead k.handle k.addr k.len }

/-- Reads that waited for a window that is over are served, oldest first. -/
def State.plinthDrain (s : State) : State :=
  let go := s.plinthWait.filter (fun r => r.dstNode ≠ 76 + s.upkeepDie)
  go.foldl (fun s r => s.plinthServe r) { s with plinthWait := s.plinthWait.filter (fun r => r.dstNode = 76 + s.upkeepDie) }

/-- PLINTH_READ_REQUEST: a read waits while its die is in upkeep. -/
def execPlinthReadRequest (k : Pkt) (s : State) : Host.Outcome State Fault Refusal :=
  .next (s.arriveAt (pktBlock k) k (fun s =>
    if s.upkeepDie = k.dstNode - 76 then { s with plinthWait := s.plinthWait ++ [k] } else s.plinthServe k))

/-- PLINTH_UPKEEP_WINDOW: die k's window opens at its instant of F as that of the die before it closes; the reads that waited there are
served. -/
def State.upkeepWindow (s : State) (k : Nat) : State :=
  if s.now / 64 % 4000 = 1000 * k then s.plinthDrain else s

def execPlinthUpkeepWindow (k : Nat) (s : State) : Host.Outcome State Fault Refusal := .next (s.upkeepWindow k)

/-! ### Installation and deletion (12 R379 to R386) -/

/-- PLINTH_STATUS.OP codes. -/
def plinthInstalling : Nat := 1
def plinthDeleting : Nat := 2

/-- A read of PLINTH_NONCE0 draws a nonce, whose value no rule states: free values (log entry 3). -/
def State.nonceDraw (s : State) : State :=
  let (a, s) := s.draw
  let (b, s) := s.draw
  let s := (s.setFld .PLINTH_NONCE a.toNat 0 0).setFld .PLINTH_NONCE (a.toNat / 2 ^ 32) 0 1
  let s := (s.setFld .PLINTH_NONCE b.toNat 0 2).setFld .PLINTH_NONCE (b.toNat / 2 ^ 32) 0 3
  { s with plinthNonce := true }

/-- PLINTH_NONCE_READ. -/
def State.nonceRead (s : State) (party : Party) : State :=
  let s := s.nonceDraw
  s.out (.readData party (s.fld .PLINTH_NONCE 0 0))

def execPlinthNonceRead (party : Party) (s : State) : Host.Outcome State Fault Refusal := .next (s.nonceRead party)

def State.plinthNonceValue (s : State) : Nat :=
  s.fld .PLINTH_NONCE 0 0 + s.fld .PLINTH_NONCE 0 1 * 2 ^ 32 + s.fld .PLINTH_NONCE 0 2 * 2 ^ 64 + s.fld .PLINTH_NONCE 0 3 * 2 ^ 96

/-- KEY_ID of the enrolled operator. -/
def State.operatorKey (s : State) : Option Nat :=
  if s.flag .SEC_STATUS_OPERATOR then some (s.fld64 .SEC_OPERATOR_ID_LO .SEC_OPERATOR_ID_HI) else none

/-- The token check (12 Table 12.6, check 1). -/
def State.plinthTokenOk (s : State) (t : PlinthToken) (action : Nat) : Bool :=
  t.magicOk && t.action = action && t.deviceKeyId = ownKeyId && s.plinthNonce && t.nonce = s.plinthNonceValue
    && s.operatorKey = some t.operatorKeyId && t.signedBy = t.operatorKeyId

/-- A token check consumes the nonce, whether it passes or not (12 R382). -/
def State.useNonce (s : State) : State := { s with plinthNonce := false }

/-- The operation fails with a code (12 Table 12.9). -/
def State.plinthFail (s : State) (code : Nat) : State :=
  (((s.setFld .PLINTH_STATUS_OP 0).setFld .PLINTH_STATUS_FAILED 1).setFld .PLINTH_STATUS_CODE code).raiseVector 3

/-- The operation completes. -/
def State.plinthDone (s : State) : State := ((s.setFld .PLINTH_STATUS_OP 0).setFld .PLINTH_STATUS_DONE 1).raiseVector 3

/-- A command written while one runs is ignored and recorded (12 R385). -/
def State.plinthBusy (s : State) : State := (s.setFld .PLINTH_STATUS_CODE E_PLINTH_BUSY).setFld .PLINTH_STATUS_FAILED 1

/-- Layer entries in ascending order, not overlapping, within the object, at multiples of 32 (12 R380, Table 12.4). -/
def layersOk (size : Nat) : Nat → List LayerEntry → Bool
  | _, [] => true
  | from_, e :: t => from_ ≤ e.off && e.off % 32 = 0 && e.len % 32 = 0 && 32 ≤ e.len && e.off + e.len ≤ size && layersOk size (e.off + e.len) t

/-- The checks of Table 12.6 before writing, in order; 0 when they pass. -/
def State.installCode (s : State) (p : PlinthPackage) : Nat :=
  let m := p.manifest
  if !s.plinthTokenOk p.token 1 then E_PLINTH_AUTH
  else if 1024 ≤ p.token.object || (s.obj p.token.object).state ≠ objFree then E_PLINTH_BUSY
  else if m.sha ≠ p.token.manifestDigest then E_PLINTH_AUTH
  else if !m.headerOk || m.layerCount = 0 || 4096 < m.layerCount || m.objectSize % 32 ≠ 0 then E_PLINTH_FORMAT
  else if !s.thimble.publishers.contains m.keyId then E_PLINTH_SIGNER
  else if m.signedBy ≠ m.keyId then E_PLINTH_SIGNATURE
  else if sha512 m.table ≠ m.layersDigest || !m.tableOk || !layersOk m.objectSize 0 m.layers then
    E_PLINTH_FORMAT
  else if s.freeGroups < objGroups m.objectSize then E_PLINTH_FULL
  else 0

/-- PLINTH_INSTALL: the package read from host memory; `withDelete` says that DELETE was written in the same cycle (12 R385). -/
def State.plinthInstall (s : State) (p : PlinthPackage) (withDelete : Bool) : State :=
  if s.fld .PLINTH_STATUS_OP ≠ 0 || withDelete then s.plinthBusy
  else
    let code := s.installCode p
    let s := s.useNonce
    if code ≠ 0 then s.plinthFail code
    else { s.setObj p.token.object { state := objWriting, manifest := p.manifest, written := 0 } with plinthOp := p.token.object }.setFld
      .PLINTH_STATUS_OP plinthInstalling

def execPlinthInstall (p : PlinthPackage) (withDelete : Bool) (s : State) : Host.Outcome State Fault Refusal := .next (s.plinthInstall p withDelete)

/-- An object's bytes are zero again and its number free. -/
def State.eraseObj (s : State) (n : Nat) : State :=
  { s.setObj n {} with mem.plinthData := bankDrop (fun x => x / 2 ^ 41 = n) s.mem.plinthData }

/-- PLINTH_LAYER_WRITTEN: the next layer of the object has been written and its digest computed (12 Table 12.6, check 9). A layer whose fetch
gave fewer bytes has not the manifest's digest. -/
def State.layerWritten (s : State) (data : List Byte) : State :=
  let n := s.plinthOp
  let o := s.obj n
  if s.fld .PLINTH_STATUS_OP ≠ plinthInstalling || o.state ≠ objWriting then s
  else match o.manifest.layers[o.written]? with
    | none => s
    | some e =>
      if data.length ≠ e.len || sha512 data ≠ e.digest then (s.eraseObj n).plinthFail E_PLINTH_DIGEST
      else
        let s := { s with mem.plinthData := bankPutList 0 s.mem.plinthData (plinthKey n e.off) data }
        if o.manifest.layerCount ≤ o.written + 1 then (s.setObj n { o with state := objReady, written := o.written + 1 }).plinthDone
        else s.setObj n { o with written := o.written + 1 }

def execPlinthLayerWritten (data : List Byte) (s : State) : Host.Outcome State Fault Refusal := .next (s.layerWritten data)

/-- The checks of a deletion (12 R384); 0 when they pass. -/
def State.deleteCode (s : State) (t : PlinthToken) : Nat :=
  let o := s.obj t.object
  if !s.plinthTokenOk t 2 then E_PLINTH_AUTH
  else if 1024 ≤ t.object || o.state = objFree then E_PLINTH_BUSY
  else if o.manifest.sha ≠ t.manifestDigest then E_PLINTH_AUTH
  else if (o.state ≠ objReady && o.state ≠ objCorrupt) || s.objBinds t.object ≠ 0 then E_PLINTH_BUSY
  else 0

/-- PLINTH_DELETE. -/
def State.plinthDelete (s : State) (t : PlinthToken) : State :=
  if s.fld .PLINTH_STATUS_OP ≠ 0 then s.plinthBusy
  else
    let code := s.deleteCode t
    let s := s.useNonce
    if code ≠ 0 then s.plinthFail code
    else { s.setObj t.object { s.obj t.object with state := objErasing } with plinthOp := t.object }.setFld .PLINTH_STATUS_OP plinthDeleting

def execPlinthDelete (t : PlinthToken) (s : State) : Host.Outcome State Fault Refusal := .next (s.plinthDelete t)

/-- PLINTH_ERASE_DONE: every group of object n is zero (12 R384, R385). -/
def State.eraseDone (s : State) (n : Nat) : State :=
  if (s.obj n).state ≠ objErasing then s
  else
    let s := s.eraseObj n
    if s.fld .PLINTH_STATUS_OP = plinthDeleting && s.plinthOp = n then s.plinthDone
    else if s.plinth.any (fun e => e.2.state = objErasing) then s
    else s.setFld .PLINTH_STATUS_OP 0

def execPlinthEraseDone (n : Nat) (s : State) : Host.Outcome State Fault Refusal := .next (s.eraseDone n)

/-- PLINTH_AUDIT_LAYER: a layer of a READY object is read again; `ok` says whether its digest is that of the manifest. A pass ends with
the last layer of the last READY object (12 R386). -/
def State.auditLayer (s : State) (n layer : Nat) (ok : Bool) : State :=
  let o := s.obj n
  if !s.flag .PLINTH_CTRL_AUDIT_EN || o.state ≠ objReady || o.manifest.layerCount ≤ layer then s
  else
    let last : Bool := layer + 1 = o.manifest.layerCount && s.plinth.all (fun e => e.1 ≤ n || e.2.state ≠ objReady)
    let s := if last then s.addFld .PLINTH_AUDIT else s
    if ok then s
    else ((s.setObj n { o with state := objCorrupt }).recordFirst .PLINTH_ERROR_CODE .PLINTH_ERROR_MULTI E_PLINTH_CORRUPT).raiseVector 3

def execPlinthAuditLayer (n layer : Nat) (ok : Bool) (s : State) : Host.Outcome State Fault Refusal := .next (s.auditLayer n layer ok)

/-! ### Bindings (12 R387, R388) -/

/-- BAR0 address of BIND_W0. -/
def bindAddr : Nat := 0x00E00074

/-- An entry is the binding of a replacement under way, or of one that is STOPPED. -/
def State.bindInRepl (s : State) (n : Nat) : Bool :=
  (List.range 16).any (fun p => s.fld .REPL_STATUS_STATE p ≠ replIdle && s.fld .REPL_STATUS_STATE p ≠ replDone && (s.repl p).bind = n)

/-- The commit of an entry is refused (12 R388). -/
def State.bindRefused (s : State) (n v : Nat) : Bool :=
  let old := s.bind_ n
  bValid v && ((bValid old && !s.patchable (bPart old)) || !s.patchable (bPart v) || s.bindInRepl n || bReserved v
    || (!bPatch v && (s.obj (bObject v)).state ≠ objReady)
    || (bPatch v && (bRank v = 0 || 256 < bRank v || !(bValid (s.bind_ (bBase v)) && !bPatch (s.bind_ (bBase v)) && bPart (s.bind_ (bBase v)) = bPart v))))

/-- BIND_COMMIT: a write of BIND_W3. -/
def State.bindCommit (s : State) (party : Party) (w3 : Nat) : State :=
  if party = .mgmt then s.setFld .BIND_STATUS_REJECT 1
  else
    let n := s.fld .BIND_INDEX_INDEX
    let old := s.bind_ n
    let word := fun (w : Nat) => match bankGet 0 s.held (pairKey .host (bindAddr + 4 * w)) with
      | 0 => old / 2 ^ (32 * w) % 2 ^ 32
      | v + 1 => v
    let v := word 0 + word 1 * 2 ^ 32 + word 2 * 2 ^ 64 + w3 % 2 ^ 32 * 2 ^ 96
    let s := { s with held := bankDrop (fun a => a = pairKey .host bindAddr || a = pairKey .host (bindAddr + 4) || a = pairKey .host (bindAddr + 8)) s.held }
    if s.bindRefused n v then (s.setFld .BIND_STATUS_REJECT 1).setFld .BIND_STATUS_CODE E_PLINTH_BIND_INVALID
    else
      let s := { s with binds := bankSet 0 s.binds n v }
      if s.flag .BIND_INDEX_AUTO then s.addFld .BIND_INDEX_INDEX else s

def execBindCommit (party : Party) (w3 : Nat) (s : State) : Host.Outcome State Fault Refusal := .next (s.bindCommit party w3)

/-! ### In-place replacement (12 R392 to R396) -/

def State.replState (s : State) (p : Nat) : Nat := s.fld .REPL_STATUS_STATE p

/-- A replacement command or check fails: the code is recorded, the state stays. -/
def State.replCode (s : State) (p code : Nat) : State := s.setFld .REPL_STATUS_CODE code p

/-- REPL_CTRL_ARM: the descriptor is fetched; a write during WRITING is ignored and recorded, another one by the management agent ignored
(12 R396, R397). -/
def State.replArm (s : State) (party : Party) (p : Nat) : State :=
  if s.replState p = replWriting then s.replCode p E_PLINTH_REPL_STATE
  else if party = .mgmt then s
  else s.setRepl p { s.repl p with fetching := true }

def execReplCtrlArm (party : Party) (p : Nat) (s : State) : Host.Outcome State Fault Refusal := .next (s.replArm party p)

/-- Two objects have the same shape: LAYER_COUNT, and LENGTH and FORMAT of each layer. -/
def sameShape (a b : Manifest) : Bool :=
  a.layerCount = b.layerCount && a.layers.map (fun e => (e.len, e.fmt)) = b.layers.map (fun e => (e.len, e.fmt))

/-- The checks of R392 in order; 0 when they pass. An ARM from STOPPED keeps its binding and its new object. -/
def State.replArmCode (s : State) (p bind newObj : Nat) (desc : List (Nat × Bool × Nat)) : Nat :=
  let st := s.pstate p
  let v := s.bind_ bind
  let o := s.obj newObj
  if !(st = .loaded || st = .armed || st = .running) || !(s.replState p = replIdle || s.replState p = replDone || s.replState p = replStopped)
      || (st = .running && s.fld64 .REPL_TICK_LO .REPL_TICK_HI p < s.planTick p + 1) then E_PLINTH_REPL_STATE
  else if !bValid v || bPatch v || bPart v ≠ p then E_PLINTH_NOT_BOUND
  else if o.state ≠ objReady || !sameShape o.manifest (s.obj (bObject v)).manifest then E_PLINTH_SHAPE
  else if desc.length ≠ o.manifest.layerCount || desc.zipIdx.any (fun e => e.1.1 ≠ e.2
      || (e.1.2.1 && (e.1.2.2 % 32 ≠ 0 || s.hbmSpace p < e.1.2.2 + (o.manifest.layers[e.2]?).elim 0 LayerEntry.len))) then E_PLINTH_RANGE
  else 0

/-- REPL_DESC_FETCHED: the descriptor's entries, LAYER, RESIDENT and HBM address. -/
def State.replFetched (s : State) (p : Nat) (desc : List (Nat × Bool × Nat)) : State :=
  let r := s.repl p
  if !r.fetching then s
  else
    let s := s.setRepl p { r with fetching := false }
    let resume : Bool := s.replState p = replStopped
    let bind := if resume then r.bind else s.fld .REPL_BIND_BIND p
    let newObj := if resume then r.newObject else s.fld .REPL_BIND_NEW_OBJECT p
    let code := s.replArmCode p bind newObj desc
    if code ≠ 0 then s.replCode p code
    else
      let s := if resume then s else s.setFld .REPL_DONE_LAYER_VALID 0 p
      (s.setRepl p { desc := desc.map Prod.snd, bind := bind, newObject := newObj }).setFld .REPL_STATUS_STATE replArmed p

def execReplDescFetched (p : Nat) (desc : List (Nat × Bool × Nat)) (s : State) : Host.Outcome State Fault Refusal := .next (s.replFetched p desc)

/-- Layers of the replacement. -/
def State.replLayers (s : State) (p : Nat) : Nat := (s.obj (s.repl p).newObject).manifest.layerCount

/-- REPL_STEP_BEGIN: at the boundary of a step the grant is withheld, HOLD is sent for tick t + 1, and copying begins. -/
def State.replStep (s : State) (p : Nat) : State :=
  if !s.replDue p then s
  else
    let h := s.planTick p + 1
    let r := s.repl p
    let left := if s.flag .REPL_CTRL_MODE p then 1 else s.replLayers p - s.replNext p
    let s := (s.setRepl p { r with steps := r.steps + 1, stepLeft := left, held := some h, stopping := false }).setFld .REPL_STATUS_STATE replWriting p
    s.sendHold p h 0x12

def execReplStepBegin (p : Nat) (s : State) : Host.Outcome State Fault Refusal := .next (s.replStep p)

/-- The step ends: RELEASE with the key of its HOLD, the new state, and the grant of the next tick if nothing else withholds it. -/
def State.replEnd (s : State) (p st : Nat) : State :=
  let r := s.repl p
  let s := (s.setRepl p { r with held := none, stopping := false, finishing := false, stepLeft := 0 }).setFld .REPL_STATUS_STATE st p
  let s := if st = replDone then { s with binds := bankSet 0 s.binds r.bind (s.bind_ r.bind - bObject (s.bind_ r.bind) * 2 ^ 8 + r.newObject * 2 ^ 8) } else s
  match r.held with
  | none => s
  | some h =>
    let x := s.part p
    let s := (s.sendCtl (s.partPorts p) { type := .release, tag := s.fld .PLAN_JOB_TAG p, origin := s.ownRank p, tick := h % 2 ^ 32,
                                          cause := (s.holdCause p).1 }).setPart p
      { x with sentHolds := x.sentHolds.filter (fun y => y ≠ h) }
    if s.grantable p && s.planTick p + 1 = h then s.grant p h else s

/-- The partition was faulted or stopped during the step (12 R396). -/
def State.replCut (s : State) (p : Nat) : Bool :=
  (s.repl p).stopping || (!(s.repl p).finishing && s.pstate p ≠ .running && s.pstate p ≠ .brk)

/-- The bytes of the layer being copied, up to `n` of them, stand in its HBM region when it is resident. -/
def State.replCopy (s : State) (p n : Nat) : State :=
  let r := s.repl p
  let l := s.replNext p
  match r.desc[l]?, (s.obj r.newObject).manifest.layers[l]? with
  | some (true, a), some e =>
    let n := min n e.len
    let s := (List.range 4).foldl (fun s d => s.countUp p 0x13 0 d (((List.range n).filter (fun j => plinthDie (e.off + j) = d)).length)) s
    s.partHbmPut p a (s.plinthRead r.newObject e.off n)
  | _, _ => s

/-- The HBM region of the layer being copied, when it is resident: address and length (12 R393). -/
def State.replRegion (s : State) (p : Nat) : Nat × Nat :=
  match (s.repl p).desc[s.replNext p]?, (s.obj (s.repl p).newObject).manifest.layers[s.replNext p]? with
  | some (true, a), some e => (a, e.len)
  | _, _ => (0, 0)

/-- REPL_LAYER_COPIED: the next layer has been copied, with the number of corrected words by die; or the copy met an uncorrectable
word on a die after a number of bytes (12 R377, R393, R394, R396). While a controller cannot yet serve the layer's packets, it asks the host's
lines back and the copy is not finished (11 R354, R360; log entry 91). -/
def State.replCopied (s : State) (p : Nat) (fixed : List Nat) (bad : Option (Nat × Nat)) : State :=
  let dest := s.replRegion p
  if s.replState p ≠ replWriting then s
  else if !s.hbmOpen p dest.1 dest.2 then s.recallRange p dest.1 dest.2
  else
    let s := fixed.zipIdx.foldl (fun s x => s.addFld .PLINTH_CE x.1 0 x.2) s
    match bad with
    | some (die, n) =>
      let s := ((s.replCopy p n).addFld .PLINTH_UE 1 0 die).setFld .REPL_STATUS_PARTIAL 1 p
      let s := (s.replCode p E_PLINTH_UNCORRECTABLE).enterFault p E_PLINTH_UNCORRECTABLE
      s.replEnd p replStopped
    | none =>
      let l := s.replNext p
      let s := ((s.replCopy p (2 ^ 41)).setFld .REPL_DONE_LAYER_LAYER l p).setFld .REPL_DONE_LAYER_VALID 1 p
      let r := s.repl p
      let s := s.setRepl p { r with stepLeft := r.stepLeft - 1 }
      if s.replLayers p ≤ l + 1 then s.replEnd p replDone
      else if s.replCut p then s.replEnd p replStopped
      else if r.stepLeft ≤ 1 then s.replEnd p replArmed
      else s

def execReplLayerCopied (p : Nat) (fixed : List Nat) (bad : Option (Nat × Nat)) (s : State) : Host.Outcome State Fault Refusal :=
  .next (s.replCopied p fixed bad)

/-- REPL_CTRL_ABORT. -/
def State.replAbort (s : State) (party : Party) (p : Nat) : State :=
  if party = .mgmt then (if s.replState p = replWriting then s.replCode p E_PLINTH_REPL_STATE else s)
  else if s.replState p = replArmed then s.setFld .REPL_STATUS_STATE (if s.flag .REPL_DONE_LAYER_VALID p then replStopped else replIdle) p
  else if s.replState p = replWriting then s.setRepl p { s.repl p with stopping := true }
  else s

def execReplCtrlAbort (party : Party) (p : Nat) (s : State) : Host.Outcome State Fault Refusal := .next (s.replAbort party p)

/-- REPL_CTRL_FINISH: in STOPPED with the partition IDLE, LOADED, STOPPED or in FAULT the remaining layers are copied without holds. -/
def State.replFinish (s : State) (party : Party) (p : Nat) : State :=
  let st := s.pstate p
  if party = .mgmt && s.replState p ≠ replWriting then s
  else if s.replState p = replStopped && (st = .idle || st = .loaded || st = .stopped || st = .fault) then
    (s.setRepl p { s.repl p with finishing := true, stopping := false, held := none, stepLeft := s.replLayers p - s.replNext p }).setFld
      .REPL_STATUS_STATE replWriting p
  else s.replCode p E_PLINTH_REPL_STATE

def execReplCtrlFinish (party : Party) (p : Nat) (s : State) : Host.Outcome State Fault Refusal := .next (s.replFinish party p)

end Sys2Proof.Machine
end

