-- ==== Sys2Proof/Machine/Sampler.lean ====
section
/-! DEFINITION. Machine/Sampler.lean: how the sampling unit picks a token (13 R415 to R417). Exponentials are held as whole numbers of
2^-149, so their sums and comparisons are exact. -/
namespace Sys2Proof.Machine
open Sys2Proof

/-- An FP32 operation of the sampler, rounded to nearest even; beyond the range of FP32 it gives an infinity (log entry 37). -/
def rne (v : Val) : Val :=
  match v with
  | .fin neg _ _ => let (b, f) := writeVal .fp32 .rne v; if f &&& flOvf ≠ 0 then .inf neg else ofF32 b
  | w => w

/-- A list in the order of `lt`, elements that it does not order staying as they are. -/
def orderBy {α : Type} (lt : α → α → Bool) : List α → List α
  | [] => []
  | x :: t => ins (orderBy lt t) x
where
  ins : List α → α → List α
  | [], x => [x]
  | y :: t, x => if lt y x then y :: ins t x else x :: y :: t

/-- A token under consideration: its index, z and e. -/
structure Cand where
  i : Nat
  z : Val
  e : Nat
  deriving DecidableEq, Repr

/-- A value as a whole number of 2^-149; nothing for one that is not positive and finite. -/
def unitsOf : Val → Nat
  | .fin false m e => if -149 ≤ e then m * 2 ^ (e + 149).toNat else m / 2 ^ (-149 - e).toNat
  | _ => 0
def ofUnits (n : Nat) : Val := .fin false n (-149)

def sumE (k : List Cand) : Nat := (k.map Cand.e).sum

/-- The shortest prefix whose sum is at least the bound. -/
def prefixTo (bound : Val) : Nat → List Cand → List Cand
  | _, [] => []
  | acc, c :: t => if vLt false (ofUnits (acc + c.e)) bound then c :: prefixTo bound (acc + c.e) t else [c]

/-- Only the candidates of `k` that `l` names, in the order of `k`. -/
def keepOf (k l : List Cand) : List Cand := k.filter (fun c => l.any (fun d => d.i = c.i))

/-- The first candidate whose running sum exceeds w × s / 2^64. -/
def pickAt (w s : Nat) : Nat → List Cand → Option Nat
  | _, [] => none
  | acc, c :: t => if w * s < (acc + c.e) * 2 ^ 64 then some c.i else pickAt w s (acc + c.e) t

/-- Truncation by TOP_K, MIN_P and TOP_P in that order (13 R415). -/
def truncate (d : ReqDesc) (k : List Cand) : List Cand :=
  let k := if d.topK = 0 then k
    else keepOf k ((orderBy (fun a b => vLt false b.z a.z || (!vLt false a.z b.z && a.i < b.i)) k).take d.topK)
  let mp := ofF32 d.minP
  let k := if vLt false (.fin false 0 0) mp then k.filter (fun c => !vLt false (ofUnits c.e) mp) else k
  let tp := ofF32 d.topP
  if vLt false tp vOne then
    keepOf k (prefixTo (vMul tp (ofUnits (sumE k))).1 0 (orderBy (fun a b => b.e < a.e || (a.e = b.e && a.i < b.i)) k))
  else k

/-- The draw of R416: u × 2^64. -/
def drawU (d : ReqDesc) (index : Nat) : Nat :=
  let b := philox d.seed index d.stream 0 0x53410000
  b.2.1 * 2 ^ 32 + b.1

/-- Logits after the repetition penalty, with NaN taken as −infinity (13 R415). -/
def penalised (d : ReqDesc) (gen : List Nat) (xs : List Val) : List Val :=
  let p := ofF32 d.repPenalty
  let rp := rne (recip p).1
  let recent := gen.drop (gen.length - d.repWindow)
  xs.mapIdx (fun j x =>
    let y := if recent.contains j then (if vLt false (.fin false 0 0) x then rne (vMul x rp).1 else rne (vMul x p).1) else x
    if vIsNan y then .inf true else y)

/-- The lowest index of the largest of some values. -/
def argMax (zs : List Val) : Nat :=
  (zs.mapIdx (fun i z => (i, z))).foldl (fun (b : Nat × Val) e => if vLt false b.2 e.2 then e else b) (0, zs.headD (.inf true)) |>.1

/-- What a sample gives: the token, the record's flags and LOGPROB. The spec states no token (`tokenOpen`) where a temperature whose
reciprocal is infinite makes a zero logit neither a number nor an infinity, and no LOGPROB (`lpOpen`) there or where a greedy choice
falls on an infinite logit (log entry 37). -/
structure Sampled where
  token : Nat
  flags : Nat
  logprob : Nat
  tokenOpen : Bool := false
  lpOpen : Bool := false
  deriving DecidableEq, Repr

/-- Sample one row (13 R415 to R417). -/
def sampleLogits (d : ReqDesc) (gen : List Nat) (xs : List Val) : Sampled :=
  let x := penalised d gen xs
  let t := ofF32 d.temperature
  let greedy := vIsZero t
  let z := if greedy then x else let rt := rne (recip t).1; x.map (fun v => rne (vMul v rt).1)
  let fl := if greedy then 32 else 0
  match z.findIdx? (fun v => v = .inf false) with
  | some i => { token := i, flags := if greedy then fl else 64, logprob := 0, lpOpen := greedy }
  | none =>
    if z.any vIsNan then { token := 0, flags := fl, logprob := 0, tokenOpen := true, lpOpen := true }
    else if z.all (fun v => v = .inf true) then { token := 0, flags := if greedy then fl else 128, logprob := 0xFF800000, lpOpen := greedy }
    else
      let top := argMax z
      let m := z.getD top (.inf true)
      let e := z.map (fun v => if !vLt false v m then 2 ^ 149 else unitsOf (special fnExp (rne (vAdd v (vNeg m)).1)).1)
      let all := ((z.zip e).mapIdx (fun i c => ({ i := i, z := c.1, e := c.2 } : Cand))).filter (fun c => 0 < c.e)
      let token := if greedy then top
        else let k := truncate d all; (pickAt (drawU d gen.length) (sumE k) 0 k).getD top
      let lg := rne (special fnLog (rne (ofUnits (sumE all)))).1
      { token := token, flags := fl, logprob := toF32 (rne (vAdd (rne (vAdd (z.getD token m) (vNeg m)).1) (vNeg lg)).1) }

end Sys2Proof.Machine
end

