-- ==== Sys2Proof/Machine/Serving.lean ====
section
/-! DEFINITION. Machine/Serving.lean: admission, slot builds, sampling and result records (13; 14 R444, R445). -/
namespace Sys2Proof.Machine
open Sys2Proof

/-! ### Errors and records -/

/-- A serving error without its effect on the partition: SRV_ERROR keeps the first code, with the sequence where one applies (13
Tables 13.12, 13.13). -/
def State.srvNote (s : State) (p code : Nat) (seq : Option Nat := none) : State :=
  if s.fld .SRV_ERROR_CODE p = 0 then
    let s := s.recordFirst .SRV_ERROR_CODE .SRV_ERROR_MULTI code p
    match seq with
    | some q => (s.setFld .SRV_ERROR_INFO_SEQ q p).setFld .SRV_ERROR_INFO_VALID 1 p
    | none => s
  else s.recordFirst .SRV_ERROR_CODE .SRV_ERROR_MULTI code p

/-- A serving error: every code but E_SRV_CONFIG puts the partition in FAULT (13 R422). -/
def State.srvError (s : State) (p code : Nat) (seq : Option Nat := none) : State :=
  if code = E_SRV_CONFIG then s.srvNote p code seq else (s.srvNote p code seq).enterFault p code

/-- Record flags (13 Table 13.9). -/
def recFinal : Nat := 1
def recRejected : Nat := 8
def recCancelled : Nat := 16
def recNd : Nat := 256

/-- Reasons (13 Table 13.11). -/
def whyKv : Nat := 1
def whyDeadline : Nat := 2
def whyCancelled : Nat := 3
def whyBad : Nat := 4
def whyBinding : Nat := 5
def whyAbandoned : Nat := 6
def whyUnknown : Nat := 7
def whyPrefill : Nat := 8
def whyLate : Nat := 9

/-- Produce a record: it is written to the ring in its turn (13 R418). -/
def State.addRec (s : State) (p : Nat) (r : Rec) : State :=
  let x := s.srv p
  s.setSrv p { x with records := x.records ++ [r] }

/-- The bytes of a record (13 Table 13.9). -/
def recBytes (r : Rec) : List Byte :=
  leBytes 8 r.reqId ++ leBytes 4 r.token ++ leBytes 4 r.index ++ leBytes 4 r.tick ++ leBytes 4 r.logprob ++ leBytes 2 r.seq ++
    leBytes 1 r.reason ++ leBytes 1 0 ++ leBytes 2 r.flags ++ leBytes 2 r.repl

/-! ### Registers (13 R403, R404, R421) -/

/-- A serving register write that is not carried out (13 R421). -/
def State.srvReject (s : State) (p : Nat) : State := s.setFld .SRV_STATUS_CMD_REJECT 1 p

def State.srvRefuse (s : State) (p : Nat) : State := (s.srvReject p).srvError p E_SRV_CONFIG

/-- The serving registers accept writes while the partition is IDLE, LOADED or STOPPED (13 R421). -/
def State.srvWritable (s : State) (p : Nat) : Bool := s.pstate p = .idle || s.pstate p = .loaded || s.pstate p = .stopped

/-- Base of the serving registers of partition p (13 R421). -/
def srvAddr (p off : Nat) : Nat := 0x00F01000 + p * 0x100 + off

/-- Descriptors still to fetch of the REQ queues of a partition (13 R402). -/
def State.reqOwed (s : State) (p : Nat) : List (Nat × Nat) :=
  ((List.range 4).map (fun k => (16 + 4 * p + k, s.qUsed (16 + 4 * p + k)))).filter (fun e => e.2 ≠ 0 && s.qState e.1 = qRunning)

/-- SRV_ADMIT_THROUGH_WRITE: the write of the high half commits; a lower value is ignored (13 R402, R403, R421). -/
def State.admitThrough (s : State) (party : Party) (p hi : Nat) : State :=
  if party = .mgmt then s
  else
    let cur := s.fld64 .SRV_ADMIT_THROUGH_LO .SRV_ADMIT_THROUGH_HI p
    let (v, s) := s.commitPair party (srvAddr p 0x24) (s.fld .SRV_ADMIT_THROUGH_LO p) hi
    if v < cur then s.srvReject p
    else
      let s := s.setFld64 .SRV_ADMIT_THROUGH_LO .SRV_ADMIT_THROUGH_HI v p
      let x := s.srv p
      s.setSrv p (usePromises { x with promises := x.promises ++ [(v, s.reqOwed p)] })

def execSrvAdmitThroughWrite (party : Party) (p hi : Nat) (s : State) : Host.Outcome State Fault Refusal := .next (s.admitThrough party p hi)

/-- SRV_CFG_WRITE (13 R404, R421). -/
def State.srvCfg (s : State) (party : Party) (p v : Nat) : State :=
  if party = .mgmt then s
  else if !s.srvWritable p || (v.testBit 0 && s.fld .EXCHANGE_PORTS p ≠ 0) then s.srvRefuse p
  else ((s.setFld .SRV_CFG_ADMIT (v % 2) p).setFld .SRV_CFG_LAG (v / 2 % 8) p).setFld .SRV_CFG_ADMIT_PER_TICK (v / 16 % 512) p

def execSrvCfgWrite (party : Party) (p v : Nat) (s : State) : Host.Outcome State Fault Refusal := .next (s.srvCfg party p v)

/-- Bytes from one block table to the next (13 R408). -/
def kvStride (maxBlocks : Nat) : Nat := (maxBlocks * 4 + 31) / 32 * 32

/-- Address of the block tables; bits [4:0] are ignored (13 Table 13.12). -/
def State.kvTable (s : State) (p : Nat) : Nat := s.fld64 .SRV_KV_TABLE_LO .SRV_KV_TABLE_HI p / 32 * 32

/-- The region of block tables lies within the partition's HBM space; an empty region does (13 R408, R421). -/
def State.kvRegionOk (s : State) (p table maxBlocks : Nat) : Bool :=
  s.fld .SRV_GEOM2_SEQ_MAX p = 0 || table / 32 * 32 + s.fld .SRV_GEOM2_SEQ_MAX p * kvStride maxBlocks ≤ s.hbmSpace p

/-- SRV_KV_WRITE of the register at an offset of the partition's block: SRV_KV_CFG, SRV_KV_BLOCKS, SRV_KV_TABLE_LO (held), SRV_KV_TABLE_HI
(commits the pair) or SRV_VOCAB (13 R421, Table 13.12). -/
def State.srvKv (s : State) (party : Party) (p off v : Nat) : State :=
  if party = .mgmt then s
  else if off = 0x18 then (if s.srvWritable p then s.holdLow party (srvAddr p 0x18) v else s.srvRefuse p)
  else
    let (table, s) := if off = 0x1C then s.commitPair party (srvAddr p 0x18) (s.fld .SRV_KV_TABLE_LO p) v else (s.kvTable p, s)
    if !s.srvWritable p then s.srvRefuse p
    else match off with
      | 0x10 =>
        let b := v % 16
        let m := v / 16 % 8192
        if b < 4 || 10 < b || m = 0 || 4096 < m || !s.kvRegionOk p (s.kvTable p) m then s.srvRefuse p
        else (s.setFld .SRV_KV_CFG_BLOCK_LOG2 b p).setFld .SRV_KV_CFG_MAX_BLOCKS_PER_SEQ m p
      | 0x14 => s.setFld .SRV_KV_BLOCKS (v % 2 ^ 24) p
      | 0x1C =>
        if s.kvRegionOk p table (s.fld .SRV_KV_CFG_MAX_BLOCKS_PER_SEQ p) then s.setFld64 .SRV_KV_TABLE_LO .SRV_KV_TABLE_HI table p
        else s.srvRefuse p
      | 0x20 => if v % 2 ^ 21 = 0 || 1048576 < v % 2 ^ 21 then s.srvRefuse p else s.setFld .SRV_VOCAB (v % 2 ^ 21) p
      | _ => s

def execSrvKvWrite (party : Party) (p off v : Nat) (s : State) : Host.Outcome State Fault Refusal := .next (s.srvKv party p off v)

/-! ### Fetching descriptors (13 R401, R402; 14 R444) -/

/-- The field of a descriptor at an offset. -/
def descField (b : List Byte) (off n : Nat) : Nat := leNat ((b.drop off).take n)

/-- A descriptor of 128 bytes (13 Table 13.3). -/
def parseDesc (b : List Byte) : ReqDesc :=
  { reqId := descField b 0 8, seed := descField b 8 8, tickAt := descField b 0x10 8, promptAddr := descField b 0x18 8,
    promptLen := descField b 0x20 4, maxNew := descField b 0x24 4, deadline := descField b 0x28 4, stream := descField b 0x2C 4,
    temperature := descField b 0x30 4, topP := descField b 0x34 4, minP := descField b 0x38 4, repPenalty := descField b 0x3C 4,
    topK := descField b 0x40 2, repWindow := descField b 0x42 2, bind := descField b 0x44 2, op := descField b 0x46 1,
    stops := (List.range 4).map (fun k => descField b (0x48 + 4 * k) 4),
    reserved := descField b 0x47 1 ≠ 0 || descField b 0x58 40 ≠ 0 }

/-- The store of undecided requests is full (14 R444). -/
def State.storeFull (s : State) (p : Nat) : Bool := 4096 ≤ (s.srv p).store.length

/-- In ORDERED mode the next build waits on a descriptor promised by SRV_ADMIT_THROUGH that the full store cannot take (14 R444). -/
def State.storeStuck (s : State) (p : Nat) : Bool :=
  s.srvWaitHost p && s.storeFull p && (s.srv p).promises.any (fun e => (s.srv p).next ≤ e.1)

def State.storeOverflow (s : State) (p : Nat) : State :=
  ((s.srvNote p E_HOST_REQ_OVERFLOW).hostError E_HOST_REQ_OVERFLOW).enterFault p E_HOST_REQ_OVERFLOW

/-- REQ_DESCRIPTOR_FETCH: the next descriptor of REQ queue q, running and not empty, enters the store (14 R444). -/
def State.reqFetch (s : State) (q : Nat) (data : List Byte) : State :=
  let p := qPart q
  if !qIsReq q || s.qUsed q = 0 || !s.dma || !(s.qState q = qRunning || s.qState q = qStopping) then s
  else if s.storeFull p then (if s.storeStuck p then s.storeOverflow p else s)
  else
    let d := parseDesc data
    let x := s.srv p
    let r : SrvReq := { queue := (q - 16) % 4, num := x.fetched, late := !s.arrivalMode p && d.tickAt < x.next, desc := d }
    let x := owe { x with store := x.store ++ [r], fetched := x.fetched + 1 } q (fun n => n - 1)
    (((s.setSrv p x).addFld .Q_INDEX_CI 1 q).indexMoved q).queueSettle q

def execReqDescriptorFetch (q : Nat) (data : List Byte) (s : State) : Host.Outcome State Fault Refusal := .next (s.reqFetch q data)

/-! ### Admission (13 R405 to R408, R419) -/

/-- Request a stands before request b in the partition's order (13 R402). -/
def reqBefore (arrival : Bool) (a b : SrvReq) : Bool :=
  if arrival then a.num < b.num
  else a.desc.tickAt < b.desc.tickAt || (a.desc.tickAt = b.desc.tickAt && (a.queue < b.queue || (a.queue = b.queue && a.num < b.num)))

/-- The first of some requests in the order. -/
def reqHead (arrival : Bool) : List SrvReq → Option SrvReq
  | [] => none
  | r :: t => match reqHead arrival t with
    | none => some r
    | some h => if reqBefore arrival h r then some h else some r

/-- Take a request out of the store. -/
def State.dropReq (s : State) (p num : Nat) : State :=
  let x := s.srv p
  s.setSrv p { x with store := x.store.filter (fun r => r.num ≠ num) }

/-- Blocks that a request needs (13 R407). -/
def State.kvNeed (s : State) (p : Nat) (d : ReqDesc) : Nat :=
  let b := 2 ^ s.fld .SRV_KV_CFG_BLOCK_LOG2 p
  (d.promptLen + d.maxNew + b - 1) / b

/-- Blocks that live sequences hold, and the number of free ones. -/
def State.kvUsed (s : State) (p : Nat) : List Nat := (s.srv p).seqs.flatMap Seq.blocks
def State.kvFree (s : State) (p : Nat) : Nat := s.fld .SRV_KV_BLOCKS p - ((s.kvUsed p).filter (fun b => b < s.fld .SRV_KV_BLOCKS p)).length

/-- The lowest-numbered n free blocks; they lie among the first n + used numbers. -/
def State.kvPick (s : State) (p n : Nat) : List Nat :=
  ((List.range (n + (s.kvUsed p).length)).filter (fun b => b < s.fld .SRV_KV_BLOCKS p && !(s.kvUsed p).contains b)).take n

/-- Prompt capacity C (13 R406). -/
def State.promptCap (s : State) (p : Nat) : Nat :=
  let g := s.geom p
  if 0 < g.preSlots then g.preSlots * g.preChunk else if 8 ≤ g.decSlotTokens then g.decSlots * g.decSlotTokens else 0

/-- Prompt tokens not yet placed, over the sequences in PREFILL (13 R406). -/
def State.promptAhead (s : State) (p : Nat) : Nat :=
  (((s.srv p).seqs.filter (fun q => !q.gen)).map (fun q => q.desc.promptLen - q.placed)).sum

/-- An FP32 field is finite, at least zero (or above it), and below (or at most) one where a bound is given. -/
def f32AtLeast0 (b : Nat) : Bool :=
  match ofF32 b with
  | .fin neg m _ => !neg || m = 0
  | _ => false
def f32Positive (b : Nat) : Bool := f32AtLeast0 b && !vIsZero (ofF32 b)

/-- Row 1 of Table 13.4: the descriptor is outside Table 13.3 or repeats a REQ_ID (log entry 38). -/
def State.badRequest (s : State) (p : Nat) (r : SrvReq) : Bool :=
  let d := r.desc
  let x := s.srv p
  d.op ≠ 1 || d.reserved || d.bind / 2 ^ 12 % 8 ≠ 0 || d.promptAddr % 32 ≠ 0 || d.promptLen = 0 || d.maxNew = 0 || 16777215 < d.maxNew
    || !f32AtLeast0 d.temperature || !f32Positive d.topP || vLt false vOne (ofF32 d.topP)
    || !f32AtLeast0 d.minP || !vLt false (ofF32 d.minP) vOne || !f32Positive d.repPenalty
    || 1024 < d.topK || 1024 < d.repWindow
    || d.stops.any (fun t => t ≠ 0xFFFFFFFF && s.fld .SRV_VOCAB p ≤ t)
    || s.hbmSpace p < d.promptAddr + 4 * d.promptLen
    || x.seqs.any (fun q => q.desc.reqId = d.reqId)
    || x.store.any (fun o => o.num ≠ r.num && o.desc.op = 1 && o.desc.reqId = d.reqId && reqBefore (s.arrivalMode p) o r)

/-- Why a SUBMIT is rejected at the build of tick v: rows 1 to 5 of Table 13.4; 0 when none applies. -/
def State.rejectWhy (s : State) (p v : Nat) (r : SrvReq) : Nat :=
  let d := r.desc
  let b := s.bind_ (d.bind % 4096)
  let c := s.promptCap p
  let need := s.kvNeed p d
  if r.late then whyLate
  else if s.badRequest p r then whyBad
  else if d.bind.testBit 15 && !(bValid b && bPart b = p) then whyBinding
  else if c = 0 then whyPrefill
  else if s.fld .SRV_KV_CFG_MAX_BLOCKS_PER_SEQ p < need || s.fld .SRV_KV_BLOCKS p < need then whyKv
  else if d.deadline ≠ 0 &&
      (if s.arrivalMode p then v else d.tickAt) + d.deadline < v + s.srvLag p * ((s.promptAhead p + d.promptLen + c - 1) / c) - 1 then whyDeadline
  else 0

/-- The ND flag of a record produced by a decision (13 R402). -/
def State.ndFlag (s : State) (p : Nat) : Nat := if s.arrivalMode p then recNd else 0

/-- A decision made in ARRIVAL mode is counted (13 R402, 20 R568). -/
def State.decided (s : State) (p v : Nat) : State := if s.arrivalMode p then s.ndEvent p (v % 2 ^ 32) else s

/-- Reject a request (13 R405). -/
def State.rejectReq (s : State) (p v : Nat) (r : SrvReq) (why : Nat) : State :=
  ((s.dropReq p r.num).addFld .SRV_REJECTED 1 p).addRec p
    { reqId := r.desc.reqId, tick := v, reason := why, flags := recFinal + recRejected + s.ndFlag p }

/-- Admit a request (13 R408): the lowest free number and decode slot, and the lowest free blocks. -/
def State.admitReq (s : State) (p : Nat) (r : SrvReq) : State :=
  let g := s.geom p
  let x := s.srv p
  let num := ((List.range g.seqMax).find? (fun n => !x.seqs.any (fun q => q.num = g.seqBase + n))).getD 0 + g.seqBase
  let slot := ((List.range g.decSlots).find? (fun n => !x.seqs.any (fun q => q.slot = n))).getD 0
  let q : Seq := { num := num, desc := r.desc, slot := slot, blocks := s.kvPick p (s.kvNeed p r.desc) }
  let s := (s.dropReq p r.num).addFld .SRV_ADMITTED 1 p
  s.setSrv p { s.srv p with seqs := (s.srv p).seqs ++ [q] }

/-- SUBMIT at the head of the order; none when it waits (13 Table 13.4). -/
def State.submit (s : State) (p v : Nat) (r : SrvReq) : Option State :=
  let why := s.rejectWhy p v r
  if why ≠ 0 then some (s.rejectReq p v r why)
  else if s.fld .SRV_GEOM2_SEQ_MAX p ≤ (s.srv p).seqs.length || s.kvFree p < s.kvNeed p r.desc then none
  else some (s.admitReq p r)

/-- End a live sequence: its number, slot and blocks are free. -/
def State.endSeq (s : State) (p num : Nat) : State :=
  let x := s.srv p
  s.setSrv p { x with seqs := x.seqs.filter (fun q => q.num ≠ num) }

/-- CANCEL at the head of the order; none when it waits (13 R419). In ORDERED mode a request for a tick after v is not queued for it: whether
it has been fetched is timing, and the outcome depends on tick numbers only (DEDUCED, log entry 38). -/
def State.cancel (s : State) (p v : Nat) (r : SrvReq) : Option State :=
  let x := s.srv p
  let nd := s.ndFlag p
  let c : Rec := { reqId := r.desc.reqId, tick := v, reason := whyCancelled, flags := recFinal + recCancelled + nd }
  if r.late then some (s.rejectReq p v r whyLate)
  else match reqHead (s.arrivalMode p) (x.store.filter (fun o => o.desc.op ≠ 2 && o.desc.reqId = r.desc.reqId &&
      (s.arrivalMode p || o.desc.tickAt ≤ v))) with
    | some o => some (((s.dropReq p o.num).dropReq p r.num).addRec p c)
    | none => match x.seqs.find? (fun q => q.desc.reqId = r.desc.reqId) with
      | some q => if q.waiting then none else some (((s.endSeq p q.num).dropReq p r.num).addRec p { c with seq := q.num })
      | none => some ((s.dropReq p r.num).addRec p { reqId := r.desc.reqId, tick := v, reason := whyUnknown, flags := nd })

/-- Up to n decisions from the head of the order (13 R405). -/
def State.admitScan (s : State) (p v : Nat) : Nat → State
  | 0 => s
  | n + 1 =>
    match reqHead (s.arrivalMode p) (s.srv p).store with
    | none => s
    | some r =>
      if !s.arrivalMode p && v < r.desc.tickAt then s
      else match (if r.desc.op = 2 then s.cancel p v r else s.submit p v r) with
        | none => s
        | some t => (t.decided p v).admitScan p v n

/-! ### Building a tick's slots (13 R409 to R412) -/

/-- Apply a placement (13 R411). -/
def applyPlace (seqs : List Seq) (x : Placement) : List Seq :=
  seqs.filterMap (fun q =>
    if q.num ≠ x.seq then some q
    else
      let q := { q with waiting := false, placed := if x.gen then q.placed else q.placed + x.count }
      match x.result with
      | some (_, true) => none
      | some (_, false) => some { q with gen := true }
      | none => some q)

/-- Fields 0 to 8 of a slot (13 Table 13.6). -/
def State.slotVals (s : State) (p v : Nat) (q : Seq) (count pos token src flags : Nat) : List Nat :=
  [q.num + v % 256 * 2 ^ 16, count, pos, token, src,
   (s.kvTable p + (q.num - s.fld .SRV_GEOM2_SEQ_BASE p) * kvStride (s.fld .SRV_KV_CFG_MAX_BLOCKS_PER_SEQ p)) / 32,
   if q.desc.bind.testBit 15 then q.desc.bind % 4096 else 0xFFFFFFFF, flags, pos + count]

/-- The generation placement of a sequence (13 R410 step 3). -/
def State.genPlace (s : State) (p v : Nat) (q : Seq) : Placement :=
  { tick := v, engine := 0, slot := q.slot, seq := q.num, gen := true,
    vals := s.slotVals p v q 1 (q.desc.promptLen + q.tokens.length - 1) (q.tokens.getLast?.getD 0xFFFFFFFF) 0 8 }

/-- A prompt chunk of at most cap tokens (13 R410 steps 4 and 5). -/
def State.chunkPlace (s : State) (p v : Nat) (engine slot cap : Nat) (q : Seq) : Placement :=
  let n := min cap (q.desc.promptLen - q.placed)
  let last : Bool := q.placed + n = q.desc.promptLen
  { tick := v, engine := engine, slot := slot, seq := q.num, gen := false, last := last, count := n,
    vals := s.slotVals p v q n q.placed 0xFFFFFFFF ((q.desc.promptAddr + 4 * q.placed) / 32)
      (1 + (if last then 2 else 0) + (if q.placed = 0 then 4 else 0)) }

/-- The placements of tick v: generations in their own decode slots; sequences in PREFILL, in order of admission, in the prefill slots
and then in the decode slots left empty, ascending (13 R410 steps 3 to 5). -/
def State.places (s : State) (p v : Nat) : List Placement :=
  let g := s.geom p
  let free := (s.srv p).seqs.filter (fun q => !q.waiting)
  let gens := free.filter Seq.gen
  let pre := free.filter (fun q => !q.gen)
  let slots := (List.range g.decSlots).filter (fun k => !gens.any (fun q => q.slot = k))
  gens.map (s.genPlace p v)
    ++ ((List.range g.preSlots).zip pre).map (fun e => s.chunkPlace p v 1 e.1 g.preChunk e.2)
    ++ (if 8 ≤ g.decSlotTokens then (slots.zip (pre.drop g.preSlots)).map (fun e => s.chunkPlace p v 0 e.1 g.decSlotTokens e.2) else [])

/-- Every condition of R410 for building the next tick of a serving partition, no record waiting (14 R445). -/
def State.buildReady (s : State) (p : Nat) : Bool :=
  let x := s.srv p
  s.fld .SRV_GEOM2_SEQ_MAX p ≠ 0 && s.buildGranted p && x.building.isNone && !s.recordWaits p
    && (s.arrivalMode p || x.next ≤ x.through)
    && x.places.all (fun y => y.tick + s.srvLag p ≠ x.next || !y.needs || y.result.isSome)

/-- SLOT_BUILD: the build of the next tick (13 R410). -/
def State.slotBuild (s : State) (p : Nat) : State :=
  if s.storeStuck p then s.storeOverflow p
  else if !s.buildReady p then s
  else
    let x := s.srv p
    let v := x.next
    let seqs := (x.places.filter (fun y => y.tick + s.srvLag p = v)).foldl applyPlace x.seqs
    let s := s.setSrv p { x with seqs := seqs }
    let s := s.admitScan p v (max 1 (s.fld .SRV_CFG_ADMIT_PER_TICK p))
    let new := s.places p v
    let x := s.srv p
    let seqs := x.seqs.map (fun q => if new.any (fun y => y.seq = q.num) then { q with waiting := true } else q)
    let old := x.places.filter (fun y => v < y.tick + 16)
    (s.setSrv p { x with seqs := seqs, places := old ++ new, next := v + 1, building := some v }).setFld64 .SRV_BUILT_TICK_LO .SRV_BUILT_TICK_HI v p

def execSlotBuild (p : Nat) (s : State) : Host.Outcome State Fault Refusal := .next (s.slotBuild p)

/-- BLOCK_TABLE_ACK: the controllers acknowledge the block table of a sequence, which then lies in HBM, or answer ERROR_RESP (13 R408). While
they cannot yet serve its packets they ask the host's lines back and acknowledge nothing (11 R354, R360; log entry 91). -/
def State.blockTableAck (s : State) (p seq : Nat) (ok : Bool) : State :=
  let x := s.srv p
  match x.seqs.find? (fun q => q.num = seq && !q.acked) with
  | none => s
  | some q =>
    let n := kvStride (s.fld .SRV_KV_CFG_MAX_BLOCKS_PER_SEQ p)
    let a := s.kvTable p + (seq - s.fld .SRV_GEOM2_SEQ_BASE p) * n
    if ok && !s.hbmOpen p a n then s.recallRange p a n
    else if ok && !s.failedIn p a n then
      let data := (q.blocks.flatMap (leBytes 4) ++ List.replicate n 0xFF).take n
      let s := s.setSrv p { x with seqs := x.seqs.map (fun o => if o.num = seq then { o with acked := true } else o) }
      s.partHbmWrite p a data
    else s.srvError p E_SRV_KV_TABLE (some seq)

def execBlockTableAck (p seq : Nat) (ok : Bool) (s : State) : Host.Outcome State Fault Refusal := .next (s.blockTableAck p seq ok)

/-- The value of a field of a slot in tick v (13 R412, Table 13.6). -/
def State.slotVal (s : State) (p v engine slot field : Nat) : Nat :=
  let at_ := fun (t : Nat) => (s.srv p).places.find? (fun y => y.tick = t && y.engine = engine && y.slot = slot)
  let value := fun (y : Option Placement) (f : Nat) => match y with
    | some y => y.vals.getD f 0
    | none => if f = 0 || f = 3 || f = 6 then 0xFFFFFFFF else 0
  if field = 9 then (if v + 1 < s.srvLag p then 0xFFFFFFFF else value (at_ (v + 1 - s.srvLag p)) 0)
  else value (at_ v) field

/-- The bank of tick v through the slot map (13 R400, R412). -/
def State.bankOf (s : State) (p v : Nat) : List (Nat × Nat) :=
  (s.slotMap p).flatMap (fun e =>
    let value := s.slotVal p v (e / 2 ^ 14 % 2) (e % 2 ^ 14) (e / 2 ^ 16 % 16) % 2 ^ 32
    let lo := e / 2 ^ 32 % 128
    let hi := e / 2 ^ 40 % 128
    (List.range (hi + 1 - lo)).map (fun k => ((e / 2 ^ 24 % 64 * 96 + lo + k) * 16 + e / 2 ^ 20 % 16, value)))

/-- SLOT_BANK_PUBLISH: the bank of the tick built is published once the block table of every sequence it places is acknowledged
(03 R104; 13 R408, R410 step 6). -/
def State.publish (s : State) (p : Nat) : State :=
  let x := s.srv p
  match x.building with
  | none => s
  | some v =>
    if x.places.any (fun y => y.tick = v && x.seqs.any (fun q => q.num = y.seq && !q.acked)) then s
    else s.setSrv p { x with building := none, banks := (v, s.bankOf p v) :: x.banks.take 15 }

def execSlotBankPublish (p : Nat) (s : State) : Host.Outcome State Fault Refusal := .next (s.publish p)

/-! ### Sampling (13 R414 to R417) -/

/-- The placement that a SEQ value names for a SAMPLE issued in tick t: one of ticks t − LAG + 1 to t (13 R409, R414). -/
def State.named (s : State) (p t v : Nat) : Option Placement :=
  if v / 2 ^ 24 ≠ 0 || v / 2 ^ 14 % 4 ≠ 0 then none
  else (s.srv p).places.find? (fun y => y.seq = v % 2 ^ 14 && y.tick % 256 = v / 2 ^ 16 % 256 && y.tick ≤ t && t < y.tick + s.srvLag p)

/-- Write a row's token into the result handle; after the last row of its SAMPLE the counter is given once (03 R99; 20 R576). -/
def State.rowDone (s : State) (k : Pkt) (token : Nat) : State :=
  let g := k.srcNode * 96 + k.srcUnit
  let (s, e) := s.hWrite g k.handle (4 * k.round) (leBytes 4 token)
  let s := if e = 0 then s else s.coreFault g e 0
  let x := s.srv k.part
  let done := ((x.rowsDone.find? (fun r => r.1 = g && r.2.1 = k.xfer)).elim 0 (fun r => r.2.2)) + 1
  let rest := x.rowsDone.filter (fun r => !(r.1 = g && r.2.1 = k.xfer))
  if done = k.sub then (s.setSrv k.part { x with rowsDone := rest }).outsideGive g k.sigCounter k.sigAmount false 0
  else s.setSrv k.part { x with rowsDone := rest ++ [(g, k.xfer, done)] }

/-- The sample of a placement: the token goes to the sequence, the record is produced, the row is done (13 R415 to R417, 12 R395). -/
def State.sampleFor (s : State) (k : Pkt) (y : Placement) (q : Seq) (f : Fmt) : State :=
  let p := k.part
  let xs := (List.range k.len).map (fun i => decodeElem f (elemBits f (leNat k.data) i))
  let r := sampleLogits q.desc q.tokens xs
  let (r, s) := if r.tokenOpen then ({ r with token := s.draw.1.toNat % k.len }, s.draw.2) else (r, s)
  let (r, s) := if r.lpOpen then ({ r with logprob := s.draw.1.toNat % 2 ^ 32 }, s.draw.2) else (r, s)
  let i := q.tokens.length
  let stop : Bool := r.token ≠ 0xFFFFFFFF && q.desc.stops.contains r.token
  let most : Bool := i + 1 = q.desc.maxNew
  let layer := bankGet 0 (s.part p).layerAt k.tick
  let x := s.srv p
  let s := s.setSrv p { x with
    seqs := x.seqs.map (fun o => if o.num = q.num then { o with tokens := o.tokens ++ [r.token] } else o),
    places := x.places.map (fun o => if o.seq = y.seq && o.tick = y.tick then { o with result := some (r.token, stop || most) } else o) }
  let s := s.addRec p { reqId := q.desc.reqId, token := r.token, index := i, tick := k.tick, logprob := r.logprob, seq := q.num,
                        flags := r.flags + (if stop || most then recFinal else 0) + (if stop then 2 else 0) + (if most then 4 else 0),
                        repl := layer % 2 ^ 13 + layer / 2 ^ 31 % 2 * 2 ^ 15 }
  let s := s.setFld64 .SRV_TOKENS_LO .SRV_TOKENS_HI (s.fld64 .SRV_TOKENS_LO .SRV_TOKENS_HI p + 1) p
  s.rowDone k r.token

/-- SAMPLE_ROW_RECEIVE: a complete row, its logits in `data`, reaches the sampling unit. It waits for the bank of its tick, and while a
record waits (13 R414; 14 R445). A word that is uncorrectable on arrival ends the SAMPLE with its error (07 R230; log entry 92). -/
def State.sampleRow (s : State) (k : Pkt) : State :=
  let p := k.part
  let g := k.srcNode * 96 + k.srcUnit
  let x := s.srv p
  let s' := s.setSrv p { x with rowsDue := x.rowsDue - 1 }
  if x.rowsDue = 0 then s
  else if k.bad.any uncorrectable then s'.coreFault g E_SPAD_UNCORRECTABLE 0
  else if k.len ≠ s.fld .SRV_VOCAB p then (if k.round = 0 then s'.srvError p E_SRV_VOCAB else s')
  else if s.recordWaits p then s
  else match s.slotReg p k.tick g k.addr, fmtOf k.code with
    | some v, some f =>
      if v = 0xFFFFFFFF then s'.rowDone k 0xFFFFFFFF
      else match s.named p k.tick v with
        | none => s'.srvError p E_SRV_SEQ
        | some y =>
          if !y.needs then s'.rowDone k 0xFFFFFFFF
          else if y.result.isSome then s'.srvError p E_SRV_DOUBLE_SAMPLE (some y.seq)
          else match x.seqs.find? (fun q => q.num = y.seq) with
            | some q => s'.sampleFor k y q f
            | none => s'.srvError p E_SRV_SEQ
    | _, _ => s

def execSampleRowReceive (k : Pkt) (s : State) (tied : Bool := false) : Host.Outcome State Fault Refusal :=
  .next (if s.sharedPaused then s else ((s.inCycle tied).progress k.part).atSleeve (pktBlock k) k (fun s => s.sampleRow k))

/-- MISSED_SAMPLE_DETECT: a required sample has not come although its last tick is complete and the unit has finished every SAMPLE of the
partition (13 R409). -/
def State.missedSample (s : State) (p : Nat) : State :=
  let x := s.srv p
  match x.places.find? (fun y => y.needs && y.result.isNone && y.tick + s.srvLag p ≤ (s.part p).completed && x.seqs.any (fun q => q.num = y.seq)) with
  | some y => if x.rowsDue = 0 then s.srvError p E_SRV_MISSED_SAMPLE (some y.seq) else s
  | none => s

def execMissedSampleDetect (p : Nat) (s : State) : Host.Outcome State Fault Refusal := .next (s.missedSample p)

/-! ### Result records (13 R418; 14 R445, R447) -/

/-- RESULT_RECORD_WRITE: the oldest record goes to the ring, when it has room. -/
def State.recordWrite (s : State) (p : Nat) : State :=
  let x := s.srv p
  let q := 80 + p
  match x.records with
  | [] => s
  | r :: t =>
    if !s.ringRoom p then s
    else
      let s := (s.setSrv p { x with records := t }).out (.hostWrite (s.qAddr q (s.fld .Q_INDEX_PI q)) (recBytes r) (s.queueTee q))
      let s := (s.addFld .Q_INDEX_PI 1 q).indexMoved q
      let y := s.queue q
      let y := { y with unsignalled := y.unsignalled + 1, oldest := if y.oldest = 0 then s.raw + 1 else y.oldest }
      if s.flag .Q_CFG_IRQ_EN q && max 1 (s.fld .Q_IRQ_COUNT q) ≤ y.unsignalled then
        (s.setQueue q { y with unsignalled := 0, oldest := 0 }).queueIrq q
      else s.setQueue q y

def execResultRecordWrite (p : Nat) (s : State) : Host.Outcome State Fault Refusal := .next (s.recordWrite p)

/-! ### Clearing (13 R420) -/

/-- PLAN_CTRL.CLEAR ends every live sequence and queued request with an ABANDONED record (log entry 38). -/
def State.srvAbandon (s : State) (p : Nat) : State :=
  let x := s.srv p
  let t := s.fld64 .SRV_BUILT_TICK_LO .SRV_BUILT_TICK_HI p
  let r : Nat → Rec := fun id => { reqId := id, tick := t, reason := whyAbandoned, flags := recFinal }
  let live := x.seqs.map (fun q => { r q.desc.reqId with seq := q.num })
  let queued := ((orderBy (reqBefore (s.arrivalMode p)) x.store).filter (fun o => o.desc.op ≠ 2)).map (fun o => r o.desc.reqId)
  (s.setSrv p { fetched := x.fetched, promises := x.promises, through := x.through, records := x.records ++ live ++ queued }).setFld64 .SRV_BUILT_TICK_LO .SRV_BUILT_TICK_HI 0 p

/-- A partition clear and PERST_N discard the same state without records (13 R420). -/
def State.srvDiscard (s : State) (p : Nat) : State :=
  let x := s.srv p
  (s.setSrv p { fetched := x.fetched, promises := x.promises, through := x.through, records := x.records }).setFld64 .SRV_BUILT_TICK_LO .SRV_BUILT_TICK_HI 0 p

end Sys2Proof.Machine
end

