-- ==== Sys2Proof/Machine/Clear.lean ====
section
/-! DEFINITION. Machine/Clear.lean: PLAN_CTRL.CLEAR and the partition clear (01 Table 1.6; 05 R182, R183). -/
namespace Sys2Proof.Machine
open Sys2Proof

/-- What CLEAR does to a core: CORE_ERROR, CORE_ERROR_TAG, SYNC_ERR_INFO and SYNC_ERR_RANK at zero (03 Table 3.8, 06 Table 6.7). -/
def State.zeroErrors (s : State) (p : Nat) : State :=
  let fs : List Fld := [.CORE_ERROR_CODE, .CORE_ERROR_MULTI, .CORE_ERROR_TAG, .SYNC_ERR_INFO_COUNTER, .SYNC_ERR_INFO_AMOUNT,
    .SYNC_ERR_INFO_BARRIER, .SYNC_ERR_INFO_IS_BARRIER, .SYNC_ERR_INFO_ARRIVED, .SYNC_ERR_INFO_VALID, .SYNC_ERR_RANK]
  let s := s.dropFlds (fun f g => fs.any (fun x => x.code = f) && s.corePart g = p)
  s.dropFlds (fun f nn => (f = Fld.DIE_ERROR_CORE_CORE.code || f = Fld.DIE_ERROR_CORE_VALID.code) && s.diePart nn = p)

/-- The effect of PLAN_CTRL.CLEAR on a STOPPED or FAULT partition: the hold table emptied, tick counters and error codes at zero, sync
state at zero, serving state abandoned, a held snapshot discarded, and the partition IDLE (01 R33, Table 1.6, Table 1.9; 05 R173;
06 R190; 13 R420; 19 R557; 20 R571). -/
def State.planClear (s : State) (p : Nat) : State :=
  let s := (s.setPState p .idle).clearHolds p
  let s := s.setPart p { s.part p with reported := [], completed := 0, layerAt := [], noProg := 0, denied := false, faultOrigin := 0, poolPending := [] }
  let s := (s.setFld64 .PLAN_TICK_LO .PLAN_TICK_HI 0 p).setFld .PLAN_ERROR_CODE 0 p
  let s := (s.setFld .PLAN_ERROR_MULTI 0 p).setBit .SPAD_RECOVERY p false
  let s := ((s.zeroErrors p).zeroSync p).srvAbandon p
  ((s.setFld64 .ND_EVENTS_LO .ND_EVENTS_HI 0 p).setFld .ND_FIRST_TICK 0 p).dropPlaster p

/-- PLAN_CTRL.CLEAR (01 Table 1.6). -/
def execPlanCtrlClear (p : Nat) (s : State) : Host.Outcome State Fault Refusal :=
  .next (s.planCmd p (fun s => if s.pstate p = .stopped || s.pstate p = .fault then s.planClear p else s.cmdReject p))

/-- A clear of partition p begins: dumps stop before it starts (05 R183, 19 R561). -/
def State.clearBegin (s : State) (p : Nat) : State := (s.abortDumps p 0).setBit .SPAD_CLEAR_STATUS_BUSY p true

/-- PARTITION_CLEAR_START: a write of SPAD_CLEAR_CTRL; a request that comes while its clear runs is absorbed (05 R183). -/
def State.clearStart (s : State) (mask : Nat) : State :=
  (bitsOf mask 16).foldl (fun s p =>
    if s.clearing p then s
    else if s.pstate p ≠ .idle || (s.fld .ARM_STATUS_STATE = armApplying && s.bit .ARM_SCOPE p) then s.setBit .SPAD_CLEAR_ERROR p true
    else s.clearBegin p) s

def execPartitionClearStart (mask : Nat) (s : State) : Host.Outcome State Fault Refusal := .next (s.clearStart mask)

/-- What a partition clear fills or empties (05 R182, Table 5.7; 06 R190, R192; 12 R388; 13 R420; 14 Table 14.9; 19 R545, R557; 20 R571). -/
def State.partClear (s : State) (p : Nat) : State :=
  let s := (s.clearCores (fun g => s.corePart g = p)).clearGroups (fun g => s.ownsGroup p g)
  let s := (s.zeroSync p).srvDiscard p
  let s := s.setPart p { s.part p with resident := false, digest := 0 }
  let s := { s with binds := s.binds.map (fun (e : Nat × Nat) => if bPart e.2 = p && bValid e.2 then (e.1, e.2 - 1) else e) }
  let s := { s with binds := s.binds.filter (fun (e : Nat × Nat) => e.2 ≠ 0) }
  let nd : List Fld := [.ND_CTRL_OVERFLOW_DROP, .ND_CTRL_DROP_LO, .ND_CTRL_DROP_HI, .ND_EVENTS_LO, .ND_EVENTS_HI, .ND_FIRST_TICK]
  let s := s.dropFlds (fun f q => nd.any (fun x => x.code = f) && q = p)
  (s.zeroCounts p).dropPlaster p

/-- A clear that runs is complete (05 R183). -/
def State.clearDone (s : State) (p : Nat) : State :=
  if s.clearing p then ((s.partClear p).setBit .SPAD_CLEAR_STATUS_BUSY p false).setBit .SPAD_CLEAR_STATUS_DONE p true else s

def execPartitionClearDone (p : Nat) (s : State) : Host.Outcome State Fault Refusal := .next (s.clearDone p)

end Sys2Proof.Machine
end

