-- ==== Sys2Proof/Machine/Cp.lean ====
section
/-! DEFINITION. Machine/Cp.lean: the control processor: one meaning per instruction class, hardware loops, issue and breakpoints
(03 R81 to R87, R103 to R111). A command carries out the instruction at CP_PC of its core when that instruction is of its class and
the core may execute; otherwise nothing happens (log entry 15). -/
namespace Sys2Proof.Machine
open Sys2Proof

def State.pc (s : State) (g : Nat) : Nat := s.fld .CP_PC g
/-- CP_PC takes an index; one beyond the store is noted, since CP_PC has 14 bits. -/
def State.setPc (s : State) (g v : Nat) : State :=
  if v < 16384 then s.setFld .CP_PC v g else (s.setCore g { s.core g with ranOut := true }).setFld .CP_PC v g

/-- The instruction at CP_PC: one beyond the last that was loaded, or beyond the store of 16,384, decodes to no class (03 R82). -/
def State.instr (s : State) (g : Nat) : CpInstr :=
  if (s.core g).ranOut then .undecodable else ((s.core g).prog[s.pc g]?).getD .undecodable

/-- The core may execute: its die is awake (10 Table 10.4), its partition runs, its stream has not ended, it is not stopped at a breakpoint, and the sequencer has
granted the tick whose instructions come next (03 R85, R90). -/
def State.cpReady (s : State) (g : Nat) : Bool :=
  let c := s.core g
  s.awake (g / 96) && !s.stepping (g / 96) && (s.pstate (s.corePart g)).active && c.cp = .run && c.fired = 0 && c.tick ≤ s.planTick (s.corePart g)

/-- An error raised by the CP ends the stream at that instruction (03 R114). -/
def State.cpError (s : State) (g code : Nat) : State :=
  (s.setCore g { s.core g with cp := .error }).coreFault g code 0

/-- Carry out the instruction at CP_PC by `f`, where `f` answers none for an instruction of another class. -/
def State.cpStep (s : State) (g : Nat) (f : CpInstr → Option State) : State :=
  if s.cpReady g then
    match s.instr g with
    | .undecodable => s.cpError g E_CORE_ILLEGAL_OP
    | .damaged => s.cpError g E_CORE_IMEM
    | i => (f i).getD s
  else s

/-- Go on to the next instruction. -/
def State.nextPc (s : State) (g : Nat) : State := s.setPc g (s.pc g + 1)

/-! ### Registers -/

/-- A scalar register; s0 reads zero (03 Table 3.1). -/
def State.sreg (s : State) (g n : Nat) : Nat := if n = 0 then 0 else s.fld64 .SCALAR_LO .SCALAR_HI g n
/-- Write a scalar register; writes to s0 are discarded. -/
def State.setSreg (s : State) (g n v : Nat) : State := if n = 0 then s else s.setFld64 .SCALAR_LO .SCALAR_HI v g n

/-- The second source of a SCALAR or the offset of a FETCH; an immediate is zero-extended (log entry 16). -/
def State.scalarSrc (s : State) (g : Nat) : ScalarSrc → Nat
  | .reg n => s.sreg g n
  | .imm v => v % 2 ^ 32

/-- What reading a slot register gives: the core's quad has none, its bank is not published yet, or a value (03 R104). -/
inductive SlotRead where
  | absent | waits | value (v : Nat)
  deriving DecidableEq, Repr

def State.readSlotReg (s : State) (g n : Nat) : SlotRead :=
  if s.coreRole g = 0 then .absent
  else match s.slotReg (s.corePart g) (s.core g).tick g n with
    | none => .waits
    | some v => .value v

/-- Wait for the slot bank; the first time, a BLOCK entry is traced (03 Table 3.7). -/
def State.waitSlot (s : State) (g : Nat) : State :=
  if (s.core g).slotWait then s
  else (s.trace g 8 0xFFFF).setCore g { (s.trace g 8 0xFFFF).core g with slotWait := true }

/-- The wait is over. -/
def State.slotDone (s : State) (g : Nat) : State := s.setCore g { s.core g with slotWait := false }

/-! ### SCALAR (03 Table 3.2) -/

/-- The result of a scalar operation; none where the spec states none: a shift by 64 or more (log entry 17). -/
def scalarResult (op : ScalarOp) (a b : Nat) : Option Nat :=
  let sa := sgn 64 a
  let sb := sgn 64 b
  match op with
  | .add => some ((a + b) % 2 ^ 64)
  | .sub => some ((a + 2 ^ 64 - b % 2 ^ 64) % 2 ^ 64)
  | .mul => some (a * b % 2 ^ 64)
  | .and => some (a &&& b)
  | .or => some (a ||| b)
  | .xor => some (a ^^^ b)
  | .shl => if b < 64 then some (a * 2 ^ b % 2 ^ 64) else none
  | .shr => if b < 64 then some (a / 2 ^ b) else none
  | .sar => if b < 64 then some (unsgn 64 (Int.fdiv sa (2 ^ b))) else none
  | .minS => some (if sb < sa then b else a)
  | .minU => some (min a b)
  | .maxS => some (if sa < sb then b else a)
  | .maxU => some (max a b)
  | .eq => some (a == b).toNat
  | .ne => some (a != b).toNat
  | .ltS => some (decide (sa < sb)).toNat
  | .ltU => some (decide (a < b)).toNat
  | .leS => some (decide (sa ≤ sb)).toNat
  | .leU => some (decide (a ≤ b)).toNat

def State.cpScalar (s : State) (g : Nat) : State :=
  s.cpStep g (fun i => match i with
    | .scalar op rd ra b =>
      match scalarResult op (s.sreg g ra) (s.scalarSrc g b) with
      | some v => some ((s.setSreg g rd v).nextPc g)
      | none => let (d, s) := s.draw; some ((s.setSreg g rd d.toNat).nextPc g)
    | _ => none)

def execScalar (g : Nat) (s : State) : Host.Outcome State Fault Refusal := .next (s.cpScalar g)

/-! ### READ -/

def State.cpRead (s : State) (g : Nat) : State :=
  s.cpStep g (fun i => match i with
    | .readPrm rd n => some ((s.setSreg g rd (s.fld .PRM g n)).nextPc g)
    | .readSlot rd n => some (match s.readSlotReg g n with
      | .absent => s.cpError g E_CORE_SLOT
      | .waits => s.waitSlot g
      | .value v => ((s.slotDone g).setSreg g rd v).nextPc g)
    | _ => none)

def execReadSc (g : Nat) (s : State) : Host.Outcome State Fault Refusal := .next (s.cpRead g)

/-! ### FETCH (03 R84; 05 R163, R157) -/

def State.cpFetch (s : State) (g : Nat) : State :=
  s.cpStep g (fun i => match i with
    | .fetch rd h src =>
      let off := s.scalarSrc g src
      let code := s.handleCode g h .lr off 8 8
      if code ≠ 0 then some (s.cpError g code)
      else
        let ws := hWords (s.handle g h) off 8
        let c := s.core g
        if (c.started.map Running.op ++ c.queue).any (fun o => overlap (hSpans (s.handle g h) off 8) (s.spansOf g (opWrites o))) then some s
        else
          let (s, e) := s.consumeWords g ws
          if e ≠ 0 then some (s.cpError g e) else some ((s.setSreg g rd (leNat (s.hRead g h off 8))).nextPc g)
    | _ => none)

def execFetch (g : Nat) (s : State) : Host.Outcome State Fault Refusal := .next (s.cpFetch g)

/-! ### SKIP (03 R83) -/

/-- Index of the first instruction from `from_` on that satisfies `f`. -/
def findFrom (prog : List CpInstr) (from_ : Nat) (f : CpInstr → Bool) : Option Nat :=
  ((prog.drop from_).findIdx? f).map (fun k => from_ + k)

def isTick : CpInstr → Bool
  | .tick => true
  | _ => false
def isEnd : CpInstr → Bool
  | .fin => true
  | _ => false

/-- The target lies beyond the next TICK, the next END, or the ENDLOOP of the innermost open loop. -/
def skipBeyond (c : Core) (pc target : Nat) : Bool :=
  let past : Option Nat → Bool := fun x => x.elim false (fun k => k < target)
  past (findFrom c.prog (pc + 1) isTick) || past (findFrom c.prog (pc + 1) isEnd) || past (c.loops.head?.map LoopLevel.last)

def skipHolds (c : SkipCond) (v : Nat) : Bool :=
  match c with
  | .zero => v = 0
  | .nonZero => v ≠ 0
  | .negative => sgn 64 v < 0
  | .nonNegative => 0 ≤ sgn 64 v

def State.cpSkip (s : State) (g : Nat) : State :=
  s.cpStep g (fun i => match i with
    | .skip cond rs n =>
      if !skipHolds cond (s.sreg g rs) then some (s.nextPc g)
      else
        let target := s.pc g + 1 + n
        if skipBeyond (s.core g) (s.pc g) target then some (s.cpError g E_CORE_SKIP_RANGE)
        else some ((s.trace g 4 n).setPc g target)
    | _ => none)

def execSkip (g : Nat) (s : State) : Host.Outcome State Fault Refusal := .next (s.cpSkip g)

/-! ### LOOP and ENDLOOP (03 R105 to R107) -/

/-- Index of the ENDLOOP that closes a loop opened before `i`, with no END before it; `depth` loops are open inside it. -/
def matchEnd : List CpInstr → Nat → Nat → Option Nat
  | [], _, _ => none
  | x :: t, i, depth =>
    match x with
    | .fin => none
    | .loop _ => matchEnd t (i + 1) (depth + 1)
    | .endloop => if depth = 0 then some i else matchEnd t (i + 1) (depth - 1)
    | _ => matchEnd t (i + 1) depth

/-- An operand's value: none where it must wait for its slot bank; an error where the core has no slot registers (03 R87, R104). -/
def State.operand (s : State) (g : Nat) : Operand → SlotRead
  | .imm v => .value v
  | .prm n => .value (s.fld .PRM g n)
  | .sreg n => .value (s.sreg g n)
  | .slot n => s.readSlotReg g n

def isImm : Operand → Bool
  | .imm _ => true
  | _ => false

def State.cpLoop (s : State) (g : Nat) : State :=
  s.cpStep g (fun i => match i with
    | .loop count =>
      let c := s.core g
      let pc := s.pc g
      match matchEnd (c.prog.drop (pc + 1)) (pc + 1) 0 with
      | none => some (s.cpError g E_CORE_ILLEGAL_OP)
      | some last =>
        if 4 ≤ c.loops.length then some (s.cpError g E_CORE_LOOP_DEPTH)
        else if !isImm count && ((c.prog.drop (pc + 1)).take (last - pc)).any isTick then some (s.cpError g E_CORE_LOOP_TICK)
        else match s.operand g count with
          | .absent => some (s.cpError g E_CORE_SLOT)
          | .waits => some (s.waitSlot g)
          | .value v =>
            let n := v % 2 ^ 32
            let s := (s.slotDone g).trace g 3 n
            let c := s.core g
            if n = 0 then some (s.setPc g (last + 1))
            else some ((s.setCore g { c with loops := { left := n, body := pc + 1, last := last } :: c.loops }).nextPc g)
    | _ => none)

def execLoop (g : Nat) (s : State) : Host.Outcome State Fault Refusal := .next (s.cpLoop g)

def State.cpEndloop (s : State) (g : Nat) : State :=
  s.cpStep g (fun i => match i with
    | .endloop =>
      let c := s.core g
      match c.loops with
      | [] => some (s.cpError g E_CORE_ILLEGAL_OP)
      | l :: rest =>
        if 1 < l.left then some ((s.setCore g { c with loops := { l with left := l.left - 1 } :: rest }).setPc g l.body)
        else some ((s.setCore g { c with loops := rest }).nextPc g)
    | _ => none)

def execEndloop (g : Nat) (s : State) : Host.Outcome State Fault Refusal := .next (s.cpEndloop g)

/-! ### TICK, MARK, END -/

def State.cpTick (s : State) (g : Nat) : State :=
  s.cpStep g (fun i => match i with
    | .tick => let c := s.core g; some ((s.setCore g { c with tick := c.tick + 1 }).nextPc g)
    | _ => none)

def execTick (g : Nat) (s : State) : Host.Outcome State Fault Refusal := .next (s.cpTick g)

def State.cpMark (s : State) (g : Nat) : State :=
  s.cpStep g (fun i => match i with
    | .mark v => some ((s.trace g 6 v).nextPc g)
    | _ => none)

def execMark (g : Nat) (s : State) : Host.Outcome State Fault Refusal := .next (s.cpMark g)

def State.cpEnd (s : State) (g : Nat) : State :=
  s.cpStep g (fun i => match i with
    | .fin => some (s.setCore g { s.core g with cp := .ended })
    | _ => none)

def execFin (g : Nat) (s : State) : Host.Outcome State Fault Refusal := .next (s.cpEnd g)

/-! ### ISSUE and breakpoints (03 R86, R87, R104, R108, R109) -/

/-- Resolve operands in order (03 R87). -/
def State.resolve (s : State) (g : Nat) : List (Arg × Operand) → SlotRead × List (Arg × Nat)
  | [] => (.value 0, [])
  | (a, o) :: t =>
    match s.operand g o with
    | .value v => let (r, l) := s.resolve g t; (r, (a, v) :: l)
    | r => (r, [])

/-- The breakpoint conditions that match the next macro-operation: bits COUNT, TAG, TICK (03 R108). -/
def State.breakMask (s : State) (g tag : Nat) : Nat :=
  let c := s.core g
  let count : Bool := s.flag .BRK_CTRL_COUNT_EN g && s.fld64 .MACRO_COUNT_LO .MACRO_COUNT_HI g = s.fld64 .BRK_COUNT_LO .BRK_COUNT_HI g
  let tagHit : Bool := s.flag .BRK_CTRL_TAG_EN g && (tag ^^^ s.fld .BRK_TAG_VALUE g) &&& s.fld .BRK_TAG_MASK g = 0
  let tick : Bool := s.flag .BRK_CTRL_TICK_EN g && c.tick = s.fld64 .BRK_TICK_LO .BRK_TICK_HI g && c.lastTick ≠ c.tick + 1
  count.toNat + 2 * tagHit.toNat + 4 * tick.toNat

/-- A breakpoint fires: the core stops before the macro-operation and the partition enters BREAK (03 R108, R109; 01 Table 1.6). -/
def State.breakFire (s : State) (g mask tag : Nat) : State :=
  let p := s.corePart g
  let nn := g / 96
  let s := if mask.testBit 0 then s.setFld .BRK_STATUS_COUNT_HIT 1 g else s
  let s := if mask.testBit 1 then s.setFld .BRK_STATUS_TAG_HIT 1 g else s
  let s := if mask.testBit 2 then s.setFld .BRK_STATUS_TICK_HIT 1 g else s
  let s := if s.fld .DIE_BREAK_CORE_VALID nn = 0 || g % 96 < s.fld .DIE_BREAK_CORE_CORE nn then
      (s.setFld .DIE_BREAK_CORE_CORE (g % 96) nn).setFld .DIE_BREAK_CORE_VALID 1 nn
    else s
  let s := s.setCore g { s.core g with fired := mask }
  let s := s.trace g 7 tag
  if s.pstate p = .brk then s
  else
    let s := s.setPart p { s.part p with prev := s.fld .PLAN_STATUS_STATE p, breakAt := s.raw + 1 }
    (s.setPState p .brk).raiseVector (8 + p)

/-- A TAKE that may wait, a WAIT or a BARRIER of the core has not been satisfied yet: later issue is blocked (03 R89, 06 R204). -/
def Core.issueBlocked (c : Core) : Bool :=
  let waits : MacroOp → Bool := fun o => o.fam = .wait || o.fam = .barrier || (o.fam = .take && arg o .waitFlag = 1)
  c.queue.any waits || c.started.any (fun r => waits r.op && !r.done)

/-- SUB of counter MACRO_ISSUED: the family in the row order of Table 3.3 (19 Table 19.3). -/
def famSub : Family → Nat
  | .matmul => 0 | .attn => 1 | .vec => 2 | .reduce => 3 | .sample => 4 | .move => 5 | .fill => 6 | .copy => 7
  | .give => 8 | .take => 8 | .wait => 8 | .barrier => 9 | .illegal => 31

def State.cpIssue (s : State) (g : Nat) : State :=
  let p := s.corePart g
  let alone : Bool := s.pstate p = .brk
  if s.pstate p ≠ .running && s.pstate p ≠ .stopping && !(alone && (s.part p).breakAt = s.raw + 1) then s
  else s.cpStep g (fun i => match i with
    | .issue m =>
      let c := s.core g
      if m.fam = .illegal then some (s.cpError g E_CORE_ILLEGAL_OP)
      else if c.issueBlocked || 8 ≤ c.queue.length then some s
      else match s.resolve g m.args with
        | (.absent, _) => some (s.cpError g E_CORE_SLOT)
        | (.waits, _) => some (s.waitSlot g)
        | (.value _, args) =>
          let mask := s.breakMask g m.tag
          if mask ≠ 0 && !c.resume then some ((s.slotDone g).breakFire g mask m.tag)
          else if alone then some s
          else
            let n := s.fld64 .MACRO_COUNT_LO .MACRO_COUNT_HI g
            let s := (s.slotDone g).trace g 1 m.tag
            let c := s.core g
            let o : MacroOp := { id := n, tick := c.tick, fam := m.fam, tag := m.tag, args := args }
            let s := (s.setCore g { c with queue := c.queue ++ [o], resume := false, lastTick := c.tick + 1 }).countUp p 0x03 (famSub m.fam) g 1
            some ((s.setFld64 .MACRO_COUNT_LO .MACRO_COUNT_HI (n + 1) g).nextPc g)
    | _ => none)

def execIssue (g : Nat) (s : State) : Host.Outcome State Fault Refusal := .next (s.cpIssue g)

/-! ### Parameter, trap and breakpoint registers -/

/-- PRM_WRITE (03 R103). -/
def State.prmWrite (s : State) (party : Party) (g n v : Nat) : State :=
  if party = .mgmt then s
  else if s.patchable (s.corePart g) then s.setFld .PRM v g n
  else s.setFld .CORE_STATUS_PATCH_REJECT 1 g

def execPrmWrite (party : Party) (g n v : Nat) (s : State) : Host.Outcome State Fault Refusal := .next (s.prmWrite party g n v)

/-- ARITH_TRAP_WRITE (04 R145). -/
def State.arithTrapWrite (s : State) (party : Party) (g v : Nat) : State :=
  if party = .mgmt then s
  else if s.patchable (s.corePart g) then s.setFld .ARITH_TRAP v g
  else s.setFld .CORE_STATUS_PATCH_REJECT 1 g

def execArithTrapWrite (party : Party) (g v : Nat) (s : State) : Host.Outcome State Fault Refusal := .next (s.arithTrapWrite party g v)

/-- A write gated on tenant debug is open to a party: the grant holds, and for a partition with a tenant the access is on a stream
bound to it (15 R477); failure analysis opens it too (03 R111, 15 R464). -/
def State.debugOpen (s : State) (p : Nat) (party : Party) : Bool :=
  (s.flag .SEC_PART_DEBUG p && (!s.flag .SEC_PART_BOUND p || party = .bound)) || s.flag .SEC_STATUS_FA_ACTIVE

/-- BRK_REG_WRITE: BRK_CTRL (0), BRK_TAG (1), or the commit of BRK_COUNT (2) or BRK_TICK (3) by a write of the high half (03 R111,
00 R9). -/
def State.brkWrite (s : State) (party : Party) (g which v : Nat) : State :=
  if party = .mgmt then s
  else if !s.debugOpen (s.corePart g) party then s.setFld .BRK_STATUS_DENIED 1 g
  else match which with
    | 0 => (((s.setFld .BRK_CTRL_COUNT_EN v g).setFld .BRK_CTRL_TAG_EN (v / 2) g).setFld .BRK_CTRL_TICK_EN (v / 4) g).setFld .BRK_CTRL_ONESHOT (v / 8) g
    | 1 => (s.setFld .BRK_TAG_VALUE v g).setFld .BRK_TAG_MASK (v / 2 ^ 16) g
    | 2 => let (x, s) := s.commitPair party (coreAddr g 0x28) (s.fld .BRK_COUNT_LO g) v; s.setFld64 .BRK_COUNT_LO .BRK_COUNT_HI x g
    | _ => let (x, s) := s.commitPair party (coreAddr g 0x30) (s.fld .BRK_TICK_LO g) v; s.setFld64 .BRK_TICK_LO .BRK_TICK_HI x g

def execBrkRegWrite (party : Party) (g which v : Nat) (s : State) : Host.Outcome State Fault Refusal := .next (s.brkWrite party g which v)

end Sys2Proof.Machine
end

