-- ==== Sys2Proof/Machine/Deadlock.lean ====
section
/-! DEFINITION. Machine/Deadlock.lean: the no-progress timer and the wait graph (01 R44 to R46; 06 R193, R210). -/
namespace Sys2Proof.Machine
open Sys2Proof

/-- What a core waits on: a counter, or a barrier (R205 waits and R204 stalls alike). -/
inductive WaitOn where
  | counter (c : Nat)
  | barrier (i n : Nat) (stalled : Bool)
  deriving DecidableEq, Repr

def State.waitOf (s : State) (g : Nat) : Option WaitOn :=
  match (s.core g).barrier with
  | some (i, n, st) => some (.barrier i n st)
  | none =>
    ((s.core g).started.find? (fun r => r.blocked && !r.done && (r.op.fam = .take || r.op.fam = .wait))).map
      (fun r => .counter (opCounter r.op))

/-- Where the path goes from a waiting core. -/
inductive PathStep where
  | core (g : Nat)
  | leaves (rank : Nat)
  | ends
  deriving DecidableEq, Repr

/-- The edge of a waiting core (01 R45, 06 R193, R210). -/
def State.waitEdge (s : State) (p g : Nat) : WaitOn → PathStep
  | .counter c =>
    let d := s.decl g c
    if dKind d ≠ 0 then .ends
    else if dRank d ≠ s.ownRank p then .leaves (dRank d)
    else .core (dCore d)
  | .barrier i n stalled =>
    let need := if stalled then (s.fld .BAR_ROUND (p * 32 + i) + 1) % 2 ^ 32 else n
    match (s.barMembers p i).find? (fun m => !reached 32 (s.fld .BAR_ARRIVED m i) need) with
    | some m => .core m
    | none => .leaves (s.fld .BAR_RANKS_RANK_LO (p * 32 + i))

/-- How the path ended. -/
inductive PathEnd where
  | cycle (from_ : Nat)
  | remote (rank : Nat)
  | stops
  deriving DecidableEq, Repr

/-- Follow the path from a core: the entries in path order, each with what it waits on, and how it ended. -/
def State.follow (s : State) (p : Nat) : Nat → Nat → List (Nat × Option WaitOn) → List (Nat × Option WaitOn) × PathEnd
  | 0, _, path => (path, .stops)
  | n + 1, g, path =>
    if path.any (fun e => e.1 = g) then (path, .cycle g)
    else match s.waitOf g with
      | none => (path ++ [(g, none)], .stops)
      | some w =>
        let path := path ++ [(g, some w)]
        match s.waitEdge p g w with
        | .core h => s.follow p n h path
        | .leaves r => (path, .remote r)
        | .ends => (path, .stops)

/-- Write the entry list into DEADLOCK_CYCLE0–7 and its length into DEADLOCK_INFO. -/
def State.listPath (s : State) (p : Nat) (path : List (Nat × Option WaitOn)) : State :=
  let s := s.dropFlds (fun f i => i = p && [Fld.DEADLOCK_CYCLE_CORE, .DEADLOCK_CYCLE_COUNTER, .DEADLOCK_CYCLE_BAR, .DEADLOCK_CYCLE_NOWAIT, .DEADLOCK_CYCLE_VALID].any (fun x => x.code = f))
  let s := path.zipIdx.foldl (fun s e =>
    let k := e.2
    let (cnt, bar, nowait) := match e.1.2 with
      | none => (0, 0, 1)
      | some (.counter c) => (c, 0, 0)
      | some (.barrier i _ _) => (i, 1, 0)
    let s := (s.setFld .DEADLOCK_CYCLE_CORE e.1.1 p k).setFld .DEADLOCK_CYCLE_COUNTER cnt p k
    ((s.setFld .DEADLOCK_CYCLE_BAR bar p k).setFld .DEADLOCK_CYCLE_NOWAIT nowait p k).setFld .DEADLOCK_CYCLE_VALID 1 p k) s
  s.setFld .DEADLOCK_INFO_LENGTH path.length p

/-- The timer has reached HOLD_TIMEOUT, in µs of 64,000 units of the raw count. -/
def State.timedOut (s : State) (p : Nat) : Bool := s.fld .HOLD_TIMEOUT p * 64000 ≤ (s.part p).noProg

/-- The timer runs (01 R44). An entry that is released is no hold entry that the partition holds (DEDUCED, log entry 75). -/
def State.timerRuns (s : State) (p : Nat) : Bool :=
  let t := s.planTick p
  (s.pstate p = .running || s.pstate p = .stopping) && (s.part p).completed ≤ t
    && !((s.part p).holds.any (fun e => e.live && widenTick t e.tick ≤ t))
    && !s.causePresent p 0x14 && !s.causePresent p 0x16

/-- HOLD_TIMEOUT_EXPIRE (01 R45, R46). With no core waiting the path is empty: E_PLAN_HOLD_TIMEOUT with LENGTH 0 (DESIGN CHOICE, log
entry 75). -/
def State.holdTimeoutExpire (s : State) (p : Nat) : State :=
  if !(s.timerRuns p && s.timedOut p) then s
  else
    let (path, how) := match ((s.partCores p).map Prod.fst).find? (fun g => (s.waitOf g).isSome) with
      | some g => s.follow p 6145 g []
      | none => ([], .stops)
    match how with
    | .cycle g =>
      let cyc := path.dropWhile (fun e => e.1 ≠ g)
      let s := (s.listPath p (cyc.take 8)).setFld .DEADLOCK_INFO_TRUNCATED (decide (8 < cyc.length)).toNat p
      ((s.setFld .DEADLOCK_INFO_CROSS_DEVICE 0 p).setFld .DEADLOCK_INFO_REMOTE_RANK 0 p).enterFault p E_PLAN_DEADLOCK
    | e =>
      let listed := if path.length ≤ 8 then path else path.take 7 ++ path.drop (path.length - 1)
      let s := (s.listPath p listed).setFld .DEADLOCK_INFO_TRUNCATED (decide (8 < path.length)).toNat p
      let s := match e with
        | .remote r => (s.setFld .DEADLOCK_INFO_CROSS_DEVICE 1 p).setFld .DEADLOCK_INFO_REMOTE_RANK r p
        | _ => (s.setFld .DEADLOCK_INFO_CROSS_DEVICE 0 p).setFld .DEADLOCK_INFO_REMOTE_RANK 0 p
      s.enterFault p E_PLAN_HOLD_TIMEOUT

def execHoldTimeoutExpire (p : Nat) (s : State) : Host.Outcome State Fault Refusal := .next (s.holdTimeoutExpire p)

end Sys2Proof.Machine
end

