-- ==== Sys2Proof/Machine/Fabric.lean ====
section
/-! DEFINITION. Machine/Fabric.lean: what a router does with a packet, and edges that retry or fail (07). -/
namespace Sys2Proof.Machine
open Sys2Proof

/-! ### Flits (07 R218, R219) -/

/-- The flits of a packet: head and bodies, the last one tail, or sole alone. -/
def State.flits (s : State) (k : Pkt) : List Flit :=
  let n := pktLen k
  let c := s.channel k
  { word := coded (leBytes 32 (headWord k)), ctl := flitCtl c (if n = 0 then 3 else 0) k.part } ::
    (List.range n).map (fun j => { word := coded (bodyWord k j), ctl := flitCtl c (if j + 1 = n then 2 else 1) k.part })

/-! ### Routers -/

/-- The edge carries traffic (07 Table 7.8). -/
def State.edgeUp (s : State) (n e : Nat) : Bool := (edgePeer n e).isSome && s.flag .FAB_EDGE_UP n e

/-- A router discards a packet for its head word (07 R231). -/
def State.headDrop (s : State) (n edge : Nat) (k : Pkt) (code : Nat) : State :=
  (((s.leavesFabric k).addFld .FAB_HEAD_UE 1 n).fabError n edge k.part code).enterFault k.part code

/-- FAB_FLITS of an output edge: a packet's head and body words, by VC, 8 for RSP (07 Table 7.6, 19 Table 19.3). -/
def State.countFlits (s : State) (n e : Nat) (k : Pkt) : State := s.countUp k.part 0x09 (s.channel k) (n * 8 + e) (1 + pktLen k)

/-- FABRIC_PACKET_RECEIVE: a packet whose head word has `headBad` bad bytes enters node n by an edge (6 for the node's own injection)
(07 R216, R225, R230 to R232). No packet comes in or goes on by an edge that is down, none passes a shared die while its tables are
switched (02 Table 2.8), and what is no packet is none. -/
def State.fabReceive (s : State) (n edge : Nat) (k : Pkt) (headBad : Nat) : State :=
  if !k.fits || (edge ≠ 6 && !s.edgeUp n edge) || (s.sharedPaused && 64 ≤ n) then s
  else if uncorrectable headBad then s.headDrop n edge k E_FAB_HEAD_UNCORRECTABLE
  else
    let s := if correctable headBad then s.addFld .FAB_HEAD_CE 1 n else s
    if k.op = .bad || 83 < k.dstNode then s.headDrop n edge k E_FAB_BAD_HEAD
    else
      let s := s.addFld .FAB_DATA_CE (k.bad.filter correctable).length n
      let s := s.addFld .FAB_DATA_UE (k.bad.filter uncorrectable).length n
      if s.fenced n k then s.fenceDrop n edge k
      else
        let e := s.packetRoute n k
        if e.testBit 4 && !e.testBit 3 && s.edgeUp n (e % 8) then (s.countFlits n (e % 8) k).out (.hop n (e % 8) k (s.flits k)) else s

def execFabricPacketReceive (n edge : Nat) (k : Pkt) (headBad : Nat) (s : State) : Host.Outcome State Fault Refusal :=
  .next (s.fabReceive n edge k headBad)

/-- EDGE_RETRY: a flit that came in at node n was sent again (07 R229, Table 7.8). -/
def execEdgeRetry (n : Nat) (s : State) : Host.Outcome State Fault Refusal := .next (s.addFld .FAB_RETRY 1 n)

/-- Modules of an edge: 5 when wide, 1 when narrow, none when absent (07 R214, R215). -/
def edgeModules (n e : Nat) : Nat :=
  if (edgePeer n e).isNone then 0 else if n < 76 && e < 4 then 5 else if (n = 80 || n = 83) then 5 else 1

/-- Modules in service; the bank keeps how many are out. -/
def State.modulesIn (s : State) (n e : Nat) : Nat := edgeModules n e - s.fld .FAB_EDGE_MODULES n e

/-- The index at the far end of the edge back to node n. -/
def edgeBack (n m : Nat) : Nat := ((List.range 6).find? (fun e => edgePeer m e = some n)).getD 0

/-- Write one end of an edge. -/
def State.setEdge (s : State) (n e out : Nat) (up : Bool) : State :=
  let s := (s.setFld .FAB_EDGE_MODULES out n e).setFld .FAB_EDGE_UP up.toNat n e
  if up && 0 < out then s.setFld .FAB_EDGE_DEGRADED 1 n e else s

/-- EDGE_MODULE_FAIL: a module of an edge cannot be repaired, or (`retries`) a flit on it failed its retries (07 R216). -/
def State.edgeFail (s : State) (n e : Nat) (retries : Bool) : State :=
  match edgePeer n e with
  | none => s
  | some m =>
    if !s.flag .FAB_EDGE_UP n e then s
    else
      let out := s.fld .FAB_EDGE_MODULES n e + (if retries then 0 else 1)
      let up : Bool := !retries && out < edgeModules n e
      let first : Bool := up && !s.flag .FAB_EDGE_DEGRADED n e
      let s := (s.setEdge n e out up).setEdge m (edgeBack n m) out up
      if up then (if first then s.addFld .FAB_DEGRADED else s)
      else ((s.fabError n e 0 E_FAB_EDGE_DOWN).faultAll E_FAB_EDGE_DOWN).assertFaultN

def execEdgeModuleFail (n e : Nat) (retries : Bool) (s : State) : Host.Outcome State Fault Refusal := .next (s.edgeFail n e retries)

end Sys2Proof.Machine
end

