-- ==== Sys2Proof/Machine/TimeBase.lean ====
section
/-! DEFINITION. Machine/TimeBase.lean: the references, the counter copies, the corrected time and its steps, and time parents (10). -/
namespace Sys2Proof.Machine
open Sys2Proof

/-- Record a time error; vector 5 when VALID becomes set (10 R347, 14 Table 14.10). -/
def State.timeError (s : State) (code : Nat) : State :=
  let first : Bool := s.fld .TIME_ERROR_VALID = 0
  let s := s.recordValid .TIME_ERROR_CODE .TIME_ERROR_MULTI .TIME_ERROR_VALID code
  if first then s.raiseVector 5 else s

/-- Quotient where it is exact; otherwise one of its two neighbours, which the spec does not say: a free value (log entry 3). -/
def State.divFree (s : State) (a : Int) (d : Nat) : Int × State :=
  if a % d = 0 then (a / d, s)
  else
    let (v, s) := s.draw
    (a / d + (if v.getLsbD 0 then 1 else 0), s)

/-! ### References (10 R313 to R317) -/

/-- TIME_SYNC_WORD: link die d's copy differs by `diff` units of 1/64 ns from the sync word, and loads it when that is more than one. -/
def State.syncWord (s : State) (d : Nat) (diff : Int) : State :=
  let put := fun (s : State) (v : Int) => { s with clock := { s.clock with copies := bankSet 0 s.clock.copies d (unsgn 64 v) } }
  if 1 < diff.natAbs then (put s 0).addFld .TIME_COPY_FIX else put s diff

def execTimeSyncWord (d : Nat) (diff : Int) (s : State) : Host.Outcome State Fault Refusal := .next (s.syncWord d diff)

/-- F as the copy of the raw count in link die d has it (10 R313, R322). -/
def State.dieNow (s : State) (d : Nat) : Nat := ({ s with raw := (s.raw + bankGet 0 s.clock.copies d) % 2 ^ 64 } : State).now

/-- The candidates in order of preference; 3 lists none (10 R314). -/
def State.refList (s : State) : List Nat := [s.fld .CLK_CTRL_REF_PRI0, s.fld .CLK_CTRL_REF_PRI1, s.fld .CLK_CTRL_REF_PRI2].filter (fun c => c ≠ 3)

/-- A candidate is good: LOCAL always. -/
def State.refGood (s : State) (c : Nat) : Bool :=
  match c with
  | 0 => s.flag .CLK_STATUS_REFCLK_OK
  | 1 => s.flag .CLK_STATUS_RECOVERED_OK
  | _ => c = 2

def State.setRefGood (s : State) (c : Nat) (b : Bool) : State :=
  match c with
  | 0 => s.setFld .CLK_STATUS_REFCLK_OK b.toNat
  | 1 => s.setFld .CLK_STATUS_RECOVERED_OK b.toNat
  | _ => s

/-- The PLL has been locked to REFCLK or RECOVERED for 100 ms without a break, now or before (10 R315). -/
def State.holdsWord (s : State) : Bool := s.clock.hasHeld || s.clock.lockedAt.elim false (fun m => s.elapsed m 100000000)

/-- The lock to the candidate in use ends; a control word held by then stays. -/
def State.unlockRef (s : State) : State := { s with clock := { s.clock with hasHeld := s.holdsWord, lockedAt := none } }

/-- The main PLL locks to a candidate. -/
def State.selectRef (s : State) (c : Nat) : State :=
  let s := ((s.unlockRef.setFld .CLK_STATUS_REF_SEL c).setFld .CLK_STATUS_CLK_HOLDOVER 0).setFld .CLK_STATUS_REF_SWITCHED 1
  if c < 2 then { s with clock := { s.clock with lockedAt := some s.raw } } else s

/-- The main PLL goes to the first good candidate listed but LOCAL; with none it is in holdover, or, holding no control word, locks to the
crystal (10 R315). -/
def State.lockBest (s : State) : State :=
  match s.refList.find? (fun x => x ≠ 2 && s.refGood x) with
  | some x => s.selectRef x
  | none =>
    let s := s.unlockRef.setFld .CLK_STATUS_REF_SEL 2
    if s.clock.hasHeld then (s.setFld .CLK_STATUS_CLK_HOLDOVER 1).timeError E_TIME_CLK_HOLDOVER else s.setFld .CLK_STATUS_CLK_HOLDOVER 0

/-- REF_LOST: candidate c fails; if it was selected the PLL looks for another (10 R315). -/
def State.refLost (s : State) (c : Nat) : State :=
  let sel : Bool := s.fld .CLK_STATUS_REF_SEL = c && c < 2
  let s := s.setRefGood c false
  let s := { s with clock := { s.clock with requal := s.clock.requal.filter (fun x => x ≠ c) } }
  if sel then (((s.setFld .CLK_STATUS_LOR 1).timeError E_TIME_REF_LOST)).lockBest else s

def execRefLost (c : Nat) (s : State) : Host.Outcome State Fault Refusal := .next (s.refLost c)

/-- Place of a candidate in the list; a candidate not listed comes last. -/
def State.refRank (s : State) (c : Nat) : Nat := (s.refList.findIdx? (fun x => x = c)).getD 3

/-- With AUTO set the PLL moves to a better candidate that has stayed good for 100 ms (10 R314). -/
def State.betterRef (s : State) : State :=
  match s.refList.find? (fun x => x < 2 && s.refGood x && s.clock.requal.contains x) with
  | some x => if s.flag .CLK_CTRL_AUTO && s.refRank x < s.refRank (s.fld .CLK_STATUS_REF_SEL) then s.selectRef x else s
  | none => s

/-- REF_REQUALIFIED: candidate c is good under Table 10.2; with `full` it has stayed so for 100 ms (10 R314). -/
def State.refRequalified (s : State) (c : Nat) (full : Bool) : State :=
  let s := s.setRefGood c true
  if full && c < 2 then { s with clock := { s.clock with requal := s.clock.requal.filter (fun x => x ≠ c) ++ [c] } }.betterRef else s

def execRefRequalified (c : Nat) (s : State) (full : Bool := true) : Host.Outcome State Fault Refusal := .next (s.refRequalified c full)

/-- A write of CLK_CTRL: the candidates are looked at again (10 R314). -/
def State.writeClkCtrl (s : State) (v : Nat) : State :=
  let s := (s.setFld .CLK_CTRL_REF_PRI0 v).setFld .CLK_CTRL_REF_PRI1 (v / 4)
  ((s.setFld .CLK_CTRL_REF_PRI2 (v / 16)).setFld .CLK_CTRL_AUTO (v / 64)).betterRef

/-- AO_REFCLK_LOST, AO_RELOCK (10 R316). -/
def execAoRefclkLost (s : State) : Host.Outcome State Fault Refusal := .next (s.setFld .CLK_STATUS_AO_LOCKED 0)
def execAoRelock (s : State) : Host.Outcome State Fault Refusal := .next (s.setFld .CLK_STATUS_AO_LOCKED 1)

/-- PLL_UNLOCK: the main PLL stays unlocked until power-on or PERST_N (10 R317). -/
def State.pllUnlock (s : State) : State :=
  ((({ s with clock := { s.clock with pllFailed := true } }.setFld .CLK_STATUS_PLL_LOCKED 0).timeError E_TIME_PLL_UNLOCK).faultAll E_TIME_PLL_UNLOCK).assertFaultN

def execPllUnlock (s : State) : Host.Outcome State Fault Refusal := .next s.pllUnlock

/-! ### Rate, steps and time of day (10 R324 to R327, R340 to R343) -/

/-- TIME_CTRL.ROLE: 0 OFF, 1 FOLLOWER, 2 GRANDMASTER; 3 acts as OFF. -/
def State.timeRole (s : State) : Nat := if s.fld .TIME_CTRL_ROLE = 3 then 0 else s.fld .TIME_CTRL_ROLE

/-- TIME_STATUS.STATE codes (10 Table 10.10). -/
def timeOffSt : Nat := 0
def timeGm : Nat := 1
def timeAcquire : Nat := 2
def timeSynced : Nat := 3
def timeHoldover : Nat := 4
def State.timeState (s : State) : Nat := s.fld .TIME_STATUS_STATE

/-- RATE, STEP and S_OFFSET accept writes (10 R343). -/
def State.timeWritable (s : State) : Bool := s.timeRole = 0 || (s.timeRole = 2 && !s.flag .TIME_CTRL_PPS_IN_EN)

/-- A refused write. -/
def State.timeRefuse (s : State) (code : Nat) : State := (s.setFld .TIME_STATUS_CMD_REJECT 1).timeError code

/-- A change of RATE that keeps F continuous (10 R324). -/
def State.setRate (s : State) (r : Int) : State :=
  let s := s.setFld64 .TIME_OFFSET_LO .TIME_OFFSET_HI (unsgn 64 (s.timeOff + s.rateGain))
  let s := { s with clock := { s.clock with anchor := s.raw } }
  s.setFld64 .TIME_RATE_LO .TIME_RATE_HI (unsgn 64 r)

/-- BAR0 addresses of TIME_RATE_LO, TIME_STEP_LO and the parts of TIME_S_OFFSET. -/
def rateAddr : Nat := 0x00C00058
def stepAddr : Nat := 0x00C00060
def sOffLoAddr : Nat := 0x00C00068
def sOffHiAddr : Nat := 0x00C0006C

/-- TIME_RATE_WRITE: a write of TIME_RATE_HI. -/
def State.rateWrite (s : State) (party : Party) (hi : Nat) : State :=
  let (v, s) := s.commitPair party rateAddr (s.fld .TIME_RATE_LO) hi
  if !s.timeWritable then s.timeRefuse E_TIME_WRITE_REFUSED
  else if 2 ^ 36 < (sgn 64 v).natAbs then s.timeRefuse E_TIME_RATE_RANGE
  else s.setRate (sgn 64 v)

def execTimeRateWrite (party : Party) (hi : Nat) (s : State) : Host.Outcome State Fault Refusal := .next (s.rateWrite party hi)

/-- The jump limit in units of 1/64 ns (10 R340). -/
def State.jumpLimit (s : State) : Nat := max 1 (s.fld .TIME_JUMP_LIMIT) * 64

/-- A step is refused (10 R340, R341). -/
def State.stepRefused (s : State) (amt : Int) : Bool := s.jumpLimit < amt.natAbs && s.flag .TIME_STATUS_SET && !s.flag .TIME_STATUS_ACCEPT_ARMED

/-- S_OFFSET, packed in 84 bits (10 R327). -/
def State.sOffset (s : State) : Nat := s.fld64 .TIME_S_OFFSET_LO .TIME_S_OFFSET_HI + s.fld .TIME_S_OFFSET_EXT * 2 ^ 64

def State.putSOffset (s : State) (v : Nat) : State := (s.setFld64 .TIME_S_OFFSET_LO .TIME_S_OFFSET_HI v).setFld .TIME_S_OFFSET_EXT (v / 2 ^ 64)

/-- S_OFFSET is adopted or written: a change of its value is counted (10 R332). -/
def State.changeSOffset (s : State) (v : Nat) : State :=
  if s.sOffset = v % 2 ^ 84 then s else (s.putSOffset v).addFld .TIME_TOD_CHANGES

/-- A packed time of day plus seconds, nanoseconds and a fraction, field by field with carries at 64 and 10^9 (10 R326). -/
def addTod (v sec ns frac : Nat) : Nat :=
  let fr := v % 64 + frac
  let n := v / 64 % 2 ^ 30 + ns + fr / 64
  let sc := v / 2 ^ 36 + sec + n / 10 ^ 9
  sc % 2 ^ 48 * 2 ^ 36 + n % 10 ^ 9 * 64 + fr % 64

/-- The time of day S for a corrected time f (10 R326). -/
def State.todOf (s : State) (f : Nat) : Nat := addTod s.sOffset (f / 64 / 10 ^ 9) (f / 64 % 10 ^ 9) (f % 64)

/-- Whole seconds of a packed time of day. -/
def todSec (tod : Nat) : Nat := tod / 2 ^ 36

/-- What a step does to PPS_OUT: a step forward over a whole second raises it once; after one back over a whole second it does not rise at the
second that S reaches first, which it has risen at before (10 R339; log entry 88). -/
def State.stepPps (s t : State) : State :=
  let a := todSec (s.todOf s.now)
  let b := todSec (t.todOf t.now)
  if a < b && t.flag .TIME_CTRL_PPS_OUT_EN then { t with clock := { t.clock with ppsOut := some t.raw, ppsLast := some b } }
  else if b < a then { t with clock := { t.clock with ppsLast := some (b + 1) } }
  else t

/-- A step of OFF: applied, or refused with OFF unchanged (10 R325, R340, R341). -/
def State.timeStep (s : State) (amt : Int) : State :=
  if s.stepRefused amt then ((s.setFld .TIME_STATUS_JUMP_REFUSED 1).addFld .TIME_JUMPS).timeError E_TIME_JUMP_REFUSED
  else s.stepPps (((s.setFld64 .TIME_OFFSET_LO .TIME_OFFSET_HI (unsgn 64 (s.timeOff + amt))).setFld .TIME_STATUS_SET 1).setFld .TIME_STATUS_ACCEPT_ARMED 0)

/-- TIME_STEP_WRITE: a write of TIME_STEP_HI; no held low half is zero (10 R325). -/
def State.stepWrite (s : State) (party : Party) (hi : Nat) : State :=
  let (v, s) := s.commitPair party stepAddr 0 hi
  if s.timeWritable then s.timeStep (sgn 64 v) else s.timeRefuse E_TIME_WRITE_REFUSED

def execTimeStepWrite (party : Party) (hi : Nat) (s : State) : Host.Outcome State Fault Refusal := .next (s.stepWrite party hi)

/-- TIME_S_OFFSET_HOLD_WRITE: a write of _LO, or of _HI, is held (10 R343). -/
def execTimeSOffsetHoldWrite (party : Party) (hi : Bool) (v : Nat) (s : State) : Host.Outcome State Fault Refusal :=
  .next (s.holdLow party (if hi then sOffHiAddr else sOffLoAddr) v)

/-- What a party holds at an address, or what stands there. -/
def State.heldBy (s : State) (party : Party) (addr cur : Nat) : Nat :=
  match bankGet 0 s.held (pairKey party addr) with
  | 0 => cur
  | v + 1 => v

/-- TIME_S_OFFSET_COMMIT: a write of TIME_S_OFFSET_EXT (10 R343). -/
def State.sOffsetCommit (s : State) (party : Party) (ext : Nat) : State :=
  let lo := s.heldBy party sOffLoAddr (s.fld .TIME_S_OFFSET_LO)
  let hi := s.heldBy party sOffHiAddr (s.fld .TIME_S_OFFSET_HI)
  let s := { s with held := bankSet 0 (bankSet 0 s.held (pairKey party sOffLoAddr) 0) (pairKey party sOffHiAddr) 0 }
  if s.timeWritable then
    let s := s.changeSOffset (lo + hi * 2 ^ 32 + ext % 2 ^ 20 * 2 ^ 64)
    { s with clock := { s.clock with todVersion := (s.clock.todVersion + 1) % 256 } }
  else s.timeRefuse E_TIME_WRITE_REFUSED

def execTimeSOffsetCommit (party : Party) (ext : Nat) (s : State) : Host.Outcome State Fault Refusal := .next (s.sOffsetCommit party ext)

/-- TIME_WRAP: F wraps; S stays continuous (10 R326). -/
def execTimeWrap (s : State) : Host.Outcome State Fault Refusal := .next (s.putSOffset (addTod s.sOffset 288230376 151711744 0))

/-! ### Parents (10 R336, Table 10.7) -/

def State.tport (s : State) (n : Nat) : TPort := bankGet {} s.tports n
def State.setTport (s : State) (n : Nat) (x : TPort) : State := { s with tports := bankSet {} s.tports n x }

/-- Candidate ports, highest priority first. -/
def State.candidates (s : State) : List Nat :=
  ([(Fld.TIME_PARENTS_V0_V30, Fld.TIME_PARENTS_PORT0), (.TIME_PARENTS_V0_V31, .TIME_PARENTS_PORT1), (.TIME_PARENTS_V0_V32, .TIME_PARENTS_PORT2),
    (.TIME_PARENTS_V0_V33, .TIME_PARENTS_PORT3)].filter (fun c => s.flag c.1)).map (fun c => s.fld c.2)

/-- A candidate is usable (10 R336). -/
def State.usable (s : State) (n : Nat) : Bool :=
  let x := s.tport n
  s.linkState n = linkUp && x.heard && x.age ≤ 16 && x.domain = s.fld .TIME_DOMAIN_DOMAIN && x.synced
    && x.hops < s.fld .TIME_DOMAIN_MAX_HOPS && !s.flag .TPORT_STATUS_REFUSED n
    && s.clock.left.elim true (fun l => s.elapsed l.1 1000000000 || x.hops ≤ l.2)

/-- The servo starts anew. -/
def State.servoReset (s : State) : State :=
  { s with clock := { s.clock with exchCount := 0, exchSum := 0, stepped := false, goodRun := 0, farRun := 0 } }

/-- Enter a time state; leaving SYNCED is remembered with the parent's HOPS (10 R336), entering HOLDOVER is recorded. -/
def State.setTime (s : State) (st : Nat) : State :=
  let s := if s.timeState = timeSynced && st ≠ timeSynced then { s with clock := { s.clock with left := some (s.raw, s.fld .TIME_STATUS_HOPS - 1) } } else s
  let enter : Bool := s.timeState ≠ timeHoldover && st = timeHoldover
  let s := s.setFld .TIME_STATUS_STATE st
  if enter then s.timeError E_TIME_HOLDOVER else s

/-- What the parent announces is taken over: HOPS, the grandmaster and its holdover (10 R336, R337). -/
def State.followParent (s : State) (n : Nat) : State :=
  let x := s.tport n
  ((s.setFld .TIME_STATUS_HOPS (x.hops + 1)).setFld .TIME_GM_ID x.gmId).setFld .TIME_STATUS_GM_HOLDOVER x.gmHoldover.toNat

/-- The port is the parent of a follower. -/
def State.isParent (s : State) (n : Nat) : Bool :=
  s.timeRole = 1 && s.flag .TIME_STATUS_PARENT_VALID && s.fld .TIME_STATUS_PARENT = n

/-- A follower adopts the parent's S_OFFSET once it holds both halves of one version (10 R332). -/
def State.adoptTod (s : State) (n : Nat) : State :=
  if !s.isParent n then s
  else match (s.tport n).todA, (s.tport n).todB with
    | some a, some b =>
      if a.1 = b.1 then
        let s := s.changeSOffset (a.2 * 2 ^ 36 + b.2)
        { s with clock := { s.clock with todVersion := a.1 } }
      else s
    | _, _ => s

/-- A port becomes the parent: ACQUIRE. -/
def State.setParent (s : State) (n : Nat) : State :=
  let s := s.setTime timeAcquire
  let s := (s.setFld .TIME_STATUS_PARENT n).setFld .TIME_STATUS_PARENT_VALID 1
  let s := s.setTport n { s.tport n with quiet := 0 }
  ((s.followParent n).servoReset).adoptTod n

/-- The first usable candidate but one becomes the parent; with none, HOLDOVER when SET = 1, else ACQUIRE without a parent. -/
def State.chooseParent (s : State) (but : Option Nat) : State :=
  match s.candidates.find? (fun n => some n ≠ but && s.usable n) with
  | some n => s.setParent n
  | none => (s.servoReset.setFld .TIME_STATUS_PARENT_VALID 0).setTime (if s.flag .TIME_STATUS_SET then timeHoldover else timeAcquire)

/-- A follower without a parent takes one as soon as a candidate is usable. -/
def State.lookForParent (s : State) : State :=
  if s.timeRole = 1 && !s.flag .TIME_STATUS_PARENT_VALID && s.candidates.any s.usable then s.chooseParent none else s

/-- TIME_ROLE_OFF. -/
def State.roleOff (s : State) : State :=
  ((s.setTime timeOffSt).servoReset.setFld .TIME_CTRL_ROLE 0).setFld .TIME_STATUS_PARENT_VALID 0
def execTimeRoleOff (s : State) : Host.Outcome State Fault Refusal := .next s.roleOff

/-- TIME_ROLE_GRANDMASTER. -/
def State.roleGm (s : State) : State :=
  let s := ((s.setTime timeGm).servoReset.setFld .TIME_CTRL_ROLE 2).setFld .TIME_STATUS_PARENT_VALID 0
  let s := (s.setFld .TIME_STATUS_HOPS 0).setFld .TIME_STATUS_SET 1
  (s.setFld .TIME_STATUS_GM_HOLDOVER 0).setFld .TIME_STATUS_PPS_MISSING 0
def execTimeRoleGrandmaster (s : State) : Host.Outcome State Fault Refusal := .next s.roleGm

/-- TIME_ROLE_FOLLOWER: a device that follows already keeps its parent. -/
def State.roleFollower (s : State) : State :=
  if s.timeState = timeOffSt || s.timeState = timeGm then
    let s := (s.setFld .TIME_CTRL_ROLE 1).setFld .TIME_STATUS_PPS_MISSING 0
    s.chooseParent none
  else s.setFld .TIME_CTRL_ROLE 1

/-- TIME_CTRL.ROLE takes a value (10 R336, Table 10.7). -/
def State.setRole (s : State) (r : Nat) : State :=
  match r % 4 with
  | 1 => s.roleFollower
  | 2 => if s.timeState = timeGm then s else s.roleGm
  | r => if s.timeState = timeOffSt then s.setFld .TIME_CTRL_ROLE r else s.roleOff.setFld .TIME_CTRL_ROLE r

def execTimeRoleFollower (s : State) : Host.Outcome State Fault Refusal := .next s.roleFollower

/-- TIME_ACCEPT_STEP (10 R341, R342). -/
def State.acceptStep (s : State) : State :=
  let s := s.setFld .TIME_STATUS_ACCEPT_ARMED 1
  ((List.range 32).foldl (fun s n => s.setFld .TPORT_STATUS_REFUSED 0 n) s).lookForParent
def execTimeAcceptStep (s : State) : Host.Outcome State Fault Refusal := .next s.acceptStep

/-- NO_PARENT_TIMEOUT: 1 s without a usable candidate. -/
def State.noParent (s : State) : State :=
  if s.timeRole = 1 && s.timeState = timeAcquire && !s.flag .TIME_STATUS_SET && !s.candidates.any s.usable then s.timeError E_TIME_NO_PARENT else s
def execNoParentTimeout (s : State) : Host.Outcome State Fault Refusal := .next s.noParent

/-- PARENT_LOST: the parent is unusable, or no valid exchange for 16 periods. -/
def State.parentLost (s : State) : State :=
  let n := s.fld .TIME_STATUS_PARENT
  if s.isParent n && (!s.usable n || (s.timeState = timeSynced && 16 < (s.tport n).quiet)) then s.chooseParent (some n) else s
def execParentLost (s : State) : Host.Outcome State Fault Refusal := .next s.parentLost

/-- PARENT_PRIORITY_SWITCH: a candidate of higher priority has been usable for 1 s. -/
def State.prioritySwitch (s : State) : State :=
  let n := s.fld .TIME_STATUS_PARENT
  if s.isParent n && s.timeState = timeSynced then
    match (s.candidates.takeWhile (fun m => m ≠ n)).find? s.usable with
    | some m => s.setParent m
    | none => s
  else s
def execParentPrioritySwitch (s : State) : Host.Outcome State Fault Refusal := .next s.prioritySwitch

end Sys2Proof.Machine
end

