-- ==== Sys2Proof/Machine/Links.lean ====
section
/-! DEFINITION. Machine/Links.lean: a port's states, training, control-flit queue, link management messages, darning, retraining and
loss (08). Frames are in Machine/Frames.lean. Port n's registers are instance n. -/
namespace Sys2Proof.Machine
open Sys2Proof

def State.port (s : State) (n : Nat) : Port := bankGet {} s.ports n
def State.setPort (s : State) (n : Nat) (x : Port) : State := { s with ports := bankSet {} s.ports n x }

/-! ### Port states (08 Table 8.8) -/

def linkDisabled : Nat := 0
def linkDetect : Nat := 1
def linkLock : Nat := 2
def linkIdentify : Nat := 3
def linkAlign : Nat := 4
def linkHeld : Nat := 7
def linkDown : Nat := 8

/-- A DETECT dwell begins: its number r is drawn afresh (08 R264). -/
def State.newDwell (s : State) (n : Nat) : State := s.setPort n { s.port n with dwells := (s.port n).dwells + 1, dwellAt := s.raw }

/-- Length of the running dwell, in ns: 2 ms + r × 62.5 µs. -/
def State.dwellNs (s : State) (n : Nat) : Nat := 2000000 + Config.dwellDraw ownKeyId n (s.port n).dwells % 16 * 62500

/-- The parent's port leaves UP and RETRAIN: the recovered clock is lost (10 Table 10.2). -/
def State.recoveredLost (s : State) (n st : Nat) : State :=
  if s.portLive n && st ≠ linkUp && st ≠ linkRetrain && s.isParent n && s.flag .CLK_STATUS_RECOVERED_OK then s.refLost 1 else s

/-- Enter a state: vector 6 (14 Table 14.10); a port that leaves UP is no longer marked REFUSED (10 R342). DETECT begins with the pairs in
their roles at reset (08 R264); a port that comes UP may have what a follower without a parent waits for (10 Table 10.7). -/
def State.setLink (s : State) (n st : Nat) : State :=
  if s.linkState n = st then s
  else
    let s := if s.linkState n = linkUp then s.setFld .TPORT_STATUS_REFUSED 0 n else s
    let s := if st = linkDetect then (s.setFld .LINK_STATUS_SWAPPED 0 n).newDwell n else s
    let s := ((s.recoveredLost n st).setFld .LINK_STATUS_STATE st n).raiseVector 6
    if st = linkUp then s.lookForParent else s

/-- Record a link error of a port, with the job or the lane it concerns (08 R285, Table 8.14). -/
def State.linkError (s : State) (n code : Nat) (tag lane : Nat := 0) : State :=
  let s := s.recordFirst .LINK_ERROR_CODE .LINK_ERROR_MULTI code n
  let s := if s.flag .LINK_ERROR_INFO_VALID n then s
    else ((s.setFld .LINK_ERROR_INFO_JOB_TAG tag n).setFld .LINK_ERROR_INFO_LANE lane n).setFld .LINK_ERROR_INFO_VALID 1 n
  s.raiseVector 6

/-- The partition that runs a job tag here, and whether the job is carried only in transit (09 R287). -/
def State.runPart (s : State) (tag : Nat) : Option Nat :=
  match s.jobSlot tag with
  | some j => if s.fld .SLOT_CFG_KIND j = 0 then some (s.fld .SLOT_CFG_PARTITION j) else none
  | none => none

/-- FAULT_STOP of a transit job on every port that carries it but one, with ORIGIN set to a packet's DST_RANK (08 R276). Which TICK it
carries is not stated: a free value (log entry 3). -/
def State.transitStop (s : State) (n : Nat) (tag rank : Nat) : State :=
  match s.jobSlot tag with
  | some j =>
    let (v, s) := s.draw
    s.sendCtl ((bitsOf (s.slotPorts j) 32).filter (fun m => m ≠ n)) { type := .faultStop, tag := tag, origin := rank, tick := v.toNat % 2 ^ 32, cause := 0x17 }
  | none => s

/-- A packet of a job is lost at port n: the partition that runs the job enters FAULT, a transit job is stopped (08 R278). -/
def State.jobLoss (s : State) (n code : Nat) (k : Pkt) : State :=
  match s.jobSlot k.tag with
  | none => s
  | some j => if s.fld .SLOT_CFG_KIND j = 0 then s.enterFault (s.fld .SLOT_CFG_PARTITION j) code else s.transitStop n k.tag k.dstRank

/-! ### Loss of a port (08 R276) -/

def slotPkts : List Slot → List LPkt
  | [] => []
  | .empty :: t => slotPkts t
  | .word k p _ :: t => if k = 1 then p :: slotPkts t else slotPkts t

/-- The packet of the first word, when that word is not its HEAD: a packet part of which is already gone. -/
def headless : List Slot → List LPkt
  | [] => []
  | .empty :: t => headless t
  | .word k p _ :: _ => if k = 1 then [] else [p]

/-- Packets in a stream of slots. -/
def streamPkts (l : List Slot) : List LPkt := headless l ++ slotPkts l

/-- Packets in unacknowledged frames and in the egress queue of a port. -/
def Port.outPkts (x : Port) : List LPkt := streamPkts (x.unacked.flatMap TxFrame.slots ++ x.egress)

/-- Packets on their way in. -/
def Port.inPkts (x : Port) : List LPkt := (x.rx.elim [] (fun r => if r.2.2 then [r.1] else [])) ++ x.ingress ++ x.waiting.map Prod.fst

/-- The first packet of each tag. -/
def firstByTag : List LPkt → List Nat → List LPkt
  | [], _ => []
  | k :: t, seen => if seen.contains k.pkt.tag then firstByTag t seen else k :: firstByTag t (k.pkt.tag :: seen)

/-- What a port still knows when its training ends: the transfers whose later packets are discarded, and how far the draws of its dwells
have come. -/
def Port.forget (x : Port) : Port := { dropIn := x.dropIn, dropOut := x.dropOut, dwells := x.dwells, dwellAt := x.dwellAt }

/-- A port that leaves UP or RETRAIN: step 1 to 3 of R276; the lane concerned, if one is. -/
def State.portLost (s : State) (n lane : Nat) : State :=
  let x := s.port n
  let gone := firstByTag (x.outPkts ++ x.inPkts) []
  let s := (s.setPort n x.forget).linkError n E_LINK_PORT_DOWN 0 lane
  let s := (List.range 16).foldl (fun s p =>
    if (s.pstate p).active && (s.bit .EXCHANGE_PORTS n p || gone.any (fun k => s.runPart k.pkt.tag = some p)) then s.enterFault p E_LINK_PORT_DOWN else s) s
  gone.foldl (fun s k => if (s.runPart k.pkt.tag).isSome then s else s.transitStop n k.pkt.tag k.pkt.dstRank) s

/-- A port goes to DOWN, DISABLED or DETECT. -/
def State.leaveLink (s : State) (n st : Nat) (lane : Nat := 0) : State :=
  let live := s.portLive n
  let s := (s.setFld .LINK_STATUS_REPLAYING 0 n).setFld .LINK_STATUS_CAL_ACTIVE 0 n
  let s := (s.setFld .LINK_STATUS_RATE 0 n).setLink n st
  if live then s.portLost n lane else s.setPort n (s.port n).forget

/-- A training port goes DOWN with a code (08 R239, R263, R265, R266). -/
def State.trainFail (s : State) (n code : Nat) : State := (s.linkError n code).leaveLink n linkDown

/-! ### LINK_CTRL (08 R262, R267, R275, R276) -/

/-- An enabled port in DISABLED goes to DETECT once its domain is powered: the search is that domain's full wake (08 Table 8.8; 17 Table
17.4). -/
def State.portWake (s : State) (n : Nat) : State :=
  if s.flag .LINK_CTRL_ENABLE n && s.linkState n = linkDisabled && (s.domain (portDom n)).powered then s.setLink n linkDetect else s

/-- LINK_ENABLE: the port's domain is enabled; while the PHY bias discharges the port waits in DISABLED (17 R514). -/
def State.linkEnable (s : State) (n : Nat) : State := ((s.setFld .LINK_CTRL_ENABLE 1 n).setDomain (portDom n) (s.domain (portDom n)).enable).portWake n

def execLinkEnable (n : Nat) (s : State) : Host.Outcome State Fault Refusal := .next (s.linkEnable n)

/-- The port enters DISABLED, which isolates its domain (17 R514). -/
def State.portOff (s : State) (n : Nat) : State :=
  let s := if s.linkState n = linkDisabled then s else s.leaveLink n linkDisabled
  s.setDomain (portDom n) (s.domain (portDom n)).disable

/-- LINK_DISABLE. -/
def State.linkDisable (s : State) (n : Nat) : State := (s.setFld .LINK_CTRL_ENABLE 0 n).portOff n

def execLinkDisable (n : Nat) (s : State) : Host.Outcome State Fault Refusal := .next (s.linkDisable n)

/-- A fast retrain starts: the running sequence is abandoned with its messages, its last completed step kept; a follower's DARN_REQ stays
(08 R261, R273, R275). -/
def State.fastRetrain (s : State) (n : Nat) : State :=
  if s.linkState n ≠ linkUp then s
  else
    let x := s.port n
    let s := s.setPort n { x with sender := .retrain, seqKind := .idle, cal := none, after := none, msgs := x.msgs.filter (fun m => m.op = 0x01 || 0x0A ≤ m.op), awaiting := (x.awaiting.filter (fun a => a.1.op = 0x01)).map (fun a => (a.1, 0)) }
    let s := ((s.setFld .LINK_STATUS_REPLAYING 0 n).setFld .LINK_STATUS_CAL_ACTIVE 0 n).addFld .LINK_RETRAINS 1 n
    s.setLink n linkRetrain

/-- LINK_RETRAIN: a fast retrain, absorbed by one that runs (08 Table 8.12). -/
def execLinkRetrain (n : Nat) (s : State) : Host.Outcome State Fault Refusal := .next (s.fastRetrain n)

/-- RETRAIN_PATTERN_RECEIVE: the other end started one (08 R273). -/
def execRetrainPatternReceive (n : Nat) (s : State) : Host.Outcome State Fault Refusal := .next (s.fastRetrain n)

/-- LINK_FULL_TRAIN: restart at DETECT; a disabled port stays DISABLED. -/
def execLinkFullTrain (n : Nat) (s : State) : Host.Outcome State Fault Refusal :=
  .next (if s.linkState n = linkDisabled then s else s.leaveLink n linkDetect)

/-- DOWN_TIMER_EXPIRE. -/
def execDownTimerExpire (n : Nat) (s : State) : Host.Outcome State Fault Refusal :=
  .next (if s.linkState n = linkDown then s.setLink n linkDetect else s)

/-- LOSS_OF_SIGNAL: a training port returns to DETECT; a port that is up starts a fast retrain, which will fail (08 R262, Table 8.10). -/
def execLossOfSignal (n : Nat) (s : State) : Host.Outcome State Fault Refusal :=
  let st := s.linkState n
  .next (if st = linkLock || st = linkIdentify || st = linkAlign || st = linkHeld then s.leaveLink n linkDetect
    else s.fastRetrain n)

/-- TRAIN_TIMEOUT: 50 ms of training have passed; the limit does not run in HELD, nor in IDENTIFY behind a HELD peer (08 R263). -/
def execTrainTimeout (n : Nat) (s : State) : Host.Outcome State Fault Refusal :=
  let st := s.linkState n
  .next (if st = linkLock || st = linkAlign || (st = linkIdentify && !(s.port n).behindHeld) then s.trainFail n E_LINK_TRAIN_FAIL else s)

/-! ### Training (08 R262 to R267) -/

/-- DETECT_DWELL_EXPIRE: the pairs' roles are exchanged on every lane (08 R264). -/
def execDetectDwellExpire (n : Nat) (s : State) : Host.Outcome State Fault Refusal :=
  .next (if s.linkState n = linkDetect && s.elapsed (s.port n).dwellAt (s.dwellNs n) then (s.addFld .LINK_STATUS_SWAPPED 1 n).newDwell n else s)

/-- The status of earlier training is forgotten when full training begins. -/
def State.freshTraining (s : State) (n : Nat) : State :=
  let fs : List Fld := [.LINK_STATUS_HALF, .LINK_STATUS_HALF_UPPER, .LINK_STATUS_UNEXPECTED_PEER, .LINK_STATUS_SELF, .LINK_STATUS_LEADER,
    .LINK_STATUS_DARNED, .LINK_STATUS_DARN_LANE, .LINK_STATUS_DARN_FAILED, .LINK_STATUS_SPARE_LOST, .LINK_STATUS_LONG, .LINK_STATUS_MISWIRE,
    .PEER_INFO_VERIFIED, .LINK_RTT]
  (fs.foldl (fun s f => s.setFld f 0 n) s).setPort n (s.port n).forget

/-- DETECT_PATTERN_HEARD: to LOCK; the roles stand. -/
def execDetectPatternHeard (n : Nat) (s : State) : Host.Outcome State Fault Refusal :=
  .next (if s.linkState n = linkDetect then (s.freshTraining n).setLink n linkLock else s)

/-- LNS carries a lane (08 Table 8.14). -/
def State.setDarn (s : State) (n lane : Nat) (failed : Bool) : State :=
  ((s.setFld .LINK_STATUS_DARNED 1 n).setFld .LINK_STATUS_DARN_LANE lane n).setFld .LINK_STATUS_DARN_FAILED failed.toNat n
def State.noDarn (s : State) (n : Nat) : State :=
  ((s.setFld .LINK_STATUS_DARNED 0 n).setFld .LINK_STATUS_DARN_LANE 0 n).setFld .LINK_STATUS_DARN_FAILED 0 n

/-- The identity block and its nonce, drawn afresh, and the X25519 secret of this exchange (08 R266, 15 R472). -/
def State.toIdentify (s : State) (n : Nat) : State :=
  let (a, s) := s.draw
  let (b, s) := s.draw
  let (c, s) := s.draw
  let s := s.setPort n { s.port n with nonce := a.toNat + b.toNat * 2 ^ 64, secret := c.toNat }
  (s.setLink n linkIdentify).out (.identity n ownKeyId n (s.fld .LINK_CTRL_RATE_MASK n) (s.flag .LINK_CTRL_HALF_WIDTH_EN n) (s.port n).nonce)

/-- The highest rate of a mask; 0 for none. -/
def topRate (mask : Nat) : Nat := if mask.testBit 2 then 3 else if mask.testBit 1 then 2 else if mask.testBit 0 then 1 else 0

/-- LANES_LOCKED: what each lane (LN0 to LN7, LNS) locked to, and the rates, as RATE_MASK has them, at which every working lane locks: the
highest that this end permits is taken (08 R239, R265). Lanes that did not lock beyond the first are dealt with once HALF_OK of both ends is
known (R274). -/
def State.lanesLocked (s : State) (n rates : Nat) (lanes : List (Option LaneLock)) : State :=
  if s.linkState n ≠ linkLock then s
  else
    let got := lanes.filterMap id
    let bad := (List.range 8).filter (fun i => (lanes.getD i none).isNone)
    let lns := (lanes.getD 8 none).isSome
    let map := ((List.range 8).map (fun i => ((lanes.getD i none).elim i LaneLock.farLane) % 16 * 16 ^ i)).sum
    let inv := ((List.range 9).map (fun i => if (lanes.getD i none).elim false LaneLock.inverted then 2 ^ i else 0)).sum
    let s := (s.setFld .LINK_LANE_MAP map n).setFld .LINK_POLARITY_RX_INV inv n
    let s := s.setFld .LINK_POLARITY_LNS_FROM ((lanes.getD 8 none).elim 8 LaneLock.farLane) n
    let rate := topRate (rates &&& s.fld .LINK_CTRL_RATE_MASK n)
    if got.any (fun a => got.any (fun b => a.farPort ≠ b.farPort)) then (s.setFld .LINK_STATUS_MISWIRE 1 n).trainFail n E_LINK_MISWIRE
    else if rate = 0 then s.trainFail n E_LINK_TRAIN_FAIL
    else
      let s := if lns then s else s.setFld .LINK_STATUS_SPARE_LOST 1 n
      let s := match bad with
        | [i] => if lns then s.setDarn n i true else s
        | _ => s
      ((s.setPort n { s.port n with failed := bad }).setFld .LINK_STATUS_RATE rate n).toIdentify n

def execLanesLocked (n rates : Nat) (lanes : List (Option LaneLock)) (s : State) : Host.Outcome State Fault Refusal := .next (s.lanesLocked n rates lanes)

/-- This end leads (08 R266). -/
def State.leads (s : State) (n : Nat) : Bool := s.flag .LINK_STATUS_LEADER n

/-- HALF_OK is set at both ends (08 R274). -/
def State.halfOk (s : State) (n : Nat) : Bool := s.flag .LINK_CTRL_HALF_WIDTH_EN n && s.flag .PEER_INFO_HALF_OK n

/-- The half with fewer failed lanes, LN0 to LN3 on a tie; and the failed lanes in it (08 R274). -/
def chooseHalf (failed : List Nat) : Nat × List Nat :=
  let lo := failed.filter (fun i => i < 4)
  let hi := failed.filter (fun i => 4 ≤ i && i < 8)
  if hi.length < lo.length then (1, hi) else (0, lo)

/-- The port runs at half width, LNS carrying the half's failed lane if it has one. -/
def State.enterHalf (s : State) (n half : Nat) : State :=
  let s := (s.setFld .LINK_STATUS_HALF 1 n).setFld .LINK_STATUS_HALF_UPPER half n
  match (s.port n).failed.filter (fun i => i / 4 = half) with
  | i :: _ => s.setDarn n i true
  | [] => s.noDarn n

/-- A lane has failed, as this end now knows. -/
def State.noteFailed (s : State) (n lane : Nat) : State :=
  let x := s.port n
  if 8 ≤ lane || x.failed.contains lane then s else s.setPort n { x with failed := x.failed ++ [lane] }

/-- More lanes failed than LNS can carry: too many for full width. -/
def State.needsHalf (s : State) (n : Nat) : Bool :=
  1 < (s.port n).failed.length || (s.flag .LINK_STATUS_SPARE_LOST n && (s.port n).failed ≠ [])

/-- A half can be run: HALF_OK at both ends, and LNS can carry what failed in it. -/
def State.halfPossible (s : State) (n : Nat) : Bool :=
  let lost := (chooseHalf (s.port n).failed).2
  s.halfOk n && (lost = [] || (lost.length = 1 && !s.flag .LINK_STATUS_SPARE_LOST n))

/-- Rank of an end: KEY_ID followed by PORT (08 R266). -/
def linkRank (key port : Nat) : Nat := key * 32 + port

/-- An identity block as a number: KEY_ID, PORT, RATES, HALF_OK and NONCE in order (08 Table 8.9). -/
def identityBits (key port rates : Nat) (halfOk : Bool) (nonce : Nat) : Nat :=
  fieldAt 0 64 key + fieldAt 64 5 port + fieldAt 69 3 rates + fieldAt 72 1 halfOk.toNat + fieldAt 73 128 nonce

/-- The statement of this end: the alias key signs both identity blocks and both X25519 keys, the leader's first (15 R472). The X25519 keys
are told with the identity blocks (log entry 82). -/
def State.sendStatement (s : State) (n : Nat) (peer : Nat) : State :=
  let x := s.port n
  let own := identityBits ownKeyId n (s.fld .LINK_CTRL_RATE_MASK n) (s.flag .LINK_CTRL_HALF_WIDTH_EN n) x.nonce
  let pub := Config.x25519Public x.secret
  let sig := if s.flag .LINK_STATUS_LEADER n then Config.aliasSign own peer pub x.peerPub else Config.aliasSign peer own x.peerPub pub
  s.out (.statement n pub sig)

/-- IDENTITY_BLOCK_RECEIVE: the leader is decided; a rate that the peer does not permit is no common rate (08 R239, R266). With more lanes
failed than LNS can carry, the port goes on at half width, the leader choosing the half, or goes DOWN (R274). -/
def State.identityBlock (s : State) (n key port rates : Nat) (halfOk : Bool) (nonce pub : Nat) : State :=
  if s.linkState n ≠ linkIdentify then s
  else
    let s := (s.setFld64 .PEER_KEY_ID_LO .PEER_KEY_ID_HI key n).setFld .PEER_INFO_PORT port n
    let s := (s.setFld .PEER_INFO_RATES rates n).setFld .PEER_INFO_HALF_OK halfOk.toNat n
    let s := s.setFld .LINK_STATUS_LEADER (decide (linkRank ownKeyId n < linkRank (key % 2 ^ 64) (port % 32))).toNat n
    let s := s.setFld .LINK_STATUS_SELF (decide (key % 2 ^ 64 = ownKeyId)).toNat n
    let s := s.setPort n { s.port n with identified := true, peerNonce := nonce % 2 ^ 128, peerPub := pub }
    if !rates.testBit (s.fld .LINK_STATUS_RATE n - 1) then s.trainFail n E_LINK_TRAIN_FAIL
    else if s.needsHalf n && !s.halfPossible n then s.trainFail n E_LINK_PORT_DOWN
    else
      let s := if s.needsHalf n && s.leads n then s.enterHalf n (chooseHalf (s.port n).failed).1 else s
      s.sendStatement n (identityBits key port rates halfOk nonce)

def execIdentityBlockReceive (n key port rates : Nat) (halfOk : Bool) (s : State) (nonce pub : Nat := 0) : Host.Outcome State Fault Refusal :=
  .next (s.identityBlock n key port rates halfOk nonce pub)

/-- The peer is not the expected one (08 R267). -/
def State.peerUnexpected (s : State) (n : Nat) : Bool :=
  s.flag .PEER_EXPECT_CTRL_VALID n &&
    (s.fld64 .PEER_KEY_ID_LO .PEER_KEY_ID_HI n ≠ s.fld64 .PEER_EXPECT_KEY_ID_LO .PEER_EXPECT_KEY_ID_HI n
      || (!s.flag .PEER_EXPECT_CTRL_ANY_PORT n && s.fld .PEER_INFO_PORT n ≠ s.fld .PEER_EXPECT_CTRL_PORT n))

/-- Put a message of this end in line; one that has an answer is kept until it comes (08 R261). -/
def State.sendMsg (s : State) (n : Nat) (m : LinkMsg) (waits : Bool) : State :=
  let x := s.port n
  let m := { m with txn := x.txn }
  s.setPort n { x with msgs := x.msgs ++ [m], txn := (x.txn + 1) % 256, awaiting := if waits then x.awaiting ++ [(m, 0)] else x.awaiting }

/-- The failed lane of the half in use, 8 for none: LANE of HALF_START (log entry 83). -/
def State.halfLost (s : State) (n half : Nat) : Nat := ((s.port n).failed.find? (fun i => i / 4 = half)).getD 8

/-- The leader tells the follower that a lane stays, or is to be, on LNS for failure. -/
def State.tellDarn (s : State) (n lane : Nat) : State := s.sendMsg n { op := 0x02, lane := lane, reason := 1 } true

/-- What training found of the lanes is told to the other end: the leader tells what LNS carries or which half is used, the follower asks
(08 R265, R270, R274; log entry 83). -/
def State.tellLanes (s : State) (n : Nat) : State :=
  if s.leads n then
    if s.flag .LINK_STATUS_HALF n then
      let h := s.fld .LINK_STATUS_HALF_UPPER n
      s.sendMsg n { op := 0x08, half := h, lane := s.halfLost n h } true
    else if s.flag .LINK_STATUS_DARNED n then s.tellDarn n (s.fld .LINK_STATUS_DARN_LANE n)
    else s
  else (s.port n).failed.foldl (fun s i => s.sendMsg n { op := 0x01, lane := i, reason := 1 } true) s

/-- Into ALIGN: this end probes the round trip (08 Table 8.8, Table 8.7). Which nonce it sends is a free value (log entry 3). -/
def State.toAlign (s : State) (n : Nat) : State :=
  let (v, s) := s.draw
  ((s.setLink n linkAlign).sendMsg n { op := 0x0A, data := v.toNat } true).tellLanes n

/-- The port keys of the two directions and their frame counters (08 R257; 15 R472). -/
def State.portKeys (s : State) (n : Nat) : State :=
  let x := s.port n
  let lead := s.leads n
  let salt := if lead then x.nonce + x.peerNonce * 2 ^ 128 else x.peerNonce + x.nonce * 2 ^ 128
  let secret := Config.x25519 x.secret x.peerPub
  s.setPort n { x with txKey := Config.hkdf salt secret lead, rxKey := Config.hkdf salt secret (!lead), txCount := 0, rxCount := 0 }

/-- PORT_STATEMENT_RECEIVE: the peer's signed statement: its chain reaches a Quinian root, the KEY_ID of its DeviceID key, its signature
verifies; and whether the peer is heard to be HELD (08 R266, R267, R263; 15 R472). -/
def State.portStatement (s : State) (n : Nat) (chainOk : Bool) (key : Nat) (sigOk peerHeld : Bool) : State :=
  if s.linkState n ≠ linkIdentify || !(s.port n).identified then s
  else if !(chainOk && sigOk && key % 2 ^ 64 = s.fld64 .PEER_KEY_ID_LO .PEER_KEY_ID_HI n) then
    (s.setFld .PEER_INFO_VERIFIED 0 n).trainFail n E_LINK_UNEXPECTED_PEER
  else
    let s := (s.setFld .PEER_INFO_VERIFIED 1 n).portKeys n
    if s.peerUnexpected n then ((s.setFld .LINK_STATUS_UNEXPECTED_PEER 1 n).linkError n E_LINK_UNEXPECTED_PEER).setLink n linkHeld
    else if peerHeld then s.setPort n { s.port n with behindHeld := true }
    else s.toAlign n

def execPortStatementReceive (n : Nat) (chainOk : Bool) (key : Nat) (sigOk peerHeld : Bool) (s : State) : Host.Outcome State Fault Refusal :=
  .next (s.portStatement n chainOk key sigOk peerHeld)

/-- LINK_ACCEPT_PEER: a HELD port continues with the peer found (08 R267). -/
def execLinkAcceptPeer (n : Nat) (s : State) : Host.Outcome State Fault Refusal := .next (if s.linkState n = linkHeld then s.toAlign n else s)

/-- HELD_IDLE_PATTERN_END: the held peer moves to ALIGN, or (`detect`) returns to DETECT (08 R263). -/
def execHeldIdlePatternEnd (n : Nat) (detect : Bool) (s : State) : Host.Outcome State Fault Refusal :=
  .next (if s.linkState n = linkIdentify && (s.port n).behindHeld then
      let s := s.setPort n { s.port n with behindHeld := false }
      if detect then s else s.toAlign n
    else s)

/-- Frame time in picoseconds (08 Table 8.2); half width halves the slot rate (08 Table 8.4). -/
def State.framePs (s : State) (n : Nat) : Nat :=
  (match s.fld .LINK_STATUS_RATE n with | 3 => 3036 | 2 => 6071 | _ => 12140) * (if s.flag .LINK_STATUS_HALF n then 2 else 1)

/-- PORT_ALIGN_DONE: frames pass their checks and the round trip is measured; the port is UP, its sender NORMAL and empty (08 R249,
R255, Table 8.6). -/
def State.alignDone (s : State) (n rtt : Nat) : State :=
  if s.linkState n ≠ linkAlign then s
  else
    let x := s.port n
    let s := s.setFld .LINK_RTT rtt n
    let s := s.setFld .LINK_STATUS_LONG (decide (2047 * s.framePs n < (s.fld .LINK_RTT n + 256) * 1000)).toNat n
    let s := s.setPort n { x with nextSeq := 0, unacked := [], sender := .normal, expect := 0, ackV := false, naked := false, nakDue := false }
    s.setLink n linkUp

def execPortAlignDone (n rtt : Nat) (s : State) : Host.Outcome State Fault Refusal := .next (s.alignDone n rtt)

/-! ### Plan control flits (08 R260) -/

/-- PLAN_CTL_QUEUE: a link die takes a plan control flit for a port; a REPORT replaces one of the same job still queued. -/
def State.queueCtl (s : State) (n : Nat) (f : CtlFlit) : State :=
  if !s.portLive n then s
  else
    let x := s.port n
    if f.type = .report && x.ctlQ.any (fun g => g.type = .report && g.tag = f.tag) then
      s.setPort n { x with ctlQ := x.ctlQ.map (fun g => if g.type = .report && g.tag = f.tag then f else g) }
    else if x.ctlQ.length < 64 then s.setPort n { x with ctlQ := x.ctlQ ++ [f] }
    else s

def execPlanCtlQueue (n : Nat) (f : CtlFlit) (s : State) : Host.Outcome State Fault Refusal := .next (s.queueCtl n f)

/-! ### Replay (08 R250 to R253) -/

/-- REPLAY_TMO in force, in ns (08 Table 8.14). -/
def State.replayTmo (s : State) (n : Nat) : Nat :=
  let r := s.fld .LINK_RTT n
  if s.fld .REPLAY_TMO n = 0 then r + 256 else max (s.fld .REPLAY_TMO n) (r + 64)

/-- Start a replay from the oldest unacknowledged frame; over an empty range nothing starts (08 R251). -/
def State.startReplay (s : State) (n : Nat) : State :=
  let x := s.port n
  match x.unacked with
  | [] => s
  | f :: _ =>
    ((s.setPort n { x with sender := .replay, resent := 0, replayStart := f.seq }).setFld .LINK_STATUS_REPLAYING 1 n).addFld .LINK_REPLAYS 1 n

/-- REPLAY_TIMER_EXPIRE (08 R250). -/
def State.replayTimer (s : State) (n : Nat) : State :=
  let x := s.port n
  if s.linkState n = linkUp && x.unacked ≠ [] && s.elapsed x.timer (s.replayTmo n) then
    ((s.setPort n { x with timer := s.raw }).addFld .LINK_TMO 1 n).startReplay n
  else s

def execReplayTimerExpire (n : Nat) (s : State) : Host.Outcome State Fault Refusal := .next (s.replayTimer n)

/-! ### Darning (08 R268 to R274) -/

/-- Begin a sequence on the port, nothing of it done yet; a measurement of asymmetry ends (10 R335). -/
def State.beginSeq (s : State) (n : Nat) (k : SeqKind) (lane : Nat) (failed : Bool) : State :=
  (s.setPort n { s.port n with seqKind := k, seqLane := lane, seqFailed := failed, seqSwitched := false, seqPeer := false, ownDone := none }).setFld
    .TPORT_STATUS_MEASURING 0 n

/-- The leader starts to darn a lane (08 R270). -/
def State.startDarn (s : State) (n lane : Nat) (failed : Bool) : State :=
  (s.beginSeq n .darn lane failed).sendMsg n { op := 0x02, lane := lane, reason := failed.toNat } true

/-- The leader starts to return a lane (08 R271). -/
def State.startUndarn (s : State) (n lane : Nat) : State := (s.beginSeq n .undarn lane false).sendMsg n { op := 0x05, lane := lane } true

/-- The leader starts a half-width retrain, or the port goes DOWN (08 R274); `lane` has just failed. -/
def State.startHalf (s : State) (n lane : Nat) : State :=
  if s.halfPossible n then
    let h := (chooseHalf (s.port n).failed).1
    (s.setPort n { s.port n with seqKind := .idle, after := none, pendingHalf := some h }).sendMsg n { op := 0x08, half := h, lane := s.halfLost n h } true
  else s.leaveLink n linkDown lane

/-- Calibration ends: the running pass is given up. -/
def State.endCal (s : State) (n : Nat) : State := (s.setPort n { s.port n with cal := none }).setFld .LINK_STATUS_CAL_ACTIVE 0 n

/-- The darn of a lane goes on, or stands, with reason failure; an un-darn of it is given up (08 R271, Table 8.12). -/
def State.keepDarned (s : State) (n lane : Nat) : State :=
  let s := s.endCal n
  let x := s.port n
  if x.seqKind = .darn && x.seqLane = lane then s.setPort n { x with seqFailed := true }
  else (s.setPort n { x with seqKind := .idle, after := none }).setDarn n lane true

/-- The leader deals with the failure of a lane (08 Table 8.12, R274). The follower learns of a failure that is absorbed by a DARN_START with
reason failure (log entry 83). -/
def State.laneRequest (s : State) (n lane : Nat) : State :=
  let x := s.port n
  let carries : Bool := s.flag .LINK_STATUS_DARNED n
  let onLns := s.fld .LINK_STATUS_DARN_LANE n
  if s.linkState n = linkRetrain || x.pendingHalf.isSome then s.setPort n { x with deferred := if x.deferred.contains lane then x.deferred else x.deferred ++ [lane] }
  else if s.flag .LINK_STATUS_HALF n then
    if lane / 4 = s.fld .LINK_STATUS_HALF_UPPER n && !(carries && onLns = lane) then s.leaveLink n linkDown lane else s
  else if s.flag .LINK_STATUS_SPARE_LOST n || x.after.any (fun y => y ≠ lane) then s.startHalf n lane
  else if x.after = some lane then s
  else if (x.seqKind ≠ .idle && x.seqLane = lane) || (carries && onLns = lane) then (s.keepDarned n lane).tellDarn n lane
  else if (x.seqKind = .darn && x.seqFailed) || (carries && s.flag .LINK_STATUS_DARN_FAILED n) then s.startHalf n lane
  else if x.seqKind = .undarn then (s.endCal n).setPort n { s.port n with cal := none, after := some lane }
  else if x.seqKind = .darn || carries then
    ((s.endCal n).setPort n { s.port n with cal := none, after := some lane }).startUndarn n (if carries then onLns else x.seqLane)
  else s.startDarn n lane true

/-- LANE_FAIL: this end's receiver declares a lane failed (08 R269). LNS itself failing leaves the port without a spare; a lane it
carried for a failure is then lost. A lane outside the half in use carries nothing. -/
def State.laneFail (s : State) (n lane : Nat) : State :=
  if !s.portLive n || (s.flag .LINK_STATUS_HALF n && lane < 8 && lane / 4 ≠ s.fld .LINK_STATUS_HALF_UPPER n) then s
  else
    let s := if s.flag .TPORT_STATUS_MEASURING n then s.setFld .TPORT_STATUS_MEASURING 0 n else s
    if lane = 8 then
      let had : Bool := s.flag .LINK_STATUS_DARNED n && s.flag .LINK_STATUS_DARN_FAILED n
      let s := ((s.setFld .LINK_STATUS_SPARE_LOST 1 n).noDarn n).endCal n
      if had then if s.leads n then s.startHalf n 8 else s.sendMsg n { op := 0x01, lane := 8, reason := 1 } true else s
    else
      let s := s.noteFailed n lane
      if s.leads n then s.laneRequest n lane else s.sendMsg n { op := 0x01, lane := lane, reason := 1 } true

def execLaneFail (n lane : Nat) (s : State) : Host.Outcome State Fault Refusal := .next (s.laneFail n lane)

/-- A darn is complete at both ends: a lane darned for calibration now dwells (08 R270, R272). -/
def State.darnComplete (s : State) (n : Nat) : State :=
  let x := s.port n
  (((s.setPort n { x with seqKind := .idle }).setDarn n x.seqLane x.seqFailed).addFld .LINK_DARNS 1 n)

/-- The pass of calibration has come to LNS, which carries no lane: its asymmetry is measured (10 R333). -/
def State.measure (s : State) (n : Nat) : State :=
  if s.flag .LINK_STATUS_SPARE_LOST n then s else s.setFld .TPORT_STATUS_MEASURING 1 n

/-- An un-darn is complete: LNS is free for a lane that has failed, or else the leader's calibration goes to the next lane, after LN7 to LNS
itself (08 R271, R272, Table 8.12). The follower knows the pass by its last lane. -/
def State.undarnComplete (s : State) (n : Nat) : State :=
  let x := s.port n
  let s := (s.setPort n { x with seqKind := .idle, after := none }).noDarn n
  match x.after, x.cal with
  | some y, _ => s.startDarn n y true
  | none, none => if x.seqLane = 7 && !s.leads n then s.measure n else s
  | none, some i =>
    if i < 7 then (s.setPort n { s.port n with cal := some (i + 1) }).startDarn n (i + 1) false
    else (s.setPort n { s.port n with cal := some 8 }).measure n

/-- Both ends' receivers have switched. -/
def State.checkSeq (s : State) (n : Nat) : State :=
  let x := s.port n
  if x.seqSwitched && x.seqPeer then
    match x.seqKind with
    | .darn => s.darnComplete n
    | .undarn => s.undarnComplete n
    | .idle => s
  else s

/-- DARN_SWITCH: this end's receiver switches at a frame boundary: to LNS in a darn, back to the lane in an un-darn; it sends its DONE
(08 R270, R271). -/
def State.darnSwitch (s : State) (n : Nat) : State :=
  let x := s.port n
  if x.seqKind = .idle || x.seqSwitched then s
  else
    let op := if x.seqKind = .darn then 0x04 else 0x07
    ((s.setPort n { x with seqSwitched := true, ownDone := some x.txn }).sendMsg n { op := op, lane := x.seqLane } (!x.seqPeer)).checkSeq n

def execDarnSwitch (n : Nat) (s : State) : Host.Outcome State Fault Refusal := .next (s.darnSwitch n)

/-- UNDARN_TIMEOUT: no 256 matching frames in 64 µs: the lane is failed and stays darned; the leader tells the follower, a follower asks the
leader (08 R269, R271). -/
def State.undarnTimeout (s : State) (n : Nat) : State :=
  let x := s.port n
  if x.seqKind ≠ .undarn || x.seqSwitched then s
  else
    let s := (s.noteFailed n x.seqLane)
    if s.leads n then s.laneRequest n x.seqLane
    else (s.keepDarned n x.seqLane).sendMsg n { op := 0x01, lane := x.seqLane, reason := 1 } true

def execUndarnTimeout (n : Nat) (s : State) : Host.Outcome State Fault Refusal := .next (s.undarnTimeout n)

/-- CAL_CYCLE_START: the leader calibrates LN0 first, unless LNS carries a failed lane or there is no spare (08 R272). -/
def State.calStart (s : State) (n : Nat) : State :=
  let x := s.port n
  if s.linkState n = linkUp && s.leads n && s.flag .LINK_CTRL_CAL_EN n && x.seqKind = .idle && x.cal = none && x.after = none && !s.flag .LINK_STATUS_DARNED n
      && !s.flag .LINK_STATUS_SPARE_LOST n && x.pendingHalf = none then
    ((s.setPort n { x with cal := some 0 }).setFld .LINK_STATUS_CAL_ACTIVE 1 n).startDarn n 0 false
  else s

def execCalCycleStart (n : Nat) (s : State) : Host.Outcome State Fault Refusal := .next (s.calStart n)

/-- CAL_DWELL_DONE: the retuned lane is returned; after LNS itself the cycle is over (08 R272). -/
def State.calDwell (s : State) (n : Nat) : State :=
  match (s.port n).cal with
  | none => s
  | some i =>
    if i = 8 then s.endCal n
    else if s.flag .LINK_STATUS_DARNED n && !s.flag .LINK_STATUS_DARN_FAILED n && (s.port n).seqKind = .idle then s.startUndarn n i
    else s

def execCalDwellDone (n : Nat) (s : State) : Host.Outcome State Fault Refusal := .next (s.calDwell n)

/-! ### Arriving link management messages (08 R261, Table 8.7) -/

/-- The port takes messages: it is UP, or in ALIGN. -/
def State.takesMsgs (s : State) (n : Nat) : Bool := s.linkState n = linkUp || s.linkState n = linkAlign

/-- Of the messages handled, the last 64 are remembered: far fewer than a TXN takes to return (log entry 83). -/
def keepHandled (l : List (LinkMsg × Option LinkMsg)) : List (LinkMsg × Option LinkMsg) := l.drop (l.length - 64)

/-- What was answered to a message when it was handled. -/
def Port.handledAs (x : Port) (m : LinkMsg) : Option (LinkMsg × Option LinkMsg) := x.handled.find? (fun h => h.1.op = m.op && h.1.txn = m.txn)

/-- A message arrives: one handled before is answered again and not acted on; otherwise it is acted on and its answer, if it has one,
put in line with its TXN. -/
def State.onMsg (s : State) (n : Nat) (m : LinkMsg) (reply : Option LinkMsg) (act : State → State) : State :=
  if !s.takesMsgs n then s
  else
    let x := s.port n
    match x.handledAs m with
    | some h => s.setPort n { x with msgs := x.msgs ++ h.2.toList }
    | none =>
      let reply := reply.map (fun r => { r with txn := m.txn })
      let s := act s
      let x := s.port n
      if s.takesMsgs n || s.linkState n = linkRetrain then
        s.setPort n { x with msgs := x.msgs ++ reply.toList, handled := keepHandled (x.handled ++ [(m, reply)]) }
      else s

/-- A message of some operation is answered. -/
def State.answered (s : State) (n : Nat) (ops : List Nat) : State :=
  let x := s.port n
  s.setPort n { x with awaiting := x.awaiting.filter (fun a => !ops.contains a.1.op) }

/-- What the leader does with a request: for a failure as for one of its own; for calibration a darn when nothing runs. -/
def State.darnReq (s : State) (n : Nat) (m : LinkMsg) : State :=
  let s := s.setFld .TPORT_STATUS_MEASURING 0 n
  if m.reason = 1 then
    if m.lane = 8 then (s.setFld .LINK_STATUS_SPARE_LOST 1 n).startHalf n 8 else (s.noteFailed n m.lane).laneRequest n m.lane
  else if (s.port n).seqKind = .idle && !s.flag .LINK_STATUS_DARNED n then s.startDarn n m.lane false
  else s

/-- DARN_REQ at the leader. The message that answers it, if one is sent, is sent again for a repeat (08 R261, Table 8.7). -/
def execDarnReq (n : Nat) (m : LinkMsg) (s : State) : Host.Outcome State Fault Refusal :=
  let m := { m with op := 0x01 }
  .next (if !s.takesMsgs n || !s.leads n then s
    else
      let x := s.port n
      match x.handledAs m with
      | some h => s.setPort n { x with msgs := x.msgs ++ h.2.toList }
      | none =>
        let s := s.darnReq n m
        let y := s.port n
        if y.txn ≠ x.txn && s.takesMsgs n then
          s.setPort n { y with handled := keepHandled (y.handled ++ [(m, (y.msgs.filter (fun a => a.op = 0x02 || a.op = 0x08)).getLast?)]) }
        else s)

/-- The follower takes a DARN_START: its copy begins; or, for a lane that is on its way to LNS or on it, the reason becomes failure. -/
def State.darnStart (s : State) (n lane : Nat) (failed : Bool) : State :=
  let s := (s.answered n [0x01]).setFld .TPORT_STATUS_MEASURING 0 n
  let s := if failed then s.noteFailed n lane else s
  let x := s.port n
  let onLns : Bool := s.flag .LINK_STATUS_DARNED n && s.fld .LINK_STATUS_DARN_LANE n = lane
  if failed && ((x.seqKind ≠ .idle && x.seqLane = lane) || onLns) then s.keepDarned n lane
  else if s.linkState n = linkAlign then s.setDarn n lane failed
  else s.beginSeq n .darn lane failed

/-- DARN_START at the follower, which answers DARN_ACK; a measurement of asymmetry ends (10 R335). -/
def execDarnStart (n : Nat) (m : LinkMsg) (s : State) : Host.Outcome State Fault Refusal :=
  .next (s.onMsg n { m with op := 0x02 } (some { op := 0x03, lane := m.lane }) (fun s => s.darnStart n m.lane (m.reason = 1)))

/-- DARN_ACK at the leader. -/
def execDarnAck (n : Nat) (m : LinkMsg) (s : State) : Host.Outcome State Fault Refusal :=
  .next (s.onMsg n { m with op := 0x03 } none (fun s => s.answered n [0x02]))

/-- A DARN_DONE or UNDARN_DONE: the peer's receiver has switched. An end that has switched too has sent its own, which is the answer; a
repeat of one handled before is answered again; one that carries the TXN of this end's own is that answer (08 R261, R270, R271). -/
def State.doneIn (s : State) (n : Nat) (k : SeqKind) (m : LinkMsg) : State :=
  if !s.takesMsgs n then s
  else
    let x := s.port n
    let own : Bool := x.ownDone = some m.txn
    let seen : Bool := x.handled.any (fun h => h.1.op = m.op && h.1.txn = m.txn)
    if seen && !own then if x.seqSwitched then s.setPort n { x with msgs := x.msgs ++ [m] } else s
    else
      let x := if own then x else { x with handled := keepHandled (x.handled ++ [(m, none)]) }
      let s := (s.setPort n x).answered n [m.op]
      if x.seqKind = k && x.seqLane = m.lane then (s.setPort n { s.port n with seqPeer := true }).checkSeq n else s

def execDarnDone (n : Nat) (m : LinkMsg) (s : State) : Host.Outcome State Fault Refusal := .next (s.doneIn n .darn { m with op := 0x04 })

/-- UNDARN_START at the follower: it sends the lane on both, and answers UNDARN_ACK. -/
def execUndarnStart (n : Nat) (m : LinkMsg) (s : State) : Host.Outcome State Fault Refusal :=
  .next (s.onMsg n { m with op := 0x05 } (some { op := 0x06, lane := m.lane }) (fun s => s.beginSeq n .undarn m.lane false))

/-- UNDARN_ACK at the leader. -/
def execUndarnAck (n : Nat) (m : LinkMsg) (s : State) : Host.Outcome State Fault Refusal :=
  .next (s.onMsg n { m with op := 0x06 } none (fun s => s.answered n [0x05]))

/-- UNDARN_DONE. -/
def execUndarnDone (n : Nat) (m : LinkMsg) (s : State) : Host.Outcome State Fault Refusal := .next (s.doneIn n .undarn { m with op := 0x07 })

/-- The half that is agreed is retrained to; in ALIGN, where nothing is retrained, it is used at once. -/
def State.takeHalf (s : State) (n half : Nat) : State :=
  if s.linkState n = linkAlign then s.enterHalf n half
  else (s.setPort n { s.port n with pendingHalf := some half }).fastRetrain n

/-- HALF_START at the follower: it agrees, knows the half's failed lane from LANE, and retrains to that half (08 R274, R275). -/
def execHalfStart (n : Nat) (m : LinkMsg) (s : State) : Host.Outcome State Fault Refusal :=
  .next (s.onMsg n { m with op := 0x08 } (some { op := 0x09, half := m.half }) (fun s =>
    ((s.answered n [0x01]).noteFailed n m.lane).takeHalf n (m.half % 2)))

/-- HALF_ACK at the leader: the retrain starts. -/
def execHalfAck (n : Nat) (m : LinkMsg) (s : State) : Host.Outcome State Fault Refusal :=
  .next (s.onMsg n { m with op := 0x09 } none (fun s =>
    let s := s.answered n [0x08]
    (s.port n).pendingHalf.elim s (s.takeHalf n)))

/-- RTT_PROBE: answered with its nonce. -/
def execRttProbe (n : Nat) (m : LinkMsg) (s : State) : Host.Outcome State Fault Refusal :=
  .next (s.onMsg n { m with op := 0x0A } (some { op := 0x0B, data := m.data }) id)

/-- RTT_ECHO: the round trip of a probe whose nonce it echoes is measured, `ns` nanoseconds. -/
def execRttEcho (n : Nat) (m : LinkMsg) (ns : Nat) (s : State) : Host.Outcome State Fault Refusal :=
  .next (if s.takesMsgs n && (s.port n).awaiting.any (fun a => a.1.op = 0x0A && a.1.data = m.data) then (s.answered n [0x0A]).setFld .LINK_RTT ns n else s)

/-- LINK_MSG_REPEAT: every unanswered message is repeated; after 64 repeats a fast retrain starts (08 R261). -/
def State.msgRepeat (s : State) (n : Nat) : State :=
  let x := s.port n
  if !s.takesMsgs n then s
  else if x.awaiting.any (fun a => 64 ≤ a.2) then s.fastRetrain n
  else s.setPort n { x with msgs := x.msgs ++ x.awaiting.map Prod.fst, awaiting := x.awaiting.map (fun a => (a.1, a.2 + 1)) }

def execLinkMsgRepeat (n : Nat) (s : State) : Host.Outcome State Fault Refusal := .next (s.msgRepeat n)

/-! ### End of a fast retrain (08 R275) -/

/-- A failed lane that LNS does not carry, to be looked at again (08 Table 8.12). -/
def State.openLanes (s : State) (n : Nat) : List Nat :=
  if s.flag .LINK_STATUS_HALF n then [] else
    (s.port n).failed.filter (fun i => !(s.flag .LINK_STATUS_DARNED n && s.flag .LINK_STATUS_DARN_FAILED n && s.fld .LINK_STATUS_DARN_LANE n = i))

/-- RETRAIN_COMPLETE: UP again, at half width if that was agreed; no DATA frame has been accepted since; the sender replays from the oldest
unacknowledged frame, and deferred darn requests are looked at again (08 R249, Table 8.6, Table 8.12). -/
def State.retrainDone (s : State) (n : Nat) : State :=
  if s.linkState n ≠ linkRetrain then s
  else
    let x := s.port n
    let s := s.setPort n { x with sender := .normal, resync := true, ackV := false, pendingHalf := none, deferred := [], timer := s.raw }
    let s := s.setLink n linkUp
    let s := x.pendingHalf.elim s (s.enterHalf n)
    let s := s.startReplay n
    if s.leads n then (x.deferred ++ (s.openLanes n).filter (fun i => !x.deferred.contains i)).foldl (fun s i => s.laneRequest n i) s else s

def execRetrainComplete (n : Nat) (s : State) : Host.Outcome State Fault Refusal := .next (s.retrainDone n)

/-- RETRAIN_TIMEOUT: not UP within 100 µs. -/
def execRetrainTimeout (n : Nat) (s : State) : Host.Outcome State Fault Refusal :=
  .next (if s.linkState n = linkRetrain then s.leaveLink n linkDown else s)

end Sys2Proof.Machine
end

