-- ==== Sys2Proof/Machine/Routing.lean ====
section
/-! DEFINITION. Machine/Routing.lean: job slots, rank tables, epoch switches, and packets leaving and entering at ports (09; 08 R277 to
R283). -/
namespace Sys2Proof.Machine
open Sys2Proof

def State.slotRec (s : State) (j : Nat) : JobSlot := bankGet {} s.jobSlots j
def State.setSlotRec (s : State) (j : Nat) (x : JobSlot) : State := { s with jobSlots := bankSet {} s.jobSlots j x }
def State.slotState (s : State) (j : Nat) : Nat := s.fld .SLOT_STATUS_STATE j

/-- A slot enters a state; entering DRAINED raises vector 7 (14 Table 14.10). -/
def State.setSlotState (s : State) (j st : Nat) : State :=
  let s := s.setFld .SLOT_STATUS_STATE st j
  if st = slotDrained then s.raiseVector 7 else s

/-- Refuse a slot command or write (09 R289, R302). -/
def State.slotReject (s : State) (j code : Nat) : State := (s.setFld .SLOT_STATUS_REJECT 1 j).setFld .SLOT_STATUS_CODE code j

/-! ### Packets of a tag on the device (09 R289) -/

/-- SLOT_HELD: packets of the tag in ingress buffers, egress queues and unacknowledged frames, and those on the package fabric between a link die
and their sink (09 R289). A foreign packet is none of them (R301). -/
def State.slotHeld (s : State) (j : Nat) : Nat :=
  let tag := s.fld .SLOT_CFG_JOB_TAG j
  let ports := (s.ports.map (fun e => ((e.2.outPkts ++ (if (s.slotPorts j).testBit e.1 then e.2.inPkts else [])).filter (fun k => k.pkt.tag = tag)).length)).sum
  ports + (s.flight.filter (fun k => k.tag = tag && k.srcRank ≠ s.fld .SLOT_RANK j)).length

/-- A packet of the tag arrives at a DRAINED slot (09 Table 9.1). -/
def State.tagArrives (s : State) (j : Nat) : State := if s.slotState j = slotDrained then s.setSlotState j slotDraining else s

/-- SLOT_DRAINED. -/
def State.drainedCheck (s : State) (j : Nat) : State :=
  if s.slotState j = slotDraining && s.slotHeld j = 0 then s.setSlotState j slotDrained else s

def execSlotDrained (j : Nat) (s : State) : Host.Outcome State Fault Refusal := .next (s.drainedCheck j)

/-! ### Slot commands (09 R289, R290, R303, R305) -/

/-- Port n is owned by p; port n is transit-only (08 Table 8.14). -/
def State.portOwnedBy (s : State) (p n : Nat) : Bool := s.fld .LINK_OWNER_KIND n = 1 && s.fld .LINK_OWNER_PARTITION n = p
def State.portTransit (s : State) (n : Nat) : Bool := s.fld .LINK_OWNER_KIND n = 2

/-- JOB_PORTS of an epoch. -/
def State.epochPorts (s : State) (j epoch : Nat) : Nat := if epoch = 0 then s.fld .SLOT_PORTS0 j else s.fld .SLOT_PORTS1 j

def State.rankEntry (s : State) (j epoch e : Nat) : RankEntry := bankGet {} s.ranks (j * 512 + epoch * 256 + e)

/-- The mask lies within another. -/
def maskIn (a b : Nat) : Bool := a &&& b = a

/-- The first failing check of R290; 0 when all hold. -/
def State.activateCode (s : State) (j : Nat) : Nat :=
  let tag := s.fld .SLOT_CFG_JOB_TAG j
  let run : Bool := s.fld .SLOT_CFG_KIND j = 0
  let p := s.fld .SLOT_CFG_PARTITION j
  let others := (List.range 32).filter (fun i => i ≠ j && s.slotState i ≠ slotFree)
  if tag = 0 || others.any (fun i => s.fld .SLOT_CFG_JOB_TAG i = tag) then E_ROUTE_TAG_IN_USE
  else if run && (!s.partExists p || others.any (fun i => s.fld .SLOT_CFG_KIND i = 0 && s.fld .SLOT_CFG_PARTITION i = p)) then E_ROUTE_SLOT_INVALID
  else if (bitsOf (s.slotPorts j) 32).any (fun n => !(s.portTransit n || (run && s.portOwnedBy p n))) then E_ROUTE_SLOT_INVALID
  else if (List.range 2).any (fun k => (List.range 256).any (fun e => (s.rankEntry j k e).valid && !maskIn (s.rankEntry j k e).ports (s.epochPorts j k))) then
    E_ROUTE_TABLE_INVALID
  else 0

/-- SLOT_CTRL_ACTIVATE. -/
def State.slotActivate (s : State) (j : Nat) : State :=
  if s.slotState j ≠ slotFree && s.slotState j ≠ slotDrained then s.slotReject j E_ROUTE_STATE
  else
    let code := s.activateCode j
    if code ≠ 0 then s.slotReject j code
    else
      let s := if s.slotState j = slotFree then (s.setFld .SLOT_PKTS 0 j).setSlotRec j {} else s
      (s.setSlotState j slotActive).flush

def execSlotCtrlActivate (j : Nat) (s : State) : Host.Outcome State Fault Refusal := .next (s.slotActivate j)

/-- A pending switch is cancelled (09 R305); vector 7. -/
def State.cancelSwitch (s : State) (j : Nat) : State := ((s.setFld .SLOT_STATUS_SWITCH_PENDING 0 j).setFld .SLOT_STATUS_CANCELLED 1 j).raiseVector 7

/-- SLOT_CTRL_DRAIN: before T it cancels the switch; at or after T it proceeds when the switch is complete (09 R305). -/
def State.slotDrain (s : State) (j : Nat) : State :=
  if s.slotState j ≠ slotActive then s.slotReject j E_ROUTE_STATE
  else if s.inGuard j then s.setSlotRec j { s.slotRec j with drainAfter := true }
  else
    let s := if s.flag .SLOT_STATUS_SWITCH_PENDING j then s.cancelSwitch j else s
    s.setSlotState j slotDraining

def execSlotCtrlDrain (j : Nat) (s : State) : Host.Outcome State Fault Refusal := .next (s.slotDrain j)

/-- SLOT_CTRL_CLOSE. Packets of the job that still wait to leave are dropped with it (log entry 78). -/
def State.slotClose (s : State) (j : Nat) : State :=
  let st := s.pstate (s.fld .SLOT_CFG_PARTITION j)
  if s.slotState j = slotDrained && (s.fld .SLOT_CFG_KIND j = 1 || st = .idle || st = .loaded || st = .stopped || st = .fault) then
    let s := { s with ranks := bankDrop (fun k => k / 512 = j) s.ranks, outbox := s.outbox.filter (fun e => !(s.runSlot e.1 = some j && s.offDevice e.1 e.2)) }
    let s := ((s.setFld .SLOT_PORTS0 0 j).setFld .SLOT_PORTS1 0 j).setFld .SLOT_CFG_JOB_TAG 0 j
    (s.setSlotRec j {}).setSlotState j slotFree
  else s.slotReject j E_ROUTE_STATE

def execSlotCtrlClose (j : Nat) (s : State) : Host.Outcome State Fault Refusal := .next (s.slotClose j)

/-- SLOT_CTRL_SWITCH_ARM (09 R303). -/
def State.switchArm (s : State) (j : Nat) : State :=
  let t := s.fld64 .SLOT_SWITCH_TIME_LO .SLOT_SWITCH_TIME_HI j
  if s.slotState j ≠ slotActive || s.flag .SLOT_STATUS_SWITCH_PENDING j then s.slotReject j E_ROUTE_STATE
  else if !s.twoMicrosAhead t then s.slotReject j E_ROUTE_SWITCH_LATE
  else
    let s := s.setSlotRec j { s.slotRec j with switchAt := t, guardUs := max 5 (s.fld .SLOT_GUARD j), inGuard := false, drainAfter := false }
    s.setFld .SLOT_STATUS_SWITCH_PENDING 1 j

def execSlotCtrlSwitchArm (j : Nat) (s : State) : Host.Outcome State Fault Refusal := .next (s.switchArm j)

/-- SLOT_CTRL_SWITCH_ABORT: before T; at or after T it is ignored (09 R305). -/
def State.switchAbort (s : State) (j : Nat) : State :=
  if !s.flag .SLOT_STATUS_SWITCH_PENDING j then s.slotReject j E_ROUTE_STATE
  else if s.inGuard j then s else s.cancelSwitch j

def execSlotCtrlSwitchAbort (j : Nat) (s : State) : Host.Outcome State Fault Refusal := .next (s.switchAbort j)

/-- EPOCH_SWITCH_START: time T is reached (09 Table 9.4). -/
def State.switchStart (s : State) (j : Nat) : State :=
  let x := s.slotRec j
  if s.flag .SLOT_STATUS_SWITCH_PENDING j && !x.inGuard && s.timeReached x.switchAt then s.setSlotRec j { x with inGuard := true } else s

def execEpochSwitchStart (j : Nat) (s : State) : Host.Outcome State Fault Refusal := .next (s.switchStart j)

/-- EPOCH_SWITCH_COMPLETE: time T + G is reached. -/
def State.switchDone (s : State) (j : Nat) : State :=
  let x := s.slotRec j
  if s.flag .SLOT_STATUS_SWITCH_PENDING j && x.inGuard && s.timeReached ((x.switchAt + x.guardUs * 64000) % 2 ^ 64) then
    let s := s.setSlotRec j { x with inGuard := false, switched := true, drainAfter := false }
    let s := (s.setFld .SLOT_CFG_EPOCH (1 - s.fld .SLOT_CFG_EPOCH j) j).setFld .SLOT_STATUS_SWITCH_PENDING 0 j
    let s := (s.setFld .SLOT_STATUS_SWITCH_DONE 1 j).raiseVector 7
    (if x.drainAfter && s.slotState j = slotActive then s.setSlotState j slotDraining else s).flush
  else s

def execEpochSwitchComplete (j : Nat) (s : State) : Host.Outcome State Fault Refusal := .next (s.switchDone j)

/-! ### Table and slot writes (09 R302, R307) -/

/-- An epoch of a slot may be written. -/
def State.epochWritable (s : State) (j epoch : Nat) : Bool :=
  s.slotState j = slotFree || s.slotState j = slotDrained || (!s.flag .SLOT_STATUS_SWITCH_PENDING j && epoch ≠ s.fld .SLOT_CFG_EPOCH j)

/-- BAR0 addresses of ROUTE_TBL_RANKS and ROUTE_TBL_PORTS. -/
def tblRanksAddr : Nat := 0x00810014
def tblPortsAddr : Nat := 0x00810018

/-- Which of the two held registers is written. -/
def State.tblHold (s : State) (party : Party) (ports : Bool) (v : Nat) : State :=
  if party = .mgmt then s else s.holdLow .host (if ports then tblPortsAddr else tblRanksAddr) v

def execRouteTblHoldWrite (party : Party) (ports : Bool) (v : Nat) (s : State) : Host.Outcome State Fault Refusal := .next (s.tblHold party ports v)

/-- Held values are discarded. -/
def State.tblDropHeld (s : State) : State :=
  { s with held := bankSet 0 (bankSet 0 s.held (pairKey .host tblRanksAddr) 0) (pairKey .host tblPortsAddr) 0 }

/-- ROUTE_TBL_INDEX_WRITE. -/
def State.tblIndex (s : State) (party : Party) (v : Nat) : State :=
  if party = .mgmt then s
  else
    let s := (s.setFld .ROUTE_TBL_INDEX_ENTRY v).setFld .ROUTE_TBL_INDEX_EPOCH (v / 2 ^ 8)
    ((s.setFld .ROUTE_TBL_INDEX_SLOT (v / 2 ^ 9)).setFld .ROUTE_TBL_INDEX_AUTO (v / 2 ^ 14)).tblDropHeld

def execRouteTblIndexWrite (party : Party) (v : Nat) (s : State) : Host.Outcome State Fault Refusal := .next (s.tblIndex party v)

/-- A held value, or the committed one. -/
def State.heldOr (s : State) (addr cur : Nat) : Nat :=
  match bankGet 0 s.held (pairKey .host addr) with
  | 0 => cur
  | v + 1 => v

/-- ROUTE_TBL_COMMIT: a write of ROUTE_TBL_ATTR. -/
def State.tblCommit (s : State) (party : Party) (v : Nat) : State :=
  if party = .mgmt then s
  else
    let j := s.fld .ROUTE_TBL_INDEX_SLOT
    let k := s.fld .ROUTE_TBL_INDEX_EPOCH
    let i := s.fld .ROUTE_TBL_INDEX_ENTRY
    let old := s.rankEntry j k i
    let ranks := s.heldOr tblRanksAddr (old.lo + old.hi * 2 ^ 16)
    let e : RankEntry := { lo := ranks % 2 ^ 16, hi := ranks / 2 ^ 16 % 2 ^ 16, ports := s.heldOr tblPortsAddr old.ports,
                           valid := v.testBit 0, spread := v.testBit 1, inc := v / 4 % 8 }
    let s := s.tblDropHeld
    if !s.epochWritable j k || (e.valid && (!maskIn e.ports (s.epochPorts j k) || e.hi < e.lo)) then
      (s.setFld .ROUTE_TBL_STATUS_REJECT 1).setFld .ROUTE_TBL_STATUS_CODE E_ROUTE_TABLE_INVALID
    else
      let s := { s with ranks := bankSet {} s.ranks (j * 512 + k * 256 + i) e }
      if s.flag .ROUTE_TBL_INDEX_AUTO then s.addFld .ROUTE_TBL_INDEX_ENTRY else s

def execRouteTblCommit (party : Party) (v : Nat) (s : State) : Host.Outcome State Fault Refusal := .next (s.tblCommit party v)

/-- Write a slot field; outside its states the write is refused, whatever its value (09 R302). -/
def State.slotField (s : State) (j : Nat) (f : Fld) (v : Nat) (ok : Bool) : State :=
  if ok then s.setFld f v j else s.slotReject j E_ROUTE_STATE

/-- SLOT_CONFIG_WRITE: SLOT_CFG (0), SLOT_RANK (1), SLOT_PORTS0 (2) or SLOT_PORTS1 (3) (09 R302, Table 9.6). -/
def State.slotConfig (s : State) (party : Party) (j which v : Nat) : State :=
  let free : Bool := s.slotState j = slotFree
  if party = .mgmt then s
  else match which with
    | 0 =>
      let s := s.slotField j .SLOT_CFG_JOB_TAG v free
      let s := s.slotField j .SLOT_CFG_KIND (v / 2 ^ 16) free
      let s := s.slotField j .SLOT_CFG_PARTITION (v / 2 ^ 17) free
      s.slotField j .SLOT_CFG_EPOCH (v / 2 ^ 21) (free || s.slotState j = slotDrained)
    | 1 => s.slotField j .SLOT_RANK v free
    | 2 => if s.epochWritable j 0 then s.setFld .SLOT_PORTS0 v j else s.slotReject j E_ROUTE_TABLE_INVALID
    | _ => if s.epochWritable j 1 then s.setFld .SLOT_PORTS1 v j else s.slotReject j E_ROUTE_TABLE_INVALID

def execSlotConfigWrite (party : Party) (j which v : Nat) (s : State) : Host.Outcome State Fault Refusal := .next (s.slotConfig party j which v)

/-! ### Leaving the origin (09 R297; 08 R280 to R282) -/

/-- Transfers being discarded: this packet ends its own when it is the last; one more is discarded from the packet after this one on. -/
def dropLast (l : List Drop) (k : Pkt) : List Drop := if k.final then l.filter (fun d => d.key ≠ xferKey k) else l
def dropStart (l : List Drop) (k : Pkt) (counts : Bool) : List Drop :=
  if k.final || l.any (fun d => d.key = xferKey k) then l else l ++ [{ key := xferKey k, counts := counts }]

/-- ROUTE_DISCARD counts the packets of a transfer that R297 or R300 discards (09 R307). -/
def State.countDrops (s : State) (n : Nat) (counts : Bool) (m : Nat) : State := if counts then s.addFld .ROUTE_DISCARD m n else s

/-- Key and counter of a partition's sending generation (08 R281). -/
def sealKey (p gen : Nat) : Nat := p * 2 + gen
def State.sealCount (s : State) (p gen n : Nat) : Nat := bankGet 0 s.sealSeq (sealKey p gen * 32 + n)

/-- EGRESS_PACKET_SEND: an off-device packet of a partition reaches its link die with Table 9.3 in ADDR, and is sealed where its generation says
so. Where the generation has lost its key since it was injected, its sender ends with E_LINK_NO_KEY (08 R282). -/
def State.egress (s : State) (k : Pkt) : State :=
  let n := k.addr % 32
  let p := k.part
  let x := s.port n
  if x.dropOut.any (fun d => d.key = xferKey k) then (s.setPort n { x with dropOut := dropLast x.dropOut k }).addFld .ROUTE_DISCARD 1 n
  else if !s.portLive n then
    let s := (s.setPort n { x with dropOut := dropStart x.dropOut k true }).addFld .ROUTE_DISCARD 1 n
    (s.routeError E_ROUTE_DEAD_PORT k.tag n).enterFault p E_ROUTE_DEAD_PORT
  else
    let gen := s.fld .SEC_PART_SEND_KGEN p
    let kind := s.kgenState p gen
    let c := s.sealCount p gen n
    if kind = 0 then (s.coreFault (k.srcNode * 96 + k.srcUnit) E_LINK_NO_KEY ((s.xferFrom k).elim 0 Xfer.tag))
    else if kind = 2 && c = 2 ^ 64 - 1 then (s.linkError n E_LINK_SEQ_EXHAUSTED k.tag).enterFault p E_LINK_SEQ_EXHAUSTED
    else
      let lp : LPkt := { pkt := k, epoch := k.addr / 32 % 2, lvc := k.tclass, kgen := gen, port := n }
      let lp := if kind = 2 then sealed (bankGet 0 s.jobKeys (sealKey p gen)) { lp with isSealed := true, seq := c } else lp
      let s := if kind = 2 then { s with sealSeq := bankSet 0 s.sealSeq (sealKey p gen * 32 + n) (c + 1) } else s
      let s := s.setPort n { x with egress := x.egress ++ pktSlots lp }
      match s.jobSlot k.tag with
      | some j => s.addFld .SLOT_PKTS 1 j
      | none => s

def execEgressPacketSend (k : Pkt) (s : State) : Host.Outcome State Fault Refusal :=
  .next (s.arriveAt (some (64 + k.addr % 32 / 4)) k (fun s => s.egress k))

/-! ### Admission (08 R277, R278) -/

/-- Link VCs of a port. -/
def State.portVcs (s : State) (n : Nat) : Nat := max 1 (s.fld .LINK_OWNER_VCS n)

/-- Bytes of a packet's slots in the ingress buffer, 36 each (08 R242). -/
def pktBytes (k : LPkt) : Nat := (pktSlots k).length * 36

/-- Bytes used of the share of a VC. -/
def State.shareUsed (s : State) (n vc : Nat) : Nat :=
  (((s.port n).inPkts.filter (fun k => k.lvc % s.portVcs n = vc)).map pktBytes).sum

/-- The packet's share has room for all of its slots. -/
def State.admits (s : State) (n : Nat) (k : LPkt) : Bool :=
  s.shareUsed n (k.lvc % s.portVcs n) + pktBytes k ≤ 1048576 / s.portVcs n

/-- A packet that arrived is discarded with every later packet of its transfer: those that have not left the ingress buffer, the one coming
in, and those still to come. Packets of the transfer that came before it go on. -/
def State.dropArrival (s : State) (n : Nat) (k : Pkt) (counts : Bool := false) : State :=
  let x := s.port n
  let same := fun (q : LPkt) => xferKey q.pkt = xferKey k
  let gone := (x.ingress.filter same).map LPkt.pkt ++ (x.rx.elim [] (fun r => if r.2.2 && same r.1 then [r.1.pkt] else []))
  let rest := gone.foldl dropLast (dropStart x.dropIn k counts)
  (s.setPort n { x with ingress := x.ingress.filter (fun q => !same q), rx := x.rx.map (fun r => (r.1, r.2.1, r.2.2 && !same r.1)),
                        dropIn := rest }).countDrops n counts gone.length

/-- A packet comes to stand in an ingress buffer: a DRAINED slot that carries its tag by this port is DRAINING again (09 Table 9.1). -/
def State.carriedIn (s : State) (n : Nat) (k : LPkt) : State :=
  (s.jobSlot k.pkt.tag).elim s (fun j => if (s.slotPorts j).testBit n then s.tagArrives j else s)

/-- A packet that cannot be admitted (08 R278). -/
def State.overrun (s : State) (n : Nat) (k : LPkt) : State :=
  (((s.setPort n { s.port n with dropIn := dropStart (s.port n).dropIn k.pkt false }).addFld .LINK_OVERRUN 1 n).linkError n E_LINK_SINK_OVERRUN k.pkt.tag).jobLoss n E_LINK_SINK_OVERRUN k.pkt

/-! ### Arriving packets (09 R298 to R304; 08 R283) -/

/-- The checks of R283; true when the packet passes. -/
def State.unsealOk (s : State) (p : Nat) (k : LPkt) : Bool :=
  match s.kgenState p k.kgen with
  | 0 => false
  | 1 => !k.isSealed
  | _ => k.isSealed && k.tailZero && k.auth = sealTag (bankGet 0 s.jobKeys (sealKey p k.kgen)) k

/-- A packet for this device's rank, at slot j: delivered into the package fabric with its PARTITION set (08 R244). From T + G of a switch on,
until T of the next, a packet of the other epoch is too late (09 R304). -/
def State.deliver (s : State) (n j : Nat) (k : LPkt) : State :=
  let p := s.fld .SLOT_CFG_PARTITION j
  if k.epoch ≠ s.fld .SLOT_CFG_EPOCH j && (s.slotRec j).switched && !s.inGuard j then
    ((s.dropArrival n k.pkt).routeError E_ROUTE_EPOCH_LATE k.pkt.tag n).enterFault p E_ROUTE_EPOCH_LATE
  else if !s.unsealOk p k then
    (((s.dropArrival n k.pkt).addFld .LINK_AUTH_FAIL 1 n).linkError n E_LINK_AUTH_FAIL k.pkt.tag).jobLoss n E_LINK_AUTH_FAIL k.pkt
  else
    let q := { k.pkt with part := p }
    { s.addFld .SLOT_PKTS 1 j with flight := s.flight ++ [q.sent] }.out (.packet q)

/-- A transit packet that goes nowhere (09 R300). -/
def State.transitDrop (s : State) (n code : Nat) (k : LPkt) : State :=
  (((s.dropArrival n k.pkt true).addFld .ROUTE_DISCARD 1 n).routeError code k.pkt.tag n).jobLoss n code k.pkt

/-- A packet in transit: its egress port among those of its link die (09 R294, R299, R300). -/
def State.transit (s : State) (n j : Nat) (k : LPkt) : State :=
  match s.rankLookup j k.epoch k.pkt.dstRank with
  | none => s.transitDrop n E_ROUTE_NO_ROUTE k
  | some e =>
    match choosePort e (e.ports / 2 ^ (n / 4 * 4) % 16 * 2 ^ (n / 4 * 4)) k.pkt with
    | none => s.transitDrop n E_ROUTE_NO_ROUTE k
    | some m =>
      if m = n then s.transitDrop n E_ROUTE_U_TURN k
      else if !s.portLive m then s.transitDrop n E_ROUTE_DEAD_PORT k
      else s.setPort n { s.port n with waiting := (s.port n).waiting ++ [(k, m, (k.lvc + e.inc) % 8)] }

/-- A packet that left the ingress buffer of port n (09 R298). -/
def State.arrive (s : State) (n : Nat) (k : LPkt) : State :=
  let foreign := (s.addFld .ROUTE_FOREIGN 1 n).setFld .ROUTE_FOREIGN_TAG k.pkt.tag n
  match s.jobSlot k.pkt.tag with
  | none => foreign
  | some j =>
    if !(s.slotPorts j).testBit n then foreign
    else
      let s := s.tagArrives j
      if s.fld .SLOT_CFG_KIND j = 0 && k.pkt.dstRank = s.fld .SLOT_RANK j then s.deliver n j k else s.transit n j k

/-- INGRESS_DELIVER: the first packet of a VC's share leaves the ingress buffer of port n; traffic through link dies pauses while the shared
tables are switched (02 Table 2.8). -/
def State.ingressDeliver (s : State) (n vc : Nat) : State :=
  let x := s.port n
  if s.sharedPaused then s
  else match x.ingress.findIdx? (fun k => k.lvc % s.portVcs n = vc) with
  | none => s
  | some i => match x.ingress[i]? with
    | none => s
    | some k => (s.setPort n { x with ingress := x.ingress.eraseIdx i }).arrive n k

def execIngressDeliver (n vc : Nat) (s : State) : Host.Outcome State Fault Refusal := .next (s.ingressDeliver n vc)

/-- The packets of a transfer that wait behind a discarded one are discarded with it (09 R300). -/
def State.dropWaiting (s : State) (n : Nat) (k : Pkt) : State :=
  let x := s.port n
  let same := fun (w : LPkt × Nat × Nat) => xferKey w.1.pkt = xferKey k
  let gone := (x.waiting.filter same).map (fun w => w.1.pkt)
  (s.setPort n { x with waiting := x.waiting.filter (fun w => !same w), dropIn := gone.foldl dropLast x.dropIn }).addFld .ROUTE_DISCARD gone.length n

/-- TRANSIT_FORWARD_START: the first packet of port n that waits for port m starts there, whole (09 R299). -/
def State.forward (s : State) (n m : Nat) : State :=
  let x := s.port n
  if s.sharedPaused then s
  else match x.waiting.findIdx? (fun w => w.2.1 = m) with
  | none => s
  | some i => match x.waiting[i]? with
    | none => s
    | some (k, _, lvc) =>
      let s := s.setPort n { x with waiting := x.waiting.eraseIdx i }
      if !s.portLive m then (s.transitDrop n E_ROUTE_DEAD_PORT k).dropWaiting n k.pkt
      else
        let s := s.setPort m { s.port m with egress := (s.port m).egress ++ pktSlots { k with lvc := lvc } }
        let s := s.addFld .ROUTE_TRANSIT 1 n
        match s.jobSlot k.pkt.tag with
        | some j =>
          let s := s.addFld .SLOT_PKTS 1 j
          if s.fld .SLOT_CFG_KIND j = 0 then s.countUp (s.fld .SLOT_CFG_PARTITION j) 0x10 j n 1 else s
        | none => s

def execTransitForwardStart (n m : Nat) (s : State) : Host.Outcome State Fault Refusal := .next (s.forward n m)

end Sys2Proof.Machine
end

