-- ==== Sys2Proof/Machine/Time.lean ====
section
/-! DEFINITION. Machine/Time.lean: the servo, the time protocol, asymmetry and the pulse per second (10). -/
namespace Sys2Proof.Machine
open Sys2Proof

/-! ### The servo (10 R338, R342, Table 10.7) -/

/-- RATE steered by the servo: how far is not stated, so it is a free value within the limit of R322 (log entry 3). -/
def State.steerRate (s : State) : State :=
  let (v, s) := s.draw
  s.setRate ((v.toNat % (2 ^ 37 + 1) : Nat) - 2 ^ 36)

/-- A valid exchange with the parent, 32 θ given in units of 1/64 ns: the rows of Table 10.7 for ACQUIRE and SYNCED. -/
def State.servo (s : State) (n : Nat) (th : Int) : State :=
  let c := s.clock
  if s.timeState = timeAcquire then
    if !c.stepped then
      let c := { c with exchCount := c.exchCount + 1, exchSum := c.exchSum + th }
      let s := { s with clock := c }
      if c.exchCount < 8 then s
      else
        let (m, s) := s.divFree (-c.exchSum) 256
        if s.stepRefused m then ((s.timeStep m).setFld .TPORT_STATUS_REFUSED 1 n).chooseParent (some n)
        else
          let s := s.timeStep m
          ({ s with clock := { s.clock with stepped := true, goodRun := 0 } }).steerRate
    else
      let good := if th.natAbs ≤ 204 then c.goodRun + 1 else 0
      let s := { s with clock := { c with goodRun := good, farRun := 0 } }.steerRate
      if 16 ≤ good then (s.setFld .TIME_STATUS_SET 1).setTime timeSynced else s
  else if s.timeState = timeSynced then
    let far := if 20480 < th.natAbs then c.farRun + 1 else 0
    let s := { s with clock := { c with farRun := far } }.steerRate
    if 4 ≤ far then (s.setTime timeAcquire).servoReset else s
  else s

/-! ### The time protocol (10 R328 to R332) -/

/-- A port takes and sends time messages when it is UP and its clocks run (10 R309, R330). -/
def State.timeLive (s : State) (n : Nat) : Bool := s.linkState n = linkUp && s.inRun

/-- TIME_PERIOD in units of 1/64 ns; below 16 µs acts as 16 µs. -/
def State.timePeriod (s : State) : Nat := max 16 (s.fld .TIME_PERIOD) * 64000

/-- Messages put in line. -/
def State.sendTime (s : State) (n : Nat) (l : List TimeMsg) : State := s.setPort n { s.port n with timeMsgs := (s.port n).timeMsgs ++ l }

/-- The first 32 bits of the own KEY_ID, taken as its low half (log entry 32). -/
def ownGmId : Nat := ownKeyId % 2 ^ 32

/-- ANNOUNCE, TOD_A and TOD_B of this device (10 Table 10.5, R330). -/
def State.announceMsgs (s : State) : List TimeMsg :=
  let gm : Bool := s.timeState = timeGm
  let sync : Bool := gm || s.timeState = timeSynced
  let gmh : Bool := s.flag .TIME_STATUS_GM_HOLDOVER
  [{ op := 4, payload := s.fld .TIME_DOMAIN_DOMAIN + s.fld .TIME_STATUS_HOPS * 2 ^ 8 + sync.toNat * 2 ^ 12 + gm.toNat * 2 ^ 13
        + gmh.toNat * 2 ^ 14 + (if gm then ownGmId else s.fld .TIME_GM_ID) * 2 ^ 16 },
   { op := 5, id := s.clock.todVersion, payload := s.sOffset / 2 ^ 36 },
   { op := 6, id := s.clock.todVersion, payload := s.sOffset / 2 ^ 6 % 2 ^ 30 + s.sOffset % 64 * 2 ^ 30 }]

/-- Exchanges not completed within two periods of t3 are discarded and counted (10 R331). -/
def State.dropLate (s : State) (n : Nat) : State :=
  let x := s.tport n
  let late := fun (e : Exch) => e.own.elim false (fun o => o.2.2 + 2 * s.timePeriod < s.raw)
  (s.setTport n { x with exchs := x.exchs.filter (fun e => !late e) }).addFld .TPORT_LOST (x.exchs.filter late).length n

/-- The reference lane: LN0, or LN4 at upper half width (10 R328). -/
def State.refLane (s : State) (n : Nat) : Nat := if s.flag .LINK_STATUS_HALF n && s.flag .LINK_STATUS_HALF_UPPER n then 4 else 0

/-- A TX stamp: the time on the link die's copy, `ph` 64ths of a nanosecond into the TIME cycle under way (10 R313, R328). -/
def State.stampTx (s : State) (n ph : Nat) : Nat := (s.dieNow (n / 4) + ph % 64) % 2 ^ 64

/-- An RX stamp, in the same way; while LNS carries the reference lane, the skew between the two that was measured last is taken off
(10 R328; log entry 86). -/
def State.stampRx (s : State) (n ph : Nat) : Nat × State :=
  if s.flag .LINK_STATUS_DARNED n && s.fld .LINK_STATUS_DARN_LANE n = s.refLane n then
    let (d, s) := s.divFree ((s.tport n).skew.elim 0 Prod.snd) 16
    (unsgn 64 ((s.stampTx n ph : Int) - d), s)
  else (s.stampTx n ph, s)

/-- A period has passed for what the port heard: an ANNOUNCE of more than 16 periods ago counts no more (10 R336). -/
def State.agePort (s : State) (n : Nat) : State :=
  let x := s.tport n
  let s := s.setTport n { x with age := x.age + 1, quiet := x.quiet + 1 }
  (if 16 < x.age + 1 then s.setFld .TPORT_STATUS_ANNOUNCE_OK 0 n else s).lookForParent

/-- TIME_PERIOD_ELAPSE: on a port that is UP, a MARK, stamped as it leaves, and its TX_STAMP; every 16 periods ANNOUNCE, TOD_A and TOD_B. -/
def State.periodElapse (s : State) (n ph : Nat) : State :=
  let s := s.agePort n
  if !s.timeLive n then s
  else
    let s := s.dropLate n
    let x := s.tport n
    let k := x.nextMark
    let t3 := s.stampTx n ph
    let exchs := x.exchs.map (fun e => if e.own.isNone then { e with own := some (k, t3, s.raw) } else e)
    let s := s.setTport n { x with nextMark := (k + 1) % 256, tick := (x.tick + 1) % 16, exchs := exchs }
    s.sendTime n ([{ op := 1, id := k }, { op := 2, id := k, payload := t3 }] ++ (if x.tick = 15 then s.announceMsgs else []))

def execTimePeriodElapse (n ph : Nat) (s : State) : Host.Outcome State Fault Refusal := .next (s.periodElapse n ph)

/-- TIME_MARK: a MARK received is stamped t2 and answered with its RX_STAMP (10 R329, R330). -/
def State.timeMark (s : State) (n id ph : Nat) : State :=
  if !s.timeLive n then s
  else
    let (t2, s) := s.stampRx n ph
    let x := s.tport n
    let s := s.setTport n { x with exchs := x.exchs.filter (fun e => e.m ≠ id) ++ [{ m := id, t2 := t2 }] }
    s.sendTime n [{ op := 3, id := id, payload := t2 }]

def execTimeMark (n id ph : Nat) (s : State) : Host.Outcome State Fault Refusal := .next (s.timeMark n id ph)

/-- The difference of two stamps, signed. -/
def stampDiff (a b : Nat) : Int := sgn 64 (a + 2 ^ 64 - b % 2 ^ 64)

/-- A value written to a signed field; one that the field cannot hold is not stated: a free value (log entry 3). -/
def State.putSigned (s : State) (f : Fld) (v : Int) (n : Nat := 0) : State :=
  if -(2 : Int) ^ 31 ≤ v && v < (2 : Int) ^ 31 then s.setFld f (unsgn 32 v) n
  else
    let (w, s) := s.draw
    s.setFld f w.toNat n

/-- An exchange whose four stamps are known: valid when they came within two periods of t3 and the mean delay is not negative
(10 R331). -/
def State.exchange (s : State) (n t1 t2 t3 t4 at_ : Nat) : State :=
  let p := stampDiff t2 t1
  let q := stampDiff t4 t3
  if at_ + 2 * s.timePeriod < s.raw || p + q < 0 then s.addFld .TPORT_LOST 1 n
  else
    -- a is minus TPORT_ASYM, in units of 1/1,024 ns
    let th := 16 * (p - q) + sgn 32 (s.fld .TPORT_ASYM n)
    let (o, s) := s.divFree th 32
    let (d, s) := s.divFree (p + q) 2
    let s := s.putSigned .TPORT_OFFSET o n
    let s := if d < 2 ^ 24 then s.setFld .TPORT_DELAY d.toNat n else
      let (w, s) := s.draw
      s.setFld .TPORT_DELAY w.toNat n
    let s := (s.addFld .TPORT_EXCH 1 n).setTport n { s.tport n with quiet := 0 }
    if s.isParent n then (s.setFld .TIME_THETA (s.fld .TPORT_OFFSET n)).servo n th else s

/-- Carry out the exchanges that are complete. -/
def State.finishExchs (s : State) (n : Nat) : State :=
  let x := s.tport n
  let whole := fun (e : Exch) => e.t1.isSome && e.t4.isSome && e.own.isSome
  let s := s.setTport n { x with exchs := x.exchs.filter (fun e => !whole e) }
  (x.exchs.filter whole).foldl (fun s e => s.exchange n (e.t1.getD 0) e.t2 (e.own.elim 0 (fun o => o.2.1)) (e.t4.getD 0) (e.own.elim 0 (fun o => o.2.2))) s

/-- TX_STAMP received: t1 of the exchange of that MARK. -/
def State.txStamp (s : State) (n : Nat) (m : TimeMsg) : State :=
  if !s.timeLive n then s
  else
    let x := s.tport n
    (s.setTport n { x with exchs := x.exchs.map (fun e => if e.m = m.id && e.t1.isNone then { e with t1 := some (m.payload % 2 ^ 64) } else e) }).finishExchs n

def execTxStamp (n : Nat) (m : TimeMsg) (s : State) : Host.Outcome State Fault Refusal := .next (s.txStamp n m)

/-- RX_STAMP received: t4 of the exchanges whose own MARK it names. -/
def State.rxStamp (s : State) (n : Nat) (m : TimeMsg) : State :=
  if !s.timeLive n then s
  else
    let x := s.tport n
    let mine := fun (e : Exch) => e.own.elim false (fun o => o.1 = m.id) && e.t4.isNone
    (s.setTport n { x with exchs := x.exchs.map (fun e => if mine e then { e with t4 := some (m.payload % 2 ^ 64) } else e) }).finishExchs n

def execRxStamp (n : Nat) (m : TimeMsg) (s : State) : Host.Outcome State Fault Refusal := .next (s.rxStamp n m)

/-- ANNOUNCE received (10 Table 10.5, R336, R337). -/
def State.announce (s : State) (n : Nat) (m : TimeMsg) : State :=
  if !s.timeLive n then s
  else
    let v := m.payload
    let gmId := v / 2 ^ 16 % 2 ^ 32
    let s := s.setTport n { s.tport n with heard := true, age := 0, domain := v % 256, hops := v / 2 ^ 8 % 16, synced := v.testBit 12,
                                           gmHoldover := v.testBit 14, gmId := gmId }
    let s := ((s.setFld .TPORT_STATUS_ANNOUNCE_OK 1 n).setFld .TPORT_STATUS_PEER_SYNCED (v.testBit 12).toNat n).setFld .TPORT_STATUS_PEER_HOPS (v / 2 ^ 8) n
    if s.isParent n then
      let moved : Bool := s.timeState = timeSynced && s.fld .TIME_GM_ID ≠ gmId
      let s := if moved then (s.setTime timeAcquire).servoReset else s
      s.followParent n
    else s.lookForParent

def execAnnounce (n : Nat) (m : TimeMsg) (s : State) : Host.Outcome State Fault Refusal := .next (s.announce n m)

/-- TOD_A received: seconds. -/
def State.todAIn (s : State) (n : Nat) (m : TimeMsg) : State :=
  if !s.timeLive n then s else (s.setTport n { s.tport n with todA := some (m.id, m.payload % 2 ^ 48) }).adoptTod n
def execTodA (n : Nat) (m : TimeMsg) (s : State) : Host.Outcome State Fault Refusal := .next (s.todAIn n m)

/-- TOD_B received: nanoseconds and fraction. -/
def State.todBIn (s : State) (n : Nat) (m : TimeMsg) : State :=
  if !s.timeLive n then s
  else (s.setTport n { s.tport n with todB := some (m.id, m.payload % 2 ^ 30 * 64 + m.payload / 2 ^ 30 % 64) }).adoptTod n
def execTodB (n : Nat) (m : TimeMsg) (s : State) : Host.Outcome State Fault Refusal := .next (s.todBIn n m)

/-! ### Asymmetry (10 R333 to R335) -/

/-- Both ends' skews of one calibration cycle are known: each end writes the asymmetry seen from itself. -/
def State.asymDone (s : State) (n : Nat) : State :=
  match (s.tport n).skew, (s.tport n).peerSkew with
  | some a, some b =>
    if s.flag .TPORT_STATUS_MEASURING n && a.1 = b.1 then
      -- δL − δF, the asymmetry from leader to follower
      let lf := if s.leads n then a.2 - b.2 else b.2 - a.2
      let own := if s.leads n then lf else -lf
      let s := s.putSigned .TPORT_ASYM (own + sgn 32 (s.fld .TPORT_ASYM_ADJ n)) n
      (s.setFld .TPORT_STATUS_ASYM_VALID 1 n).setFld .TPORT_STATUS_MEASURING 0 n
    else s
  | _, _ => s

/-- ASYM received. -/
def State.asymIn (s : State) (n : Nat) (m : TimeMsg) : State :=
  if !s.timeLive n then s else (s.setTport n { s.tport n with peerSkew := some (m.id % 256, sgn 32 m.payload) }).asymDone n
def execAsym (n : Nat) (m : TimeMsg) (s : State) : Host.Outcome State Fault Refusal := .next (s.asymIn n m)

/-- ASYM_MEASURE: this end has measured its skew in the measurement that ends a calibration pass, and sends it (10 R333, R335,
Table 10.6). -/
def State.asymMeasure (s : State) (n cycle : Nat) (skew : Int) : State :=
  if !s.timeLive n || !s.flag .TPORT_STATUS_MEASURING n then s
  else
    let s := s.setTport n { s.tport n with skew := some (cycle % 256, skew) }
    (s.sendTime n [{ op := 7, id := cycle % 256, payload := unsgn 32 skew }]).asymDone n
def execAsymMeasure (n cycle : Nat) (skew : Int) (s : State) : Host.Outcome State Fault Refusal := .next (s.asymMeasure n cycle skew)

/-! ### Pulse per second (10 R338, R339) -/

/-- The step that carries S to the nearest whole second (log entry 31). -/
def toSecond (tod : Nat) : Int :=
  let f : Int := (tod % 2 ^ 36 : Nat)
  if f ≤ 32 * 10 ^ 9 then -f else 64 * 10 ^ 9 - f

/-- PPS_IN_EDGE. -/
def State.ppsIn (s : State) : State :=
  let s := { s with clock := { s.clock with ppsF := s.now, ppsS := s.todOf s.now } }
  if s.timeState = timeGm && s.flag .TIME_CTRL_PPS_IN_EN then
    let s := if s.flag .TIME_STATUS_PPS_MISSING then (s.setFld .TIME_STATUS_PPS_MISSING 0).setFld .TIME_STATUS_GM_HOLDOVER 0 else s
    if s.clock.ppsFirst then { s with clock := { s.clock with ppsFirst := false } }.timeStep (toSecond s.clock.ppsS) else s.steerRate
  else s
def execPpsInEdge (s : State) : Host.Outcome State Fault Refusal := .next s.ppsIn

/-- PPS_MISSING_TIMEOUT: no edge for 1.5 s. -/
def State.ppsMissing (s : State) : State :=
  if s.timeState = timeGm && s.flag .TIME_CTRL_PPS_IN_EN then
    ((s.setFld .TIME_STATUS_PPS_MISSING 1).setFld .TIME_STATUS_GM_HOLDOVER 1).timeError E_TIME_PPS_MISSING
  else s
def execPpsMissingTimeout (s : State) : Host.Outcome State Fault Refusal := .next s.ppsMissing

/-- PPS_OUT_RISE: in the TIME cycle in which S reaches a whole second that it has not risen at (10 R339). -/
def State.ppsRise (s : State) : State :=
  let tod := s.todOf s.now
  if s.flag .TIME_CTRL_PPS_OUT_EN && tod % 2 ^ 36 < 64 && s.clock.ppsLast ≠ some (todSec tod) then
    { s with clock := { s.clock with ppsOut := some s.raw, ppsLast := some (todSec tod) } }
  else s
def execPpsOutRise (s : State) : Host.Outcome State Fault Refusal := .next s.ppsRise

/-- PPS_OUT_FALL: WIDTH_US have passed; 0 acts as 1. -/
def State.ppsFall (s : State) : State :=
  match s.clock.ppsOut with
  | some m => if s.elapsed m (max 1 (s.fld .PPS_OUT_CFG) * 1000) then { s with clock := { s.clock with ppsOut := none } } else s
  | none => s
def execPpsOutFall (s : State) : Host.Outcome State Fault Refusal := .next s.ppsFall

/-- A write of TIME_CTRL: the role, PPS_IN_EN and PPS_OUT_EN, and ACCEPT_STEP (10 R336, R338, R339, R341). -/
def State.writeTimeCtrl (s : State) (v : Nat) : State :=
  let was := s.flag .TIME_CTRL_PPS_IN_EN
  let s := (s.setFld .TIME_CTRL_PPS_IN_EN (v / 8)).setFld .TIME_CTRL_PPS_OUT_EN (v / 16)
  let s := if !was && v.testBit 3 then { s with clock := { s.clock with ppsFirst := true } } else s
  let s := s.setRole v
  if v.testBit 2 then s.acceptStep else s

end Sys2Proof.Machine
end

