-- ==== Sys2Proof/Machine/Frames.lean ====
section
/-! DEFINITION. Machine/Frames.lean: sending and receiving frames: sequence, acknowledgement, replay, control messages and admission
(08 R240 to R261, R277). -/
namespace Sys2Proof.Machine
open Sys2Proof

/-- The largest number of unacknowledged DATA frames (08 R246). -/
def frameWindow : Nat := 2047

/-! ### Sending (08 R246, R249, R252, R253, R257, R259) -/

/-- The link management or time message that the next frame carries, when it carries no plan control flit. -/
def nextMsg (x : Port) : Cmsg × Port :=
  match x.msgs with
  | m :: t => (.link m, { x with msgs := t })
  | [] =>
    match x.timeMsgs with
    | m :: t => (.time m, { x with timeMsgs := t })
    | [] => (.none, x)

/-- A slot sent for a partition counts in LINK_TX_SLOTS, by its link VC (19 Table 19.3). -/
def State.countSlot (s : State) (n : Nat) : Slot → State
  | .empty => s
  | .word _ k _ => match s.jobSlot k.pkt.tag with
    | some j => if s.fld .SLOT_CFG_KIND j = 0 then s.countUp (s.fld .SLOT_CFG_PARTITION j) 0x0D k.lvc n 1 else s
    | none => s

/-- The half in use, and the lane that LNS carries. -/
def State.halfOf (s : State) (n : Nat) : Option Nat := if s.flag .LINK_STATUS_HALF n then some (s.fld .LINK_STATUS_HALF_UPPER n) else none
def State.darnOf (s : State) (n : Nat) : Option Nat := if s.flag .LINK_STATUS_DARNED n then some (s.fld .LINK_STATUS_DARN_LANE n) else none

/-- The frame as it goes out: ACK, ACK_V, NAK and FCNT take their current values, then CTAG and CRC (08 R249, R252, R257). -/
def Port.finish (x : Port) (f : Frame) : Frame :=
  let f := { f with ack := (x.expect + 4095) % 4096, ackV := x.ackV, nak := x.nakDue, fcnt := x.txCount % 4096 }
  let f := { f with ctag := frameTag x.txKey x.txCount f }
  { f with crc := frameCrc f }

/-- A frame has gone by in a direction: after 4,096 of them, each lane inserts its marker (08 R241). -/
def State.markSent (s : State) (n : Nat) : State :=
  let x := s.port n
  if 4096 ≤ x.txMark then
    (s.setPort n { x with txMark := 0, txBip := [] }).out (.marker n ((List.range 9).map (fun l => { lane := l, port := n, bip := x.txBip.getD l 0 })))
  else s

/-- Send a frame: the frame counter counts it, and the lanes' parities take in what they carry. -/
def State.emit (s : State) (n : Nat) (f : Frame) : State :=
  let x := s.port n
  let f := x.finish f
  let s := if x.nakDue then s.addFld .LINK_NAK_TX 1 n else s
  let s := f.slots.foldl (fun s w => s.countSlot n w) s
  let bip := addBip x.txBip (lanesBip (s.halfOf n) (s.darnOf n) (frameCode f))
  ((s.setPort n { x with txCount := x.txCount + 1, nakDue := false, txMark := x.txMark + 1, txBip := bip }).out (.frame n f)).markSent n

/-- An IDLE frame. -/
def State.sendIdle (s : State) (n : Nat) : State :=
  let (m, x) := nextMsg (s.port n)
  (s.setPort n x).emit n { idle := true, cmsg := m }

/-- A frame's 17 slots from the egress stream. -/
def takeSlots (l : List Slot) : List Slot := l.take 17 ++ List.replicate (17 - (l.take 17).length) .empty

/-- A new DATA frame: the next FSEQ, buffered for replay; the timer starts with the oldest unacknowledged frame. -/
def State.sendData (s : State) (n : Nat) : State :=
  let x := s.port n
  let f : TxFrame := { seq := x.nextSeq, slots := takeSlots x.egress, ctl := x.ctlQ.head? }
  let x := { x with nextSeq := (x.nextSeq + 1) % 4096, egress := x.egress.drop 17, ctlQ := x.ctlQ.tail, unacked := x.unacked ++ [f],
                    timer := if x.unacked = [] then s.raw else x.timer }
  match f.ctl with
  | some c => (s.setPort n x).emit n { idle := false, fseq := f.seq, slots := f.slots, cmsg := .ctl c }
  | none =>
    let (m, x) := nextMsg x
    (s.setPort n x).emit n { idle := false, fseq := f.seq, slots := f.slots, cmsg := m }

/-- A lane stands declared failed and is not yet darned. -/
def State.undarned (s : State) (n : Nat) : Bool :=
  (s.port n).failed.any (fun i => !(s.flag .LINK_STATUS_DARNED n && s.fld .LINK_STATUS_DARN_LANE n = i)
    && !(s.flag .LINK_STATUS_HALF n && i / 4 ≠ s.fld .LINK_STATUS_HALF_UPPER n))

/-- The oldest frame's count has reached REPLAY_MAX (08 R253). -/
def State.replayedOut (s : State) (n : Nat) : Bool :=
  (s.port n).seqKind = .idle && !s.undarned n && (s.port n).unacked.head?.elim false (fun f => max 1 (s.fld .REPLAY_MAX n) ≤ f.replays)

/-- The next frame of a running replay. -/
def State.resend (s : State) (n : Nat) : State :=
  let x := s.port n
  match x.unacked[x.resent]? with
  | none => s
  | some f =>
    let last : Bool := x.resent + 1 = x.unacked.length
    let x := { x with unacked := x.unacked.set x.resent { f with replays := f.replays + 1 }, resent := x.resent + 1,
                      sender := if !last then .replay else if frameWindow ≤ x.unacked.length then .wait else .normal }
    let s := s.addFld .LINK_REPLAY_FRAMES 1 n
    let s := if last then s.setFld .LINK_STATUS_REPLAYING 0 n else s
    let s := match f.ctl with
      | some c => (s.setPort n x).emit n { idle := false, fseq := f.seq, slots := f.slots, cmsg := .ctl c }
      | none =>
        let (m, x) := nextMsg x
        (s.setPort n x).emit n { idle := false, fseq := f.seq, slots := f.slots, cmsg := m }
    if s.replayedOut n then s.fastRetrain n else s

/-- FRAME_SEND: the next frame of the train. In ALIGN it is IDLE; outside ALIGN and UP, and without LINK_TX, no frames are sent
(10 Table 10.1). -/
def State.frameSend (s : State) (n : Nat) : State :=
  let x := s.port n
  if !s.inRun then s
  else if s.linkState n = linkAlign then s.sendIdle n
  else if s.linkState n ≠ linkUp then s
  else match x.sender with
    | .replay => s.resend n
    | .normal => if (x.egress ≠ [] || x.ctlQ ≠ []) && x.unacked.length < frameWindow then
        let s := s.sendData n
        if frameWindow ≤ (s.port n).unacked.length then s.setPort n { s.port n with sender := .wait } else s
      else s.sendIdle n
    | .wait => s.sendIdle n
    | .retrain => s

def execFrameSend (n : Nat) (s : State) : Host.Outcome State Fault Refusal := .next (s.frameSend n)

/-! ### Receiving (08 R247 to R251, R257 to R261) -/

/-- The state of an outcome that is a next state. -/
def nextOr (s : State) : Host.Outcome State Fault Refusal → State
  | .next t => t
  | .fault _ => s
  | .refused _ => s

/-- A frame is discarded: the NAK rule. -/
def State.nakRule (s : State) (n : Nat) : State :=
  let x := s.port n
  if x.naked then s else s.setPort n { x with naked := true, nakDue := true }

/-- The stream rules of R243, from the packet in progress: its slots still to come. -/
def streamOk : Option (LPkt × Nat) → List Slot → Bool
  | _, [] => true
  | none, .empty :: t => streamOk none t
  | some _, .empty :: _ => false
  | none, .word k p _ :: t => k = 1 && pktLen p.pkt ≤ 16 && streamOk (if (pktSlots p).length = 1 then none else some (p, (pktSlots p).length - 1)) t
  | some (q, left), .word k p _ :: t =>
    p = q && k = (if left = 1 && p.isSealed then 3 else 2) && streamOk (if left = 1 then none else some (q, left - 1)) t

/-- A packet's last slot is in: an admitted packet stands in the ingress buffer. -/
def State.packetIn (s : State) (n : Nat) (k : LPkt) (ok : Bool) : State :=
  if ok then s.setPort n { s.port n with ingress := (s.port n).ingress ++ [k] } else s

/-- A HEAD: the packet belongs to a transfer that is being discarded, is admitted, or finds no room (08 R277, R278). A packet of a DRAINED
slot's tag that comes to stand in an ingress buffer takes the slot back to DRAINING (09 Table 9.1). -/
def State.headIn (s : State) (n : Nat) (p : LPkt) : State × Bool :=
  match (s.port n).dropIn.find? (fun d => d.key = xferKey p.pkt) with
  | some d => ((s.setPort n { s.port n with dropIn := dropLast (s.port n).dropIn p.pkt }).countDrops n d.counts 1, false)
  | none => if s.admits n p then (s.carriedIn n p, true) else (s.overrun n p, false)

/-- One slot of an accepted frame. -/
def State.takeSlot (s : State) (n : Nat) (w : Slot) : State :=
  match w with
  | .empty => s
  | .word _ p _ =>
    match (s.port n).rx with
    | some (q, left, ok) =>
      if left = 1 then (s.setPort n { s.port n with rx := none }).packetIn n q ok else s.setPort n { s.port n with rx := some (q, left - 1, ok) }
    | none =>
      let (s, ok) := s.headIn n p
      let left := (pktSlots p).length - 1
      if left = 0 then s.packetIn n p ok else s.setPort n { s.port n with rx := some (p, left, ok) }

/-- A plan control flit delivered with an accepted frame: an unassigned TYPE is counted (08 Table 8.14). -/
def State.ctlIn (s : State) (n : Nat) (f : CtlFlit) : State :=
  match f.type with
  | .report => nextOr s (execReportReceive n f s)
  | .hold => nextOr s (execHoldReceive n f s)
  | .release => nextOr s (execReleaseReceive n f s)
  | .faultStop => nextOr s (execFaultStopReceive n f s)
  | .other => s.addFld .LINK_PROTO_ERR 1 n

/-- A link management message by its OP (08 Table 8.7). -/
def State.linkMsgIn (s : State) (n : Nat) (m : LinkMsg) (rtt : Nat) : State :=
  match m.op with
  | 0x01 => nextOr s (execDarnReq n m s)
  | 0x02 => nextOr s (execDarnStart n m s)
  | 0x03 => nextOr s (execDarnAck n m s)
  | 0x04 => nextOr s (execDarnDone n m s)
  | 0x05 => nextOr s (execUndarnStart n m s)
  | 0x06 => nextOr s (execUndarnAck n m s)
  | 0x07 => nextOr s (execUndarnDone n m s)
  | 0x08 => nextOr s (execHalfStart n m s)
  | 0x09 => nextOr s (execHalfAck n m s)
  | 0x0A => nextOr s (execRttProbe n m s)
  | 0x0B => nextOr s (execRttEcho n m rtt s)
  | _ => s.addFld .LINK_PROTO_ERR 1 n

/-- A time protocol message by its OP (10 Table 10.5). -/
def State.timeMsgIn (s : State) (n : Nat) (m : TimeMsg) (stamp : Nat) : State :=
  match m.op with
  | 1 => s.timeMark n m.id stamp
  | 2 => s.txStamp n m
  | 3 => s.rxStamp n m
  | 4 => s.announce n m
  | 5 => s.todAIn n m
  | 6 => s.todBIn n m
  | 7 => s.asymIn n m
  | _ => s.addFld .LINK_PROTO_ERR 1 n

/-- Release the oldest k unacknowledged frames: the timer restarts; a replay goes on with what is left. -/
def State.release (s : State) (n k : Nat) : State :=
  if k = 0 then s
  else
    let x := s.port n
    let rest := x.unacked.drop k
    let caught : Bool := x.sender = .replay && rest.length ≤ x.resent - k
    let x := { x with unacked := rest, resent := x.resent - k, timer := s.raw,
                      sender := if x.sender = .wait || caught then .normal else x.sender }
    (if caught then s.setFld .LINK_STATUS_REPLAYING 0 n else s).setPort n x

/-- A frame's ACK and NAK (08 R249, R251). -/
def State.ackIn (s : State) (n : Nat) (f : Frame) : State :=
  let x := s.port n
  let age := (x.nextSeq + 4095 - f.ack % 4096) % 4096
  let future : Bool := f.ackV && frameWindow < age
  let s := if !f.ackV then s
    else if age < x.unacked.length then s.release n (x.unacked.length - age)
    else if future then s.addFld .LINK_PROTO_ERR 1 n
    else s
  if !f.nak then s
  else
    let s := s.addFld .LINK_NAK_RX 1 n
    let x := s.port n
    let running : Bool := x.sender = .replay && x.unacked.head?.elim false (fun g => g.seq = x.replayStart)
    if future || running then s else s.startReplay n

/-- A frame that passed: its ACK and NAK, and any message of kind 2 or 3. -/
def State.headerIn (s : State) (n : Nat) (f : Frame) (chk : FrameCheck) : State :=
  let s := s.ackIn n f
  match f.cmsg with
  | .link m => s.linkMsgIn n m chk.rtt
  | .time m => s.timeMsgIn n m chk.stamp
  | .ctl _ => s
  | .none => s

/-- A frame that fails only FCNT or CTAG: 16 in a row take the port DOWN (08 R258). -/
def State.tagFail (s : State) (n : Nat) : State :=
  let s := s.addFld .LINK_CTAG_FAIL 1 n
  let x := s.port n
  if 16 ≤ x.badRun + 1 then (s.linkError n E_LINK_HEADER_AUTH).leaveLink n linkDown
  else (s.setPort n { x with badRun := x.badRun + 1 }).nakRule n

/-- The next frame in order: its slots and plan control flit are delivered (08 R247). -/
def State.accept (s : State) (n : Nat) (f : Frame) : State :=
  let x := s.port n
  let s := s.setPort n { x with expect := (x.expect + 1) % 4096, ackV := true, naked := false }
  let s := f.slots.foldl (fun s w => s.takeSlot n w) s
  match f.cmsg with
  | .ctl c => s.ctlIn n c
  | _ => s

/-- A frame that passed its checks, by Table 8.5. In ALIGN the receiver has not begun: a DATA frame is dropped. -/
def State.goodFrame (s : State) (n : Nat) (f : Frame) (chk : FrameCheck) : State :=
  let x := s.port n
  let behind := (x.expect + 4096 - f.fseq % 4096) % 4096
  if f.idle || s.linkState n = linkAlign then s.headerIn n f chk
  else if behind = 0 then
    if streamOk (x.rx.map (fun r => (r.1, r.2.1))) f.slots then (s.accept n f).headerIn n f chk
    else (s.addFld .LINK_PROTO_ERR 1 n).nakRule n
  else if behind ≤ frameWindow then (s.addFld .LINK_DUP 1 n).headerIn n f chk
  else (s.nakRule n).headerIn n f chk

/-- The lane that carried symbol i: LNS for the darned lane (08 R240, R268). -/
def State.errLane (s : State) (n i : Nat) : Nat :=
  let d := symbolLane (s.halfOf n) i
  if s.darnOf n = some d then 8 else d

/-- Symbols corrected on each lane, LNS last. -/
def State.laneErrs (s : State) (n : Nat) (errs : List (Nat × Nat)) : List Nat :=
  (List.range 9).map (fun l => (errs.filter (fun e => s.errLane n e.1 = l)).length)

/-- RS(544,514) corrects up to 15 bad symbols (08 R240). -/
def fecOk (errs : List (Nat × Nat)) : Bool := errs.length ≤ 15

/-- The frame's codeword as it arrived, errors included. -/
def received (f : Frame) (errs : List (Nat × Nat)) : Nat := errs.foldl (fun a e => a ^^^ fieldAt (10 * e.1) 10 e.2) (frameCode f)

/-- A lane of a running port declares failure where `bad` says so. -/
def State.failLanes (s : State) (n : Nat) (bad : List Nat) : State := bad.foldl (fun s l => s.laneFail n l) s

/-- Corrected symbols in the window of LANE_FAIL_CFG: a lane with more than THRESH has failed. One window follows another (08 R269; log entry
84). -/
def State.laneWindow (s : State) (n : Nat) (errs : List Nat) : State :=
  let x := s.port n
  let passed := s.elapsed x.winAt (max 1 (s.fld .LANE_FAIL_CFG_WINDOW_US n) * 1000)
  let sums := (List.range 9).map (fun l => (if passed then 0 else x.winErr.getD l 0) + errs.getD l 0)
  let s := s.setPort n { x with winAt := if passed then s.raw else x.winAt, winErr := sums }
  s.failLanes n ((List.range 9).filter (fun l => s.fld .LANE_FAIL_CFG_THRESH n < sums.getD l 0 && (x.winErr.getD l 0 ≤ s.fld .LANE_FAIL_CFG_THRESH n || passed)))

/-- The marker that is due on a lane: the far end's lane and port, and the parity of what came in on the lane (08 R241). -/
def State.markerDue (s : State) (n l : Nat) : Marker :=
  { lane := if l = 8 then s.fld .LINK_POLARITY_LNS_FROM n else s.fld .LINK_LANE_MAP n / 16 ^ l % 16, port := s.fld .PEER_INFO_PORT n,
    bip := (s.port n).rxBip.getD l 0 }

/-- Lanes that carry frames: those of the half in use, but for the one that LNS carries, and LNS then. -/
def State.lanesUsed (s : State) (n : Nat) : List Nat :=
  (List.range 9).filter (fun l => if l = 8 then (s.darnOf n).isSome else (s.halfOf n).elim true (fun h => l / 4 = h) && s.darnOf n ≠ some l)

/-- After 4,096 frames: each lane's marker is compared; a lane with two in a row missing or wrong has failed (08 R269). -/
def State.marksIn (s : State) (n : Nat) (marks : List (Option Marker)) : State :=
  let x := s.port n
  if x.rxMark < 4096 then s
  else
    let bad := (List.range 9).map (fun l => if (s.lanesUsed n).contains l && marks.getD l none ≠ some (s.markerDue n l) then x.markBad.getD l 0 + 1 else 0)
    let failed := (List.range 9).filter (fun l => 2 ≤ bad.getD l 0)
    (s.setPort n { x with rxMark := 0, rxBip := [], markBad := bad.map (fun b => if 2 ≤ b then 0 else b) }).failLanes n failed

/-- What the lanes show while a frame comes in: corrected symbols, parities, markers (08 R241, R269). -/
def State.lanesIn (s : State) (n : Nat) (f : Frame) (chk : FrameCheck) : State :=
  let x := s.port n
  let s := s.setPort n { x with rxMark := x.rxMark + 1, rxBip := addBip x.rxBip (lanesBip (s.halfOf n) (s.darnOf n) (received f chk.errs)) }
  let errs := if fecOk chk.errs then s.laneErrs n chk.errs else []
  let s := errs.zipIdx.foldl (fun s e => s.addFld .LANE_ERR e.1 n e.2) (s.addFld .LINK_FEC_CORR errs.sum n)
  (s.laneWindow n errs).marksIn n chk.markers

/-- FRAME_RECEIVE: the checks in order: FEC, CRC, FCNT, CTAG (08 R247, R257, R258). What the lanes show is looked at last. -/
def State.frameReceive (s : State) (n : Nat) (f : Frame) (chk : FrameCheck) : State :=
  if s.linkState n ≠ linkUp && s.linkState n ≠ linkAlign then s
  else
    let x := s.port n
    let whole : Bool := fecOk chk.errs && f.crc = frameCrc f
    -- the counter of this frame; after a fast retrain it is taken from the first whole frame
    let cnt := if x.resync && whole then x.rxCount + (f.fcnt + 4096 - x.rxCount % 4096) % 4096 else x.rxCount
    let tagged : Bool := whole && !(f.fcnt % 4096 = cnt % 4096 && f.ctag = frameTag x.rxKey cnt f)
    let s := s.setPort n { x with rxCount := cnt + 1, resync := x.resync && !whole, badRun := if tagged then x.badRun else 0 }
    let s := if !fecOk chk.errs then (s.addFld .LINK_FEC_UNCORR 1 n).nakRule n
      else if !whole then (s.addFld .LINK_CRC_ERR 1 n).nakRule n
      else if tagged then s.tagFail n
      else s.goodFrame n f chk
    s.lanesIn n f chk

def execFrameReceive (n : Nat) (f : Frame) (chk : FrameCheck) (s : State) : Host.Outcome State Fault Refusal := .next (s.frameReceive n f chk)

end Sys2Proof.Machine
end

