-- ==== Sys2Proof/Machine/Hbm.lean ====
section
/-! DEFINITION. Machine/Hbm.lean: the HBM controllers: plan and host accesses, the snoop filter, refresh and rinse windows, scrubbing
and key changes (11). -/
namespace Sys2Proof.Machine
open Sys2Proof

/-! ### Stacks (11 Table 11.4) -/

/-- A stack enters a state; HBM_READY shows READY, RINSE and SELF_REFRESH (11 Table 11.5). -/
def State.setStackState (s : State) (n st : Nat) : State :=
  (s.setFld .HBM_STATUS_STATE st n).setBit .HBM_READY n (st = stackReady || st = stackRinse || st = stackSelfRefresh)

/-! ### Serving an access (11 R354, R356, R359, R365, R368, R369) -/

/-- A fabric request at its controller half. -/
def State.servePkt (s : State) (k : Pkt) (odecc : Nat) : State :=
  let n := nodeStack k.dstNode
  let p := k.part
  if s.stackState n = stackFailed then s.inject p { answer k .errorResp with code := E_HBM_TRAIN_FAIL }
  else if k.op = .memWrite then
    let s := s.hbmTake n k.addr k.data k.bad
    if !k.bad.any uncorrectable then s.inject p (answer k .ack) else s.inject p { answer k .errorResp with code := E_HBM_UNCORRECTABLE }
  else
    let found := s.hbmFound n k.addr k.len k.bad
    let s := (s.addFld .HBM_ODECC odecc n).hbmCount n k.addr found
    if found.any uncorrectable then s.inject p { answer k .errorResp with code := E_HBM_UNCORRECTABLE }
    else s.inject p { answer k .readResp with data := s.hbmRead n k.addr k.len }

/-- A slice's registers: instance the stack, element the slice of the stack. -/
def State.sliceOpen (s : State) (sl : Nat) : Bool := s.flag .HBM_SLICE_HDM_MODE (sl % 16) (sl / 16)
/-- The owning partition has a tenant key pair (11 R357, R359). -/
def State.sliceTenant (s : State) (sl : Nat) : Bool := (s.sliceOwner sl).elim false (fun p => s.bit .HBM_KEYS p)

/-- The request comes on a stream bound to the tenant of partition p (14 R449, R450). -/
def State.onBoundStream (s : State) (r : HdmReq) (p : Nat) : Bool :=
  r.tee && !s.host.memFailed && bankGet 0 s.host.ckids r.ckid = p + 1

/-- Table 11.3. -/
def State.hdmServed (s : State) (r : HdmReq) : Bool :=
  let sl := hdmSlice r.addr
  if s.sliceTenant sl then (s.sliceOwner sl).elim false (s.onBoundStream r) else s.sliceOpen sl

def allOnes : List Byte := List.replicate 64 0xFF

/-- A refused host request (11 R359). -/
def State.hdmDeny (s : State) (r : HdmReq) : State :=
  let s := ((s.addFld .HBM_HDM_DENY).setFld .HBM_HDM_DENY_INFO_SLICE (hdmSlice r.addr)).setFld .HBM_HDM_DENY_INFO_WRITE r.write.toNat
  let s := (s.setFld .HBM_HDM_DENY_INFO_VALID 1).recordFirst .HBM_G_ERROR_CODE .HBM_G_ERROR_MULTI E_HBM_HDM_DENIED
  if r.write then s else s.out (.hdmData r.addr allOnes false)

/-- The host keeps a line: it is listed, with room for it (`State.filterFull`); a slice that is being closed gets the line back at once
(11 R360). -/
def State.listLine (s : State) (n b : Nat) : State :=
  let line := b / 64
  let f := (s.filter n b).filter (fun e => e.1 ≠ line)
  let s := { s with snoop := bankSet [] s.snoop (snoopHalf n b) (f ++ [(line, false)]) }
  if s.hdmClosing.contains (sliceOf n b) then s.backInvalidate n line else s

/-- A host request that its slice serves. A write has its words decoded like any other (11 R356). -/
def State.serveHdm (s : State) (r : HdmReq) : State :=
  let n := hdmStack r.addr
  let b := hdmAddr r.addr
  if s.stackState n = stackFailed then (if r.write then s else s.out (.hdmData r.addr allOnes true))
  else
    let s := if r.caches then s.listLine n b else s
    if r.write then s.hbmTake n b r.data r.bad
    else
      let found := s.hbmFound n b 64 r.bad
      let s := (s.addFld .HBM_ODECC r.odecc n).hbmCount n b found
      let bad := found.any uncorrectable
      (if bad then s.raiseVector 2 else s).out (.hdmData r.addr (s.hbmRead n b 64) bad)

/-! ### Copies (14 R443) -/

/-- The copy in hand of a queue meets an error, which its completion carries (log entry 90). -/
def State.copyFails (s : State) (q code : Nat) : State :=
  match (s.queue q).cmd with
  | some c => s.setQueue q { s.queue q with cmd := some { c with code := if c.code = 0 then code else c.code } }
  | none => s

/-- A packet of a COPY_IN. -/
def State.serveCopyIn (s : State) (q n b : Nat) (data : List Byte) : State :=
  if s.stackState n = stackFailed then s.copyFails q E_HBM_TRAIN_FAIL else s.hbmTake n b data []

/-- A packet of a COPY_OUT: its bytes go to the host. -/
def State.serveCopyOut (s : State) (q n b len addr : Nat) : State :=
  if s.stackState n = stackFailed then s.copyFails q E_HBM_TRAIN_FAIL
  else
    let found := s.hbmFound n b len []
    let s := s.hbmCount n b found
    if found.any uncorrectable then s.copyFails q E_HBM_UNCORRECTABLE
    else s.out (.hostWrite addr (s.hbmRead n b len) (s.queueTee q))

/-! ### Order (11 R354) -/

def State.serve (s : State) : HbmAcc → State
  | .pkt k o => s.servePkt k o
  | .hdm r => s.serveHdm r
  | .copyIn q n b data => s.serveCopyIn q n b data
  | .copyOut q n b len addr => s.serveCopyOut q n b len addr

/-- Serve what can be served, in order; an access that meets one still waiting waits behind it. -/
def State.drainAcc (s : State) (still : List HbmAcc) : List HbmAcc → State × List HbmAcc
  | [] => (s, still)
  | a :: t =>
    if s.servable a && !still.any a.meets then (s.serve a).drainAcc still t else (s.recall a).drainAcc (still ++ [a]) t

/-- Let the accesses that wait at a stack go on. -/
def State.drainStack (s : State) (n : Nat) : State :=
  let l := (s.stack n).waiting
  let (s, still) := (s.setStack n { s.stack n with waiting := [] }).drainAcc [] l
  s.setStack n { s.stack n with waiting := still ++ (s.stack n).waiting }

/-- An access reaches its controller: it takes its place, and what can be served is served. -/
def State.hbmAccess (s : State) (a : HbmAcc) : State :=
  let n := a.place.1
  (s.setStack n { s.stack n with waiting := (s.stack n).waiting ++ [a] }).drainStack n

/-- HBM_WRITE_ARRIVE. -/
def execHbmWriteArrive (k : Pkt) (s : State) : Host.Outcome State Fault Refusal := .next (
  s.arriveAt (pktBlock { k with op := .memWrite }) { k with op := .memWrite } (fun s => s.hbmAccess (.pkt { k with op := .memWrite } 0)))

/-- HBM_READ_ARRIVE: `odecc` is the number of on-die ECC severity reports (11 R349). -/
def execHbmReadArrive (k : Pkt) (odecc : Nat) (s : State) : Host.Outcome State Fault Refusal :=
  .next (s.arriveAt (pktBlock { k with op := .memRead }) { k with op := .memRead } (fun s => s.hbmAccess (.pkt { k with op := .memRead } odecc)))

/-- HDM_REQUEST: the hole above the HBM (14 R433), the slice's rules, and the stack. Nothing is taken while the link does not carry
CXL.mem or the decoder is not committed (14 R424, R428). -/
def State.hdmRequest (s : State) (r : HdmReq) : State :=
  if !s.flag .HOST_LINK_MEM_ON || s.hostShut .host then s
  else if 1280000000000 ≤ r.addr then
    let s := s.addFld .HOST_HDM_HOLE
    if r.write then s else s.out (.hdmData r.addr allOnes false)
  else if s.hdmServed r then s.hbmAccess (.hdm r) else s.hdmDeny r

def execHdmRequest (r : HdmReq) (s : State) : Host.Outcome State Fault Refusal := .next (s.hdmRequest r)

/-- Slices whose last line is back become CLOSED (11 R360). -/
def State.finishClosing (s : State) : State :=
  s.hdmClosing.foldl (fun s sl =>
    if s.snoop.any (fun e => e.2.any (fun l => sliceOf (e.1 / 2) (l.1 * 64) = sl)) then s
    else { s.setFld .HBM_SLICE_HDM_MODE 0 (sl % 16) (sl / 16) with hdmClosing := s.hdmClosing.filter (fun x => x ≠ sl) }) s

/-- BACK_INVALIDATE_RESPONSE: the host gives line b of stack n back; a modified line is written (`data`), its words with the bad bytes they
arrive with (11 R356). -/
def State.backInvResp (s : State) (n b : Nat) (data : List Byte) (bad : List Nat) : State :=
  let f := s.filter n b
  if f.any (fun e => e.1 = b / 64 && e.2) then
    let s := { s with snoop := bankSet [] s.snoop (snoopHalf n b) (f.filter (fun e => e.1 ≠ b / 64)) }
    let s := if data = [] then s else s.hbmTake n (b / 64 * 64) data bad
    (s.drainStack n).finishClosing
  else s

def execBackInvalidateResponse (n b : Nat) (data : List Byte) (s : State) (bad : List Nat := []) : Host.Outcome State Fault Refusal :=
  .next (s.backInvResp n b data bad)

/-- HDM_MODE_WRITE: only host software writes it (11 R371). -/
def State.hdmMode (s : State) (party : Party) (sl : Nat) (open_ : Bool) : State :=
  if party = .mgmt then s
  else if open_ then { s.setFld .HBM_SLICE_HDM_MODE 1 (sl % 16) (sl / 16) with hdmClosing := s.hdmClosing.filter (fun x => x ≠ sl) }
  else if !s.sliceOpen sl then s
  else
    let lines := s.snoop.flatMap (fun e => (e.2.filter (fun l => sliceOf (e.1 / 2) (l.1 * 64) = sl)).map (fun l => (e.1 / 2, l.1)))
    let s := lines.foldl (fun s l => s.backInvalidate l.1 l.2) s
    { s with hdmClosing := s.hdmClosing.filter (fun x => x ≠ sl) ++ [sl] }.finishClosing

def execHdmModeWrite (party : Party) (sl : Nat) (open_ : Bool) (s : State) : Host.Outcome State Fault Refusal := .next (s.hdmMode party sl open_)

/-! ### Refresh and rinse windows (11 R361 to R365) -/

/-- Refresh interval in ns. -/
def State.refreshNs (s : State) (n : Nat) : Nat := if s.flag .HBM_STATUS_REFRESH_X2 n then 1920 else 3840

/-- REFRESH_WINDOW: it opens at its instant of F, not inside a rinse window. What waited for a window that is over is served. -/
def State.refreshWindow (s : State) (n pc : Nat) : State :=
  if s.stackState n = stackReady && s.now / 64 % s.refreshNs n = 120 * pc % s.refreshNs n then
    (s.setStack n { s.stack n with refresh := bankSet 0 (s.stack n).refresh pc (s.raw + 1) }).drainStack n
  else s

def execRefreshWindow (n pc : Nat) (s : State) : Host.Outcome State Fault Refusal := .next (s.refreshWindow n pc)

/-- HBM_TEMP_CROSS: the stack is at `c` °C. -/
def State.hbmTemp (s : State) (n c : Nat) : State :=
  let s := s.setFld .HBM_STATUS_TEMP_C c n
  if 85 ≤ c then s.setFld .HBM_STATUS_REFRESH_X2 1 n else if c < 82 then s.setFld .HBM_STATUS_REFRESH_X2 0 n else s

def execHbmTempCross (n c : Nat) (s : State) : Host.Outcome State Fault Refusal := .next (s.hbmTemp n c)

/-- RINSE_WINDOW_START: at its instant of F, taken in whole ns as for R361, the stack closes; one in self-refresh skips it (11 R364). -/
def State.rinseStart (s : State) (n : Nat) : State :=
  if s.stackState n = stackReady && s.now / 64 % 100000000 = n * 6250000 then (s.setStackState n stackRinse).addFld .HBM_RINSES 1 n else s

def execRinseWindowStart (n : Nat) (s : State) : Host.Outcome State Fault Refusal := .next (s.rinseStart n)

/-- A stack becomes FAILED (11 R365). -/
def State.stackFail (s : State) (n : Nat) : State :=
  let s := (s.setStackState n stackFailed).recordValid .HBM_ERROR_CODE .HBM_ERROR_MULTI .HBM_ERROR_VALID E_HBM_TRAIN_FAIL n
  let s := (List.range 16).foldl (fun s p =>
    if (List.range 16).any (fun j => s.sliceOwner (16 * j + n) = some p) then s.forceFault p E_HBM_TRAIN_FAIL else s) s
  (s.assertFaultN.raiseVector 2).drainStack n

/-- The check of a pseudo-channel's adjustment. -/
def State.rinseCheck (s : State) (n pc : Nat) (ok : Bool) : State :=
  let x := s.stack n
  if ok then (s.setStack n { x with fails := bankSet 0 x.fails pc 0 }).setBit .HBM_PC_FAIL pc false n
  else ((s.setStack n { x with fails := bankSet 0 x.fails pc (bankGet 0 x.fails pc + 1) }).setBit .HBM_PC_FAIL pc true n).addFld .HBM_RINSE_FAILS 1 n

/-- RINSE_WINDOW_END: the pseudo-channels adjusted in this window, in order, and whether each passed its check. -/
def State.rinseEnd (s : State) (n : Nat) (checks : List (Nat × Bool)) : State :=
  if s.stackState n ≠ stackRinse then s
  else
    let s := checks.foldl (fun s c => s.rinseCheck n c.1 c.2) s
    let next := match checks.find? (fun c => !c.2) with
      | some c => c.1
      | none => match checks.getLast? with
        | some c => (c.1 + 1) % 32
        | none => s.fld .HBM_STATUS_RINSE_NEXT n
    let s := s.setFld .HBM_STATUS_RINSE_NEXT next n
    if (s.stack n).fails.any (fun e => 8 ≤ e.2) then s.stackFail n else (s.setStackState n stackReady).drainStack n

def execRinseWindowEnd (n : Nat) (checks : List (Nat × Bool)) (s : State) : Host.Outcome State Fault Refusal := .next (s.rinseEnd n checks)

/-! ### Scrubbing (11 R367) -/

/-- Words of a stack. -/
def stackWords : Nat := 2500000000

/-- HBM_SCRUB_READ: word w of stack n, while its pseudo-channel is idle and outside refresh and rinse windows; `odecc` as for a read (11 R349).
-/
def State.hbmScrub (s : State) (n w found odecc : Nat) : State :=
  let pc := pseudoCh (w * 32)
  if !s.flag .HBM_SCRUB_EN n || s.stackState n ≠ stackReady || !s.chanServes n pc || (s.stack n).waiting.any (fun a => pseudoCh a.place.2.1 = pc) then s
  else
    let x := s.stack n
    let s := s.addFld .HBM_ODECC odecc n
    let whole : Bool := stackWords ≤ x.scrubbed + 1
    let s := s.setStack n { x with scrubbed := if whole then 0 else x.scrubbed + 1 }
    let s := if whole then s.addFld .HBM_SCRUB_PASSES 1 n else s
    let g := hbmWord n (w * 32)
    let bad := max (bankGet 0 s.hbmBad g) found
    let s := { s with hbmBad := bankSet 0 s.hbmBad g bad }
    if uncorrectable bad then s.hbmUe n (w * 32)
    else if correctable bad then { s with hbmFix := s.hbmFix.filter (fun y => y ≠ g) ++ [g] }.addFld .HBM_CE 1 n
    else s

def execHbmScrubRead (n w found : Nat) (s : State) (odecc : Nat := 0) : Host.Outcome State Fault Refusal := .next (s.hbmScrub n w found odecc)

/-- HBM_SCRUB_WRITEBACK. -/
def State.hbmWriteback (s : State) (n w : Nat) : State :=
  let g := hbmWord n (w * 32)
  if s.hbmFix.contains g then { s with hbmFix := s.hbmFix.filter (fun y => y ≠ g), hbmBad := bankSet 0 s.hbmBad g 0 } else s

def execHbmScrubWriteback (n w : Nat) (s : State) : Host.Outcome State Fault Refusal := .next (s.hbmWriteback n w)

/-! ### Key changes (11 R357) -/

/-- HBM_KEY_SWITCH. -/
def execHbmKeySwitch (p : Nat) (s : State) : Host.Outcome State Fault Refusal := .next (s.hbmKeySwitch p)

end Sys2Proof.Machine
end

