-- ==== Sys2Proof/Machine/Host.lean ====
section
/-! DEFINITION. Machine/Host.lean: the host link, configuration space, queues and commands, DOE and IDE (14). -/
namespace Sys2Proof.Machine
open Sys2Proof

/-! ### Link (14 R423, R424) -/

/-- The modes of Table 14.1 from the top: HOST_LINK.MODE and RATE. -/
def hostModes : List (Nat × Nat) :=
  [(7, 7), (6, 6), (5, 6), (4, 6), (3, 5), (2, 5), (1, 7), (1, 6), (1, 5), (1, 4), (1, 3), (1, 2), (1, 1)]

/-- The widest of ×16 to ×1 that so many lanes carry; 0 for none. -/
def hostWidth (lanes : Nat) : Nat := ([16, 8, 4, 2, 1].find? (fun w => w ≤ lanes)).getD 0

/-- The mode carries CXL.mem. -/
def carriesMem (mode : Nat) : Bool := 4 ≤ mode

def State.setHostLink (s : State) (mode rate width : Nat) : State :=
  let s := ((s.setFld .HOST_LINK_MODE mode).setFld .HOST_LINK_RATE rate).setFld .HOST_LINK_WIDTH width
  let s := s.setFld .HOST_LINK_FLIT (if 2 ≤ mode || 6 ≤ rate then 1 else 0)
  let s := s.setFld .HOST_LINK_CACHE_ON (if 2 ≤ mode then 1 else 0)
  let s := s.setFld .HOST_LINK_MEM_ON (if carriesMem mode && s.host.hdmMapped then 1 else 0)
  { s with host := { s.host with downAt := if mode = 0 then (if s.host.downAt = 0 then s.raw + 1 else s.host.downAt) else 0 } }

/-- HOST_LINK_TRAIN: the host port offers some modes, each with the lanes that train at its rate; the strap must permit the mode. With
none the link is down. -/
def State.hostTrain (s : State) (offers : List (Nat × Nat × Nat)) : State :=
  let ok : Nat × Nat → Option (Nat × Nat × Nat) := fun m => offers.find? (fun o => o.1 = m.1 && o.2.1 = m.2 && 0 < o.2.2 && (m.1 = 1 || s.fld .STRAP_READ_HOST_MODE = 0))
  match hostModes.filterMap ok with
  | o :: _ => s.setHostLink o.1 o.2.1 (hostWidth o.2.2)
  | [] => s.setHostLink 0 0 0

def execHostLinkTrain (offers : List (Nat × Nat × Nat)) (s : State) : Host.Outcome State Fault Refusal := .next (s.hostTrain offers)

/-! ### Configuration space (14 R426, R427, R430, R431, R440) -/

/-- INT_MODE follows the MSI and MSI-X enables (14 R446, Table 14.13). -/
def State.setIntMode (s : State) : State := s.setFld .INT_MODE (if s.host.msixOn then 2 else if s.host.msiOn then 1 else 0)

/-- The dwords whose content the spec gives (14 Tables 14.3, 14.4); in ROM recovery every BAR reads as not implemented (R431). -/
def State.configRead (s : State) (off : Nat) : Nat :=
  let rom := s.thimble.romRecovery
  if rom && 0x010 ≤ off && off < 0x028 then 0
  else match off with
  | 0x000 => 0x1D9F + (if rom then 0x641F else 0x6416) * 2 ^ 16
  | 0x008 => 0xB0 + 0x120000 * 2 ^ 8
  | 0x02C => Config.subsystem % 2 ^ 32
  | 0x14C => ownKeyId % 2 ^ 32
  | 0x150 => ownKeyId / 2 ^ 32 % 2 ^ 32
  | 0x5A8 => 0x6416 + 0xB0 * 2 ^ 16 + (if rom then 2 ^ 24 else 0)
  | _ => Config.configSpace off (bankGet 0 s.host.config off) % 2 ^ 32

/-- Writes with an effect that the spec gives: Bus Master Enable, the power state, the MSI and MSI-X enables (their places in their
capabilities are PCIe's, log entry 39). -/
def State.configWrite (s : State) (off v : Nat) : State :=
  let s := { s with host := { s.host with config := bankSet 0 s.host.config off (v % 2 ^ 32) } }
  match off with
  | 0x004 => { s with host := { s.host with busMaster := v.testBit 2 } }
  | 0x044 => { s with host := { s.host with d3 := v % 4 = 3 } }
  | 0x050 => ({ s with host := { s.host with msiOn := v.testBit 16 } }).setIntMode
  | 0x0B0 => ({ s with host := { s.host with msixOn := v.testBit 31 } }).setIntMode
  | _ => s

/-- CONFIG_REQUEST: retry status until the boot base has committed; in ROM recovery the function enumerates (R430, R431). -/
def State.configRequest (s : State) (write : Bool) (off v : Nat) : State :=
  if s.fld .HOST_LINK_MODE = 0 then s
  else if !s.host.ready && !s.thimble.romRecovery then s.out (.config true 0)
  else if write then (s.configWrite off v).out (.config false 0)
  else s.out (.config false (s.configRead off))

def execConfigRequest (write : Bool) (off v : Nat) (s : State) : Host.Outcome State Fault Refusal := .next (s.configRequest write off v)

/-- BAR_ACCESS_ERROR (14 R434). -/
def execBarAccessError (read : Bool) (s : State) : Host.Outcome State Fault Refusal :=
  let s := s.hostError E_HOST_ACCESS
  .next (if read then s.out (.readData .host 0) else s)

/-- HDM_DECODER_COMMIT (14 R428, R433). -/
def rangeOneSize : Nat := 1280168689664
def execHdmDecoderCommit (ways size : Nat) (s : State) : Host.Outcome State Fault Refusal :=
  let ok : Bool := ways = 1 && size = rangeOneSize
  if s.hostShut .host then .next s else
  let s := { s with host := { s.host with hdmMapped := s.host.hdmMapped || ok, hdmErr := !ok } }
  .next (s.setFld .HOST_LINK_MEM_ON (if carriesMem (s.fld .HOST_LINK_MODE) && s.host.hdmMapped then 1 else 0))

/-- GET_TIMESTAMP: the time of day S (14 R428). -/
def execGetTimestamp (s : State) : Host.Outcome State Fault Refusal := .next (s.out (.mailbox (some (s.todOf s.now))))
/-- SET_TIMESTAMP is refused (14 R428). -/
def execSetTimestamp (s : State) : Host.Outcome State Fault Refusal := .next (s.out (.mailbox none))

/-! ### Queues (14 R437 to R440, R447) -/

/-- DOORBELL_WRITE (14 R437). -/
def State.doorbell (s : State) (q idx : Nat) : State :=
  let i := idx % 65536
  let pi := s.fld .Q_INDEX_PI q
  let ci := s.fld .Q_INDEX_CI q
  let fwd := if qIsRes q then (i + 65536 - ci) % 65536 else (i + 65536 - pi) % 65536
  let used := if qIsRes q then (pi + 65536 - i) % 65536 else (i + 65536 - ci) % 65536
  if s.qSize q < fwd || s.qSize q < used then (s.setFld .Q_STATUS_DB_ERR 1 q).queueError q E_HOST_DOORBELL
  else s.setFld (if qIsRes q then .Q_INDEX_CI else .Q_INDEX_PI) i q

def execDoorbellWrite (q idx : Nat) (s : State) : Host.Outcome State Fault Refusal := .next (if s.hostShut .host then s else s.doorbell q idx)

/-- SHADOW_WRITE: the device's own index as 8 bytes, at most once per microsecond; then the queue's interrupt (14 R438). -/
def State.shadowWrite (s : State) (q : Nat) : State :=
  let x := s.queue q
  if !x.shadowDue || !s.dma || !(x.shadowAt = 0 || s.elapsed (x.shadowAt - 1) 1000) then s
  else
    let i := s.fld (if qIsRes q then .Q_INDEX_PI else .Q_INDEX_CI) q
    let s := (s.out (.hostWrite (s.shadowAddr q) (leBytes 8 i) (s.queueTee q))).setQueue q { x with shadowDue := false, shadowAt := s.raw + 1, irqDue := false }
    if x.irqDue then s.raiseVector (qVector q) else s

def execShadowWrite (q : Nat) (s : State) : Host.Outcome State Fault Refusal := .next (s.shadowWrite q)

/-- A configuration write of a queue that is not carried out (14 R439, R450). -/
def State.cfgReject (s : State) (q : Nat) : State := (s.setFld .Q_STATUS_CFG_REJECT 1 q).queueError q E_HOST_QUEUE_CFG

/-- The party may configure the queue: the host, on the bound stream when the queue is bound; BAR2 is closed to the management agent
(14 R434, R450). -/
def State.mayCfg (s : State) (party : Party) (q : Nat) : Bool := !s.flag .Q_STATUS_BOUND q || party = .bound

def cfgSize (v : Nat) : Nat := v / 2 % 16
def State.putCfg (s : State) (q v : Nat) : State :=
  ((s.setFld .Q_CFG_SIZE_LOG2 (cfgSize v) q).setFld .Q_CFG_COHERENT (v / 32 % 2) q).setFld .Q_CFG_IRQ_EN (v / 64 % 2) q

/-- QUEUE_ENABLE: a Q_CFG write with ENABLE = 1 (14 R439). -/
def State.queueEnable (s : State) (party : Party) (q v : Nat) : State :=
  if party = .mgmt then s
  else if !s.mayCfg party q then s.cfgReject q
  else if s.qState q = qDisabled then
    if cfgSize v < 4 then s.cfgReject q
    else
      let s := ((s.putCfg q v).setFld .Q_CFG_ENABLE 1 q).setQueue q {}
      ((s.setFld .Q_INDEX_PI 0 q).setFld .Q_INDEX_CI 0 q).setFld .Q_STATUS_STATE qRunning q
  else if s.qState q = qStopping then (s.setFld .Q_CFG_ENABLE 1 q).setQueue q { s.queue q with restart := true }
  else s.cfgReject q

def execQueueEnable (party : Party) (q v : Nat) (s : State) : Host.Outcome State Fault Refusal := .next (s.queueEnable party q v)

/-- A fetch or a command of the queue is in progress. -/
def State.queueBusy (s : State) (q : Nat) : Bool :=
  if qIsCmd q then (s.queue q).cmd.isSome || (s.qUsed q ≠ 0 && s.dma)
  else if qIsReq q then s.qUsed q ≠ 0 && s.dma && !s.storeFull (qPart q)
  else false

/-- QUEUE_DISABLE: a Q_CFG write with ENABLE = 0 of a queue that is not DISABLED (14 R439). -/
def State.queueDisable (s : State) (party : Party) (q : Nat) : State :=
  if party = .mgmt then s
  else if !s.mayCfg party q then s.cfgReject q
  else if s.qState q = qDisabled then s
  else
    let idle : Bool := s.qState q = qError || !s.queueBusy q
    let s := ((s.setFld .Q_CFG_ENABLE 0 q).setFld .Q_STATUS_STATE qStopping q).setQueue q { s.queue q with restart := false }
    if idle then s.queueSettle q else s

def execQueueDisable (party : Party) (q : Nat) (s : State) : Host.Outcome State Fault Refusal := .next (s.queueDisable party q)

/-- Q_CFG_WRITE: the other fields, only while the queue is DISABLED (14 R439). -/
def State.queueCfg (s : State) (party : Party) (q v : Nat) : State :=
  if party = .mgmt then s
  else if !s.mayCfg party q || s.qState q ≠ qDisabled || cfgSize v < 4 then s.cfgReject q
  else s.putCfg q v

def execQCfgWrite (party : Party) (q v : Nat) (s : State) : Host.Outcome State Fault Refusal := .next (s.queueCfg party q v)

/-- RES_IRQ_TIMER (14 R447). -/
def State.resTimer (s : State) (q : Nat) : State :=
  let x := s.queue q
  let d := s.fld .Q_IRQ_DELAY_US q
  if qIsRes q && s.flag .Q_CFG_IRQ_EN q && d ≠ 0 && x.oldest ≠ 0 && s.elapsed (x.oldest - 1) (d * 1000) then
    (s.setQueue q { x with unsignalled := 0, oldest := 0 }).queueIrq q
  else s

def execResIrqTimer (q : Nat) (s : State) : Host.Outcome State Fault Refusal := .next (s.resTimer q)

/-! ### Commands (14 R441 to R443) -/

/-- A command completes: bytes 0x30 to 0x3F of its entry are written, CI advances, the vector is raised when asked for or on failure
(14 R441, Table 14.7). -/
def State.completeCmd (s : State) (q : Nat) (flags code : Nat) : State :=
  let i := s.fld .Q_INDEX_CI q
  let phase := 1 + i / s.qSize q % 2
  let s := s.out (.hostWrite (s.qAddr q i + 0x30) (leBytes 2 code ++ leBytes 1 (if code = 0 then 0 else 1) ++ leBytes 1 phase ++ List.replicate 12 0) (s.queueTee q))
  let s := ((s.addFld .Q_INDEX_CI 1 q).setQueue q { s.queue q with cmd := none }).indexMoved q
  let s := if s.flag .Q_CFG_IRQ_EN q && (flags.testBit 0 || code ≠ 0) then s.queueIrq q else s
  s.queueSettle q

/-- A command entry: its fields, and whether its opcode is assigned and its reserved fields are zero (14 Table 14.7). -/
def parseCmd (b : List Byte) : HostCmd × Bool :=
  let f := descField b
  ({ op := f 0 1, flags := f 1 1, id := f 4 4, addr := f 8 8, size := f 0x10 8, hbm := f 0x18 8 },
   f 0 1 ≤ 4 && f 1 1 < 2 && f 2 2 = 0 && f 0x20 16 = 0)

/-- QUEUE_FETCH_DONE: a fetch ends, for a CMD queue with its entry (14 R440, R441). -/
def State.fetchDone (s : State) (q : Nat) (ok : Bool) (entry : List Byte) : State :=
  if qIsRes q || s.qUsed q = 0 || !s.dma || !(s.qState q = qRunning || s.qState q = qStopping) || (s.queue q).cmd.isSome then s
  else if !ok then s.queueToError q E_HOST_FETCH
  else if qIsCmd q then
    let (c, good) := parseCmd entry
    if good then s.setQueue q { s.queue q with cmd := some c } else s.completeCmd q c.flags E_HOST_BAD_CMD
  else s

def execQueueFetchDone (q : Nat) (ok : Bool) (entry : List Byte) (s : State) : Host.Outcome State Fault Refusal := .next (s.fetchDone q ok entry)

/-- The command in hand of a CMD queue, when it has this opcode and has not begun. -/
def State.cmdOf (s : State) (q op : Nat) : Option HostCmd :=
  if qIsCmd q && s.dma then (s.queue q).cmd.filter (fun c => c.op = op && !c.begun) else none

/-- A command with an effect that takes time has begun. -/
def State.beginCmd (s : State) (q : Nat) (c : HostCmd) : State := s.setQueue q { s.queue q with cmd := some { c with begun := true } }

/-- NOP. -/
def State.nopCmd (s : State) (q : Nat) : State :=
  match s.cmdOf q 0 with
  | some c => s.completeCmd q c.flags 0
  | none => s

def execNop (q : Nat) (s : State) : Host.Outcome State Fault Refusal := .next (s.nopCmd q)

/-- Check 1 of Table 14.9. -/
def State.loadStateOk (s : State) (p : Nat) : Bool :=
  s.partExists p && (s.pstate p = .idle || s.pstate p = .loaded) && !s.clearing p
    && !(s.fld .ARM_STATUS_STATE = armApplying && s.bit .ARM_SCOPE p)

/-- Check 4 of Table 14.9 for an image. -/
def State.imageFits (s : State) (p : Nat) (i : PlanImage) : Bool :=
  let s := s.setFld .PLAN_JOB_TAG i.jobTag p
  i.cores.all (fun c => c.core < 6144 && s.corePart c.core = p && c.prog.length ≤ 16384
      && c.prm.all (fun e => e.1 < 64)
      && c.handles.all (fun e => e.1 < s.fld .ARM_PART_LIMITS_HANDLES p && !s.handleRefused p e.1 e.2)
      && c.windows.all (fun e => e.1 < s.fld .ARM_PART_LIMITS_WINDOWS p && !s.windowRefused p e.1 e.2)
      && c.decls.all (fun e => e.1 < 256 && !declRefused e.2))
    && i.barRanks.all (fun e => e.1 < 32 && e.2 % 2 ^ 16 ≤ e.2 / 2 ^ 16 % 2 ^ 16)

/-- Check 4 of Table 14.9 for the resident image: entries in force within the Armature limits. -/
def State.residentFits (s : State) (p : Nat) : Bool :=
  (s.partCores p).all (fun e => e.2.handles.all (fun h => !s.handleRefused p h.1 h.2) && e.2.windows.all (fun w => !s.windowRefused p w.1 w.2))

/-- Checks 5 to 7 of Table 14.9. -/
def State.loadTail (s : State) (p ports tag table maxBlocks : Nat) : Nat :=
  if (bitsOf ports 32).any (fun n => !s.bit .ARM_PART_PORTS n p) then E_ARM_PORT_NOT_OWNED
  else if !(match s.runSlot p with
      | some j => s.fld .SLOT_STATUS_STATE j = slotActive && s.fld .SLOT_CFG_JOB_TAG j = tag && (bitsOf ports 32).all (fun n => (s.slotPorts j).testBit n)
      | none => false) then E_ROUTE_NO_JOB
  else if !s.kvRegionOk p table maxBlocks then E_SRV_CONFIG
  else 0

/-- The checks of Table 14.9 in order; 0 when they pass. -/
def State.loadFullCode (s : State) (p : Nat) (i : PlanImage) : Nat :=
  if !s.loadStateOk p then E_HOST_STATE
  else if !i.fetched then E_HOST_FETCH
  else if !i.valid || !s.imageFits p i then E_HOST_IMAGE
  else s.loadTail p i.exchangePorts i.jobTag i.kvTable i.maxBlocks

def State.loadResidentCode (s : State) (p : Nat) : Nat :=
  if !s.loadStateOk p then E_HOST_STATE
  else if !(s.part p).resident then E_HOST_NO_IMAGE
  else if !s.residentFits p then E_HOST_IMAGE
  else s.loadTail p (s.fld .EXCHANGE_PORTS p) (s.fld .PLAN_JOB_TAG p) (s.kvTable p) (s.fld .SRV_KV_CFG_MAX_BLOCKS_PER_SEQ p)

/-- A refused load sets CMD_REJECT, and is recorded where its code's chapter says (02 R61, 09 R291, 13 R421; 14 R442). -/
def State.loadRefused (s : State) (p tag code : Nat) : State :=
  let s := s.cmdReject p
  if code = E_ARM_PORT_NOT_OWNED then s.armError code
  else if code = E_ROUTE_NO_JOB then s.routeError code tag 0
  else if code = E_SRV_CONFIG then s.srvError p code
  else s

/-- Entries of a table from a list. -/
def tableOf (l : List (Nat × Nat)) : List (Nat × Nat) := l.foldl (fun b e => bankSet 0 b e.1 e.2) []

/-- What a full load writes into a core. -/
def State.loadCore (s : State) (c : CoreImage) : State :=
  let s := s.setCore c.core { s.core c.core with prog := c.prog, handles := tableOf c.handles, windows := tableOf c.windows, decls := tableOf c.decls }
  let s := c.prm.foldl (fun s e => s.setFld .PRM e.2 c.core e.1) s
  (s.setFld .ARITH_TRAP c.trap c.core).setMembers c.core (c.members % 2 ^ 32)

/-- What either load does (14 R442; 06 R190; 20 R571): sync state and ND counts at zero, no report received, LOADED. -/
def State.becomeLoaded (s : State) (p : Nat) : State :=
  let s := ((s.zeroSync p).setFld64 .ND_EVENTS_LO .ND_EVENTS_HI 0 p).setFld .ND_FIRST_TICK 0 p
  (s.setPart p { s.part p with reported := [], completed := 0 }).setPState p .loaded

/-- What a full load writes (14 R442). Cores that the image does not list hold nothing (log entry 12). -/
def State.loadImage (s : State) (p : Nat) (i : PlanImage) : State :=
  let s := (s.partCores p).foldl (fun s e => (s.setCore e.1 { e.2 with prog := [], handles := [], windows := [], decls := [] })) s
  let fs : List Fld := [.PRM, .ARITH_TRAP, .BARRIER_MEMBER]
  let s := s.dropFlds (fun f g => fs.any (fun x => x.code = f) && s.corePart g = p)
  let s := s.dropFlds (fun f b => (f = Fld.BAR_RANKS_RANK_LO.code || f = Fld.BAR_RANKS_RANK_HI.code) && b / 32 = p)
  let s := i.cores.foldl State.loadCore s
  let s := i.barRanks.foldl (fun s e => (s.setFld .BAR_RANKS_RANK_LO (e.2 % 2 ^ 16) (p * 32 + e.1)).setFld .BAR_RANKS_RANK_HI (e.2 / 2 ^ 16) (p * 32 + e.1)) s
  let s := s.setPart p { s.part p with arrivals := i.arrivals.map (fun a => { tick := a.1, core := a.2.1, counter := a.2.2.1, target := a.2.2.2 }), resident := true, digest := i.digest }
  let s := (s.setFld .EXCHANGE_PORTS i.exchangePorts p).setFld .PLAN_JOB_TAG i.jobTag p
  let s := ((s.setFld .SRV_CFG_LAG i.lag p).setFld .SRV_KV_CFG_BLOCK_LOG2 i.blockLog2 p).setFld .SRV_KV_CFG_MAX_BLOCKS_PER_SEQ i.maxBlocks p
  let s := ((s.setFld .SRV_KV_BLOCKS i.kvBlocks p).setFld64 .SRV_KV_TABLE_LO .SRV_KV_TABLE_HI i.kvTable p).setFld .SRV_VOCAB i.vocab p
  let s := ((s.setFld .ND_CTRL_OVERFLOW_DROP (i.ndCtrl % 2) p).setFld .ND_CTRL_DROP_LO (i.ndCtrl / 2 ^ 8 % 256) p).setFld .ND_CTRL_DROP_HI (i.ndCtrl / 2 ^ 16 % 256) p
  s.becomeLoaded p

/-- LOAD_FULL: the command in hand loads an image (14 R442). -/
def State.loadFull (s : State) (q : Nat) (i : PlanImage) : State :=
  match s.cmdOf q 1 with
  | none => s
  | some c =>
    let code := s.loadFullCode q i
    if code = 0 then (s.loadImage q i).beginCmd q c else (s.loadRefused q i.jobTag code).completeCmd q c.flags code

def execLoadFull (q : Nat) (i : PlanImage) (s : State) : Host.Outcome State Fault Refusal := .next (s.loadFull q i)

/-- LOAD_RESIDENT (14 R442; 03 R81). -/
def State.loadResident (s : State) (q : Nat) : State :=
  match s.cmdOf q 2 with
  | none => s
  | some c =>
    let code := s.loadResidentCode q
    if code = 0 then (s.becomeLoaded q).beginCmd q c else (s.loadRefused q (s.fld .PLAN_JOB_TAG q) code).completeCmd q c.flags code

def execLoadResident (q : Nat) (s : State) : Host.Outcome State Fault Refusal := .next (s.loadResident q)

/-- The checks of a copy (14 R443): sizes, the footprint (11 R353), tenant slices, which are all of the partition's or none. -/
def State.copyCode (s : State) (q : Nat) (c : HostCmd) : Nat :=
  if c.size % 32 ≠ 0 || c.size < 32 || 2 ^ 32 < c.size || c.addr % 32 ≠ 0 then E_HOST_BAD_CMD
  else if s.hbmCode q c.hbm c.size ≠ 0 then E_HBM_RANGE
  else if s.bit .HBM_KEYS q && !s.flag .Q_STATUS_BOUND q then E_HOST_COPY_DENIED
  else 0

/-- COPY_IN: the bytes fetched go to the partition's HBM in packets (14 R443, 11 R354). -/
def State.copyIn (s : State) (q : Nat) (data : List Byte) : State :=
  match s.cmdOf q 3 with
  | none => s
  | some c =>
    let code := s.copyCode q c
    if code = 0 then (s.hbmPieces q c.hbm (data.take c.size).length).foldl (fun s x =>
        s.hbmAccess (.copyIn q x.2.2.1 x.2.2.2 ((data.drop x.1).take x.2.1))) (s.beginCmd q c)
    else s.completeCmd q c.flags code

def execCopyIn (q : Nat) (data : List Byte) (s : State) : Host.Outcome State Fault Refusal := .next (s.copyIn q data)

/-- COPY_OUT: the packets read go to host memory (14 R443, 11 R354). -/
def State.copyOut (s : State) (q : Nat) : State :=
  match s.cmdOf q 4 with
  | none => s
  | some c =>
    let code := s.copyCode q c
    if code = 0 then (s.hbmPieces q c.hbm c.size).foldl (fun s x =>
        s.hbmAccess (.copyOut q x.2.2.1 x.2.2.2 x.2.1 (c.addr + x.1))) (s.beginCmd q c)
    else s.completeCmd q c.flags code

def execCopyOut (q : Nat) (s : State) : Host.Outcome State Fault Refusal := .next (s.copyOut q)

/-- An access is a packet of the copy of queue q. -/
def copyOf (q : Nat) : HbmAcc → Bool
  | .copyIn q' _ _ _ => q' = q
  | .copyOut q' _ _ _ _ => q' = q
  | _ => false

/-- A packet of the copy of queue q still waits at a controller (14 R443). -/
def State.copyWaits (s : State) (q : Nat) : Bool := s.hbmStacks.any (fun e => e.2.waiting.any (copyOf q))

/-- The copy of queue q stops part-way (14 R429). -/
def State.copyStops (s : State) (q : Nat) : State :=
  s.hbmStacks.foldl (fun s e => s.setStack e.1 { e.2 with waiting := e.2.waiting.filter (fun a => !copyOf q a) }) s

/-- A load under way ends without its image: the partition is IDLE with no resident image (14 R429, R442). -/
def State.loadLost (s : State) (p : Nat) (c : HostCmd) : State :=
  if (c.op = 1 || c.op = 2) && c.begun then
    let s := s.setPart p { s.part p with resident := false }
    if s.pstate p = .loaded then (s.setPState p .idle).clearHolds p else s
  else s

/-- COMMAND_COMPLETE: a load or copy under way ends; `fetched` is false when a fetch of its data failed (14 R441 to R443). -/
def State.commandComplete (s : State) (q : Nat) (fetched : Bool) : State :=
  match (s.queue q).cmd with
  | none => s
  | some c =>
    if !c.begun || !s.dma || s.copyWaits q then s
    else if fetched || c.op = 2 || c.op = 4 then s.completeCmd q c.flags c.code
    else (if c.op = 1 then s.loadLost q c else s).completeCmd q c.flags E_HOST_FETCH

def execCommandComplete (q : Nat) (fetched : Bool) (s : State) : Host.Outcome State Fault Refusal := .next (s.commandComplete q fetched)

/-! ### Hot reset (14 R429) -/

/-- A queue's registers take their reset values, its binding excepted (14 R429, R451; log entry 93). -/
def State.queueRegsReset (s : State) (q : Nat) : State :=
  ([(.Q_BASE_LO, 0), (.Q_BASE_HI, 0), (.Q_CFG_ENABLE, 0), (.Q_CFG_SIZE_LOG2, 4), (.Q_CFG_COHERENT, 0), (.Q_CFG_IRQ_EN, 0), (.Q_STATUS_DB_ERR, 0),
    (.Q_STATUS_CFG_REJECT, 0), (.Q_STATUS_CODE, 0), (.Q_INDEX_PI, 0), (.Q_INDEX_CI, 0), (.Q_SHADOW_LO, 0), (.Q_SHADOW_HI, 0), (.Q_IRQ_COUNT, 1),
    (.Q_IRQ_DELAY_US, 0)] : List (Fld × Nat)).foldl (fun s e => s.setFld e.1 e.2 q) s

/-- HOT_RESET: hot reset, or (`down`) link disable or DL_Down. -/
def State.hotReset (s : State) (down : Bool) : State :=
  let s := { s with host := { s.host with busMaster := false, d3 := false, msiOn := false, msixOn := false, unmasked := [], msixWords := [], pba := 0, config := [] } }
  let s := s.setFld .INT_MODE 0
  let s := (List.range 96).foldl (fun s q =>
    let s := match (s.queue q).cmd with
      | some c => s.loadLost q c
      | none => s
    let s := s.queueRegsReset q
    ((s.copyStops q).setQueue q {}).queueOff q) s
  let s := (s.setFld .INT_STATUS_LO 0).setFld .INT_STATUS_HI 0
  let s := (s.addFld .HOST_RESETS).hostError E_HOST_LINK_RESET
  if down then s.setHostLink 0 0 0 else s

def execHotReset (down : Bool) (s : State) : Host.Outcome State Fault Refusal := .next (s.hotReset down)

/-! ### DOE and IDE (14 R448, R449) -/

/-- The secure bit of an IDE stream: 0 link, 1 to 4 selective, 5 CXL.cachemem. -/
def State.setSecure (s : State) (stream : Nat) (b : Bool) : State :=
  if stream = 0 then s.setFld .HOST_IDE_STATUS_LINK_SECURE b.toNat
  else if stream = 5 then s.setFld .HOST_IDE_STATUS_CM_SECURE b.toNat
  else s.setBit .HOST_IDE_STATUS_SEL_SECURE (stream - 1) b

/-- DOE_REQUEST: an object of a kind (0 Discovery, 1 CMA/SPDM, 2 Secured CMA/SPDM, 3 CXL table access) and length on an instance; `read`:
the previous response has been read; `key`: the stream for which its IDE_KM messages set keys. -/
def State.doeRequest (s : State) (inst kind len : Nat) (read : Bool) (key : Option Nat) : State :=
  let s := if read then { s with host := { s.host with doeUnread := s.host.doeUnread.filter (fun i => i ≠ inst) } } else s
  let served : Bool := kind = 0 || (inst = 0 && (kind = 1 || kind = 2)) || (inst = 1 && kind = 3)
  if s.host.doeUnread.contains inst then s.out (.doe inst .discarded)
  else if 65536 < len then s.out (.doe inst .refused)
  else if !served then s.out (.doe inst .discarded)
  else
    let s := { s with host := { s.host with doeUnread := s.host.doeUnread ++ [inst] } }
    if s.thimble.romRecovery then s.out (.doe inst .romMeasurement)
    else
      let s := s.out (.doe inst .answered)
      match key with
      | some st => if kind = 2 && st ≤ 5 then
          let s := s.setSecure st true
          if st = 5 then { s with host := { s.host with memFailed := false } } else s
        else s
      | none => s

def execDoeRequest (inst kind len : Nat) (read : Bool) (key : Option Nat) (s : State) : Host.Outcome State Fault Refusal :=
  .next (s.doeRequest inst kind len read key)

/-- IDE_FAILURE (14 R449). -/
def State.ideFailure (s : State) (stream : Nat) : State :=
  let s := ((s.setSecure stream false).setFld .HOST_IDE_STATUS_FAIL 1).hostError E_HOST_IDE
  let s := if stream = 5 then { s with host := { s.host with memFailed := true } } else s
  (s.host.qStreams.filter (fun e => e.2 = stream + 1)).foldl (fun s e =>
    if s.flag .Q_STATUS_BOUND e.1 then s.queueToError e.1 E_HOST_IDE else s) s

def execIdeFailure (stream : Nat) (s : State) : Host.Outcome State Fault Refusal := .next (s.ideFailure stream)

end Sys2Proof.Machine
end

