-- ==== Sys2Proof/Machine/ThimOps.lean ====
section
/-! DEFINITION. Machine/ThimOps.lean: how requests reach Thimble and are answered, debug grants, and ending a binding (15, 16). -/
namespace Sys2Proof.Machine
open Sys2Proof

/-! ### Requests and answers (15 R481; 16 R483 to R488, R495, R500) -/

/-- Thimble answers: power-on reset is released and its ROM or its firmware runs (17 Table 17.9, 16 R499, R500). -/
def State.thimbleUp (s : State) : Bool :=
  !s.power.por && !s.power.railsOff && !s.thimble.restarting && (4 ≤ s.power.step || s.thimble.romRecovery)

/-- MGMT_STATUS.BUS_A and BUS_B: 0 SMBus, 1 I3C, 2 ISOLATED (16 Table 16.9). -/
def busFld (b : Nat) : Fld := if b = 0 then .MGMT_STATUS_BUS_A else .MGMT_STATUS_BUS_B
def busIsolated : Nat := 2

/-- A message other than MCTP control is taken from the bus: it is in service and Thimble has an endpoint ID (16 R483, R485). -/
def State.busServed (s : State) (b : Nat) : Bool := s.fld (busFld b) ≠ busIsolated && s.thimble.eid ≠ 0

/-- A session by its ID. -/
def State.session (s : State) (id : Nat) : Option Session := s.thimble.sessions.find? (fun x => x.id = id)
/-- The tenant of a secured session (15 R465). -/
def State.tenantOf (s : State) (id : Nat) : Option Nat := (s.session id).bind Session.tenant

/-- The KEY_ID of a partition's tenant (15 Table 15.13). -/
def State.tenantId (s : State) (p : Nat) : Nat := s.fld64 .SEC_TENANT_ID_LO .SEC_TENANT_ID_HI p
/-- The partition is bound to the tenant of the session. -/
def State.boundTo (s : State) (p id : Nat) : Bool := s.flag .SEC_PART_BOUND p && s.tenantOf id = some (s.tenantId p)

def State.secError (s : State) (code : Nat) : State := s.recordFirst .SEC_ERROR_CODE .SEC_ERROR_MULTI code
def State.mgmtError (s : State) (code : Nat) : State := s.recordValid .MGMT_ERROR_CODE .MGMT_ERROR_MULTI .MGMT_ERROR_VALID code

/-- Thimble answers a request with a code on the channel it came by: MBX_STATUS and vector 4 for the mailbox, a response otherwise. The
secrecy codes are recorded in SEC_ERROR, the management codes in MGMT_ERROR (15 R481, 16 R502). -/
def State.answer (s : State) (ch : Chan) (code : Nat) (data : List Nat := []) : State :=
  let s := if code / 256 = 0x0F then s.secError code else if code / 256 = 0x10 then s.mgmtError code else s
  match ch with
  | .mailbox => (((s.setFld .MBX_STATUS_BUSY 0).setFld .MBX_STATUS_DONE 1).setFld .MBX_STATUS_CODE code).raiseVector 4
  | _ => s.out (.reply ch (.code code data))

/-- MBX_CMD.OP codes (15 Table 15.14). -/
def opGrantSession : Nat := 1
def opEvict : Nat := 2
def opSubmitToken : Nat := 3
def opSetJobKey : Nat := 4
def opSwitchKgen : Nat := 5
def opClearKgen : Nat := 6
def opEndGrant : Nat := 7

/-- A request that the firmware serves: from the mailbox with this OP submitted, from the management port, or inside a secured session;
in ROM recovery the management port answers E_MGMT_ROM_RECOVERY (16 R500). A request that does not reach the firmware changes nothing. -/
def State.ask (s : State) (ch : Chan) (op : Nat) (f : State → State) : State :=
  if !s.thimbleUp then s
  else match ch with
    | .mailbox => if s.flag .MBX_STATUS_BUSY && s.fld .MBX_CMD_OP = op && !s.thimble.romRecovery then f s else s
    | .mgmt b => if !s.busServed b then s else if s.thimble.romRecovery then s.answer ch E_MGMT_ROM_RECOVERY else f s
    | .doe => if s.thimble.romRecovery then s else f s
    | .session id => if s.thimble.romRecovery || (s.tenantOf id).isNone then s else f s

/-- Partition named by a mailbox command or by the request itself. -/
def State.askPart (s : State) (ch : Chan) (p : Nat) : Nat := if ch = .mailbox then s.fld .MBX_CMD_PART else p % 16

/-! ### Debug grants (15 R462, R463) -/

/-- Tenant debug of a partition, where it holds, ends: recovery reads, breakpoints and dump points of it with it (05 R173, 03 R111,
15 R463, 19 R559, R561). -/
def State.endDebug (s : State) (p : Nat) : State :=
  if !s.flag .SEC_PART_DEBUG p then s else
  let s := (s.setFld .SEC_PART_DEBUG 0 p).setBit .SEC_BOUND_DEBUG p false
  let s := { s with thimble := { s.thimble with debugEnd := bankSet 0 s.thimble.debugEnd p 0 } }
  let s := s.setBit .SPAD_RECOVERY p false
  let s := if s.side.elim false (fun j => j.by_ = .host && s.corePart j.core = p) then
      ((({ s with side := none }).setFld .SIDE_STATUS_BUSY 0).setFld .SIDE_STATUS_DONE 1).setFld .SIDE_STATUS_CODE E_SPAD_SIDE_DENIED
    else s
  let fs : List Fld := [.BRK_CTRL_COUNT_EN, .BRK_CTRL_TAG_EN, .BRK_CTRL_TICK_EN, .BRK_CTRL_ONESHOT]
  let s := s.dropFlds (fun f g => fs.any (fun x => x.code = f) && s.corePart g = p)
  let s := s.abortDumps p E_SPAD_SIDE_DENIED
  (List.range 8).foldl (fun s k => s.setFld .DUMP_CFG_EN 0 (dumpAt p k)) s

/-- The OBSERVE grant ends. -/
def State.endObserve (s : State) : State :=
  { s with thimble := { s.thimble with observeEnd := 0 } }.setFld .SEC_STATUS_OBSERVE 0

/-- The end of a grant of so many seconds, on F, plus 1. -/
def State.grantEnd (s : State) (seconds : Nat) : Nat := (s.now + seconds * 64000000000) % 2 ^ 64 + 1

/-! ### Keys (15 R466 to R470) -/

/-- Set a link generation's state; its key and, when one is installed, its counters (08 R279). -/
def State.setKgen (s : State) (p gen st key : Nat) : State :=
  let s := if gen = 0 then s.setFld .SEC_PART_KGEN0 st p else s.setFld .SEC_PART_KGEN1 st p
  { s with jobKeys := bankSet 0 s.jobKeys (p * 2 + gen) key }

/-- No switch of the sending generation is pending. -/
def State.cancelKgenSwitch (s : State) (p : Nat) : State :=
  { s with thimble := { s.thimble with kgenSwitch := bankSet 0 s.thimble.kgenSwitch p 0 } }.setFld .SEC_PART_SWITCH_PENDING 0 p

/-- Both generations at NONE. -/
def State.dropKgens (s : State) (p : Nat) : State := ((s.setKgen p 0 0 0).setKgen p 1 0 0).cancelKgenSwitch p

/-! ### Bindings (14 R450; 15 R466, R467) -/

/-- The queues of a partition: CMD, REQ and RES (14 Table 14.6). -/
def partQueues (p : Nat) : List Nat := [p, 16 + 4 * p, 17 + 4 * p, 18 + 4 * p, 19 + 4 * p, 80 + p]

/-- The CKID and queue bindings of a partition end (14 R450). -/
def State.unbindHost (s : State) (p : Nat) : State :=
  let s := (partQueues p).foldl (fun s q => s.setFld .Q_STATUS_BOUND 0 q) s
  let h := s.host
  let s := { s with host := { h with ckids := h.ckids.filter (fun e => e.2 ≠ p + 1), qStreams := h.qStreams.filter (fun e => qPart e.1 ≠ p) } }
  ((s.setFld .OBS_PART_STATUS_BOUND 0 p).setFld .SEC_PART_CKID_BOUND 0 p).setFld .SEC_PART_QUEUES_BOUND 0 p

/-- A whole partition clear, run by Thimble (05 R182, R183). -/
def State.thimbleClear (s : State) (p : Nat) : State :=
  (((s.abortDumps p 0).partClear p).setBit .SPAD_CLEAR_STATUS_BUSY p false).setBit .SPAD_CLEAR_STATUS_DONE p true

/-- Bring a partition to IDLE by ABORT, CLEAR or UNLOAD (15 R467, step 1). -/
def State.bringIdle (s : State) (p : Nat) : State :=
  match s.pstate p with
  | .idle => s
  | .loaded => (s.setPState p .idle).clearHolds p
  | .armed => (s.setPState p .idle).clearHolds p
  | .stopped => s.planClear p
  | .fault => s.planClear p
  | _ => ((s.sendCtl (s.partPorts p) (s.faultStopFlit p)).stop p).planClear p

/-- The ending sequence (15 R467), whole: Thimble answers only after its last step. -/
def State.endBinding (s : State) (p : Nat) : State :=
  let s := (((s.bringIdle p).dropKgens p).unbindHost p).endDebug p
  let s := (s.thimbleClear p).drawHbmKey p false
  (s.setFld .SEC_PART_BOUND 0 p).setBit .SEC_BOUND_TENANT p false

/-- Every binding ends (15 R454, R464). -/
def State.endAllBindings (s : State) : State :=
  (List.range 16).foldl (fun s p => if s.flag .SEC_PART_BOUND p then s.endBinding p else s) s

end Sys2Proof.Machine
end

