-- ==== Sys2Proof/Machine/Tokens.lean ====
section
/-! DEFINITION. Machine/Tokens.lean: nonces, secrecy tokens, enrolment and debug grants (15 R453 to R464). -/
namespace Sys2Proof

/-! ### The layout of a secrecy token (15 R459, Table 15.4) -/

def SecToken.action (t : SecToken) : Nat := byteField t.bytes 0x04 1
def SecToken.parts (t : SecToken) : Nat := byteField t.bytes 0x06 2
def SecToken.deviceKeyId (t : SecToken) : Nat := byteField t.bytes 0x08 8
def SecToken.nonce (t : SecToken) : Nat := byteField t.bytes 0x10 16
def SecToken.signer (t : SecToken) : Nat := byteField t.bytes 0x20 8
def SecToken.duration (t : SecToken) : Nat := byteField t.bytes 0x28 4
def SecToken.consent (t : SecToken) : Nat := byteField t.bytes 0xC0 64
def SecToken.arg (t : SecToken) : List Byte := (t.bytes.drop 0x30).take 64

/-- MAGIC and FORMAT are as Table 15.4 has them, and the reserved bytes zero. -/
def SecToken.wellFormed (t : SecToken) : Bool :=
  t.bytes.length = 256 && t.bytes.take 4 = [0x51, 0x53, 0x54, 0x4B] && byteField t.bytes 0x05 1 = 1
    && byteField t.bytes 0x2C 4 = 0 && byteField t.bytes 0x70 16 = 0

end Sys2Proof

namespace Sys2Proof.Machine
open Sys2Proof

/-! ### Nonces (15 R461) -/

/-- The requester of a channel: the mailbox, the management port (both buses), or a session. -/
def nonceKey : Chan → Nat
  | .mailbox => 0 | .mgmt _ => 1 | .doe => 1 | .session id => 2 + id

def State.setNonce (s : State) (k v : Nat) : State := { s with thimble := { s.thimble with nonces := bankSet 0 s.thimble.nonces k v } }

/-- A fresh 128-bit nonce replaces the requester's old one. No rule states its value: free values (log entry 3). -/
def State.drawNonce (s : State) (k : Nat) : Nat × State :=
  let (a, s) := s.draw
  let (b, s) := s.draw
  let n := a.toNat + b.toNat * 2 ^ 64
  (n, s.setNonce k (n + 1))

/-- A read of SEC_NONCE0 draws the mailbox's nonce. -/
def State.secNonceDraw (s : State) : State :=
  let (n, s) := s.drawNonce 0
  (List.range 4).foldl (fun s k => s.setFld .SEC_NONCE (n / 2 ^ (32 * k)) 0 k) s

/-- SEC_NONCE_READ: host software reads SEC_NONCE0; the management agent has no access to the block (15 R480). -/
def State.secNonceRead (s : State) (party : Party) : State :=
  if party = .mgmt then s.out (.readData party 0)
  else
    let s := s.secNonceDraw
    s.out (.readData party (s.fld .SEC_NONCE 0 0))

def execSecNonceRead (party : Party) (s : State) : Host.Outcome State Fault Refusal := .next (s.secNonceRead party)

/-- GET_NONCE, from the management port or a session. -/
def State.getNonce (s : State) (ch : Chan) : State :=
  if ch = .mailbox || ch = .doe then s
  else s.ask ch 0 (fun s => let (n, s) := s.drawNonce (nonceKey ch); s.answer ch 0 [n])

def execGetNonce (ch : Chan) (s : State) : Host.Outcome State Fault Refusal := .next (s.getNonce ch)

/-! ### The checks (15 R459, R460, Tables 15.4 to 15.6) -/

/-- ACTION codes (15 Table 15.5). -/
def actObserve : Nat := 0x01
def actTenantDebug : Nat := 0x02
def actVendorFa : Nat := 0x03
def actReplaceOperator : Nat := 0x10
def actEnrolPublisher : Nat := 0x11
def actRemovePublisher : Nat := 0x12
def actSetPolicy : Nat := 0x13
def actRaiseArmSvn : Nat := 0x14
def actOperatorReset : Nat := 0x15

/-- The action is assigned and accepted through the channel. -/
def actionOk (a : Nat) : Chan → Bool
  | .mgmt _ => [0x01, 0x02, 0x03, 0x10, 0x11, 0x12, 0x13, 0x14, 0x15].contains a
  | .mailbox => [0x01, 0x02, 0x11, 0x12].contains a
  | .session _ => a = actTenantDebug
  | .doe => false

/-- Bytes of ARG as a number. -/
def tokNat (t : SecToken) (k n : Nat) : Nat := byteField t.arg k n

/-- Every byte of ARG from k on is zero. -/
def tokZero (t : SecToken) (k : Nat) : Bool := (t.arg.drop k).all (fun b => b = 0)

/-- The bytes of ARG that the action does not use are zero. -/
def tokArgOk (t : SecToken) : Bool :=
  match t.action with
  | 0x10 => tokZero t 32
  | 0x11 => tokZero t 32
  | 0x12 => tokZero t 8
  | 0x13 => tokNat t 0 1 < 8 && tokZero t 1
  | 0x14 => tokNat t 0 1 < 2 && tokNat t 1 3 = 0 && tokZero t 8
  | _ => tokZero t 0

def tokDurationOk (t : SecToken) : Bool :=
  if t.action = actObserve || t.action = actTenantDebug then 1 ≤ t.duration && t.duration ≤ 604800 else t.duration = 0

/-- The key that must have signed, by channel: the operator, the tenant of every partition named, or Quinian's failure-analysis key; none
where no key may sign. A store that failed its check gives no operator key (15 R453). -/
def State.tokenKey (s : State) (ch : Chan) (t : SecToken) : Option Nat :=
  let op := if s.thimble.storeBad then none else s.operatorKey
  if t.action = actVendorFa || t.action = actOperatorReset then some Config.quinianFaKey.toNat
  else if t.action = actTenantDebug then
    match ch with
    | .session id => if (bitsOf t.parts 16).all (fun p => s.boundTo p id) then s.tenantOf id else none
    | _ => if (bitsOf t.parts 16).any (fun p => s.flag .SEC_PART_BOUND p) then none else op
  else op

/-- Check 7: the present state allows the action; 0 when it does. Its error is E_SEC_FA_ACTIVE while failure analysis is active. -/
def State.tokenState (s : State) (t : SecToken) : Nat :=
  let active := s.flag .SEC_STATUS_FA_ACTIVE
  let bad := if active then E_SEC_FA_ACTIVE else E_SEC_STATE
  if t.action = actTenantDebug then if (bitsOf t.parts 16).all s.partExists then 0 else bad
  else if t.action = actVendorFa then if active || s.flag .SEC_STATUS_FA_FUSED then bad else 0
  else if t.action = actRaiseArmSvn then
    if tokNat t 4 4 < (if tokNat t 0 1 = 0 then s.fld .ARM_MIN_SVN_Q else s.fld .ARM_MIN_SVN_OP) then bad else 0
  else if t.action = actEnrolPublisher then if 64 ≤ s.thimble.publishers.length then E_SEC_FULL else 0
  else 0

/-- The checks of Table 15.6 in order, up to the nonce. -/
def tokenEarly (t : SecToken) (ch : Chan) : Nat :=
  if !t.wellFormed || !actionOk t.action ch || !(tokArgOk t) || !(tokDurationOk t) || (t.action ≠ actTenantDebug && t.parts ≠ 0)
      || (t.action ≠ actVendorFa && t.consent ≠ 0) then E_SEC_TOKEN_FORMAT
  else if t.deviceKeyId ≠ ownKeyId then E_SEC_TOKEN_DEVICE
  else 0

/-- The checks of Table 15.6 from the nonce on; 0 when they pass. -/
def State.tokenLate (s : State) (ch : Chan) (t : SecToken) : Nat :=
  if bankGet 0 s.thimble.nonces (nonceKey ch) ≠ t.nonce + 1 then E_SEC_TOKEN_NONCE
  else if s.tokenKey ch t ≠ some t.signer then E_SEC_TOKEN_SIGNER
  else if t.signedBy ≠ t.signer then E_SEC_TOKEN_SIGNATURE
  else if t.action = actVendorFa && (s.thimble.storeBad || s.operatorKey ≠ some t.consentBy) then E_SEC_CONSENT
  else s.tokenState t

/-! ### The actions -/

def State.setOperator (s : State) (key : Nat) : State :=
  ((s.setFld .SEC_STATUS_OPERATOR 1).setFld64 .SEC_OPERATOR_ID_LO .SEC_OPERATOR_ID_HI key).setFld .ARM_MIN_SVN_OP 0

def State.setPublishers (s : State) (l : List Nat) : State :=
  { s with thimble := { s.thimble with publishers := l } }.setFld .SEC_STATUS_PUBLISHERS l.length

/-- OBSERVE (15 R462, R463). -/
def State.grantObserve (s : State) (t : SecToken) : State :=
  { s with thimble := { s.thimble with observeEnd := s.grantEnd t.duration } }.setFld .SEC_STATUS_OBSERVE 1

/-- TENANT_DEBUG. -/
def State.grantDebug (s : State) (t : SecToken) : State :=
  (bitsOf t.parts 16).foldl (fun s p =>
    let s := { s with thimble := { s.thimble with debugEnd := bankSet 0 s.thimble.debugEnd p (s.grantEnd t.duration) } }
    (s.setFld .SEC_PART_DEBUG 1 p).setBit .SEC_BOUND_DEBUG p true) s

/-- VENDOR_FA: its four steps in order (15 R464). -/
def State.enterFa (s : State) : State :=
  let others := (List.range 16).filter (fun p => s.partExists p && !s.flag .SEC_PART_BOUND p)
  let s := others.foldl (fun s p => s.thimbleClear p) s.endAllBindings
  let s := (List.range 16).foldl (fun s p => s.drawHbmKey p false) (s.drawPair devicePair)
  (s.setFld .SEC_STATUS_FA_ACTIVE 1).setFld .SPAD_MODE 2

/-- SET_POLICY (15 Table 15.5). -/
def State.applyPolicy (s : State) (t : SecToken) : State :=
  let v := tokNat t 0 1
  let s := (s.setFld .SEC_STATUS_IDE_REQUIRED v).setFld .SEC_STATUS_OPEN_ALLOWED (v / 2)
  if v.testBit 2 then s.setFld .SEC_STATUS_FA_FUSED 1 else s

/-- OPERATOR_RESET (15 R453, R454). -/
def State.operatorReset (s : State) : State :=
  let s := (s.endAllBindings).setPublishers []
  let s := (s.setFld .SEC_STATUS_OPERATOR 0).setFld64 .SEC_OPERATOR_ID_LO .SEC_OPERATOR_ID_HI 0
  { s with thimble := { s.thimble with storeBad := false } }

def State.tokenAction (s : State) (t : SecToken) : State :=
  match t.action with
  | 0x01 => s.grantObserve t
  | 0x02 => s.grantDebug t
  | 0x03 => s.enterFa
  | 0x10 => s.setOperator (keyIdOf (t.arg.take 32))
  | 0x11 =>
    let k := keyIdOf (t.arg.take 32)
    if s.thimble.publishers.contains k then s else s.setPublishers (s.thimble.publishers ++ [k])
  | 0x12 => s.setPublishers (s.thimble.publishers.filter (fun k => k ≠ tokNat t 0 8))
  | 0x13 => s.applyPolicy t
  | 0x14 => s.setFld (if tokNat t 0 1 = 0 then .ARM_MIN_SVN_Q else .ARM_MIN_SVN_OP) (tokNat t 4 4)
  | 0x15 => s.operatorReset
  | _ => s

/-- A secrecy token is checked and, when it passes, takes effect; the nonce is consumed at check 3 (15 R460, R461). -/
def State.runToken (s : State) (ch : Chan) (t : SecToken) : State :=
  let early := tokenEarly t ch
  if early ≠ 0 then s.answer ch early
  else
    let late := s.tokenLate ch t
    let s := s.setNonce (nonceKey ch) 0
    if late ≠ 0 then s.answer ch late else (s.tokenAction t).answer ch 0

/-- A Plinth token over the management port (16 Table 16.3, 12 Table 12.6). -/
def State.runPlinth (s : State) (ch : Chan) (code : Nat) (f : State → State) : State :=
  let busy : Bool := s.fld .PLINTH_STATUS_OP ≠ 0
  (f s).answer ch (if busy then E_PLINTH_BUSY else code)

/-- SUBMIT_TOKEN: `fetched` is false when the mailbox's fetch of the token failed (15 Table 15.14). -/
def State.submitToken (s : State) (ch : Chan) (t : AnyToken) (fetched : Bool) : State :=
  s.ask ch opSubmitToken (fun s =>
    if ch = .mailbox && !fetched then s.answer ch E_HOST_FETCH
    else match t with
      | .sec t => s.runToken ch t
      | .install k => match ch with
        | .mgmt _ => s.runPlinth ch (s.installCode k) (fun s => s.plinthInstall k false)
        | _ => s.answer ch E_SEC_TOKEN_FORMAT
      | .delete k => match ch with
        | .mgmt _ => s.runPlinth ch (s.deleteCode k) (fun s => s.plinthDelete k)
        | _ => s.answer ch E_SEC_TOKEN_FORMAT)

def execSubmitToken (ch : Chan) (t : AnyToken) (fetched : Bool) (s : State) : Host.Outcome State Fault Refusal := .next (s.submitToken ch t fetched)

/-- A token with one action, submitted. -/
def State.submitAs (s : State) (action : Nat) (ch : Chan) (t : SecToken) : State :=
  if t.action = action then s.submitToken ch (.sec t) true else s

def execObserve (ch : Chan) (t : SecToken) (s : State) : Host.Outcome State Fault Refusal := .next (s.submitAs actObserve ch t)
def execTenantDebug (ch : Chan) (t : SecToken) (s : State) : Host.Outcome State Fault Refusal := .next (s.submitAs actTenantDebug ch t)
def execVendorFa (ch : Chan) (t : SecToken) (s : State) : Host.Outcome State Fault Refusal := .next (s.submitAs actVendorFa ch t)
def execReplaceOperator (ch : Chan) (t : SecToken) (s : State) : Host.Outcome State Fault Refusal := .next (s.submitAs actReplaceOperator ch t)
def execEnrolPublisher (ch : Chan) (t : SecToken) (s : State) : Host.Outcome State Fault Refusal := .next (s.submitAs actEnrolPublisher ch t)
def execRemovePublisher (ch : Chan) (t : SecToken) (s : State) : Host.Outcome State Fault Refusal := .next (s.submitAs actRemovePublisher ch t)
def execSetPolicy (ch : Chan) (t : SecToken) (s : State) : Host.Outcome State Fault Refusal := .next (s.submitAs actSetPolicy ch t)
def execRaiseArmSvn (ch : Chan) (t : SecToken) (s : State) : Host.Outcome State Fault Refusal := .next (s.submitAs actRaiseArmSvn ch t)
def execOperatorReset (ch : Chan) (t : SecToken) (s : State) : Host.Outcome State Fault Refusal := .next (s.submitAs actOperatorReset ch t)

/-- ENROL_OPERATOR, over the management port only (15 R454; 02 R64). -/
def State.enrolOperator (s : State) (ch : Chan) (key : List Byte) : State :=
  match ch with
  | .mgmt _ => s.ask ch 0 (fun s =>
      if s.flag .SEC_STATUS_OPERATOR then s.answer ch E_SEC_ENROLLED else (s.setOperator (keyIdOf key)).answer ch 0)
  | _ => s

def execEnrolOperator (ch : Chan) (key : List Byte) (s : State) : Host.Outcome State Fault Refusal := .next (s.enrolOperator ch key)

/-! ### The end of a grant (15 R463) -/

/-- GRANT_EXPIRE: the OBSERVE grant (none) or tenant debug of a partition has run its duration on F. -/
def State.grantExpire (s : State) (which : Option Nat) : State :=
  match which with
  | none => if s.thimble.observeEnd ≠ 0 && s.timeReached (s.thimble.observeEnd - 1) then s.endObserve else s
  | some p =>
    let e := bankGet 0 s.thimble.debugEnd p
    if e ≠ 0 && s.timeReached (e - 1) then s.endDebug p else s

def execGrantExpire (which : Option Nat) (s : State) : Host.Outcome State Fault Refusal := .next (s.grantExpire which)

/-- END_GRANT: from the tenant in a session, for its partition; from the mailbox for OBSERVE (PART 0xF with ARG 1) or for a partition
without a tenant (15 Tables 15.7, 15.14). -/
def State.endGrant (s : State) (ch : Chan) (p : Nat) : State :=
  match ch with
  | .session id => s.ask ch 0 (fun s => if s.boundTo p id then (s.endDebug p).answer ch 0 else s.answer ch E_SEC_NOT_BOUND)
  | .mailbox => s.ask ch opEndGrant (fun s =>
      let p := s.fld .MBX_CMD_PART
      if p = 15 && s.fld .MBX_ARG_LO = 1 then s.endObserve.answer ch 0
      else if s.flag .SEC_PART_BOUND p then s.answer ch E_SEC_NOT_BOUND
      else (s.endDebug p).answer ch 0)
  | _ => s

def execEndGrant (ch : Chan) (p : Nat) (s : State) : Host.Outcome State Fault Refusal := .next (s.endGrant ch p)

end Sys2Proof.Machine
end

