-- ==== Sys2Proof/Machine/Secrecy.lean ====
section
/-! DEFINITION. Machine/Secrecy.lean: sessions, bindings, memory keys, link job keys, the mailbox and the SPDM responder (15 R465 to
R474, R479, R480). -/
namespace Sys2Proof.Machine
open Sys2Proof

/-! ### Grants of sessions and evictions (15 R465, R467) -/

/-- GRANT_SESSION: from the mailbox (session ID in MBX_ARG) or the management port. While PERST_N is asserted the management port does
not serve it (16 Table 16.7); no rule states the code of that answer: a free value (log entry 3). -/
def State.grantSession (s : State) (ch : Chan) (p session : Nat) : State :=
  match ch with
  | .mailbox => s.ask ch opGrantSession (fun s =>
      let p := s.askPart ch p
      let id := s.fld64 .MBX_ARG_LO .MBX_ARG_HI
      { s with thimble := { s.thimble with grants := bankSet 0 s.thimble.grants p (id + 1) } }.answer ch 0)
  | .mgmt _ => s.ask ch 0 (fun s =>
      if s.flag .PWR_STATE_PERST then
        let (c, s) := s.draw
        s.out (.reply ch (.code (c.toNat % 2 ^ 16) []))
      else
        { s with thimble := { s.thimble with grants := bankSet 0 s.thimble.grants (p % 16) (session + 1) } }.answer ch 0)
  | _ => s

def execGrantSession (ch : Chan) (p session : Nat) (s : State) : Host.Outcome State Fault Refusal := .next (s.grantSession ch p session)

/-- EVICT: a partition without a tenant has no binding to end. -/
def State.evict (s : State) (ch : Chan) (p : Nat) : State :=
  let run (s : State) : State :=
    let p := s.askPart ch p
    if s.flag .SEC_PART_BOUND p then (s.endBinding p).answer ch 0 else s.answer ch E_SEC_NOT_BOUND
  match ch with
  | .mailbox => s.ask ch opEvict run
  | .mgmt _ => s.ask ch 0 run
  | _ => s

def execEvict (ch : Chan) (p : Nat) (s : State) : Host.Outcome State Fault Refusal := .next (s.evict ch p)

/-! ### Bindings (15 R466, R467) -/

/-- The first failing condition of R466; 0 when all hold. -/
def State.bindCode (s : State) (id p : Nat) : Nat :=
  if s.flag .SEC_STATUS_FA_ACTIVE then E_SEC_FA_ACTIVE
  else if bankGet 0 s.thimble.grants p ≠ id + 1 then E_SEC_NO_GRANT
  else if !s.partExists p || s.pstate p ≠ .idle || s.flag .SEC_PART_BOUND p then E_SEC_STATE
  else 0

/-- The four steps of a binding to a tenant. -/
def State.bindTo (s : State) (p tenant : Nat) : State :=
  let s := if s.tenantId p ≠ tenant || !s.thimble.hadTenant.contains p then s.thimbleClear p else s
  let s := ((s.drawHbmKey p true).dropKgens p).setFld .SEC_PART_SEND_KGEN 0 p
  let s := (s.setFld64 .SEC_TENANT_ID_LO .SEC_TENANT_ID_HI tenant p).setFld .SEC_PART_BOUND 1 p
  let h := s.thimble.hadTenant
  { s with thimble := { s.thimble with hadTenant := if h.contains p then h else h ++ [p] } }.setBit .SEC_BOUND_TENANT p true

/-- BIND_PARTITION. -/
def State.bindPartition (s : State) (id p : Nat) : State :=
  s.ask (.session id) 0 (fun s =>
    let p := p % 16
    let code := s.bindCode id p
    match s.tenantOf id with
    | some t => if code ≠ 0 then s.answer (.session id) code else (s.bindTo p t).answer (.session id) 0
    | none => s)

def execBindPartition (id p : Nat) (s : State) : Host.Outcome State Fault Refusal := .next (s.bindPartition id p)

/-- A tenant message about a partition: E_SEC_NOT_BOUND unless the partition is bound to the session's tenant (15 R465). -/
def State.askTenant (s : State) (id p : Nat) (f : State → State) : State :=
  s.ask (.session id) 0 (fun s => if s.boundTo p id then f s else s.answer (.session id) E_SEC_NOT_BOUND)

/-- UNBIND. -/
def State.unbind (s : State) (id p : Nat) : State := s.askTenant id p (fun s => (s.endBinding p).answer (.session id) 0)

def execUnbind (id p : Nat) (s : State) : Host.Outcome State Fault Refusal := .next (s.unbind id p)

/-- SET_HBM_KEY: the pair takes effect when HBM_KEY_SWITCH carries it out (15 R468, 11 R357). -/
def State.setHbmKey (s : State) (id p k1 k2 : Nat) : State :=
  s.askTenant id p (fun s =>
    if s.pstate p ≠ .idle then s.answer (.session id) E_SEC_STATE
    else if k1 = k2 then s.answer (.session id) E_SEC_KEY_INVALID
    else { s with hbmKeyReq := bankSet 0 s.hbmKeyReq p (tenantPair k1 k2 + 3) }.answer (.session id) 0)

def execSetHbmKey (id p k1 k2 : Nat) (s : State) : Host.Outcome State Fault Refusal := .next (s.setHbmKey id p k1 k2)

/-- The check of IDE for a binding; 0 when it passes (15 R465, 14 R450). -/
def State.ideCode (s : State) : Nat :=
  if s.flag .SEC_STATUS_IDE_REQUIRED && !s.flag .HOST_IDE_STATUS_CM_SECURE then E_SEC_IDE_REQUIRED else 0

/-- BIND_CKID: one CKID of a partition. -/
def State.bindCkid (s : State) (id p ckid : Nat) : State :=
  s.askTenant id p (fun s =>
    if s.ideCode ≠ 0 then s.answer (.session id) s.ideCode
    else
      let l := s.host.ckids.filter (fun e => e.2 ≠ p + 1)
      ({ s with host := { s.host with ckids := bankSet 0 l ckid (p + 1) } }.setFld .SEC_PART_CKID_BOUND 1 p).answer (.session id) 0)

def execBindCkid (id p ckid : Nat) (s : State) : Host.Outcome State Fault Refusal := .next (s.bindCkid id p ckid)

/-- BIND_QUEUES: the CMD, REQ and RES queues, and the observation ring, over an IDE stream (14 R449, R450; 19 R552). -/
def State.bindQueues (s : State) (id p stream : Nat) : State :=
  s.askTenant id p (fun s =>
    if s.ideCode ≠ 0 then s.answer (.session id) s.ideCode
    else
      let s := (partQueues p).foldl (fun s q =>
        { s with host := { s.host with qStreams := bankSet 0 s.host.qStreams q (stream + 1) } }.setFld .Q_STATUS_BOUND 1 q) s
      ((s.setFld .OBS_PART_STATUS_BOUND 1 p).setFld .SEC_PART_QUEUES_BOUND 1 p).answer (.session id) 0)

def execBindQueues (id p stream : Nat) (s : State) : Host.Outcome State Fault Refusal := .next (s.bindQueues id p stream)

/-! ### Link job keys (15 R469 to R471) -/

/-- A link-key request about a partition: from the session of its tenant, or from the mailbox when it has no tenant (15 R471);
`fetched` is false when the mailbox's fetch of the payload failed (15 Table 15.14). -/
def State.askKey (s : State) (ch : Chan) (op p : Nat) (fetched : Bool) (f : State → Nat → State) : State :=
  match ch with
  | .session id => s.askTenant id (p % 16) (fun s => f s (p % 16))
  | .mailbox => s.ask ch op (fun s =>
      let p := s.fld .MBX_CMD_PART
      if s.flag .SEC_PART_BOUND p then s.answer ch E_SEC_NOT_BOUND
      else if !fetched then s.answer ch E_HOST_FETCH
      else f s p)
  | _ => s

/-- The checks of R469 in order; 0 when they pass. `sealed` is MODE SEALED. -/
def State.jobKeyCode (s : State) (p gen : Nat) (sealedMode : Bool) (kseq : Nat) : Nat :=
  if (s.runSlot p).isNone then E_SEC_STATE
  else if gen = s.fld .SEC_PART_SEND_KGEN p && s.pstate p ≠ .idle && s.pstate p ≠ .loaded then E_SEC_STATE
  else if !sealedMode && !s.flag .SEC_STATUS_OPEN_ALLOWED then E_SEC_POLICY
  else if sealedMode && kseq ≤ s.fld64 .SEC_KFLOOR_LO .SEC_KFLOOR_HI then E_SEC_KSEQ
  else 0

/-- The sequence counters of a generation at zero (08 R279). -/
def State.zeroSeal (s : State) (p gen : Nat) : State := { s with sealSeq := bankDrop (fun k => k / 32 = p * 2 + gen) s.sealSeq }

/-- SET_JOB_KEY, MODE SEALED or OPEN. -/
def State.setJobKey (s : State) (ch : Chan) (p gen : Nat) (sealedMode : Bool) (kseq : Nat) (secret : List Byte) (fetched : Bool) : State :=
  s.askKey ch opSetJobKey p fetched (fun s p =>
    let gen := gen % 2
    let kseq := kseq % 2 ^ 64
    let code := s.jobKeyCode p gen sealedMode kseq
    if code ≠ 0 then s.answer ch code
    else
      let tag := (s.runSlot p).elim 0 (fun j => s.fld .SLOT_CFG_JOB_TAG j)
      let s := if sealedMode then
          (s.setKgen p gen 2 (Config.linkKey secret tag kseq + 1)).setFld64 .SEC_KFLOOR_LO .SEC_KFLOOR_HI kseq
        else s.setKgen p gen 1 0
      (s.zeroSeal p gen).answer ch 0)

def execSetJobKey (ch : Chan) (p gen : Nat) (sealedMode : Bool) (kseq : Nat) (secret : List Byte) (fetched : Bool) (s : State) : Host.Outcome State Fault Refusal :=
  .next (s.setJobKey ch p gen sealedMode kseq secret fetched)

/-- SWITCH_KGEN. -/
def State.switchKgen (s : State) (ch : Chan) (p gen t : Nat) (fetched : Bool) : State :=
  s.askKey ch opSwitchKgen p fetched (fun s p =>
    let gen := gen % 2
    let t := t % 2 ^ 64
    if s.kgenState p gen = 0 || s.flag .SEC_PART_SWITCH_PENDING p || !s.twoMicrosAhead t then s.answer ch E_SEC_STATE
    else
      let s := { s with thimble := { s.thimble with kgenSwitch := bankSet 0 s.thimble.kgenSwitch p (t * 2 + gen + 1) } }
      (s.setFld .SEC_PART_SWITCH_PENDING 1 p).answer ch 0)

def execSwitchKgen (ch : Chan) (p gen t : Nat) (fetched : Bool) (s : State) : Host.Outcome State Fault Refusal :=
  .next (s.switchKgen ch p gen t fetched)

/-- KGEN_SWITCH_TIME: F has reached T. -/
def State.kgenSwitchTime (s : State) (p : Nat) : State :=
  match bankGet 0 s.thimble.kgenSwitch p with
  | 0 => s
  | v + 1 =>
    if s.timeReached (v / 2) then (s.setFld .SEC_PART_SEND_KGEN (v % 2) p).cancelKgenSwitch p else s

def execKgenSwitchTime (p : Nat) (s : State) : Host.Outcome State Fault Refusal := .next (s.kgenSwitchTime p)

/-- The target of a pending switch. -/
def State.switchTarget (s : State) (p : Nat) : Option Nat :=
  match bankGet 0 s.thimble.kgenSwitch p with
  | 0 => none
  | v + 1 => some (v % 2)

/-- CLEAR_KGEN. -/
def State.clearKgen (s : State) (ch : Chan) (p gen : Nat) (fetched : Bool) : State :=
  s.askKey ch opClearKgen p fetched (fun s p =>
    let gen := gen % 2
    if gen = s.fld .SEC_PART_SEND_KGEN p || s.switchTarget p = some gen then s.answer ch E_SEC_STATE
    else (s.setKgen p gen 0 0).answer ch 0)

def execClearKgen (ch : Chan) (p gen : Nat) (fetched : Bool) (s : State) : Host.Outcome State Fault Refusal := .next (s.clearKgen ch p gen fetched)

/-- GET_KFLOOR. -/
def State.getKfloor (s : State) (id : Nat) : State :=
  s.ask (.session id) 0 (fun s => s.answer (.session id) 0 [s.fld64 .SEC_KFLOOR_LO .SEC_KFLOOR_HI])

def execGetKfloor (id : Nat) (s : State) : Host.Outcome State Fault Refusal := .next (s.getKfloor id)

/-! ### The mailbox (15 R480) -/

/-- MBX_CTRL.GO: only host software writes MBX_*; ignored while BUSY (15 R480, Table 15.13). -/
def State.mbxGo (s : State) (party : Party) : State :=
  if party = .mgmt || s.flag .MBX_STATUS_BUSY then s
  else
    let s := s.setFld .MBX_STATUS_BUSY 1
    if 1 ≤ s.fld .MBX_CMD_OP && s.fld .MBX_CMD_OP ≤ 7 then s else s.answer .mailbox E_SEC_TOKEN_FORMAT

def execMbxCtrlGo (party : Party) (s : State) : Host.Outcome State Fault Refusal := .next (s.mbxGo party)

/-! ### The SPDM responder (15 R473, R474) -/

/-- An SPDM request reaches the responder: over DOE instance 0, over MCTP, or in a session. `rom`: what ROM recovery does with it
(14 R431, 16 R500). -/
def State.askSpdm (s : State) (ch : Chan) (rom : State → State) (f : State → State) : State :=
  if !s.thimbleUp then s
  else
    let run (s : State) : State := if s.thimble.romRecovery then rom s else f s
    match ch with
    | .mailbox => s
    | .mgmt b => if s.busServed b then run s else s
    | .doe => run s
    | .session id => if (s.session id).isSome then run s else s

/-- A request in ROM recovery, where only measurement index 1 is served: the management port answers E_MGMT_ROM_RECOVERY (16 R500). -/
def State.romRefuse (s : State) (ch : Chan) : State :=
  match ch with
  | .mgmt _ => s.answer ch E_MGMT_ROM_RECOVERY
  | _ => s

/-- A request that the responder answers with nothing that the spec puts a value to. -/
def State.spdm (s : State) (ch : Chan) (r : Spdm) : State := s.askSpdm ch (fun s => s.romRefuse ch) (fun s => s.out (.reply ch (.spdm r)))

def execGetVersion (ch : Chan) (s : State) : Host.Outcome State Fault Refusal := .next (s.spdm ch .version)
def execGetCapabilities (ch : Chan) (s : State) : Host.Outcome State Fault Refusal := .next (s.spdm ch .capabilities)
def execNegotiateAlgorithms (ch : Chan) (s : State) : Host.Outcome State Fault Refusal := .next (s.spdm ch .algorithms)
def execChallenge (ch : Chan) (s : State) : Host.Outcome State Fault Refusal := .next (s.spdm ch .challenge)
def execChunkSend (ch : Chan) (s : State) : Host.Outcome State Fault Refusal := .next (s.spdm ch .chunkSend)
def execChunkGet (ch : Chan) (s : State) : Host.Outcome State Fault Refusal := .next (s.spdm ch .chunk)
def execSpdmUnsupportedRequest (ch : Chan) (s : State) : Host.Outcome State Fault Refusal := .next (s.spdm ch .unsupported)

/-- GET_DIGESTS, GET_CERTIFICATE: slot 0 only; another slot is not supported (Table 15.9). -/
def execGetDigests (ch : Chan) (slot : Nat) (s : State) : Host.Outcome State Fault Refusal :=
  .next (s.spdm ch (if slot = 0 then .digests else .unsupported))
def execGetCertificate (ch : Chan) (slot : Nat) (s : State) : Host.Outcome State Fault Refusal :=
  .next (s.spdm ch (if slot = 0 then .certificate else .unsupported))

/-- Block 0x10 + p: structure of p (Table 15.10). -/
def State.blockStructure (s : State) (p : Nat) : List Nat :=
  let j := s.runSlot p
  [maskOf 16 (fun q => s.quadPart q = p), ((List.range 16).map (fun q => if s.quadPart q = p then s.fld .ARM_QUAD_ROLE q * 4 ^ q else 0)).sum,
   maskOf 16 (s.ownsGroup p), maskOf 256 (fun sl => s.sliceOwner sl = some p), maskOf 32 (fun n => (s.partPorts p).contains n),
   j.elim 0 (fun j => s.fld .SLOT_CFG_JOB_TAG j), s.ownRank p, s.tenantId p, s.kgenState p 0, s.kgenState p 1,
   s.fld .SEC_PART_CKID_BOUND p, s.fld .SEC_PART_QUEUES_BOUND p]

/-- Block 0x20 + p: content of p: digest of the last full plan image, manifest digest of each valid BASE binding, number of PATCH
bindings (Table 15.10). -/
def State.blockContent (s : State) (p : Nat) : List Nat :=
  let mine := s.binds.filter (fun e => bPart e.2 = p && bValid e.2)
  let base := mine.filter (fun e => !bPatch e.2)
  (s.part p).digest :: base.map (fun e => (bankGet {} s.plinth (bObject e.2)).manifest.sha) ++ [(mine.filter (fun e => bPatch e.2)).length]

/-- Blocks 1 to 7 (Table 15.10). -/
def State.blockDevice (s : State) (k : Nat) : List Nat :=
  match k with
  | 1 => [Config.romDigest]
  | 2 => [s.thimble.running.getD Config.fwDigest, s.fld .FW_INFO_SVN]
  | 3 => [s.fld .DEVICE_ID_PART, s.fld .DEVICE_ID_STEPPING, s.fld .DEVICE_ID_GRADE, s.fld .DET_CLASS_STEPPING, s.fld .DET_CLASS_GRADE,
      s.fld .DET_CLASS_SFU, s.fld .DET_CLASS_SAMPLER, s.fld .DET_CLASS_ACC, s.fld .SEC_STATUS_FA_FUSED]
  | 4 => [s.baseDigest]
  | 5 => (List.range 4).map (fun k => s.fld .ARM_IMAGE_ID 0 k) ++ [s.fld .ARM_ACTIVE_VERSION, s.fld .ARM_ACTIVE_SVN]
  | 6 => [Config.digestOf ([s.fld64 .SEC_OPERATOR_ID_LO .SEC_OPERATOR_ID_HI] ++ s.thimble.publishers ++ [s.fld .SEC_STATUS_IDE_REQUIRED,
      s.fld .SEC_STATUS_OPEN_ALLOWED, s.fld .ARM_MIN_SVN_Q, s.fld .ARM_MIN_SVN_OP])]
  | _ => [s.fld .SEC_STATUS_FA_ACTIVE, s.fld .SEC_STATUS_OBSERVE, s.fld .SEC_BOUND_DEBUG]

/-- A requester may see the content of p (15 R474). -/
def State.seesContent (s : State) (ch : Chan) (p : Nat) : Bool :=
  !s.flag .SEC_PART_BOUND p || (match ch with
    | .session id => s.boundTo p id
    | _ => false)

/-- The measurement blocks that a requester may see; other indices are absent. -/
def State.measurements (s : State) (ch : Chan) : List (Nat × List Nat) :=
  (List.range 7).map (fun k => (k + 1, s.blockDevice (k + 1))) ++ (List.range 16).map (fun p => (0x10 + p, s.blockStructure p)) ++
    ((List.range 16).filter (s.seesContent ch)).map (fun p => (0x20 + p, s.blockContent p))

/-- GET_MEASUREMENTS: every block, or those of the indices asked for. -/
def State.getMeasurements (s : State) (ch : Chan) (idx : Option Nat) : State :=
  let sel (l : List (Nat × List Nat)) := match idx with
    | none => l
    | some k => l.filter (fun e => e.1 = k)
  s.askSpdm ch (fun s => s.out (.reply ch (.spdm (.measurements (sel [(1, s.blockDevice 1)])))))
    (fun s => s.out (.reply ch (.spdm (.measurements (sel (s.measurements ch))))))

def execGetMeasurements (ch : Chan) (idx : Option Nat) (s : State) : Host.Outcome State Fault Refusal := .next (s.getMeasurements ch idx)

def State.setSessions (s : State) (l : List Session) : State := { s with thimble := { s.thimble with sessions := l } }

/-- KEY_EXCHANGE: a session of an ID that no session has opens; the 33rd is refused. -/
def State.keyExchange (s : State) (ch : Chan) (id : Nat) : State :=
  s.askSpdm ch (fun s => s.romRefuse ch) (fun s =>
    if 32 ≤ s.thimble.sessions.length then s.out (.reply ch (.spdm .busy))
    else if (s.session id).isSome then s
    else (s.setSessions (s.thimble.sessions ++ [{ id := id }])).out (.reply ch (.spdm (.keyExchange id))))

def execKeyExchange (ch : Chan) (id : Nat) (s : State) : Host.Outcome State Fault Refusal := .next (s.keyExchange ch id)

/-- A request inside a session. -/
def State.inSession (s : State) (id : Nat) (r : Spdm) (f : State → State) : State :=
  s.askSpdm (.session id) (fun s => s) (fun s => (f s).out (.reply (.session id) (.spdm r)))

/-- FINISH: the session is secured, and its tenant known by its key (15 R465). -/
def State.finish (s : State) (id tenant : Nat) : State :=
  s.inSession id .finished (fun s => s.setSessions (s.thimble.sessions.map (fun (x : Session) => if x.id = id then { x with tenant := some tenant } else x)))

def execFinishMsg (id tenant : Nat) (s : State) : Host.Outcome State Fault Refusal := .next (s.finish id tenant)

def execHeartbeat (id : Nat) (s : State) : Host.Outcome State Fault Refusal := .next (s.inSession id .heartbeat (fun s => s))

/-- KEY_UPDATE. -/
def State.keyUpdate (s : State) (id : Nat) : State :=
  s.inSession id .keyUpdate (fun s => s.setSessions (s.thimble.sessions.map (fun (x : Session) => if x.id = id then { x with keys := x.keys + 1 } else x)))

def execKeyUpdate (id : Nat) (s : State) : Host.Outcome State Fault Refusal := .next (s.keyUpdate id)

/-- A session ends, with its grants and its nonce (15 R465). -/
def State.dropSession (s : State) (id : Nat) : State :=
  let s := (s.setSessions (s.thimble.sessions.filter (fun x => x.id ≠ id))).setNonce (2 + id) 0
  { s with thimble := { s.thimble with grants := s.thimble.grants.filter (fun e => e.2 ≠ id + 1) } }

/-- Every session ends (16 R499). -/
def State.dropSessions (s : State) : State := s.thimble.sessions.foldl (fun s x => s.dropSession x.id) s

def execEndSession (id : Nat) (s : State) : Host.Outcome State Fault Refusal := .next (s.inSession id .endSession (fun s => s.dropSession id))

end Sys2Proof.Machine
end

