-- ==== Sys2Proof/Machine/Mgmt.lean ====
section
/-! DEFINITION. Machine/Mgmt.lean: the management port: buses, MCTP and PLDM, sensors and events, who is in charge, firmware updates
(16). -/
namespace Sys2Proof

/-! ### The layout of a firmware header (16 R497, Table 16.8) -/

def FwHeader.stepping (h : FwHeader) : Nat := byteField h.bytes 0x008 1
def FwHeader.flags (h : FwHeader) : Nat := byteField h.bytes 0x009 1
def FwHeader.raiseFloor (h : FwHeader) : Bool := h.flags.testBit 0
def FwHeader.version (h : FwHeader) : Nat := byteField h.bytes 0x00C 4
def FwHeader.svn (h : FwHeader) : Nat := byteField h.bytes 0x010 4
def FwHeader.bodySize (h : FwHeader) : Nat := byteField h.bytes 0x014 4
def FwHeader.bodyDigest (h : FwHeader) : Nat := byteField h.bytes 0x030 64
def FwHeader.keyId (h : FwHeader) : Nat := byteField h.bytes 0x070 8

/-- MAGIC, FORMAT and HEADER_SIZE are as Table 16.8 has them, and the reserved bits and bytes zero. -/
def FwHeader.wellFormed (h : FwHeader) : Bool :=
  h.bytes.length = 256 && h.bytes.take 4 = [0x51, 0x46, 0x57, 0x49] && byteField h.bytes 0x004 2 = 1 && byteField h.bytes 0x006 2 = 0x100
    && h.flags < 2 && byteField h.bytes 0x00A 2 = 0 && byteField h.bytes 0x018 24 = 0 && byteField h.bytes 0x078 72 = 0

end Sys2Proof

namespace Sys2Proof.Machine
open Sys2Proof

/-! ### Buses (16 R483 to R485) -/

def busSmbus : Nat := 0
def busI3c : Nat := 1

/-- Thimble serves its buses, and this one is in service. -/
def State.busUp (s : State) (b : Nat) : Bool := s.thimbleUp && s.fld (busFld b) ≠ busIsolated

def State.setAddr (s : State) (b v : Nat) : State := { s with thimble := { s.thimble with addrs := bankSet 0 s.thimble.addrs b v } }

/-- I3C_DYNAMIC_ADDRESS: ENTDAA or SETDASA. -/
def State.i3cAddress (s : State) (b addr : Nat) : State :=
  if s.busUp b then (s.setAddr b (addr + 1)).setFld (busFld b) busI3c else s

def execI3cDynamicAddress (b addr : Nat) (s : State) : Host.Outcome State Fault Refusal := .next (s.i3cAddress b addr)

/-- I3C_RSTDAA. -/
def State.i3cReset (s : State) (b : Nat) : State := if s.busUp b then (s.setAddr b 0).setFld (busFld b) busSmbus else s

def execI3cRstdaa (b : Nat) (s : State) : Host.Outcome State Fault Refusal := .next (s.i3cReset b)

def State.setStuck (s : State) (b : Nat) (on : Bool) : State :=
  let l := s.thimble.stuck.filter (fun x => x ≠ b)
  { s with thimble := { s.thimble with stuck := if on then l ++ [b] else l } }

/-- BUS_STUCK_LOW: steps 1 and 2 of R485. -/
def State.busStuckLow (s : State) (b : Nat) : State := if s.busUp b then (s.setStuck b true).out (.busRecover b) else s

def execBusStuckLow (b : Nat) (s : State) : Host.Outcome State Fault Refusal := .next (s.busStuckLow b)

/-- BUS_ISOLATE: step 3 of R485, after a recovery that did not free the line. -/
def State.busIsolate (s : State) (b : Nat) : State :=
  if !s.busUp b || !s.thimble.stuck.contains b then s
  else
    let s := (((s.setStuck b false).setAddr b 0).setFld (busFld b) busIsolated).mgmtError E_MGMT_BUS_STUCK
    if s.fld (busFld (1 - b)) ≠ busIsolated then s.queueEvent (.busStuck b) else s

def execBusIsolate (b : Nat) (s : State) : Host.Outcome State Fault Refusal := .next (s.busIsolate b)

/-- BUS_RETURN. -/
def State.busReturn (s : State) (b : Nat) : State :=
  if s.thimbleUp && s.fld (busFld b) = busIsolated then s.setFld (busFld b) busSmbus else s

def execBusReturn (b : Nat) (s : State) : Host.Outcome State Fault Refusal := .next (s.busReturn b)

/-! ### MCTP control, PLDM base and FRU (16 R483, R486, Table 16.7) -/

/-- An answer with data. -/
def State.mctp (s : State) (b : Nat) (data : List Nat) : State := s.out (.reply (.mgmt b) (.mctp data))

/-- MCTP control is answered before an endpoint ID is assigned, and in every condition of Table 16.7. -/
def State.mctpControl (s : State) (b : Nat) (f : State → State) : State := if s.busUp b then f s else s

/-- SET_ENDPOINT_ID: an ID that MCTP reserves (0 to 7, 0xFF) is not taken. -/
def State.setEndpoint (s : State) (b eid : Nat) : State :=
  s.mctpControl b (fun s =>
    let s := if 8 ≤ eid && eid < 0xFF then { s with thimble := { s.thimble with eid := eid } } else s
    s.mctp b [s.thimble.eid])

def execSetEndpointId (b eid : Nat) (s : State) : Host.Outcome State Fault Refusal := .next (s.setEndpoint b eid)
def execGetEndpointId (b : Nat) (s : State) : Host.Outcome State Fault Refusal := .next (s.mctpControl b (fun s => s.mctp b [s.thimble.eid]))
def execGetMctpVersionSupport (b : Nat) (s : State) : Host.Outcome State Fault Refusal :=
  .next (s.mctpControl b (fun s => s.mctp b (Config.mctpData 0)))
/-- The message types of Table 16.2. -/
def execGetMessageTypeSupport (b : Nat) (s : State) : Host.Outcome State Fault Refusal :=
  .next (s.mctpControl b (fun s => s.mctp b [0x00, 0x01, 0x05, 0x06, 0x7E]))
/-- PCI vendor ID 0x1D9F. -/
def execGetVendorDefinedMsgSupport (b : Nat) (s : State) : Host.Outcome State Fault Refusal :=
  .next (s.mctpControl b (fun s => s.mctp b [0x1D9F]))

/-- Another message is taken once an endpoint ID is assigned. -/
def State.mctpMsg (s : State) (b : Nat) (f : State → State) : State := if s.busUp b && s.busServed b then f s else s

/-- MCTP_UNSUPPORTED_TYPE. -/
def execMctpUnsupportedType (b : Nat) (s : State) : Host.Outcome State Fault Refusal := .next (s.mctpMsg b (fun s => s.addFld .MGMT_BAD_MSG))

def execGettid (b : Nat) (s : State) : Host.Outcome State Fault Refusal := .next (s.mctpMsg b (fun s => s.mctp b (Config.mctpData 1)))
def execGetpldmversion (b : Nat) (s : State) : Host.Outcome State Fault Refusal := .next (s.mctpMsg b (fun s => s.mctp b (Config.mctpData 2)))
/-- The PLDM types of Table 16.2. -/
def execGetpldmtypes (b : Nat) (s : State) : Host.Outcome State Fault Refusal := .next (s.mctpMsg b (fun s => s.mctp b [0, 2, 4, 5]))
def execGetpldmcommands (b type : Nat) (s : State) : Host.Outcome State Fault Refusal :=
  .next (s.mctpMsg b (fun s => s.mctp b (Config.mctpData (16 + type))))
def execFruDataRead (b : Nat) (s : State) : Host.Outcome State Fault Refusal := .next (s.mctpMsg b (fun s => s.mctp b (Config.mctpData 3)))

/-! ### Sensors and events (16 R489, R490; 17 R515) -/

/-- Every sensor is presented; only those of the input stage while PERST_N is asserted and in ROM recovery (Table 16.7). -/
def State.sensorUp (s : State) (id : Nat) : Bool :=
  if s.flag .PWR_STATE_PERST || s.thimble.romRecovery then id = 1 || id = 2 || id = 3 || id = 10 else true

/-- GETPDR: the records of the sensors, by ID. -/
def execGetpdr (b : Nat) (s : State) : Host.Outcome State Fault Refusal :=
  .next (s.mctpMsg b (fun s => s.mctp b (((List.range 14).map (fun k => k + 1)).filter s.sensorUp)))

/-- Take the oldest n events; ALERT_N is released when none is left. -/
def State.takeEvents (s : State) (b n : Nat) : State :=
  let s := (s.out (.reply (.mgmt b) (.events (s.events.take n))))
  let s := { s with events := s.events.drop n }
  if s.events.isEmpty then s.setFld .MGMT_STATUS_ALERT 0 else s

/-- GET_EVENTS. -/
def execGetEvents (b : Nat) (s : State) : Host.Outcome State Fault Refusal := .next (s.ask (.mgmt b) 0 (fun s => s.takeEvents b 16))

/-- POLL_FOR_PLATFORM_EVENT_MESSAGE: one event. -/
def execPollForPlatformEventMessage (b : Nat) (s : State) : Host.Outcome State Fault Refusal :=
  .next (s.ask (.mgmt b) 0 (fun s => s.takeEvents b 1))

/-- Warning and critical values of sensors 6 to 10 (17 Table 17.6). -/
def warnAt : Nat → Int
  | 6 => 95 | 7 => 85 | 8 => 100 | 9 => 95 | _ => 100
def critAt : Nat → Int
  | 6 => 105 | 7 => 95 | 8 => 110 | 9 => 105 | _ => 115
/-- Trip values (17 Table 17.6). -/
def tripAt : Nat → Int
  | 6 => 110 | 7 => 100 | 8 => 115 | 9 => 110 | _ => 125

/-- Sensor of a measured block: compute die nn, 64 + n link die, 72 on the other dies, 96 + n stacks, 112 the input stage. -/
def tempSensor (b : Nat) : Nat := if b < 64 then 6 else if b < 72 then 8 else if b < 96 then 9 else if b < 112 then 7 else 10

/-- The largest latest reading of a sensor's group; none where nothing has been measured. -/
def State.groupTemp (s : State) (id : Nat) : Option Int :=
  (s.power.temps.filter (fun e => tempSensor e.1 = id)).foldl (fun m e => match m with
    | none => some e.2
    | some v => some (max v e.2)) none

/-- State of a temperature sensor: 0 below the warning value, 1 from it on, 2 from the critical value on. -/
def sensorState (id : Nat) (t : Int) : Nat := if critAt id ≤ t then 2 else if warnAt id ≤ t then 1 else 0

/-- One temperature sensor is refreshed: an event when it crosses a threshold. -/
def State.refreshTemp (s : State) (id : Nat) : State :=
  match s.groupTemp id with
  | none => s
  | some t =>
    if !s.sensorUp id then s
    else
      let st := sensorState id t
      let same : Bool := bankGet 0 s.thimble.sensors id = st
      let s := { s with thimble := { s.thimble with readings := bankSet 0 s.thimble.readings id t, sensors := bankSet 0 s.thimble.sensors id st } }
      if same then s else s.queueEvent (.sensor id st)

/-- THERM_N: asserted at a critical value, released when every reading is 3 °C below its own (16 R489). -/
def State.driveTherm (s : State) : State :=
  let temps := [6, 7, 8, 9, 10].filterMap (fun id => (s.groupTemp id).map (fun t => (id, t)))
  if temps.any (fun e => critAt e.1 ≤ e.2) then s.setFld .MGMT_STATUS_THERM 1
  else if temps.all (fun e => e.2 ≤ critAt e.1 - 3) then s.setFld .MGMT_STATUS_THERM 0
  else s

/-- Readings of the sensors that are not measured (Table 16.4): 4, 5, and 11 to 14. -/
def State.computedReading (s : State) : Nat → Int
  | 4 => s.fld .POWER_CAP
  | 5 => s.fld .POWER_TOKENS
  | 11 => let steps := ((List.range 64).filter s.awake).map (fun nn => (s.die nn).now)
    match steps.foldl max 0 with
    | 0 => 1300 | 1 => 1100 | 2 => 900 | _ => 600
  | 12 => ((List.range 32).filter (fun n => s.fld .LINK_STATUS_STATE n = linkUp)).length
  | 13 => s.fld .TIME_STATUS_STATE
  | _ => s.fld .FW_INFO_SVN

/-- SENSOR_REFRESH: the input stage's averages over the last millisecond (mV, units of 10 mA, W); the temperatures are the latest of
each die. -/
def State.sensorRefresh (s : State) (mv ca watts : Nat) : State :=
  if !s.thimbleUp then s
  else
    let s := (s.setFld .INPUT_VOLTAGE mv).setFld .INPUT_CURRENT ca
    let put (s : State) (id : Nat) (v : Int) : State :=
      if s.sensorUp id then { s with thimble := { s.thimble with readings := bankSet 0 s.thimble.readings id v } } else s
    let s := put (put (put s 1 mv) 2 ca) 3 watts
    let s := [4, 5, 11, 12, 13, 14].foldl (fun s id => put s id (s.computedReading id)) s
    ([6, 7, 8, 9, 10].foldl State.refreshTemp s).driveTherm

def execSensorRefresh (mv ca watts : Nat) (s : State) : Host.Outcome State Fault Refusal := .next (s.sensorRefresh mv ca watts)

/-! ### Who is in charge (16 R491 to R494; 10 R319) -/

/-- A register write of the management agent takes effect: Thimble runs, not in ROM recovery. -/
def State.partyServed (s : State) (party : Party) : Bool := party ≠ .mgmt || (s.thimbleUp && !s.thimble.romRecovery)

/-- TAKE_PLAN: the host link has been down for 1 s, with PERST_N released (Table 16.7). -/
def State.takePlan (s : State) (b : Nat) : State :=
  s.ask (.mgmt b) 0 (fun s =>
    if s.host.downAt ≠ 0 && s.elapsed (s.host.downAt - 1) 1000000000 && !s.flag .PWR_STATE_PERST then
      (s.setFld .CONTROL_OWNER_PLAN_MGMT 1).answer (.mgmt b) 0
    else s.answer (.mgmt b) E_MGMT_NOT_OWNER)

def execTakePlan (b : Nat) (s : State) : Host.Outcome State Fault Refusal := .next (s.takePlan b)

/-- CONTROL_OWNER.CLAIM: from host software, while the link is up. -/
def State.claimPlan (s : State) (party : Party) : State :=
  if party ≠ .mgmt && s.host.downAt = 0 then s.setFld .CONTROL_OWNER_PLAN_MGMT 0 else s

def execControlOwnerClaim (party : Party) (s : State) : Host.Outcome State Fault Refusal := .next (s.claimPlan party)

/-- What a write of POWER_CAP stores (16 R493). -/
def State.clampCap (s : State) (v : Nat) : Nat := min (max v 1500) (s.fld .POWER_ENVELOPE)

/-- POWER_CAP_WRITE; `also` is what the other party writes in the same cycle: the lower stored value wins. -/
def State.writeCap (s : State) (party : Party) (v : Nat) (also : Option Nat) : State :=
  if !s.partyServed party then s
  else
    let w := s.clampCap (v % 2 ^ 13)
    match also with
    | none => s.setFld .POWER_CAP w
    | some u => s.setFld .POWER_CAP (min w (s.clampCap (u % 2 ^ 13)))

def execPowerCapWrite (party : Party) (v : Nat) (also : Option Nat) (s : State) : Host.Outcome State Fault Refusal :=
  .next (s.writeCap party v also)

/-- A write to a register of the ENVELOPE domain: the management agent's alone (16 R492). -/
def State.envelope (s : State) (party : Party) (f : State → State) : State :=
  if party ≠ .mgmt then s.mgmtError E_MGMT_NOT_OWNER else if s.partyServed party then f s else s

/-- POWER_ENVELOPE_WRITE: a cap above the new envelope falls to it. -/
def State.writeEnvelope (s : State) (party : Party) (v : Nat) : State :=
  s.envelope party (fun s =>
    let e := min (max (v % 2 ^ 13) 1500) 3300
    let s := s.setFld .POWER_ENVELOPE e
    if e < s.fld .POWER_CAP then s.setFld .POWER_CAP e else s)

def execPowerEnvelopeWrite (party : Party) (v : Nat) (s : State) : Host.Outcome State Fault Refusal := .next (s.writeEnvelope party v)

/-- CLOCK_CAP_WRITE: every die is asked for its new step (10 R319, R320). -/
def State.writeClockCap (s : State) (party : Party) (v : Nat) : State :=
  s.envelope party (fun s => (List.range 64).foldl State.requestStep (s.setFld .CLOCK_CAP v))

def execClockCapWrite (party : Party) (v : Nat) (s : State) : Host.Outcome State Fault Refusal := .next (s.writeClockCap party v)

/-- A condition of R491 that the state shows: an edge that is down (R216), the PLL out of lock (R317), a FAILED stack (R365). -/
def State.faultPresent (s : State) : Bool :=
  s.fld .CLK_STATUS_PLL_LOCKED = 0 || (List.range 16).any (fun n => s.stackState n = stackFailed) ||
  (List.range 84).any (fun n => (List.range 6).any (fun e => (edgePeer n e).isSome && !s.flag .FAB_EDGE_UP n e))

/-- CLEAR_FAULT; `input`: the input stage still reports a fault. With the rails down the conditions of other dies are no longer
present. During the first bring-up FAULT_N stays asserted (17 R528). -/
def State.clearFault (s : State) (b : Nat) (input : Bool) : State :=
  s.ask (.mgmt b) 0 (fun s =>
    if input || (12 ≤ s.power.step && s.faultPresent) then s.answer (.mgmt b) E_MGMT_FAULT_PRESENT
    else
      let s := { s with power := { s.power with cleared := true } }
      (if s.power.up then s.releaseFaultN else s).answer (.mgmt b) 0)

def execClearFault (b : Nat) (input : Bool) (s : State) : Host.Outcome State Fault Refusal := .next (s.clearFault b input)

/-! ### Firmware update (16 R497 to R500) -/

def State.setUpdate (s : State) (u : Option FwUpdate) : State :=
  { s with thimble := { s.thimble with update := u } }.setFld .MGMT_STATUS_UPDATING (if u.isSome then 1 else 0)

/-- An update ends; its state is an event. -/
def State.endUpdate (s : State) (st : Nat) : State := (s.setUpdate none).queueEvent (.firmware st)

/-- A PLDM Type 5 request: served in every condition of Table 16.7. -/
def execRequestUpdate (b : Nat) (s : State) : Host.Outcome State Fault Refusal :=
  .next (s.mctpMsg b (fun s =>
    if s.thimble.update.isSome then s.out (.reply (.mgmt b) .pldmBusy)
    else ((s.setUpdate (some {})).queueEvent (.firmware 0)).mctp b []))

/-- The checks of the header in order; 0 when they pass (R498, step 1). -/
def State.fwCode (s : State) (h : FwHeader) : Nat :=
  if !h.wellFormed || h.stepping ≠ 0xB0 || h.bodySize % 32 ≠ 0 || h.bodySize < 32 || 8388608 < h.bodySize then E_MGMT_FW_FORMAT
  else if h.keyId ≠ Config.quinianFwKey.toNat || h.signedBy ≠ Config.quinianFwKey.toNat then E_MGMT_FW_SIGNATURE
  else if h.svn < s.fld .FW_INFO_FLOOR then E_MGMT_FW_ROLLBACK
  else 0

def State.setStored (s : State) (f : Firmware) : State := { s with thimble := { s.thimble with stored := some f } }

/-- The image a header describes. -/
def fwOf (h : FwHeader) (valid : Bool) : Firmware :=
  { valid := valid, version := h.version, svn := h.svn, raiseFloor := h.raiseFloor, digest := h.bodyDigest }

/-- The stored image is marked invalid (R498, step 3). -/
def State.fwBroken (s : State) (h : FwHeader) : State := ((s.setStored (fwOf h false)).mgmtError E_MGMT_FW_DIGEST).endUpdate 2

/-- The last byte of the body is in: its digest decides. In ROM recovery the ROM restarts from the new image (R500). -/
def State.fwComplete (s : State) (h : FwHeader) (body : List Byte) : State :=
  if sha512 body = h.bodyDigest then
    let s := (s.setStored (fwOf h true)).endUpdate 1
    { s with thimble := { s.thimble with updated := true, restarting := s.thimble.romRecovery } }
  else s.fwBroken h

/-- FIRMWARE_DATA_RECEIVE. -/
def State.fwReceive (s : State) (d : FwData) : State :=
  if !s.thimbleUp then s
  else match s.thimble.update, d with
    | some { header := none, body := _ }, .header h =>
      let code := s.fwCode h
      if code ≠ 0 then (s.mgmtError code).endUpdate 2
      else
        let s := (s.setStored (fwOf h false)).setUpdate (some { header := some h })
        { s with thimble := { s.thimble with updated := false } }
    | some { header := some h, body := l }, .body x =>
      let l := l ++ x
      if l.length < h.bodySize then s.setUpdate (some { header := some h, body := l }) else s.fwComplete h (l.take h.bodySize)
    | _, _ => s

def execFirmwareDataReceive (d : FwData) (s : State) : Host.Outcome State Fault Refusal := .next (s.fwReceive d)

/-- An update stops: before a header has passed nothing has been written, and the stored image is unchanged. -/
def State.fwStop (s : State) (code : Nat) : State :=
  match s.thimble.update with
  | none => s
  | some u => match u.header with
    | some h => s.fwBroken h
    | none => (if code = 0 then s else s.mgmtError code).endUpdate 2

/-- FIRMWARE_TRANSFER_TIMEOUT. -/
def execFirmwareTransferTimeout (s : State) : Host.Outcome State Fault Refusal := .next (if s.thimbleUp then s.fwStop E_MGMT_FW_DIGEST else s)

/-- CANCEL_UPDATE. -/
def execCancelUpdate (b : Nat) (s : State) : Host.Outcome State Fault Refusal :=
  .next (s.mctpMsg b (fun s => if s.thimble.update.isNone then s.out (.reply (.mgmt b) .pldmError) else (s.fwStop 0).mctp b []))

/-- ACTIVATE_FIRMWARE (R499). -/
def State.activate (s : State) (b : Nat) : State :=
  s.mctpMsg b (fun s =>
    if !s.thimble.updated then s.out (.reply (.mgmt b) .pldmError)
    else if (List.range 16).all (fun p => s.pstate p = .idle && !s.flag .SEC_PART_BOUND p) then
      let s := ((s.dropSessions).queueEvent (.firmware 3)).mctp b []
      { s with thimble := { s.thimble with restarting := true } }
    else
      ((s.setFld .MGMT_STATUS_ACTIVATE_PENDING 1).queueEvent (.firmware 4)).answer (.mgmt b) E_MGMT_ACTIVATE_BUSY)

def execActivateFirmware (b : Nat) (s : State) : Host.Outcome State Fault Refusal := .next (s.activate b)

/-- The ROM starts the stored image, or stays in ROM recovery when it is marked invalid or fails its checks (R500). An image that raises
the floor has booted (R499). -/
def State.romStart (s : State) : State :=
  match s.thimble.stored with
  | none => { s with thimble := { s.thimble with romRecovery := false } }
  | some f =>
    if !f.valid then { s with thimble := { s.thimble with romRecovery := true } }.assertFaultN
    else
      let s := { s with thimble := { s.thimble with romRecovery := false, updated := false, running := some f.digest } }
      let s := ((s.setFld .FW_INFO_VERSION_MINOR f.version).setFld .FW_INFO_SVN f.svn).setFld .MGMT_STATUS_ACTIVATE_PENDING 0
      if f.raiseFloor then s.setFld .FW_INFO_FLOOR (max (s.fld .FW_INFO_FLOOR) f.svn) else s

/-- THIMBLE_RESTART_DONE. Out of ROM recovery the bring-up goes on with the new firmware's start (17 Table 17.9, step 4). -/
def State.restartDone (s : State) : State :=
  if !s.thimble.restarting then s else { s with thimble := { s.thimble with restarting := false } }.romStart

def execThimbleRestartDone (s : State) : Host.Outcome State Fault Refusal := .next s.restartDone

end Sys2Proof.Machine
end

