-- ==== Sys2Proof/Machine/Reset.lean ====
section
/-! DEFINITION. Machine/Reset.lean: what a reset keeps, power errors, moves to AO and options (17 R503 to R512, R517 to R525). -/
namespace Sys2Proof.Machine
open Sys2Proof

/-- Power states (17 Table 17.3). -/
def pwrAo : Nat := 1
def pwrIdle : Nat := 2
def pwrRun : Nat := 3

/-! ### What is kept (17 Table 17.7) -/

/-- The field with a number and its register. -/
def rowOf (c : Nat) : Option RegRow := regRows.find? (fun r => r.id = c / 32)

/-- Fields of Thimble's store, fuses and INPUT_EVENTS, and the level of PERST_N: kept by power-on reset (15 R453, 16 R499, 17 R509,
R518); and the eFuse, which closes again only as 17 R506 says (log entry 95). -/
def keptAtPowerOn (c : Nat) : Bool :=
  let fs : List Fld := [.SEC_STATUS_OPERATOR, .SEC_STATUS_IDE_REQUIRED, .SEC_STATUS_OPEN_ALLOWED, .SEC_STATUS_FA_FUSED, .SEC_STATUS_PUBLISHERS,
    .SEC_OPERATOR_ID_LO, .SEC_OPERATOR_ID_HI, .SEC_KFLOOR_LO, .SEC_KFLOOR_HI, .ARM_MIN_SVN_Q, .ARM_MIN_SVN_OP, .FW_INFO_FLOOR,
    .FW_INFO_VERSION_MINOR, .FW_INFO_SVN, .INPUT_EVENTS_REVERSE, .INPUT_EVENTS_EFUSE_TRIP, .INPUT_EVENTS_OV_TRIP, .INPUT_EVENTS_BROWNOUT,
    .INPUT_EVENTS_WATCHDOG, .INPUT_EVENTS_MGMT_CYCLE, .INPUT_EVENTS_THERMAL_TRIP, .INPUT_EVENTS_SENSE_OPEN, .INPUT_STATUS_EFUSE_OPEN, .PWR_STATE_PERST]
  fs.any (fun f => f.code = c)

/-- Blocks of the always-on domain: TD, KD and the input stage. -/
def alwaysOn : RegGroup → Bool
  | .globG | .timeG | .timeT | .secG | .secP | .mgmtG | .pwrG => true
  | _ => false

/-- Fields that PERST_N keeps: those of the always-on domain and every RWS field; what a binding or a grant shows ends with it (15 R463,
R467). -/
def keptAtPerst (c : Nat) : Bool :=
  let gone : List Fld := [.SEC_STATUS_OBSERVE, .SEC_BOUND_TENANT, .SEC_BOUND_DEBUG, .SEC_PART_BOUND, .SEC_PART_DEBUG, .SEC_PART_HBM_TENANT,
    .SEC_PART_CKID_BOUND, .SEC_PART_QUEUES_BOUND, .SEC_PART_KGEN0, .SEC_PART_KGEN1, .SEC_PART_SEND_KGEN, .SEC_PART_SWITCH_PENDING]
  let also : List Fld := [.ARM_MIN_SVN_Q, .ARM_MIN_SVN_OP, .ARM_COUNT]
  !gone.any (fun f => f.code = c) && (also.any (fun f => f.code = c) ||
    (rowOf c).elim false (fun r => alwaysOn r.group || r.fields.any (fun f => f.code = c && f.acc = .RWS)))

/-- The fields at their reset values, but for those kept. -/
def State.resetRegs (s : State) (kept : Nat → Bool) : List (Nat × Nat) :=
  (s.regs.filter (fun e => kept (e.1 % 16384))).foldr (fun e l => bankIns e.1 e.2 l) State.reset.regs

/-- Power-on reset of every domain; what carries on is Plinth, the fuses, Thimble's store and INPUT_EVENTS. The commands waiting, the
outputs and the free values are the model's own. -/
def State.powerOn (s : State) : State :=
  { State.reset with
    pending := s.pending, outs := s.outs, free := s.free, regs := s.resetRegs keptAtPowerOn, plinth := s.plinth, mem := { plinthData := s.mem.plinthData },
    thimble := { publishers := s.thimble.publishers, storeBad := s.thimble.storeBad, stored := s.thimble.stored, running := s.thimble.running },
    power := { reversed := s.power.reversed, aoShort := s.power.aoShort, thermal := s.power.thermal, temps := s.power.temps } }

/-- Every block outside the always-on domain loses its state; bindings and debug grants end, sessions and their grants stay (17 Table
17.7; 15 R463, R467; 10 R321; 11 R370; 19 R545). -/
def State.offAo (s : State) : State :=
  { State.reset with
    pending := s.pending, outs := s.outs, free := s.free, regs := s.resetRegs keptAtPerst, plinth := s.plinth, mem := { plinthData := s.mem.plinthData },
    hbmPairs := s.hbmPairs, hbmDraws := s.hbmDraws, events := s.events, raw := s.raw, obs := { snapshots := s.obs.snapshots, aggAt := s.raw }, clock := { s.unlockRef.clock with ppsOut := none, copies := [] },
    thimble := { s.thimble with observeEnd := 0, debugEnd := [], kgenSwitch := [] },
    host := { downAt := if s.host.downAt = 0 then s.raw + 1 else s.host.downAt },
    power := { s.power with step := min s.power.step 4, rail := 0, go := false, gate := [] } }

/-! ### Power errors and states (17 R511, R531) -/

/-- Record a power error, with the rail or block number where it has one. -/
def State.pwrError (s : State) (code : Nat) (item : Option Nat := none) : State :=
  let s := s.recordFirst .PWR_ERROR_CODE .PWR_ERROR_MULTI code
  let s := match item with
    | some k => if s.flag .PWR_ERROR_INFO_VALID then s else (s.setFld .PWR_ERROR_INFO_ITEM k).setFld .PWR_ERROR_INFO_VALID 1
    | none => s
  s.raiseVector 0

/-- PWR_STATE.STATE takes a value; TIME_STATUS.COARSE is set in AO; a change is a change in power status (10 R321, 14 Table 14.10). -/
def State.setPwr (s : State) (st : Nat) : State :=
  let same : Bool := s.fld .PWR_STATE_STATE = st
  let s := (s.setFld .PWR_STATE_STATE st).setFld .TIME_STATUS_COARSE (if st = pwrAo then 1 else 0)
  if same then s else s.raiseVector 0

/-- The device drops to AO: the rails fall, no move runs, and a sleeve reset under way ends with it (17 R527). -/
def State.dropAo (s : State) : State :=
  let s := ((s.offAo.setPwr pwrAo).setFld .PWR_STATE_MOVING 0).setFld .PWR_STATE_TARGET pwrRun
  if s.fld .SLEEVE_STATUS_STATE = 1 || s.fld .SLEEVE_STATUS_STATE = 2 then s.setFld .SLEEVE_STATUS_STATE 0 else s

/-! ### The input stage (17 R503 to R509) -/

def State.setPower (s : State) (x : Power) : State := { s with power := x }

/-- The input is gone altogether, and what the input stage holds with it: INPUT_EVENTS, an open eFuse, a thermal lock (R509). -/
def State.inputLost (s : State) : State :=
  ((s.dropFlds (fun c i => c / 32 = Fld.INPUT_EVENTS_REVERSE.code / 32 && i = 0)).setFld .INPUT_STATUS_EFUSE_OPEN 0).setPower { s.power with thermal := false, dark := true }

/-- INPUT_BROWNOUT; `lost`: the input is gone altogether (R504, R509). -/
def State.brownout (s : State) (lost : Bool) : State :=
  let s := s.powerOn
  let s := s.setPower { s.power with brownout := !lost }
  if lost then s.inputLost else s.setFld .INPUT_EVENTS_BROWNOUT 1

def execInputBrownout (lost : Bool) (s : State) : Host.Outcome State Fault Refusal := .next (s.brownout lost)

/-- POR_RELEASE: the input has stayed above the turn-on threshold for 10 ms (R504, R505, R519). -/
def State.porRelease (s : State) : State :=
  if !s.power.por || s.power.railsOff || s.power.aoShort then s
  else
    let s := (s.setFld .RESET_CAUSE_POR_COLD (!s.power.brownout).toNat).setFld .RESET_CAUSE_POR_BROWNOUT s.power.brownout.toNat
    let s := (s.setFld .RESET_CAUSE_PIN 0).setFld .TIME_STATUS_COARSE 1
    let s := if s.power.reversed then s.setFld .INPUT_EVENTS_REVERSE 1 else s
    s.setPower { s.power with por := false, brownout := false, reversed := false, dark := false, step := 2, watchdog := s.raw }

def execPorRelease (s : State) : Host.Outcome State Fault Refusal := .next s.porRelease

/-- INPUT_LOW: the input enters the band from 36 V to 38 V, or leaves it (R504). -/
def execInputLow (on : Bool) (s : State) : Host.Outcome State Fault Refusal :=
  .next (if s.power.por then s else if on then (s.setFld .INPUT_STATUS_LOW 1).pwrError E_PWR_INPUT_LOW else s.setFld .INPUT_STATUS_LOW 0)

/-- INPUT_HIGH: above 55 V for 1 ms, or no longer (R503). -/
def execInputHigh (on : Bool) (s : State) : Host.Outcome State Fault Refusal :=
  .next (if s.power.por then s else s.setFld .INPUT_STATUS_HIGH on.toNat)

/-- The eFuse opens the main path: the device is in AO, with FAULT_N asserted (R506). -/
def State.openEfuse (s : State) : State :=
  let s := s.dropAo.setFld .INPUT_STATUS_EFUSE_OPEN 1
  (s.setPower { s.power with cleared := false, next := 0 }).assertFaultN

/-- OVERVOLTAGE_TRIP (R507). -/
def execOvervoltageTrip (s : State) : Host.Outcome State Fault Refusal :=
  .next (if s.power.por then s else ((s.openEfuse).setFld .INPUT_EVENTS_OV_TRIP 1).pwrError E_PWR_OVERVOLTAGE)

/-- REVERSE_POLARITY: nothing is powered, and the latch is charged (R505). -/
def State.reverse (s : State) : State :=
  let s := s.powerOn
  (s.setPower { s.power with reversed := true }).inputLost

def execReversePolarity (s : State) : Host.Outcome State Fault Refusal := .next s.reverse

/-- EFUSE_TRIP; `aoPath`: the short lies on the always-on path, which leaves TD and KD unpowered (R506). -/
def State.efuseTrip (s : State) (aoPath : Bool) : State :=
  let s := if s.power.por then (s.setFld .INPUT_EVENTS_EFUSE_TRIP 1).setFld .INPUT_STATUS_EFUSE_OPEN 1
    else ((s.openEfuse).setFld .INPUT_EVENTS_EFUSE_TRIP 1).pwrError E_PWR_EFUSE_TRIP
  if aoPath then s.powerOn.setPower { s.powerOn.power with aoShort := true } else s

def execEfuseTrip (aoPath : Bool) (s : State) : Host.Outcome State Fault Refusal := .next (s.efuseTrip aoPath)

/-- AO_PATH_RETRY: the always-on path carries again once its short has cleared (R506). -/
def execAoPathRetry (clear : Bool) (s : State) : Host.Outcome State Fault Refusal :=
  .next (if clear then s.setPower { s.power with aoShort := false } else s)

/-- SENSE_OPEN and SENSE_RESTORE (R508). -/
def execSenseOpen (s : State) : Host.Outcome State Fault Refusal :=
  .next (if s.power.por then s else ((s.setFld .INPUT_STATUS_SENSE_OPEN 1).setFld .INPUT_EVENTS_SENSE_OPEN 1).pwrError E_PWR_SENSE_OPEN)
def execSenseRestore (s : State) : Host.Outcome State Fault Refusal := .next (s.setFld .INPUT_STATUS_SENSE_OPEN 0)

/-- WATCHDOG_RESTART (R509). -/
def execWatchdogRestart (s : State) : Host.Outcome State Fault Refusal :=
  .next (if s.power.por then s else s.setPower { s.power with watchdog := s.raw })

/-- Every rail is removed for an off time: a power-on reset (R509; 16 R496). -/
def State.removeRails (s : State) (f : Fld) : State :=
  let s := s.powerOn.setFld f 1
  s.setPower { s.power with railsOff := true }

/-- WATCHDOG_EXPIRE. -/
def execWatchdogExpire (s : State) : Host.Outcome State Fault Refusal :=
  .next (if !s.power.por && s.elapsed s.power.watchdog 1000000000 then s.removeRails .INPUT_EVENTS_WATCHDOG else s)

/-- POWER_CYCLE, served in ROM recovery too: the reply precedes the fall of the rails (16 R496, Table 16.7). No rule states the code of
the reply to an off time outside 1 to 60 s: a free value (log entry 3). -/
def State.powerCycle (s : State) (b seconds : Nat) : State :=
  if !s.thimbleUp || !s.busServed b then s
  else if seconds = 0 || 60 < seconds then
    let (c, s) := s.draw
    s.out (.reply (.mgmt b) (.code (c.toNat % 2 ^ 16) []))
  else ((s.out (.reply (.mgmt b) (.code 0 []))).removeRails .INPUT_EVENTS_MGMT_CYCLE).setFld .INPUT_STATUS_EFUSE_OPEN 0

def execPowerCycle (b seconds : Nat) (s : State) : Host.Outcome State Fault Refusal := .next (s.powerCycle b seconds)

/-- RAILS_RESTORE: the off time has run out. -/
def execRailsRestore (s : State) : Host.Outcome State Fault Refusal := .next (s.setPower { s.power with railsOff := false })

/-! ### PERST_N (17 R517 to R519, 18 R535, R538) -/

/-- PERST_ASSERT. -/
def State.perstAssert (s : State) : State :=
  if s.flag .PWR_STATE_PERST then s
  else if s.power.por then s.setFld .PWR_STATE_PERST 1
  else
    let loading : Bool := 3 ≤ s.power.step && s.fld .OPTB_STATUS_APPLIED = 0
    let s := s.dropAo.setFld .PWR_STATE_PERST 1
    let s := { s with clock := { s.clock with hasHeld := false, pllFailed := false } }
    let s := (s.setFld .RESET_CAUSE_PIN 1).setFld .RESET_CAUSE_PIN_COUNT (min 255 (s.fld .RESET_CAUSE_PIN_COUNT + 1))
    s.setPower { s.power with next := 0, abandoned := loading }

def execPerstAssert (s : State) : Host.Outcome State Fault Refusal := .next s.perstAssert

/-- PERST_RELEASE: options are loaded again, and the bring-up runs from step 5. While power-on reset is asserted nothing more happens. -/
def State.perstRelease (s : State) : State :=
  if !s.flag .PWR_STATE_PERST then s
  else
    let s := s.setFld .PWR_STATE_PERST 0
    if s.power.por then s else (s.setFld .OPTB_STATUS_APPLIED 0).setPower { s.power with abandoned := false }

def execPerstRelease (s : State) : Host.Outcome State Fault Refusal := .next s.perstRelease

/-- PERST_GLITCH (18 R538); power-on reset holds PIN_EVENTS at zero (18 R542). -/
def execPerstGlitch (s : State) : Host.Outcome State Fault Refusal := .next (if s.power.por then s else s.setFld .PIN_EVENTS_PERST_GLITCH 1)

/-! ### Options (17 R520 to R525) -/

/-- Value and complement byte of option pair k. -/
def optValue (k : Nat) : Nat := (if k < 4 then Config.optb0 / 256 ^ k else Config.optb1 / 256 ^ (k - 4)) % 256

/-- Reserved bits of the value byte of pair k (Table 17.10). -/
def optReserved (k : Nat) : Nat := match k with
  | 0 => 0xF0 | 1 => 0xE0 | 2 => 0xF0 | _ => 0xFF

def optValid (k : Nat) : Bool := Config.optbComp k % 256 = 255 - optValue k && optValue k &&& optReserved k = 0
def optBlank (k : Nat) : Bool := Config.optbComp k % 256 = 255 && optValue k = 255

/-- The option bytes are read and judged: OPTB_STATUS.BAD and E_PWR_OPTION_BYTES for each invalid pair. -/
def State.judgeOptions (s : State) : State :=
  (List.range 8).foldl (fun s k => if optValid k || optBlank k then s else (s.setBit .OPTB_STATUS_BAD k true).pwrError E_PWR_OPTION_BYTES) s

/-- Fields that OB1 and OB2 set (Table 17.10); those of OB2 are power-on values. -/
def State.applyOptions (s : State) (first : Bool) : State :=
  let v := optValue 1
  let s := if optValid 1 then
      (List.range 32).foldl (fun s n => ((s.setFld .LINK_CTRL_RATE_MASK v n).setFld .LINK_CTRL_CAL_EN (v / 8) n).setFld .LINK_CTRL_HALF_WIDTH_EN (v / 16) n) s
    else s
  let w := optValue 2
  if first && optValid 2 then ((s.setFld .TIME_MODE w).setRole (w / 2)).setFld .TIME_CTRL_PPS_OUT_EN (w / 8) else s

/-- OPTION_LOAD: the averaged code of STRAP_SEL (R520, R521, R523 to R525). The first loading after power-on sets the management
address. BOOT = HOLD waits for a SET_POWER_STATE that has not come (R522). -/
def State.optionLoad (s : State) (code : Nat) : State :=
  let ready : Bool := !s.power.por && 3 ≤ s.power.step && !s.thimble.romRecovery && !s.thimble.restarting && s.fld .OPTB_STATUS_APPLIED = 0
  if !ready || s.power.abandoned then s
  else
    let code := code % 1024
    let first : Bool := !s.power.loaded
    let open_ : Bool := 992 ≤ code
    let choice := (code + 32) / 64 % 16
    let s := if !first && s.fld .STRAP_READ_CHOICE ≠ choice then s.setFld .STRAP_READ_CHANGED 1 else s
    let s := ((s.setFld .STRAP_READ_CODE code).setFld .STRAP_READ_CHOICE choice).setFld .STRAP_READ_OPEN open_.toNat
    let s := if open_ then s.pwrError E_PWR_STRAP_OPEN else s
    let s := if first then s.setFld .STRAP_READ_ADDR_OFFSET choice else s
    let fused : Bool := s.flag .OPTB_STATUS_FUSE_EN
    let s := if fused then s.judgeOptions else s
    let fromOb : Bool := fused && optValid 0
    let mode := if fromOb then optValue 0 / 4 % 2 else choice / 4 % 2
    let boot := if fromOb then optValue 0 / 8 % 2 else choice / 8 % 2
    let s := ((s.setFld .STRAP_READ_HOST_MODE mode).setFld .STRAP_READ_BOOT boot).setFld .STRAP_READ_FROM_OPTB fromOb.toNat
    let s := if fused then s.applyOptions first else s
    let go : Bool := boot = 0 || s.power.go
    let s := (s.setFld .OPTB_STATUS_APPLIED 1).setFld .PWR_STATE_HOLD_BOOT (!go).toNat
    s.setPower { s.power with loaded := true, step := max s.power.step 4, go := go }

def execOptionLoad (code : Nat) (s : State) : Host.Outcome State Fault Refusal := .next (s.optionLoad code)

end Sys2Proof.Machine
end

