-- ==== Sys2Proof/Machine/Power.lean ====
section
/-! DEFINITION. Machine/Power.lean: the bring-up, power states, gated domains, temperatures and the sleeve (17 R510 to R516, R526 to
R528; 18 R539). -/
namespace Sys2Proof.Machine
open Sys2Proof

/-! ### Moves (17 R512) -/

/-- The pseudo-channels of every stack that has not failed in self-refresh or out of it (17 R514). -/
def State.setChannels (s : State) (st : DomState) : State :=
  let on := (List.range 512).filter (fun k => s.stackState (k / 32) ≠ stackFailed && st ≠ .off)
  { s with domains := s.domains.filter (fun e => e.1 < 96) ++ on.map (fun k => (96 + k, ({ st := st } : Domain))) }

/-- A move of a running device ends: HBM in or out of self-refresh, compute dies off or on. -/
def State.settle (s : State) (st : Nat) : State :=
  if st = pwrIdle then
    let s := (List.range 16).foldl (fun s n => if s.stackState n = stackFailed then s else s.setStackState n stackSelfRefresh) s
    (((List.range 64).foldl (fun s nn => s.setDomain nn {}) s).setChannels .off).setPwr pwrIdle
  else if st = pwrRun then
    let s := (List.range 16).foldl (fun s n => if s.stackState n = stackFailed then s else (s.setStackState n stackReady).drainStack n) (s.setChannels .on)
    ((List.range 64).foldl (fun s nn => s.setDieDomain nn { st := .on }) s).setPwr pwrRun
  else
    let s := s.dropAo
    (List.range 32).foldl (fun s n => s.setFld .LINK_STATUS_STATE linkDown n) s

/-- Why a move is refused; 0 when it is not (R512, R516). -/
def State.moveCode (s : State) (from_ st : Nat) : Nat :=
  let cool : Bool := s.power.temps.all (fun e => e.2 < warnAt (tempSensor e.1))
  if s.power.thermal && !(cool && s.power.cleared) then E_PWR_STATE_BUSY
  else if st = pwrIdle && from_ = pwrRun && (List.range 16).any (fun p => (s.pstate p).active || s.pstate p = .armed) then E_PWR_STATE_BUSY
  else if st = pwrAo && from_ ≠ pwrAo && (List.range 16).any (fun p => s.flag .SEC_PART_BOUND p) then E_PWR_STATE_BUSY
  else 0

/-- A move starts. Out of AO the bring-up runs from step 5. -/
def State.startMove (s : State) (st : Nat) : State :=
  let s := ((s.setFld .PWR_STATE_TARGET st).setFld .PWR_STATE_MOVING 1).setFld .PWR_STATE_HOLD_BOOT 0
  s.setPower { s.power with go := s.power.go || (s.fld .PWR_STATE_STATE = pwrAo && st ≠ pwrAo) }

/-- An accepted SET_POWER_STATE closes the eFuse if CLEAR_FAULT has been accepted since it opened (R506), and ends a thermal lock (R516). -/
def State.closeEfuse (s : State) : State :=
  let s := if s.power.cleared then s.setFld .INPUT_STATUS_EFUSE_OPEN 0 else s
  s.setPower { s.power with thermal := false }

/-- A request for a state that no move stands in the way of. -/
def State.requestMove (s : State) (st : Nat) : State := if s.fld .PWR_STATE_STATE = st then s else s.startMove st

/-- SET_POWER_STATE. -/
def State.setPowerState (s : State) (b st : Nat) : State :=
  s.ask (.mgmt b) 0 (fun s =>
    let moving : Bool := s.flag .PWR_STATE_MOVING
    let code := s.moveCode (if moving then s.fld .PWR_STATE_TARGET else s.fld .PWR_STATE_STATE) st
    if code ≠ 0 then (s.pwrError code).answer (.mgmt b) code
    else
      let s := s.closeEfuse
      (if moving then s.setPower { s.power with next := st } else s.requestMove st).answer (.mgmt b) 0)

def execSetPowerState (b : Nat) (st : Fin 3) (s : State) : Host.Outcome State Fault Refusal := .next (s.setPowerState b (st.val + 1))

/-- A move has ended: the newest request made meanwhile is carried out. -/
def State.moveEnd (s : State) : State :=
  let st := s.power.next
  let s := (s.setFld .PWR_STATE_MOVING 0).setPower { s.power with next := 0 }
  if st = 0 then s
  else if s.moveCode (s.fld .PWR_STATE_STATE) st ≠ 0 then s.pwrError E_PWR_STATE_BUSY
  else s.requestMove st

/-- POWER_STATE_MOVE_DONE: a move other than a bring-up out of AO. -/
def State.moveDone (s : State) : State :=
  if !s.flag .PWR_STATE_MOVING || s.fld .PWR_STATE_STATE = pwrAo then s
  else
    let s := s.settle (s.fld .PWR_STATE_TARGET)
    s.moveEnd

def execPowerStateMoveDone (s : State) : Host.Outcome State Fault Refusal := .next s.moveDone

/-! ### Rails (17 R510) -/

/-- A rail is rising: 1 to 7 in step 5, 8 in step 6 of Table 17.9. -/
def State.railRising (s : State) : Bool :=
  (s.power.step = 5 && s.power.rail < 7) || (s.power.step = 6 && s.power.rail = 7)

/-- RAIL_IN_REGULATION. -/
def execRailInRegulation (s : State) : Host.Outcome State Fault Refusal :=
  .next (if s.railRising then s.setPower { s.power with rail := s.power.rail + 1 } else s)

/-- RAIL_TIMEOUT: the raised rails fall again. -/
def State.railTimeout (s : State) : State :=
  if !s.railRising then s
  else
    let k := s.power.rail + 1
    (((s.dropAo).pwrError E_PWR_RAIL_FAULT (some k)).setPower { s.dropAo.power with next := 0 }).assertFaultN

def execRailTimeout (s : State) : Host.Outcome State Fault Refusal := .next s.railTimeout

/-! ### The bring-up (17 R528, Table 17.9) -/

/-- Step 3: the ROM measures the firmware and checks the store; the PLL locks to LOCAL (15 R453, R456; 16 R500). -/
def State.bringRom (s : State) (storeBad : Bool) : State :=
  let s := (s.setFld .CLK_STATUS_PLL_LOCKED 1).setFld .CLK_STATUS_REF_SEL 2
  let s := if storeBad then { s with thimble := { s.thimble with storeBad := true } }.secError E_SEC_STORE else s
  s.romStart

/-- Step 5: the rails start; the main PLL locks again, to the first good candidate, unless it has failed since power-on or PERST_N (10 R314,
R315, R317). -/
def State.bringRails (s : State) : State :=
  (if s.clock.pllFailed then s else (s.setFld .CLK_STATUS_PLL_LOCKED 1).lockBest).setFld .PWR_STATE_MOVING 1

/-- Step 6: SYS_REF and TIME reach every die. -/
def State.bringTime (s : State) : State :=
  (s.setFld .TIME_STATUS_COARSE 0).dropFlds (fun c _ => c = Fld.LINK_STATUS_STATE.code)

/-- Step 7: compute dies at their steps; edges that do not train are down (07 R216). -/
def State.bringEdges (s : State) (edges : List (Nat × Nat)) : State :=
  let s := (List.range 64).foldl (fun s nn => (s.setDomain nn { st := .on }).setDie nn { step := s.wantedStep nn + 1 }) s
  edges.foldl (fun s e => s.edgeFail e.1 e.2 true) s

/-- Step 8: every SRAM filled with zero in STARTUP mode (05 R184). -/
def State.bringSram (s : State) : State := (s.clearCores (fun _ => true)).clearGroups (fun _ => true)

/-- Step 9: HBM key pairs drawn, stacks trained (11 R355, R365). -/
def State.bringStacks (s : State) (failed : List Nat) : State :=
  let s := (List.range 17).foldl (fun s p => s.drawPair p) s
  ((List.range 16).foldl (fun s n => if failed.contains n then s.stackFail n else s.setStackState n stackReady) s).setChannels .on

/-- Step 10: the boot base is in force; it is that of the firmware that runs (02 R75). SPAD_MODE becomes NORMAL, or TEST while failure
analysis is granted (05 R172). A Plinth object found in WRITING or ERASING is erased (12 R385). -/
def State.bringBase (s : State) : State :=
  let s := match s.thimble.running with
    | some d => (((s.setFld .ARM_ACTIVE_VERSION (Config.bootOf d 0)).setFld .ARM_ACTIVE_SVN (Config.bootOf d 1)).setWords .ARM_IMAGE_ID 4
        (Config.bootOf d 2)).setWords .ARM_BASE_DIGEST 16 (Config.bootOf d 3)
    | none => (((s.setFld .ARM_ACTIVE_VERSION Config.bootVersion).setFld .ARM_ACTIVE_SVN Config.bootSvn).setWords .ARM_IMAGE_ID 4
        Config.bootImageId).setWords .ARM_BASE_DIGEST 16 Config.bootDigest
  let s := (s.addFld .ARM_COUNT).setFld .SPAD_MODE (if s.flag .SEC_STATUS_FA_ACTIVE then 2 else 0)
  let left := s.plinth.filter (fun e => e.2.state = objWriting || e.2.state = objErasing)
  if left.isEmpty then s
  else (left.foldl (fun s e => s.setObj e.1 { e.2 with state := objErasing }) s).setFld .PLINTH_STATUS_OP 3

/-- Step 11: the state moved to is reached. -/
def State.bringState (s : State) : State :=
  let st := s.fld .PWR_STATE_TARGET
  (if st = pwrIdle then s.settle pwrIdle else s.setPwr pwrRun).moveEnd

/-- Step 12: FAULT_N released unless a condition of R491 is present; a later bring-up leaves it as it is (18 R535). Configuration space
is live. -/
def State.bringLive (s : State) : State :=
  let s := if s.power.up || s.faultPresent then s else s.releaseFaultN
  { s with host := { s.host with ready := true } }.setPower { s.power with up := true }

/-- What must hold for a step beyond the one before being complete. -/
def State.stepReady (s : State) (k : Nat) : Bool :=
  match k with
  | 3 => true
  | 5 => s.power.go && !s.flag .PWR_STATE_PERST && !s.flag .INPUT_STATUS_EFUSE_OPEN && s.flag .OPTB_STATUS_APPLIED
  | 6 => s.power.rail = 7
  | 7 => s.power.rail = 8
  | _ => 8 ≤ k

/-- BRING_UP: step k of Table 17.9 completes, 3 and 5 to 12; `storeBad`: the store fails its check; the edges and stacks that do not
train. -/
def State.bringUp (s : State) (k : Nat) (storeBad : Bool) (edges : List (Nat × Nat)) (untrained : List Nat) : State :=
  if s.power.por || s.thimble.romRecovery || s.thimble.restarting || s.power.step + 1 ≠ k || !s.stepReady k then s
  else
    let s := match k with
      | 3 => s.bringRom storeBad
      | 5 => s.bringRails
      | 6 => s.bringTime
      | 7 => s.bringEdges edges
      | 8 => s.bringSram
      | 9 => s.bringStacks untrained
      | 10 => s.bringBase
      | 11 => s.bringState
      | 12 => s.bringLive
      | _ => s
    s.setPower { s.power with step := k, go := s.power.go && k < 5 }

def execBringUp (k : Nat) (storeBad : Bool) (edges : List (Nat × Nat)) (untrained : List Nat) (s : State) : Host.Outcome State Fault Refusal :=
  .next (s.bringUp k storeBad edges untrained)

/-! ### Gated domains (17 R513, R514, Table 17.4) -/

/-- CORE_STATUS.STATE (03 Table 3.8): 0 IDLE, 1 ISSUING, 2 TICK_WAIT, 3 BLOCKED, 4 BREAK, 5 ENDED, 6 ERROR. -/
def State.coreStatus (s : State) (g : Nat) : Nat :=
  let c := s.core g
  let p := s.corePart g
  if s.pstate p = .idle || s.pstate p = .loaded || s.pstate p = .armed then 0
  else match c.cp with
    | .error => 6
    | .ended => 5
    | .run =>
      if c.fired ≠ 0 then 4
      else if c.slotWait || c.issueBlocked then 3
      else if s.planTick p < c.tick then 2
      else 1

/-- Condition k mod 2 under which compute die k div 2 gates in RUN (R513): 0 its partition is IDLE; 1, with IDLE_US set, it is RUNNING
and every core of the die waits for its tick or has ended. -/
def State.gateHolds (s : State) (k : Nat) : Bool :=
  let p := s.diePart (k / 2)
  s.fld .PWR_STATE_STATE = pwrRun &&
    (if k % 2 = 0 then s.pstate p = .idle
     else s.pstate p = .running && s.flag .PWR_GATE_CFG
       && (List.range 96).all (fun j => s.coreStatus (k / 2 * 96 + j) = 2 || s.coreStatus (k / 2 * 96 + j) = 5))

/-- The gate timers: since when each condition has held. -/
def State.passGates (s : State) : State :=
  if s.fld .PWR_STATE_STATE ≠ pwrRun then s
  else
    let held := (List.range 128).filter s.gateHolds
    s.setPower { s.power with gate := held.map (fun k => (k, if bankGet 0 s.power.gate k = 0 then s.raw + 1 else bankGet 0 s.power.gate k)) }

/-- The condition has held for its whole interval: 1 ms, or IDLE_US. -/
def State.gateDue (s : State) (k : Nat) : Bool :=
  s.gateHolds k && bankGet 0 s.power.gate k ≠ 0 &&
    s.elapsed (bankGet 0 s.power.gate k - 1) (if k % 2 = 0 then 1000000 else s.fld .PWR_GATE_CFG * 1000)

/-- DIE_GATE_TIMER (R513). -/
def State.dieGate (s : State) (nn : Nat) : State :=
  if s.gateDue (2 * nn) || s.gateDue (2 * nn + 1) then s.setDomain nn (s.domain nn).disable else s

def execDieGateTimer (nn : Nat) (s : State) : Host.Outcome State Fault Refusal := .next (s.dieGate nn)

/-- The number of a port from its domain's. -/
def isPortDom (k : Nat) : Bool := 64 ≤ k && k < 96

/-- The events of Table 17.4 on a domain; an enabled port whose domain becomes powered leaves DISABLED, and what
waited for a pseudo-channel that is on again is served. -/
def State.onDomain (s : State) (k : Nat) (f : Domain → Domain) : State :=
  if k < 64 then s.setDieDomain k (f (s.domain k))
  else
    let s := s.setDomain k (f (s.domain k))
    if isPortDom k then s.portWake (k - 64) else s.drainStack ((k - 96) / 32)

/-- DOMAIN_DISABLE: a port enters DISABLED (R514). -/
def State.domainDisable (s : State) (k : Nat) : State := if isPortDom k then s.portOff (k - 64) else s.setDomain k (s.domain k).disable

def execDomainDisable (k : Nat) (s : State) : Host.Outcome State Fault Refusal := .next (s.domainDisable k)
def execDomainEnable (k : Nat) (s : State) : Host.Outcome State Fault Refusal := .next (s.onDomain k Domain.enable)
def execIsolationComplete (k : Nat) (s : State) : Host.Outcome State Fault Refusal := .next (s.onDomain k Domain.isolated)
def execRailFallen (k : Nat) (s : State) : Host.Outcome State Fault Refusal := .next (s.onDomain k Domain.fallen)
def execRailOff (k : Nat) (s : State) : Host.Outcome State Fault Refusal := .next (s.onDomain k Domain.railOff)
/-- DOMAIN_WAKE_COMPLETE; a compute die comes up at the step requested last (10 R318). -/
def execDomainWakeComplete (k : Nat) (s : State) : Host.Outcome State Fault Refusal :=
  .next (s.onDomain k Domain.woken)

/-! ### Temperature (17 R515, R516) -/

/-- Threshold that imposes thermal step k. -/
def stepAt : Nat → Int
  | 1 => 95 | 2 => 100 | _ => 103

/-- The step that a reading imposes. -/
def stepFor (t : Int) : Nat := if 103 ≤ t then 3 else if 100 ≤ t then 2 else if 95 ≤ t then 1 else 0

/-- A step is relaxed once the reading is 5 °C below its threshold. -/
def relaxStep (t : Int) : Nat → Nat
  | 0 => 0
  | k + 1 => if t ≤ stepAt (k + 1) - 5 then relaxStep t k else k + 1

def thermStep (old : Nat) (t : Int) : Nat := max (stepFor t) (relaxStep t old)

/-- A compute die's thermal step: THERM_DIE_STEP and the step asked of the die (10 R319). -/
def State.setThermStep (s : State) (nn v : Nat) : State :=
  let old := s.dieStep .THERM_DIE_STEP nn
  if old = v then s
  else
    let w := s.fld .THERM_DIE_STEP 0 (nn / 16)
    (s.setFld .THERM_DIE_STEP (w - old * 4 ^ (nn % 16) + v * 4 ^ (nn % 16)) 0 (nn / 16)).requestStep nn

/-- A reading reaches a trip value: the device drops to AO without sleeving and the eFuse opens; a trip of the input stage opens the
always-on path too. -/
def State.thermalTrip (s : State) (input : Bool) : State :=
  let s := ((s.openEfuse).setFld .INPUT_EVENTS_THERMAL_TRIP 1).pwrError E_PWR_THERMAL_TRIP
  let s := s.setPower { s.power with thermal := true }
  if input then s.powerOn.setPower { s.powerOn.power with aoShort := true } else s

/-- TEMP_SAMPLE: readings of dies, by block. -/
def State.tempSample (s : State) (temps : List (Nat × Int)) : State :=
  if s.power.por then s
  else
    let s := s.setPower { s.power with temps := temps.foldl (fun l e => bankIns e.1 e.2 l) s.power.temps }
    let s := temps.foldl (fun s e => if e.1 < 64 then s.setThermStep e.1 (thermStep (s.dieStep .THERM_DIE_STEP e.1) e.2) else s) s
    let hot := temps.filter (fun e => tripAt (tempSensor e.1) ≤ e.2)
    if hot.isEmpty then s else s.thermalTrip (hot.any (fun e => tempSensor e.1 = 10))

def execTempSample (temps : List (Nat × Int)) (s : State) : Host.Outcome State Fault Refusal := .next (s.tempSample temps)

/-! ### The sleeve (17 R526, R527, Table 17.11) -/

/-- SLEEVE_STATUS.STATE codes. -/
def sleeveIsolating : Nat := 1
def sleeveResetting : Nat := 2
def sleeveDone : Nat := 3

/-- The partitions whose resources a block holds. -/
def State.blockParts (s : State) (b : Nat) : List Nat :=
  (List.range 16).filter (fun p =>
    if b < 64 then s.diePart b = p
    else if b < 72 then (List.range 4).any (fun j => (s.partPorts p).contains ((b - 64) * 4 + j))
    else if b < 76 then (List.range 16).any (fun j => s.ownsGroup p ((b - 72) * 16 + j))
    else if b < 80 then (s.partCores p).any (fun e => e.2.started.any (fun r =>
      !r.done && r.op.fam = .move && arg r.op .srcKind = 4 && (s.readPkts e.1 0 r.op).any (fun k => k.dstNode = b)))
    else if b = 80 then s.fld .SRV_GEOM2_SEQ_MAX p ≠ 0
    else (List.range 16).any (fun j => s.sliceOwner (16 * j + (b - 81) / 2) = some p))

/-- The block is in scope of an Armature application (02 R70). -/
def State.blockInScope (s : State) (b : Nat) : Bool :=
  s.fld .ARM_STATUS_STATE = armApplying && (s.blockParts b).any (fun p => s.bit .ARM_SCOPE p)

/-- A refused GO: its code in SLEEVE_STATUS. -/
def State.sleeveRefuse (s : State) (b code : Nat) : State := (s.setFld .SLEEVE_STATUS_CODE code).pwrError code (some b)

/-- SLEEVE_GO; `host`: the block that host software names in the same cycle as the management agent. -/
def State.sleeveGo (s : State) (party : Party) (b : Nat) (host : Option Nat) : State :=
  if !s.partyServed party then s
  else
    let st := s.fld .SLEEVE_STATUS_STATE
    let s := s.setFld .SLEEVE_CTRL_BLOCK b
    let s := if 112 < b then s.sleeveRefuse b E_PWR_SLEEVE_BLOCK
      else if st = sleeveIsolating || st = sleeveResetting || s.flag .PWR_STATE_MOVING || s.blockInScope b then s.sleeveRefuse b E_PWR_SLEEVE_BUSY
      else ((s.setFld .SLEEVE_STATUS_STATE sleeveIsolating).setFld .SLEEVE_STATUS_BLOCK b).raiseVector 0
    match host with
    | some h => if party = .mgmt && h ≠ b then s.sleeveRefuse h E_PWR_SLEEVE_BUSY else s
    | none => s

def execSleeveGo (party : Party) (b : Nat) (host : Option Nat) (s : State) : Host.Outcome State Fault Refusal := .next (s.sleeveGo party b host)

/-- An access still outstanding at a sleeved HBM half is answered with an error (R526). -/
def State.dropAcc (s : State) : HbmAcc → State
  | .pkt k _ => s.inject k.part { Machine.answer k .errorResp with code := E_PWR_BLOCK_RESET }
  | .hdm r => if r.write then s else s.out (.hdmData r.addr allOnes true)
  | .copyIn q _ _ _ => s.copyFails q E_PWR_BLOCK_RESET
  | .copyOut q _ _ _ _ => s.copyFails q E_PWR_BLOCK_RESET

/-- The half of a stack that an access goes to. -/
def accHalf (a : HbmAcc) : Nat := if pseudoCh a.place.2.1 < 16 then 0 else 1

/-- The block is reset (R526, step 4): what it held in progress is gone. -/
def State.resetBlock (s : State) (b : Nat) : State :=
  if b < 64 then
    let s := { s with tokens := bankSet [] s.tokens b [], outbox := s.outbox.filter (fun e => e.2.srcNode ≠ b) }
    let s := (s.cores.filter (fun e => e.1 / 96 = b)).foldl (fun s e => s.setCore e.1 { prog := e.2.prog, decls := e.2.decls, handles := e.2.handles, windows := e.2.windows }) s
    s.dropFlds (fun c i => i / 96 = b && (rowOf c).elim false (fun r => r.group = .coreC))
  else if b < 72 then (List.range 4).foldl (fun s j => s.leaveLink ((b - 64) * 4 + j) linkDisabled) s
  else if b < 76 then s
  else if b < 80 then
    let go := s.plinthWait.filter (fun k => k.dstNode = b)
    let s := { s with plinthWait := s.plinthWait.filter (fun k => k.dstNode ≠ b) }
    let s := go.foldl (fun s k => s.inject k.part { Machine.answer k .errorResp with code := E_PWR_BLOCK_RESET }) s
    let o := s.obj s.plinthOp
    if s.fld .PLINTH_STATUS_OP = 1 || s.fld .PLINTH_STATUS_OP = 2 then (s.setObj s.plinthOp { o with state := objErasing }).setFld .PLINTH_STATUS_OP 3 else s
  else if b = 80 then (s.blockParts 80).foldl State.srvDiscard s
  else
    let n := (b - 81) / 2
    let half := (b - 81) % 2
    let go := (s.stack n).waiting.filter (fun a => accHalf a = half)
    let s := s.setStack n { s.stack n with waiting := (s.stack n).waiting.filter (fun a => accHalf a ≠ half) }
    let s := go.foldl State.dropAcc s
    if s.stackState n = stackFailed then s else s.setStackState n stackTraining

/-- SLEEVE_DRAIN_TIMEOUT: 100 µs have passed; the block is sleeved and reset, and the partitions that it takes it from enter FAULT. A
link die's losses fault those of R276. -/
def State.sleeveDrain (s : State) : State :=
  if s.fld .SLEEVE_STATUS_STATE ≠ sleeveIsolating then s
  else
    let b := s.fld .SLEEVE_STATUS_BLOCK
    let ps := if 64 ≤ b && b < 72 then [] else s.blockParts b
    let s := (s.resetBlock b).setFld .SLEEVE_STATUS_STATE sleeveResetting
    ps.foldl (fun s p => if s.pstate p = .idle then s else
      (if s.pstate p = .fault then s else s.pwrError E_PWR_BLOCK_RESET (some b)).forceFault p E_PWR_BLOCK_RESET) s

def execSleeveDrainTimeout (s : State) : Host.Outcome State Fault Refusal := .next s.sleeveDrain

/-- The post-reset work of Table 17.11. -/
def State.postReset (s : State) (b : Nat) : State :=
  if b < 64 then s.clearCores (fun g => g / 96 = b)
  else if b < 72 then
    (List.range 4).foldl (fun s j =>
      let n := (b - 64) * 4 + j
      if s.flag .LINK_CTRL_ENABLE n then s.setLink n linkDetect else s) s
  else if b < 76 then s.clearGroups (fun g => g / 16 = b - 72)
  else if b ≤ 80 then s
  else
    let n := (b - 81) / 2
    if s.stackState n = stackFailed then s else (s.setStackState n stackReady).drainStack n

/-- SLEEVE_RESET_DONE. -/
def State.sleeveEnd (s : State) : State :=
  if s.fld .SLEEVE_STATUS_STATE ≠ sleeveResetting then s
  else ((s.postReset (s.fld .SLEEVE_STATUS_BLOCK)).setFld .SLEEVE_STATUS_STATE sleeveDone).raiseVector 0

def execSleeveResetDone (s : State) : Host.Outcome State Fault Refusal := .next s.sleeveEnd

/-! ### Status lines (18 R539) -/

/-- STATUS_LINE_STUCK: a line that the module has released reads low for 1 ms: 0 ALERT_N, 1 FAULT_N, 2 THERM_N. -/
def State.lineStuck (s : State) (line : Fin 3) : State :=
  let own : Fld := match line with
    | 0 => .MGMT_STATUS_ALERT | 1 => .MGMT_STATUS_FAULT | 2 => .MGMT_STATUS_THERM
  let f : Fld := match line with
    | 0 => .PIN_EVENTS_ALERT_STUCK | 1 => .PIN_EVENTS_FAULT_STUCK | 2 => .PIN_EVENTS_THERM_STUCK
  if s.flag own || !s.thimbleUp then s else (s.setFld f 1).queueEvent (.stuck line.val)

def execStatusLineStuck (line : Fin 3) (s : State) : Host.Outcome State Fault Refusal := .next (s.lineStuck line)

end Sys2Proof.Machine
end

