-- ==== Sys2Proof/Machine/Pins.lean ====
section
/-! DEFINITION. Machine/Pins.lean: what the module's output pins do in a state, from reset onward (18 R534 to R536, Table 18.6). -/
namespace Sys2Proof.Machine
open Sys2Proof

/-- The output classes of Table 18.6; a link pair by its port, and whether it is pair B. -/
inductive Pin where
  | faultN | alertN | thermN | ppsOut
  | mgmt (bus : Nat)
  | hostTx
  | link (port : Nat) (pairB : Bool)
  deriving DecidableEq, Repr

/-- What an output does: high impedance, driven low, driven high, released (the board's pull-up sets the level), electrical idle, or
carrying its protocol. -/
inductive PinOut where
  | highZ | low | high | released | idle | active
  deriving DecidableEq, Repr

/-- An open-drain status line. -/
def statusLine (asserted : Bool) : PinOut := if asserted then .low else .released

/-- The host die's PHY is powered: its rail is up in a bring-up, or Thimble is in ROM recovery (14 R431, 16 R500; 17 Table 17.9). -/
def State.hostPowered (s : State) : Bool := 6 ≤ s.power.step || s.thimble.romRecovery

/-- A link pair transmits: the port is past DETECT's start and this pair is the one that transmits (08 R262, R264). -/
def State.pairSends (s : State) (n : Nat) (pairB : Bool) : Bool :=
  s.linkState n ≠ linkDisabled && s.linkState n ≠ linkDown && s.flag .LINK_STATUS_SWAPPED n = pairB

/-- The state of an output (Table 18.6). From power-on reset until the pin reset map hands over, each holds the map's state
(PIN_RESET_MAP); firmware gives the J7 outputs their first configured state in step 4 of the bring-up. -/
def State.pin (s : State) : Pin → PinOut
  | .faultN => if s.power.dark then .highZ else if s.power.por then .low else statusLine (s.flag .MGMT_STATUS_FAULT)
  | .alertN => if s.power.dark || s.power.por then .highZ else statusLine (4 ≤ s.power.step && s.flag .MGMT_STATUS_ALERT)
  | .thermN => if s.power.dark || s.power.por then .highZ else statusLine (4 ≤ s.power.step && s.flag .MGMT_STATUS_THERM)
  | .ppsOut => if s.power.dark then .highZ else if s.clock.ppsOut.isSome && !s.power.por then .high else .low
  | .mgmt b =>
    if s.power.dark || s.power.por || s.fld (busFld b) = busIsolated then .highZ else if s.power.step < 4 then .released else .active
  | .hostTx =>
    if s.power.dark || s.power.por || !s.hostPowered then .highZ else if s.fld .HOST_LINK_MODE = 0 then .idle else .active
  | .link n pairB =>
    if s.power.dark || s.power.por || s.power.step < 6 then .highZ else if s.pairSends n pairB then .active else .idle

end Sys2Proof.Machine
end

