-- ==== Sys2Proof/Machine/Views.lean ====
section
/-! DEFINITION. Machine/Views.lean: the register fields that show what the model keeps elsewhere, the registers' addresses, and the value a
register shows (00 R5, Table 0.7; the register tables of every chapter). -/
namespace Sys2Proof.Machine
open Sys2Proof

/-! ### Where registers are (00 Table 0.7 and the address rules of the chapters) -/

/-- Register addresses: an offset in BAR0, or an offset in BAR2 above this base. -/
def bar2At : Nat := 2 ^ 32
def regAddr (bar2 : Bool) (off : Nat) : Nat := if bar2 then bar2At + off else off

/-- Instance j of a block at `base` with `count` instances `stride` apart, each `size` long: the instance and the offset in it. -/
def inBlock (a base stride count size : Nat) : Option (Nat × Nat) :=
  if base ≤ a && a < base + stride * count && (a - base) % stride < size then some ((a - base) / stride, (a - base) % stride) else none

/-- The blocks with their addresses: group, base, stride, count, size, and the offset that the register tables give to the base. -/
def regBlocks : List (RegGroup × Nat × Nat × Nat × Nat × Nat) := [
  (.globG, 0, 0x100, 1, 0x100, 0), (.propsG, 0x100, 0x100, 1, 0x100, 0x100),
  (.planG, 0x00100000, 0x1000, 1, 0x1000, 0), (.planP, 0x00101000, 0x100, 16, 0x100, 0), (.barB, 0x00104000, 0x20, 512, 0x20, 0),
  (.armG, 0x00200000, 0x100, 1, 0x100, 0), (.armQ, 0x00200100, 4, 16, 4, 0), (.armP, 0x00201000, 0x40, 16, 0x40, 0),
  (.spadG, 0x00400000, 0x1000, 1, 0x1000, 0),
  (.fabG, 0x00600000, 0x1000, 1, 0x1000, 0), (.fabN, 0x00601000, 0x100, 84, 0x100, 0),
  (.ldL, 0x00800000, 0x80000, 8, 0x1000, 0),
  (.routeG, 0x00810000, 0x1000, 1, 0x1000, 0), (.slotJ, 0x00811000, 0x100, 32, 0x100, 0),
  (.timeG, 0x00C00000, 0x1000, 1, 0x1000, 0), (.timeT, 0x00C01000, 0x40, 32, 0x40, 0),
  (.hbmH, 0x00D00000, 0x10000, 16, 0x1000, 0), (.hbmG, 0x00D08000, 0x1000, 1, 0x1000, 0),
  (.plinthG, 0x00E00000, 0x1000, 1, 0x1000, 0), (.plinthP, 0x00E01000, 0x40, 16, 0x40, 0),
  (.srvG, 0x00F00000, 0x1000, 1, 0x1000, 0), (.srvP, 0x00F01000, 0x100, 16, 0x100, 0),
  (.obsG, 0x01000000, 0x1000, 1, 0x1000, 0), (.obsP, 0x01001000, 0x200, 16, 0x100, 0),
  (.secG, 0x01100000, 0x1000, 1, 0x1000, 0), (.secP, 0x01101000, 0x20, 16, 0x20, 0),
  (.pwrG, 0x01200000, 0x800, 1, 0x800, 0), (.mgmtG, 0x01200800, 0x400, 1, 0x400, 0),
  (.dieD, 0x02000000, 0x80000, 64, 0x1000, 0),
  (.dbD, bar2At, 0x1000, 96, 0x1000, 0), (.queueQ, bar2At + 0x100000, 0x40, 96, 0x40, 0), (.hostH, bar2At + 0x140000, 0x1000, 1, 0x1000, 0)]

/-- Group, instance and offset of an address. Ports, cores and dump points have their own nesting (08 R284, 03 R113, 19 R564). -/
def groupAt (a : Nat) : Option (RegGroup × Nat × Nat) :=
  match inBlock a 0x00800000 0x80000 8 0x5000, inBlock a 0x02000000 0x80000 64 0x61000, inBlock a 0x01001100 0x200 16 0x100 with
  | some (d, o), _, _ => if o < 0x1000 then some (.ldL, d, o) else some (.linkP, 4 * d + (o - 0x1000) / 0x1000, o % 0x1000)
  | _, some (nn, o), _ => if o < 0x1000 then some (.dieD, nn, o) else some (.coreC, 96 * nn + (o - 0x1000) / 0x1000, o % 0x1000)
  | _, _, some (p, o) => some (.dumpD, 8 * p + o / 0x20, o % 0x20)
  | _, _, _ => regBlocks.findSome? (fun b =>
      let (g, base, stride, count, size, off) := b
      (inBlock a base stride count size).map (fun x => (g, x.1, x.2 + off)))

/-- The element of a numbered range of registers that an offset names. -/
def RegRow.elem (r : RegRow) (off : Nat) : Option Nat :=
  if r.off ≤ off && (off - r.off) % r.step = 0 && (off - r.off) / r.step < r.count then some ((off - r.off) / r.step) else none

/-- A register: its row, its instance and its element. -/
structure Reg where
  row : RegRow
  i : Nat
  k : Nat
  deriving DecidableEq, Repr

/-- The register at an address; none where the address names none (00 R5). -/
def regAt (a : Nat) : Option Reg :=
  match groupAt a with
  | none => none
  | some (g, i, off) => regRows.findSome? (fun r => if r.group = g then (r.elem off).map (fun k => { row := r, i := i, k := k }) else none)

/-! ### Fields that show what is kept elsewhere -/

/-- Largest t − c(n) over the neighbours, saturating at 15 (01 Table 1.9). -/
def State.maxLag (s : State) (p : Nat) : Nat :=
  match s.slowest p with
  | none => 0
  | some c => min 15 (s.planTick p + 1 - c)

/-- The grant of the next tick is denied by the hem condition (01 R21). -/
def State.hemWait (s : State) (p : Nat) : Bool :=
  let t := s.planTick p
  (s.pstate p = .running || s.pstate p = .stopping) && t < (s.part p).completed && !s.hemOk p t

/-- HOLD_ORIGIN: the origin of the lowest live entry, or of the FAULT_STOP that put the partition in FAULT; its job tag
(01 Table 1.9). -/
def State.holdOrigin (s : State) (p : Nat) : Nat × Nat :=
  match (s.part p).faultOrigin, s.lowestHold p with
  | f + 1, _ => (f, s.fld .PLAN_JOB_TAG p)
  | 0, some e => (e.origin, e.tag)
  | 0, none => (0, 0)

/-- Power tokens held by a partition (01 Table 1.9). -/
def State.tokensHeld (s : State) (p : Nat) : Nat := ((s.tokens.filter (fun e => s.diePart e.1 = p)).map (fun e => e.2.length)).sum

/-- Rim quads (02 R55). -/
def rimQuad (q : Nat) : Bool := q < 4 || 12 ≤ q

/-- The macro-operation blocked in TAKE or WAIT, and its counter (06 Table 6.7). -/
def Core.takeWait (c : Core) : Option Nat :=
  (c.started.find? (fun r => r.blocked && (r.op.fam = .take || r.op.fam = .wait))).map (fun r => arg r.op .counter)

/-- Kind of a node (07 Tables 7.1, 7.8). -/
def nodeKind (n : Nat) : Nat :=
  if n < 64 then 0 else if n < 72 then 1 else if n < 76 then 2 else if n < 80 then 3 else if n = 80 then 4 else if n = 81 then 5
  else if n = 82 then 6 else 7

/-- The route entry that FAB_ROUTE_INDEX of a node names (07 Table 7.8). -/
def State.routeShown (s : State) (n : Nat) : Nat :=
  let d := s.fld .FAB_ROUTE_INDEX_DEST n
  if d < 84 then s.route n d (s.fld .FAB_ROUTE_INDEX_VC n) else 0

/-- Partitions that have a link generation of a kind: 1 OPEN, 2 SEALED (08 Table 8.14). -/
def State.kgenMask (s : State) (kind : Nat) : Nat :=
  ((List.range 16).map (fun p => if s.kgenState p 0 = kind || s.kgenState p 1 = kind then 2 ^ p else 0)).sum

/-- The rank-table entry at ROUTE_TBL_INDEX (09 R307). -/
def State.entryShown (s : State) : RankEntry :=
  s.rankEntry (s.fld .ROUTE_TBL_INDEX_SLOT) (s.fld .ROUTE_TBL_INDEX_EPOCH) (s.fld .ROUTE_TBL_INDEX_ENTRY)

def RankEntry.attr (e : RankEntry) : Nat := e.valid.toNat + 2 * e.spread.toNat + 4 * e.inc

/-- Steps of dies 16j to 16j + 15 (10 Table 10.10). -/
def State.stepsShown (s : State) (j : Nat) : Nat := ((List.range 16).map (fun i => (s.die (16 * j + i)).now * 4 ^ i)).sum

/-- TIME_NOW and TIME_PPS, packed, in the form that TIME_MODE selects (10 R327). -/
def State.timeShown (s : State) (f tod : Nat) : Nat := if s.flag .TIME_MODE then tod % 2 ^ 84 else f

/-- The object at PLINTH_OBJ_SEL (12 Table 12.9). -/
def State.objShown (s : State) : PlinthObj := s.obj (s.fld .PLINTH_OBJ_SEL)

/-- The slot map entries of the device, partition by partition (13 R400). -/
def State.mapEntry (s : State) (n : Nat) : Nat := (((List.range 16).flatMap s.slotMap)[n]?).getD 0

/-- Compute dies 32h to 32h + 31 that are awake (17 Table 17.13). -/
def State.awakeMask (s : State) (h : Nat) : Nat := ((List.range 32).map (fun i => if s.awake (32 * h + i) then 2 ^ i else 0)).sum

/-- Seconds left of tenant debug (15 Table 15.13). -/
def State.debugLeft (s : State) (p : Nat) : Nat :=
  match bankGet 0 s.thimble.debugEnd p with
  | 0 => 0
  | e + 1 => if s.timeReached e then 0 else (e + 2 ^ 64 - s.now % 2 ^ 64) % 2 ^ 64 / 64000000000

/-- Requests fetched and not decided, saturating (13 Table 13.12). -/
def State.srvQueued (s : State) (p : Nat) : Nat := min 65535 (s.srv p).store.length

/-- The slot register of the bank of the tick in progress (03 Table 3.8). -/
def State.slotShown (s : State) (g n : Nat) : Nat :=
  (s.slotReg (s.corePart g) (s.planTick (s.corePart g)) g n).getD 0

/-- The tick of that bank (03 Table 3.8). -/
def State.slotTickShown (s : State) (g : Nat) : Nat :=
  let p := s.corePart g
  if ((s.srv p).banks.lookup (s.planTick p)).isSome then s.planTick p else 0

/-- The entries that the index registers of a core name (05 R186, 06 R211). -/
def State.handleShown (s : State) (g : Nat) : Nat := s.handle g (s.fld .HANDLE_INDEX_INDEX g)
def State.windowShown (s : State) (g : Nat) : Nat := s.window g (s.fld .WINDOW_INDEX_INDEX g)
def State.declShown (s : State) (g : Nat) : Nat := s.decl g (s.fld .SYNC_DECL_INDEX_INDEX g)

/-- A pin's level that no command tells: a free value (log entry 3). -/
def State.freeBit (s : State) : Nat := (Config.freeValue s.free).toNat % 2

/-- Views of the plan sequencer and the armature. -/
def viewsPlan : List (Fld × (State → Nat → Nat → Nat)) := [
  (.PLAN_STATUS_HELD, fun s p _ => ((s.part p).holds.any HoldEntry.live).toNat),
  (.PLAN_STATUS_LATE, fun s p _ => (!(s.part p).sentHolds.isEmpty).toNat),
  (.PLAN_STATUS_HEM_WAIT, fun s p _ => (s.hemWait p).toNat),
  (.PLAN_STATUS_MAX_LAG, fun s p _ => s.maxLag p),
  (.HOLD_CAUSE_CODE, fun s p _ => (s.holdCause p).1),
  (.HOLD_CAUSE_REMOTE, fun s p _ => (s.holdCause p).2.1.toNat),
  (.HOLD_CAUSE_HOPS, fun s p _ => (s.holdCause p).2.2),
  (.HOLD_CAUSE_SET, fun s p _ => s.causeSet p),
  (.HOLD_ORIGIN_RANK, fun s p _ => (s.holdOrigin p).1),
  (.HOLD_ORIGIN_JOB_TAG, fun s p _ => (s.holdOrigin p).2),
  (.HOLD_TICK, fun s p _ => ((s.lowestHold p).map HoldEntry.tick).getD 0),
  (.TOKENS_HELD, fun s p _ => s.tokensHeld p),
  (.ARM_QUAD_RIM, fun _ q _ => (rimQuad q).toNat),
  (.BAR_CFG_LOCAL_COUNT, fun s b _ => s.localCount (b / 32) (b % 32)),
  (.BAR_CFG_HOME, fun s b _ => (s.barHome (b / 32) (b % 32)).toNat)]

/-- Views of the compute dies and cores. -/
def viewsCore : List (Fld × (State → Nat → Nat → Nat)) := [
  (.DIE_STATUS_DIE, fun _ nn _ => nn),
  (.DIE_STATUS_RIM, fun _ nn _ => (rimQuad (nn / 4)).toNat),
  (.DIE_STATUS_AWAKE, fun s nn _ => (s.awake nn).toNat),
  (.DIE_STATUS_PARTITION, fun s nn _ => s.diePart nn),
  (.CORE_STATUS_STATE, fun s g _ => s.coreStatus g),
  (.CORE_STATUS_QUEUE, fun s g _ => (s.core g).queue.length),
  (.CORE_STATUS_LOOP_DEPTH, fun s g _ => (s.core g).loops.length),
  (.SLOT, fun s g k => s.slotShown g k),
  (.SLOT_TICK, fun s g _ => s.slotTickShown g),
  (.HANDLE_LO, fun s g _ => s.handleShown g),
  (.HANDLE_HI, fun s g _ => s.handleShown g / 2 ^ 32),
  (.WINDOW_LO, fun s g _ => s.windowShown g),
  (.WINDOW_HI, fun s g _ => s.windowShown g / 2 ^ 32),
  (.SYNC_DECL_LO, fun s g _ => s.declShown g),
  (.SYNC_DECL_HI, fun s g _ => s.declShown g / 2 ^ 32),
  (.SYNC_STATUS_COUNTER, fun s g _ => (s.core g).takeWait.getD 0),
  (.SYNC_STATUS_TAKE_WAIT, fun s g _ => (s.core g).takeWait.isSome.toNat),
  (.SYNC_STATUS_BAR_WAIT, fun s g _ => ((s.core g).barrier.elim false (fun b => !b.2.2)).toNat),
  (.SYNC_STATUS_BAR_AHEAD, fun s g _ => ((s.core g).barrier.elim false (fun b => b.2.2)).toNat),
  (.SYNC_STATUS_BARRIER, fun s g _ => (s.core g).barrier.elim 0 (fun b => b.1))]

/-- Views of the fabric, the links, the routes and the clock. -/
def viewsFabric : List (Fld × (State → Nat → Nat → Nat)) := [
  (.FAB_NODE_NODE, fun _ n _ => n),
  (.FAB_NODE_KIND, fun _ n _ => nodeKind n),
  (.FAB_EDGE_MODULES, fun s n e => s.modulesIn n e),
  (.FAB_EDGE_UP, fun s n e => ((edgePeer n e).isSome && s.flag .FAB_EDGE_UP n e).toNat),
  (.FAB_EDGE_PEER, fun _ n e => (edgePeer n e).getD 0),
  (.FAB_EDGE_PRESENT, fun _ n e => (edgePeer n e).isSome.toNat),
  (.FAB_ROUTE_ENTRY_EDGE, fun s n _ => s.routeShown n),
  (.FAB_ROUTE_ENTRY_LOCAL, fun s n _ => s.routeShown n / 8),
  (.FAB_ROUTE_ENTRY_VALID, fun s n _ => s.routeShown n / 16),
  (.LD_INFO, fun _ d _ => d),
  (.LD_KEYS_SEALED, fun s _ _ => s.kgenMask 2),
  (.LD_KEYS_OPEN, fun s _ _ => s.kgenMask 1),
  (.ROUTE_STATUS, fun s _ _ => ((List.range 32).filter (fun j => s.slotState j = slotFree)).length),
  (.ROUTE_TBL_RANKS, fun s _ _ => s.entryShown.lo + s.entryShown.hi * 2 ^ 16),
  (.ROUTE_TBL_PORTS, fun s _ _ => s.entryShown.ports),
  (.ROUTE_TBL_ATTR, fun s _ _ => s.entryShown.attr),
  (.SLOT_HELD, fun s j _ => s.slotHeld j),
  (.CLK_DIE_STEP, fun s _ j => s.stepsShown j),
  (.TIME_NOW_LO, fun s _ _ => s.timeShown s.now (s.todOf s.now)),
  (.TIME_NOW_HI, fun s _ _ => s.timeShown s.now (s.todOf s.now) / 2 ^ 32),
  (.TIME_NOW_EXT, fun s _ _ => s.timeShown s.now (s.todOf s.now) / 2 ^ 64),
  (.TIME_PPS_LO, fun s _ _ => s.timeShown s.clock.ppsF s.clock.ppsS),
  (.TIME_PPS_HI, fun s _ _ => s.timeShown s.clock.ppsF s.clock.ppsS / 2 ^ 32),
  (.TIME_PPS_EXT, fun s _ _ => s.timeShown s.clock.ppsF s.clock.ppsS / 2 ^ 64)]

/-- Views of the memories, the serving unit, Thimble, power and observation. -/
def viewsDevice : List (Fld × (State → Nat → Nat → Nat)) := [
  (.HBM_SLICE_TENANT, fun s n j => (s.sliceTenant (16 * j + n)).toNat),
  (.PLINTH_FREE, fun s _ _ => s.freeGroups),
  (.PLINTH_OBJ_INFO_STATE, fun s _ _ => s.objShown.state),
  (.PLINTH_OBJ_INFO_LAYERS, fun s _ _ => s.objShown.manifest.layerCount),
  (.PLINTH_OBJ_INFO_BINDS, fun s _ _ => s.objBinds (s.fld .PLINTH_OBJ_SEL)),
  (.PLINTH_OBJ_SIZE_LO, fun s _ _ => s.objShown.manifest.objectSize),
  (.PLINTH_OBJ_SIZE_HI, fun s _ _ => s.objShown.manifest.objectSize / 2 ^ 32),
  (.PLINTH_OBJ_PUB_LO, fun s _ _ => s.objShown.manifest.keyId),
  (.PLINTH_OBJ_PUB_HI, fun s _ _ => s.objShown.manifest.keyId / 2 ^ 32),
  (.PLINTH_OBJ_VERSION, fun s _ _ => s.objShown.manifest.version),
  (.BIND_W, fun s _ w => s.bind_ (s.fld .BIND_INDEX_INDEX) / 2 ^ (32 * w)),
  (.SRV_INFO_LIVE, fun s _ _ => (s.srvs.map (fun e => e.2.seqs.length)).sum),
  (.SRV_MAP_LO, fun s _ _ => s.mapEntry (s.fld .SRV_MAP_INDEX_INDEX)),
  (.SRV_MAP_HI, fun s _ _ => s.mapEntry (s.fld .SRV_MAP_INDEX_INDEX) / 2 ^ 32),
  (.SRV_STATUS_BUILDING, fun s p _ => (s.srv p).building.isSome.toNat),
  (.SRV_STATUS_WAIT_HOST, fun s p _ => (s.srvWaitHost p).toNat),
  (.SRV_STATUS_WAIT_SAMPLE, fun s p _ => (s.srvWaitSample p).toNat),
  (.SRV_LIVE_LIVE, fun s p _ => (s.srv p).seqs.length),
  (.SRV_LIVE_QUEUED, fun s p _ => s.srvQueued p),
  (.SRV_KV_FREE, fun s p _ => s.kvFree p),
  (.SEC_DEBUG_LEFT, fun s p _ => s.debugLeft p),
  (.PWR_DIE_AWAKE_LO, fun s _ _ => s.awakeMask 0),
  (.PWR_DIE_AWAKE_HI, fun s _ _ => s.awakeMask 1),
  (.PIN_LEVEL_PERST_LOW, fun s _ _ => s.fld .PWR_STATE_PERST),
  (.PIN_LEVEL_PPS_IN_HIGH, fun s _ _ => s.freeBit),
  (.PIN_LEVEL_ALERT_LOW, fun s _ _ => (s.pin .alertN = .low : Bool).toNat),
  (.PIN_LEVEL_FAULT_LOW, fun s _ _ => (s.pin .faultN = .low : Bool).toNat),
  (.PIN_LEVEL_THERM_LOW, fun s _ _ => (s.pin .thermN = .low : Bool).toNat),
  (.PIN_LEVEL_REFCLK_ACTIVE, fun s _ _ => s.fld .CLK_STATUS_REFCLK_OK),
  (.OBS_STATUS, fun s _ _ => (s.fld .PWR_STATE_STATE = 2 || s.fld .PWR_STATE_STATE = 3 : Bool).toNat)]

def views : List (Fld × (State → Nat → Nat → Nat)) := viewsPlan ++ viewsCore ++ viewsFabric ++ viewsDevice

/-- What a field shows: a view of the state, or what the field holds. -/
def State.shown (s : State) (f : Fld) (i k : Nat) : Nat :=
  (match views.find? (fun e => e.1.code = f.code) with
   | some e => e.2 s i k
   | none => s.fld f i k) % 2 ^ f.width

/-- A field that reads return zero for: write-only fields (00 Table 0.6); and W1S bits, for which Table 0.6 gives no read value (DESIGN
CHOICE, log entry 70). -/
def Fld.readsZero (f : Fld) : Bool := f.acc = .WO || (f.acc = .W1S)

/-- The value of a register, its reserved bits zero (00 R5). -/
def State.regValue (s : State) (r : Reg) : Nat :=
  (r.row.fields.map (fun f => if f.readsZero then 0 else s.shown f r.i r.k * 2 ^ (f.code % 32))).sum

end Sys2Proof.Machine
end

