-- ==== Sys2Proof/Machine/Observe.lean ====
section
/-! DEFINITION. Machine/Observe.lean: counters, starches, observation rings, plaster snapshots, dumps, trace records (19); ND_CTRL
(20 R571). -/
namespace Sys2Proof.Machine
open Sys2Proof

/-! ### Counter reads and aggregates (19 R547, R548) -/

/-- Latch the high half of a pair for a party (00 R8). -/
def State.latchHigh (s : State) (party : Party) (lo v : Nat) : State :=
  { s with latch := bankSet 0 s.latch (pairKey party lo) (v % 2 ^ 32 + 1) }

/-- BAR0 address of an observation register of partition p (19 R564). -/
def obsAddr (p off : Nat) : Nat := 0x01001000 + p * 0x200 + off

/-- A party that a tenant's partition shuts out: not on a stream bound to it (15 R477). -/
def State.tenantBars (s : State) (p : Nat) (party : Party) : Bool := s.flag .SEC_PART_BOUND p && party ≠ .bound

/-- The value of the selected counter of a partition for a party (19 R547); the management agent learns sums only (15 R477). -/
def State.counterSelected (s : State) (party : Party) (p : Nat) : State × Nat :=
  if party = .mgmt || s.tenantBars p party then (s, 0)
  else
    let bank := if !s.flag .OBS_CNT_SEL_LIVE p && s.fld .STARCH_STATUS_STATE = starchHeld then s.obs.starched else s.obs.counts
    s.counterValue bank p (s.fld .OBS_CNT_SEL_ID p) (s.fld .OBS_CNT_SEL_SUB p) (s.fld .OBS_CNT_SEL_INSTANCE p)

/-- The read of OBS_CNT_VALUE_LO: the low half, with the high half latched (19 R547, 00 R8). -/
def State.counterFetch (s : State) (party : Party) (p : Nat) : State × Nat :=
  let (s, v) := s.counterSelected party p
  ((s.setFld64 .OBS_CNT_VALUE_LO .OBS_CNT_VALUE_HI v p).latchHigh party (obsAddr p 0x30) (v / 2 ^ 32), v % 2 ^ 32)

def State.counterRead (s : State) (party : Party) (p : Nat) : State :=
  let (s, v) := s.counterFetch party p
  s.out (.readData party v)

def execObsCounterRead (party : Party) (p : Nat) (s : State) : Host.Outcome State Fault Refusal := .next (s.counterRead party p)

/-- The aggregates that sum what the model does not keep: UNIT_BUSY matrix, FAB_OCC, HBM_PC_BUSY (19 Table 19.5; log entry 3). -/
def aggFree (pair : Nat) : Bool := pair = 2 || pair = 4 || pair = 6

/-- The increase of one aggregate over the period. -/
def State.latchAgg (s : State) (pair : Nat) : State :=
  if aggFree pair then (s.draw.2).setFld64 .OBS_AGG_LO .OBS_AGG_HI s.draw.1.toNat 0 pair
  else s.setFld64 .OBS_AGG_LO .OBS_AGG_HI (bankGet 0 s.obs.agg pair) 0 pair

/-- AGG_PERIOD_LATCH: the period is over: its increases are latched, and the next period has the length that OBS_AGG_PERIOD names now
(19 R548, Table 19.5). -/
def State.aggLatch (s : State) : State :=
  if !s.elapsed s.obs.aggAt (s.obs.aggMs * 1000000) then s
  else
    let s := (List.range 8).foldl State.latchAgg s
    { s with obs := { s.obs with agg := [], aggAt := s.raw, aggMs := max 1 (min 1000 (s.fld .OBS_AGG_PERIOD)) } }

def execAggPeriodLatch (s : State) : Host.Outcome State Fault Refusal := .next s.aggLatch

/-! ### Starch (19 R549, R550) -/

/-- A command that the state does not accept. -/
def State.starchRefused (s : State) : State := s.setFld .STARCH_STATUS_REFUSED 1

def State.starchNow (s : State) : State :=
  if s.fld .STARCH_STATUS_STATE = starchLive || s.fld .STARCH_STATUS_STATE = starchArmed then s.takeStarch else s.starchRefused

def execStarchCtrlNow (s : State) : Host.Outcome State Fault Refusal := .next s.starchNow

def State.starchArm (s : State) : State :=
  if s.fld .STARCH_STATUS_STATE = starchLive && s.twoMicrosAhead (s.fld64 .STARCH_TIME_LO .STARCH_TIME_HI)
  then s.setFld .STARCH_STATUS_STATE starchArmed else s.starchRefused

def execStarchCtrlArm (s : State) : Host.Outcome State Fault Refusal := .next s.starchArm

def State.starchTime (s : State) : State :=
  if s.fld .STARCH_STATUS_STATE = starchArmed && s.timeReached (s.fld64 .STARCH_TIME_LO .STARCH_TIME_HI) then s.takeStarch else s

def execStarchTimeReached (s : State) : Host.Outcome State Fault Refusal := .next s.starchTime

def State.starchRelease (s : State) : State :=
  if s.fld .STARCH_STATUS_STATE = starchHeld then s.setFld .STARCH_STATUS_STATE starchDraining
  else if s.fld .STARCH_STATUS_STATE = starchArmed then s.setFld .STARCH_STATUS_STATE starchLive
  else s.starchRefused

def execStarchCtrlRelease (s : State) : Host.Outcome State Fault Refusal := .next s.starchRelease

/-- Discard and count the waiting records of a ring that may not be written; a snapshot is held instead (19 R554, R557). -/
def State.dropBarred (s : State) (p : Nat) : State :=
  if s.ringOpen p then s
  else (s.setHub p ((s.hub p).filter (fun r => r.kind = recPlaster))).addFld .OBS_REC_LOST ((s.hub p).filter (fun r => r.kind ≠ recPlaster)).length p

/-- STARCH_DRAIN_DONE: no COUNTER record waits any more. -/
def State.starchDrained (s : State) : State :=
  let s := (List.range 16).foldl State.dropBarred s
  if s.fld .STARCH_STATUS_STATE = starchDraining && (List.range 16).all (fun p => (s.hub p).all (fun r => r.kind ≠ recCounter))
  then s.setFld .STARCH_STATUS_STATE starchLive else s

def execStarchDrainDone (s : State) : Host.Outcome State Fault Refusal := .next s.starchDrained

/-! ### The observation ring (19 R552 to R554) -/

/-- The length of a record: whole 32-byte units (19 R552). -/
def ObsRec.len (r : ObsRec) : Nat := (16 + r.body.length + 31) / 32 * 32

/-- Bytes that the spec leaves open: free values (log entry 3). -/
def State.drawBytes (s : State) : Nat → State × List Byte
  | 0 => (s, [])
  | n + 1 =>
    let (v, s) := s.draw
    let (s, l) := s.drawBytes n
    (s, BitVec.ofNat 8 v.toNat :: l)

/-- Bytes of the ring, in use, and the place of the next record in it. -/
def State.obsSize (s : State) (p : Nat) : Nat := 2 ^ s.fld .OBS_RING_CFG_SIZE_LOG2 p
def State.obsUsed (s : State) (p : Nat) : Nat := (s.fld .OBS_RING_PI p + 2 ^ 32 - s.fld .OBS_RING_CI p) % 2 ^ 32
def State.obsPlace (s : State) (p : Nat) : Nat := s.fld .OBS_RING_PI p % s.obsSize p

/-- The ring has room for so many bytes (19 R552). -/
def State.obsRoom (s : State) (p n : Nat) : Bool := s.obsUsed p + n ≤ s.obsSize p

/-- Host address of a place in the ring; bits [11:0] of the base are ignored. -/
def State.obsHost (s : State) (p off : Nat) : Nat := s.fld64 .OBS_RING_BASE_LO .OBS_RING_BASE_HI p / 4096 * 4096 + off

/-- Write a record at PI: header, body, and what fills the last unit; PI and the record count advance (19 R552, Table 19.4, R554). -/
def State.putRec (s : State) (p : Nat) (r : ObsRec) : State :=
  let seq := bankGet 0 s.obs.seq p
  let (s, fill) := s.drawBytes (r.len - 16 - r.body.length)
  let data := leBytes 1 r.kind ++ leBytes 1 (p + 16 * r.sub) ++ leBytes 2 (r.len / 32) ++ leBytes 4 seq ++ leBytes 8 r.time ++ r.body ++ fill
  let tee := if s.flag .OBS_PART_STATUS_BOUND p then s.partTee p else none
  let s := s.out (.hostWrite (s.obsHost p (s.obsPlace p)) data tee)
  { s with obs := { s.obs with seq := bankSet 0 s.obs.seq p ((seq + 1) % 2 ^ 32) } }.addFld .OBS_RING_PI r.len p

/-- Bytes to the end of the ring that a record of this length does not fit in: 0 when it fits. -/
def State.padLen (s : State) (p len : Nat) : Nat := if s.obsSize p - s.obsPlace p < len then s.obsSize p - s.obsPlace p else 0

/-- The PAD record that fills the rest of the ring. What stands in it after TYPE, PART_SUB, LEN and SEQ is a free value. -/
def State.putPad (s : State) (p n : Nat) : State :=
  let (t, s) := s.draw
  let (s, body) := s.drawBytes (n - 16)
  s.putRec p { kind := recPad, time := t.toNat, body := body }

/-- The last record of a snapshot has been written: it is counted, and the shadow is free (19 Table 19.12, R556). -/
def State.plasterWritten (s : State) (p : Nat) : State :=
  let s := { s with obs := { s.obs with shadows := s.obs.shadows.filter (fun x => x.part ≠ p) } }
  (s.addFld .OBS_PLASTER_COUNT 1 p).setFld .OBS_PART_STATUS_PLASTER_SENDING 0 p

/-- The plaster END record. -/
def ObsRec.isEnd (r : ObsRec) : Bool := r.kind = recPlaster && r.sub = 7

/-- The first record of a type that waits. -/
def firstOf (kind : Nat) (l : List ObsRec) : Option ObsRec := l.find? (fun r => r.kind = kind)

/-- The record to write next, in the order of R554; a LOSS record stands before TRACE records (R563). -/
def State.nextRec (s : State) (p : Nat) : Option ObsRec :=
  let l := s.hub p
  match firstOf recPlaster l, firstOf recDump l, firstOf recCounter l, s.obs.loss.lookup p with
  | some r, _, _, _ => some r
  | _, some r, _, _ => some r
  | _, _, some r, _ => some r
  | _, _, _, some (records, entries, t) => some { kind := recLoss, time := t, body := leBytes 4 records ++ leBytes 4 entries ++ leBytes 8 0 }
  | _, _, _, none => firstOf recTrace l

/-- Take the record off what waits. -/
def State.dropRec (s : State) (p : Nat) (r : ObsRec) : State :=
  if r.kind = recLoss then { s with obs := { s.obs with loss := s.obs.loss.filter (fun e => e.1 ≠ p) } }
  else s.setHub p ((s.hub p).erase r)

/-- OBS_RECORD_WRITE: the next record is written when the ring has room; a PAD record goes before it where it does not fit before the
end of the ring. -/
def State.obsRecordWrite (s : State) (p : Nat) : State :=
  if !s.dma then s
  else if !s.ringOpen p then s.dropBarred p
  else match s.nextRec p with
    | none => s
    | some r =>
      let pad := s.padLen p r.len
      if !s.obsRoom p pad then s
      else
        let s := if pad = 0 then s else s.putPad p pad
        if !s.obsRoom p r.len then s
        else
          let s := (s.putRec p r).dropRec p r
          if r.isEnd then s.plasterWritten p else s

def execObsRecordWrite (p : Nat) (s : State) : Host.Outcome State Fault Refusal := .next (s.obsRecordWrite p)

/-- An observation write was ignored or refused. -/
def State.obsReject (s : State) (p : Nat) : State := s.setFld .OBS_PART_STATUS_CFG_REJECT 1 p

/-- OBS_RING_CFG takes a write: a size outside 16 to 30 is refused, EN = 0 always counts, EN = 1 starts the ring afresh. -/
def State.obsCfg (s : State) (p v : Nat) : State :=
  let size := v / 2 % 32
  if size < 16 || 30 < size then
    if v % 2 = 0 then ((s.setFld .OBS_RING_CFG_EN 0 p).dropBarred p).obsReject p else s.obsReject p
  else
    let s := (s.setFld .OBS_RING_CFG_SIZE_LOG2 size p).setFld .OBS_RING_CFG_EN v p
    if v % 2 = 0 then s.dropBarred p
    else
      let s := { s with obs := { s.obs with seq := bankSet 0 s.obs.seq p 0 } }
      (s.setFld .OBS_RING_PI 0 p).setFld .OBS_RING_CI 0 p

/-- OBS_RING_CFG_WRITE: a write of OBS_RING_BASE (the 64-bit value it commits) or of OBS_RING_CFG (19 R553). -/
def State.obsRingWrite (s : State) (party : Party) (p : Nat) (reg : RingReg) (v : Nat) : State :=
  if party = .mgmt then s
  else if s.tenantBars p party then s.obsReject p
  else if s.flag .OBS_RING_CFG_EN p && !(reg = .cfg && v % 2 = 0) then s.obsReject p
  else match reg with
    | .base => s.setFld64 .OBS_RING_BASE_LO .OBS_RING_BASE_HI v p
    | .cfg => s.obsCfg p v

def execObsRingCfgWrite (party : Party) (p : Nat) (reg : RingReg) (v : Nat) (s : State) : Host.Outcome State Fault Refusal :=
  .next (s.obsRingWrite party p reg v)

/-- OBS_RING_CI_WRITE (19 R553). -/
def State.obsCiWrite (s : State) (party : Party) (p v : Nat) : State :=
  if party = .mgmt then s
  else if s.tenantBars p party then s.obsReject p
  else if s.obsUsed p < (v % 2 ^ 32 + 2 ^ 32 - s.fld .OBS_RING_CI p) % 2 ^ 32 then s.setFld .OBS_PART_STATUS_CI_ERR 1 p
  else s.setFld .OBS_RING_CI v p

def execObsRingCiWrite (party : Party) (p v : Nat) (s : State) : Host.Outcome State Fault Refusal := .next (s.obsCiWrite party p v)

/-! ### Plaster (19 R555 to R558) -/

/-- PLASTER_DEMAND. -/
def State.plasterDemand (s : State) (party : Party) (p : Nat) : State :=
  if party = .mgmt || s.tenantBars p party || s.pstate p = .idle then s else s.capturePlaster p 2

def execPlasterDemand (party : Party) (p : Nat) (s : State) : Host.Outcome State Fault Refusal := .next (s.plasterDemand party p)

/-- The state as a snapshot holds it. -/
def State.asOf (s : State) (x : Plaster) : State :=
  { s with regs := x.regs, parts := bankSet {} s.parts x.part x.plan, cores := x.cores, ports := x.ports, tokens := x.tokens,
           domains := x.domains, srvs := x.srvs }

/-- The value of the register that holds a field. -/
def State.regOf (s : State) (f : Fld) (i : Nat := 0) (k : Nat := 0) : Nat :=
  match regRows.find? (fun r => r.id = f.code / 32) with
  | some r => s.regValue { row := r, i := i, k := k }
  | none => 0

/-- The cores of the dies of a partition, ascending. -/
def State.allCores (s : State) (p : Nat) : List Nat := (s.partDies p).flatMap (fun nn => (List.range 96).map (fun k => nn * 96 + k))

/-- The ports owned by a partition or in its EXCHANGE_PORTS (19 Table 19.6). -/
def State.plasterPorts (s : State) (p : Nat) : List Nat := bitsOf (s.fld .ARM_PART_PORTS p ||| s.fld .EXCHANGE_PORTS p) 32

/-- HEAD from byte 16 on (19 Table 19.7). -/
def State.plasterHead (s : State) (x : Plaster) (cores ports : Nat) : List Byte :=
  let p := x.part
  let c := s.holdCause p
  leBytes 2 x.number ++ leBytes 1 x.reason ++ leBytes 1 (s.fld .PLAN_STATUS_STATE p) ++ leBytes 2 (s.fld .PLAN_ERROR_CODE p) ++ leBytes 1 c.1
    ++ leBytes 1 (c.2.1.toNat + 2 * s.fld .PLAN_ERROR_MULTI p) ++ leBytes 4 (s.causeSet p) ++ leBytes 8 (s.planTick p)
    ++ leBytes 4 (s.regOf .HOLD_TICK p) ++ leBytes 4 (s.regOf .HOLD_ORIGIN_RANK p) ++ leBytes 4 (s.regOf .DEADLOCK_INFO_LENGTH p)
    ++ (List.range 8).flatMap (fun k => leBytes 4 (s.regOf .DEADLOCK_CYCLE_CORE p k)) ++ leBytes 2 cores ++ leBytes 1 ports ++ leBytes 1 0
    ++ leBytes 4 (s.tokensHeld p) ++ leBytes 8 0

/-- HOLDS from byte 16 on (19 Table 19.7). -/
def plasterHolds (x : Plaster) : List Byte :=
  let hs := x.plan.holds.take 32
  leBytes 1 hs.length ++ leBytes 15 0 ++ hs.flatMap (fun e => leBytes 2 e.origin ++ leBytes 4 e.tick ++ leBytes 1 e.cause ++ leBytes 1 e.hops)
    ++ leBytes (8 * (32 - hs.length)) 0

/-- TAG of the first macro-operation that runs on a unit; zero when it is idle. -/
def Core.unitTag (c : Core) (u : CoreUnit) : Nat := ((c.started.find? (fun r => unitOf r.op.fam = u)).map (fun r => r.op.tag)).getD 0
def Core.unitCount (c : Core) (u : CoreUnit) : Nat := (c.started.filter (fun r => unitOf r.op.fam = u)).length

/-- CORE from byte 16 on (19 Table 19.8). -/
def State.plasterCore (s : State) (g : Nat) : List Byte :=
  let c := s.core g
  let busy : CoreUnit → Nat := fun u => min 1 (c.unitCount u)
  let loops := c.loops.reverse
  let tags := c.queue.map (fun o => o.tag)
  let waits := c.takeWait
  leBytes 2 g ++ leBytes 1 (s.coreStatus g) ++ leBytes 1 c.queue.length ++ leBytes 2 (s.fld .CORE_ERROR_CODE g) ++ leBytes 2 (s.fld .CORE_ERROR_TAG g)
    ++ leBytes 2 (s.fld .CP_PC g) ++ leBytes 1 c.loops.length
    ++ leBytes 1 (busy .matrix + 2 * busy .vector + 4 * busy .sync + 8 * c.unitCount .mover) ++ leBytes 4 (s.regOf .SYNC_STATUS_COUNTER g)
    ++ leBytes 8 (s.fld64 .MACRO_COUNT_LO .MACRO_COUNT_HI g)
    ++ (List.range 4).flatMap (fun k => leBytes 4 ((loops[k]?.map LoopLevel.left).getD 0))
    ++ (List.range 8).flatMap (fun k => leBytes 2 (tags.getD k 0))
    ++ leBytes 2 (c.unitTag .matrix) ++ leBytes 2 (c.unitTag .vector) ++ leBytes 2 (c.unitTag .sync) ++ leBytes 2 (c.unitTag .mover)
    ++ leBytes 4 (waits.elim 0 (fun n => s.fld .SYNC_GIVEN g n)) ++ leBytes 4 (waits.elim 0 (fun n => s.fld .SYNC_TAKEN g n))
    ++ leBytes 2 (s.regOf .ARITH_FLAGS_SAT g % 2 ^ 9) ++ leBytes 6 0

/-- PORT from byte 16 on (19 Table 19.7). -/
def State.plasterPort (s : State) (p n : Nat) : List Byte :=
  let c := if (s.exchangePorts p).contains n then (s.reportedTicks p n + 2 ^ 32 - 1) % 2 ^ 32 else 2 ^ 32 - 1
  leBytes 1 n ++ leBytes 1 (s.fld .LINK_STATUS_STATE n) ++ leBytes 2 (s.fld .LINK_ERROR_CODE n) ++ leBytes 4 (s.regOf .LINK_STATUS_STATE n)
    ++ leBytes 2 (s.port n).unacked.length ++ leBytes 2 0 ++ leBytes 4 c ++ (List.range 8).flatMap (fun vc => leBytes 4 (s.shareUsed n vc))

/-- The records of a snapshot, in order (19 R558, Tables 19.6 to 19.8). -/
def State.plasterRecords (s : State) (x : Plaster) : List ObsRec :=
  let s := s.asOf x
  let cores := s.allCores x.part
  let ports := s.plasterPorts x.part
  let body := [(0, s.plasterHead x cores.length ports.length), (1, plasterHolds x)] ++ cores.map (fun g => (2, s.plasterCore g))
    ++ ports.map (fun n => (3, s.plasterPort x.part n))
  let last := leBytes 2 x.number ++ leBytes 1 1 ++ leBytes 1 0 ++ leBytes 4 (body.length + 1) ++ leBytes 8 0
  (body ++ [(7, last)]).map (fun e => { kind := recPlaster, sub := e.1, time := x.time, body := e.2 })

/-- A snapshot may be sent: the ring is enabled, and bound where there is a tenant, else under an OBSERVE grant (19 R557). -/
def State.plasterMay (s : State) (p : Nat) : Bool :=
  s.ringOpen p && (s.flag .SEC_PART_BOUND p || s.flag .SEC_STATUS_OBSERVE)

/-- PLASTER_SEND: the held snapshot sets out. -/
def State.plasterSend (s : State) (p : Nat) : State :=
  match s.obs.shadows.find? (fun x => x.part = p && !x.sending) with
  | none => s
  | some x =>
    if !s.plasterMay p then s
    else
      let s := s.setHub p (s.hub p ++ s.plasterRecords x)
      let mark : Plaster → Plaster := fun y => if y.part = p then { y with sending := true } else y
      let s := { s with obs := { s.obs with shadows := s.obs.shadows.map mark } }
      (s.setFld .OBS_PART_STATUS_PLASTER_HELD 0 p).setFld .OBS_PART_STATUS_PLASTER_SENDING 1 p

def execPlasterSend (p : Nat) (s : State) : Host.Outcome State Fault Refusal := .next (s.plasterSend p)

/-! ### Tensor dumps (19 R559 to R561) -/

/-- The dump-point registers of a partition take a party's writes (19 R559, R564). -/
def State.dumpMay (s : State) (p : Nat) (party : Party) : Bool := s.flag .SEC_PART_DEBUG p && !s.tenantBars p party

/-- A write of EN = 1 is refused: a core of another partition, or a range of no dump (19 R559). -/
def State.dumpShapeBad (s : State) (p i : Nat) : Bool :=
  let off := s.fld .DUMP_OFFSET i
  let len := s.fld .DUMP_LENGTH i
  6144 ≤ s.fld .DUMP_SRC_CORE i || s.corePart (s.fld .DUMP_SRC_CORE i) ≠ p || off % 32 ≠ 0 || len % 32 ≠ 0 || len < 32 || 524288 < len

def State.dumpCfg (s : State) (p k v : Nat) : State :=
  let i := dumpAt p k
  if v % 2 = 1 && s.dumpShapeBad p i then s.setFld .DUMP_STATUS_CODE E_SPAD_SIDE_SHAPE i
  else
    let s := if v % 2 = 0 && s.flag .DUMP_CFG_EN i then s.abortDump p k 0 else s
    ((s.setFld .DUMP_CFG_EN v i).setFld .DUMP_CFG_KIND (v / 2) i).setFld .DUMP_CFG_COUNT (v / 2 ^ 8) i

/-- DUMP_CFG_WRITE: a write of a register of dump point k (DUMP_TICK: the 64-bit value it commits). -/
def State.dumpWrite (s : State) (party : Party) (p k : Nat) (reg : DumpReg) (v : Nat) : State :=
  let i := dumpAt p k
  if party = .mgmt then s
  else if !s.dumpMay p party then (s.setFld .DUMP_STATUS_DENIED 1 i).setFld .DUMP_STATUS_CODE E_SPAD_SIDE_DENIED i
  else if s.flag .DUMP_CFG_EN i && !(reg = .cfg && v % 2 = 0) then s.setFld .DUMP_STATUS_DENIED 1 i
  else match reg with
    | .cfg => s.dumpCfg p k v
    | .tag => (s.setFld .DUMP_TAG_VALUE v i).setFld .DUMP_TAG_MASK (v / 2 ^ 16) i
    | .src => (s.setFld .DUMP_SRC_CORE v i).setFld .DUMP_SRC_HANDLE (v / 2 ^ 13) i
    | .offset => s.setFld .DUMP_OFFSET v i
    | .length => s.setFld .DUMP_LENGTH v i
    | .tick => s.setFld64 .DUMP_TICK_LO .DUMP_TICK_HI v i

def execDumpCfgWrite (party : Party) (p k : Nat) (reg : DumpReg) (v : Nat) (s : State) : Host.Outcome State Fault Refusal :=
  .next (s.dumpWrite party p k reg v)

/-- The point is enabled and the event matches its trigger: a completed macro-operation with this TAG, or the grant of DUMP_TICK. -/
def State.dumpFires (s : State) (p i tag : Nat) : Bool :=
  s.flag .DUMP_CFG_EN i &&
    (if s.flag .DUMP_CFG_KIND i then s.planTick p = s.fld64 .DUMP_TICK_LO .DUMP_TICK_HI i
     else (tag ^^^ s.fld .DUMP_TAG_VALUE i) &&& s.fld .DUMP_TAG_MASK i = 0)

/-- COUNT decreases at a firing, and EN clears at zero; a COUNT of zero fires without limit (19 R560). -/
def State.dumpCount (s : State) (i : Nat) : State :=
  match s.fld .DUMP_CFG_COUNT i with
  | 0 => s
  | 1 => (s.setFld .DUMP_CFG_COUNT 0 i).setFld .DUMP_CFG_EN 0 i
  | n + 2 => s.setFld .DUMP_CFG_COUNT (n + 1) i

/-- The handle check of a dump (19 R560, 05 R163). -/
def State.dumpCheck (s : State) (i : Nat) : Nat :=
  s.handleCode (s.fld .DUMP_SRC_CORE i) (s.fld .DUMP_SRC_HANDLE i) .lr (s.fld .DUMP_OFFSET i) (s.fld .DUMP_LENGTH i) 32

/-- DUMP_TRIGGER: `tag` is the TAG of the macro-operation that completed; it does not matter for KIND TICK. -/
def State.dumpTrigger (s : State) (p k tag : Nat) : State :=
  let i := dumpAt p k
  if !s.dumpFires p i tag then s
  else if s.flag .DUMP_STATUS_RUNNING i then
    if s.fld .DUMP_STATUS_MISSED i = 255 then s else s.addFld .DUMP_STATUS_MISSED 1 i
  else
    let e := s.dumpCheck i
    let s := s.dumpCount i
    if e ≠ 0 then (s.setFld .DUMP_STATUS_CODE e i).setFld .DUMP_STATUS_DONE 1 i
    else
      let d : Dump := { time := s.now, tag := if s.flag .DUMP_CFG_KIND i then 0 else tag, tick := s.fld .PLAN_TICK_LO p }
      (s.setFld .DUMP_STATUS_RUNNING 1 i).setDump i d

def execDumpTrigger (p k tag : Nat) (s : State) : Host.Outcome State Fault Refusal := .next (s.dumpTrigger p k tag)

/-- A word of a dump as port C read it: its bytes, and whether it is TORN or uncorrectable. A word that port B wrote while the dump ran is
told by the command; any other stands as it did at the trigger (19 R560). -/
def State.dumpWord (s : State) (i : Nat) (seen : List (Nat × List Byte × Bool)) (w : Nat) : List Byte × Bool × Bool :=
  let g := s.fld .DUMP_SRC_CORE i
  let h := s.fld .DUMP_SRC_HANDLE i
  match seen.find? (fun e => e.1 = w) with
  | some e => (e.2.1.take 32, e.2.2, false)
  | none =>
    if uncorrectable (s.badBytes g (hWord (s.handle g h) (s.fld .DUMP_OFFSET i / 32 + w))) then (leBytes 32 0, false, true)
    else (s.hRead g h (s.fld .DUMP_OFFSET i + 32 * w) 32, false, false)

/-- A mask with bit j set for the words that satisfy a test. -/
def maskBy {α : Type} (f : α → Bool) (l : List α) : Nat := (l.zipIdx.map (fun e => if f e.1 then 2 ^ e.2 else 0)).sum

/-- Send the records of a dump from chunk c on, n of them (19 Table 19.9). -/
def State.dumpSend (s : State) (p k : Nat) (seen : List (Nat × List Byte × Bool)) : Nat → Nat → State
  | 0, _ => s
  | n + 1, c =>
    let i := dumpAt p k
    let words := (List.range (min 16 (s.fld .DUMP_LENGTH i / 32 - 16 * c))).map (fun w => s.dumpWord i seen (16 * c + w))
    let r := s.dumpRec p k (if n = 0 then 1 else 0) c (maskBy (fun x => x.2.1) words) (maskBy (fun x => x.2.2) words) (words.flatMap (fun x => x.1))
    State.dumpSend (s.sendRec p r) p k seen n (c + 1)

/-- Uncorrectable words that the dump read are counted as the scrubber counts them (19 R560, 05 R158). -/
def State.dumpUes (s : State) (i : Nat) (seen : List (Nat × List Byte × Bool)) : State :=
  let g := s.fld .DUMP_SRC_CORE i
  let v := s.handle g (s.fld .DUMP_SRC_HANDLE i)
  let at_ : Nat → Nat := fun w => hWord v (s.fld .DUMP_OFFSET i / 32 + w)
  ((List.range (s.fld .DUMP_LENGTH i / 32)).filter (fun w => (s.dumpWord i seen w).2.2)).foldl (fun s w => s.noteUe g (at_ w)) s

/-- DUMP_COMPLETE: the whole range has been read and sent. `seen` lists the words that port B wrote while the dump ran, by word of the
range: what port C read of each, and whether it was read after the write (TORN). -/
def State.dumpComplete (s : State) (p k : Nat) (seen : List (Nat × List Byte × Bool)) : State :=
  let i := dumpAt p k
  if !s.flag .DUMP_STATUS_RUNNING i then s
  else
    let s := (s.dumpSend p k seen ((s.fld .DUMP_LENGTH i + 511) / 512) 0).dumpUes i seen
    ((s.setFld .DUMP_STATUS_RUNNING 0 i).setFld .DUMP_STATUS_DONE 1 i).setDump i { time := 0 }

def execDumpComplete (p k : Nat) (seen : List (Nat × List Byte × Bool)) (s : State) : Host.Outcome State Fault Refusal :=
  .next (s.dumpComplete p k seen)

/-! ### Trace records (19 R562, R563) -/

/-- The TRACE body: 13 entries at most (19 Table 19.10). -/
def traceBody (g lost : Nat) (es : List Nat) : List Byte :=
  leBytes 2 g ++ leBytes 2 (min lost 65535) ++ leBytes 1 es.length ++ leBytes 3 0 ++ es.flatMap (leBytes 8) ++ leBytes (8 * (13 - es.length)) 0

/-- The hub buffer of the partition is below 75 % of 256 KiB (19 R554, Table 19.1). -/
def State.hubAdmits (s : State) (p : Nat) : Bool := ((s.hub p).map ObsRec.len).sum < 196608

/-- A TRACE record refused at the hub: counted, and told of later in a LOSS record (19 R563). -/
def State.traceLost (s : State) (p entries t : Nat) : State :=
  let others := s.obs.loss.filter (fun e => e.1 ≠ p)
  let (n, m, t0) := (s.obs.loss.lookup p).getD (0, 0, t)
  { s with obs := { s.obs with loss := others ++ [(p, n + 1, m + entries, t0)] } }.addFld .OBS_REC_LOST 1 p

/-- TRACE_RECORD_SEND: the record holds 13 entries, or 10 µs have passed since its first. -/
def State.traceSend (s : State) (g : Nat) : State :=
  let c := s.core g
  let p := s.corePart g
  match c.trace with
  | [] => s
  | (e, t) :: rest =>
    if c.trace.length < 13 && !reached 64 s.now (t + 640000) then s
    else
      let es := e :: (rest.take 12).map Prod.fst
      let s := s.setCore g { c with trace := rest.drop 12, traceLost := 0 }
      if !s.ringOpen p then s.addFld .OBS_REC_LOST 1 p
      else if s.hubAdmits p then s.sendRec p { kind := recTrace, time := t, body := traceBody g c.traceLost es }
      else s.traceLost p es.length t

def execTraceRecordSend (g : Nat) (s : State) : Host.Outcome State Fault Refusal := .next (s.traceSend g)

/-! ### ND_CTRL (20 R571) -/

def State.ndCtrlWrite (s : State) (party : Party) (p v : Nat) : State :=
  if party = .mgmt then s
  else if s.patchable p then ((s.setFld .ND_CTRL_OVERFLOW_DROP v p).setFld .ND_CTRL_DROP_LO (v / 2 ^ 8) p).setFld .ND_CTRL_DROP_HI (v / 2 ^ 16) p
  else s.cmdReject p

def execNdCtrlWrite (party : Party) (p v : Nat) (s : State) : Host.Outcome State Fault Refusal := .next (s.ndCtrlWrite party p v)

end Sys2Proof.Machine
end

