-- ==== Sys2Proof/Machine/RegAccess.lean ====
section
/-! DEFINITION. Machine/RegAccess.lean: reads and writes of registers by host software and the management agent: the access codes,
64-bit pairs, RC fields, indexed entries, and READ_REG and WRITE_REG (00 R5 to R11; 05 R186; 16 R488). A register whose write is a
command of its own is handed to that command. -/
namespace Sys2Proof.Machine
open Sys2Proof

/-! ### Pairs and indexed entries -/

/-- The _LO registers of the 64-bit pairs, by number; the _HI register has the next number (00 R8). -/
def pairLos : List Nat := [26, 28, 30, 38, 51, 66, 80, 84, 86, 93, 108, 117, 120, 128, 166, 170, 210, 233, 236, 238, 240, 242, 247, 264] ++
  [279, 285, 287, 299, 302, 308, 317, 320, 325, 329, 334, 339, 344, 353, 357, 360, 366, 381, 404, 406, 409, 411, 423, 431, 435]

def Reg.isLo (r : Reg) : Bool := pairLos.contains r.row.id
def Reg.isHi (r : Reg) : Bool := 0 < r.row.id && pairLos.contains (r.row.id - 1)

/-- The register with a number, at the same instance and element. -/
def Reg.other (r : Reg) (id : Nat) : Reg :=
  match regRows.find? (fun x => x.id = id) with
  | some x => { r with row := x }
  | none => r

/-- The number of the register that holds a field. -/
def Fld.reg (f : Fld) : Nat := f.code / 32

/-- The register holds a field with this access code. -/
def Reg.has (r : Reg) (a : Access) : Bool := r.row.fields.any (fun f => f.acc = a)

/-- A writable register (00 Table 0.6). -/
def Reg.writable (r : Reg) : Bool := r.has .RW || r.has .RWS || r.has .WO || r.has .W1C

/-- The low, or the high, register of a writable pair (00 R9). -/
def Reg.pairLow (r : Reg) : Bool := r.isLo && r.writable
def Reg.pairHigh (r : Reg) : Bool := r.isHi && (r.other (r.row.id - 1)).writable

/-- The third part of TIME_NOW and TIME_PPS, latched with the high half: its number and address (10 R327). -/
def Reg.ext (r : Reg) : Option (Nat × Nat) :=
  if r.row.id = Fld.TIME_NOW_LO.reg then some (Fld.TIME_NOW_EXT.reg, 0x00C00048)
  else if r.row.id = Fld.TIME_PPS_LO.reg then some (Fld.TIME_PPS_EXT.reg, 0x00C00088)
  else none

/-- The last register of an indexed entry: a read of it advances the index (05 R186). -/
def Reg.advances (r : Reg) : Bool :=
  [Fld.HANDLE_HI.reg, Fld.WINDOW_HI.reg, Fld.SYNC_DECL_HI.reg, Fld.ROUTE_TBL_ATTR.reg, Fld.SRV_MAP_HI.reg].contains r.row.id
    || (r.row.id = Fld.BIND_W.reg && r.k = 3)

/-- The index of an indexed entry advances by one when AUTO is set, wrapping from the last entry to 0. -/
def State.advanceIndex (s : State) (r : Reg) : State :=
  let step : Fld → Fld → Nat → State := fun idx auto i => if s.flag auto i then s.addFld idx 1 i else s
  if r.row.id = Fld.HANDLE_HI.reg then step .HANDLE_INDEX_INDEX .HANDLE_INDEX_AUTO r.i
  else if r.row.id = Fld.WINDOW_HI.reg then step .WINDOW_INDEX_INDEX .WINDOW_INDEX_AUTO r.i
  else if r.row.id = Fld.SYNC_DECL_HI.reg then step .SYNC_DECL_INDEX_INDEX .SYNC_DECL_INDEX_AUTO r.i
  else if r.row.id = Fld.ROUTE_TBL_ATTR.reg then step .ROUTE_TBL_INDEX_ENTRY .ROUTE_TBL_INDEX_AUTO 0
  else if r.row.id = Fld.SRV_MAP_HI.reg then step .SRV_MAP_INDEX_INDEX .SRV_MAP_INDEX_AUTO 0
  else if r.advances then step .BIND_INDEX_INDEX .BIND_INDEX_AUTO 0
  else s

/-! ### Reads -/

/-- The management agent has no access to BAR2 (14 R434) nor to Thimble's mailbox block (15 R480). -/
def Reg.closed (r : Reg) (party : Party) : Bool :=
  party = .mgmt && (match r.row.group with | .dbD | .queueQ | .hostH | .secG | .secP => true | _ => false)

/-- Registers of a core, and of a barrier, that are gated on tenant debug (03 R113, 06 R211, R212). -/
def coreGated : List Nat := [Fld.CP_PC.reg, Fld.SLOT.reg, Fld.SCALAR_LO.reg, Fld.SCALAR_HI.reg, Fld.SYNC_STATUS_COUNTER.reg, Fld.BAR_ARRIVED.reg,
  Fld.SYNC_GIVEN.reg, Fld.SYNC_TAKEN.reg]
def barGated : List Nat := [Fld.BAR_ROUND.reg, Fld.BAR_LOCAL_CUR.reg, Fld.BAR_HOME_CUR.reg, Fld.BAR_HOME_NEXT.reg]

/-- A read of the register by a party returns zero: the gate on tenant debug (15 R477, 16 R488), a partition's counters for a party that
may not learn its timing (15 R477), and the aggregates without an OBSERVE grant (19 R548). -/
def State.hides (s : State) (party : Party) (r : Reg) : Bool :=
  if coreGated.contains r.row.id then party = .mgmt || !s.debugOpen (s.corePart r.i) party
  else if barGated.contains r.row.id then party = .mgmt || !s.debugOpen (r.i / 32) party
  else if r.row.id = Fld.OBS_CNT_VALUE_LO.reg || r.row.id = Fld.OBS_CNT_VALUE_HI.reg then party = .mgmt || s.tenantBars r.i party
  else if r.row.id = Fld.OBS_AGG_LO.reg || r.row.id = Fld.OBS_AGG_HI.reg then party ≠ .mgmt && !s.flag .SEC_STATUS_OBSERVE
  else false

/-- What a party sees of a register, apart from what the read does. -/
def State.seen (s : State) (party : Party) (r : Reg) : Nat := if s.hides party r then 0 else s.regValue r

/-- Latch the rest of a pair at a read of its low half (00 R8, 10 R327). -/
def State.latchPair (s : State) (party : Party) (a : Nat) (r : Reg) : State :=
  let s' := s.latchHigh party a (s.seen party (r.other (r.row.id + 1)))
  match r.ext with
  | some (id, e) => s'.latchHigh party e (s.seen party (r.other id))
  | none => s'

/-- The value latched at an address for a party, else the current one. -/
def State.latchedOr (s : State) (party : Party) (a cur : Nat) : Nat :=
  match bankGet 0 s.latch (pairKey party a) with
  | 0 => cur
  | v + 1 => v

/-- What a read of a register returns, where latched halves count. -/
def State.readValue (s : State) (party : Party) (a : Nat) (r : Reg) : Nat :=
  if r.isHi then s.latchedOr party (a - 4) (s.seen party r)
  else if r.row.id = Fld.TIME_NOW_EXT.reg || r.row.id = Fld.TIME_PPS_EXT.reg then s.latchedOr party a (s.seen party r)
  else s.seen party r

/-- The RC fields of a register are cleared; with `counted`, a count made in the same cycle stays (00 R7). -/
def State.clearRc (s : State) (r : Reg) (counted : Bool) : State :=
  r.row.fields.foldl (fun s f => if f.acc = .RC then s.setFld f counted.toNat r.i r.k else s) s

/-- What a read does before its value is taken: a nonce is drawn, a counter fetched, a free level used up. -/
def State.beforeRead (s : State) (party : Party) (r : Reg) : State :=
  if r.row.id = Fld.PLINTH_NONCE.reg && r.k = 0 then s.nonceDraw
  else if r.row.id = Fld.SEC_NONCE.reg && r.k = 0 then s.secNonceDraw
  else if r.row.id = Fld.OBS_CNT_VALUE_LO.reg then (s.counterFetch party r.i).1
  else if r.row.id = Fld.PIN_LEVEL_PERST_LOW.reg then s.draw.2
  else s

/-- What a read does after it. -/
def State.afterRead (s : State) (party : Party) (a : Nat) (r : Reg) (counted : Bool) : State :=
  let s := if r.isLo then s.latchPair party a r else s
  (s.clearRc r counted).advanceIndex r

/-- A read of a register by a party: the state after it, and the value. -/
def State.readReg (s : State) (party : Party) (a : Nat) (r : Reg) (counted : Bool) : State × Nat :=
  if r.closed party then (s, 0)
  else
    let s := s.beforeRead party r
    (s.afterRead party a r counted, s.readValue party a r)

/-- A read at an address; an address that names no register reads zero (00 R5). -/
def State.readAt (s : State) (party : Party) (a : Nat) : State × Nat :=
  match regAt a with
  | some r => s.readReg party a r false
  | none => (s, 0)

/-- A read of a register of a kind, answered to the party. -/
def State.readKind (s : State) (party : Party) (a : Nat) (counted : Bool) (kind : Reg → Bool) : State :=
  match regAt a with
  | some r => if kind r && !s.hostShut party then (s.readReg party a r counted).1.out (.readData party (s.readReg party a r counted).2) else s
  | none => s

/-- PAIR_LO_READ: a read of the low half at `off`, of the high half above it, or of both by a 64-bit access of the host, which reads the
low half and then the high one (00 R8, R11). -/
def execPairLoRead (party : Party) (bar2 : Bool) (off : Nat) (s : State) (part : PairPart := .lo) : Host.Outcome State Fault Refusal :=
  let lo : State → State := fun s => s.readKind party (regAddr bar2 off) false Reg.isLo
  let hi : State → State := fun s => s.readKind party (regAddr bar2 (off + 4)) false Reg.isHi
  .next (match part with
    | .lo => lo s
    | .hi => hi s
    | .both => hi (lo s))

def execRcCounterRead (party : Party) (bar2 : Bool) (off : Nat) (counted : Bool) (s : State) : Host.Outcome State Fault Refusal :=
  .next (s.readKind party (regAddr bar2 off) counted (fun r => r.has .RC))

def execHiReadAdvance (party : Party) (bar2 : Bool) (off : Nat) (s : State) : Host.Outcome State Fault Refusal :=
  .next (s.readKind party (regAddr bar2 off) false Reg.advances)

/-! ### Writes by the access codes -/

/-- A field takes its part of a written value, by its access code (00 Table 0.6). -/
def State.writeFld (s : State) (f : Fld) (i k v : Nat) : State :=
  let x := v / 2 ^ (f.code % 32) % 2 ^ f.width
  match f.acc with
  | .RW | .RWS | .WO => s.setFld f x i k
  | .W1C => s.setFld f (s.fld f i k &&& (x ^^^ (2 ^ f.width - 1))) i k
  | _ => s

/-- VALID bits whose clearing also zeroes a code (the error registers of every chapter). -/
def validBits : List (Fld × Fld) := [
  (.FAB_ERROR_INFO_VALID, .FAB_ERROR_CODE), (.LINK_ERROR_INFO_VALID, .LINK_ERROR_CODE), (.ROUTE_ERROR_INFO_VALID, .ROUTE_ERROR_CODE),
  (.TIME_ERROR_VALID, .TIME_ERROR_CODE), (.HBM_ERROR_VALID, .HBM_ERROR_CODE), (.SRV_ERROR_INFO_VALID, .SRV_ERROR_CODE),
  (.HOST_ERROR_INFO_VALID, .HOST_ERROR_CODE), (.MGMT_ERROR_VALID, .MGMT_ERROR_CODE), (.PWR_ERROR_INFO_VALID, .PWR_ERROR_CODE),
  (.ARM_ERROR_VALID, .ARM_ERROR_CODE)]

/-- The code that goes with a VALID bit written with one. -/
def State.dropCode (s : State) (f : Fld) (i v : Nat) : State :=
  if v.testBit (f.code % 32) then
    match validBits.find? (fun e => e.1.code = f.code) with
    | some e => s.setFld e.2 0 i
    | none => s
  else s

/-- A write of a register by the access codes of its fields. -/
def State.writeFlds (s : State) (r : Reg) (v : Nat) : State :=
  r.row.fields.foldl (fun s f => (s.writeFld f r.i r.k v).dropCode f r.i v) s

/-- The low half that a commit takes when none is held: what the low half holds; nothing to clear in a W1C pair, zero in a write-only one
(00 R9). -/
def State.lowKept (s : State) (r : Reg) : Nat :=
  let lo := r.other (r.row.id - 1)
  if lo.has .W1C || lo.has .WO then 0 else s.regValue lo

/-- The 64-bit value that a write of a _HI register commits. -/
def State.pairValue (s : State) (party : Party) (a : Nat) (r : Reg) (v : Nat) : Nat × State := s.commitPair party (a - 4) (s.lowKept r) v

/-- A commit of both halves by the access codes. -/
def State.writePair (s : State) (party : Party) (a : Nat) (r : Reg) (v : Nat) : State :=
  let (x, s) := s.pairValue party a r v
  (s.writeFlds (r.other (r.row.id - 1)) x).writeFlds r (x / 2 ^ 32)

/-! ### Writes that are commands -/

/-- The state that a command leaves. -/
def State.after (s : State) (f : State → Host.Outcome State Fault Refusal) : State :=
  match f s with
  | .next t => t
  | _ => s

/-- Carry out the commands of the bits that are set, in ascending order (01 R53). -/
def State.bitCmds (s : State) (v : Nat) (fs : List (State → State)) : State :=
  fs.zipIdx.foldl (fun s e => if v.testBit e.2 then e.1 s else s) s

/-- The commands of PLAN_CTRL by bit. -/
def planCmds (party : Party) (p : Nat) : List (State → State) :=
  [fun s => s.after (execPlanCtrlArm party p), fun s => s.after (execPlanCtrlStartNow party p), fun s => s.after (execPlanCtrlStop p),
    fun s => s.after (execPlanCtrlAbort p), fun s => s.after (execPlanCtrlResume party p), fun s => s.after (execPlanCtrlClear p),
    fun s => s.after (execPlanCtrlUnload p)]

/-- PLAN_CTRL: STOP_AT_TICK, judged in the state that the write finds, then the command bits (01 R53). -/
def State.writePlanCtrl (s : State) (party : Party) (p v : Nat) : State :=
  (s.after (execPlanSettingWrite p .stopAtTick (v / 2 ^ 8))).bitCmds v (planCmds party p)

/-- The registers of a partition's plan sequencer (01 Table 1.9, 20 Table 20.2). -/
def State.writePlan (s : State) (party : Party) (a : Nat) (r : Reg) (v : Nat) : State :=
  let p := r.i
  let pair : PlanSetting → State := fun which => (s.pairValue party a r v).2.after (execPlanSettingWrite p which (s.pairValue party a r v).1)
  match r.row.off with
  | 0x00 => s.writePlanCtrl party p v
  | 0x14 => pair .stopTick
  | 0x1C => pair .startTime
  | 0x20 => s.after (execHemDepthWrite p v)
  | 0x24 => s.after (execPlanSettingWrite p .holdTimeout v)
  | 0x80 => s.ndCtrlWrite party p v
  | _ => s.writeFlds r v

/-- The command that a write of ARM_CTRL makes: the first of APPLY, STAGE and DISCARD (02 R69). -/
def armPick (v : Nat) : Option Nat := [1, 0, 2].find? (fun b => v.testBit b)

/-- Carry it out. -/
def State.armRun (s : State) (party : Party) : Option Nat → State
  | none => s
  | some b => s.armCmd party false (if b = 1 then State.armApply else if b = 0 then State.armStage else State.armDiscard)

/-- The loader's registers (02 Table 2.11): one command of ARM_CTRL; clearing ARM_ERROR.VALID or ARM_STATUS.FAILED clears VALID, CODE and
MULTI together. -/
def State.writeArm (s : State) (party : Party) (r : Reg) (v : Nat) : State :=
  let wipe : State → State := fun s => ((s.setFld .ARM_ERROR_CODE 0).setFld .ARM_ERROR_MULTI 0).setFld .ARM_ERROR_VALID 0
  match r.row.off with
  | 0x00 => s.armRun party (armPick v)
  | 0x04 => if v.testBit (Fld.ARM_STATUS_FAILED.code % 32) then wipe (s.writeFlds r v) else s.writeFlds r v
  | 0x08 => if v.testBit 31 then wipe (s.writeFlds r v) else s.writeFlds r v
  | _ => s.writeFlds r v

/-- ARITH_FLAGS is written: with the last flag ARITH_FIRST_TAG.VALID goes (04 Table 4.11). -/
def State.writeFlags (s : State) (r : Reg) (v : Nat) : State :=
  let s := s.writeFlds r v
  if s.regValue r = 0 then s.setFld .ARITH_FIRST_TAG_VALID 0 r.i else s

/-- The registers of a core (03 Table 3.8, 04 Table 4.11, 05 Table 5.9, 06 Table 6.7). -/
def State.writeCore (s : State) (party : Party) (a : Nat) (r : Reg) (v : Nat) : State :=
  let g := r.i
  match r.row.off with
  | 0x20 => s.brkWrite party g 0 v
  | 0x24 => s.brkWrite party g 1 v
  | 0x2C => s.brkWrite party g 2 v
  | 0x34 => s.brkWrite party g 3 v
  | 0x40 => if s.flag .SEC_PART_DEBUG (s.corePart g) && !s.tenantBars (s.corePart g) party then s.writeFlds r v else s
  | 0x50 => s.writeFlags r v
  | 0x54 => s.arithTrapWrite party g v
  | 0x100 => s.prmWrite party g r.k v
  | 0x408 => s.handleCommit party g v
  | 0x414 => s.windowCommit party g v
  | 0x508 => s.syncDeclCommit party g v
  | 0x520 => s.barrierMemberWrite party g v
  | _ => if r.isHi then s.writePair party a r v else s.writeFlds r v

/-- The scratchpad's global registers (05 Table 5.8). -/
def State.writeSpad (s : State) (party : Party) (a : Nat) (r : Reg) (v : Nat) : State :=
  match r.row.off with
  | 0x04 => if party = .mgmt then s else s.recoveryWrite v
  | 0x08 => s.clearStart v
  | 0x20 => if party = .mgmt then s else if v.testBit 0 then s.sideGo .host v else s.writeFlds r v
  | off =>
    if party = .mgmt && 0x20 ≤ off && off ≤ 0x3C then s
    else if r.isHi then s.writePair party a r v
    else s.writeFlds r v

/-- A port's LINK_CTRL: the settings, ENABLE, then the command bits (08 Table 8.14). -/
def State.writeLinkCtrl (s : State) (r : Reg) (v : Nat) : State :=
  let n := r.i
  let s := ((s.writeFld .LINK_CTRL_CAL_EN n 0 v).writeFld .LINK_CTRL_HALF_WIDTH_EN n 0 v).writeFld .LINK_CTRL_RATE_MASK n 0 v
  let s := if v.testBit 0 then s.after (execLinkEnable n) else s.after (execLinkDisable n)
  s.bitCmds (v / 2) [fun s => s.after (execLinkRetrain n), fun s => s.after (execLinkFullTrain n), fun s => s.after (execLinkAcceptPeer n)]

/-- The registers of a port (08 Table 8.14). -/
def State.writePort (s : State) (party : Party) (a : Nat) (r : Reg) (v : Nat) : State :=
  if r.row.off = 0 then s.writeLinkCtrl r v else if r.isHi then s.writePair party a r v else s.writeFlds r v

/-- The routing block, which only host software writes (09 R307, Table 9.6). -/
def State.writeRoute (s : State) (party : Party) (a : Nat) (r : Reg) (v : Nat) : State :=
  if party = .mgmt then s
  else match r.row.group, r.row.off with
    | .routeG, 0x10 => s.tblIndex party v
    | .routeG, 0x14 => s.tblHold party false v
    | .routeG, 0x18 => s.tblHold party true v
    | .routeG, 0x1C => s.tblCommit party v
    | .slotJ, 0x00 => s.slotConfig party r.i 0 v
    | .slotJ, 0x04 => s.slotConfig party r.i 1 v
    | .slotJ, 0x08 => s.slotConfig party r.i 2 v
    | .slotJ, 0x0C => s.slotConfig party r.i 3 v
    | .slotJ, 0x10 => s.bitCmds v [fun s => s.slotActivate r.i, fun s => s.slotDrain r.i, fun s => s.slotClose r.i, fun s => s.switchArm r.i,
        fun s => s.switchAbort r.i]
    | _, _ => if r.isHi then s.writePair party a r v else s.writeFlds r v

/-- The clock and time block (10 Table 10.10). -/
def State.writeTime (s : State) (party : Party) (r : Reg) (v : Nat) : State :=
  match r.row.group, r.row.off with
  | .timeG, 0x00 => s.writeClkCtrl v
  | .timeG, 0x24 => s.writeTimeCtrl v
  | .timeG, 0x38 => (s.writeFlds r v).lookForParent
  | .timeG, 0x3C => (s.writeFlds r v).lookForParent
  | .timeG, 0x5C => s.rateWrite party v
  | .timeG, 0x64 => s.stepWrite party v
  | .timeG, 0x68 => s.after (execTimeSOffsetHoldWrite party false v)
  | .timeG, 0x6C => s.after (execTimeSOffsetHoldWrite party true v)
  | .timeG, 0x70 => s.sOffsetCommit party v
  | _, _ => s.writeFlds r v

/-- A stack's registers; HDM_MODE of slice 16j + nn is at element j (11 R371). -/
def State.writeHbm (s : State) (party : Party) (r : Reg) (v : Nat) : State :=
  if r.row.off = 0x100 then s.hdmMode party (16 * r.k + r.i) (v.testBit (Fld.HBM_SLICE_HDM_MODE.code % 32)) else s.writeFlds r v

/-- A write of a replacement's registers while it is WRITING: ABORT by host software counts, anything else is ignored and records
E_PLINTH_REPL_STATE (12 R394, R396). -/
def State.replWhileWriting (s : State) (party : Party) (r : Reg) (v : Nat) : State :=
  if party = .host && r.row.off = 0 && v.testBit 1 then s.replAbort party r.i else s.replCode r.i E_PLINTH_REPL_STATE

/-- A partition's replacement registers, closed to the management agent (12 R392 to R397). -/
def State.writeRepl (s : State) (party : Party) (a : Nat) (r : Reg) (v : Nat) : State :=
  if s.replState r.i = replWriting then s.replWhileWriting party r v
  else if party = .mgmt then s
  else if r.row.off = 0 then
    (s.writeFlds r v).bitCmds v [fun s => s.replArm party r.i, fun s => s.replAbort party r.i, fun s => s.replFinish party r.i]
  else if r.isHi then s.writePair party a r v
  else s.writeFlds r v

/-- The Plinth's registers: BIND_W0 to W2 are held and BIND_W3 commits (12 R388, R397). INSTALL and DELETE are commands of their own, which
carry the package or the token that the Plinth fetches. -/
def State.writePlinth (s : State) (party : Party) (a : Nat) (r : Reg) (v : Nat) : State :=
  match r.row.off with
  | 0x74 => if r.k = 3 then s.bindCommit party v else if party = .mgmt then s.setFld .BIND_STATUS_REJECT 1 else s.holdLow .host a v
  | off =>
    if party = .mgmt && 0x70 ≤ off && off ≤ 0x84 then s
    else if r.isHi then s.writePair party a r v
    else s.writeFlds r v

/-- The serving unit's registers, which only host software writes (13 R421). -/
def State.writeSrv (s : State) (party : Party) (r : Reg) (v : Nat) : State :=
  if party = .mgmt then s
  else match r.row.group, r.row.off with
    | .srvP, 0x00 => s.srvCfg party r.i v
    | .srvP, 0x10 => s.srvKv party r.i 0x10 v
    | .srvP, 0x14 => s.srvKv party r.i 0x14 v
    | .srvP, 0x1C => s.srvKv party r.i 0x1C v
    | .srvP, 0x20 => s.srvKv party r.i 0x20 v
    | .srvP, 0x28 => s.admitThrough party r.i v
    | _, _ => s.writeFlds r v

/-- A queue's registers: ENABLE moves the queue; Q_BASE of a bound queue accepts writes only on the bound stream (14 R439, R450). -/
def State.writeQueue (s : State) (party : Party) (a : Nat) (r : Reg) (v : Nat) : State :=
  let q := r.i
  match r.row.off with
  | 0x04 => if s.mayCfg party q then s.writePair party a r v else s.cfgReject q
  | 0x08 =>
    if v.testBit 0 then s.queueEnable party q v
    else if s.qState q = qDisabled then s.queueCfg party q v
    else s.queueDisable party q
  | _ => if r.isHi then s.writePair party a r v else s.writeFlds r v

/-- The power and management registers (16 Table 16.9, 17 Table 17.13). -/
def State.writePower (s : State) (party : Party) (r : Reg) (v : Nat) : State :=
  match r.row.group, r.row.off with
  | .mgmtG, 0x00 => if v.testBit 1 then s.claimPlan party else s
  | .mgmtG, 0x04 => s.writeEnvelope party v
  | .mgmtG, 0x08 => s.writeCap party v none
  | .mgmtG, 0x0C => s.writeClockCap party v
  | .pwrG, 0x30 => if v.testBit 7 then s.sleeveGo party (v % 128) none else s.writeFlds r v
  | _, _ => s.writeFlds r v

/-- The device's observation registers (19 R564). -/
def State.writeObs (s : State) (party : Party) (a : Nat) (r : Reg) (v : Nat) : State :=
  match r.row.off with
  | 0x04 => if party = .mgmt then s else s.writeFlds r v
  | 0x08 => (s.writeFlds r v).bitCmds v [State.starchNow, State.starchArm, State.starchRelease]
  | _ => if r.isHi then s.writePair party a r v else s.writeFlds r v

/-- A partition's observation registers, closed to the management agent (19 R553, R555, R564). -/
def State.writeObsPart (s : State) (party : Party) (a : Nat) (r : Reg) (v : Nat) : State :=
  if party = .mgmt then s
  else match r.row.off with
    | 0x04 => (s.pairValue party a r v).2.obsRingWrite party r.i .base (s.pairValue party a r v).1
    | 0x08 => s.obsRingWrite party r.i .cfg v
    | 0x10 => s.obsCiWrite party r.i v
    | 0x14 => if v.testBit 0 then s.plasterDemand party r.i else s
    | 0x28 => s.writeFlds r (v - v % 2)
    | _ => s.writeFlds r v

/-- A dump point's registers (19 R559). -/
def State.writeDump (s : State) (party : Party) (a : Nat) (r : Reg) (v : Nat) : State :=
  let p := r.i / 8
  let k := r.i % 8
  match r.row.off with
  | 0x00 => s.dumpWrite party p k .cfg v
  | 0x04 => s.dumpWrite party p k .tag v
  | 0x08 => s.dumpWrite party p k .src v
  | 0x0C => s.dumpWrite party p k .offset v
  | 0x10 => s.dumpWrite party p k .length v
  | 0x18 => (s.pairValue party a r v).2.dumpWrite party p k .tick (s.pairValue party a r v).1
  | _ => if party = .mgmt then s else s.writeFlds r v

/-- Registers that only host software may write (the register tables' notes). -/
def Reg.hostOnly (r : Reg) : Bool :=
  r.closed Party.mgmt || (match r.row.group with | .barB | .coreC | .routeG | .slotJ | .plinthP | .srvG | .srvP | .obsP | .dumpD => true | _ => false)
    || r.row.id = Fld.FAB_ROUTE_INDEX_DEST.reg || r.row.id = Fld.HBM_SLICE_HDM_MODE.reg
    || (r.row.group = .spadG && (r.row.off = 0x04 || (0x20 ≤ r.row.off && r.row.off ≤ 0x3C)))
    || (r.row.group = .plinthG && 0x70 ≤ r.row.off && r.row.off ≤ 0x84)

/-- The low half of a pair is written: it is held (00 R9), where the party's write of it counts at all (03 R111, 12 R394, 19 R559). The low
half of PLAN_STOP_TICK or PLAN_START_TIME is held in any partition state: the commit is judged (01 R53; DESIGN CHOICE, log entry 74). -/
def State.writeLow (s : State) (party : Party) (a : Nat) (r : Reg) (v : Nat) : State :=
  let shut : Bool := party = .mgmt && (match r.row.group with | .coreC | .slotJ | .srvP | .obsP | .dumpD => true | .plinthP => s.replState r.i ≠ replWriting | _ => false)
  if shut || (party = .mgmt && r.row.id = Fld.SIDE_DST_LO.reg) then s
  else if r.row.id = Fld.BRK_COUNT_LO.reg || r.row.id = Fld.BRK_TICK_LO.reg then
    if s.debugOpen (s.corePart r.i) party then s.holdLow party a v else s.setFld .BRK_STATUS_DENIED 1 r.i
  else if r.row.group = .plinthP && s.replState r.i = replWriting then s.replCode r.i E_PLINTH_REPL_STATE
  else if r.row.id = Fld.OBS_RING_BASE_LO.reg && (s.tenantBars r.i party || s.flag .OBS_RING_CFG_EN r.i) then s.obsReject r.i
  else if r.row.id = Fld.DUMP_TICK_LO.reg && (!s.dumpMay (r.i / 8) party || s.flag .DUMP_CFG_EN r.i) then s.dumpWrite party (r.i / 8) (r.i % 8) .tick 0
  else if r.row.id = Fld.Q_BASE_LO.reg && !s.mayCfg party r.i then s.cfgReject r.i
  else if r.row.id = Fld.SRV_KV_TABLE_LO.reg then s.srvKv party r.i 0x18 v
  else s.holdLow party a v

/-- A write of a register by a party, by its block. -/
def State.writeReg (s : State) (party : Party) (a : Nat) (r : Reg) (v : Nat) : State :=
  if r.closed party then s
  else if r.pairLow then
    if r.row.group = .timeG && (a = rateAddr || a = stepAddr) && !s.timeWritable then s.timeRefuse E_TIME_WRITE_REFUSED else s.writeLow party a r v
  else match r.row.group with
    | .planP => s.writePlan party a r v
    | .barB => if party = .mgmt then s else if r.row.off = 0 then s.barRanksWrite party (r.i / 32) (r.i % 32) v else s.writeFlds r v
    | .armG => if r.isHi then s.writePair party a r v else s.writeArm party r v
    | .coreC => if party = .mgmt then s else s.writeCore party a r v
    | .spadG => s.writeSpad party a r v
    | .fabN => if party = .mgmt && r.row.id = Fld.FAB_ROUTE_INDEX_DEST.reg then s else s.writeFlds r v
    | .linkP => s.writePort party a r v
    | .routeG | .slotJ => s.writeRoute party a r v
    | .timeG | .timeT => s.writeTime party r v
    | .hbmH => s.writeHbm party r v
    | .plinthG => s.writePlinth party a r v
    | .plinthP => s.writeRepl party a r v
    | .srvG | .srvP => s.writeSrv party r v
    | .dbD => s.doorbell r.i v
    | .queueQ => s.writeQueue party a r v
    | .hostH => if r.row.id = Fld.INT_STATUS_HI.reg then s.writePair party a r v else s.writeFlds r v
    | .secG => if r.row.id = Fld.MBX_CTRL.reg then (if v.testBit 0 then s.mbxGo party else s) else if r.isHi then s.writePair party a r v else s.writeFlds r v
    | .mgmtG | .pwrG => s.writePower party r v
    | .obsG => s.writeObs party a r v
    | .obsP => s.writeObsPart party a r v
    | .dumpD => s.writeDump party a r v
    | _ => s.writeFlds r v

/-- A write at an address; an address that names no register ignores it (00 R5). -/
def State.writeAt (s : State) (party : Party) (a v : Nat) : State :=
  match regAt a with
  | some r => s.writeReg party a r (v % 2 ^ 32)
  | none => s

/-! ### Two writes of one register in one cycle, and W1C bits set meanwhile (00 R7; log entry 27) -/

/-- Host software's and the management agent's write of PLAN_CTRL: the management agent's is carried out, a command bit that both set
once; ARM, START_NOW or RESUME set by both is carried out for the party that owns PLAN and refused to the other (01 R53, 16 R492,
R493; log entry 76). -/
def State.tiePlanCtrl (s : State) (hp : Party) (p h m : Nat) : State :=
  let s := s.after (execPlanSettingWrite p .stopAtTick (m / 2 ^ 8))
  ((planCmds .mgmt p).zip (planCmds hp p)).zipIdx.foldl (fun s e =>
    if !m.testBit e.2 then s
    else
      let s := e.1.1 s
      if h.testBit e.2 && (e.2 = 0 || e.2 = 1 || e.2 = 4) && s.ownsPlan hp then e.1.2 s else s) s

/-- Their writes of ARM_CTRL: one command is carried out once; of two the management agent's, and the host's records E_ARM_BUSY
(02 R69). -/
def State.tieArm (s : State) (hp : Party) (h m : Nat) : State :=
  match armPick h, armPick m with
  | x, none => s.armRun hp x
  | none, y => s.armRun .mgmt y
  | x, y => if x = y then s.armRun .mgmt y else (s.armRun .mgmt y).armError E_ARM_BUSY

/-- Their writes of SLEEVE_CTRL (17 R527). -/
def State.tieSleeve (s : State) (r : Reg) (h m : Nat) : State :=
  if m.testBit 7 then s.sleeveGo .mgmt (m % 128) (if h.testBit 7 then some (h % 128) else none) else s.writeFlds r m

/-- Host software and the management agent write one register in the same cycle: the management agent's write is carried out (16 R493),
except where the register's chapter says otherwise: a bit of PLAN_CTRL and of ARM_CTRL, POWER_CAP, SLEEVE_CTRL, the W1C fields of the
device-wide HBM registers (11 R372). Of a register that only host software may write, the management agent's write is what it is
alone. -/
def State.bothWrite (s : State) (hp : Party) (a : Nat) (r : Reg) (h m : Nat) : State :=
  match r.row.group, r.row.off with
  | .planP, 0x00 => s.tiePlanCtrl hp r.i h m
  | .armG, 0x00 => s.tieArm hp h m
  | .pwrG, 0x30 => s.tieSleeve r h m
  | .mgmtG, 0x08 => s.writeCap .mgmt m (some h)
  | .hbmG, _ => s.writeReg .mgmt a r (h ||| m)
  | _, _ => if r.hostOnly then (s.writeReg .mgmt a r m).writeReg hp a r h else s.writeReg .mgmt a r m

/-- The W1C bits of a register. -/
def Reg.w1c (r : Reg) : Nat :=
  r.row.fields.foldl (fun n f => if f.acc = .W1C then n ||| (2 ^ f.width - 1) * 2 ^ (f.code % 32) else n) 0

/-- W1C bits that hardware set in the cycle of a write end set (00 R7). -/
def State.hwSets (s : State) (r : Reg) (sets : Nat) : State :=
  r.row.fields.foldl (fun s f => if f.acc = .W1C then s.setFld f (s.fld f r.i r.k ||| sets / 2 ^ (f.code % 32) % 2 ^ f.width) r.i r.k else s) s

/-- A write of a register with what else its cycle holds. -/
def State.writeTied (s : State) (party : Party) (a : Nat) (r : Reg) (v : Nat) (also : Meanwhile) : State :=
  let keep : Nat → Nat := fun x => x % 2 ^ 32 - (x % 2 ^ 32 &&& (also.sets &&& r.w1c))
  let s := match also.other with
    | none => s.writeReg party a r (keep v)
    | some w => if party = Party.mgmt then s.bothWrite Party.host a r (keep w) (keep v) else s.bothWrite party a r (keep v) (keep w)
  if r.pairHigh then (s.hwSets (r.other (r.row.id - 1)) also.sets).hwSets r (also.sets / 2 ^ 32) else s.hwSets r also.sets

/-- A write of a register of a kind. -/
def State.writeKind (s : State) (party : Party) (a v : Nat) (kind : Reg → Bool) (also : Meanwhile := {}) : State :=
  match regAt a with
  | some r => if kind r && !s.hostShut party then s.writeTied party a r v also else s
  | none => s

/-- A write of dword k of the MSI-X table: four dwords a vector, its mask in bit 0 of the last; a pending vector that becomes unmasked
sends its message (14 Table 14.4, R446; the places are PCIe's, log entry 39). -/
def State.msixWrite (s : State) (k v : Nat) : State :=
  let n := k / 4
  if k % 4 ≠ 3 then { s with host := { s.host with msixWords := bankSet 0 s.host.msixWords k v } }
  else
    let others := s.host.unmasked.filter (fun x => x ≠ n)
    if v.testBit 0 then { s with host := { s.host with unmasked := others } }
    else
      let s := { s with host := { s.host with unmasked := others ++ [n] } }
      if s.host.pba.testBit n && s.fld .INT_MODE = 2 then { s with host := { s.host with pba := putBit s.host.pba n false } }.out (.msix n) else s

/-- An offset in BAR2 that lies in the MSI-X table (14 Table 14.5). -/
def inMsixTable (bar2 : Bool) (off : Nat) : Bool := bar2 && 0x00180000 ≤ off && off < 0x00180400 && off % 4 = 0

def execRegisterWrite (party : Party) (bar2 : Bool) (off v : Nat) (s : State) (also : Meanwhile := {}) : Host.Outcome State Fault Refusal :=
  if inMsixTable bar2 off then .next (if party = .mgmt || s.hostShut party then s else s.msixWrite ((off - 0x00180000) / 4) (v % 2 ^ 32)) else
  .next (s.writeKind party (regAddr bar2 off) v (fun r => !r.pairLow && !r.pairHigh) also)

/-- PAIR_LO_WRITE: a write of the low half; with `hi`, a 64-bit access of the host, which writes the low half and then the high one
(00 R9, R11). -/
def execPairLoWrite (party : Party) (bar2 : Bool) (off v : Nat) (s : State) (hi : Option Nat := none) : Host.Outcome State Fault Refusal :=
  let s := s.writeKind party (regAddr bar2 off) v (fun r => r.pairLow || (hi.isSome && r.isLo))
  .next (match hi with
    | none => s
    | some h => s.writeKind party (regAddr bar2 (off + 4)) h Reg.isHi)

def execPairHiWrite (party : Party) (bar2 : Bool) (off v : Nat) (s : State) (also : Meanwhile := {}) : Host.Outcome State Fault Refusal :=
  .next (s.writeKind party (regAddr bar2 off) v Reg.pairHigh also)

/-! ### READ_REG and WRITE_REG (16 R488) -/

/-- The offset is one that READ_REG and WRITE_REG reach: in BAR0, aligned. -/
def proxied (off : Nat) : Bool := off < 2 ^ 26 && off % 4 = 0

/-- Registers that can be read while PERST_N is asserted (17 R530; those of 10 Table 10.10 at all times, 10 R346; log entry 87), and those that
store a write then (16 Table 16.7). -/
def readInReset (off : Nat) : Bool := (0x01200000 ≤ off && off < 0x01200C00) || (0x00C00000 ≤ off && off < 0x00C01800)
def writeInReset (off : Nat) : Bool := 0x01200804 ≤ off && off ≤ 0x0120080C

/-- READ_REG: a read as the management agent; the reply carries the value. -/
def State.proxyRead (s : State) (b off : Nat) : State :=
  s.ask (.mgmt b) 0 (fun s =>
    if !proxied off || (s.flag .PWR_STATE_PERST && !readInReset off) then s.answer (.mgmt b) E_MGMT_REG_ACCESS
    else (s.readAt .mgmt off).1.answer (.mgmt b) 0 [(s.readAt .mgmt off).2])

def execReadReg (b off : Nat) (s : State) : Host.Outcome State Fault Refusal := .next (s.proxyRead b off)

/-- A write that R492 refuses the management agent: PLAN_CTRL.ARM, START_NOW or RESUME while host software owns PLAN. -/
def State.notItsDomain (s : State) (off v : Nat) : Bool :=
  match regAt off with
  | some r => r.row.id = Fld.PLAN_CTRL_ARM.reg && !s.ownsPlan .mgmt && (v.testBit 0 || v.testBit 1 || v.testBit 4)
  | none => false

/-- WRITE_REG: a write as the management agent; the reply reports success but for a domain that it does not own. -/
def State.proxyWrite (s : State) (b off v : Nat) : State :=
  s.ask (.mgmt b) 0 (fun s =>
    if !proxied off || (s.flag .PWR_STATE_PERST && !writeInReset off) then s.answer (.mgmt b) E_MGMT_REG_ACCESS
    else (s.writeAt .mgmt off v).out (.reply (.mgmt b) (.code (if s.notItsDomain off v then E_MGMT_NOT_OWNER else 0) [])))

def execWriteReg (b off v : Nat) (s : State) : Host.Outcome State Fault Refusal := .next (s.proxyWrite b off v)

end Sys2Proof.Machine
end

