-- ==== Sys2Proof/Machine/Tick.lean ====
section
/-! DEFINITION. Machine/Tick.lean: what a TIME cycle brings about when no command waits: the raw count, the no-progress timers, HOLD_TIME
and the nanosecond counters, and accesses that a window kept waiting (10 R321; 01 R37, R44; 11 R361; 12
R375; 19 Table 19.3; log entry 2). -/
namespace Sys2Proof.Machine
open Sys2Proof

/-- Nanoseconds of a cycle: one TIME cycle, or one AO cycle while TIME_STATUS.COARSE is set (10 R321). -/
def State.cycleNs (s : State) : Nat := if s.flag .TIME_STATUS_COARSE then 20 else 1

/-- The no-progress timer of a partition (01 R44). -/
def State.passTimer (s : State) (ns p : Nat) : State :=
  if s.timerRuns p then s.setPart p { s.part p with noProg := (s.part p).noProg + 64 * ns } else s

/-- HOLD_TIME and HOLD_NS_BY_CAUSE of a partition (01 R37, 19 Table 19.3). -/
def State.passHold (s : State) (ns p : Nat) : State :=
  let s := s.noteDenied p
  if s.grantDenied p then
    let codes := ((List.range 23).map (· + 1)).filter (s.causePresent p)
    let s := s.setFld64 .HOLD_TIME_LO .HOLD_TIME_HI (s.fld64 .HOLD_TIME_LO .HOLD_TIME_HI p + ns) p
    codes.foldl (fun s c => s.countUp p 0x01 c 0 ns) s
  else s

/-- TOKEN_WAIT_NS of the dies on which a heavy macro-operation waits (19 Table 19.3). -/
def State.passTokens (s : State) (ns p : Nat) : State :=
  if (s.pstate p).active then
    let dies := ((s.partCores p).filter (fun e => e.2.wantsToken.isSome)).map (fun e => e.1 / 96)
    ((s.partDies p).filter dies.contains).foldl (fun s nn => s.countUp p 0x05 0 nn ns) s
  else s

/-- SRV_BUILD_NS: a build runs, waits for samples, waits for the host (19 Table 19.3). -/
def State.passBuild (s : State) (ns p : Nat) : State :=
  let s1 := if (s.srv p).building.isSome then s.countUp p 0x14 0 0 ns else s
  let s2 := if s.fld .SRV_GEOM2_SEQ_MAX p ≠ 0 && s.srvWaitSample p then s1.countUp p 0x14 1 0 ns else s1
  if s.fld .SRV_GEOM2_SEQ_MAX p ≠ 0 && s.srvWaitHost p then s2.countUp p 0x14 2 0 ns else s2

/-- Macro-operations still in flight 100 µs after ABORT are sleeved: they are ended and their transfers discarded (01 Table 1.6,
17 R526). -/
def State.passAbort (s : State) (p : Nat) : State :=
  match (s.part p).abortAt with
  | 0 => s
  | v + 1 =>
    if s.elapsed v 100000 then
      let s := s.setPart p { s.part p with abortAt := 0 }
      if s.pstate p = .stopped then (s.partCores p).foldl (fun s e => s.sleeveOps e.1) s else s
    else s

def State.passPart (s : State) (ns p : Nat) : State :=
  ((((s.passTimer ns p).passHold ns p).passTokens ns p).passBuild ns p).passAbort p

/-- LINK_REPLAY_NS and LINK_INGRESS_OCC of a port, for the partition that owns it (19 Table 19.3). -/
def State.passPort (s : State) (ns n : Nat) : State :=
  match (List.range 16).find? (fun p => s.bit .ARM_PART_PORTS n p) with
  | none => s
  | some p =>
    let busy : Bool := (s.port n).sender = .replay || (s.port n).sender = .retrain
    let s1 := if busy then s.countUp p 0x0F 0 n ns else s
    (List.range 8).foldl (fun s vc => s.countUp p 0x0E vc n (s.shareUsed n vc * ns)) s1

/-- A cycle with no command. Before the clock die's step of the bring-up no count runs (17 Table 17.9). -/
def State.idle (s : State) : State :=
  if s.power.por || s.power.step < 3 then s
  else
    let ns := s.cycleNs
    let s := { s with raw := s.raw + 64 * ns }.passGates
    let s := (List.range 16).foldl (fun s p => s.passPart ns p) s
    let s := s.ports.foldl (fun s e => s.passPort ns e.1) s
    let s := (s.hbmStacks.filter (fun e => e.2.waiting ≠ [])).foldl (fun s e => s.drainStack e.1) s
    if s.plinthWait.isEmpty then s else s.plinthDrain

end Sys2Proof.Machine
end

