-- ==== Sys2Proof/Machine/Dispatch.lean ====
section
/-! DEFINITION. Machine/Dispatch.lean: what each command does, one direct call of its meaning per constructor. -/
namespace Sys2Proof.Machine
open Sys2Proof

def exec (i : Instr) (s : State) : Host.Outcome State Fault Refusal :=
  match i with
  | .registerWrite party bar2 off v also => Sys2Proof.Machine.execRegisterWrite party bar2 off v s also
  | .pairLoRead party bar2 off part => Sys2Proof.Machine.execPairLoRead party bar2 off s part
  | .pairLoWrite party bar2 off v hi => Sys2Proof.Machine.execPairLoWrite party bar2 off v s hi
  | .pairHiWrite party bar2 off v also => Sys2Proof.Machine.execPairHiWrite party bar2 off v s also
  | .rcCounterRead party bar2 off counted => Sys2Proof.Machine.execRcCounterRead party bar2 off counted s
  | .tickComplete p => Sys2Proof.Machine.execTickComplete p s
  | .tickGrant p => Sys2Proof.Machine.execTickGrant p s
  | .reportReceive port f => Sys2Proof.Machine.execReportReceive port f s
  | .holdReceive port f => Sys2Proof.Machine.execHoldReceive port f s
  | .releaseReceive port f => Sys2Proof.Machine.execReleaseReceive port f s
  | .holdEntryExpire p => Sys2Proof.Machine.execHoldEntryExpire p s
  | .faultStopReceive port f => Sys2Proof.Machine.execFaultStopReceive port f s
  | .planCtrlArm party p => Sys2Proof.Machine.execPlanCtrlArm party p s
  | .planCtrlStartNow party p => Sys2Proof.Machine.execPlanCtrlStartNow party p s
  | .planStartTimeReached p => Sys2Proof.Machine.execPlanStartTimeReached p s
  | .planCtrlStop p => Sys2Proof.Machine.execPlanCtrlStop p s
  | .planCtrlAbort p => Sys2Proof.Machine.execPlanCtrlAbort p s
  | .planCtrlResume party p => Sys2Proof.Machine.execPlanCtrlResume party p s
  | .planCtrlClear p => Sys2Proof.Machine.execPlanCtrlClear p s
  | .planCtrlUnload p => Sys2Proof.Machine.execPlanCtrlUnload p s
  | .hemDepthWrite p v => Sys2Proof.Machine.execHemDepthWrite p v s
  | .planSettingWrite p which v => Sys2Proof.Machine.execPlanSettingWrite p which v s
  | .holdTimeoutExpire p => Sys2Proof.Machine.execHoldTimeoutExpire p s
  | .powerTokensRecompute => Sys2Proof.Machine.execPowerTokensRecompute s
  | .tokenGrant g rivals => Sys2Proof.Machine.execTokenGrant g s rivals
  | .armCtrlStage party clash => Sys2Proof.Machine.execArmCtrlStage party clash s
  | .armVerifyComplete img => Sys2Proof.Machine.execArmVerifyComplete img s
  | .armCtrlDiscard party clash => Sys2Proof.Machine.execArmCtrlDiscard party clash s
  | .armCtrlApply party clash => Sys2Proof.Machine.execArmCtrlApply party clash s
  | .armDrainDone => Sys2Proof.Machine.execArmDrainDone s
  | .armDrainTimeout => Sys2Proof.Machine.execArmDrainTimeout s
  | .armShadowCheckDone ok => Sys2Proof.Machine.execArmShadowCheckDone ok s
  | .armSharedSwitch => Sys2Proof.Machine.execArmSharedSwitch s
  | .armCommit => Sys2Proof.Machine.execArmCommit s
  | .scalar g => Sys2Proof.Machine.execScalar g s
  | .readSc g => Sys2Proof.Machine.execReadSc g s
  | .fetch g => Sys2Proof.Machine.execFetch g s
  | .skip g => Sys2Proof.Machine.execSkip g s
  | .loop g => Sys2Proof.Machine.execLoop g s
  | .endloop g => Sys2Proof.Machine.execEndloop g s
  | .issue g => Sys2Proof.Machine.execIssue g s
  | .tick g => Sys2Proof.Machine.execTick g s
  | .mark g => Sys2Proof.Machine.execMark g s
  | .fin g => Sys2Proof.Machine.execFin g s
  | .macroOpStart g id => Sys2Proof.Machine.execMacroOpStart g id s
  | .matmul g id => Sys2Proof.Machine.execMatmul g id s
  | .attn g id => Sys2Proof.Machine.execAttn g id s
  | .vec g id => Sys2Proof.Machine.execVec g id s
  | .reduce g id => Sys2Proof.Machine.execReduce g id s
  | .sample g id full => Sys2Proof.Machine.execSample g id s full
  | .move g id full => Sys2Proof.Machine.execMove g id s full
  | .fill g id => Sys2Proof.Machine.execFill g id s
  | .copy g id => Sys2Proof.Machine.execCopy g id s
  | .give g id full tied => Sys2Proof.Machine.execGive g id s full tied
  | .take g id tied => Sys2Proof.Machine.execTake g id s tied
  | .wait g id tied => Sys2Proof.Machine.execWait g id s tied
  | .takeSatisfied g tied => Sys2Proof.Machine.execTakeSatisfied g s tied
  | .barrier g id => Sys2Proof.Machine.execBarrier g id s
  | .macroOpComplete g id => Sys2Proof.Machine.execMacroOpComplete g id s
  | .prmWrite party g n v => Sys2Proof.Machine.execPrmWrite party g n v s
  | .arithTrapWrite party g v => Sys2Proof.Machine.execArithTrapWrite party g v s
  | .brkRegWrite party g which v => Sys2Proof.Machine.execBrkRegWrite party g which v s
  | .spadScrubRead g b found => Sys2Proof.Machine.execSpadScrubRead g b found s
  | .spadCorrectionWriteback g w => Sys2Proof.Machine.execSpadCorrectionWriteback g w s
  | .handleEntryCommit party g hi => Sys2Proof.Machine.execHandleEntryCommit party g hi s
  | .windowEntryCommit party g hi => Sys2Proof.Machine.execWindowEntryCommit party g hi s
  | .remoteWriteArrive k tied => Sys2Proof.Machine.execRemoteWriteArrive k s tied
  | .remoteReadArrive k => Sys2Proof.Machine.execRemoteReadArrive k s
  | .readRespArrive k tied => Sys2Proof.Machine.execReadRespArrive k s tied
  | .errorRespArrive k => Sys2Proof.Machine.execErrorRespArrive k s
  | .memoryAckArrive k tied => Sys2Proof.Machine.execMemoryAckArrive k s tied
  | .spadRecoveryWrite v => Sys2Proof.Machine.execSpadRecoveryWrite v s
  | .sideReadGo by_ v => Sys2Proof.Machine.execSideReadGo by_ v s
  | .sideReadDone => Sys2Proof.Machine.execSideReadDone s
  | .poolRequestArrive k rivals => Sys2Proof.Machine.execPoolRequestArrive k s rivals
  | .poolScrubRead w found => Sys2Proof.Machine.execPoolScrubRead w found s
  | .partitionClearStart mask => Sys2Proof.Machine.execPartitionClearStart mask s
  | .partitionClearDone p => Sys2Proof.Machine.execPartitionClearDone p s
  | .syncDeclCommit party g hi => Sys2Proof.Machine.execSyncDeclCommit party g hi s
  | .givePacketArrive k tied => Sys2Proof.Machine.execGivePacketArrive k s tied
  | .barArriveReceive k => Sys2Proof.Machine.execBarArriveReceive k s
  | .barReleaseReceive k => Sys2Proof.Machine.execBarReleaseReceive k s
  | .barRanksWrite party p b v => Sys2Proof.Machine.execBarRanksWrite party p b v s
  | .barrierMemberWrite party g v => Sys2Proof.Machine.execBarrierMemberWrite party g v s
  | .fabricPacketReceive n edge k headBad => Sys2Proof.Machine.execFabricPacketReceive n edge k headBad s
  | .edgeRetry n => Sys2Proof.Machine.execEdgeRetry n s
  | .edgeModuleFail n e retries => Sys2Proof.Machine.execEdgeModuleFail n e retries s
  | .frameSend n => Sys2Proof.Machine.execFrameSend n s
  | .frameReceive n f chk => Sys2Proof.Machine.execFrameReceive n f chk s
  | .replayTimerExpire n => Sys2Proof.Machine.execReplayTimerExpire n s
  | .retrainComplete n => Sys2Proof.Machine.execRetrainComplete n s
  | .retrainTimeout n => Sys2Proof.Machine.execRetrainTimeout n s
  | .planCtlQueue n f => Sys2Proof.Machine.execPlanCtlQueue n f s
  | .linkMsgRepeat n => Sys2Proof.Machine.execLinkMsgRepeat n s
  | .darnReq n m => Sys2Proof.Machine.execDarnReq n m s
  | .darnStart n m => Sys2Proof.Machine.execDarnStart n m s
  | .darnAck n m => Sys2Proof.Machine.execDarnAck n m s
  | .darnDone n m => Sys2Proof.Machine.execDarnDone n m s
  | .undarnStart n m => Sys2Proof.Machine.execUndarnStart n m s
  | .undarnAck n m => Sys2Proof.Machine.execUndarnAck n m s
  | .undarnDone n m => Sys2Proof.Machine.execUndarnDone n m s
  | .halfStart n m => Sys2Proof.Machine.execHalfStart n m s
  | .halfAck n m => Sys2Proof.Machine.execHalfAck n m s
  | .rttProbe n m => Sys2Proof.Machine.execRttProbe n m s
  | .rttEcho n m ns => Sys2Proof.Machine.execRttEcho n m ns s
  | .laneFail n lane => Sys2Proof.Machine.execLaneFail n lane s
  | .darnSwitch n => Sys2Proof.Machine.execDarnSwitch n s
  | .undarnTimeout n => Sys2Proof.Machine.execUndarnTimeout n s
  | .calCycleStart n => Sys2Proof.Machine.execCalCycleStart n s
  | .calDwellDone n => Sys2Proof.Machine.execCalDwellDone n s
  | .detectDwellExpire n => Sys2Proof.Machine.execDetectDwellExpire n s
  | .detectPatternHeard n => Sys2Proof.Machine.execDetectPatternHeard n s
  | .lanesLocked n rates lanes => Sys2Proof.Machine.execLanesLocked n rates lanes s
  | .identityBlockReceive n key port rates halfOk nonce pub => Sys2Proof.Machine.execIdentityBlockReceive n key port rates halfOk s nonce pub
  | .portStatementReceive n chainOk key sigOk peerHeld => Sys2Proof.Machine.execPortStatementReceive n chainOk key sigOk peerHeld s
  | .portAlignDone n rtt => Sys2Proof.Machine.execPortAlignDone n rtt s
  | .trainTimeout n => Sys2Proof.Machine.execTrainTimeout n s
  | .lossOfSignal n => Sys2Proof.Machine.execLossOfSignal n s
  | .downTimerExpire n => Sys2Proof.Machine.execDownTimerExpire n s
  | .linkEnable n => Sys2Proof.Machine.execLinkEnable n s
  | .linkDisable n => Sys2Proof.Machine.execLinkDisable n s
  | .linkRetrain n => Sys2Proof.Machine.execLinkRetrain n s
  | .linkFullTrain n => Sys2Proof.Machine.execLinkFullTrain n s
  | .linkAcceptPeer n => Sys2Proof.Machine.execLinkAcceptPeer n s
  | .ingressDeliver n vc => Sys2Proof.Machine.execIngressDeliver n vc s
  | .transitForwardStart n m => Sys2Proof.Machine.execTransitForwardStart n m s
  | .egressPacketSend k => Sys2Proof.Machine.execEgressPacketSend k s
  | .slotCtrlActivate j => Sys2Proof.Machine.execSlotCtrlActivate j s
  | .slotCtrlDrain j => Sys2Proof.Machine.execSlotCtrlDrain j s
  | .slotCtrlClose j => Sys2Proof.Machine.execSlotCtrlClose j s
  | .slotCtrlSwitchArm j => Sys2Proof.Machine.execSlotCtrlSwitchArm j s
  | .slotCtrlSwitchAbort j => Sys2Proof.Machine.execSlotCtrlSwitchAbort j s
  | .slotDrained j => Sys2Proof.Machine.execSlotDrained j s
  | .epochSwitchStart j => Sys2Proof.Machine.execEpochSwitchStart j s
  | .epochSwitchComplete j => Sys2Proof.Machine.execEpochSwitchComplete j s
  | .routeTblHoldWrite party ports v => Sys2Proof.Machine.execRouteTblHoldWrite party ports v s
  | .routeTblCommit party v => Sys2Proof.Machine.execRouteTblCommit party v s
  | .routeTblIndexWrite party v => Sys2Proof.Machine.execRouteTblIndexWrite party v s
  | .slotConfigWrite party j which v => Sys2Proof.Machine.execSlotConfigWrite party j which v s
  | .timeSyncWord d diff => Sys2Proof.Machine.execTimeSyncWord d diff s
  | .refLost c => Sys2Proof.Machine.execRefLost c s
  | .refRequalified c full => Sys2Proof.Machine.execRefRequalified c s full
  | .aoRefclkLost => Sys2Proof.Machine.execAoRefclkLost s
  | .aoRelock => Sys2Proof.Machine.execAoRelock s
  | .pllUnlock => Sys2Proof.Machine.execPllUnlock s
  | .dieWake nn => Sys2Proof.Machine.execDieWake nn s
  | .dieWakeComplete nn => Sys2Proof.Machine.execDieWakeComplete nn s
  | .clockStepRequest nn => Sys2Proof.Machine.execClockStepRequest nn s
  | .clockStepSwitch nn => Sys2Proof.Machine.execClockStepSwitch nn s
  | .timeRateWrite party hi => Sys2Proof.Machine.execTimeRateWrite party hi s
  | .timeStepWrite party hi => Sys2Proof.Machine.execTimeStepWrite party hi s
  | .timeSOffsetHoldWrite party hi v => Sys2Proof.Machine.execTimeSOffsetHoldWrite party hi v s
  | .timeSOffsetCommit party ext => Sys2Proof.Machine.execTimeSOffsetCommit party ext s
  | .timeWrap => Sys2Proof.Machine.execTimeWrap s
  | .timePeriodElapse n t3 => Sys2Proof.Machine.execTimePeriodElapse n t3 s
  | .timeMark n id t2 => Sys2Proof.Machine.execTimeMark n id t2 s
  | .txStamp n m => Sys2Proof.Machine.execTxStamp n m s
  | .rxStamp n m => Sys2Proof.Machine.execRxStamp n m s
  | .announce n m => Sys2Proof.Machine.execAnnounce n m s
  | .todA n m => Sys2Proof.Machine.execTodA n m s
  | .todB n m => Sys2Proof.Machine.execTodB n m s
  | .asym n m => Sys2Proof.Machine.execAsym n m s
  | .asymMeasure n cycle skew => Sys2Proof.Machine.execAsymMeasure n cycle skew s
  | .timeRoleOff => Sys2Proof.Machine.execTimeRoleOff s
  | .timeRoleGrandmaster => Sys2Proof.Machine.execTimeRoleGrandmaster s
  | .timeRoleFollower => Sys2Proof.Machine.execTimeRoleFollower s
  | .timeAcceptStep => Sys2Proof.Machine.execTimeAcceptStep s
  | .noParentTimeout => Sys2Proof.Machine.execNoParentTimeout s
  | .parentLost => Sys2Proof.Machine.execParentLost s
  | .parentPrioritySwitch => Sys2Proof.Machine.execParentPrioritySwitch s
  | .ppsInEdge => Sys2Proof.Machine.execPpsInEdge s
  | .ppsMissingTimeout => Sys2Proof.Machine.execPpsMissingTimeout s
  | .ppsOutRise => Sys2Proof.Machine.execPpsOutRise s
  | .ppsOutFall => Sys2Proof.Machine.execPpsOutFall s
  | .hbmWriteArrive k => Sys2Proof.Machine.execHbmWriteArrive k s
  | .hbmReadArrive k odecc => Sys2Proof.Machine.execHbmReadArrive k odecc s
  | .hdmRequest r => Sys2Proof.Machine.execHdmRequest r s
  | .backInvalidateResponse n b data bad => Sys2Proof.Machine.execBackInvalidateResponse n b data s bad
  | .refreshWindow n pc => Sys2Proof.Machine.execRefreshWindow n pc s
  | .hbmTempCross n c => Sys2Proof.Machine.execHbmTempCross n c s
  | .rinseWindowStart n => Sys2Proof.Machine.execRinseWindowStart n s
  | .rinseWindowEnd n checks => Sys2Proof.Machine.execRinseWindowEnd n checks s
  | .hbmScrubRead n w found odecc => Sys2Proof.Machine.execHbmScrubRead n w found s odecc
  | .hbmScrubWriteback n w => Sys2Proof.Machine.execHbmScrubWriteback n w s
  | .hbmKeySwitch p => Sys2Proof.Machine.execHbmKeySwitch p s
  | .hdmModeWrite party sl open_ => Sys2Proof.Machine.execHdmModeWrite party sl open_ s
  | .plinthUpkeepWindow k => Sys2Proof.Machine.execPlinthUpkeepWindow k s
  | .plinthNonceRead party => Sys2Proof.Machine.execPlinthNonceRead party s
  | .plinthInstall p withDelete => Sys2Proof.Machine.execPlinthInstall p withDelete s
  | .plinthLayerWritten data => Sys2Proof.Machine.execPlinthLayerWritten data s
  | .plinthDelete t => Sys2Proof.Machine.execPlinthDelete t s
  | .plinthEraseDone n => Sys2Proof.Machine.execPlinthEraseDone n s
  | .plinthAuditLayer n layer ok => Sys2Proof.Machine.execPlinthAuditLayer n layer ok s
  | .bindCommit party w3 => Sys2Proof.Machine.execBindCommit party w3 s
  | .replCtrlArm party p => Sys2Proof.Machine.execReplCtrlArm party p s
  | .replDescFetched p desc => Sys2Proof.Machine.execReplDescFetched p desc s
  | .replStepBegin p => Sys2Proof.Machine.execReplStepBegin p s
  | .replLayerCopied p fixed bad => Sys2Proof.Machine.execReplLayerCopied p fixed bad s
  | .replCtrlAbort party p => Sys2Proof.Machine.execReplCtrlAbort party p s
  | .replCtrlFinish party p => Sys2Proof.Machine.execReplCtrlFinish party p s
  | .reqDescriptorFetch q data => Sys2Proof.Machine.execReqDescriptorFetch q data s
  | .srvAdmitThroughWrite party p hi => Sys2Proof.Machine.execSrvAdmitThroughWrite party p hi s
  | .srvCfgWrite party p v => Sys2Proof.Machine.execSrvCfgWrite party p v s
  | .srvKvWrite party p off v => Sys2Proof.Machine.execSrvKvWrite party p off v s
  | .slotBuild p => Sys2Proof.Machine.execSlotBuild p s
  | .blockTableAck p seq ok => Sys2Proof.Machine.execBlockTableAck p seq ok s
  | .slotBankPublish p => Sys2Proof.Machine.execSlotBankPublish p s
  | .sampleRowReceive k tied => Sys2Proof.Machine.execSampleRowReceive k s tied
  | .missedSampleDetect p => Sys2Proof.Machine.execMissedSampleDetect p s
  | .resultRecordWrite p => Sys2Proof.Machine.execResultRecordWrite p s
  | .hostLinkTrain offers => Sys2Proof.Machine.execHostLinkTrain offers s
  | .hotReset down => Sys2Proof.Machine.execHotReset down s
  | .configRequest write off v => Sys2Proof.Machine.execConfigRequest write off v s
  | .barAccessError read => Sys2Proof.Machine.execBarAccessError read s
  | .doorbellWrite q idx => Sys2Proof.Machine.execDoorbellWrite q idx s
  | .shadowWrite q => Sys2Proof.Machine.execShadowWrite q s
  | .queueEnable party q v => Sys2Proof.Machine.execQueueEnable party q v s
  | .queueDisable party q => Sys2Proof.Machine.execQueueDisable party q s
  | .qCfgWrite party q v => Sys2Proof.Machine.execQCfgWrite party q v s
  | .queueFetchDone q ok entry => Sys2Proof.Machine.execQueueFetchDone q ok entry s
  | .nop q => Sys2Proof.Machine.execNop q s
  | .loadFull q img => Sys2Proof.Machine.execLoadFull q img s
  | .loadResident q => Sys2Proof.Machine.execLoadResident q s
  | .copyIn q data => Sys2Proof.Machine.execCopyIn q data s
  | .copyOut q => Sys2Proof.Machine.execCopyOut q s
  | .resIrqTimer q => Sys2Proof.Machine.execResIrqTimer q s
  | .doeRequest inst kind len read key => Sys2Proof.Machine.execDoeRequest inst kind len read key s
  | .ideFailure stream => Sys2Proof.Machine.execIdeFailure stream s
  | .hdmDecoderCommit ways size => Sys2Proof.Machine.execHdmDecoderCommit ways size s
  | .getTimestamp => Sys2Proof.Machine.execGetTimestamp s
  | .setTimestamp => Sys2Proof.Machine.execSetTimestamp s
  | .observe ch t => Sys2Proof.Machine.execObserve ch t s
  | .tenantDebug ch t => Sys2Proof.Machine.execTenantDebug ch t s
  | .vendorFa ch t => Sys2Proof.Machine.execVendorFa ch t s
  | .replaceOperator ch t => Sys2Proof.Machine.execReplaceOperator ch t s
  | .enrolPublisher ch t => Sys2Proof.Machine.execEnrolPublisher ch t s
  | .removePublisher ch t => Sys2Proof.Machine.execRemovePublisher ch t s
  | .setPolicy ch t => Sys2Proof.Machine.execSetPolicy ch t s
  | .raiseArmSvn ch t => Sys2Proof.Machine.execRaiseArmSvn ch t s
  | .operatorReset ch t => Sys2Proof.Machine.execOperatorReset ch t s
  | .enrolOperator ch key => Sys2Proof.Machine.execEnrolOperator ch key s
  | .grantExpire which => Sys2Proof.Machine.execGrantExpire which s
  | .endGrant ch p => Sys2Proof.Machine.execEndGrant ch p s
  | .secNonceRead party => Sys2Proof.Machine.execSecNonceRead party s
  | .getNonce ch => Sys2Proof.Machine.execGetNonce ch s
  | .submitToken ch t fetched => Sys2Proof.Machine.execSubmitToken ch t fetched s
  | .grantSession ch p session => Sys2Proof.Machine.execGrantSession ch p session s
  | .evict ch p => Sys2Proof.Machine.execEvict ch p s
  | .bindPartition id p => Sys2Proof.Machine.execBindPartition id p s
  | .unbind id p => Sys2Proof.Machine.execUnbind id p s
  | .setHbmKey id p k1 k2 => Sys2Proof.Machine.execSetHbmKey id p k1 k2 s
  | .setJobKey ch p gen sealedMode kseq secret fetched => Sys2Proof.Machine.execSetJobKey ch p gen sealedMode kseq secret fetched s
  | .switchKgen ch p gen t fetched => Sys2Proof.Machine.execSwitchKgen ch p gen t fetched s
  | .kgenSwitchTime p => Sys2Proof.Machine.execKgenSwitchTime p s
  | .clearKgen ch p gen fetched => Sys2Proof.Machine.execClearKgen ch p gen fetched s
  | .bindCkid id p ckid => Sys2Proof.Machine.execBindCkid id p ckid s
  | .bindQueues id p stream => Sys2Proof.Machine.execBindQueues id p stream s
  | .getKfloor id => Sys2Proof.Machine.execGetKfloor id s
  | .getVersion ch => Sys2Proof.Machine.execGetVersion ch s
  | .getCapabilities ch => Sys2Proof.Machine.execGetCapabilities ch s
  | .negotiateAlgorithms ch => Sys2Proof.Machine.execNegotiateAlgorithms ch s
  | .getDigests ch slot => Sys2Proof.Machine.execGetDigests ch slot s
  | .getCertificate ch slot => Sys2Proof.Machine.execGetCertificate ch slot s
  | .challenge ch => Sys2Proof.Machine.execChallenge ch s
  | .getMeasurements ch idx => Sys2Proof.Machine.execGetMeasurements ch idx s
  | .keyExchange ch id => Sys2Proof.Machine.execKeyExchange ch id s
  | .finishMsg id tenant => Sys2Proof.Machine.execFinishMsg id tenant s
  | .heartbeat id => Sys2Proof.Machine.execHeartbeat id s
  | .keyUpdate id => Sys2Proof.Machine.execKeyUpdate id s
  | .endSession id => Sys2Proof.Machine.execEndSession id s
  | .chunkSend ch => Sys2Proof.Machine.execChunkSend ch s
  | .chunkGet ch => Sys2Proof.Machine.execChunkGet ch s
  | .spdmUnsupportedRequest ch => Sys2Proof.Machine.execSpdmUnsupportedRequest ch s
  | .mbxCtrlGo party => Sys2Proof.Machine.execMbxCtrlGo party s
  | .i3cDynamicAddress b addr => Sys2Proof.Machine.execI3cDynamicAddress b addr s
  | .i3cRstdaa b => Sys2Proof.Machine.execI3cRstdaa b s
  | .busStuckLow b => Sys2Proof.Machine.execBusStuckLow b s
  | .busIsolate b => Sys2Proof.Machine.execBusIsolate b s
  | .busReturn b => Sys2Proof.Machine.execBusReturn b s
  | .setEndpointId b eid => Sys2Proof.Machine.execSetEndpointId b eid s
  | .getEndpointId b => Sys2Proof.Machine.execGetEndpointId b s
  | .getMctpVersionSupport b => Sys2Proof.Machine.execGetMctpVersionSupport b s
  | .getMessageTypeSupport b => Sys2Proof.Machine.execGetMessageTypeSupport b s
  | .getVendorDefinedMsgSupport b => Sys2Proof.Machine.execGetVendorDefinedMsgSupport b s
  | .mctpUnsupportedType b => Sys2Proof.Machine.execMctpUnsupportedType b s
  | .gettid b => Sys2Proof.Machine.execGettid b s
  | .getpldmversion b => Sys2Proof.Machine.execGetpldmversion b s
  | .getpldmtypes b => Sys2Proof.Machine.execGetpldmtypes b s
  | .getpldmcommands b type => Sys2Proof.Machine.execGetpldmcommands b type s
  | .getpdr b => Sys2Proof.Machine.execGetpdr b s
  | .fruDataRead b => Sys2Proof.Machine.execFruDataRead b s
  | .pollForPlatformEventMessage b => Sys2Proof.Machine.execPollForPlatformEventMessage b s
  | .readReg b off => Sys2Proof.Machine.execReadReg b off s
  | .writeReg b off v => Sys2Proof.Machine.execWriteReg b off v s
  | .takePlan b => Sys2Proof.Machine.execTakePlan b s
  | .setPowerState b st => Sys2Proof.Machine.execSetPowerState b st s
  | .powerStateMoveDone => Sys2Proof.Machine.execPowerStateMoveDone s
  | .powerCycle b seconds => Sys2Proof.Machine.execPowerCycle b seconds s
  | .clearFault b input => Sys2Proof.Machine.execClearFault b input s
  | .getEvents b => Sys2Proof.Machine.execGetEvents b s
  | .sensorRefresh mv ca watts => Sys2Proof.Machine.execSensorRefresh mv ca watts s
  | .controlOwnerClaim party => Sys2Proof.Machine.execControlOwnerClaim party s
  | .powerCapWrite party v also => Sys2Proof.Machine.execPowerCapWrite party v also s
  | .powerEnvelopeWrite party v => Sys2Proof.Machine.execPowerEnvelopeWrite party v s
  | .clockCapWrite party v => Sys2Proof.Machine.execClockCapWrite party v s
  | .requestUpdate b => Sys2Proof.Machine.execRequestUpdate b s
  | .firmwareDataReceive d => Sys2Proof.Machine.execFirmwareDataReceive d s
  | .firmwareTransferTimeout => Sys2Proof.Machine.execFirmwareTransferTimeout s
  | .cancelUpdate b => Sys2Proof.Machine.execCancelUpdate b s
  | .activateFirmware b => Sys2Proof.Machine.execActivateFirmware b s
  | .thimbleRestartDone => Sys2Proof.Machine.execThimbleRestartDone s
  | .watchdogRestart => Sys2Proof.Machine.execWatchdogRestart s
  | .watchdogExpire => Sys2Proof.Machine.execWatchdogExpire s
  | .inputBrownout lost => Sys2Proof.Machine.execInputBrownout lost s
  | .porRelease => Sys2Proof.Machine.execPorRelease s
  | .inputLow on => Sys2Proof.Machine.execInputLow on s
  | .inputHigh on => Sys2Proof.Machine.execInputHigh on s
  | .overvoltageTrip => Sys2Proof.Machine.execOvervoltageTrip s
  | .reversePolarity => Sys2Proof.Machine.execReversePolarity s
  | .efuseTrip aoPath => Sys2Proof.Machine.execEfuseTrip aoPath s
  | .aoPathRetry clear => Sys2Proof.Machine.execAoPathRetry clear s
  | .senseOpen => Sys2Proof.Machine.execSenseOpen s
  | .senseRestore => Sys2Proof.Machine.execSenseRestore s
  | .railInRegulation => Sys2Proof.Machine.execRailInRegulation s
  | .railTimeout => Sys2Proof.Machine.execRailTimeout s
  | .dieGateTimer nn => Sys2Proof.Machine.execDieGateTimer nn s
  | .domainDisable k => Sys2Proof.Machine.execDomainDisable k s
  | .domainEnable k => Sys2Proof.Machine.execDomainEnable k s
  | .isolationComplete k => Sys2Proof.Machine.execIsolationComplete k s
  | .railFallen k => Sys2Proof.Machine.execRailFallen k s
  | .railOff k => Sys2Proof.Machine.execRailOff k s
  | .domainWakeComplete k => Sys2Proof.Machine.execDomainWakeComplete k s
  | .tempSample temps => Sys2Proof.Machine.execTempSample temps s
  | .perstAssert => Sys2Proof.Machine.execPerstAssert s
  | .perstRelease => Sys2Proof.Machine.execPerstRelease s
  | .optionLoad code => Sys2Proof.Machine.execOptionLoad code s
  | .bringUp k storeBad edges untrained => Sys2Proof.Machine.execBringUp k storeBad edges untrained s
  | .sleeveGo party b host => Sys2Proof.Machine.execSleeveGo party b host s
  | .sleeveDrainTimeout => Sys2Proof.Machine.execSleeveDrainTimeout s
  | .sleeveResetDone => Sys2Proof.Machine.execSleeveResetDone s
  | .statusLineStuck line => Sys2Proof.Machine.execStatusLineStuck line s
  | .obsCounterRead party p => Sys2Proof.Machine.execObsCounterRead party p s
  | .aggPeriodLatch => Sys2Proof.Machine.execAggPeriodLatch s
  | .starchCtrlNow => Sys2Proof.Machine.execStarchCtrlNow s
  | .starchCtrlArm => Sys2Proof.Machine.execStarchCtrlArm s
  | .starchTimeReached => Sys2Proof.Machine.execStarchTimeReached s
  | .starchCtrlRelease => Sys2Proof.Machine.execStarchCtrlRelease s
  | .starchDrainDone => Sys2Proof.Machine.execStarchDrainDone s
  | .obsRecordWrite p => Sys2Proof.Machine.execObsRecordWrite p s
  | .obsRingCfgWrite party p reg v => Sys2Proof.Machine.execObsRingCfgWrite party p reg v s
  | .obsRingCiWrite party p v => Sys2Proof.Machine.execObsRingCiWrite party p v s
  | .plasterDemand party p => Sys2Proof.Machine.execPlasterDemand party p s
  | .plasterSend p => Sys2Proof.Machine.execPlasterSend p s
  | .dumpCfgWrite party p k reg v => Sys2Proof.Machine.execDumpCfgWrite party p k reg v s
  | .dumpTrigger p k tag => Sys2Proof.Machine.execDumpTrigger p k tag s
  | .dumpComplete p k seen => Sys2Proof.Machine.execDumpComplete p k seen s
  | .traceRecordSend g => Sys2Proof.Machine.execTraceRecordSend g s
  | .ndCtrlWrite party p v => Sys2Proof.Machine.execNdCtrlWrite party p v s
  | .retrainPatternReceive n => Sys2Proof.Machine.execRetrainPatternReceive n s
  | .heldIdlePatternEnd n detect => Sys2Proof.Machine.execHeldIdlePatternEnd n detect s
  | .plinthReadRequest k => Sys2Proof.Machine.execPlinthReadRequest k s
  | .commandComplete q fetched => Sys2Proof.Machine.execCommandComplete q fetched s
  | .hiReadAdvance party bar2 off => Sys2Proof.Machine.execHiReadAdvance party bar2 off s
  | .perstGlitch => Sys2Proof.Machine.execPerstGlitch s
  | .railsRestore => Sys2Proof.Machine.execRailsRestore s

end Sys2Proof.Machine
end

