-- ==== Sys2Proof/WellFormed.lean ====
section
/-! DEFINITION. WellFormed.lean: the operands that the spec's counts admit: 16 partitions, 6,144 cores, 32 ports and so on (00 Tables 0.2
and 0.7, and the register tables). A command is delivered to the block only with such operands; a value is a 32-bit word. -/
namespace Sys2Proof

/-- Partitions (02 R54), global cores (03 R79), compute dies, job slots (09 R287), queues (14 Table 14.6), link ports (08 R237). -/
def okPart (p : Nat) : Bool := p < 16
def okCore (g : Nat) : Bool := g < 6144
def okDie (nn : Nat) : Bool := nn < 64
def okSlot (j : Nat) : Bool := j < 32
def okQueue (q : Nat) : Bool := q < 96
def okPort (n : Nat) : Bool := n < 32
/-- Fabric nodes and edges (07 Table 7.1), HBM stacks, pseudo-channels and slices (11 R350), Plinth objects (12 R378). -/
def okNode (n : Nat) : Bool := n < 84
def okEdge (e : Nat) : Bool := e < 6
def okStack (n : Nat) : Bool := n < 16
def okChannel (c : Nat) : Bool := c < 32
def okSlice (sl : Nat) : Bool := sl < 256
def okObject (n : Nat) : Bool := n < 1024
/-- Parameter registers (03 Table 3.8), scratchpad banks (05 R149), barriers (06 R202), virtual channels, lanes (08 R237), dump points (19 R559). -/
def okPrm (n : Nat) : Bool := n < 64
def okBank (b : Nat) : Bool := b < 16
def okBarrier (b : Nat) : Bool := b < 32
def okVc (vc : Nat) : Bool := vc < 8
def okLane (lane : Nat) : Bool := lane < 9
def okPoint (k : Nat) : Bool := k < 8
/-- Key generations (08 R279), management buses (16 R482), sleeve blocks (17 Table 17.11), gated domains (17 R514), register values. -/
def okGen (gen : Nat) : Bool := gen < 2
def okBus (b : Nat) : Bool := b < 2
def okBlock (b : Nat) : Bool := b < 128
def okDomain (k : Nat) : Bool := k < 608
def okWord (v : Nat) : Bool := v < 2 ^ 32

/-- The command's operands are within range. -/
def Instr.wf : Instr → Bool
  | .registerWrite _ _ _ v also => okWord v && also.other.all okWord
  | .pairLoRead party _ _ part => part ≠ .both || party ≠ .mgmt
  | .pairLoWrite party _ _ v hi => okWord v && hi.all okWord && (hi.isNone || party ≠ .mgmt)
  | .pairHiWrite _ _ _ v also => okWord v && also.other.all okWord
  | .rcCounterRead _ _ _ _ => true
  | .tickComplete p => okPart p
  | .tickGrant p => okPart p
  | .reportReceive port _ => okPort port
  | .holdReceive port _ => okPort port
  | .releaseReceive port _ => okPort port
  | .holdEntryExpire p => okPart p
  | .faultStopReceive port _ => okPort port
  | .planCtrlArm _ p => okPart p
  | .planCtrlStartNow _ p => okPart p
  | .planStartTimeReached p => okPart p
  | .planCtrlStop p => okPart p
  | .planCtrlAbort p => okPart p
  | .planCtrlResume _ p => okPart p
  | .planCtrlClear p => okPart p
  | .planCtrlUnload p => okPart p
  | .hemDepthWrite p v => okPart p && okWord v
  | .planSettingWrite p _ _ => okPart p
  | .holdTimeoutExpire p => okPart p
  | .powerTokensRecompute => true
  | .tokenGrant g rivals => okCore g && rivals.all okCore
  | .armCtrlStage _ _ => true
  | .armVerifyComplete _ => true
  | .armCtrlDiscard _ _ => true
  | .armCtrlApply _ _ => true
  | .armDrainDone => true
  | .armDrainTimeout => true
  | .armShadowCheckDone _ => true
  | .armSharedSwitch => true
  | .armCommit => true
  | .scalar g => okCore g
  | .readSc g => okCore g
  | .fetch g => okCore g
  | .skip g => okCore g
  | .loop g => okCore g
  | .endloop g => okCore g
  | .issue g => okCore g
  | .tick g => okCore g
  | .mark g => okCore g
  | .fin g => okCore g
  | .macroOpStart g _ => okCore g
  | .matmul g _ => okCore g
  | .attn g _ => okCore g
  | .vec g _ => okCore g
  | .reduce g _ => okCore g
  | .sample g _ _ => okCore g
  | .move g _ _ => okCore g
  | .fill g _ => okCore g
  | .copy g _ => okCore g
  | .give g _ _ _ => okCore g
  | .take g _ _ => okCore g
  | .wait g _ _ => okCore g
  | .takeSatisfied g _ => okCore g
  | .barrier g _ => okCore g
  | .macroOpComplete g _ => okCore g
  | .prmWrite _ g n v => okCore g && okPrm n && okWord v
  | .arithTrapWrite _ g v => okCore g && okWord v
  | .brkRegWrite _ g _ v => okCore g && okWord v
  | .spadScrubRead g b _ => okCore g && okBank b
  | .spadCorrectionWriteback g _ => okCore g
  | .handleEntryCommit _ g hi => okCore g && okWord hi
  | .windowEntryCommit _ g hi => okCore g && okWord hi
  | .remoteWriteArrive _ _ => true
  | .remoteReadArrive _ => true
  | .readRespArrive _ _ => true
  | .errorRespArrive _ => true
  | .memoryAckArrive _ _ => true
  | .spadRecoveryWrite v => okWord v
  | .sideReadGo _ v => okWord v
  | .sideReadDone => true
  | .poolRequestArrive _ _ => true
  | .poolScrubRead _ _ => true
  | .partitionClearStart _ => true
  | .partitionClearDone p => okPart p
  | .syncDeclCommit _ g hi => okCore g && okWord hi
  | .givePacketArrive _ _ => true
  | .barArriveReceive _ => true
  | .barReleaseReceive _ => true
  | .barRanksWrite _ p b v => okPart p && okBarrier b && okWord v
  | .barrierMemberWrite _ g v => okCore g && okWord v
  | .fabricPacketReceive n edge _ _ => okNode n && okEdge edge
  | .edgeRetry n => okNode n
  | .edgeModuleFail n e _ => okNode n && okEdge e
  | .frameSend n => okPort n
  | .frameReceive n _ _ => okPort n
  | .replayTimerExpire n => okPort n
  | .retrainComplete n => okPort n
  | .retrainTimeout n => okPort n
  | .planCtlQueue n _ => okPort n
  | .linkMsgRepeat n => okPort n
  | .darnReq n _ => okPort n
  | .darnStart n _ => okPort n
  | .darnAck n _ => okPort n
  | .darnDone n _ => okPort n
  | .undarnStart n _ => okPort n
  | .undarnAck n _ => okPort n
  | .undarnDone n _ => okPort n
  | .halfStart n _ => okPort n
  | .halfAck n _ => okPort n
  | .rttProbe n _ => okPort n
  | .rttEcho n _ _ => okPort n
  | .laneFail n lane => okPort n && okLane lane
  | .darnSwitch n => okPort n
  | .undarnTimeout n => okPort n
  | .calCycleStart n => okPort n
  | .calDwellDone n => okPort n
  | .detectDwellExpire n => okPort n
  | .detectPatternHeard n => okPort n
  | .lanesLocked n _ _ => okPort n
  | .identityBlockReceive n _ _ _ _ _ _ => okPort n
  | .portStatementReceive n _ _ _ _ => okPort n
  | .portAlignDone n _ => okPort n
  | .trainTimeout n => okPort n
  | .lossOfSignal n => okPort n
  | .downTimerExpire n => okPort n
  | .linkEnable n => okPort n
  | .linkDisable n => okPort n
  | .linkRetrain n => okPort n
  | .linkFullTrain n => okPort n
  | .linkAcceptPeer n => okPort n
  | .ingressDeliver n vc => okPort n && okVc vc
  | .transitForwardStart n m => okPort n && okPort m
  | .egressPacketSend _ => true
  | .slotCtrlActivate j => okSlot j
  | .slotCtrlDrain j => okSlot j
  | .slotCtrlClose j => okSlot j
  | .slotCtrlSwitchArm j => okSlot j
  | .slotCtrlSwitchAbort j => okSlot j
  | .slotDrained j => okSlot j
  | .epochSwitchStart j => okSlot j
  | .epochSwitchComplete j => okSlot j
  | .routeTblHoldWrite _ _ v => okWord v
  | .routeTblCommit _ v => okWord v
  | .routeTblIndexWrite _ v => okWord v
  | .slotConfigWrite _ j _ v => okSlot j && okWord v
  | .timeSyncWord _ _ => true
  | .refLost _ => true
  | .refRequalified _ _ => true
  | .aoRefclkLost => true
  | .aoRelock => true
  | .pllUnlock => true
  | .dieWake nn => okDie nn
  | .dieWakeComplete nn => okDie nn
  | .clockStepRequest nn => okDie nn
  | .clockStepSwitch nn => okDie nn
  | .timeRateWrite _ hi => okWord hi
  | .timeStepWrite _ hi => okWord hi
  | .timeSOffsetHoldWrite _ _ v => okWord v
  | .timeSOffsetCommit _ ext => okWord ext
  | .timeWrap => true
  | .timePeriodElapse n _ => okPort n
  | .timeMark n _ _ => okPort n
  | .txStamp n _ => okPort n
  | .rxStamp n _ => okPort n
  | .announce n _ => okPort n
  | .todA n _ => okPort n
  | .todB n _ => okPort n
  | .asym n _ => okPort n
  | .asymMeasure n _ _ => okPort n
  | .timeRoleOff => true
  | .timeRoleGrandmaster => true
  | .timeRoleFollower => true
  | .timeAcceptStep => true
  | .noParentTimeout => true
  | .parentLost => true
  | .parentPrioritySwitch => true
  | .ppsInEdge => true
  | .ppsMissingTimeout => true
  | .ppsOutRise => true
  | .ppsOutFall => true
  | .hbmWriteArrive _ => true
  | .hbmReadArrive _ _ => true
  | .hdmRequest _ => true
  | .backInvalidateResponse n _ _ _ => okStack n
  | .refreshWindow n pc => okStack n && okChannel pc
  | .hbmTempCross n _ => okStack n
  | .rinseWindowStart n => okStack n
  | .rinseWindowEnd n _ => okStack n
  | .hbmScrubRead n _ _ _ => okStack n
  | .hbmScrubWriteback n _ => okStack n
  | .hbmKeySwitch p => okPart p
  | .hdmModeWrite _ sl _ => okSlice sl
  | .plinthUpkeepWindow _ => true
  | .plinthNonceRead _ => true
  | .plinthInstall _ _ => true
  | .plinthLayerWritten _ => true
  | .plinthDelete _ => true
  | .plinthEraseDone n => okObject n
  | .plinthAuditLayer n _ _ => okObject n
  | .bindCommit _ w3 => okWord w3
  | .replCtrlArm _ p => okPart p
  | .replDescFetched p _ => okPart p
  | .replStepBegin p => okPart p
  | .replLayerCopied p _ _ => okPart p
  | .replCtrlAbort _ p => okPart p
  | .replCtrlFinish _ p => okPart p
  | .reqDescriptorFetch q _ => okQueue q
  | .srvAdmitThroughWrite _ p hi => okPart p && okWord hi
  | .srvCfgWrite _ p v => okPart p && okWord v
  | .srvKvWrite _ p _ v => okPart p && okWord v
  | .slotBuild p => okPart p
  | .blockTableAck p _ _ => okPart p
  | .slotBankPublish p => okPart p
  | .sampleRowReceive _ _ => true
  | .missedSampleDetect p => okPart p
  | .resultRecordWrite p => okPart p
  | .hostLinkTrain _ => true
  | .hotReset _ => true
  | .configRequest _ _ v => okWord v
  | .barAccessError _ => true
  | .doorbellWrite q _ => okQueue q
  | .shadowWrite q => okQueue q
  | .queueEnable _ q v => okQueue q && okWord v
  | .queueDisable _ q => okQueue q
  | .qCfgWrite _ q v => okQueue q && okWord v
  | .queueFetchDone q _ _ => okQueue q
  | .nop q => okQueue q
  | .loadFull q _ => okQueue q
  | .loadResident q => okQueue q
  | .copyIn q _ => okQueue q
  | .copyOut q => okQueue q
  | .resIrqTimer q => okQueue q
  | .doeRequest _ _ _ _ _ => true
  | .ideFailure _ => true
  | .hdmDecoderCommit _ _ => true
  | .getTimestamp => true
  | .setTimestamp => true
  | .observe _ _ => true
  | .tenantDebug _ _ => true
  | .vendorFa _ _ => true
  | .replaceOperator _ _ => true
  | .enrolPublisher _ _ => true
  | .removePublisher _ _ => true
  | .setPolicy _ _ => true
  | .raiseArmSvn _ _ => true
  | .operatorReset _ _ => true
  | .enrolOperator _ _ => true
  | .grantExpire _ => true
  | .endGrant _ p => okPart p
  | .secNonceRead _ => true
  | .getNonce _ => true
  | .submitToken _ _ _ => true
  | .grantSession _ p _ => okPart p
  | .evict _ p => okPart p
  | .bindPartition _ p => okPart p
  | .unbind _ p => okPart p
  | .setHbmKey _ p _ _ => okPart p
  | .setJobKey _ p gen _ _ _ _ => okPart p && okGen gen
  | .switchKgen _ p gen _ _ => okPart p && okGen gen
  | .kgenSwitchTime p => okPart p
  | .clearKgen _ p gen _ => okPart p && okGen gen
  | .bindCkid _ p _ => okPart p
  | .bindQueues _ p _ => okPart p
  | .getKfloor _ => true
  | .getVersion _ => true
  | .getCapabilities _ => true
  | .negotiateAlgorithms _ => true
  | .getDigests _ _ => true
  | .getCertificate _ _ => true
  | .challenge _ => true
  | .getMeasurements _ _ => true
  | .keyExchange _ _ => true
  | .finishMsg _ _ => true
  | .heartbeat _ => true
  | .keyUpdate _ => true
  | .endSession _ => true
  | .chunkSend _ => true
  | .chunkGet _ => true
  | .spdmUnsupportedRequest _ => true
  | .mbxCtrlGo _ => true
  | .i3cDynamicAddress b _ => okBus b
  | .i3cRstdaa b => okBus b
  | .busStuckLow b => okBus b
  | .busIsolate b => okBus b
  | .busReturn b => okBus b
  | .setEndpointId b _ => okBus b
  | .getEndpointId b => okBus b
  | .getMctpVersionSupport b => okBus b
  | .getMessageTypeSupport b => okBus b
  | .getVendorDefinedMsgSupport b => okBus b
  | .mctpUnsupportedType b => okBus b
  | .gettid b => okBus b
  | .getpldmversion b => okBus b
  | .getpldmtypes b => okBus b
  | .getpldmcommands b _ => okBus b
  | .getpdr b => okBus b
  | .fruDataRead b => okBus b
  | .pollForPlatformEventMessage b => okBus b
  | .readReg b _ => okBus b
  | .writeReg b _ v => okBus b && okWord v
  | .takePlan b => okBus b
  | .setPowerState b _ => okBus b
  | .powerStateMoveDone => true
  | .powerCycle b _ => okBus b
  | .clearFault b _ => okBus b
  | .getEvents b => okBus b
  | .sensorRefresh _ _ _ => true
  | .controlOwnerClaim _ => true
  | .powerCapWrite _ v _ => okWord v
  | .powerEnvelopeWrite _ v => okWord v
  | .clockCapWrite _ v => okWord v
  | .requestUpdate b => okBus b
  | .firmwareDataReceive _ => true
  | .firmwareTransferTimeout => true
  | .cancelUpdate b => okBus b
  | .activateFirmware b => okBus b
  | .thimbleRestartDone => true
  | .watchdogRestart => true
  | .watchdogExpire => true
  | .inputBrownout _ => true
  | .porRelease => true
  | .inputLow _ => true
  | .inputHigh _ => true
  | .overvoltageTrip => true
  | .reversePolarity => true
  | .efuseTrip _ => true
  | .aoPathRetry _ => true
  | .senseOpen => true
  | .senseRestore => true
  | .railInRegulation => true
  | .railTimeout => true
  | .dieGateTimer nn => okDie nn
  | .domainDisable k => okDomain k
  | .domainEnable k => okDomain k
  | .isolationComplete k => okDomain k
  | .railFallen k => okDomain k
  | .railOff k => okDomain k
  | .domainWakeComplete k => okDomain k
  | .tempSample _ => true
  | .perstAssert => true
  | .perstRelease => true
  | .optionLoad _ => true
  | .bringUp _ _ _ _ => true
  | .sleeveGo _ b _ => okBlock b
  | .sleeveDrainTimeout => true
  | .sleeveResetDone => true
  | .statusLineStuck _ => true
  | .obsCounterRead _ p => okPart p
  | .aggPeriodLatch => true
  | .starchCtrlNow => true
  | .starchCtrlArm => true
  | .starchTimeReached => true
  | .starchCtrlRelease => true
  | .starchDrainDone => true
  | .obsRecordWrite p => okPart p
  | .obsRingCfgWrite _ p _ _ => okPart p
  | .obsRingCiWrite _ p v => okPart p && okWord v
  | .plasterDemand _ p => okPart p
  | .plasterSend p => okPart p
  | .dumpCfgWrite _ p k _ _ => okPart p && okPoint k
  | .dumpTrigger p k _ => okPart p && okPoint k
  | .dumpComplete p k _ => okPart p && okPoint k
  | .traceRecordSend g => okCore g
  | .ndCtrlWrite _ p v => okPart p && okWord v
  | .retrainPatternReceive n => okPort n
  | .heldIdlePatternEnd n _ => okPort n
  | .plinthReadRequest _ => true
  | .commandComplete q _ => okQueue q
  | .hiReadAdvance _ _ _ => true
  | .perstGlitch => true
  | .railsRestore => true

end Sys2Proof
end

