-- ==== Sys2Proof/Safety.lean ====
section
/-! DEFINITION. Safety.lean: what a state must satisfy for claims about runs, and what a safe step is. -/
namespace Sys2Proof.Machine
open Sys2Proof

/-- Every memory is in its canonical form: addresses strictly rising, nothing listed that reads as the fill (05 R149, R175; 11 R355; 12). -/
def Memory.wf (m : Memory) : Bool := bankWf 0 m.spad && bankWf 0 m.pool && bankWf 0 m.hbm && bankWf 0 m.plinthData

def State.memWf (s : State) : Bool := s.mem.wf

/-- Every command that waits has operands within range. -/
def State.queueWf (s : State) : Bool := s.pending.all Instr.wf

/-- A step is safe when it answers a next state: no command stops the block. -/
def safeStep (s : State) : Prop := ∃ t, step s = .next t

/-- The command answers a next state, and that state is as `post` says. -/
def Completes (c : Instr) (s : State) (post : State → Prop) : Prop := ∃ t, exec c s = .next t ∧ post t

/-- The two states differ in register fields only, and of those only in the ones listed, by field and instance. -/
def OnlyRegs (s t : State) (fs : List (Fld × Nat)) : Prop :=
  t = { s with regs := t.regs } ∧
  ∀ (f : Fld) (i k : Nat), f.code < 16384 → (∀ e ∈ fs, f.code ≠ e.1.code ∨ i ≠ e.2) → t.fld f i k = s.fld f i k

/-- Register fields other than the ones listed keep their values. -/
def RegsBut (s t : State) (fs : List (Fld × Nat)) : Prop :=
  ∀ (f : Fld) (i k : Nat), f.code < 16384 → (∀ e ∈ fs, f.code ≠ e.1.code ∨ i ≠ e.2) → t.fld f i k = s.fld f i k

/-- A control-processor instruction of core g changes that core's record, register fields, and what tracing needs; nothing else. -/
def CpFrame (s t : State) (g : Nat) (fs : List (Fld × Nat)) : Prop :=
  t = { s with regs := t.regs, cores := t.cores, free := t.free } ∧ (∀ h, h ≠ g → t.core h = s.core h) ∧
  RegsBut s t ((.OBS_TRACE_LOST, s.corePart g) :: fs)

/-- Scratchpad bytes outside some ranges of core g's handles, and every other memory, are as they were. -/
def SpadBut (s t : State) (g : Nat) (rs : List HRange) : Prop :=
  t.mem = { s.mem with spad := t.mem.spad } ∧
  ∀ key, (∀ r ∈ rs, ∀ j < r.len, key ≠ g * 524288 + hAddr (s.handle g r.h) (r.off + j)) → bankGet 0 t.mem.spad key = bankGet 0 s.mem.spad key

/-- No word that the macro-operation reads or writes has a bad byte. -/
def cleanOp (s : State) (g : Nat) (o : MacroOp) : Prop := ∀ w ∈ s.wordsOf g (opReads o ++ opWrites o), s.badBytes g w = 0

/-- The started records of an index are done, with an error code; the others are as they were. -/
def doneRuns (l : List Running) (id err flags : Nat) : List Running :=
  l.map (fun r => if r.op.id = id then { r with done := true, level := 0, err := err, flags := flags } else r)

/-- A packet lands at the unit it is for: it is a packet, it overtakes none, its die is not paused, the fence lets it in, and the block is not
sleeved (07 R219, R224, R232; 02 Table 2.8; 17 R526). -/
def State.lands (s : State) (k : Pkt) : Bool := k.fits && s.mayLand k && !s.fenced k.dstNode k && s.fld .SLEEVE_STATUS_STATE ≠ 2

/-- No router has sent a packet on: every hop answered in the second state was answered in the first. -/
def noNewHop (s t : State) : Bool := t.outs.all (fun o => match o with
  | .hop .. => s.outs.contains o
  | _ => true)

/-- A frame passes the checks of port n: its CRC, the frame counter, its CTAG (08 R247, R257). -/
def State.checkedFrame (s : State) (n : Nat) (f : Frame) : Prop :=
  f.crc = frameCrc f ∧ f.fcnt % 4096 = (s.port n).rxCount % 4096 ∧ f.ctag = frameTag (s.port n).rxKey (s.port n).rxCount f

/-- A unit has carried out macro-operation `o` of core g: its record is done without an error, only the ranges it writes have
changed in the memories, and in the core only its started records, its accumulators and what the writes repair. -/
def CarriedOut (s t : State) (g : Nat) (o : MacroOp) : Prop :=
  SpadBut s t g (opWrites o) ∧ t = { s with cores := t.cores, mem := t.mem } ∧ (∀ h, h ≠ g → t.core h = s.core h) ∧
  ∃ flags, (t.core g).started = doneRuns (s.core g).started o.id 0 flags ∧
    t.core g = { s.core g with started := (t.core g).started, acc := (t.core g).acc, bad := (t.core g).bad, corrections := (t.core g).corrections }

/-- The exchange of stamps t1 to t4 on port n is done: its offset and mean delay are those of the formula (10 R331), and nothing else but the
port's record has changed. -/
def ExchangeDone (s t : State) (n t1 t2 t3 t4 : Nat) : Prop :=
  t.fld .TPORT_EXCH n = (s.fld .TPORT_EXCH n + 1) % 2 ^ 32 ∧ t.fld .TPORT_DELAY n = ((stampDiff t2 t1 + stampDiff t4 t3) / 2).toNat ∧
  t.fld .TPORT_OFFSET n = unsgn 32 ((16 * (stampDiff t2 t1 - stampDiff t4 t3) + sgn 32 (s.fld .TPORT_ASYM n)) / 32) ∧
  (t.tport n).exchs = [] ∧ (t.tport n).quiet = 0 ∧ t = { s with regs := t.regs, tports := t.tports } ∧
  RegsBut s t [(.TPORT_EXCH, n), (.TPORT_DELAY, n), (.TPORT_OFFSET, n)]

/-- Stamps whose exchange is valid and whose offset and delay are whole and fit their fields (10 R331). -/
def exchangeExact (s : State) (n t1 t2 t3 t4 : Nat) : Prop :=
  let p := stampDiff t2 t1
  let q := stampDiff t4 t3
  let th := 16 * (p - q) + sgn 32 (s.fld .TPORT_ASYM n)
  0 ≤ p + q ∧ (p + q) % 2 = 0 ∧ (p + q) / 2 < 2 ^ 24 ∧ th % 32 = 0 ∧ -(2 : Int) ^ 31 ≤ th / 32 ∧ th / 32 < 2 ^ 31

/-- A request on a channel reaches Thimble's firmware: it runs, is not in ROM recovery, and the channel serves the request (15 R481; 16 R483). -/
def Asked (s : State) (ch : Chan) (op : Nat) : Prop :=
  s.thimbleUp ∧ s.thimble.romRecovery = false ∧
  match ch with
  | .mailbox => s.flag .MBX_STATUS_BUSY ∧ s.fld .MBX_CMD_OP = op
  | .mgmt b => s.busServed b
  | .doe => True
  | .session id => (s.tenantOf id).isSome

/-- Thimble has answered a request on its channel with a code, and on a channel that carries data with these (15 R481, 16 R487). -/
def Answered (t : State) (ch : Chan) (code : Nat) (data : List Nat) : Prop :=
  match ch with
  | .mailbox => t.fld .MBX_STATUS_BUSY = 0 ∧ t.fld .MBX_STATUS_DONE = 1 ∧ t.fld .MBX_STATUS_CODE = code ∧ t.bit .INT_STATUS_LO 4
  | _ => .reply ch (.code code data) ∈ t.outs

/-- An SPDM request on a channel reaches the responder (15 R473). -/
def SpdmHeard (s : State) (ch : Chan) : Prop :=
  s.thimbleUp ∧ s.thimble.romRecovery = false ∧
  match ch with
  | .mailbox => False
  | .mgmt b => s.busServed b
  | .doe => True
  | .session id => (s.session id).isSome

/-- The bytes of a core's scratchpad are all zero. -/
def SpadZero (t : State) (g : Nat) : Prop := ∀ a < 524288, t.spadByte g a = 0

/-- A power error is noted: the first code stays, a later one sets MULTI; an event and vector 0 (17 R531, 16 R490). -/
def PwrNoted (s t : State) (code : Nat) : Prop :=
  t.bit .INT_STATUS_LO 0 ∧ .code code ∈ t.events ∧ (s.fld .PWR_ERROR_CODE = 0 → t.fld .PWR_ERROR_CODE = code) ∧
  (s.fld .PWR_ERROR_CODE ≠ 0 → t.fld .PWR_ERROR_CODE = s.fld .PWR_ERROR_CODE ∧ t.fld .PWR_ERROR_MULTI = 1)

/-- Register fields after a reset: those kept as they were, the others at their reset values, but for the ones listed (17 Table 17.7). -/
def RegsReset (s t : State) (kept : Nat → Bool) (fs : List (Fld × Nat)) : Prop :=
  ∀ (f : Fld) (i k : Nat), f.code < 16384 → (∀ e ∈ fs, f.code ≠ e.1.code ∨ i ≠ e.2) →
    t.fld f i k = if kept f.code then s.fld f i k else State.reset.fld f i k

/-- The fields that noting a power error or an event can change. -/
def notedFlds : List (Fld × Nat) :=
  [(.PWR_ERROR_CODE, 0), (.PWR_ERROR_MULTI, 0), (.PWR_ERROR_INFO_ITEM, 0), (.PWR_ERROR_INFO_VALID, 0), (.INT_STATUS_LO, 0), (.MGMT_STATUS_ALERT, 0),
    (.MGMT_EVENTS_LOST, 0), (.MGMT_STATUS_FAULT, 0)]

/-- The device has dropped to AO: PWR_STATE says so, what lies outside the always-on domain has lost its state, Plinth is kept (17 R511, Table 17.7). -/
def InAo (s t : State) (fs : List (Fld × Nat)) : Prop :=
  t.fld .PWR_STATE_STATE = pwrAo ∧ t.fld .PWR_STATE_MOVING = 0 ∧ t.fld .PWR_STATE_TARGET = pwrRun ∧ t.fld .TIME_STATUS_COARSE = 1 ∧
  t.fld .SLEEVE_STATUS_STATE = (if s.fld .SLEEVE_STATUS_STATE = 1 ∨ s.fld .SLEEVE_STATUS_STATE = 2 then 0 else s.fld .SLEEVE_STATUS_STATE) ∧
  t.mem = { plinthData := s.mem.plinthData } ∧ t.cores = [] ∧ t.parts = [] ∧ t.domains = [] ∧ t.plinth = s.plinth ∧ t.thimble.sessions = s.thimble.sessions ∧
  RegsReset s t keptAtPerst ([(.PWR_STATE_STATE, 0), (.PWR_STATE_MOVING, 0), (.PWR_STATE_TARGET, 0), (.TIME_STATUS_COARSE, 0), (.SLEEVE_STATUS_STATE, 0)] ++ notedFlds ++ fs)

/-- Power-on reset is asserted: what is neither Plinth, fuses, Thimble's store nor INPUT_EVENTS is at its reset value (17 R509, Table 17.7). -/
def PoweredOn (s t : State) (fs : List (Fld × Nat)) : Prop :=
  t.power.por ∧ t.mem = { plinthData := s.mem.plinthData } ∧ t.cores = [] ∧ t.parts = [] ∧ t.domains = [] ∧ t.plinth = s.plinth ∧
  t.thimble.publishers = s.thimble.publishers ∧ t.thimble.stored = s.thimble.stored ∧ t.thimble.sessions = [] ∧ RegsReset s t keptAtPowerOn fs

/-- The fields of INPUT_EVENTS. -/
def inputEventFlds : List Fld :=
  [.INPUT_EVENTS_REVERSE, .INPUT_EVENTS_EFUSE_TRIP, .INPUT_EVENTS_OV_TRIP, .INPUT_EVENTS_BROWNOUT, .INPUT_EVENTS_WATCHDOG, .INPUT_EVENTS_MGMT_CYCLE,
    .INPUT_EVENTS_THERMAL_TRIP, .INPUT_EVENTS_SENSE_OPEN]

end Sys2Proof.Machine
end

