-- ==== Sys2Proof/Certificates/Slice0/Obligations.lean ====
section
/-! DEFINITION. Certificates/Slice0/Obligations.lean: the statements for the provers. The rules that a docstring names are those that
its statement rests on; a statement says of them what its clauses say, and no more. -/
open Sys2Proof Sys2Proof.Machine

/-- Register accesses (00 R5 to R11; 14 R431, 16 R493): an address that names no register ignores writes and answers nothing kept; RW fields take the value
written, W1C bits are cleared by ones; a read of a low half latches the high half; a write of a low half is held and the write of the high
half commits both; RC fields are cleared by their read, but for a count made in the same cycle; an indexed entry's last register advances
the index. A 64-bit access is the two accesses of its halves, the low one first. A W1C bit that hardware sets in the cycle of its clearing ends
set; of two writes of one cycle the management agent's is carried out; host software's accesses end at configuration space during ROM
recovery.
It is stated of the register groups and example registers that its clauses name. Log entries 1, 24, 25, 27, 70, 74, 76: the model's readings and choices. -/
def Obligations.RegisterAccess : Prop :=
  (∀ (party : Party) (off v : Nat) (counted : Bool) (s : State), regAt off = none →
    ∀ c ∈ [Instr.registerWrite party false off v {}, .pairLoRead party false off .lo, .pairLoWrite party false off v none, .pairHiWrite party false off v {},
        .rcCounterRead party false off counted, .hiReadAdvance party false off],
      Completes c s (fun t => t = s)) ∧
  (∀ (party : Party) (v : Nat) (s : State), s.hostShut party = false → v < 2 ^ 32 →
    Completes (.registerWrite party false 0x00400070 v {}) s (fun t => t.fld .POOL_SCRUB = v % 2 ∧ OnlyRegs s t [(.POOL_SCRUB, 0)])) ∧
  (∀ (party : Party) (v : Nat) (s : State), s.hostShut party = false → v < 2 ^ 32 → v.testBit 31 →
    Completes (.registerWrite party false 0x00600008 v {}) s (fun t => t.fld .FAB_ERROR_INFO_VALID = 0 ∧ t.fld .FAB_ERROR_CODE = 0 ∧
      OnlyRegs s t [(.FAB_ERROR_INFO_VALID, 0), (.FAB_ERROR_CODE, 0)])) ∧
  (∀ (party : Party) (v : Nat) (s : State), s.hostShut party = false → v < 2 ^ 32 →
    Completes (.registerWrite party false 0x00600008 v { sets := 2 ^ 31 }) s (fun t => t.fld .FAB_ERROR_INFO_VALID = 1 ∧
      OnlyRegs s t [(.FAB_ERROR_INFO_VALID, 0)])) ∧
  (∀ (v w : Nat) (s : State), s.hostShut .host = false → v < 2 ^ 32 → w < 2 ^ 32 →
    Completes (.registerWrite .host false 0x00400070 v { other := some w }) s (fun t => t.fld .POOL_SCRUB = w % 2 ∧ OnlyRegs s t [(.POOL_SCRUB, 0)])) ∧
  (∀ (party : Party) (off v : Nat) (bar2 counted : Bool) (also : Meanwhile) (part : PairPart) (hi : Option Nat) (s : State), s.hostShut party →
    ∀ c ∈ [Instr.registerWrite party bar2 off v also, .pairLoRead party bar2 off part, .pairLoWrite party bar2 off v hi, .pairHiWrite party bar2 off v also,
        .rcCounterRead party bar2 off counted, .hiReadAdvance party bar2 off],
      Completes c s (fun t => t = s)) ∧
  (∀ (party : Party) (s : State), s.hostShut party = false →
    Completes (.pairLoRead party false 0x00101008 .lo) s (fun t => .readData party (s.fld .PLAN_TICK_LO 0 % 2 ^ 32) ∈ t.outs ∧
      bankGet 0 t.latch (pairKey party 0x00101008) = s.fld .PLAN_TICK_HI 0 % 2 ^ 32 + 1 ∧ t = { s with outs := t.outs, latch := t.latch })) ∧
  (∀ (party : Party) (s : State), s.hostShut party = false →
    Completes (.pairLoRead party false 0x00101008 .both) s (fun t => t = { s with outs := t.outs, latch := t.latch } ∧
      t.outs = s.outs ++ [.readData party (s.fld .PLAN_TICK_LO 0 % 2 ^ 32), .readData party (s.fld .PLAN_TICK_HI 0 % 2 ^ 32)])) ∧
  (∀ (party : Party) (v : Nat) (s : State), party ≠ .mgmt → s.hostShut party = false → v < 2 ^ 32 →
    Completes (.pairLoWrite party false 0x00400034 v none) s (fun t => bankGet 0 t.held (pairKey party 0x00400034) = v + 1 ∧ t = { s with held := t.held })) ∧
  (∀ (party : Party) (lo hi : Nat) (s : State), party ≠ .mgmt → s.hostShut party = false → lo < 2 ^ 32 → hi < 2 ^ 32 →
    Completes (.pairLoWrite party false 0x00400034 lo (some hi)) s (fun t => t.fld .SIDE_DST_LO = lo ∧ t.fld .SIDE_DST_HI = hi ∧
      bankGet 0 t.held (pairKey party 0x00400034) = 0 ∧ t = { s with regs := t.regs, held := t.held } ∧ RegsBut s t [(.SIDE_DST_LO, 0), (.SIDE_DST_HI, 0)])) ∧
  (∀ (party : Party) (lo hi : Nat) (s : State), party ≠ .mgmt → s.hostShut party = false → lo < 2 ^ 32 → hi < 2 ^ 32 → bankGet 0 s.held (pairKey party 0x00400034) = lo + 1 →
    Completes (.pairHiWrite party false 0x00400038 hi {}) s (fun t => t.fld .SIDE_DST_LO = lo ∧ t.fld .SIDE_DST_HI = hi ∧
      bankGet 0 t.held (pairKey party 0x00400034) = 0 ∧ t = { s with regs := t.regs, held := t.held } ∧ RegsBut s t [(.SIDE_DST_LO, 0), (.SIDE_DST_HI, 0)])) ∧
  (∀ (party : Party) (counted : Bool) (s : State), s.hostShut party = false →
    Completes (.rcCounterRead party false 0x00400050 counted) s (fun t => .readData party (s.fld .POOL_CE 0 0 % 2 ^ 32) ∈ t.outs ∧
      t.fld .POOL_CE 0 0 = counted.toNat ∧ t = { s with regs := t.regs, outs := t.outs } ∧ RegsBut s t [(.POOL_CE, 0)])) ∧
  (∀ (party : Party) (s : State), s.hostShut party = false → s.fld .HANDLE_INDEX_AUTO 0 = 1 →
    Completes (.hiReadAdvance party false 0x02001408) s (fun t => t.fld .HANDLE_INDEX_INDEX 0 = (s.fld .HANDLE_INDEX_INDEX 0 + 1) % 1024 ∧
      t = { s with regs := t.regs, outs := t.outs } ∧ RegsBut s t [(.HANDLE_INDEX_INDEX, 0)]))

/-- Starting (01 R17, R18, R38, R39): on START_NOW of a LOADED partition, and when the corrected time reaches the start time of an
ARMED one, tick 0 is granted where every exchange port is UP or RETRAIN: RUNNING, PLAN_TICK 0, HOLD_TIME and HOLD_COUNT 0, no tick
complete, the memories as they were. With a port down the partition is LOADED and PLAN_ERROR records E_PLAN_PORT_DOWN.
CLEAR of a STOPPED or FAULT partition (01 R33, Table 1.6; 06 R190): it is IDLE, its hold table empty, its tick and error code zero, the
sync counters of its cores zero, the memories as they were.
What CLEAR zeroes beyond its list is the model's reading (log entry 7). -/
def Obligations.PlanStartAndClear : Prop :=
  (∀ (party : Party) (p : Nat) (s : State), s.ownsPlan party → s.clearing p = false → s.applying p = false → s.pstate p = .loaded →
    (∀ n ∈ s.exchangePorts p, s.portLive n) →
    Completes (.planCtrlStartNow party p) s (fun t => t.pstate p = .running ∧ t.planTick p = 0 ∧ t.fld .HOLD_COUNT p = 0 ∧
      t.fld64 .HOLD_TIME_LO .HOLD_TIME_HI p = 0 ∧ (t.part p).completed = 0 ∧ t.mem = s.mem)) ∧
  (∀ (p : Nat) (s : State), s.pstate p = .armed → s.timeReached (s.part p).startTime → (∀ n ∈ s.exchangePorts p, s.portLive n) →
    Completes (.planStartTimeReached p) s (fun t => t.pstate p = .running ∧ t.planTick p = 0 ∧ t.fld .HOLD_COUNT p = 0 ∧
      t.fld64 .HOLD_TIME_LO .HOLD_TIME_HI p = 0 ∧ (t.part p).completed = 0 ∧ t.mem = s.mem)) ∧
  (∀ (p n : Nat) (s : State), s.pstate p = .armed → s.timeReached (s.part p).startTime → n ∈ s.exchangePorts p → s.portLive n = false →
    s.fld .PLAN_ERROR_CODE p = 0 →
    Completes (.planStartTimeReached p) s (fun t => t.pstate p = .loaded ∧ t.fld .PLAN_ERROR_CODE p = E_PLAN_PORT_DOWN)) ∧
  (∀ (p : Nat) (s : State), s.clearing p = false → s.applying p = false → (s.pstate p = .stopped ∨ s.pstate p = .fault) →
    Completes (.planCtrlClear p) s (fun t => t.pstate p = .idle ∧ (t.part p).holds = [] ∧ (t.part p).reported = [] ∧ t.planTick p = 0 ∧
      t.fld .PLAN_ERROR_CODE p = 0 ∧ t.mem = s.mem ∧ (∀ g c, s.corePart g = p → t.fld .SYNC_GIVEN g c = 0 ∧ t.fld .SYNC_TAKEN g c = 0) ∧
      (∀ g c, s.corePart g ≠ p → t.fld .SYNC_GIVEN g c = s.fld .SYNC_GIVEN g c ∧ t.fld .SYNC_TAKEN g c = s.fld .SYNC_TAKEN g c)))

/-- The commands of Table 1.6 that move a partition between states without a tick (01 R38).
That the start time is the one stored at ARM is the model's choice (log entry 74). -/
def Obligations.PlanCommands : Prop :=
  (∀ (party : Party) (p : Nat) (s : State), s.ownsPlan party → s.clearing p = false → s.applying p = false → s.pstate p = .loaded →
    s.twoMicrosAhead (s.fld64 .PLAN_START_TIME_LO .PLAN_START_TIME_HI p) →
    Completes (.planCtrlArm party p) s (fun t => t.pstate p = .armed ∧
      (t.part p).startTime = s.fld64 .PLAN_START_TIME_LO .PLAN_START_TIME_HI p ∧
      RegsBut s t [(.PLAN_STATUS_STATE, p), (.PLAN_PART_RUN, 0)] ∧ t.mem = s.mem ∧ t.cores = s.cores)) ∧
  (∀ (party : Party) (p : Nat) (s : State), s.ownsPlan party → s.clearing p = false → s.applying p = false → s.pstate p = .loaded →
    s.twoMicrosAhead (s.fld64 .PLAN_START_TIME_LO .PLAN_START_TIME_HI p) = false → s.fld .PLAN_ERROR_CODE p = 0 →
    Completes (.planCtrlArm party p) s (fun t => t.pstate p = .loaded ∧ t.fld .PLAN_ERROR_CODE p = E_PLAN_START_LATE)) ∧
  (∀ (p : Nat) (s : State), s.clearing p = false → s.applying p = false → s.pstate p = .running →
    Completes (.planCtrlStop p) s (fun t => t.pstate p = .stopping ∧ OnlyRegs s t [(.PLAN_STATUS_STATE, p), (.PLAN_PART_RUN, 0)])) ∧
  (∀ (p : Nat) (s : State), s.clearing p = false → s.applying p = false → s.pstate p = .armed →
    Completes (.planCtrlAbort p) s (fun t => t.pstate p = .loaded ∧ OnlyRegs s t [(.PLAN_STATUS_STATE, p), (.PLAN_PART_RUN, 0)])) ∧
  (∀ (p : Nat) (s : State), s.clearing p = false → s.applying p = false → (s.pstate p).active →
    Completes (.planCtrlAbort p) s (fun t => t.pstate p = .stopped ∧ (t.part p).holds = [] ∧
      (∀ n ∈ s.partPorts p, .ctl n (s.faultStopFlit p) ∈ t.outs) ∧ t.mem = s.mem ∧ t.cores = s.cores)) ∧
  (∀ (party : Party) (p : Nat) (s : State), s.ownsPlan party → s.clearing p = false → s.applying p = false → s.pstate p = .brk →
    Completes (.planCtrlResume party p) s (fun t => t.pstate p = .ofCode (s.part p).prev ∧ t.mem = s.mem)) ∧
  (∀ (p : Nat) (s : State), s.clearing p = false → s.applying p = false → (s.pstate p = .loaded ∨ s.pstate p = .armed) →
    Completes (.planCtrlUnload p) s (fun t => t.pstate p = .idle ∧ (t.part p).holds = [] ∧
      RegsBut s t [(.PLAN_STATUS_STATE, p), (.PLAN_PART_RUN, 0)] ∧ t.mem = s.mem ∧ t.cores = s.cores)) ∧
  (∀ (p : Nat) (s : State), s.clearing p = false → s.applying p = false → s.pstate p = .brk → (s.part p).breakAt = s.raw + 1 →
    Completes (.planCtrlStop p) s (fun t => t.part p = { s.part p with prev := PState.stopping.code } ∧ t = { s with parts := t.parts })) ∧
  (∀ (p : Nat) (s : State), s.clearing p = false → s.applying p = false → s.pstate p ≠ .running →
    (s.pstate p = .brk → (s.part p).breakAt ≠ s.raw + 1) →
    Completes (.planCtrlStop p) s (fun t => t.fld .PLAN_STATUS_CMD_REJECT p = 1 ∧ OnlyRegs s t [(.PLAN_STATUS_CMD_REJECT, p)]))

/-- Settings of a partition (01 R22, R53; Table 1.9): taken in IDLE, LOADED and ARMED, refused with CMD_REJECT in every other state and,
for HEM_DEPTH, above 8; HOLD_TIMEOUT below 100 stores 100. Nothing else changes.
Ticks (01 R15, R16, R17, R19, R40): a running partition whose tick is ready completes it and reports it on every exchange port; one
whose conditions hold is granted the next tick. A partition that is stopping, or whose stop tick it was, stops, with STOPPED in its
report. -/
def Obligations.PlanSettings : Prop :=
  (∀ (p v : Nat) (s : State), s.settable p → v ≤ 8 →
    Completes (.hemDepthWrite p v) s (fun t => t.fld .HEM_DEPTH p = v ∧ OnlyRegs s t [(.HEM_DEPTH, p)])) ∧
  (∀ (p v : Nat) (s : State), (s.settable p = false ∨ (9 ≤ v ∧ v ≤ 15)) →
    Completes (.hemDepthWrite p v) s (fun t => t.fld .PLAN_STATUS_CMD_REJECT p = 1 ∧ t.fld .HEM_DEPTH p = s.fld .HEM_DEPTH p ∧
      OnlyRegs s t [(.PLAN_STATUS_CMD_REJECT, p)])) ∧
  (∀ (p v : Nat) (s : State), s.settable p → v < 2 ^ 24 →
    Completes (.planSettingWrite p .holdTimeout v) s (fun t => t.fld .HOLD_TIMEOUT p = max 100 v ∧ OnlyRegs s t [(.HOLD_TIMEOUT, p)])) ∧
  (∀ (p v : Nat) (s : State), s.settable p → v < 2 ^ 64 →
    Completes (.planSettingWrite p .startTime v) s (fun t => t.fld64 .PLAN_START_TIME_LO .PLAN_START_TIME_HI p = v ∧
      OnlyRegs s t [(.PLAN_START_TIME_LO, p), (.PLAN_START_TIME_HI, p)])) ∧
  (∀ (p v : Nat) (s : State), s.settable p → v < 2 ^ 64 →
    Completes (.planSettingWrite p .stopTick v) s (fun t => t.fld64 .PLAN_STOP_TICK_LO .PLAN_STOP_TICK_HI p = v ∧
      OnlyRegs s t [(.PLAN_STOP_TICK_LO, p), (.PLAN_STOP_TICK_HI, p)])) ∧
  (∀ (p v : Nat) (s : State), s.settable p →
    Completes (.planSettingWrite p .stopAtTick v) s (fun t => t.fld .PLAN_CTRL_STOP_AT_TICK p = v % 2 ∧
      OnlyRegs s t [(.PLAN_CTRL_STOP_AT_TICK, p)])) ∧
  (∀ (p v : Nat) (which : PlanSetting) (s : State), s.settable p = false → which ≠ .stopAtTick →
    Completes (.planSettingWrite p which v) s (fun t => t.fld .PLAN_STATUS_CMD_REJECT p = 1 ∧
      OnlyRegs s t [(.PLAN_STATUS_CMD_REJECT, p)])) ∧
  (∀ (p : Nat) (s : State), (s.pstate p).active → (s.part p).completed ≤ s.planTick p → s.tickReady p (s.planTick p) → s.pstate p ≠ .stopping →
    s.fld .PLAN_CTRL_STOP_AT_TICK p = 0 →
    Completes (.tickComplete p) s (fun t => (t.part p).completed = s.planTick p + 1 ∧ t.pstate p = s.pstate p ∧ RegsBut s t [(.HOLD_COUNT, p)] ∧ t.mem = s.mem ∧
      ∀ n ∈ s.exchangePorts p, .ctl n { type := .report, tag := s.fld .PLAN_JOB_TAG p, origin := s.ownRank p, tick := s.planTick p % 2 ^ 32, hem := s.fld .HEM_DEPTH p } ∈ t.outs)) ∧
  (∀ (p : Nat) (s : State), s.pstate p = .stopping → (s.part p).completed ≤ s.planTick p → s.tickReady p (s.planTick p) →
    Completes (.tickComplete p) s (fun t => t.pstate p = .stopped ∧ (t.part p).completed = s.planTick p + 1 ∧ (t.part p).holds = [] ∧
      t.mem = s.mem ∧ ∀ n ∈ s.exchangePorts p, .ctl n { type := .report, tag := s.fld .PLAN_JOB_TAG p, origin := s.ownRank p, tick := s.planTick p % 2 ^ 32, hem := s.fld .HEM_DEPTH p, stopped := true } ∈ t.outs)) ∧
  (∀ (p : Nat) (s : State), s.grantable p → s.planTick p + 1 < 2 ^ 64 →
    Completes (.tickGrant p) s (fun t => t.planTick p = s.planTick p + 1 ∧ t.pstate p = .running ∧ t.mem = s.mem ∧
      (t.part p).completed = (s.part p).completed ∧ t.part p = { s.part p with denied := false, noProg := 0, layerAt := (t.part p).layerAt }))

/-- Plan control flits (01 R20, R23, R29, R30, R32): what a device that runs the job does with a REPORT from an exchange port, a new HOLD,
a RELEASE of a live entry and a FAULT_STOP; what one that carries the job in transit forwards; what a released entry's age does.
Which states store and forward flits is the model's reading (log entry 26), and so is what a RELEASE does to a full table its choice (log entry 73). -/
def Obligations.PlanFlits : Prop :=
  (∀ (port j p : Nat) (f : CtlFlit) (s : State), s.jobSlot f.tag = some j → (s.slotPorts j).testBit port → s.fld .SLOT_CFG_KIND j = 0 →
    s.fld .SLOT_CFG_PARTITION j = p → (s.fld .EXCHANGE_PORTS p).testBit port → f.hem = s.fld .HEM_DEPTH p → (s.pstate p).active = false →
    Completes (.reportReceive port f) s (fun t => (t.part p).reported = bankSet 0 (s.part p).reported port
      (max (widenTick (max (s.planTick p) (s.reportedTicks p port - 1)) f.tick + 1) (s.reportedTicks p port)) ∧
      t = { s with parts := t.parts })) ∧
  (∀ (port j p : Nat) (f : CtlFlit) (s : State), s.jobSlot f.tag = some j → (s.slotPorts j).testBit port → s.fld .SLOT_CFG_KIND j = 0 →
    s.fld .SLOT_CFG_PARTITION j = p → (s.fld .EXCHANGE_PORTS p).testBit port → f.hem ≠ s.fld .HEM_DEPTH p → (s.pstate p).active →
    s.fld .PLAN_ERROR_CODE p = 0 →
    Completes (.reportReceive port f) s (fun t => t.pstate p = .fault ∧ t.fld .PLAN_ERROR_CODE p = E_PLAN_HEM_MISMATCH ∧ (t.part p).holds = [])) ∧
  (∀ (port j p : Nat) (f : CtlFlit) (s : State), s.jobSlot f.tag = some j → (s.slotPorts j).testBit port → s.fld .SLOT_CFG_KIND j = 0 →
    s.fld .SLOT_CFG_PARTITION j = p → f.origin ≠ s.fld .SLOT_RANK j → (∀ e ∈ (s.part p).holds, e.hasKey f = false) → (s.part p).holds.length < 32 →
    Completes (.holdReceive port f) s (fun t => (t.part p).holds = (s.part p).holds ++
        [{ tag := f.tag, origin := f.origin, tick := f.tick, cause := f.cause, hops := f.hops, live := true, since := s.raw }] ∧
      RegsBut s t [(.HOLD_COUNT, p)] ∧ t.mem = s.mem ∧ (f.hops < s.hopLimit →
        ∀ n, n < 32 → (s.slotPorts j).testBit n → n ≠ port → .ctl n { f with hops := f.hops + 1 } ∈ t.outs))) ∧
  (∀ (port j p : Nat) (f : CtlFlit) (s : State), s.jobSlot f.tag = some j → (s.slotPorts j).testBit port → s.fld .SLOT_CFG_KIND j = 0 →
    s.fld .SLOT_CFG_PARTITION j = p → (∃ e ∈ (s.part p).holds, e.hasKey f) → (∀ e ∈ (s.part p).holds, e.hasKey f → e.live) →
    Completes (.releaseReceive port f) s (fun t => (∀ e ∈ (t.part p).holds, e.hasKey f → e.live = false ∧ e.since = s.raw) ∧
      (t.part p).holds.length = (s.part p).holds.length ∧ RegsBut s t [(.HOLD_COUNT, p)] ∧ t.mem = s.mem)) ∧
  (∀ (port j p : Nat) (f : CtlFlit) (s : State), s.jobSlot f.tag = some j → (s.slotPorts j).testBit port → s.fld .SLOT_CFG_KIND j = 0 →
    s.fld .SLOT_CFG_PARTITION j = p → (s.pstate p = .running ∨ s.pstate p = .loaded ∨ s.pstate p = .stopped) → s.fld .PLAN_ERROR_CODE p = 0 →
    Completes (.faultStopReceive port f) s (fun t => t.pstate p = .fault ∧ t.fld .PLAN_ERROR_CODE p = E_PLAN_REMOTE_FAULT ∧
      (t.part p).faultOrigin = f.origin + 1 ∧ (t.part p).holds = [] ∧ t.mem = s.mem)) ∧
  (∀ (port j : Nat) (f : CtlFlit) (s : State), s.jobSlot f.tag = some j → (s.slotPorts j).testBit port → s.fld .SLOT_CFG_KIND j = 1 →
    f.hops < s.hopLimit →
    ∀ c ∈ [Instr.holdReceive port f, .releaseReceive port f, .faultStopReceive port f],
      Completes c s (fun t => t = { s with outs := t.outs } ∧
        ∀ n, n < 32 → (s.slotPorts j).testBit n → n ≠ port → .ctl n { f with hops := f.hops + 1 } ∈ t.outs)) ∧
  (∀ (p : Nat) (s : State), Completes (.holdEntryExpire p) s (fun t => t = { s with parts := t.parts } ∧
      ∀ e, e ∈ (t.part p).holds ↔ e ∈ (s.part p).holds ∧ (e.live ∨ s.elapsed e.since (max (s.fld .HOLD_TIMEOUT p) 1000 * 1000) = false)))

/-- The no-progress timer that runs out (01 R44 to R46, R51): the partition enters FAULT with E_PLAN_DEADLOCK or E_PLAN_HOLD_TIMEOUT. A timer
that has not reached HOLD_TIMEOUT does nothing.
Power tokens (01 R41, R42): the budget follows the cap; the first heavy macro-operation in a core's queue is granted physical token
k mod Q when fewer than Q are held on its die and that one is free; of requests of one cycle for the same token the lower k is granted first.
That no core without instructions keeps a tick open is the model's reading (log entry 12), and so is what the timer counts (log entry 75). -/
def Obligations.TimeoutAndTokens : Prop :=
  (∀ (p : Nat) (s : State), s.timerRuns p → s.timedOut p → s.fld .PLAN_ERROR_CODE p = 0 →
    Completes (.holdTimeoutExpire p) s (fun t => t.pstate p = .fault ∧ (t.part p).holds = [] ∧ t.mem = s.mem ∧
      (t.fld .PLAN_ERROR_CODE p = E_PLAN_DEADLOCK ∨ t.fld .PLAN_ERROR_CODE p = E_PLAN_HOLD_TIMEOUT))) ∧
  (∀ (p : Nat) (s : State), (s.timerRuns p = false ∨ s.timedOut p = false) → Completes (.holdTimeoutExpire p) s (fun t => t = s)) ∧
  (∀ s : State, Completes .powerTokensRecompute s (fun t =>
    t.fld .POWER_TOKENS = min 6144 (max 96 ((s.fld .POWER_CAP - 1380) * 16 / 5)) ∧ OnlyRegs s t [(.POWER_TOKENS, 0)])) ∧
  (∀ (g h : Nat) (rivals : List Nat) (o : MacroOp) (s : State), (s.core g).wantsToken = some o → h ∈ rivals →
    s.rivalToken g (s.dieQuota (g / 96)) (arg o .token) h → Completes (.tokenGrant g rivals) s (fun t => t = s)) ∧
  (∀ (g : Nat) (rivals : List Nat) (o : MacroOp) (s : State), (∀ h ∈ rivals, s.rivalToken g (s.dieQuota (g / 96)) (arg o .token) h = false) → (s.core g).wantsToken = some o → arg o .token < 96 →
    (bankGet [] s.tokens (g / 96)).length < s.dieQuota (g / 96) →
    (∀ e ∈ bankGet [] s.tokens (g / 96), e.1 ≠ arg o .token % s.dieQuota (g / 96)) →
    Completes (.tokenGrant g rivals) s (fun t => (t.core g).token = some (o.id, arg o .token % s.dieQuota (g / 96)) ∧
      bankGet [] t.tokens (g / 96) = bankGet [] s.tokens (g / 96) ++ [(arg o .token % s.dieQuota (g / 96), g, o.id)] ∧
      t = { s with cores := t.cores, tokens := t.tokens }))

/-- Staging and discarding shape images (02 R66, R67, R78): STAGE from EMPTY or STAGED begins to verify; an image that passes the checks
of Table 2.6 is staged with its SCOPE shown; one that fails leaves the loader EMPTY with FAILED and the code of the first failing check;
DISCARD drops a staged image; either command during VERIFYING or APPLYING records E_ARM_BUSY and changes nothing else of the loader.
Applying an image (02 R68, R71 to R73): APPLY whose scope check passes begins the application, one with a busy partition is refused;
the drain fills what changes owner with zero; the shadow check and the shared switch lead to the commit, which puts the quads in force,
counts itself and empties the loader. A drain that does not finish and a failed check leave the tables as they were.
That records overlay the shape in force is the model's reading (log entry 23); digests and signatures are opaque functions (log entry 20), corners of the checks the model's choice (log entry 72). -/
def Obligations.ArmatureLoading : Prop :=
  (∀ (party : Party) (s : State), (s.fld .ARM_STATUS_STATE = armEmpty ∨ s.fld .ARM_STATUS_STATE = armStaged) →
    Completes (.armCtrlStage party false) s (fun t => t.fld .ARM_STATUS_STATE = armVerifying ∧ t.loader.staged = none ∧ t.mem = s.mem ∧
      RegsBut s t [(.ARM_STATUS_STATE, 0)])) ∧
  (∀ (img : ArmImage) (s : State), s.fld .ARM_STATUS_STATE = armVerifying → s.armCheck img = 0 → img.scope < 2 ^ 16 →
    Completes (.armVerifyComplete img) s (fun t => t.fld .ARM_STATUS_STATE = armStaged ∧ t.loader.staged = some img ∧
      t.fld .ARM_SCOPE = img.scope ∧ t.mem = s.mem ∧ RegsBut s t [(.ARM_STATUS_STATE, 0), (.ARM_SCOPE, 0)])) ∧
  (∀ (img : ArmImage) (s : State), s.fld .ARM_STATUS_STATE = armVerifying → s.armCheck img ≠ 0 → s.fld .ARM_ERROR_VALID = 0 →
    Completes (.armVerifyComplete img) s (fun t => t.fld .ARM_STATUS_STATE = armEmpty ∧ t.loader.staged = none ∧
      t.fld .ARM_STATUS_FAILED = 1 ∧ t.fld .ARM_ERROR_CODE = s.armCheck img ∧ t.fld .ARM_ERROR_VALID = 1 ∧ t.mem = s.mem)) ∧
  (∀ (party : Party) (s : State), s.fld .ARM_STATUS_STATE = armStaged →
    Completes (.armCtrlDiscard party false) s (fun t => t.fld .ARM_STATUS_STATE = armEmpty ∧ t.loader.staged = none ∧ t.mem = s.mem ∧
      RegsBut s t [(.ARM_STATUS_STATE, 0)])) ∧
  (∀ (party : Party) (clash : Bool) (s : State), (s.fld .ARM_STATUS_STATE = armVerifying ∨ s.fld .ARM_STATUS_STATE = armApplying) →
    s.fld .ARM_ERROR_VALID = 0 → ∀ c ∈ [Instr.armCtrlStage party clash, .armCtrlApply party clash, .armCtrlDiscard party clash],
      Completes c s (fun t => t.fld .ARM_ERROR_CODE = E_ARM_BUSY ∧ t.fld .ARM_ERROR_VALID = 1 ∧
        t.fld .ARM_STATUS_STATE = s.fld .ARM_STATUS_STATE ∧ t.loader = s.loader ∧ t.mem = s.mem)) ∧
  (∀ (party : Party) (img : ArmImage) (s : State), s.fld .ARM_STATUS_STATE = armStaged → s.loader.staged = some img →
    (∀ p < 16, img.scope.testBit p → s.pstate p = .idle) → s.scopeOk img →
    Completes (.armCtrlApply party false) s (fun t => t.fld .ARM_STATUS_STATE = armApplying ∧ t.loader.phase = 0 ∧
      t.loader.staged = some img ∧ t.mem = s.mem ∧ RegsBut s t [(.ARM_STATUS_STATE, 0)])) ∧
  (∀ (party : Party) (img : ArmImage) (p : Nat) (s : State), s.fld .ARM_STATUS_STATE = armStaged → s.loader.staged = some img → p < 16 →
    img.scope.testBit p → s.pstate p ≠ .idle → s.fld .ARM_ERROR_VALID = 0 →
    Completes (.armCtrlApply party false) s (fun t => t.fld .ARM_ERROR_CODE = E_ARM_PART_BUSY ∧ t.fld .ARM_STATUS_STATE = armStaged ∧
      t.loader = s.loader ∧ t.mem = s.mem)) ∧
  (∀ (img : ArmImage) (s : State), s.fld .ARM_STATUS_STATE = armApplying → s.loader.staged = some img → s.loader.phase = 0 →
    Completes .armDrainDone s (fun t => t.loader.phase = 1 ∧
      (∀ g a, a < 524288 → (s.newQuad img.recs (g / 96 / 4)).1 ≠ s.corePart g → t.spadByte g a = 0) ∧
      (∀ g a, a < 524288 → (s.newQuad img.recs (g / 96 / 4)).1 = s.corePart g → t.spadByte g a = s.spadByte g a))) ∧
  (∀ (img : ArmImage) (s : State), s.fld .ARM_STATUS_STATE = armApplying → s.loader.staged = some img → s.loader.phase = 0 →
    s.fld .ARM_ERROR_VALID = 0 →
    Completes .armDrainTimeout s (fun t => t.fld .ARM_STATUS_STATE = armEmpty ∧ t.fld .ARM_STATUS_FAILED = 1 ∧
      t.fld .ARM_ERROR_CODE = E_ARM_DRAIN_TIMEOUT ∧ t.mem = s.mem ∧ ∀ q, t.quadPart q = s.quadPart q)) ∧
  (∀ (img : ArmImage) (s : State), s.fld .ARM_STATUS_STATE = armApplying → s.loader.staged = some img → s.loader.phase = 1 →
    Completes (.armShadowCheckDone true) s (fun t => t = { s with loader := { s.loader with phase := 2 } })) ∧
  (∀ (img : ArmImage) (s : State), s.fld .ARM_STATUS_STATE = armApplying → s.loader.staged = some img → s.loader.phase = 1 →
    s.fld .ARM_ERROR_VALID = 0 →
    Completes (.armShadowCheckDone false) s (fun t => t.fld .ARM_STATUS_STATE = armEmpty ∧ t.fld .ARM_STATUS_FAILED = 1 ∧
      t.fld .ARM_ERROR_CODE = E_ARM_WRITE_FAULT ∧ t.mem = s.mem ∧ ∀ q, t.quadPart q = s.quadPart q)) ∧
  (∀ (img : ArmImage) (s : State), s.fld .ARM_STATUS_STATE = armApplying → s.loader.staged = some img → s.loader.phase = 2 →
    Completes .armSharedSwitch s (fun t => t = { s with loader := { s.loader with phase := 3 } })) ∧
  (∀ (img : ArmImage) (s : State), s.fld .ARM_STATUS_STATE = armApplying → s.loader.staged = some img → s.loader.phase = 3 →
    img.version < 2 ^ 32 → (∀ q < 16, (s.newQuad img.recs q).1 < 16) →
    Completes .armCommit s (fun t => t.fld .ARM_STATUS_STATE = armEmpty ∧ t.loader.staged = none ∧ t.fld .ARM_STATUS_APPLIED = 1 ∧
      t.fld .ARM_ACTIVE_VERSION = img.version ∧ (∀ q < 16, t.quadPart q = (s.newQuad img.recs q).1)))

/-- SCALAR and READ (03 R83, Table 3.2, R104): the destination register takes the operation's result, s0 stays zero, CP_PC goes on to the
next instruction, and beyond the last of the store to one that decodes to no class (R82); a shift by 64 or more, whose result the spec does not state, writes a free value (log entry 17). No other register,
core or memory changes.
FETCH (03 R84, 05 R163): a load of 8 bytes that passes the handle checks, meets no uncorrectable word and no earlier write, gives them
to the destination register; one that fails the checks ends the stream with their code.
A command runs only an instruction of its class, an immediate is unsigned: the model's choice and reading (log entries 15, 16). -/
def Obligations.CpInstructions : Prop :=
  (∀ (g rd ra v : Nat) (op : ScalarOp) (b : ScalarSrc) (s : State), s.cpReady g → s.pc g < 16383 → s.instr g = .scalar op rd ra b → rd < 32 →
    scalarResult op (s.sreg g ra) (s.scalarSrc g b) = some v →
    Completes (.scalar g) s (fun t => (∀ n < 32, t.sreg g n = if n = rd ∧ rd ≠ 0 then v % 2 ^ 64 else s.sreg g n) ∧
      t.pc g = s.pc g + 1 ∧ OnlyRegs s t [(.SCALAR_LO, g), (.SCALAR_HI, g), (.CP_PC, g)])) ∧
  (∀ (g rd ra rb : Nat) (s : State), s.cpReady g → s.pc g < 16383 → s.instr g = .scalar .add rd ra (.reg rb) → 0 < rd → rd < 32 →
    Completes (.scalar g) s (fun t => t.sreg g rd = (s.sreg g ra + s.sreg g rb) % 2 ^ 64)) ∧
  (∀ (g rd ra v : Nat) (op : ScalarOp) (s : State), s.cpReady g → s.pc g < 16383 → s.instr g = .scalar op rd ra (.imm v) → 0 < rd → rd < 32 →
    (op = .shl ∨ op = .shr ∨ op = .sar) → 64 ≤ v → v < 2 ^ 32 →
    Completes (.scalar g) s (fun t => t.sreg g rd = (Config.freeValue s.free).toNat ∧ t.pc g = s.pc g + 1 ∧
      t = { s with regs := t.regs, free := s.free + 1 } ∧ RegsBut s t [(.SCALAR_LO, g), (.SCALAR_HI, g), (.CP_PC, g)])) ∧
  (∀ (g rd n : Nat) (s : State), s.cpReady g → s.pc g < 16383 → s.instr g = .readPrm rd n → rd < 32 →
    Completes (.readSc g) s (fun t => t.sreg g rd = (if rd = 0 then 0 else s.fld .PRM g n % 2 ^ 64) ∧ t.pc g = s.pc g + 1 ∧
      OnlyRegs s t [(.SCALAR_LO, g), (.SCALAR_HI, g), (.CP_PC, g)])) ∧
  (∀ (g rd n v : Nat) (s : State), s.cpReady g → s.pc g < 16383 → s.instr g = .readSlot rd n → rd < 32 → s.readSlotReg g n = .value v →
    Completes (.readSc g) s (fun t => t.sreg g rd = (if rd = 0 then 0 else v % 2 ^ 64) ∧ t.pc g = s.pc g + 1 ∧
      t.core g = { s.core g with slotWait := false } ∧ CpFrame s t g [(.SCALAR_LO, g), (.SCALAR_HI, g), (.CP_PC, g)])) ∧
  (∀ (g rd n : Nat) (s : State), s.cpReady g → s.instr g = .readSlot rd n → s.coreRole g = 0 → s.fld .CORE_ERROR_CODE g = 0 →
    Completes (.readSc g) s (fun t => (t.core g).cp = .error ∧ t.fld .CORE_ERROR_CODE g = E_CORE_SLOT ∧ t.pc g = s.pc g ∧ t.mem = s.mem ∧
      t.pstate (s.corePart g) = .fault)) ∧
  (∀ (g v : Nat) (s : State), s.cpReady g → s.pc g = 16383 → s.instr g = .mark v →
    Completes (.mark g) s (fun t => (t.core g).ranOut ∧ t.instr g = .undecodable ∧ t.mem = s.mem)) ∧
  (∀ (g : Nat) (s : State), s.cpReady g → s.instr g = .undecodable → s.fld .CORE_ERROR_CODE g = 0 →
    ∀ c ∈ [Instr.scalar g, .readSc g, .fetch g, .skip g, .loop g, .endloop g, .tick g, .mark g, .fin g],
      Completes c s (fun t => (t.core g).cp = .error ∧ t.fld .CORE_ERROR_CODE g = E_CORE_ILLEGAL_OP ∧ t.pc g = s.pc g ∧ t.mem = s.mem)) ∧
  (∀ (g rd h : Nat) (src : ScalarSrc) (s : State), s.cpReady g → s.pc g < 16383 → s.instr g = .fetch rd h src → rd < 32 →
    s.handleCode g h .lr (s.scalarSrc g src) 8 8 = 0 →
    (∀ o ∈ (s.core g).started.map Running.op ++ (s.core g).queue, overlap (hSpans (s.handle g h) (s.scalarSrc g src) 8) (s.spansOf g (opWrites o)) = false) →
    (∀ w ∈ hWords (s.handle g h) (s.scalarSrc g src) 8, s.badBytes g w = 0) →
    Completes (.fetch g) s (fun t => t.sreg g rd = (if rd = 0 then 0 else leNat (s.hRead g h (s.scalarSrc g src) 8)) ∧
      t.pc g = s.pc g + 1 ∧ OnlyRegs s t [(.SCALAR_LO, g), (.SCALAR_HI, g), (.CP_PC, g)])) ∧
  (∀ (g rd h : Nat) (src : ScalarSrc) (s : State), s.cpReady g → s.instr g = .fetch rd h src →
    s.handleCode g h .lr (s.scalarSrc g src) 8 8 ≠ 0 → s.fld .CORE_ERROR_CODE g = 0 →
    Completes (.fetch g) s (fun t => (t.core g).cp = .error ∧ t.fld .CORE_ERROR_CODE g = s.handleCode g h .lr (s.scalarSrc g src) 8 8 ∧
      t.pc g = s.pc g ∧ t.mem = s.mem ∧ t.pstate (s.corePart g) = .fault))

/-- The control processor's flow (03 R83, R105 to R107, Table 3.2): SKIP, LOOP and ENDLOOP, TICK, MARK and END. -/
def Obligations.CpFlow : Prop :=
  (∀ (g rs n : Nat) (c : SkipCond) (s : State), s.cpReady g → s.instr g = .skip c rs n →
    s.pc g + 1 + n < 16384 → (skipHolds c (s.sreg g rs) = false ∨ skipBeyond (s.core g) (s.pc g) (s.pc g + 1 + n) = false) →
    Completes (.skip g) s (fun t => t.pc g = (if skipHolds c (s.sreg g rs) then s.pc g + 1 + n else s.pc g + 1) ∧
      t.core g = { s.core g with trace := (t.core g).trace, traceLost := (t.core g).traceLost } ∧ CpFrame s t g [(.CP_PC, g)])) ∧
  (∀ (g rs n : Nat) (c : SkipCond) (s : State), s.cpReady g → s.instr g = .skip c rs n → skipHolds c (s.sreg g rs) →
    skipBeyond (s.core g) (s.pc g) (s.pc g + 1 + n) → s.fld .CORE_ERROR_CODE g = 0 →
    Completes (.skip g) s (fun t => (t.core g).cp = .error ∧ t.fld .CORE_ERROR_CODE g = E_CORE_SKIP_RANGE ∧ t.pc g = s.pc g ∧ t.mem = s.mem)) ∧
  (∀ (g last v : Nat) (count : Operand) (s : State), s.cpReady g → s.instr g = .loop count →
    matchEnd ((s.core g).prog.drop (s.pc g + 1)) (s.pc g + 1) 0 = some last → last < 16383 → (s.core g).loops.length < 4 →
    (isImm count ∨ (((s.core g).prog.drop (s.pc g + 1)).take (last - s.pc g)).any isTick = false) → s.operand g count = .value v →
    Completes (.loop g) s (fun t => t.pc g = (if v % 2 ^ 32 = 0 then last + 1 else s.pc g + 1) ∧
      t.core g = { s.core g with slotWait := false, trace := (t.core g).trace, traceLost := (t.core g).traceLost, loops := if v % 2 ^ 32 = 0 then (s.core g).loops else { left := v % 2 ^ 32, body := s.pc g + 1, last := last } :: (s.core g).loops } ∧
      CpFrame s t g [(.CP_PC, g)])) ∧
  (∀ (g : Nat) (l : LoopLevel) (rest : List LoopLevel) (s : State), s.cpReady g → s.instr g = .endloop → (s.core g).loops = l :: rest → s.pc g < 16383 → l.body < 16384 →
    Completes (.endloop g) s (fun t => t.pc g = (if 1 < l.left then l.body else s.pc g + 1) ∧
      t.core g = { s.core g with loops := if 1 < l.left then { l with left := l.left - 1 } :: rest else rest } ∧ CpFrame s t g [(.CP_PC, g)])) ∧
  (∀ (g last : Nat) (count : Operand) (s : State), s.cpReady g → s.instr g = .loop count →
    matchEnd ((s.core g).prog.drop (s.pc g + 1)) (s.pc g + 1) 0 = some last → 4 ≤ (s.core g).loops.length → s.fld .CORE_ERROR_CODE g = 0 →
    Completes (.loop g) s (fun t => (t.core g).cp = .error ∧ t.fld .CORE_ERROR_CODE g = E_CORE_LOOP_DEPTH ∧ t.mem = s.mem)) ∧
  (∀ (g last : Nat) (count : Operand) (s : State), s.cpReady g → s.instr g = .loop count →
    matchEnd ((s.core g).prog.drop (s.pc g + 1)) (s.pc g + 1) 0 = some last → (s.core g).loops.length < 4 → isImm count = false →
    (((s.core g).prog.drop (s.pc g + 1)).take (last - s.pc g)).any isTick → s.fld .CORE_ERROR_CODE g = 0 →
    Completes (.loop g) s (fun t => (t.core g).cp = .error ∧ t.fld .CORE_ERROR_CODE g = E_CORE_LOOP_TICK ∧ t.mem = s.mem)) ∧
  (∀ (g : Nat) (s : State), s.cpReady g → s.pc g < 16383 → s.instr g = .tick →
    Completes (.tick g) s (fun t => t.pc g = s.pc g + 1 ∧ t.core g = { s.core g with tick := (s.core g).tick + 1 } ∧
      CpFrame s t g [(.CP_PC, g)])) ∧
  (∀ (g v : Nat) (s : State), s.cpReady g → s.pc g < 16383 → s.instr g = .mark v →
    Completes (.mark g) s (fun t => t.pc g = s.pc g + 1 ∧
      t.core g = { s.core g with trace := (t.core g).trace, traceLost := (t.core g).traceLost } ∧ CpFrame s t g [(.CP_PC, g)])) ∧
  (∀ (g : Nat) (s : State), s.cpReady g → s.instr g = .fin →
    Completes (.fin g) s (fun t => t.core g = { s.core g with cp := .ended } ∧ CpFrame s t g []))

/-- Issue, start and completion (03 R86, R87, R90, R100, R108, R109; 01 R42): ISSUE puts the macro-operation, its operands resolved, at the end of
the queue and counts it; a breakpoint that matches stops the core before it and puts the partition in BREAK, and so a second core in the same cycle; a unit that is free takes
the macro-operation from the queue; a completed one leaves its unit and gives back its token, a MOVE once its data has left its source, and an error ends the stream.
A macro-operation's effect is one command: the model's choice (log entry 66). -/
def Obligations.MacroFlow : Prop :=
  (∀ (g : Nat) (m : MacroT) (s : State), (s.pstate (s.corePart g) = .running ∨ s.pstate (s.corePart g) = .stopping) → s.cpReady g →
    s.pc g < 16383 → s.instr g = .issue m → m.fam ≠ .illegal → (s.core g).issueBlocked = false → (s.core g).queue.length < 8 →
    (s.resolve g m.args).1 = .value 0 → s.breakMask g m.tag = 0 →
    Completes (.issue g) s (fun t => t.pc g = s.pc g + 1 ∧
      (t.core g).queue = (s.core g).queue ++ [{ id := s.fld64 .MACRO_COUNT_LO .MACRO_COUNT_HI g, tick := (s.core g).tick, fam := m.fam, tag := m.tag, args := (s.resolve g m.args).2 }] ∧
      t.fld64 .MACRO_COUNT_LO .MACRO_COUNT_HI g = (s.fld64 .MACRO_COUNT_LO .MACRO_COUNT_HI g + 1) % 2 ^ 64 ∧ t.mem = s.mem ∧
      (∀ h, h ≠ g → t.core h = s.core h) ∧ RegsBut s t [(.CP_PC, g), (.MACRO_COUNT_LO, g), (.MACRO_COUNT_HI, g), (.OBS_TRACE_LOST, s.corePart g)])) ∧
  (∀ (g : Nat) (m : MacroT) (s : State), (s.pstate (s.corePart g) = .running ∨ s.pstate (s.corePart g) = .stopping) → s.cpReady g →
    s.instr g = .issue m → m.fam ≠ .illegal → (s.core g).issueBlocked = false → (s.core g).queue.length < 8 →
    (s.resolve g m.args).1 = .value 0 → s.breakMask g m.tag ≠ 0 → (s.core g).resume = false →
    Completes (.issue g) s (fun t => t.pc g = s.pc g ∧ (t.core g).queue = (s.core g).queue ∧ (t.core g).fired = s.breakMask g m.tag ∧
      t.pstate (s.corePart g) = .brk ∧ (t.part (s.corePart g)).prev = s.fld .PLAN_STATUS_STATE (s.corePart g) ∧ t.mem = s.mem)) ∧
  (∀ (g : Nat) (m : MacroT) (s : State), s.pstate (s.corePart g) = .brk → (s.part (s.corePart g)).breakAt = s.raw + 1 → s.cpReady g →
    s.instr g = .issue m → m.fam ≠ .illegal → (s.core g).issueBlocked = false → (s.core g).queue.length < 8 →
    (s.resolve g m.args).1 = .value 0 → s.breakMask g m.tag ≠ 0 → (s.core g).resume = false →
    Completes (.issue g) s (fun t => t.pc g = s.pc g ∧ (t.core g).queue = (s.core g).queue ∧ (t.core g).fired = s.breakMask g m.tag ∧
      t.pstate (s.corePart g) = .brk ∧ t.parts = s.parts ∧ t.mem = s.mem)) ∧
  (∀ (g id : Nat) (o : MacroOp) (s : State), (s.core g).queue.find? (fun x => x.id = id) = some o → s.awake (g / 96) →
    s.stepping (g / 96) = false → (s.pstate (s.corePart g)).active → (s.core g).cp ≠ .error → (s.core g).unitFree o → (s.core g).tokenReady o → s.boardFree g o →
    (waitsForAll o.fam = false ∨ (s.core g).earlier id = []) →
    Completes (.macroOpStart g id) s (fun t => t = { s with cores := t.cores } ∧ (∀ h, h ≠ g → t.core h = s.core h) ∧
      t.core g = { s.core g with queue := (s.core g).queue.filter (fun x => x.id ≠ id), started := (s.core g).started ++ [{ op := o }] })) ∧
  (∀ (g id : Nat) (r : Running) (s : State), (s.core g).started.find? (fun x => x.op.id = id && x.done && s.leftSource g x) = some r → r.err = 0 →
    s.trapCode g r.flags = 0 →
    Completes (.macroOpComplete g id) s (fun t => (t.core g).started = (s.core g).started.filter (fun x => x.op.id ≠ id) ∧
      (t.core g).queue = (s.core g).queue ∧ (t.core g).cp = (s.core g).cp ∧
      (∀ e ∈ bankGet [] t.tokens (g / 96), e.2.1 = g → e.2.2 ≠ id) ∧ (t.part (s.corePart g)).noProg = 0 ∧ t.mem = s.mem ∧
      RegsBut s t ((.OBS_TRACE_LOST, s.corePart g) :: (.ARITH_FIRST_TAG_TAG, g) :: (.ARITH_FIRST_TAG_VALID, g) :: arithFlags.map (fun f => (f, g))))) ∧
  (∀ (g id : Nat) (r : Running) (s : State), (s.core g).started.find? (fun x => x.op.id = id && x.done && s.leftSource g x) = some r → r.err ≠ 0 → r.err < 2 ^ 16 →
    s.fld .CORE_ERROR_CODE g = 0 →
    Completes (.macroOpComplete g id) s (fun t => (t.core g).cp = .error ∧ t.fld .CORE_ERROR_CODE g = r.err ∧
      t.fld .CORE_ERROR_TAG g = r.op.tag % 2 ^ 16 ∧ t.mem = s.mem)) ∧
  (∀ (g id : Nat) (s : State), (∀ r ∈ (s.core g).started, r.op.id = id → s.leftSource g r = false) →
    Completes (.macroOpComplete g id) s (fun t => t = s))

/-- The units carry out a macro-operation whose family's checks and handle checks pass and whose words are good (03 R86 to R88, R92 to R101):
its record is done without an error, its core's accumulators and the ranges it writes may change, and nothing else does.
A macro-operation that fails its family's checks ends with the first code and has no other effect: limits and formats (03 R92, R95, R97,
R98; 04 R121, R122), the handle checks (05 R163), an uncorrectable word (05 R157), a token number out of range (01 R42).
A macro-operation's effect is one command, tensors are row-major: the model's choice and reading (log entries 14, 66). -/
def Obligations.UnitOutcomes : Prop :=
  (∀ (g id : Nat) (o : MacroOp) (fa fb : Fmt) (s : State), s.toRun g id .matmul = some o → arg o .token < 96 → matmulCode o = 0 → s.accessCode g o = 0 →
    cleanOp s g o → fmtArg o .fmtA = some fa → fmtArg o .fmtB = some fb →
    (arg o .cont ≠ 1 ∨ ∃ r, (s.core g).acc.regions.find? (fun r => r.base = arg o .accBase && r.m = arg o .m && r.n = arg o .n && r.cls = (pairClass fa fb).getD 1) = some r ∧
      r.kcount + arg o .k ≤ 1048576 ∧ (r.cls = 1 → ∀ i < arg o .m, ∀ j < arg o .n, (bankGet {} (s.core g).acc.entries (arg o .accBase + (i * arg o .n + j))).b =
        regionBase (refOf (s.scaleRows g (arg o .hSA) fa (arg o .m) (arg o .k)) i) (refOf (s.scaleRows g (arg o .hSB) fb (arg o .n) (arg o .k)) j))) →
    Completes (.matmul g id) s (fun t => CarriedOut s t g o)) ∧
  (∀ (g id : Nat) (o : MacroOp) (s : State), s.toRun g id .attn = some o → arg o .token < 96 → attnCode o = 0 → s.accessCode g o = 0 → cleanOp s g o →
    Completes (.attn g id) s (fun t => CarriedOut s t g o ∧ (t.core g).acc = (s.core g).acc)) ∧
  (∀ (g id : Nat) (o : MacroOp) (s : State), s.toRun g id .vec = some o → vecCode o = 0 → s.accessCode g o = 0 → cleanOp s g o →
    Completes (.vec g id) s (fun t => CarriedOut s t g o ∧ (t.core g).acc = (s.core g).acc)) ∧
  (∀ (g id : Nat) (o : MacroOp) (s : State), s.toRun g id .reduce = some o → reduceCode o = 0 → s.accessCode g o = 0 → cleanOp s g o →
    Completes (.reduce g id) s (fun t => CarriedOut s t g o ∧ (t.core g).acc = (s.core g).acc)) ∧
  (∀ (g id : Nat) (o : MacroOp) (s : State), s.toRun g id .fill = some o → s.accessCode g o = 0 → cleanOp s g o →
    Completes (.fill g id) s (fun t => CarriedOut s t g o ∧ (t.core g).acc = (s.core g).acc)) ∧
  (∀ (g id : Nat) (o : MacroOp) (s : State), s.toRun g id .copy = some o → s.accessCode g o = 0 → cleanOp s g o →
    Completes (.copy g id) s (fun t => CarriedOut s t g o ∧ (t.core g).acc = (s.core g).acc)) ∧
  (∀ (g id : Nat) (full : List HeadWait) (o : MacroOp) (s : State), s.toRun g id .move = some o → arg o .srcKind = 0 → arg o .dstKind = 0 → arg o .sigAmount % 2 ^ 16 = 0 →
    s.accessCode g o = 0 → cleanOp s g o →
    Completes (.move g id full) s (fun t => CarriedOut s t g o ∧ (t.core g).acc = (s.core g).acc)) ∧
  (∀ (g id : Nat) (o : MacroOp) (s : State), s.toRun g id .matmul = some o → arg o .token < 96 → matmulCode o ≠ 0 →
    Completes (.matmul g id) s (fun t => t = { s with cores := t.cores } ∧
      t.core g = { s.core g with started := doneRuns (s.core g).started o.id (matmulCode o) 0 })) ∧
  (∀ (g id : Nat) (o : MacroOp) (s : State), s.toRun g id .matmul = some o → 96 ≤ arg o .token →
    Completes (.matmul g id) s (fun t => t = { s with cores := t.cores } ∧
      t.core g = { s.core g with started := doneRuns (s.core g).started o.id E_PLAN_TOKEN_RANGE 0 })) ∧
  (∀ o : MacroOp, (arg o .m = 0 ∨ 256 < arg o .m ∨ 256 < arg o .n ∨ 4096 < arg o .m * arg o .n ∨ 1048576 < arg o .k ∨ 4096 < arg o .accBase + arg o .m * arg o .n) →
    matmulCode o = E_CORE_SHAPE) ∧
  (∀ (g id : Nat) (o : MacroOp) (s : State), s.toRun g id .attn = some o → arg o .token < 96 → attnCode o = 0 → s.accessCode g o ≠ 0 →
    Completes (.attn g id) s (fun t => t = { s with cores := t.cores } ∧
      t.core g = { s.core g with started := doneRuns (s.core g).started o.id (s.accessCode g o) 0 })) ∧
  (∀ (g id : Nat) (o : MacroOp) (s : State), s.toRun g id .vec = some o → vecCode o ≠ 0 →
    Completes (.vec g id) s (fun t => t = { s with cores := t.cores } ∧
      t.core g = { s.core g with started := doneRuns (s.core g).started o.id (vecCode o) 0 })) ∧
  (∀ (g id w : Nat) (ws : List Nat) (o : MacroOp) (s : State), s.toRun g id .copy = some o → s.accessCode g o = 0 → s.wordsOf g (opReads o) = w :: ws →
    3 ≤ s.badBytes g w →
    Completes (.copy g id) s (fun t => t.mem = s.mem ∧ (t.core g).started = doneRuns (s.core g).started o.id E_SPAD_UNCORRECTABLE 0 ∧
      t.fld .SPAD_UE_ADDR_ADDR g = w * 32 % 2 ^ 19 ∧ t.fld .SPAD_UE_ADDR_VALID g = 1 ∧
      RegsBut s t [(.SPAD_UE, g), (.SPAD_UE_ADDR_ADDR, g), (.SPAD_UE_ADDR_VALID, g)]))

/-- What FILL and COPY leave (03 R101): each byte of the destination range is the pattern's, or the source's as it was before.
An element-wise INT8 sum (03 R97; 04 R139, R142): each result is the exact sum of the elements, held to the largest or smallest value that
the format has.
The exact class (04 R120, R124, R125, R127): an INT8 product that opens a region leaves in each entry the exact sum of products on the
grid 2^-90; and the accumulated entry does not depend on the order in which the pairs are taken.
Tensors are row-major: the model's reading (log entry 14). -/
def Obligations.UnitResults : Prop :=
  (∀ (g id j : Nat) (o : MacroOp) (s : State), s.toRun g id .fill = some o → s.accessCode g o = 0 → cleanOp s g o →
    hMask (s.handle g (arg o .dstHandle)) ≠ 0 → hBase (s.handle g (arg o .dstHandle)) + hRows (s.handle g (arg o .dstHandle)) ≤ 1024 → j < arg o .size →
    Completes (.fill g id) s (fun t => t.spadByte g (hAddr (s.handle g (arg o .dstHandle)) (arg o .dstOff + j)) = BitVec.ofNat 8 (arg o .pattern / 256 ^ (j % 4)))) ∧
  (∀ (g id j : Nat) (o : MacroOp) (s : State), s.toRun g id .copy = some o → s.accessCode g o = 0 → cleanOp s g o →
    hMask (s.handle g (arg o .dstHandle)) ≠ 0 → hBase (s.handle g (arg o .dstHandle)) + hRows (s.handle g (arg o .dstHandle)) ≤ 1024 → j < arg o .size →
    Completes (.copy g id) s (fun t => t.spadByte g (hAddr (s.handle g (arg o .dstHandle)) (arg o .dstOff + j)) =
      s.spadByte g (hAddr (s.handle g (arg o .srcHandle)) (arg o .srcOff + j)))) ∧
  (∀ (g id j : Nat) (o : MacroOp) (s : State), s.toRun g id .vec = some o → vecCode o = 0 → s.accessCode g o = 0 → cleanOp s g o →
    arg o .vop = 0 → arg o .fmt1 = 3 → arg o .fmt2 = 3 → arg o .fmtOut = 3 → arg o .cols = 0 → arg o .bcast1 = 0 → arg o .bcast2 = 0 →
    arg o .accumulate = 0 → hMask (s.handle g (arg o .dst)) ≠ 0 → hBase (s.handle g (arg o .dst)) + hRows (s.handle g (arg o .dst)) ≤ 1024 → j < arg o .len →
    Completes (.vec g id) s (fun t => t.spadByte g (hAddr (s.handle g (arg o .dst)) j) =
      BitVec.ofInt 8 (max (-128) (min 127 (sgn 8 (s.spadByte g (hAddr (s.handle g (arg o .src1)) j)).toNat +
        sgn 8 (s.spadByte g (hAddr (s.handle g (arg o .src2)) j)).toNat))))) ∧
  (∀ (g id i j : Nat) (o : MacroOp) (s : State), s.toRun g id .matmul = some o → arg o .token < 96 → matmulCode o = 0 → s.accessCode g o = 0 →
    cleanOp s g o → arg o .fmtA = 3 → arg o .fmtB = 3 → arg o .transA = 0 → arg o .transB = 0 → arg o .cont = 0 → arg o .wb = 0 →
    i < arg o .m → j < arg o .n →
    Completes (.matmul g id) s (fun t => (bankGet {} (t.core g).acc.entries (arg o .accBase + (i * arg o .n + j))).a =
      ((List.range (arg o .k)).map (fun x => sgn 8 (s.spadByte g (hAddr (s.handle g (arg o .hA)) (i * arg o .k + x))).toNat *
        sgn 8 (s.spadByte g (hAddr (s.handle g (arg o .hB)) (x * arg o .n + j))).toNat)).sum * 2 ^ 90)) ∧
  (∀ (f : Fmt) (e : AccEntry) (a b c d : List Val), (a.zip b).Perm (c.zip d) → accumulateDot 1 f e a b = accumulateDot 1 f e c d)

/-- MOVE and SAMPLE that leave the core (03 R99, R100; 05 R167, R181; 06 R196; 07 R233; 09 R303; 11 R353): every packet of the transfer is sent, in
order, and a transfer whose data or acknowledgements are to come is kept; one whose injection waits is done again later and shows the level it
waits at.
How a transfer is cut into packets, and what waits to be sent, is the model's choice (log entries 22, 78). -/
def Obligations.MoveSends : Prop :=
  (∀ (g id : Nat) (o : MacroOp) (s : State), s.toRun g id .move = some o → arg o .srcKind = 0 → 1 ≤ arg o .dstKind → arg o .dstKind ≤ 3 →
    s.accessCode g o = 0 → cleanOp s g o → s.moveDstCode g o = 0 →
    let ks := s.writePkts g (s.core g).nextXfer o.tick o.args 0 (s.hRead g (arg o .srcHandle) (arg o .srcOff) (arg o .size)) true
    s.sendCode (s.corePart g) ks = 0 → ks.any (s.mustHold (s.corePart g)) = false →
    Completes (.move g id []) s (fun t => t.outs = (s.sendAll (s.corePart g) ks).outs ∧ t.flight = (s.sendAll (s.corePart g) ks).flight ∧
      t.mem = s.mem ∧ t.regs = s.regs ∧
      (t.core g).started = doneRuns (s.core g).started o.id 0 0 ∧ (∀ h, h ≠ g → t.core h = s.core h) ∧
      (t.core g).xfers = (s.core g).xfers ++ (if ackCount (arg o .dstKind) ks = 0 then [] else
        [{ id := (s.core g).nextXfer, left := 0, acks := ackCount (arg o .dstKind) ks, args := o.args, tag := o.tag }]))) ∧
  (∀ (g id : Nat) (o : MacroOp) (s : State), s.toRun g id .move = some o → 1 ≤ arg o .srcKind → arg o .srcKind ≤ 4 → arg o .dstKind ≤ 3 →
    s.accessCode g o = 0 → cleanOp s g o → s.moveSrcCode g o = 0 → s.moveDstCode g o = 0 → s.sendCode (s.corePart g) (s.readPkts g (s.core g).nextXfer o) = 0 →
    (s.readPkts g (s.core g).nextXfer o).any (s.mustHold (s.corePart g)) = false →
    Completes (.move g id []) s (fun t => t.outs = (s.sendAll (s.corePart g) (s.readPkts g (s.core g).nextXfer o)).outs ∧
      t.flight = (s.sendAll (s.corePart g) (s.readPkts g (s.core g).nextXfer o)).flight ∧ t.mem = s.mem ∧ t.regs = s.regs ∧
      (t.core g).started = (s.core g).started.map (fun r => if r.op.id = o.id then { r with done := true, level := 0, err := 0, flags := 0, xfer := some (s.core g).nextXfer } else r) ∧
      (∀ h, h ≠ g → t.core h = s.core h) ∧
      (t.core g).xfers = (s.core g).xfers ++ [{ id := (s.core g).nextXfer, left := (s.readPkts g (s.core g).nextXfer o).length, args := o.args, tag := o.tag }])) ∧
  (∀ (g id : Nat) (o : MacroOp) (w : HeadWait) (full : List HeadWait) (s : State), s.toRun g id .move = some o → arg o .srcKind = 0 → 1 ≤ arg o .dstKind →
    arg o .dstKind ≤ 3 → s.accessCode g o = 0 → cleanOp s g o → s.moveDstCode g o = 0 →
    let ks := s.writePkts g (s.core g).nextXfer o.tick o.args 0 (s.hRead g (arg o .srcHandle) (arg o .srcOff) (arg o .size)) true
    s.sendCode (s.corePart g) ks = 0 → ks.any (s.mustHold (s.corePart g)) = false →
    Completes (.move g id (w :: full)) s (fun t => t = { s with cores := t.cores } ∧ (∀ h, h ≠ g → t.core h = s.core h) ∧
      t.core g = { s.core g with started := (s.core g).started.map (fun r => if r.op.id = o.id then { r with level := bpLevel (w :: full) } else r) })) ∧
  (∀ (g id : Nat) (o : MacroOp) (f : Fmt) (s : State), s.toRun g id .sample = some o → s.sampleCode g o = 0 → s.accessCode g o = 0 → cleanOp s g o →
    fmtArg o .fmt1 = some f → s.sendCode (s.corePart g) (s.samplePkts g o f) = 0 → (s.samplePkts g o f).any (s.mustHold (s.corePart g)) = false →
    Completes (.sample g id []) s (fun t => t.outs = (s.sendAll (s.corePart g) (s.samplePkts g o f)).outs ∧ t.mem = s.mem ∧ t.regs = s.regs ∧
      (t.srv (s.corePart g)).rowsDue = (s.srv (s.corePart g)).rowsDue + arg o .rows ∧
      (t.core g).started = doneRuns (s.core g).started o.id 0 0 ∧ ∀ h, h ≠ g → t.core h = s.core h)) ∧
  (∀ (g id : Nat) (o : MacroOp) (full : List HeadWait) (s : State), s.toRun g id .sample = some o → (s.sampleCode g o ≠ 0 ∨ s.accessCode g o ≠ 0) →
    Completes (.sample g id full) s (fun t => t = { s with cores := t.cores } ∧ (∀ h, h ≠ g → t.core h = s.core h) ∧
      t.core g = { s.core g with started := doneRuns (s.core g).started o.id (if s.sampleCode g o ≠ 0 then s.sampleCode g o else s.accessCode g o) 0 })) ∧
  (∀ (k : Pkt) (p : Nat) (s : State), s.offDevice p k = false → (s.inject p k).outs = s.outs ++ [.packet { k with part := p }])

/-- GIVE, TAKE and WAIT (06 R188, R194, R195, R200, Table 6.2): a GIVE to the own core raises GIVEN, one to a window sends a packet; a TAKE
that is covered raises TAKEN, a WAIT leaves it; one that is not covered blocks until it is, or, a TAKE that may not wait, underflows. What a TAKE or WAIT sees of a
counter is its value at the start of its cycle, and a give that follows one refused in its cycle is refused too.
A GIVE's amount has 16 bits, and events of one cycle are commands in the source order of R200: the model's readings (log entries 19, 27). -/
def Obligations.SyncOps : Prop :=
  (∀ (g id n : Nat) (tied : Bool) (o : MacroOp) (s : State), s.toRun g id .give = some o → arg o .amount = n → 0 < n → n < 2 ^ 16 → arg o .remote = 0 →
    s.bound g (opCounter o) ≠ 0 → (s.inCycle tied).giveOverflows g (opCounter o) n = false →
    Completes (.give g id [] tied) s (fun t => t.fld .SYNC_GIVEN g (opCounter o) = (s.fld .SYNC_GIVEN g (opCounter o) + n) % 2 ^ 32 ∧
      (∀ c < 256, c ≠ opCounter o → t.fld .SYNC_GIVEN g c = s.fld .SYNC_GIVEN g c) ∧ RegsBut s t [(.SYNC_GIVEN, g)] ∧ t.mem = s.mem ∧ t.outs = s.outs ∧
      (t.core g).started = doneRuns (s.core g).started o.id 0 0 ∧ (t.part (s.corePart g)).noProg = 0)) ∧
  (∀ (g id n : Nat) (tied : Bool) (o : MacroOp) (s : State), s.toRun g id .give = some o → arg o .amount = n → 0 < n → n < 2 ^ 16 → arg o .remote = 0 →
    s.bound g (opCounter o) ≠ 0 → (s.inCycle tied).giveOverflows g (opCounter o) n → s.dropMarked (s.corePart g) (opCounter o) = false → s.flag .SYNC_ERR_INFO_VALID g = false →
    Completes (.give g id [] tied) s (fun t => (t.core g).started = doneRuns (s.core g).started o.id E_SYNC_OVERFLOW 0 ∧
      t.fld .SYNC_ERR_INFO_COUNTER g = opCounter o ∧ t.fld .SYNC_ERR_INFO_VALID g = 1 ∧ ∀ c, t.fld .SYNC_GIVEN g c = s.fld .SYNC_GIVEN g c)) ∧
  (∀ (g id n : Nat) (o : MacroOp) (take tied : Bool) (s : State), s.toRun g id (if take then .take else .wait) = some o → arg o .amount = n → 0 < n →
    n ≤ s.bound g (opCounter o) → n ≤ (s.inCycle tied).takeable g (opCounter o) →
    Completes (if take then .take g id tied else .wait g id tied) s (fun t =>
      t.fld .SYNC_TAKEN g (opCounter o) = (if take then (s.fld .SYNC_TAKEN g (opCounter o) + n) % 2 ^ 32 else s.fld .SYNC_TAKEN g (opCounter o)) ∧
      RegsBut s t [(.SYNC_TAKEN, g)] ∧ t.mem = s.mem ∧ t.outs = s.outs ∧ (t.core g).started = doneRuns (s.core g).started o.id 0 0)) ∧
  (∀ (g id n : Nat) (o : MacroOp) (take tied : Bool) (s : State), s.toRun g id (if take then .take else .wait) = some o → arg o .amount = n → 0 < n →
    n ≤ s.bound g (opCounter o) → (s.inCycle tied).takeable g (opCounter o) < n → (take = false ∨ arg o .waitFlag = 1) →
    Completes (if take then .take g id tied else .wait g id tied) s (fun t =>
      (t.core g).started = (s.core g).started.map (fun r => if r.op.id = id then { r with blocked := true } else r) ∧
      t.mem = s.mem ∧ t.outs = s.outs ∧ RegsBut s t [(.OBS_TRACE_LOST, s.corePart g)])) ∧
  (∀ (g id n : Nat) (tied : Bool) (o : MacroOp) (s : State), s.toRun g id .take = some o → arg o .amount = n → 0 < n → n ≤ s.bound g (opCounter o) →
    (s.inCycle tied).takeable g (opCounter o) < n → arg o .waitFlag = 0 →
    Completes (.take g id tied) s (fun t => (t.core g).started = doneRuns (s.core g).started o.id E_SYNC_UNDERFLOW 0 ∧
      t.fld .SYNC_TAKEN g (opCounter o) = s.fld .SYNC_TAKEN g (opCounter o) ∧ t.mem = s.mem)) ∧
  (∀ (g : Nat) (tied : Bool) (r : Running) (s : State), (s.core g).started.find? (fun r => r.blocked && !r.done && (r.op.fam = .take || r.op.fam = .wait)) = some r →
    arg r.op .amount ≤ (s.inCycle tied).takeable g (opCounter r.op) →
    Completes (.takeSatisfied g tied) s (fun t => t.mem = s.mem ∧ t.outs = s.outs ∧ RegsBut s t [(.SYNC_TAKEN, g)] ∧
      t.fld .SYNC_TAKEN g (opCounter r.op) = (if r.op.fam = .take then (s.fld .SYNC_TAKEN g (opCounter r.op) + arg r.op .amount) % 2 ^ 32 else s.fld .SYNC_TAKEN g (opCounter r.op)) ∧
      (t.core g).started = (s.core g).started.map (fun x => if x.op.id = r.op.id then { x with blocked := false, done := true } else x)))

/-- BARRIER (06 R204 to R206): the arrival of a member core is counted, and a core that asked to wait blocks until the round is reached; an
arrival beyond the next round stalls.
Barrier rounds (06 R206 to R208): the home counts an arrival for the round in progress or the next, and drops any other; the one that fills the
tally completes the round; an arrival that does not belong here is dropped and counted. A release of the round after BAR_ROUND raises it, any
other is dropped; a release or arrival at an IDLE partition is dropped.
The node of barrier packets is the model's reading (log entry 28), that they wait in one queue its choice (log entry 78). -/
def Obligations.Barriers : Prop :=
  (∀ (g id i n : Nat) (o : MacroOp) (s : State), s.toRun g id .barrier = some o → arg o .index = i → i < 32 → s.bit .BARRIER_MEMBER i g → s.outbox = [] →
    (s.fld .BAR_ARRIVED g i + 1) % 2 ^ 32 = n → (s.fld .BAR_ROUND (s.corePart g * 32 + i) + 1) % 2 ^ 32 = n →
    (s.fld .BAR_LOCAL_CUR (s.corePart g * 32 + i) + 1) % 2 ^ 13 ≠ s.localCount (s.corePart g) i →
    s.barFull (s.corePart g) i = false →
    Completes (.barrier g id) s (fun t => t.fld .BAR_ARRIVED g i = n ∧
      t.fld .BAR_LOCAL_CUR (s.corePart g * 32 + i) = (s.fld .BAR_LOCAL_CUR (s.corePart g * 32 + i) + 1) % 2 ^ 13 ∧
      t.fld .BAR_ROUND (s.corePart g * 32 + i) = s.fld .BAR_ROUND (s.corePart g * 32 + i) ∧ t.outs = s.outs ∧ t.mem = s.mem ∧
      RegsBut s t [(.BAR_ARRIVED, g), (.BAR_LOCAL_CUR, s.corePart g * 32 + i)] ∧
      (arg o .waitFlag = 1 → (t.core g).barrier = some (i, n, false) ∧
        (t.core g).started = (s.core g).started.map (fun r => if r.op.id = id then { r with blocked := true } else r)) ∧
      (arg o .waitFlag ≠ 1 → (t.core g).barrier = (s.core g).barrier ∧ (t.core g).started = doneRuns (s.core g).started o.id 0 0))) ∧
  (∀ (g id i n : Nat) (o : MacroOp) (s : State), s.toRun g id .barrier = some o → arg o .index = i → i < 32 → s.bit .BARRIER_MEMBER i g → s.outbox = [] →
    (s.fld .BAR_ARRIVED g i + 1) % 2 ^ 32 = n → (s.fld .BAR_ROUND (s.corePart g * 32 + i) + 1) % 2 ^ 32 = n →
    (s.fld .BAR_LOCAL_CUR (s.corePart g * 32 + i) + 1) % 2 ^ 13 = s.localCount (s.corePart g) i → s.runSlot (s.corePart g) = none →
    Completes (.barrier g id) s (fun t => t.fld .BAR_ARRIVED g i = n ∧ t.fld .BAR_LOCAL_CUR (s.corePart g * 32 + i) = s.localCount (s.corePart g) i ∧
      t.outs = s.outs ∧ t.mem = s.mem ∧ RegsBut s t [(.BAR_ARRIVED, g), (.BAR_LOCAL_CUR, s.corePart g * 32 + i)])) ∧
  (∀ (g id i n : Nat) (o : MacroOp) (s : State), s.toRun g id .barrier = some o → arg o .index = i → i < 32 → s.bit .BARRIER_MEMBER i g →
    (s.fld .BAR_ARRIVED g i + 1) % 2 ^ 32 = n → n ≠ (s.fld .BAR_ROUND (s.corePart g * 32 + i) + 1) % 2 ^ 32 →
    n ≠ (s.fld .BAR_ROUND (s.corePart g * 32 + i) + 2) % 2 ^ 32 →
    Completes (.barrier g id) s (fun t => t = { s with cores := t.cores } ∧ (t.core g).barrier = some (i, n, true) ∧
      (t.core g).started = (s.core g).started.map (fun r => if r.op.id = id then { r with blocked := true } else r))) ∧
  (∀ (g id : Nat) (o : MacroOp) (s : State), s.toRun g id .barrier = some o → s.outbox = [] →
    Completes (.barrier g id) s (fun t => ∃ r ∈ (t.core g).started, r.op = o ∧ (r.done ∨ r.blocked))) ∧
  (∀ (g id i : Nat) (o : MacroOp) (s : State), s.toRun g id .barrier = some o → arg o .index = i → i < 32 → s.bit .BARRIER_MEMBER i g = false →
    Completes (.barrier g id) s (fun t => (t.core g).started = doneRuns (s.core g).started o.id E_SYNC_UNDECLARED 0 ∧ t.mem = s.mem ∧ t.outs = s.outs)) ∧
  (∀ (k : Pkt) (p : Nat) (s : State), s.lands k → s.outbox = [] → s.tagPart k.tag = some p → s.pstate p ≠ .idle → s.barHome p k.barrier →
    s.fld .BAR_RANKS_RANK_LO (p * 32 + k.barrier) ≤ k.srcRank → k.srcRank ≤ s.fld .BAR_RANKS_RANK_HI (p * 32 + k.barrier) →
    k.round = (s.fld .BAR_ROUND (p * 32 + k.barrier) + 1) % 2 ^ 32 → (s.fld .BAR_HOME_CUR (p * 32 + k.barrier) + 1) % 2 ^ 17 ≠ s.barSize p k.barrier →
    Completes (.barArriveReceive k) s (fun t => t.fld .BAR_HOME_CUR (p * 32 + k.barrier) = (s.fld .BAR_HOME_CUR (p * 32 + k.barrier) + 1) % 2 ^ 17 ∧
      t.fld .BAR_ROUND (p * 32 + k.barrier) = s.fld .BAR_ROUND (p * 32 + k.barrier) ∧ t.mem = s.mem ∧ t.cores = s.cores ∧ t.outs = s.outs ∧
      RegsBut s t [(.BAR_HOME_CUR, p * 32 + k.barrier)])) ∧
  (∀ (k : Pkt) (p : Nat) (s : State), s.lands k → s.outbox = [] → s.tagPart k.tag = some p → s.pstate p ≠ .idle → s.barHome p k.barrier →
    s.fld .BAR_RANKS_RANK_LO (p * 32 + k.barrier) ≤ k.srcRank → k.srcRank ≤ s.fld .BAR_RANKS_RANK_HI (p * 32 + k.barrier) →
    k.round = (s.fld .BAR_ROUND (p * 32 + k.barrier) + 1) % 2 ^ 32 → (s.fld .BAR_HOME_CUR (p * 32 + k.barrier) + 1) % 2 ^ 17 = s.barSize p k.barrier →
    (k.member ∨ (bankGet 0 s.barFlags (p * 32 + k.barrier)).testBit 0) →
    Completes (.barArriveReceive k) s (fun t => (t.fld .BAR_ROUND (p * 32 + k.barrier) = k.round ∨ t.fld .BAR_ROUND (p * 32 + k.barrier) = (k.round + 1) % 2 ^ 32) ∧
      t.mem = s.mem)) ∧
  (∀ (k : Pkt) (p : Nat) (s : State), s.lands k → s.outbox = [] → s.tagPart k.tag = some p → s.pstate p ≠ .idle → s.barHome p k.barrier →
    s.fld .BAR_RANKS_RANK_LO (p * 32 + k.barrier) ≤ k.srcRank → k.srcRank ≤ s.fld .BAR_RANKS_RANK_HI (p * 32 + k.barrier) →
    k.round = (s.fld .BAR_ROUND (p * 32 + k.barrier) + 2) % 2 ^ 32 → s.barFull p k.barrier = false →
    Completes (.barArriveReceive k) s (fun t => t.fld .BAR_HOME_NEXT (p * 32 + k.barrier) = (s.fld .BAR_HOME_NEXT (p * 32 + k.barrier) + 1) % 2 ^ 17 ∧
      t.mem = s.mem ∧ t.cores = s.cores ∧ t.outs = s.outs ∧ RegsBut s t [(.BAR_HOME_NEXT, p * 32 + k.barrier)])) ∧
  (∀ (k : Pkt) (p : Nat) (s : State), s.lands k → s.tagPart k.tag = some p → s.pstate p ≠ .idle → (s.pstate p).active = false →
    (s.barHome p k.barrier = false ∨ k.srcRank < s.fld .BAR_RANKS_RANK_LO (p * 32 + k.barrier) ∨ s.fld .BAR_RANKS_RANK_HI (p * 32 + k.barrier) < k.srcRank) →
    Completes (.barArriveReceive k) s (fun t => t.fld .BAR_DROP (p * 32 + k.barrier) = (s.fld .BAR_DROP (p * 32 + k.barrier) + 1) % 2 ^ 32 ∧
      t.mem = s.mem ∧ t.cores = s.cores ∧ t.outs = s.outs ∧ RegsBut s t [(.BAR_DROP, p * 32 + k.barrier)])) ∧
  (∀ (k : Pkt) (p : Nat) (s : State), s.lands k → s.tagPart k.tag = some p → s.pstate p = .idle →
    ∀ c ∈ [Instr.barArriveReceive k, .barReleaseReceive k], Completes c s (fun t => t.mem = s.mem ∧ t.cores = s.cores ∧ t.outs = s.outs ∧
      t.fld .BAR_DROP (p * 32 + k.barrier) = (s.fld .BAR_DROP (p * 32 + k.barrier) + 1) % 2 ^ 32 ∧ RegsBut s t [(.BAR_DROP, p * 32 + k.barrier)])) ∧
  (∀ (k : Pkt) (p : Nat) (s : State), s.lands k → s.outbox = [] → s.tagPart k.tag = some p → s.pstate p ≠ .idle →
    k.round = (s.fld .BAR_ROUND (p * 32 + k.barrier) + 1) % 2 ^ 32 →
    Completes (.barReleaseReceive k) s (fun t => t.fld .BAR_ROUND (p * 32 + k.barrier) = k.round ∧ t.mem = s.mem)) ∧
  (∀ (k : Pkt) (p : Nat) (s : State), s.lands k → s.outbox = [] → s.tagPart k.tag = some p → s.pstate p ≠ .idle →
    k.round = (s.fld .BAR_ROUND (p * 32 + k.barrier) + 1) % 2 ^ 32 → s.partCores p = [] → s.localCount p k.barrier ≠ 0 →
    Completes (.barReleaseReceive k) s (fun t => t.fld .BAR_ROUND (p * 32 + k.barrier) = k.round ∧
      t.fld .BAR_LOCAL_CUR (p * 32 + k.barrier) = s.fld .BAR_LOCAL_NEXT (p * 32 + k.barrier) % 2 ^ 13 ∧ t.fld .BAR_LOCAL_NEXT (p * 32 + k.barrier) = 0 ∧
      t.mem = s.mem ∧ t.cores = s.cores ∧ t.outs = s.outs)) ∧
  (∀ (k : Pkt) (p : Nat) (s : State), s.lands k → s.tagPart k.tag = some p →
    k.round ≠ (s.fld .BAR_ROUND (p * 32 + k.barrier) + 1) % 2 ^ 32 →
    Completes (.barReleaseReceive k) s (fun t => t.fld .BAR_ROUND (p * 32 + k.barrier) = s.fld .BAR_ROUND (p * 32 + k.barrier) ∧
      t.fld .BAR_DROP (p * 32 + k.barrier) = (s.fld .BAR_DROP (p * 32 + k.barrier) + 1) % 2 ^ 32 ∧ t.cores = s.cores ∧ t.mem = s.mem))

/-- Registers of a core (03 R103, R111; 04 R145): the host writes PRM and ARITH_TRAP where the partition may be patched, is refused with
PATCH_REJECT elsewhere, and writes the breakpoint registers where tenant debug is open to it.
Side reads (05 R157, R172 to R174, Table 5.6): SPAD_RECOVERY takes only partitions that are STOPPED or in FAULT with tenant debug open; a side read
that is permitted and fits begins and writes the elements, row by row, to host memory; one that is not ends with E_SPAD_SIDE_DENIED. -/
def Obligations.CoreRegistersAndSideReads : Prop :=
  (∀ (party : Party) (g n v : Nat) (s : State), party ≠ .mgmt → s.patchable (s.corePart g) → n < 64 → v < 2 ^ 32 →
    Completes (.prmWrite party g n v) s (fun t => t.fld .PRM g n = v ∧ (∀ m < 64, m ≠ n → t.fld .PRM g m = s.fld .PRM g m) ∧ OnlyRegs s t [(.PRM, g)])) ∧
  (∀ (party : Party) (g n v : Nat) (s : State), party ≠ .mgmt → s.patchable (s.corePart g) = false →
    Completes (.prmWrite party g n v) s (fun t => t.fld .CORE_STATUS_PATCH_REJECT g = 1 ∧ OnlyRegs s t [(.CORE_STATUS_PATCH_REJECT, g)])) ∧
  (∀ (g n v : Nat) (s : State), ∀ c ∈ [Instr.prmWrite .mgmt g n v, .arithTrapWrite .mgmt g v, .brkRegWrite .mgmt g n v],
    Completes c s (fun t => t = s)) ∧
  (∀ (party : Party) (g v : Nat) (s : State), party ≠ .mgmt → s.patchable (s.corePart g) → v < 512 →
    Completes (.arithTrapWrite party g v) s (fun t => t.fld .ARITH_TRAP g = v ∧ OnlyRegs s t [(.ARITH_TRAP, g)])) ∧
  (∀ (party : Party) (g v : Nat) (s : State), party ≠ .mgmt → s.debugOpen (s.corePart g) party → v < 2 ^ 32 →
    Completes (.brkRegWrite party g 1 v) s (fun t => t.fld .BRK_TAG_VALUE g = v % 2 ^ 16 ∧ t.fld .BRK_TAG_MASK g = v / 2 ^ 16 ∧
      OnlyRegs s t [(.BRK_TAG_VALUE, g), (.BRK_TAG_MASK, g)])) ∧
  (∀ (party : Party) (g which v : Nat) (s : State), party ≠ .mgmt → s.debugOpen (s.corePart g) party = false →
    Completes (.brkRegWrite party g which v) s (fun t => t.fld .BRK_STATUS_DENIED g = 1 ∧ OnlyRegs s t [(.BRK_STATUS_DENIED, g)])) ∧
  (∀ (v : Nat) (s : State), v < 2 ^ 16 →
    Completes (.spadRecoveryWrite v) s (fun t => (∀ p < 16, t.bit .SPAD_RECOVERY p = (v.testBit p && (s.pstate p = .stopped || s.pstate p = .fault) && s.flag .SEC_PART_DEBUG p)) ∧
      OnlyRegs s t [(.SPAD_RECOVERY, 0)])) ∧
  (∀ (by_ : SideBy) (v : Nat) (s : State), by_ ≠ .mgmt → s.flag .SIDE_STATUS_BUSY = false → s.sideAllowed by_ (s.corePart (s.fld .SIDE_SRC_CORE)) = false →
    Completes (.sideReadGo by_ v) s (fun t => t.fld .SIDE_STATUS_CODE = E_SPAD_SIDE_DENIED ∧ t.fld .SIDE_STATUS_DONE = 1 ∧ t.flag .SIDE_STATUS_BUSY = false ∧ t = { s with regs := t.regs, side := none } ∧
      RegsBut s t [(.SIDE_CTRL_TRANSPOSE, 0), (.SIDE_CTRL_ESIZE, 0), (.SIDE_STATUS_BUSY, 0), (.SIDE_STATUS_DONE, 0), (.SIDE_STATUS_CODE, 0)])) ∧
  (∀ (by_ : SideBy) (v : Nat) (s : State), by_ ≠ .mgmt → s.flag .SIDE_STATUS_BUSY = false → s.sideAllowed by_ (s.corePart (s.fld .SIDE_SRC_CORE)) →
    let u := (s.setFld .SIDE_CTRL_TRANSPOSE (v / 2)).setFld .SIDE_CTRL_ESIZE (v / 4)
    u.sideShapeBad = false → s.handleCode (s.fld .SIDE_SRC_CORE) (s.fld .SIDE_SRC_HANDLE) .lr (s.fld .SIDE_OFFSET) u.sideLen 1 = 0 →
    Completes (.sideReadGo by_ v) s (fun t => t.fld .SIDE_STATUS_BUSY = 1 ∧ t.fld .SIDE_STATUS_CODE = 0 ∧
      t.side = some (u.sideJob by_) ∧ t = { s with regs := t.regs, side := t.side } ∧ RegsBut s t [(.SIDE_CTRL_TRANSPOSE, 0), (.SIDE_CTRL_ESIZE, 0), (.SIDE_STATUS_BUSY, 0), (.SIDE_STATUS_CODE, 0)])) ∧
  (∀ (j : SideJob) (s : State), s.side = some j → j.transpose = false → (∀ w ∈ j.words, s.badBytes j.core w = 0) →
    Completes .sideReadDone s (fun t => t.fld .SIDE_STATUS_BUSY = 0 ∧ t.fld .SIDE_STATUS_DONE = 1 ∧ t.fld .SIDE_STATUS_CODE = 0 ∧
      t = { s with regs := t.regs, outs := t.outs, side := none } ∧ RegsBut s t [(.SIDE_STATUS_BUSY, 0), (.SIDE_STATUS_DONE, 0), (.SIDE_STATUS_CODE, 0)] ∧
      t.outs = s.outs ++ [.hostWrite j.dst ((List.range j.rows).flatMap (fun i => (List.range j.cols).flatMap (fun c =>
        (List.range j.esize).map (fun b => s.spadByte j.core (hAddr j.entry (j.off + i * j.stride + c * j.esize + b)))))) (s.partTee (s.corePart j.core))])) ∧
  (∀ (j : SideJob) (w : Nat) (ws : List Nat) (s : State), s.side = some j → j.words = w :: ws → 3 ≤ s.badBytes j.core w →
    Completes .sideReadDone s (fun t => t.fld .SIDE_STATUS_BUSY = 0 ∧ t.fld .SIDE_STATUS_DONE = 1 ∧ t.fld .SIDE_STATUS_CODE = E_SPAD_UNCORRECTABLE ∧
      t.outs = s.outs ∧ t.mem = s.mem ∧ t.fld .SPAD_UE_ADDR_ADDR j.core = w * 32 % 2 ^ 19))

/-- Scrubbing and writing back (05 R155, R158, R180): the scrubber reads the next row of a bank; a correctable word is counted and waits for
its correction, an uncorrectable one is counted with its address; a write-back makes the word good. The scrubber pauses
while a side read uses its bank's port. The pool's scrubber corrects at once.
The partition clear (05 R182, R183, Table 5.7): a request of an IDLE partition begins it, one of a partition that is not IDLE is refused; when
it is done every byte of the partition's banks and pool groups is zero and every other byte is as it was. -/
def Obligations.ScrubbingAndClear : Prop :=
  (∀ (g b found : Nat) (s : State), b < 16 → s.sideUses g b = false →
    let w := b * 1024 + bankGet 0 (s.core g).scrub b
    let n := max (s.badBytes g w) found
    Completes (.spadScrubRead g b found) s (fun t => bankGet 0 (t.core g).scrub b = (bankGet 0 (s.core g).scrub b + 1) % 1024 ∧ t.badBytes g w = n ∧
      (n = 0 → t.regs = s.regs ∧ (t.core g).corrections = (s.core g).corrections) ∧
      (1 ≤ n → n ≤ 2 → t.fld .SPAD_CE g = (s.fld .SPAD_CE g + 1) % 2 ^ 32 ∧ w ∈ (t.core g).corrections ∧ RegsBut s t [(.SPAD_CE, g)]) ∧
      (3 ≤ n → t.fld .SPAD_UE g = (s.fld .SPAD_UE g + 1) % 2 ^ 32 ∧ t.fld .SPAD_UE_ADDR_ADDR g = w * 32 % 2 ^ 19 ∧ t.fld .SPAD_UE_ADDR_VALID g = 1) ∧
      t = { s with regs := t.regs, cores := t.cores } ∧ ∀ h, h ≠ g → t.core h = s.core h)) ∧
  (∀ (g b found : Nat) (s : State), b < 16 → s.sideUses g b → Completes (.spadScrubRead g b found) s (fun t => t = s)) ∧
  (∀ (g w : Nat) (s : State), w ∈ (s.core g).corrections →
    Completes (.spadCorrectionWriteback g w) s (fun t => t.badBytes g w = 0 ∧ w ∉ (t.core g).corrections ∧ t = { s with cores := t.cores } ∧
      (∀ h, h ≠ g → t.core h = s.core h) ∧ ∀ x, x ≠ w → t.badBytes g x = s.badBytes g x)) ∧
  (∀ (w found : Nat) (s : State), s.flag .POOL_SCRUB → max (bankGet 0 s.poolBad w) found ≤ 2 → 1 ≤ max (bankGet 0 s.poolBad w) found →
    Completes (.poolScrubRead w found) s (fun t => bankGet 0 t.poolBad w = 0 ∧
      t.fld .POOL_CE 0 (w / 1572864 / 16) = (s.fld .POOL_CE 0 (w / 1572864 / 16) + 1) % 2 ^ 32 ∧ t = { s with regs := t.regs, poolBad := t.poolBad } ∧
      RegsBut s t [(.POOL_CE, 0)])) ∧
  (∀ (w found : Nat) (s : State), s.flag .POOL_SCRUB → 3 ≤ max (bankGet 0 s.poolBad w) found →
    Completes (.poolScrubRead w found) s (fun t => t.fld .POOL_UE 0 (w / 1572864 / 16) = (s.fld .POOL_UE 0 (w / 1572864 / 16) + 1) % 2 ^ 32 ∧
      t = { s with regs := t.regs, poolBad := t.poolBad } ∧ RegsBut s t [(.POOL_UE, 0)])) ∧
  (∀ (p : Nat) (s : State), p < 16 → s.clearing p = false → s.pstate p = .idle → s.fld .ARM_STATUS_STATE ≠ armApplying →
    Completes (.partitionClearStart (2 ^ p)) s (fun t => t.clearing p ∧ t.mem = s.mem ∧ t.cores = s.cores)) ∧
  (∀ (p : Nat) (s : State), p < 16 → s.clearing p = false → s.pstate p ≠ .idle →
    Completes (.partitionClearStart (2 ^ p)) s (fun t => t.bit .SPAD_CLEAR_ERROR p ∧ OnlyRegs s t [(.SPAD_CLEAR_ERROR, 0)])) ∧
  (∀ (p : Nat) (s : State), p < 16 → s.clearing p →
    Completes (.partitionClearDone p) s (fun t => t.clearing p = false ∧ t.bit .SPAD_CLEAR_STATUS_DONE p ∧
      (∀ g a, a < 524288 → t.spadByte g a = if s.corePart g = p then 0 else s.spadByte g a) ∧
      (∀ a, bankGet 0 t.mem.pool a = if s.ownsGroup p (a / 50331648) then 0 else bankGet 0 s.mem.pool a) ∧
      t.mem = { s.mem with spad := t.mem.spad, pool := t.mem.pool } ∧
      (∀ g, s.corePart g = p → ∀ h, t.handle g h = 0 ∧ t.window g h = 0 ∧ t.decl g h = 0 ∧ t.fld .SYNC_GIVEN g h = 0)))

/-- Handle, window and declaration entries (05 R161, R162, R166; 06 R192): a write of the high half by the host commits the entry that the index
names where the partition may be patched and the value is allowed; a value that is refused leaves it and sets REJECT with the code.
Log entry 25 on who is refused. -/
def Obligations.EntryCommits : Prop :=
  (∀ (party : Party) (g hi v : Nat) (s : State), party ≠ .mgmt → s.patchable (s.corePart g) →
    (s.commitPair party (coreAddr g 0x404) (s.handle g (s.fld .HANDLE_INDEX_INDEX g) % 2 ^ 32) hi).1 = v →
    s.handleRefused (s.corePart g) (s.fld .HANDLE_INDEX_INDEX g) v = false →
    Completes (.handleEntryCommit party g hi) s (fun t => t.handle g (s.fld .HANDLE_INDEX_INDEX g) = v ∧
      (∀ j, j ≠ s.fld .HANDLE_INDEX_INDEX g → t.handle g j = s.handle g j) ∧ t = { s with regs := t.regs, cores := t.cores, held := t.held } ∧
      (∀ h, h ≠ g → t.core h = s.core h) ∧ RegsBut s t [(.HANDLE_INDEX_INDEX, g)])) ∧
  (∀ (party : Party) (g hi v : Nat) (s : State), party ≠ .mgmt → s.patchable (s.corePart g) →
    (s.commitPair party (coreAddr g 0x404) (s.handle g (s.fld .HANDLE_INDEX_INDEX g) % 2 ^ 32) hi).1 = v →
    s.handleRefused (s.corePart g) (s.fld .HANDLE_INDEX_INDEX g) v →
    Completes (.handleEntryCommit party g hi) s (fun t => t.fld .SPAD_CFG_STATUS_REJECT g = 1 ∧ t.fld .SPAD_CFG_STATUS_CODE g = E_SPAD_HANDLE_INVALID ∧
      t = { s with regs := t.regs, held := t.held } ∧ RegsBut s t [(.SPAD_CFG_STATUS_REJECT, g), (.SPAD_CFG_STATUS_CODE, g)])) ∧
  (∀ (party : Party) (g hi v : Nat) (s : State), party ≠ .mgmt → s.patchable (s.corePart g) →
    (s.commitPair party (coreAddr g 0x410) (s.window g (s.fld .WINDOW_INDEX_INDEX g) % 2 ^ 32) hi).1 = v →
    s.windowRefused (s.corePart g) (s.fld .WINDOW_INDEX_INDEX g) v = false →
    Completes (.windowEntryCommit party g hi) s (fun t => t.window g (s.fld .WINDOW_INDEX_INDEX g) = v ∧
      (∀ j, j ≠ s.fld .WINDOW_INDEX_INDEX g → t.window g j = s.window g j) ∧ t = { s with regs := t.regs, cores := t.cores, held := t.held } ∧
      (∀ h, h ≠ g → t.core h = s.core h) ∧ RegsBut s t [(.WINDOW_INDEX_INDEX, g)])) ∧
  (∀ (party : Party) (g hi v : Nat) (s : State), party ≠ .mgmt → s.patchable (s.corePart g) →
    (s.commitPair party (coreAddr g 0x504) (s.decl g (s.fld .SYNC_DECL_INDEX_INDEX g) % 2 ^ 32) hi).1 = v → declRefused v = false →
    Completes (.syncDeclCommit party g hi) s (fun t => t.decl g (s.fld .SYNC_DECL_INDEX_INDEX g) = v ∧
      (∀ j, j ≠ s.fld .SYNC_DECL_INDEX_INDEX g → t.decl g j = s.decl g j) ∧ t = { s with regs := t.regs, cores := t.cores, held := t.held } ∧
      (∀ h, h ≠ g → t.core h = s.core h) ∧ RegsBut s t [(.SYNC_DECL_INDEX_INDEX, g)])) ∧
  (∀ v : Nat, hValid v → (hMask v = 0 ∨ hSize v = 0 ∨ 16384 < hSize v ∨ 1024 < hBase v + hRows v) → ∀ (p i : Nat) (s : State), s.handleRefused p i v) ∧
  (∀ (party : Party) (lo hi cur : Nat) (s : State) (a : Nat), lo < 2 ^ 32 → hi < 2 ^ 32 → bankGet 0 s.held (pairKey party a) = lo + 1 →
    (s.commitPair party a cur hi).1 = lo + hi * 2 ^ 32)

/-- Remote writes and reads at their target (05 R168 to R170; 07 R224, R230, R232; 09 R306): a write that passes the checks lands, whole, in the range of the handle;
one that fails is counted and dropped; a read that passes is answered with the bytes, at
once or when injection is open again. A packet that the fence turns away, or that would overtake another of its stream, has no such effect.
Responses and acknowledgements at the core that asked (05 R170, R181; 06 R196): returning data lands; the last response or acknowledgement
ends the transfer; an error response is recorded at the core, whose partition enters FAULT.
The order of the handle checks is the model's reading (log entry 58). -/
def Obligations.RemoteAccess : Prop :=
  (∀ (k : Pkt) (q j : Nat) (b : Byte) (tied : Bool) (s : State), s.lands k → s.tagPart k.tag = some q →
    xferKey k ∉ (s.core (pktCore k)).dropped → s.handleCode (pktCore k) k.handle .rwr k.off k.data.length 32 = 0 →
    s.inLanding (s.corePart (pktCore k)) (s.handle (pktCore k) k.handle) k.off k.data.length → (k.final = false ∨ k.sig = false) →
    hMask (s.handle (pktCore k) k.handle) ≠ 0 → hBase (s.handle (pktCore k) k.handle) + hRows (s.handle (pktCore k) k.handle) ≤ 1024 →
    k.data[j]? = some b →
    Completes (.remoteWriteArrive k tied) s (fun t => t.spadByte (pktCore k) (hAddr (s.handle (pktCore k) k.handle) (k.off + j)) = b ∧
      SpadBut s t (pktCore k) [{ h := k.handle, off := k.off, len := k.data.length }] ∧ t.regs = s.regs ∧ t.outs = s.outs ∧
      (t.part k.part).noProg = 0 ∧ ∀ h, h ≠ pktCore k → t.core h = s.core h)) ∧
  (∀ (k : Pkt) (q : Nat) (tied : Bool) (s : State), s.lands k → s.tagPart k.tag = some q → xferKey k ∉ (s.core (pktCore k)).dropped →
    s.handleCode (pktCore k) k.handle .rwr k.off k.data.length 32 ≠ 0 → (s.pstate (s.corePart (pktCore k))).active = false →
    Completes (.remoteWriteArrive k tied) s (fun t => t.fld .SPAD_REMOTE_REJECT (pktCore k) = (s.fld .SPAD_REMOTE_REJECT (pktCore k) + 1) % 2 ^ 32 ∧
      t.mem = s.mem ∧ t.outs = s.outs ∧ RegsBut s t [(.SPAD_REMOTE_REJECT, pktCore k)] ∧
      (k.final = false → xferKey k ∈ (t.core (pktCore k)).dropped))) ∧
  (∀ (k : Pkt) (p : Nat) (s : State), s.lands k → s.tagPart k.tag = some p → k.srcRank = s.ownRank p → s.outbox = [] →
    s.mustHold p (answer k .readResp) = false → s.handleCode (pktCore k) k.handle .rr k.off k.len 32 = 0 →
    Completes (.remoteReadArrive k) s (fun t => t.mem = s.mem ∧ (∃ bad, .packet { answer k .readResp with part := p, data := s.hRead (pktCore k) k.handle k.off k.len, bad := bad } ∈ t.outs) ∧
      RegsBut s t [(.SPAD_CE, pktCore k)])) ∧
  (∀ (k : Pkt) (p : Nat) (s : State), s.lands k → s.tagPart k.tag = some p → k.srcRank = s.ownRank p → s.outbox = [] →
    s.mustHold p (answer k .errorResp) = false → s.handleCode (pktCore k) k.handle .rr k.off k.len 32 ≠ 0 → (s.pstate (s.corePart (pktCore k))).active = false →
    Completes (.remoteReadArrive k) s (fun t => t.mem = s.mem ∧ .packet { answer k .errorResp with part := p, code := E_SPAD_REMOTE_REJECT } ∈ t.outs)) ∧
  (∀ (k : Pkt) (p : Nat) (s : State), s.lands k → s.tagPart k.tag = some p → s.outbox = [] → s.mustHold p (answer k .readResp) →
    s.handleCode (pktCore k) k.handle .rr k.off k.len 32 = 0 →
    Completes (.remoteReadArrive k) s (fun t => t.mem = s.mem ∧ t.outs = s.outs ∧ ∃ bad, t.outbox = [(p, { answer k .readResp with data := s.hRead (pktCore k) k.handle k.off k.len, bad := bad })])) ∧
  (∀ (k : Pkt) (tied : Bool) (s : State), k.fits → s.mayLand k → s.fenced k.dstNode k → s.fld .FAB_ERROR_CODE = 0 →
    ∀ c ∈ [Instr.remoteWriteArrive k tied, .remoteReadArrive k, .readRespArrive k tied, .givePacketArrive k tied],
      Completes c s (fun t => t.fld .FAB_FENCE_DROP k.dstNode = (s.fld .FAB_FENCE_DROP k.dstNode + 1) % 2 ^ 32 ∧ t.fld .FAB_ERROR_CODE = E_FAB_FENCE ∧
        t.mem = s.mem ∧ t.cores = s.cores ∧ ∀ c, t.fld .SYNC_GIVEN (pktCore k) c = s.fld .SYNC_GIVEN (pktCore k) c)) ∧
  (∀ (k : Pkt) (tied : Bool) (s : State), s.overtakes k → ∀ c ∈ [Instr.remoteWriteArrive k tied, .remoteReadArrive k, .readRespArrive k tied, .givePacketArrive k tied],
    Completes c s (fun t => t = { s with gives := t.gives })) ∧
  (∀ (k : Pkt) (x : Xfer) (j : Nat) (b : Byte) (tied : Bool) (s : State), s.lands k → s.xferOf k = some x → argOf x.args .dstKind = 0 →
    argOf x.args .sigAmount = 0 → x.acks = 0 →
    let v := s.handle (pktCore k) (argOf x.args .dstHandle)
    hMask v ≠ 0 → hBase v + hRows v ≤ 1024 → argOf x.args .dstOff + k.sub + k.data.length ≤ 32 * hSize v → k.data[j]? = some b →
    Completes (.readRespArrive k tied) s (fun t => t.spadByte (pktCore k) (hAddr v (argOf x.args .dstOff + k.sub + j)) = b ∧
      SpadBut s t (pktCore k) [{ h := argOf x.args .dstHandle, off := argOf x.args .dstOff + k.sub, len := k.data.length }] ∧ t.regs = s.regs ∧
      (x.left ≤ 1 → (t.core (pktCore k)).xfers = (s.core (pktCore k)).xfers.filter (fun y => y.id ≠ x.id)) ∧
      (1 < x.left → (t.core (pktCore k)).xfers = (s.core (pktCore k)).xfers.map (fun y => if y.id = x.id then { x with left := x.left - 1 } else y)))) ∧
  (∀ (k : Pkt) (x : Xfer) (s : State), s.lands k → s.xferOf k = some x → 0 < k.code → k.code < 2 ^ 16 →
    s.fld .CORE_ERROR_CODE (pktCore k) = 0 → (s.pstate (s.corePart (pktCore k))).active →
    Completes (.errorRespArrive k) s (fun t => t.fld .CORE_ERROR_CODE (pktCore k) = k.code ∧ (t.core (pktCore k)).cp = .error ∧
      t.pstate (s.corePart (pktCore k)) = .fault ∧ t.mem = s.mem)) ∧
  (∀ (k : Pkt) (x : Xfer) (tied : Bool) (s : State), s.lands k → s.xferOf k = some x → argOf x.args .sigAmount = 0 →
    Completes (.memoryAckArrive k tied) s (fun t => t.mem = s.mem ∧ t.regs = s.regs ∧ t.outs = s.outs ∧
      (t.core (pktCore k)).xfers = if x.left = 0 ∧ x.acks ≤ 1 then (s.core (pktCore k)).xfers.filter (fun y => y.id ≠ x.id)
        else (s.core (pktCore k)).xfers.map (fun y => if y.id = x.id then { x with acks := x.acks - 1 } else y)))

/-- Pool requests (05 R175 to R178, R181): a write whose banks no other core owns in its tick stores its bytes and is acknowledged at its last
packet; a read is answered with the bytes; a request that meets another core's access in the same tick faults the partition; of
two that arrive in one cycle that of the lower core comes first.
A conflict is judged packet by packet, and a correction is written back with the read: the model's readings (log entries 29, 79). -/
def Obligations.PoolRequests : Prop :=
  (∀ (k : Pkt) (s : State), s.lands k → k.op = .memWrite → k.tick < 256 →
    let group := (k.dstNode - 72) * 16 + (k.dstUnit - 96)
    let core := k.srcNode * 96 + k.srcUnit
    (∀ b < 1024, ∀ c, s.poolOwner b k.tick = some (c, k.tick) → c = core) → group < 64 → k.final → k.srcRank = s.ownRank (s.corePart core) →
    Completes (.poolRequestArrive k []) s (fun t => (∀ j b, k.data[j]? = some b → bankGet 0 t.mem.pool (group * 50331648 + k.addr + j) = b) ∧
      (∀ a, (a < group * 50331648 + k.addr ∨ group * 50331648 + k.addr + k.data.length ≤ a) → bankGet 0 t.mem.pool a = bankGet 0 s.mem.pool a) ∧
      t.mem = { s.mem with pool := t.mem.pool } ∧ .packet { answer k .ack with part := s.corePart core } ∈ t.outs ∧ t.regs = s.regs ∧ t.cores = s.cores)) ∧
  (∀ (k : Pkt) (s : State), s.lands k → k.op = .memRead → k.tick < 256 → k.bad = [] →
    let group := (k.dstNode - 72) * 16 + (k.dstUnit - 96)
    let core := k.srcNode * 96 + k.srcUnit
    (∀ b < 1024, ∀ c, s.poolOwner b k.tick = some (c, k.tick) → c = core) → group < 64 → s.poolBad = [] → k.srcRank = s.ownRank (s.corePart core) →
    Completes (.poolRequestArrive k []) s (fun t => t.mem = s.mem ∧ t.cores = s.cores ∧ RegsBut s t [(.POOL_CE, 0)] ∧
      .packet { answer k .readResp with part := s.corePart core, data := bankList 0 s.mem.pool (group * 50331648 + k.addr) k.len } ∈ t.outs)) ∧
  (∀ (k : Pkt) (c : Nat) (s : State), s.lands k → k.op = .memWrite → 0 < k.data.length → k.tick < 256 →
    let group := (k.dstNode - 72) * 16 + (k.dstUnit - 96)
    let core := k.srcNode * 96 + k.srcUnit
    s.poolOwner (group * 16 + k.addr / 32 % 16) k.tick = some (c, k.tick) → c ≠ core → s.flag .POOL_CONFLICT_LOC_VALID = false → c < 6144 → core < 6144 →
    (s.pstate (s.corePart core)).active → s.fld .CORE_ERROR_CODE core = 0 →
    Completes (.poolRequestArrive k []) s (fun t => t.mem = s.mem ∧ t.fld .POOL_CONFLICT_CORES_OWNER = c ∧ t.fld .POOL_CONFLICT_CORES_LATER = core ∧
      t.fld .POOL_CONFLICT_LOC_VALID = 1 ∧ (t.core core).cp = .error ∧ t.fld .CORE_ERROR_CODE core = E_POOL_CONFLICT ∧ t.pstate (s.corePart core) = .fault)) ∧
  (∀ (j k : Pkt) (s : State), s.flight = [] → s.lands j → s.lands k → j.op = .memWrite → k.op = .memWrite → 0 < j.data.length → 0 < k.data.length →
    k.final = false → j.tick = k.tick → k.tick < 256 → j.dstNode = k.dstNode → j.dstUnit = k.dstUnit → j.addr = k.addr →
    (k.dstNode - 72) * 16 + (k.dstUnit - 96) < 64 → k.srcNode * 96 + k.srcUnit < j.srcNode * 96 + j.srcUnit → j.srcNode * 96 + j.srcUnit < 6144 →
    s.owners = [] → s.flag .POOL_CONFLICT_LOC_VALID = false →
    Completes (.poolRequestArrive j [k]) s (fun t => t.fld .POOL_CONFLICT_CORES_OWNER = k.srcNode * 96 + k.srcUnit ∧
      t.fld .POOL_CONFLICT_CORES_LATER = j.srcNode * 96 + j.srcUnit ∧ t.fld .POOL_CONFLICT_LOC_VALID = 1))

/-- Arriving gives and the barrier registers (06 R196, R199, R202): a give that its counter's bound allows raises GIVEN; one at an IDLE partition
is dropped and counted; BAR_RANKS and BARRIER_MEMBER take a value where the partition may be patched, and LOCAL_COUNT follows the members. -/
def Obligations.ArrivingGives : Prop :=
  (∀ (k : Pkt) (q n : Nat) (tied : Bool) (s : State), s.lands k → s.tagPart k.tag = some q → s.pstate (s.corePart (pktCore k)) ≠ .idle →
    k.sigAmount = n → s.bound (pktCore k) k.sigCounter ≠ 0 → (s.inCycle tied).giveOverflows (pktCore k) k.sigCounter n = false →
    Completes (.givePacketArrive k tied) s (fun t => t.fld .SYNC_GIVEN (pktCore k) k.sigCounter = (s.fld .SYNC_GIVEN (pktCore k) k.sigCounter + n) % 2 ^ 32 ∧
      (t.part k.part).noProg = 0 ∧ t.mem = s.mem ∧ t.cores = s.cores ∧ t.outs = s.outs ∧ RegsBut s t [(.SYNC_GIVEN, pktCore k)])) ∧
  (∀ (k : Pkt) (q : Nat) (tied : Bool) (s : State), s.lands k → s.tagPart k.tag = some q → s.pstate (s.corePart (pktCore k)) = .idle →
    Completes (.givePacketArrive k tied) s (fun t => t.fld .SYNC_REMOTE_DROP (pktCore k) = (s.fld .SYNC_REMOTE_DROP (pktCore k) + 1) % 2 ^ 32 ∧
      t.mem = s.mem ∧ t.cores = s.cores ∧ t.outs = s.outs ∧ RegsBut s t [(.SYNC_REMOTE_DROP, pktCore k)])) ∧
  (∀ (k : Pkt) (q n : Nat) (tied : Bool) (s : State), s.lands k → s.tagPart k.tag = some q → (s.pstate (s.corePart (pktCore k))).active →
    k.sigAmount = n → s.bound (pktCore k) k.sigCounter ≠ 0 → (s.inCycle tied).giveOverflows (pktCore k) k.sigCounter n → s.dropMarked (s.corePart (pktCore k)) k.sigCounter = false →
    s.fld .CORE_ERROR_CODE (pktCore k) = 0 →
    Completes (.givePacketArrive k tied) s (fun t => t.fld .SYNC_GIVEN (pktCore k) k.sigCounter = s.fld .SYNC_GIVEN (pktCore k) k.sigCounter ∧
      t.fld .CORE_ERROR_CODE (pktCore k) = E_SYNC_OVERFLOW ∧ t.pstate (s.corePart (pktCore k)) = .fault ∧ t.mem = s.mem)) ∧
  (∀ (party : Party) (p b v : Nat) (s : State), party ≠ .mgmt → s.patchable p → v % 2 ^ 16 ≤ v / 2 ^ 16 % 2 ^ 16 →
    Completes (.barRanksWrite party p b v) s (fun t => t.fld .BAR_RANKS_RANK_LO (p * 32 + b) = v % 2 ^ 16 ∧
      t.fld .BAR_RANKS_RANK_HI (p * 32 + b) = v / 2 ^ 16 % 2 ^ 16 ∧ OnlyRegs s t [(.BAR_RANKS_RANK_LO, p * 32 + b), (.BAR_RANKS_RANK_HI, p * 32 + b)])) ∧
  (∀ (party : Party) (p b v : Nat) (s : State), party ≠ .mgmt → (s.patchable p = false ∨ v / 2 ^ 16 % 2 ^ 16 < v % 2 ^ 16) →
    Completes (.barRanksWrite party p b v) s (fun t => t.fld .BAR_CFG_REJECT (p * 32 + b) = 1 ∧ OnlyRegs s t [(.BAR_CFG_REJECT, p * 32 + b)])) ∧
  (∀ (party : Party) (g v i : Nat) (s : State), party ≠ .mgmt → s.patchable (s.corePart g) → v < 2 ^ 32 → i < 32 → g < 6144 →
    Completes (.barrierMemberWrite party g v) s (fun t => t.fld .BARRIER_MEMBER g = v ∧ OnlyRegs s t [(.BARRIER_MEMBER, g)] ∧
      t.localCount (s.corePart g) i + (s.bit .BARRIER_MEMBER i g).toNat = s.localCount (s.corePart g) i + (v.testBit i).toNat ∧
      ∀ h, h ≠ g → t.fld .BARRIER_MEMBER h = s.fld .BARRIER_MEMBER h))

/-- The package fabric (07 R216, R226, R227, R229 to R232): a router sends a good packet on by its route's edge, drops one whose head is bad or that
the fence of its die turns away, and counts retries; nothing comes in or goes on by an edge that is down; an edge that loses a module stays up until none is left, and is then down.
The partition that an edge error names is the model's reading (log entry 28), and credits are not shown (log entry 80). -/
def Obligations.FabricRouting : Prop :=
  (∀ (n edge : Nat) (k : Pkt) (s : State), k.fits → (edge = 6 ∨ s.edgeUp n edge) → (s.sharedPaused && 64 ≤ n) = false → k.op ≠ .bad → k.dstNode ≤ 83 →
    k.bad = [] → s.fenced n k = false → (s.packetRoute n k).testBit 4 → (s.packetRoute n k).testBit 3 = false → s.edgeUp n (s.packetRoute n k % 8) →
    Completes (.fabricPacketReceive n edge k 0) s (fun t => t.outs = s.outs ++ [.hop n (s.packetRoute n k % 8) k (s.flits k)] ∧ t.mem = s.mem ∧
      t.cores = s.cores ∧ RegsBut s t [(.FAB_DATA_CE, n), (.FAB_DATA_UE, n)])) ∧
  (∀ (n edge headBad : Nat) (k : Pkt) (s : State), (k.fits = false ∨ (edge ≠ 6 ∧ s.edgeUp n edge = false)) →
    Completes (.fabricPacketReceive n edge k headBad) s (fun t => t = s)) ∧
  (∀ (n edge headBad : Nat) (k : Pkt) (s : State), k.fits → (edge = 6 ∨ s.edgeUp n edge) → (s.sharedPaused && 64 ≤ n) = false →
    (3 ≤ headBad ∨ (headBad = 0 ∧ 83 < k.dstNode)) → s.fld .FAB_ERROR_CODE = 0 →
    Completes (.fabricPacketReceive n edge k headBad) s (fun t => t.fld .FAB_ERROR_CODE = (if 3 ≤ headBad then E_FAB_HEAD_UNCORRECTABLE else E_FAB_BAD_HEAD) ∧
      ((s.pstate k.part).active → t.pstate k.part = .fault) ∧ t.mem = s.mem ∧ t.cores = s.cores ∧ noNewHop s t)) ∧
  (∀ (n edge : Nat) (k : Pkt) (s : State), k.fits → (edge = 6 ∨ s.edgeUp n edge) → (s.sharedPaused && 64 ≤ n) = false → k.op ≠ .bad → k.dstNode ≤ 83 →
    k.bad = [] → s.fenced n k → s.fld .FAB_ERROR_CODE = 0 →
    Completes (.fabricPacketReceive n edge k 0) s (fun t => t.fld .FAB_FENCE_DROP n = (s.fld .FAB_FENCE_DROP n + 1) % 2 ^ 32 ∧ t.fld .FAB_ERROR_CODE = E_FAB_FENCE ∧
      t.mem = s.mem ∧ t.cores = s.cores ∧ noNewHop s t)) ∧
  (∀ (n : Nat) (s : State), Completes (.edgeRetry n) s (fun t => t.fld .FAB_RETRY n = (s.fld .FAB_RETRY n + 1) % 2 ^ 32 ∧ OnlyRegs s t [(.FAB_RETRY, n)])) ∧
  (∀ (n e m : Nat) (s : State), edgePeer n e = some m → m ≠ n → s.flag .FAB_EDGE_UP n e → s.fld .FAB_EDGE_MODULES n e + 1 < edgeModules n e →
    Completes (.edgeModuleFail n e false) s (fun t => t.fld .FAB_EDGE_MODULES n e = s.fld .FAB_EDGE_MODULES n e + 1 ∧ t.flag .FAB_EDGE_UP n e ∧
      t.fld .FAB_EDGE_DEGRADED n e = 1 ∧ t.fld .FAB_EDGE_DEGRADED m (edgeBack n m) = 1 ∧
      OnlyRegs s t [(.FAB_EDGE_MODULES, n), (.FAB_EDGE_MODULES, m), (.FAB_EDGE_UP, n), (.FAB_EDGE_UP, m), (.FAB_EDGE_DEGRADED, n), (.FAB_EDGE_DEGRADED, m), (.FAB_DEGRADED, 0)])) ∧
  (∀ (n e m : Nat) (s : State), edgePeer n e = some m → m ≠ n → s.flag .FAB_EDGE_UP n e → s.fld .FAB_ERROR_CODE = 0 →
    Completes (.edgeModuleFail n e true) s (fun t => t.flag .FAB_EDGE_UP n e = false ∧ t.fld .FAB_ERROR_CODE = E_FAB_EDGE_DOWN ∧
      (∀ p < 16, s.pstate p ≠ .idle → t.pstate p = .fault) ∧ t.flag .MGMT_STATUS_FAULT ∧ t.mem = s.mem)) ∧
  (∀ n d vc : Nat, n < 84 → d < 84 → vc < 4 → n ≠ d → ∃ e m, bootRoute n d vc = 16 + e ∧ e < 6 ∧ edgePeer n e = some m)

/-- Training of a port (08 R262 to R267, Table 8.8, R249): each event in its state takes the port to the next; enabling and disabling; the failures
that take it DOWN; acceptance of a held peer; and UP with an empty sender. Neither memories nor cores change.
Events are commands, and the time they take is believed: the model's reading (log entry 6), and so is what comes with an identity block (log entry 82). -/
def Obligations.LinkTraining : Prop :=
  (∀ (n : Nat) (s : State), s.linkState n = linkDisabled → (s.domain (portDom n)).st = .on →
    Completes (.linkEnable n) s (fun t => t.linkState n = linkDetect ∧ t.fld .LINK_CTRL_ENABLE n = 1 ∧ t.flag .LINK_STATUS_SWAPPED n = false ∧ (t.port n).dwellAt = s.raw ∧ t.mem = s.mem ∧ t.cores = s.cores)) ∧
  (∀ (n : Nat) (s : State), s.linkState n = linkDetect →
    Completes (.linkDisable n) s (fun t => t.linkState n = linkDisabled ∧ t.fld .LINK_CTRL_ENABLE n = 0 ∧ t.port n = (s.port n).forget ∧
      t.domain (portDom n) = (s.domain (portDom n)).disable ∧ t.mem = s.mem ∧ t.cores = s.cores)) ∧
  (∀ (n : Nat) (s : State), s.linkState n = linkDetect → s.elapsed (s.port n).dwellAt (s.dwellNs n) →
    Completes (.detectDwellExpire n) s (fun t => t.fld .LINK_STATUS_SWAPPED n = (s.fld .LINK_STATUS_SWAPPED n + 1) % 2 ∧ (t.port n).dwellAt = s.raw ∧
      (t.port n).dwells = (s.port n).dwells + 1 ∧ t = { s with regs := t.regs, ports := t.ports } ∧ RegsBut s t [(.LINK_STATUS_SWAPPED, n)])) ∧
  (∀ (n : Nat) (s : State), s.linkState n = linkDetect → s.elapsed (s.port n).dwellAt (s.dwellNs n) = false → Completes (.detectDwellExpire n) s (fun t => t = s)) ∧
  (∀ (n : Nat) (s : State), 2000000 ≤ s.dwellNs n ∧ s.dwellNs n ≤ 2937500) ∧
  (∀ (n : Nat) (s : State), s.linkState n = linkDetect →
    Completes (.detectPatternHeard n) s (fun t => t.linkState n = linkLock ∧ t.port n = (s.port n).forget ∧ t.fld .LINK_STATUS_SWAPPED n = s.fld .LINK_STATUS_SWAPPED n ∧ t.flag .LINK_STATUS_DARNED n = false ∧ t.mem = s.mem ∧ t.cores = s.cores)) ∧
  (∀ (n rates rate : Nat) (lanes : List (Option LaneLock)) (s : State), s.linkState n = linkLock → lanes.length = 9 → (∀ l ∈ lanes, l.isSome) →
    (∀ a ∈ lanes.filterMap id, ∀ b ∈ lanes.filterMap id, a.farPort = b.farPort) → 1 ≤ rate → rate ≤ 3 → (rates &&& s.fld .LINK_CTRL_RATE_MASK n).testBit (rate - 1) →
    (∀ r < 3, rate ≤ r → (rates &&& s.fld .LINK_CTRL_RATE_MASK n).testBit r = false) →
    Completes (.lanesLocked n rates lanes) s (fun t => t.linkState n = linkIdentify ∧ 
      .identity n ownKeyId n (s.fld .LINK_CTRL_RATE_MASK n) (s.flag .LINK_CTRL_HALF_WIDTH_EN n) (t.port n).nonce ∈ t.outs ∧ t.fld .LINK_STATUS_RATE n = rate ∧ (t.port n).failed = [] ∧
      t.mem = s.mem ∧ t.cores = s.cores)) ∧
  (∀ (n key port rates nonce pub : Nat) (halfOk : Bool) (s : State), s.linkState n = linkIdentify → s.needsHalf n = false → key < 2 ^ 64 → port < 32 →
    rates.testBit (s.fld .LINK_STATUS_RATE n - 1) →
    Completes (.identityBlockReceive n key port rates halfOk nonce pub) s (fun t => (t.port n).peerNonce = nonce % 2 ^ 128 ∧ (t.port n).peerPub = pub ∧ t.fld64 .PEER_KEY_ID_LO .PEER_KEY_ID_HI n = key ∧ t.fld .PEER_INFO_PORT n = port ∧
      t.linkState n = linkIdentify ∧ (t.port n).identified ∧
      t.fld .LINK_STATUS_LEADER n = (decide (linkRank (ownKeyId) n < linkRank key port)).toNat ∧ t.mem = s.mem ∧ t.cores = s.cores)) ∧
  (∀ (n key : Nat) (s : State), s.linkState n = linkIdentify → (s.port n).identified → key % 2 ^ 64 = s.fld64 .PEER_KEY_ID_LO .PEER_KEY_ID_HI n →
    s.peerUnexpected n = false →
    Completes (.portStatementReceive n true key true false) s (fun t => t.linkState n = linkAlign ∧ t.fld .PEER_INFO_VERIFIED n = 1 ∧ (t.port n).txCount = 0 ∧ (t.port n).rxCount = 0 ∧ t.mem = s.mem ∧ t.cores = s.cores)) ∧
  (∀ (n key : Nat) (s : State), s.linkState n = linkIdentify → (s.port n).identified → key % 2 ^ 64 = s.fld64 .PEER_KEY_ID_LO .PEER_KEY_ID_HI n →
    s.peerUnexpected n → s.fld .LINK_ERROR_CODE n = 0 →
    Completes (.portStatementReceive n true key true false) s (fun t => t.linkState n = linkHeld ∧ t.fld .LINK_ERROR_CODE n = E_LINK_UNEXPECTED_PEER)) ∧
  (∀ (n : Nat) (s : State), s.linkState n = linkHeld →
    Completes (.linkAcceptPeer n) s (fun t => t.linkState n = linkAlign ∧ t.mem = s.mem ∧ t.cores = s.cores)) ∧
  (∀ (n : Nat) (s : State), s.linkState n = linkIdentify → (s.port n).behindHeld →
    Completes (.heldIdlePatternEnd n false) s (fun t => t.linkState n = linkAlign ∧ (t.port n).behindHeld = false ∧ t.mem = s.mem ∧ t.cores = s.cores)) ∧
  (∀ (n rtt : Nat) (s : State), s.linkState n = linkAlign → rtt < 2 ^ 16 →
    Completes (.portAlignDone n rtt) s (fun t => t.linkState n = linkUp ∧ t.fld .LINK_RTT n = rtt ∧ (t.port n).nextSeq = 0 ∧ (t.port n).unacked = [] ∧
      (t.port n).sender = .normal ∧ (t.port n).expect = 0 ∧ (t.port n).ackV = false ∧ t.mem = s.mem ∧ t.cores = s.cores)) ∧
  (∀ (n : Nat) (s : State), (s.linkState n = linkLock ∨ s.linkState n = linkAlign) → s.fld .LINK_ERROR_CODE n = 0 →
    Completes (.trainTimeout n) s (fun t => t.linkState n = linkDown ∧ t.fld .LINK_ERROR_CODE n = E_LINK_TRAIN_FAIL ∧ t.port n = (s.port n).forget ∧ t.mem = s.mem ∧ t.cores = s.cores)) ∧
  (∀ (n : Nat) (s : State), (s.linkState n = linkLock ∨ s.linkState n = linkIdentify ∨ s.linkState n = linkAlign ∨ s.linkState n = linkHeld) →
    ∀ c ∈ [Instr.lossOfSignal n, .linkFullTrain n], Completes c s (fun t => t.linkState n = linkDetect ∧ (t.port n).failed = [] ∧ (t.port n).identified = false ∧ (t.port n).dwellAt = s.raw ∧ t.flag .LINK_STATUS_SWAPPED n = false ∧ t.mem = s.mem ∧ t.cores = s.cores)) ∧
  (∀ (n : Nat) (s : State), s.linkState n = linkDown → Completes (.downTimerExpire n) s (fun t => t.linkState n = linkDetect ∧ (t.port n).dwellAt = s.raw ∧ t.flag .LINK_STATUS_SWAPPED n = false ∧ t.mem = s.mem ∧ t.cores = s.cores))

/-- Sending (08 R246, R249 to R253, R257, R259, R260): an UP port sends the next DATA frame, with the next sequence number, and keeps it; with
nothing to send it sends IDLE; the replay timer starts a replay; a plan control flit waits in the port's queue.
Receiving (08 R247 to R250, R257, R258, Table 8.5): the frame in order is accepted and acknowledged; one behind is a duplicate and delivers
nothing; one that fails FEC or CRC, or is ahead, asks for a replay with NAK once; an acknowledgement releases the frames it covers.
What a NAK with an impossible acknowledgement does is the model's reading (log entry 54), and so are the bits of a frame that no table places (log entry 81). -/
def Obligations.LinkFrames : Prop :=
  (∀ (n : Nat) (s : State), s.inRun → s.linkState n = linkUp → (s.port n).txMark < 4095 → (s.port n).sender = .normal → (s.port n).egress ≠ [] → (s.port n).unacked.length < 2046 →
    Completes (.frameSend n) s (fun t => (t.port n).nextSeq = ((s.port n).nextSeq + 1) % 4096 ∧ (t.port n).egress = (s.port n).egress.drop 17 ∧
      (∃ f, (t.port n).unacked = (s.port n).unacked ++ [f] ∧ f.seq = (s.port n).nextSeq ∧ f.slots = takeSlots (s.port n).egress ∧ f.replays = 0) ∧
      (∃ fr, t.outs = s.outs ++ [.frame n fr] ∧ fr.idle = false ∧ fr.fseq = (s.port n).nextSeq ∧ fr.slots = takeSlots (s.port n).egress ∧
        fr.ack = ((s.port n).expect + 4095) % 4096 ∧ fr.ackV = (s.port n).ackV ∧ fr.nak = (s.port n).nakDue ∧ fr.fcnt = (s.port n).txCount % 4096 ∧
        fr.ctag = frameTag (s.port n).txKey (s.port n).txCount fr ∧ fr.crc = frameCrc fr) ∧
      (t.port n).txCount = (s.port n).txCount + 1 ∧ (t.port n).nakDue = false ∧ t.mem = s.mem ∧ t.cores = s.cores)) ∧
  (∀ (n : Nat) (s : State), s.inRun → s.linkState n = linkUp → (s.port n).txMark < 4095 → (s.port n).sender = .normal → (s.port n).egress = [] → (s.port n).ctlQ = [] →
    Completes (.frameSend n) s (fun t => (t.port n).unacked = (s.port n).unacked ∧ (t.port n).nextSeq = (s.port n).nextSeq ∧
      (∃ fr, t.outs = s.outs ++ [.frame n fr] ∧ fr.idle ∧ fr.crc = frameCrc fr) ∧ t.mem = s.mem ∧ t.cores = s.cores)) ∧
  (∀ (n : Nat) (s : State), s.inRun → s.linkState n = linkUp → (s.port n).txMark = 4095 → (s.port n).sender = .normal → (s.port n).egress = [] → (s.port n).ctlQ = [] →
    Completes (.frameSend n) s (fun t => (t.port n).txMark = 0 ∧ ∃ fr ms, t.outs = s.outs ++ [.frame n fr, .marker n ms] ∧ fr.idle ∧
      ms.map Marker.lane = List.range 9 ∧ ∀ m ∈ ms, m.port = n)) ∧
  (∀ (n : Nat) (s : State), s.inRun = false → Completes (.frameSend n) s (fun t => t = s)) ∧
  (∀ (n : Nat) (f : TxFrame) (rest : List TxFrame) (s : State), s.linkState n = linkUp → (s.port n).unacked = f :: rest → s.elapsed (s.port n).timer (s.replayTmo n) →
    Completes (.replayTimerExpire n) s (fun t => (t.port n).sender = .replay ∧ (t.port n).replayStart = f.seq ∧ (t.port n).resent = 0 ∧
      (t.port n).unacked = (s.port n).unacked ∧ t.fld .LINK_TMO n = (s.fld .LINK_TMO n + 1) % 2 ^ 32 ∧ t = { s with regs := t.regs, ports := t.ports } ∧
      RegsBut s t [(.LINK_TMO, n), (.LINK_STATUS_REPLAYING, n), (.LINK_REPLAYS, n)])) ∧
  (∀ (n : Nat) (f : CtlFlit) (s : State), s.portLive n → f.type ≠ .report → (s.port n).ctlQ.length < 64 →
    Completes (.planCtlQueue n f) s (fun t => (t.port n).ctlQ = (s.port n).ctlQ ++ [f] ∧ t = { s with ports := t.ports } ∧ ∀ m, m ≠ n → t.port m = s.port m)) ∧
  (∀ (n : Nat) (f : CtlFlit) (s : State), s.portLive n → f.type = .report → (∃ g ∈ (s.port n).ctlQ, g.type = .report ∧ g.tag = f.tag) →
    Completes (.planCtlQueue n f) s (fun t => (t.port n).ctlQ.length = (s.port n).ctlQ.length ∧ f ∈ (t.port n).ctlQ ∧ t = { s with ports := t.ports })) ∧
  (∀ (n : Nat) (f : Frame) (s : State), s.linkState n = linkUp → (s.port n).rxMark < 4095 → (s.port n).resync = false → f.idle = false → s.checkedFrame n f →
    f.fseq = (s.port n).expect → f.fseq < 4096 → f.slots = List.replicate 17 .empty → (s.port n).rx = none → f.ackV = false → f.nak = false → f.cmsg = .none →
    Completes (.frameReceive n f {}) s (fun t => (t.port n).expect = ((s.port n).expect + 1) % 4096 ∧ (t.port n).ackV ∧ (t.port n).naked = false ∧
      (t.port n).rxCount = (s.port n).rxCount + 1 ∧ (t.port n).ingress = (s.port n).ingress ∧ t.mem = s.mem ∧ t.cores = s.cores ∧ t.outs = s.outs)) ∧
  (∀ (n : Nat) (f : Frame) (s : State), s.linkState n = linkUp → (s.port n).rxMark < 4095 → (s.port n).resync = false → f.idle = false → s.checkedFrame n f →
    1 ≤ ((s.port n).expect + 4096 - f.fseq % 4096) % 4096 → ((s.port n).expect + 4096 - f.fseq % 4096) % 4096 ≤ 2047 → f.ackV = false → f.nak = false → f.cmsg = .none →
    Completes (.frameReceive n f {}) s (fun t => (t.port n).expect = (s.port n).expect ∧ t.fld .LINK_DUP n = (s.fld .LINK_DUP n + 1) % 2 ^ 32 ∧
      (t.port n).ingress = (s.port n).ingress ∧ (t.port n).rx = (s.port n).rx ∧ t.mem = s.mem ∧ t.cores = s.cores ∧ t.outs = s.outs)) ∧
  (∀ (n : Nat) (f : Frame) (chk : FrameCheck) (s : State), s.linkState n = linkUp → (s.port n).rxMark < 4095 → (s.port n).naked = false → 15 < chk.errs.length →
    Completes (.frameReceive n f chk) s (fun t => (t.port n).nakDue ∧ (t.port n).naked ∧ (t.port n).expect = (s.port n).expect ∧
      t.fld .LINK_FEC_UNCORR n = (s.fld .LINK_FEC_UNCORR n + 1) % 2 ^ 32 ∧ RegsBut s t [(.LINK_FEC_UNCORR, n)] ∧ t.mem = s.mem ∧ t.cores = s.cores ∧ t.outs = s.outs)) ∧
  (∀ (n age : Nat) (f : Frame) (s : State), s.linkState n = linkUp → (s.port n).rxMark < 4095 → (s.port n).resync = false → f.idle → s.checkedFrame n f → f.ackV →
    f.nak = false → f.cmsg = .none → ((s.port n).nextSeq + 4095 - f.ack % 4096) % 4096 = age → age < (s.port n).unacked.length →
    Completes (.frameReceive n f {}) s (fun t => (t.port n).unacked = (s.port n).unacked.drop ((s.port n).unacked.length - age) ∧ (t.port n).timer = s.raw ∧
      (t.port n).expect = (s.port n).expect ∧ t.mem = s.mem ∧ t.cores = s.cores ∧ t.outs = s.outs)) ∧
  (∀ (n : Nat) (f : Frame) (s : State), s.linkState n = linkUp → (s.port n).resync = false → f.crc = frameCrc f → f.fcnt % 4096 ≠ (s.port n).rxCount % 4096 → (s.port n).badRun = 15 →
    s.fld .LINK_ERROR_CODE n = 0 →
    Completes (.frameReceive n f {}) s (fun t => t.linkState n = linkDown ∧ t.fld .LINK_ERROR_CODE n = E_LINK_HEADER_AUTH))

/-- Darning (08 R268 to R272): a failed lane is told to the leader, or the leader starts a darn; both ends switch and say so; when both have,
LNS carries the lane; an un-darn gives it back, or leaves the lane failed; calibration darns LN0 first.
The messages of the two ends are the model's reading where log entries 54 and 83 say so. -/
def Obligations.Darning : Prop :=
  (∀ (n lane : Nat) (s : State), s.linkState n = linkUp → lane < 8 → s.leads n = false → s.flag .LINK_STATUS_HALF n = false → s.flag .TPORT_STATUS_MEASURING n = false → lane ∉ (s.port n).failed →
    Completes (.laneFail n lane) s (fun t => (t.port n).failed = (s.port n).failed ++ [lane] ∧
      (t.port n).msgs = (s.port n).msgs ++ [{ op := 0x01, txn := (s.port n).txn, lane := lane, reason := 1 }] ∧ t = { s with ports := t.ports })) ∧
  (∀ (n lane : Nat) (s : State), s.linkState n = linkUp → lane < 8 → s.leads n → s.flag .TPORT_STATUS_MEASURING n = false → lane ∉ (s.port n).failed →
    s.flag .LINK_STATUS_DARNED n = false → s.flag .LINK_STATUS_HALF n = false → s.flag .LINK_STATUS_SPARE_LOST n = false → (s.port n).seqKind = .idle →
    (s.port n).pendingHalf = none → (s.port n).after = none →
    Completes (.laneFail n lane) s (fun t => (t.port n).seqKind = .darn ∧ (t.port n).seqLane = lane ∧ (t.port n).seqFailed ∧
      { op := 0x02, txn := (s.port n).txn, lane := lane, reason := 1 } ∈ (t.port n).msgs ∧ t = { s with regs := t.regs, ports := t.ports } ∧
      RegsBut s t [(.TPORT_STATUS_MEASURING, n)])) ∧
  (∀ (n : Nat) (s : State), (s.port n).seqKind = .darn → (s.port n).seqSwitched = false → (s.port n).seqPeer → (s.port n).seqLane < 9 →
    Completes (.darnSwitch n) s (fun t => t.fld .LINK_STATUS_DARNED n = 1 ∧ t.fld .LINK_STATUS_DARN_LANE n = (s.port n).seqLane ∧
      t.fld .LINK_STATUS_DARN_FAILED n = (s.port n).seqFailed.toNat ∧ (t.port n).seqKind = .idle ∧ t.fld .LINK_DARNS n = (s.fld .LINK_DARNS n + 1) % 2 ^ 32 ∧
      t = { s with regs := t.regs, ports := t.ports })) ∧
  (∀ (n : Nat) (s : State), s.linkState n = linkUp → (s.port n).seqKind = .undarn → (s.port n).seqSwitched = false → (s.port n).seqLane < 8 → (s.port n).pendingHalf = none →
    (s.port n).after = none → s.flag .LINK_STATUS_HALF n = false → s.flag .LINK_STATUS_SPARE_LOST n = false →
    Completes (.undarnTimeout n) s (fun t => (s.port n).seqLane ∈ (t.port n).failed ∧ (t.port n).seqKind = .idle ∧ (t.port n).cal = none ∧
      t.fld .LINK_STATUS_DARN_FAILED n = 1 ∧ t.fld .LINK_STATUS_DARN_LANE n = (s.port n).seqLane ∧ t.fld .LINK_STATUS_DARNED n = 1 ∧
      { op := if s.leads n then 0x02 else 0x01, txn := (s.port n).txn, lane := (s.port n).seqLane, reason := 1 } ∈ (t.port n).msgs ∧
      t = { s with regs := t.regs, ports := t.ports })) ∧
  (∀ (n : Nat) (s : State), s.linkState n = linkUp → s.leads n → s.flag .LINK_CTRL_CAL_EN n → (s.port n).seqKind = .idle → (s.port n).cal = none → (s.port n).after = none →
    s.flag .LINK_STATUS_DARNED n = false → s.flag .LINK_STATUS_SPARE_LOST n = false → (s.port n).pendingHalf = none →
    Completes (.calCycleStart n) s (fun t => (t.port n).cal = some 0 ∧ (t.port n).seqKind = .darn ∧ (t.port n).seqLane = 0 ∧ (t.port n).seqFailed = false ∧
      t.fld .LINK_STATUS_CAL_ACTIVE n = 1 ∧ t = { s with regs := t.regs, ports := t.ports } ∧ RegsBut s t [(.LINK_STATUS_CAL_ACTIVE, n), (.TPORT_STATUS_MEASURING, n)])) ∧
  (∀ (n i : Nat) (s : State), (s.port n).cal = some i → i < 8 → s.flag .LINK_STATUS_DARNED n → s.flag .LINK_STATUS_DARN_FAILED n = false → (s.port n).seqKind = .idle →
    Completes (.calDwellDone n) s (fun t => (t.port n).seqKind = .undarn ∧ (t.port n).seqLane = i ∧ t = { s with regs := t.regs, ports := t.ports } ∧
      RegsBut s t [(.TPORT_STATUS_MEASURING, n)])) ∧
  (∀ (n i : Nat) (s : State), (s.port n).cal = some i → i < 8 → s.flag .LINK_STATUS_DARN_FAILED n → Completes (.calDwellDone n) s (fun t => t = s)) ∧
  (∀ (n : Nat) (m : LinkMsg) (s : State), s.linkState n = linkUp → (∀ h ∈ (s.port n).handled, h.1.txn ≠ m.txn) →
    ((s.port n).seqKind = .idle → s.flag .LINK_STATUS_DARNED n = false →
      Completes (.darnStart n m) s (fun t => (t.port n).seqKind = .darn ∧ (t.port n).seqLane = m.lane ∧ (t.port n).seqFailed = decide (m.reason = 1) ∧
      (t.port n).msgs = (s.port n).msgs ++ [{ op := 0x03, txn := m.txn, lane := m.lane }] ∧ t = { s with regs := t.regs, ports := t.ports })) ∧
    Completes (.undarnStart n m) s (fun t => (t.port n).seqKind = .undarn ∧ (t.port n).seqLane = m.lane ∧
      (t.port n).msgs = (s.port n).msgs ++ [{ op := 0x06, txn := m.txn, lane := m.lane }] ∧ t = { s with regs := t.regs, ports := t.ports }) ∧
    Completes (.darnAck n m) s (fun t => (∀ a ∈ (t.port n).awaiting, a.1.op ≠ 0x02) ∧ (t.port n).seqKind = (s.port n).seqKind ∧ t = { s with ports := t.ports }) ∧
    Completes (.undarnAck n m) s (fun t => (∀ a ∈ (t.port n).awaiting, a.1.op ≠ 0x05) ∧ (t.port n).seqKind = (s.port n).seqKind ∧ t = { s with ports := t.ports })) ∧
  (∀ (n : Nat) (m : LinkMsg) (s : State), s.linkState n = linkUp → (s.port n).handled = [] → (s.port n).ownDone ≠ some m.txn → (s.port n).seqLane = m.lane →
    (s.port n).seqSwitched → m.lane < 9 →
    ((s.port n).seqKind = .darn → Completes (.darnDone n m) s (fun t => t.fld .LINK_STATUS_DARNED n = 1 ∧ t.fld .LINK_STATUS_DARN_LANE n = m.lane ∧ (t.port n).seqKind = .idle)) ∧
    ((s.port n).seqKind = .undarn → (s.port n).cal = none → (s.port n).after = none →
      Completes (.undarnDone n m) s (fun t => t.fld .LINK_STATUS_DARNED n = 0 ∧ (t.port n).seqKind = .idle)))

/-- Other link messages (08 R261, R274, Table 8.7): DARN_REQ at the leader starts a darn; HALF_START and HALF_ACK start the retrain to that half; a probe
is echoed with its nonce, and the echo gives LINK_RTT; an unanswered message is repeated.
Retraining and loss of a port (08 R273, R275, R276, Table 8.12): an UP port starts a fast retrain, which keeps its frames; when it is complete the
port is UP and replays; when it does not finish, the port is DOWN, its buffers are empty, and each partition that runs and exchanges over it is
in FAULT.
What a retrain keeps, and which messages are remembered, is the model's reading (log entries 54, 83). -/
def Obligations.LinkMessages : Prop :=
  (∀ (n : Nat) (m : LinkMsg) (s : State), s.linkState n = linkUp → (s.port n).handled = [] → s.leads n → m.reason ≠ 1 → (s.port n).seqKind = .idle →
    s.flag .LINK_STATUS_DARNED n = false →
    Completes (.darnReq n m) s (fun t => (t.port n).seqKind = .darn ∧ (t.port n).seqLane = m.lane ∧ (t.port n).seqFailed = false ∧
      { op := 0x02, txn := (s.port n).txn, lane := m.lane } ∈ (t.port n).msgs ∧ t = { s with regs := t.regs, ports := t.ports })) ∧
  (∀ (n : Nat) (m r : LinkMsg) (s : State), s.linkState n = linkUp → s.leads n → (s.port n).handled = [({ m with op := 0x01 }, some r)] →
    Completes (.darnReq n m) s (fun t => (t.port n).msgs = (s.port n).msgs ++ [r] ∧ t = { s with ports := t.ports })) ∧
  (∀ (n : Nat) (m : LinkMsg) (s : State), s.linkState n = linkUp → (s.port n).handled = [] →
    Completes (.halfStart n m) s (fun t => t.linkState n = linkRetrain ∧ (t.port n).pendingHalf = some (m.half % 2) ∧
      { op := 0x09, txn := m.txn, half := m.half } ∈ (t.port n).msgs ∧ t.mem = s.mem ∧ t.cores = s.cores)) ∧
  (∀ (n h : Nat) (m : LinkMsg) (s : State), s.linkState n = linkUp → (s.port n).handled = [] → (s.port n).pendingHalf = some h →
    Completes (.halfAck n m) s (fun t => t.linkState n = linkRetrain ∧ (t.port n).pendingHalf = some h ∧ t.mem = s.mem ∧ t.cores = s.cores)) ∧
  (∀ (n : Nat) (m : LinkMsg) (s : State), (s.linkState n = linkUp ∨ s.linkState n = linkAlign) → (s.port n).handled = [] →
    Completes (.rttProbe n m) s (fun t => (t.port n).msgs = (s.port n).msgs ++ [{ op := 0x0B, txn := m.txn, data := m.data }] ∧ t = { s with ports := t.ports })) ∧
  (∀ (n ns k : Nat) (m a : LinkMsg) (s : State), (s.linkState n = linkUp ∨ s.linkState n = linkAlign) → (a, k) ∈ (s.port n).awaiting → a.op = 0x0A → a.data = m.data →
    ns < 2 ^ 16 →
    Completes (.rttEcho n m ns) s (fun t => t.fld .LINK_RTT n = ns ∧ (∀ b ∈ (t.port n).awaiting, b.1.op ≠ 0x0A) ∧ t = { s with regs := t.regs, ports := t.ports } ∧
      RegsBut s t [(.LINK_RTT, n)])) ∧
  (∀ (n : Nat) (s : State), s.linkState n = linkUp → (∀ a ∈ (s.port n).awaiting, a.2 < 64) →
    Completes (.linkMsgRepeat n) s (fun t => (t.port n).msgs = (s.port n).msgs ++ (s.port n).awaiting.map Prod.fst ∧
      (t.port n).awaiting = (s.port n).awaiting.map (fun a => (a.1, a.2 + 1)) ∧ t = { s with ports := t.ports })) ∧
  (∀ (n : Nat) (s : State), s.linkState n = linkUp → (∃ a ∈ (s.port n).awaiting, 64 ≤ a.2) →
    Completes (.linkMsgRepeat n) s (fun t => t.linkState n = linkRetrain ∧ t.mem = s.mem)) ∧
  (∀ (n : Nat) (s : State), s.linkState n = linkUp → ∀ c ∈ [Instr.linkRetrain n, .retrainPatternReceive n, .lossOfSignal n],
    Completes c s (fun t => t.linkState n = linkRetrain ∧ (t.port n).sender = .retrain ∧ (t.port n).unacked = (s.port n).unacked ∧
      (t.port n).egress = (s.port n).egress ∧ (t.port n).ingress = (s.port n).ingress ∧ (t.port n).seqKind = .idle ∧
      t.fld .LINK_RETRAINS n = (s.fld .LINK_RETRAINS n + 1) % 2 ^ 32 ∧ t.mem = s.mem ∧ t.cores = s.cores)) ∧
  (∀ (n : Nat) (s : State), s.linkState n = linkRetrain → (s.port n).pendingHalf = none → (s.port n).deferred = [] → (s.leads n → s.openLanes n = []) →
    Completes (.retrainComplete n) s (fun t => t.linkState n = linkUp ∧ (t.port n).unacked = (s.port n).unacked ∧ (t.port n).resync ∧ (t.port n).ackV = false ∧
      (t.port n).sender = (if (s.port n).unacked = [] then .normal else .replay) ∧ t.mem = s.mem ∧ t.cores = s.cores)) ∧
  (∀ (n p : Nat) (s : State), s.linkState n = linkRetrain → p < 16 → (s.pstate p).active → s.bit .EXCHANGE_PORTS n p →
    Completes (.retrainTimeout n) s (fun t => t.linkState n = linkDown ∧ t.port n = (s.port n).forget ∧ t.pstate p = .fault ∧ t.mem = s.mem ∧ t.cores = s.cores))

/-- Job slots (09 R289, R290, R303 to R305): a slot whose checks hold becomes ACTIVE, a tag of zero is refused; DRAIN, the last packet gone and
CLOSE take it to DRAINING, DRAINED and FREE; a switch is armed two microseconds ahead, cancelled before its time, begun at it and done a guard later.
What CLOSE does to JOB_TAG is left open here (log entry 56). -/
def Obligations.JobSlots : Prop :=
  (∀ (j : Nat) (s : State), (s.slotState j = slotFree ∨ s.slotState j = slotDrained) → s.activateCode j = 0 → s.outbox = [] →
    Completes (.slotCtrlActivate j) s (fun t => t.slotState j = slotActive ∧ (s.slotState j = slotFree → t.fld .SLOT_PKTS j = 0 ∧ t.slotRec j = {}) ∧
      t = { s with regs := t.regs, jobSlots := t.jobSlots } ∧ RegsBut s t [(.SLOT_STATUS_STATE, j), (.SLOT_PKTS, j)])) ∧
  (∀ (j : Nat) (s : State), (s.slotState j = slotFree ∨ s.slotState j = slotDrained) → s.fld .SLOT_CFG_JOB_TAG j = 0 →
    Completes (.slotCtrlActivate j) s (fun t => t.fld .SLOT_STATUS_REJECT j = 1 ∧ t.fld .SLOT_STATUS_CODE j = E_ROUTE_TAG_IN_USE ∧
      OnlyRegs s t [(.SLOT_STATUS_REJECT, j), (.SLOT_STATUS_CODE, j)])) ∧
  (∀ (j : Nat) (s : State), s.slotState j = slotActive → s.flag .SLOT_STATUS_SWITCH_PENDING j = false →
    Completes (.slotCtrlDrain j) s (fun t => t.slotState j = slotDraining ∧ OnlyRegs s t [(.SLOT_STATUS_STATE, j)])) ∧
  (∀ (j : Nat) (s : State), s.slotState j = slotDraining → s.slotHeld j = 0 →
    Completes (.slotDrained j) s (fun t => t.slotState j = slotDrained ∧ t.bit .INT_STATUS_LO 7 ∧ t = { s with regs := t.regs, host := t.host, outs := t.outs } ∧
      RegsBut s t [(.SLOT_STATUS_STATE, j), (.INT_STATUS_LO, 0)])) ∧
  (∀ (j : Nat) (s : State), s.slotState j = slotDrained →
    (s.fld .SLOT_CFG_KIND j = 1 ∨ s.pstate (s.fld .SLOT_CFG_PARTITION j) ∈ [PState.idle, .loaded, .stopped, .fault]) →
    Completes (.slotCtrlClose j) s (fun t => t.slotState j = slotFree ∧ t.fld .SLOT_PORTS0 j = 0 ∧ t.fld .SLOT_PORTS1 j = 0 ∧
      (∀ k < 2, ∀ e < 256, t.rankEntry j k e = {}) ∧ (∀ i, i ≠ j → ∀ k < 2, ∀ e < 256, t.rankEntry i k e = s.rankEntry i k e) ∧
      t.slotRec j = {} ∧ (∀ e ∈ t.outbox, e ∈ s.outbox) ∧ t = { s with regs := t.regs, ranks := t.ranks, jobSlots := t.jobSlots, outbox := t.outbox } ∧
      RegsBut s t [(.SLOT_STATUS_STATE, j), (.SLOT_CFG_JOB_TAG, j), (.SLOT_PORTS0, j), (.SLOT_PORTS1, j)])) ∧
  (∀ (j : Nat) (s : State), s.slotState j = slotActive → s.flag .SLOT_STATUS_SWITCH_PENDING j = false →
    s.twoMicrosAhead (s.fld64 .SLOT_SWITCH_TIME_LO .SLOT_SWITCH_TIME_HI j) →
    Completes (.slotCtrlSwitchArm j) s (fun t => t.fld .SLOT_STATUS_SWITCH_PENDING j = 1 ∧
      (t.slotRec j).switchAt = s.fld64 .SLOT_SWITCH_TIME_LO .SLOT_SWITCH_TIME_HI j ∧ (t.slotRec j).guardUs = max 5 (s.fld .SLOT_GUARD j) ∧
      (t.slotRec j).inGuard = false ∧ t = { s with regs := t.regs, jobSlots := t.jobSlots } ∧ RegsBut s t [(.SLOT_STATUS_SWITCH_PENDING, j)])) ∧
  (∀ (j : Nat) (s : State), s.slotState j = slotActive → s.flag .SLOT_STATUS_SWITCH_PENDING j = false →
    s.twoMicrosAhead (s.fld64 .SLOT_SWITCH_TIME_LO .SLOT_SWITCH_TIME_HI j) = false →
    Completes (.slotCtrlSwitchArm j) s (fun t => t.fld .SLOT_STATUS_REJECT j = 1 ∧ t.fld .SLOT_STATUS_CODE j = E_ROUTE_SWITCH_LATE ∧
      OnlyRegs s t [(.SLOT_STATUS_REJECT, j), (.SLOT_STATUS_CODE, j)])) ∧
  (∀ (j : Nat) (s : State), s.flag .SLOT_STATUS_SWITCH_PENDING j → (s.slotRec j).inGuard = false → s.timeReached (s.slotRec j).switchAt = false →
    Completes (.slotCtrlSwitchAbort j) s (fun t => t.fld .SLOT_STATUS_SWITCH_PENDING j = 0 ∧ t.fld .SLOT_STATUS_CANCELLED j = 1 ∧ t.bit .INT_STATUS_LO 7 ∧
      t = { s with regs := t.regs, host := t.host, outs := t.outs } ∧
      RegsBut s t [(.SLOT_STATUS_SWITCH_PENDING, j), (.SLOT_STATUS_CANCELLED, j), (.INT_STATUS_LO, 0)])) ∧
  (∀ (j : Nat) (s : State), s.slotState j = slotActive → s.flag .SLOT_STATUS_SWITCH_PENDING j → s.inGuard j = false →
    Completes (.slotCtrlDrain j) s (fun t => t.slotState j = slotDraining ∧ t.fld .SLOT_STATUS_SWITCH_PENDING j = 0 ∧ t.fld .SLOT_STATUS_CANCELLED j = 1 ∧
      t = { s with regs := t.regs, host := t.host, outs := t.outs } ∧
      RegsBut s t [(.SLOT_STATUS_STATE, j), (.SLOT_STATUS_SWITCH_PENDING, j), (.SLOT_STATUS_CANCELLED, j), (.INT_STATUS_LO, 0)])) ∧
  (∀ (j : Nat) (s : State), s.inGuard j → Completes (.slotCtrlSwitchAbort j) s (fun t => t = s)) ∧
  (∀ (j : Nat) (s : State), s.slotState j = slotActive → s.inGuard j →
    Completes (.slotCtrlDrain j) s (fun t => (t.slotRec j).drainAfter ∧ (t.slotRec j).switchAt = (s.slotRec j).switchAt ∧
      (t.slotRec j).guardUs = (s.slotRec j).guardUs ∧ (t.slotRec j).inGuard = (s.slotRec j).inGuard ∧ t = { s with jobSlots := t.jobSlots })) ∧
  (∀ (j : Nat) (s : State), s.flag .SLOT_STATUS_SWITCH_PENDING j → (s.slotRec j).inGuard = false → s.timeReached (s.slotRec j).switchAt →
    Completes (.epochSwitchStart j) s (fun t => (t.slotRec j).inGuard ∧ t = { s with jobSlots := t.jobSlots })) ∧
  (∀ (j : Nat) (s : State), s.flag .SLOT_STATUS_SWITCH_PENDING j → (s.slotRec j).inGuard → s.outbox = [] →
    s.timeReached (((s.slotRec j).switchAt + (s.slotRec j).guardUs * 64000) % 2 ^ 64) →
    Completes (.epochSwitchComplete j) s (fun t => t.fld .SLOT_CFG_EPOCH j = 1 - s.fld .SLOT_CFG_EPOCH j ∧ t.fld .SLOT_STATUS_SWITCH_PENDING j = 0 ∧
      t.fld .SLOT_STATUS_SWITCH_DONE j = 1 ∧ (t.slotRec j).inGuard = false ∧ t.bit .INT_STATUS_LO 7 ∧
      t.slotState j = (if (s.slotRec j).drainAfter ∧ s.slotState j = slotActive then slotDraining else s.slotState j) ∧
      t = { s with regs := t.regs, jobSlots := t.jobSlots, host := t.host, outs := t.outs } ∧
      RegsBut s t [(.SLOT_CFG_EPOCH, j), (.SLOT_STATUS_SWITCH_PENDING, j), (.SLOT_STATUS_SWITCH_DONE, j), (.SLOT_STATUS_STATE, j), (.INT_STATUS_LO, 0)]))

/-- Slot registers and rank tables (09 R302, R307): the index write sets what it names and discards held values; RANKS and PORTS are held; ATTR
commits a whole entry where its epoch may be written and its ports lie in the slot's, and is refused otherwise; a FREE slot takes its settings.
A refused commit discards the held values: the model's reading (log entry 56). -/
def Obligations.SlotTables : Prop :=
  (∀ (party : Party) (ports : Bool) (v : Nat) (s : State), party ≠ .mgmt →
    Completes (.routeTblHoldWrite party ports v) s (fun t => t = { s with held := t.held } ∧
      bankGet 0 t.held (pairKey .host (if ports then tblPortsAddr else tblRanksAddr)) = v % 2 ^ 32 + 1)) ∧
  (∀ (party : Party) (v : Nat) (s : State), party ≠ .mgmt →
    Completes (.routeTblIndexWrite party v) s (fun t => t.fld .ROUTE_TBL_INDEX_ENTRY = v % 256 ∧ t.fld .ROUTE_TBL_INDEX_EPOCH = v / 2 ^ 8 % 2 ∧
      t.fld .ROUTE_TBL_INDEX_SLOT = v / 2 ^ 9 % 32 ∧ t.fld .ROUTE_TBL_INDEX_AUTO = v / 2 ^ 14 % 2 ∧ t = { s with regs := t.regs, held := t.held } ∧
      bankGet 0 t.held (pairKey .host tblRanksAddr) = 0 ∧ bankGet 0 t.held (pairKey .host tblPortsAddr) = 0 ∧
      RegsBut s t [(.ROUTE_TBL_INDEX_ENTRY, 0), (.ROUTE_TBL_INDEX_EPOCH, 0), (.ROUTE_TBL_INDEX_SLOT, 0), (.ROUTE_TBL_INDEX_AUTO, 0)])) ∧
  (∀ (party : Party) (v j k i ranks ports : Nat) (s : State), party ≠ .mgmt → s.fld .ROUTE_TBL_INDEX_SLOT = j → s.fld .ROUTE_TBL_INDEX_EPOCH = k →
    s.fld .ROUTE_TBL_INDEX_ENTRY = i → bankGet 0 s.held (pairKey .host tblRanksAddr) = ranks + 1 → bankGet 0 s.held (pairKey .host tblPortsAddr) = ports + 1 →
    s.epochWritable j k → (v.testBit 0 = false ∨ (maskIn ports (s.epochPorts j k) ∧ ranks % 2 ^ 16 ≤ ranks / 2 ^ 16 % 2 ^ 16)) →
    Completes (.routeTblCommit party v) s (fun t =>
      t.rankEntry j k i = { lo := ranks % 2 ^ 16, hi := ranks / 2 ^ 16 % 2 ^ 16, ports := ports, valid := v.testBit 0, spread := v.testBit 1, inc := v / 4 % 8 } ∧
      (∀ x, x ≠ j * 512 + k * 256 + i → bankGet {} t.ranks x = bankGet {} s.ranks x) ∧
      t = { s with regs := t.regs, held := t.held, ranks := t.ranks } ∧ RegsBut s t [(.ROUTE_TBL_INDEX_ENTRY, 0)])) ∧
  (∀ (party : Party) (v : Nat) (s : State), party ≠ .mgmt → s.epochWritable (s.fld .ROUTE_TBL_INDEX_SLOT) (s.fld .ROUTE_TBL_INDEX_EPOCH) = false →
    Completes (.routeTblCommit party v) s (fun t => t.fld .ROUTE_TBL_STATUS_REJECT = 1 ∧ t.fld .ROUTE_TBL_STATUS_CODE = E_ROUTE_TABLE_INVALID ∧
      t = { s with regs := t.regs, held := t.held } ∧ RegsBut s t [(.ROUTE_TBL_STATUS_REJECT, 0), (.ROUTE_TBL_STATUS_CODE, 0)])) ∧
  (∀ (party : Party) (j v : Nat) (s : State), party ≠ .mgmt → s.slotState j = slotFree →
    Completes (.slotConfigWrite party j 0 v) s (fun t => t.fld .SLOT_CFG_JOB_TAG j = v % 2 ^ 16 ∧ t.fld .SLOT_CFG_KIND j = v / 2 ^ 16 % 2 ∧
      t.fld .SLOT_CFG_PARTITION j = v / 2 ^ 17 % 16 ∧ t.fld .SLOT_CFG_EPOCH j = v / 2 ^ 21 % 2 ∧
      OnlyRegs s t [(.SLOT_CFG_JOB_TAG, j), (.SLOT_CFG_KIND, j), (.SLOT_CFG_PARTITION, j), (.SLOT_CFG_EPOCH, j)]) ∧
    Completes (.slotConfigWrite party j 1 v) s (fun t => t.fld .SLOT_RANK j = v % 2 ^ 16 ∧ OnlyRegs s t [(.SLOT_RANK, j)]) ∧
    Completes (.slotConfigWrite party j 2 v) s (fun t => t.fld .SLOT_PORTS0 j = v % 2 ^ 32 ∧ OnlyRegs s t [(.SLOT_PORTS0, j)]) ∧
    Completes (.slotConfigWrite party j 3 v) s (fun t => t.fld .SLOT_PORTS1 j = v % 2 ^ 32 ∧ OnlyRegs s t [(.SLOT_PORTS1, j)])) ∧
  (∀ (party : Party) (j v : Nat) (s : State), party ≠ .mgmt → s.slotState j ≠ slotFree →
    Completes (.slotConfigWrite party j 1 v) s (fun t => t.fld .SLOT_STATUS_REJECT j = 1 ∧ t.fld .SLOT_STATUS_CODE j = E_ROUTE_STATE ∧
      OnlyRegs s t [(.SLOT_STATUS_REJECT, j), (.SLOT_STATUS_CODE, j)]))

/-- Packets leaving and entering at ports (09 R297 to R301; 08 R280 to R283): a packet leaves with the generation in force, sealed under its next
number where that generation is SEALED, or is discarded at a port that is not live; an arriving packet for this rank is delivered to the slot's
partition, one for another rank waits for its egress port, one of no job is counted; a waiting packet goes on whole. -/
def Obligations.PortPackets : Prop :=
  (∀ (k : Pkt) (j : Nat) (s : State), s.lands k → (∀ d ∈ (s.port (k.addr % 32)).dropOut, d.key ≠ xferKey k) → s.portLive (k.addr % 32) →
    s.kgenState k.part (s.fld .SEC_PART_SEND_KGEN k.part) = 1 → s.jobSlot k.tag = some j →
    Completes (.egressPacketSend k) s (fun t => (t.port (k.addr % 32)).egress = (s.port (k.addr % 32)).egress ++
        pktSlots { pkt := k, epoch := k.addr / 32 % 2, lvc := k.tclass, kgen := s.fld .SEC_PART_SEND_KGEN k.part, port := k.addr % 32 } ∧
      t.fld .SLOT_PKTS j = (s.fld .SLOT_PKTS j + 1) % 2 ^ 32 ∧ t = { s with regs := t.regs, ports := t.ports, parts := t.parts, flight := t.flight } ∧ RegsBut s t [(.SLOT_PKTS, j)])) ∧
  (∀ (k : Pkt) (gen c : Nat) (s : State), s.lands k → (∀ d ∈ (s.port (k.addr % 32)).dropOut, d.key ≠ xferKey k) → s.portLive (k.addr % 32) →
    s.fld .SEC_PART_SEND_KGEN k.part = gen → s.kgenState k.part gen = 2 → s.sealCount k.part gen (k.addr % 32) = c → c < 2 ^ 64 - 1 →
    Completes (.egressPacketSend k) s (fun t => (t.port (k.addr % 32)).egress = (s.port (k.addr % 32)).egress ++
        pktSlots (sealed (bankGet 0 s.jobKeys (sealKey k.part gen)) { pkt := k, epoch := k.addr / 32 % 2, lvc := k.tclass, kgen := gen, port := k.addr % 32, isSealed := true, seq := c }) ∧
      t.sealCount k.part gen (k.addr % 32) = c + 1 ∧ t.mem = s.mem ∧ t.cores = s.cores ∧ t.outs = s.outs ∧ t.jobKeys = s.jobKeys)) ∧
  (∀ (k : Pkt) (s : State), s.lands k → (∀ d ∈ (s.port (k.addr % 32)).dropOut, d.key ≠ xferKey k) → s.portLive (k.addr % 32) = false →
    s.fld .ROUTE_ERROR_CODE = 0 →
    Completes (.egressPacketSend k) s (fun t => t.fld .ROUTE_DISCARD (k.addr % 32) = (s.fld .ROUTE_DISCARD (k.addr % 32) + 1) % 2 ^ 32 ∧
      t.fld .ROUTE_ERROR_CODE = E_ROUTE_DEAD_PORT ∧ ((s.pstate k.part).active → t.pstate k.part = .fault) ∧
      (t.port (k.addr % 32)).egress = (s.port (k.addr % 32)).egress ∧ (k.final = false → { key := xferKey k, counts := true } ∈ (t.port (k.addr % 32)).dropOut) ∧ t.mem = s.mem ∧ t.cores = s.cores)) ∧
  (∀ (k : Pkt) (s : State), s.lands k → (∃ d ∈ (s.port (k.addr % 32)).dropOut, d.key = xferKey k) →
    Completes (.egressPacketSend k) s (fun t => t.fld .ROUTE_DISCARD (k.addr % 32) = (s.fld .ROUTE_DISCARD (k.addr % 32) + 1) % 2 ^ 32 ∧
      (t.port (k.addr % 32)).egress = (s.port (k.addr % 32)).egress ∧ (k.final → ∀ d ∈ (t.port (k.addr % 32)).dropOut, d.key ≠ xferKey k) ∧
      t.mem = s.mem ∧ t.cores = s.cores ∧ t.outs = s.outs ∧ RegsBut s t [(.ROUTE_DISCARD, k.addr % 32)])) ∧
  (∀ (n j : Nat) (k : LPkt) (rest : List LPkt) (s : State), s.sharedPaused = false → (s.port n).ingress = k :: rest →
    s.jobSlot k.pkt.tag = some j → (s.slotPorts j).testBit n → s.slotState j ≠ slotDrained → s.fld .SLOT_CFG_KIND j = 0 → k.pkt.dstRank = s.fld .SLOT_RANK j →
    k.epoch = s.fld .SLOT_CFG_EPOCH j → s.unsealOk (s.fld .SLOT_CFG_PARTITION j) k →
    Completes (.ingressDeliver n (k.lvc % s.portVcs n)) s (fun t => t.outs = s.outs ++ [.packet { k.pkt with part := s.fld .SLOT_CFG_PARTITION j }] ∧
      (t.port n).ingress = rest ∧ t.fld .SLOT_PKTS j = (s.fld .SLOT_PKTS j + 1) % 2 ^ 32 ∧ t.flight = s.flight ++ [{ k.pkt with part := s.fld .SLOT_CFG_PARTITION j, bad := [] }] ∧
      t = { s with regs := t.regs, ports := t.ports, flight := t.flight, outs := t.outs } ∧ RegsBut s t [(.SLOT_PKTS, j)])) ∧
  (∀ (n j : Nat) (k : LPkt) (rest : List LPkt) (s : State), s.sharedPaused = false → (s.port n).ingress = k :: rest →
    s.jobSlot k.pkt.tag = some j → (s.slotPorts j).testBit n → s.slotState j ≠ slotDrained → s.fld .SLOT_CFG_KIND j = 0 → k.pkt.dstRank = s.fld .SLOT_RANK j →
    k.epoch = s.fld .SLOT_CFG_EPOCH j → s.unsealOk (s.fld .SLOT_CFG_PARTITION j) k = false → (s.pstate (s.fld .SLOT_CFG_PARTITION j)).active →
    Completes (.ingressDeliver n (k.lvc % s.portVcs n)) s (fun t => t.fld .LINK_AUTH_FAIL n = (s.fld .LINK_AUTH_FAIL n + 1) % 2 ^ 32 ∧
      t.pstate (s.fld .SLOT_CFG_PARTITION j) = .fault ∧ (∀ q ∈ (t.port n).ingress, xferKey q.pkt ≠ xferKey k.pkt) ∧ (∀ q, .packet q ∈ t.outs → .packet q ∈ s.outs) ∧ t.mem = s.mem ∧ t.cores = s.cores)) ∧
  (∀ (n j m : Nat) (k : LPkt) (e : RankEntry) (rest : List LPkt) (s : State), s.sharedPaused = false → (s.port n).ingress = k :: rest →
    s.jobSlot k.pkt.tag = some j → (s.slotPorts j).testBit n → s.slotState j ≠ slotDrained → (s.fld .SLOT_CFG_KIND j = 1 ∨ k.pkt.dstRank ≠ s.fld .SLOT_RANK j) →
    s.rankLookup j k.epoch k.pkt.dstRank = some e → choosePort e (e.ports / 2 ^ (n / 4 * 4) % 16 * 2 ^ (n / 4 * 4)) k.pkt = some m → m ≠ n → s.portLive m →
    Completes (.ingressDeliver n (k.lvc % s.portVcs n)) s (fun t => (t.port n).waiting = (s.port n).waiting ++ [(k, m, (k.lvc + e.inc) % 8)] ∧
      (t.port n).ingress = rest ∧ t = { s with ports := t.ports } ∧ ∀ i, i ≠ n → t.port i = s.port i)) ∧
  (∀ (n j : Nat) (k : LPkt) (e : RankEntry) (rest : List LPkt) (s : State), s.sharedPaused = false → (s.port n).ingress = k :: rest →
    s.jobSlot k.pkt.tag = some j → (s.slotPorts j).testBit n → s.slotState j ≠ slotDrained → (s.fld .SLOT_CFG_KIND j = 1 ∨ k.pkt.dstRank ≠ s.fld .SLOT_RANK j) →
    s.rankLookup j k.epoch k.pkt.dstRank = some e → choosePort e (e.ports / 2 ^ (n / 4 * 4) % 16 * 2 ^ (n / 4 * 4)) k.pkt = some n → s.fld .ROUTE_ERROR_CODE = 0 →
    (∀ q ∈ rest, xferKey q.pkt ≠ xferKey k.pkt) → (s.port n).rx = none →
    Completes (.ingressDeliver n (k.lvc % s.portVcs n)) s (fun t => t.fld .ROUTE_DISCARD n = (s.fld .ROUTE_DISCARD n + 1) % 2 ^ 32 ∧
      t.fld .ROUTE_ERROR_CODE = E_ROUTE_U_TURN ∧ (t.port n).ingress = rest ∧ (t.port n).waiting = (s.port n).waiting ∧ t.mem = s.mem ∧ t.cores = s.cores)) ∧
  (∀ (n : Nat) (k : LPkt) (rest : List LPkt) (s : State), s.sharedPaused = false → (s.port n).ingress = k :: rest → s.jobSlot k.pkt.tag = none → k.pkt.tag < 2 ^ 16 →
    Completes (.ingressDeliver n (k.lvc % s.portVcs n)) s (fun t => t.fld .ROUTE_FOREIGN n = (s.fld .ROUTE_FOREIGN n + 1) % 2 ^ 32 ∧
      t.fld .ROUTE_FOREIGN_TAG n = k.pkt.tag ∧ t = { s with regs := t.regs, ports := t.ports } ∧ RegsBut s t [(.ROUTE_FOREIGN, n), (.ROUTE_FOREIGN_TAG, n)])) ∧
  (∀ (n m lvc j : Nat) (k : LPkt) (rest : List (LPkt × Nat × Nat)) (s : State), s.sharedPaused = false → (s.port n).waiting = (k, m, lvc) :: rest → m ≠ n → s.portLive m →
    s.jobSlot k.pkt.tag = some j →
    Completes (.transitForwardStart n m) s (fun t => (t.port n).waiting = rest ∧ (t.port m).egress = (s.port m).egress ++ pktSlots { k with lvc := lvc } ∧
      t.fld .ROUTE_TRANSIT n = (s.fld .ROUTE_TRANSIT n + 1) % 2 ^ 32 ∧ t.fld .SLOT_PKTS j = (s.fld .SLOT_PKTS j + 1) % 2 ^ 32 ∧
      t = { s with regs := t.regs, ports := t.ports, obs := t.obs } ∧ RegsBut s t [(.ROUTE_TRANSIT, n), (.SLOT_PKTS, j)]))

/-- References and clock steps (10 R313 to R320): a candidate that fails gives way to the next good one, or to the crystal, in holdover where a
control word is held; one that has requalified is taken where it is better; an unlocked PLL faults every partition that is not IDLE; a die's step
is requested, changed while it runs and recorded while it is gated.
That the PLL and the references are told by events: log entry 6. -/
def Obligations.ClockReferences : Prop :=
  (∀ (d : Nat) (diff : Int) (s : State),
    (1 < diff.natAbs → Completes (.timeSyncWord d diff) s (fun t => t.fld .TIME_COPY_FIX = (s.fld .TIME_COPY_FIX + 1) % 2 ^ 32 ∧ t.dieNow d = t.now ∧
      t = { s with regs := t.regs, clock := t.clock } ∧ RegsBut s t [(.TIME_COPY_FIX, 0)])) ∧
    (diff.natAbs ≤ 1 → Completes (.timeSyncWord d diff) s (fun t => bankGet 0 t.clock.copies d = unsgn 64 diff ∧ t = { s with clock := t.clock }))) ∧
  (∀ s : State, s.fld .CLK_STATUS_REF_SEL ≠ 0 →
    Completes (.refLost 0) s (fun t => t.fld .CLK_STATUS_REFCLK_OK = 0 ∧ 0 ∉ t.clock.requal ∧ t = { s with regs := t.regs, clock := t.clock } ∧
      RegsBut s t [(.CLK_STATUS_REFCLK_OK, 0)])) ∧
  (∀ (c x : Nat) (s : State), c < 2 → s.fld .CLK_STATUS_REF_SEL = c → s.refList.find? (fun y => y ≠ 2 && y ≠ c && s.refGood y) = some x →
    Completes (.refLost c) s (fun t => t.fld .CLK_STATUS_REF_SEL = x ∧ t.fld .CLK_STATUS_CLK_HOLDOVER = 0 ∧ t.fld .CLK_STATUS_REF_SWITCHED = 1 ∧
      t.fld .CLK_STATUS_LOR = 1 ∧ t.fld .TIME_ERROR_VALID ≠ 0 ∧ t.mem = s.mem ∧ t.cores = s.cores)) ∧
  (∀ (c : Nat) (s : State), c < 2 → s.fld .CLK_STATUS_REF_SEL = c → s.refList.find? (fun y => y ≠ 2 && y ≠ c && s.refGood y) = none → s.holdsWord →
    Completes (.refLost c) s (fun t => t.fld .CLK_STATUS_REF_SEL = 2 ∧ t.fld .CLK_STATUS_CLK_HOLDOVER = 1 ∧ t.fld .CLK_STATUS_LOR = 1 ∧ t.mem = s.mem ∧ t.cores = s.cores)) ∧
  (∀ (c : Nat) (s : State), c < 2 → Completes (.refRequalified c false) s (fun t => t.refGood c ∧ t.fld .CLK_STATUS_REF_SEL = s.fld .CLK_STATUS_REF_SEL ∧
    t = { s with regs := t.regs })) ∧
  (∀ (c : Nat) (s : State), c < 2 → s.flag .CLK_CTRL_AUTO → s.refRank c < s.refRank (s.fld .CLK_STATUS_REF_SEL) →
    s.refList.find? (fun x => x < 2 && (x = c || (s.refGood x && s.clock.requal.contains x))) = some c →
    Completes (.refRequalified c true) s (fun t => t.refGood c ∧ t.fld .CLK_STATUS_REF_SEL = c ∧ t.fld .CLK_STATUS_CLK_HOLDOVER = 0 ∧ t.fld .CLK_STATUS_REF_SWITCHED = 1 ∧
      t = { s with regs := t.regs, clock := t.clock })) ∧
  (∀ s : State, Completes .aoRefclkLost s (fun t => t.fld .CLK_STATUS_AO_LOCKED = 0 ∧ OnlyRegs s t [(.CLK_STATUS_AO_LOCKED, 0)]) ∧
    Completes .aoRelock s (fun t => t.fld .CLK_STATUS_AO_LOCKED = 1 ∧ OnlyRegs s t [(.CLK_STATUS_AO_LOCKED, 0)])) ∧
  (∀ s : State, s.flag .TIME_ERROR_VALID = false →
    Completes .pllUnlock s (fun t => t.fld .CLK_STATUS_PLL_LOCKED = 0 ∧ t.fld .TIME_ERROR_CODE = E_TIME_PLL_UNLOCK ∧ t.flag .MGMT_STATUS_FAULT ∧ t.clock.pllFailed ∧
      (∀ p < 16, s.pstate p ≠ .idle → t.pstate p = .fault) ∧ t.mem = s.mem ∧ t.cores = s.cores)) ∧
  (∀ (nn : Nat) (s : State), s.inRun → (s.domain nn).st = .off →
    Completes (.dieWake nn) s (fun t => (t.domain nn).st = .waking ∧ t = { s with domains := t.domains, power := t.power } ∧ ∀ k, k ≠ nn → t.domain k = s.domain k)) ∧
  (∀ (nn : Nat) (s : State), s.inRun = false → Completes (.dieWake nn) s (fun t => t = s)) ∧
  (∀ (nn : Nat) (s : State), (s.domain nn).st = .waking → (s.domain nn).drop = false →
    Completes (.dieWakeComplete nn) s (fun t => s.awake nn = false ∧ t.awake nn ∧ (t.die nn).step = (if (s.die nn).newest = 0 then (s.die nn).step else (s.die nn).newest) ∧
      t = { s with domains := t.domains, dies := t.dies } ∧ ∀ k, k ≠ nn → t.domain k = s.domain k ∧ t.die k = s.die k)) ∧
  (∀ (nn : Nat) (s : State), s.awake nn → (s.die nn).changing = 0 → (s.die nn).now ≠ s.wantedStep nn →
    Completes (.clockStepRequest nn) s (fun t => t.die nn = { s.die nn with changing := s.wantedStep nn + 1 } ∧ t = { s with dies := t.dies })) ∧
  (∀ (nn : Nat) (s : State), (s.awake nn = false ∨ (s.die nn).changing ≠ 0) →
    Completes (.clockStepRequest nn) s (fun t => t.die nn = { s.die nn with newest := s.wantedStep nn + 1 } ∧ t = { s with dies := t.dies })) ∧
  (∀ (nn : Nat) (s : State), (s.die nn).changing ≠ 0 →
    Completes (.clockStepSwitch nn) s (fun t => (t.die nn).step = (s.die nn).changing ∧ (t.die nn).newest = 0 ∧
      ((s.die nn).newest ≠ (s.die nn).changing → (t.die nn).changing = (s.die nn).newest) ∧
      t.fld .CLK_STEP_COUNT = (s.fld .CLK_STEP_COUNT + 1) % 2 ^ 32 ∧ t = { s with regs := t.regs, dies := t.dies } ∧ RegsBut s t [(.CLK_STEP_COUNT, 0)]))

/-- Rate, step and time of day (10 R322 to R327, R340, R343): a rate within its limit is taken and leaves the corrected time as it was; a step
moves the corrected time by its amount; one beyond the jump limit is refused and counted; a follower refuses writes; S_OFFSET is committed whole and
carries 2^64 units over a wrap. -/
def Obligations.TimeRegisters : Prop :=
  (∀ (party : Party) (hi : Nat) (s : State),
    let v := (s.commitPair party rateAddr (s.fld .TIME_RATE_LO) hi).1
    s.timeWritable → (sgn 64 v).natAbs ≤ 2 ^ 36 →
    Completes (.timeRateWrite party hi) s (fun t => t.timeRate = sgn 64 v ∧ t.now = s.now ∧ t = { s with regs := t.regs, held := t.held, clock := t.clock } ∧
      RegsBut s t [(.TIME_OFFSET_LO, 0), (.TIME_OFFSET_HI, 0), (.TIME_RATE_LO, 0), (.TIME_RATE_HI, 0)])) ∧
  (∀ (party : Party) (hi : Nat) (s : State),
    let v := (s.commitPair party rateAddr (s.fld .TIME_RATE_LO) hi).1
    s.timeWritable → 2 ^ 36 < (sgn 64 v).natAbs → s.flag .TIME_ERROR_VALID = false →
    Completes (.timeRateWrite party hi) s (fun t => t.timeRate = s.timeRate ∧ t.now = s.now ∧ t.fld .TIME_STATUS_CMD_REJECT = 1 ∧
      t.fld .TIME_ERROR_CODE = E_TIME_RATE_RANGE ∧ t.mem = s.mem ∧ t.cores = s.cores)) ∧
  (∀ (party : Party) (x : Nat) (s : State), s.timeWritable = false → s.flag .TIME_ERROR_VALID = false →
    ∀ c ∈ [Instr.timeRateWrite party x, .timeStepWrite party x, .timeSOffsetCommit party x],
      Completes c s (fun t => t.fld .TIME_STATUS_CMD_REJECT = 1 ∧ t.fld .TIME_ERROR_CODE = E_TIME_WRITE_REFUSED ∧ t.now = s.now ∧ t.timeRate = s.timeRate ∧
        t.sOffset = s.sOffset ∧ t.mem = s.mem ∧ t.cores = s.cores)) ∧
  (∀ (party : Party) (hi : Nat) (s : State),
    let amt := sgn 64 (s.commitPair party stepAddr 0 hi).1
    s.timeWritable → s.stepRefused amt = false →
    Completes (.timeStepWrite party hi) s (fun t => t.now = unsgn 64 (s.now + amt) ∧ t.fld .TIME_STATUS_SET = 1 ∧ t.fld .TIME_STATUS_ACCEPT_ARMED = 0 ∧
      t = { s with regs := t.regs, held := t.held, clock := t.clock } ∧
      RegsBut s t [(.TIME_OFFSET_LO, 0), (.TIME_OFFSET_HI, 0), (.TIME_STATUS_SET, 0), (.TIME_STATUS_ACCEPT_ARMED, 0)])) ∧
  (∀ (party : Party) (hi : Nat) (s : State), s.timeWritable → s.stepRefused (sgn 64 (s.commitPair party stepAddr 0 hi).1) → s.flag .TIME_ERROR_VALID = false →
    Completes (.timeStepWrite party hi) s (fun t => t.now = s.now ∧ t.fld .TIME_STATUS_JUMP_REFUSED = 1 ∧ t.fld .TIME_JUMPS = (s.fld .TIME_JUMPS + 1) % 2 ^ 32 ∧
      t.fld .TIME_ERROR_CODE = E_TIME_JUMP_REFUSED)) ∧
  (∀ (party : Party) (hi : Bool) (v : Nat) (s : State),
    Completes (.timeSOffsetHoldWrite party hi v) s (fun t => bankGet 0 t.held (pairKey party (if hi then sOffHiAddr else sOffLoAddr)) = v % 2 ^ 32 + 1 ∧ t = { s with held := t.held })) ∧
  (∀ (party : Party) (ext lo hi : Nat) (s : State), s.timeWritable → lo < 2 ^ 32 → hi < 2 ^ 32 → ext < 2 ^ 20 →
    bankGet 0 s.held (pairKey party sOffLoAddr) = lo + 1 → bankGet 0 s.held (pairKey party sOffHiAddr) = hi + 1 →
    Completes (.timeSOffsetCommit party ext) s (fun t => t.sOffset = lo + hi * 2 ^ 32 + ext * 2 ^ 64 ∧
      (s.sOffset ≠ t.sOffset → t.fld .TIME_TOD_CHANGES = (s.fld .TIME_TOD_CHANGES + 1) % 2 ^ 32) ∧ t.clock.todVersion = (s.clock.todVersion + 1) % 256 ∧
      t = { s with regs := t.regs, held := t.held, clock := t.clock } ∧
      RegsBut s t [(.TIME_S_OFFSET_LO, 0), (.TIME_S_OFFSET_HI, 0), (.TIME_S_OFFSET_EXT, 0), (.TIME_TOD_CHANGES, 0)])) ∧
  (∀ s : State, Completes .timeWrap s (fun t => t.sOffset = addTod s.sOffset 288230376 151711744 0 ∧
    OnlyRegs s t [(.TIME_S_OFFSET_LO, 0), (.TIME_S_OFFSET_HI, 0), (.TIME_S_OFFSET_EXT, 0)]))

/-- Roles and parents (10 R336, R341, R342, Table 10.7) and the pulse per second (R338, R339).
The second that a pulse steps to, and PPS_OUT after a step, are the model's readings (log entries 31, 88). -/
def Obligations.TimeRoles : Prop :=
  (∀ s : State, Completes .timeRoleOff s (fun t => t.timeState = timeOffSt ∧ t.fld .TIME_CTRL_ROLE = 0 ∧ t.fld .TIME_STATUS_PARENT_VALID = 0 ∧ t.now = s.now ∧
    t = { s with regs := t.regs, clock := t.clock } ∧ RegsBut s t [(.TIME_STATUS_STATE, 0), (.TIME_CTRL_ROLE, 0), (.TIME_STATUS_PARENT_VALID, 0)])) ∧
  (∀ s : State, Completes .timeRoleGrandmaster s (fun t => t.timeState = timeGm ∧ t.fld .TIME_CTRL_ROLE = 2 ∧ t.fld .TIME_STATUS_PARENT_VALID = 0 ∧
    t.fld .TIME_STATUS_HOPS = 0 ∧ t.fld .TIME_STATUS_SET = 1 ∧ t.now = s.now ∧ t.mem = s.mem ∧ t.cores = s.cores)) ∧
  (∀ (n : Nat) (s : State), (s.timeState = timeOffSt ∨ s.timeState = timeGm) → s.candidates.find? s.usable = some n → n < 32 →
    Completes .timeRoleFollower s (fun t => t.timeState = timeAcquire ∧ t.fld .TIME_CTRL_ROLE = 1 ∧ t.fld .TIME_STATUS_PARENT = n ∧ t.fld .TIME_STATUS_PARENT_VALID = 1 ∧
      t.fld .TIME_STATUS_HOPS = ((s.tport n).hops + 1) % 16 ∧ t.now = s.now ∧ t.mem = s.mem ∧ t.cores = s.cores)) ∧
  (∀ s : State, (s.timeState = timeOffSt ∨ s.timeState = timeGm) → (∀ n ∈ s.candidates, s.usable n = false) →
    Completes .timeRoleFollower s (fun t => t.timeState = (if s.flag .TIME_STATUS_SET then timeHoldover else timeAcquire) ∧ t.fld .TIME_CTRL_ROLE = 1 ∧
      t.fld .TIME_STATUS_PARENT_VALID = 0 ∧ t.now = s.now)) ∧
  (∀ s : State, Completes .timeAcceptStep s (fun t => t.fld .TIME_STATUS_ACCEPT_ARMED = 1 ∧ (∀ n < 32, t.fld .TPORT_STATUS_REFUSED n = 0) ∧ t.now = s.now ∧
    t.mem = s.mem ∧ t.cores = s.cores)) ∧
  (∀ s : State, s.timeRole = 1 → s.timeState = timeAcquire → s.flag .TIME_STATUS_SET = false → (∀ n ∈ s.candidates, s.usable n = false) → s.flag .TIME_ERROR_VALID = false →
    Completes .noParentTimeout s (fun t => t.fld .TIME_ERROR_CODE = E_TIME_NO_PARENT ∧ t.fld .TIME_ERROR_VALID = 1 ∧ t.bit .INT_STATUS_LO 5 ∧
      t = { s with regs := t.regs, events := t.events, outs := t.outs, host := t.host } ∧
      RegsBut s t [(.TIME_ERROR_CODE, 0), (.TIME_ERROR_VALID, 0), (.INT_STATUS_LO, 0), (.MGMT_STATUS_ALERT, 0), (.MGMT_EVENTS_LOST, 0)])) ∧
  (∀ (n m : Nat) (s : State), s.fld .TIME_STATUS_PARENT = n → s.isParent n → s.usable n = false → s.candidates.find? (fun x => x ≠ n && s.usable x) = some m → m < 32 →
    s.timeState ≠ timeSynced →
    Completes .parentLost s (fun t => t.timeState = timeAcquire ∧ t.fld .TIME_STATUS_PARENT = m ∧ t.fld .TIME_STATUS_PARENT_VALID = 1 ∧ t.now = s.now ∧ t.mem = s.mem ∧ t.cores = s.cores)) ∧
  (∀ (n m : Nat) (s : State), s.fld .TIME_STATUS_PARENT = n → s.isParent n → s.timeState = timeSynced →
    (s.candidates.takeWhile (fun x => x ≠ n)).find? s.usable = some m → m < 32 →
    Completes .parentPrioritySwitch s (fun t => t.timeState = timeAcquire ∧ t.fld .TIME_STATUS_PARENT = m ∧ t.fld .TIME_STATUS_PARENT_VALID = 1 ∧ t.now = s.now ∧
      t.mem = s.mem ∧ t.cores = s.cores)) ∧
  (∀ s : State, s.timeState ≠ timeGm → Completes .ppsInEdge s (fun t => t = { s with clock := t.clock } ∧ t.clock.ppsF = s.now ∧ t.clock.ppsS = s.todOf s.now)) ∧
  (∀ s : State, s.timeState = timeGm → s.flag .TIME_CTRL_PPS_IN_EN → s.clock.ppsFirst → s.stepRefused (toSecond (s.todOf s.now)) = false →
    Completes .ppsInEdge s (fun t => t.now = unsgn 64 (s.now + toSecond (s.todOf s.now)) ∧ t.clock.ppsFirst = false ∧ t.fld .TIME_STATUS_PPS_MISSING = 0 ∧
      t = { s with regs := t.regs, clock := t.clock })) ∧
  (∀ s : State, s.timeState = timeGm → s.flag .TIME_CTRL_PPS_IN_EN → s.flag .TIME_ERROR_VALID = false →
    Completes .ppsMissingTimeout s (fun t => t.fld .TIME_STATUS_PPS_MISSING = 1 ∧ t.fld .TIME_STATUS_GM_HOLDOVER = 1 ∧ t.fld .TIME_ERROR_CODE = E_TIME_PPS_MISSING ∧
      t.mem = s.mem ∧ t.cores = s.cores)) ∧
  (∀ s : State, s.flag .TIME_CTRL_PPS_OUT_EN → s.todOf s.now % 2 ^ 36 < 64 → s.clock.ppsLast ≠ some (todSec (s.todOf s.now)) →
    Completes .ppsOutRise s (fun t => t.clock.ppsOut = some s.raw ∧ t.clock.ppsLast = some (todSec (s.todOf s.now)) ∧ t = { s with clock := t.clock })) ∧
  (∀ s : State, (64 ≤ s.todOf s.now % 2 ^ 36 ∨ s.clock.ppsLast = some (todSec (s.todOf s.now))) → Completes .ppsOutRise s (fun t => t = s)) ∧
  (∀ (m : Nat) (s : State), s.clock.ppsOut = some m → s.elapsed m (max 1 (s.fld .PPS_OUT_CFG) * 1000) →
    Completes .ppsOutFall s (fun t => t.clock.ppsOut = none ∧ t = { s with clock := t.clock }))

/-- The time protocol (10 R328 to R335): a period sends the next MARK with its stamp, and every sixteenth the announcement; a MARK is answered
with its receive stamp; the stamp that completes an exchange gives offset and delay; ANNOUNCE, TOD and ASYM are taken over as the tables say.
Inexact quotients are free values, GM_ID is the low half of KEY_ID, a darned lane's skew is the one measured last: log entries 32, 33, 86. -/
def Obligations.TimeProtocol : Prop :=
  (∀ (n ph : Nat) (s : State), s.timeLive n → (s.timeRole ≠ 1 ∨ s.flag .TIME_STATUS_PARENT_VALID) →
    Completes (.timePeriodElapse n ph) s (fun t => (t.port n).timeMsgs = (s.port n).timeMsgs ++
        ([{ op := 1, id := (s.tport n).nextMark }, { op := 2, id := (s.tport n).nextMark, payload := s.stampTx n ph }] ++ (if (s.tport n).tick = 15 then s.announceMsgs else [])) ∧
      (t.tport n).nextMark = ((s.tport n).nextMark + 1) % 256 ∧ (t.tport n).tick = ((s.tport n).tick + 1) % 16 ∧
      t = { s with regs := t.regs, ports := t.ports, tports := t.tports } ∧ RegsBut s t [(.TPORT_LOST, n), (.TPORT_STATUS_ANNOUNCE_OK, n)])) ∧
  (∀ (n id ph : Nat) (s : State), s.timeLive n → (s.flag .LINK_STATUS_DARNED n && s.fld .LINK_STATUS_DARN_LANE n = s.refLane n) = false →
    Completes (.timeMark n id ph) s (fun t => (t.port n).timeMsgs = (s.port n).timeMsgs ++ [{ op := 3, id := id, payload := s.stampTx n ph }] ∧
      (t.tport n).exchs = (s.tport n).exchs.filter (fun e => e.m ≠ id) ++ [{ m := id, t2 := s.stampTx n ph }] ∧ t = { s with ports := t.ports, tports := t.tports })) ∧
  (∀ (n id ph c : Nat) (d : Int) (s : State), s.timeLive n → s.flag .LINK_STATUS_DARNED n → s.fld .LINK_STATUS_DARN_LANE n = s.refLane n →
    (s.tport n).skew = some (c, 16 * d) →
    Completes (.timeMark n id ph) s (fun t => (t.port n).timeMsgs = (s.port n).timeMsgs ++ [{ op := 3, id := id, payload := unsgn 64 ((s.stampTx n ph : Int) - d) }] ∧
      t = { s with ports := t.ports, tports := t.tports })) ∧
  (∀ (n own t2 t3 t4 mark : Nat) (m : TimeMsg) (s : State), s.timeLive n → s.isParent n = false → s.raw ≤ mark + 2 * s.timePeriod →
    (s.tport n).exchs = [{ m := m.id, t2 := t2, own := some (own, t3, mark), t4 := some t4 }] → exchangeExact s n (m.payload % 2 ^ 64) t2 t3 t4 →
    Completes (.txStamp n m) s (fun t => ExchangeDone s t n (m.payload % 2 ^ 64) t2 t3 t4)) ∧
  (∀ (n i t1 t2 t3 mark : Nat) (m : TimeMsg) (s : State), s.timeLive n → s.isParent n = false → s.raw ≤ mark + 2 * s.timePeriod →
    (s.tport n).exchs = [{ m := i, t2 := t2, t1 := some t1, own := some (m.id, t3, mark) }] → exchangeExact s n t1 t2 t3 (m.payload % 2 ^ 64) →
    Completes (.rxStamp n m) s (fun t => ExchangeDone s t n t1 t2 t3 (m.payload % 2 ^ 64))) ∧
  (∀ (n i t1 t2 t3 mark : Nat) (m : TimeMsg) (s : State), s.timeLive n →
    (s.tport n).exchs = [{ m := i, t2 := t2, t1 := some t1, own := some (m.id, t3, mark) }] →
    (mark + 2 * s.timePeriod < s.raw ∨ stampDiff t2 t1 + stampDiff (m.payload % 2 ^ 64) t3 < 0) →
    Completes (.rxStamp n m) s (fun t => t.fld .TPORT_LOST n = (s.fld .TPORT_LOST n + 1) % 2 ^ 32 ∧ (t.tport n).exchs = [] ∧
      t = { s with regs := t.regs, tports := t.tports } ∧ RegsBut s t [(.TPORT_LOST, n)])) ∧
  (∀ (n : Nat) (m : TimeMsg) (s : State), s.timeLive n → s.timeRole ≠ 1 →
    Completes (.announce n m) s (fun t => (t.tport n).heard ∧ (t.tport n).age = 0 ∧ (t.tport n).domain = m.payload % 256 ∧ (t.tport n).hops = m.payload / 2 ^ 8 % 16 ∧
      (t.tport n).synced = m.payload.testBit 12 ∧ (t.tport n).gmHoldover = m.payload.testBit 14 ∧ (t.tport n).gmId = m.payload / 2 ^ 16 % 2 ^ 32 ∧
      t.fld .TPORT_STATUS_ANNOUNCE_OK n = 1 ∧ t.fld .TPORT_STATUS_PEER_HOPS n = m.payload / 2 ^ 8 % 16 ∧ t = { s with regs := t.regs, tports := t.tports } ∧
      RegsBut s t [(.TPORT_STATUS_ANNOUNCE_OK, n), (.TPORT_STATUS_PEER_SYNCED, n), (.TPORT_STATUS_PEER_HOPS, n)])) ∧
  (∀ (n b : Nat) (m : TimeMsg) (s : State), s.timeLive n → s.isParent n → (s.tport n).todB = some (m.id, b) → b < 2 ^ 36 →
    Completes (.todA n m) s (fun t => t.sOffset = m.payload % 2 ^ 48 * 2 ^ 36 + b ∧ t.clock.todVersion = m.id ∧ t = { s with regs := t.regs, tports := t.tports, clock := t.clock } ∧
      RegsBut s t [(.TIME_S_OFFSET_LO, 0), (.TIME_S_OFFSET_HI, 0), (.TIME_S_OFFSET_EXT, 0), (.TIME_TOD_CHANGES, 0)])) ∧
  (∀ (n sec : Nat) (m : TimeMsg) (s : State), s.timeLive n → s.isParent n → (s.tport n).todA = some (m.id, sec) → sec < 2 ^ 48 →
    Completes (.todB n m) s (fun t => t.sOffset = sec * 2 ^ 36 + m.payload % 2 ^ 30 * 64 + m.payload / 2 ^ 30 % 64 ∧ t.clock.todVersion = m.id)) ∧
  (∀ (n : Nat) (m : TimeMsg) (s : State), s.timeLive n → (s.tport n).skew = none →
    Completes (.asym n m) s (fun t => (t.tport n).peerSkew = some (m.id % 256, sgn 32 m.payload) ∧ t = { s with tports := t.tports })) ∧
  (∀ (n cycle : Nat) (skew b : Int) (s : State), s.timeLive n → s.flag .TPORT_STATUS_MEASURING n → (s.tport n).peerSkew = some (cycle % 256, b) →
    let v := skew - b + sgn 32 (s.fld .TPORT_ASYM_ADJ n)
    0 ≤ v + 2 ^ 31 → v < 2 ^ 31 →
    Completes (.asymMeasure n cycle skew) s (fun t => t.fld .TPORT_ASYM n = unsgn 32 v ∧ t.fld .TPORT_STATUS_ASYM_VALID n = 1 ∧ t.fld .TPORT_STATUS_MEASURING n = 0 ∧
      (t.port n).timeMsgs = (s.port n).timeMsgs ++ [{ op := 7, id := cycle % 256, payload := unsgn 32 skew }] ∧ t = { s with regs := t.regs, ports := t.ports, tports := t.tports })) ∧
  (∀ (n cycle : Nat) (skew : Int) (s : State), s.flag .TPORT_STATUS_MEASURING n = false → Completes (.asymMeasure n cycle skew) s (fun t => t = s))

/-- Accesses to HBM (11 R354, R356, R365, R368; Table 11.3): at an open stack a fabric write stores its bytes and is acknowledged and a read is
answered with the bytes; an uncorrectable word and a FAILED stack are answered with an error; a closed stack keeps the access waiting; the host is
served, denied or met by the hole above the memory; a line given back is written.
Accesses wait unless the stack is READY: the model's reading (log entry 57), and so are errors on the way (log entry 90). -/
def Obligations.HbmAccesses : Prop :=
  (∀ (k : Pkt) (s : State), s.lands { k with op := .memWrite } → s.stackState (nodeStack k.dstNode) = stackReady → (s.stack (nodeStack k.dstNode)).waiting = [] →
    s.chanServes (nodeStack k.dstNode) (pseudoCh k.addr) → s.heldLines (.pkt { k with op := .memWrite } 0) = [] → k.bad = [] → k.srcRank = s.ownRank k.part →
    Completes (.hbmWriteArrive k) s (fun t => (∀ j b, k.data[j]? = some b → t.hbmByte (nodeStack k.dstNode) (k.addr + j) = b) ∧
      (∀ a, (a < deviceByte (nodeStack k.dstNode) k.addr ∨ deviceByte (nodeStack k.dstNode) k.addr + k.data.length ≤ a) → bankGet 0 t.mem.hbm a = bankGet 0 s.mem.hbm a) ∧
      t.outs = s.outs ++ [.packet (answer k .ack)] ∧ t.mem = { s.mem with hbm := t.mem.hbm } ∧ (t.stack (nodeStack k.dstNode)).waiting = [] ∧
      t = { s with regs := t.regs, mem := t.mem, hbmBad := t.hbmBad, hbmFix := t.hbmFix, outs := t.outs, parts := t.parts, flight := t.flight, hbmStacks := t.hbmStacks } ∧
      RegsBut s t [(.HBM_CE, nodeStack k.dstNode)])) ∧
  (∀ (k : Pkt) (odecc : Nat) (s : State), s.lands { k with op := .memRead } → s.stackState (nodeStack k.dstNode) = stackReady → (s.stack (nodeStack k.dstNode)).waiting = [] →
    s.chanServes (nodeStack k.dstNode) (pseudoCh k.addr) → s.heldLines (.pkt { k with op := .memRead } odecc) = [] → k.bad = [] → s.hbmBad = [] → k.srcRank = s.ownRank k.part →
    Completes (.hbmReadArrive k odecc) s (fun t => t.outs = s.outs ++ [.packet { answer k .readResp with data := s.hbmRead (nodeStack k.dstNode) k.addr k.len }] ∧
      t.fld .HBM_ODECC (nodeStack k.dstNode) = (s.fld .HBM_ODECC (nodeStack k.dstNode) + odecc) % 2 ^ 32 ∧
      t = { s with regs := t.regs, outs := t.outs, parts := t.parts, flight := t.flight, hbmStacks := t.hbmStacks } ∧
      RegsBut s t [(.HBM_CE, nodeStack k.dstNode), (.HBM_ODECC, nodeStack k.dstNode)])) ∧
  (∀ (k : Pkt) (odecc : Nat) (s : State), s.lands { k with op := .memRead } → s.stackState (nodeStack k.dstNode) = stackReady → (s.stack (nodeStack k.dstNode)).waiting = [] →
    s.chanServes (nodeStack k.dstNode) (pseudoCh k.addr) → s.heldLines (.pkt { k with op := .memRead } odecc) = [] →
    (s.hbmFound (nodeStack k.dstNode) k.addr k.len k.bad).any uncorrectable → k.srcRank = s.ownRank k.part →
    Completes (.hbmReadArrive k odecc) s (fun t => t.outs = s.outs ++ [.packet { answer k .errorResp with code := E_HBM_UNCORRECTABLE }] ∧ t.mem = s.mem ∧
      t.flag .HBM_UE_ADDR_HI_VALID (nodeStack k.dstNode))) ∧
  (∀ (k : Pkt) (s : State), s.lands { k with op := .memWrite } → s.lands { k with op := .memRead } → s.stackState (nodeStack k.dstNode) = stackFailed →
    (s.stack (nodeStack k.dstNode)).waiting = [] → k.srcRank = s.ownRank k.part → ∀ c ∈ [Instr.hbmWriteArrive k, .hbmReadArrive k 0],
    Completes c s (fun t => t.outs = s.outs ++ [.packet { answer k .errorResp with code := E_HBM_TRAIN_FAIL }] ∧
      t = { s with outs := t.outs, parts := t.parts, flight := t.flight, hbmStacks := t.hbmStacks })) ∧
  (∀ (k : Pkt) (s : State), s.lands { k with op := .memWrite } → s.heldLines (.pkt { k with op := .memWrite } 0) = [] → (s.stack (nodeStack k.dstNode)).waiting = [] →
    (s.stackState (nodeStack k.dstNode) = stackRinse ∨
      (s.stackState (nodeStack k.dstNode) = stackReady ∧ s.chanServes (nodeStack k.dstNode) (pseudoCh k.addr) = false)) →
    Completes (.hbmWriteArrive k) s (fun t => (t.stack (nodeStack k.dstNode)).waiting = [.pkt { k with op := .memWrite } 0] ∧
      t = { s with hbmStacks := t.hbmStacks, parts := t.parts, flight := t.flight })) ∧
  (∀ (r : HdmReq) (s : State), s.flag .HOST_LINK_MEM_ON → s.thimble.romRecovery = false → r.addr < 1280000000000 → s.hdmServed r → r.caches = false → r.bad = [] →
    s.stackState (hdmStack r.addr) = stackReady → (s.stack (hdmStack r.addr)).waiting = [] → s.chanServes (hdmStack r.addr) (pseudoCh (hdmAddr r.addr)) →
    (r.write → Completes (.hdmRequest r) s (fun t => (∀ j b, r.data[j]? = some b → t.hbmByte (hdmStack r.addr) (hdmAddr r.addr + j) = b) ∧ t.outs = s.outs ∧
      t = { s with regs := t.regs, mem := t.mem, hbmBad := t.hbmBad, hbmFix := t.hbmFix, hbmStacks := t.hbmStacks } ∧ RegsBut s t [(.HBM_CE, hdmStack r.addr)])) ∧
    (r.write = false → s.hbmBad = [] → Completes (.hdmRequest r) s (fun t =>
      t.outs = s.outs ++ [.hdmData r.addr (s.hbmRead (hdmStack r.addr) (hdmAddr r.addr) 64) false] ∧ t.mem = s.mem ∧
      t.fld .HBM_ODECC (hdmStack r.addr) = (s.fld .HBM_ODECC (hdmStack r.addr) + r.odecc) % 2 ^ 32 ∧
      RegsBut s t [(.HBM_CE, hdmStack r.addr), (.HBM_ODECC, hdmStack r.addr)]))) ∧
  (∀ (r : HdmReq) (s : State), s.flag .HOST_LINK_MEM_ON → s.thimble.romRecovery = false → r.addr < 1280000000000 → s.hdmServed r = false →
    Completes (.hdmRequest r) s (fun t => t.fld .HBM_HDM_DENY = (s.fld .HBM_HDM_DENY + 1) % 2 ^ 32 ∧ t.fld .HBM_HDM_DENY_INFO_SLICE = hdmSlice r.addr % 256 ∧
      t.fld .HBM_HDM_DENY_INFO_VALID = 1 ∧ t.mem = s.mem ∧ (r.write = false → .hdmData r.addr allOnes false ∈ t.outs))) ∧
  (∀ (r : HdmReq) (s : State), s.flag .HOST_LINK_MEM_ON → s.thimble.romRecovery = false → 1280000000000 ≤ r.addr →
    Completes (.hdmRequest r) s (fun t => t.fld .HOST_HDM_HOLE = (s.fld .HOST_HDM_HOLE + 1) % 2 ^ 32 ∧ t.mem = s.mem ∧
      t.outs = s.outs ++ (if r.write then [] else [.hdmData r.addr allOnes false]) ∧ RegsBut s t [(.HOST_HDM_HOLE, 0)])) ∧
  (∀ (r : HdmReq) (s : State), (s.flag .HOST_LINK_MEM_ON = false ∨ s.thimble.romRecovery) → Completes (.hdmRequest r) s (fun t => t = s)) ∧
  (∀ (n b : Nat) (data : List Byte) (s : State), (b / 64, true) ∈ s.filter n b → (s.stack n).waiting = [] → s.hdmClosing = [] →
    Completes (.backInvalidateResponse n b data []) s (fun t => (∀ e ∈ t.filter n b, e.1 ≠ b / 64) ∧ (∀ e ∈ s.filter n b, e.1 ≠ b / 64 → e ∈ t.filter n b) ∧
      (∀ j x, data[j]? = some x → t.hbmByte n (b / 64 * 64 + j) = x) ∧ (data = [] → t.mem = s.mem) ∧ RegsBut s t [] ∧ t.outs = s.outs))

/-- Upkeep of HBM (11 R357, R360 to R365, R367, R371): refresh and rinse windows open at their instants; a rinse whose checks pass opens the stack
again, the eighth failure in a row makes it FAILED and faults the owners of its slices; scrubbing, its write-back, a slice's mode, and a key switch
that leaves nothing of what the slices held.
What a byte under a new key reads as is an opaque function: log entry 21. When a pair counts as the tenant's is the model's reading (log entry 89). -/
def Obligations.HbmUpkeep : Prop :=
  (∀ (n pc : Nat) (s : State), s.stackState n = stackReady → s.now / 64 % s.refreshNs n = 120 * pc % s.refreshNs n → (s.stack n).waiting = [] →
    Completes (.refreshWindow n pc) s (fun t => bankGet 0 (t.stack n).refresh pc = s.raw + 1 ∧ t = { s with hbmStacks := t.hbmStacks } ∧ ∀ m, m ≠ n → t.stack m = s.stack m)) ∧
  (∀ (n c : Nat) (s : State), c < 256 → Completes (.hbmTempCross n c) s (fun t => t.fld .HBM_STATUS_TEMP_C n = c ∧
    (85 ≤ c → t.fld .HBM_STATUS_REFRESH_X2 n = 1) ∧ (c < 82 → t.fld .HBM_STATUS_REFRESH_X2 n = 0) ∧
    (82 ≤ c → c < 85 → t.fld .HBM_STATUS_REFRESH_X2 n = s.fld .HBM_STATUS_REFRESH_X2 n) ∧ OnlyRegs s t [(.HBM_STATUS_TEMP_C, n), (.HBM_STATUS_REFRESH_X2, n)])) ∧
  (∀ (n : Nat) (s : State), s.stackState n = stackReady → s.now / 64 % 100000000 = n * 6250000 →
    Completes (.rinseWindowStart n) s (fun t => t.stackState n = stackRinse ∧ t.fld .HBM_RINSES n = (s.fld .HBM_RINSES n + 1) % 2 ^ 32 ∧
      OnlyRegs s t [(.HBM_STATUS_STATE, n), (.HBM_READY, 0), (.HBM_RINSES, n)])) ∧
  (∀ (n c : Nat) (l : List (Nat × Bool)) (s : State), s.stackState n = stackRinse → (s.stack n).waiting = [] → (s.stack n).fails = [] → (∀ e ∈ l, e.2) →
    Completes (.rinseWindowEnd n (l ++ [(c, true)])) s (fun t => t.stackState n = stackReady ∧ t.fld .HBM_STATUS_RINSE_NEXT n = (c + 1) % 32 ∧
      (t.stack n).fails = [] ∧ t = { s with regs := t.regs, hbmStacks := t.hbmStacks } ∧
      RegsBut s t [(.HBM_STATUS_STATE, n), (.HBM_READY, 0), (.HBM_PC_FAIL, n), (.HBM_STATUS_RINSE_NEXT, n)])) ∧
  (∀ (n pc p j : Nat) (s : State), s.stackState n = stackRinse → (s.stack n).waiting = [] → bankGet 0 (s.stack n).fails pc = 7 → p < 16 → j < 16 →
    s.sliceOwner (16 * j + n) = some p → s.pstate p ≠ .idle →
    Completes (.rinseWindowEnd n [(pc, false)]) s (fun t => t.stackState n = stackFailed ∧ t.flag .HBM_ERROR_VALID n ∧ t.flag .MGMT_STATUS_FAULT ∧
      t.pstate p = .fault ∧ t.bit .HBM_PC_FAIL pc n ∧ t.fld .HBM_RINSE_FAILS n = (s.fld .HBM_RINSE_FAILS n + 1) % 2 ^ 32 ∧ t.mem = s.mem ∧ t.cores = s.cores)) ∧
  (∀ (n w found odecc : Nat) (s : State), s.flag .HBM_SCRUB_EN n → s.stackState n = stackReady → s.chanServes n (pseudoCh (w * 32)) → (s.stack n).waiting = [] →
    (s.stack n).scrubbed + 1 < stackWords →
    let g := hbmWord n (w * 32)
    let bad := max (bankGet 0 s.hbmBad g) found
    Completes (.hbmScrubRead n w found odecc) s (fun t => t.fld .HBM_ODECC n = (s.fld .HBM_ODECC n + odecc) % 2 ^ 32 ∧ (t.stack n).scrubbed = (s.stack n).scrubbed + 1 ∧ bankGet 0 t.hbmBad g = bad ∧ t.mem = s.mem ∧
      (bad = 0 → RegsBut s t [(.HBM_ODECC, n)] ∧ t.hbmFix = s.hbmFix) ∧ (1 ≤ bad → bad ≤ 2 → t.fld .HBM_CE n = (s.fld .HBM_CE n + 1) % 2 ^ 32 ∧ g ∈ t.hbmFix ∧ RegsBut s t [(.HBM_CE, n), (.HBM_ODECC, n)]) ∧
      (3 ≤ bad → t.fld .HBM_UE n = (s.fld .HBM_UE n + 1) % 2 ^ 32 ∧ t.fld .HBM_UE_ADDR_LO n = w * 32 % 2 ^ 32 ∧ t.fld .HBM_UE_ADDR_HI_VALID n = 1))) ∧
  (∀ (n w : Nat) (s : State), hbmWord n (w * 32) ∈ s.hbmFix →
    Completes (.hbmScrubWriteback n w) s (fun t => bankGet 0 t.hbmBad (hbmWord n (w * 32)) = 0 ∧ hbmWord n (w * 32) ∉ t.hbmFix ∧ t = { s with hbmBad := t.hbmBad, hbmFix := t.hbmFix } ∧
      ∀ x, x ≠ hbmWord n (w * 32) → bankGet 0 t.hbmBad x = bankGet 0 s.hbmBad x)) ∧
  (∀ (p : Nat) (s : State), bankGet 0 s.hbmKeyReq p ≠ 0 → s.hbmBusy p = false → (s.partExists p = false ∨ s.pstate p = .idle) → p < 16 →
    let req := bankGet 0 s.hbmKeyReq p
    let pair := if req ≤ 2 then 2 * (s.hbmDraws + 1) else req - 3
    Completes (.hbmKeySwitch p) s (fun t => bankGet 0 t.hbmKeyReq p = 0 ∧ t.bit .HBM_KEYS p = decide (2 ≤ req) ∧
      t.fld .SEC_PART_HBM_TENANT p = (if 2 ≤ req then 1 else 0) ∧ bankGet 0 t.hbmPairs p = pair ∧ (∀ q, q ≠ p → bankGet 0 t.hbmPairs q = bankGet 0 s.hbmPairs q) ∧
      (∀ n b, s.sliceOwner (sliceOf n b) = some p → (bankGet 0 s.mem.hbm (deviceByte n b) - 1) / 256 ≠ pair →
        t.hbmByte n b = Config.hbmFill pair (deviceByte n b) (s.aesBlock (deviceByte n b))) ∧
      (∀ n b, s.sliceOwner (sliceOf n b) ≠ some p → t.hbmByte n b = s.hbmByte n b) ∧ t.mem = s.mem ∧
      t = { s with regs := t.regs, hbmPairs := t.hbmPairs, hbmDraws := t.hbmDraws, hbmKeyReq := t.hbmKeyReq } ∧ RegsBut s t [(.HBM_KEYS, 0), (.SEC_PART_HBM_TENANT, p)])) ∧
  (∀ (party : Party) (sl : Nat) (s : State), party ≠ .mgmt →
    Completes (.hdmModeWrite party sl true) s (fun t => t.sliceOpen sl ∧ sl ∉ t.hdmClosing ∧ t = { s with regs := t.regs, hdmClosing := t.hdmClosing } ∧
      RegsBut s t [(.HBM_SLICE_HDM_MODE, sl % 16)]) ∧
    (s.sliceOpen sl → s.snoop = [] → s.hdmClosing = [] → Completes (.hdmModeWrite party sl false) s (fun t => t.sliceOpen sl = false ∧ OnlyRegs s t [(.HBM_SLICE_HDM_MODE, sl % 16)])))

/-- The weight store (12 R375, R377, R379 to R386): a read is answered with the object's bytes, or waits while its die is in upkeep; installation and
deletion need a token over the current nonce, which they use up; each layer is stored when its digest agrees, and the object is READY after the last; a
deleted object's bytes are zero; the audit marks an object whose layer has changed.
Digests, signatures and nonces are opaque or free: log entries 3, 20, 30. Two codes are the model's reading (log entry 96). -/
def Obligations.PlinthStore : Prop :=
  (∀ (k : Pkt) (s : State), s.lands k → s.upkeepDie ≠ k.dstNode - 76 → k.srcRank = s.ownRank k.part →
    (k.bad = [] → Completes (.plinthReadRequest k) s (fun t => t.outs = s.outs ++ [.packet { answer k .readResp with data := s.plinthRead k.handle k.addr k.len }] ∧
      t = { s with regs := t.regs, obs := t.obs, outs := t.outs, parts := t.parts, flight := t.flight } ∧ RegsBut s t [(.PLINTH_CE, 0)])) ∧
    (k.bad.any uncorrectable → Completes (.plinthReadRequest k) s (fun t => t.outs = s.outs ++ [.packet { answer k .errorResp with code := E_PLINTH_UNCORRECTABLE }] ∧
      t.fld .PLINTH_UE 0 (k.dstNode - 76) = (s.fld .PLINTH_UE 0 (k.dstNode - 76) + (k.bad.filter uncorrectable).length) % 2 ^ 32 ∧ t.mem = s.mem))) ∧
  (∀ (k : Pkt) (s : State), s.lands k → s.upkeepDie = k.dstNode - 76 →
    Completes (.plinthReadRequest k) s (fun t => t.plinthWait = s.plinthWait ++ [k] ∧ t = { s with plinthWait := t.plinthWait, parts := t.parts, flight := t.flight })) ∧
  (∀ (j : Nat) (k : Pkt) (s : State), s.now / 64 % 4000 = 1000 * j → s.plinthWait = [k] → k.dstNode ≠ 76 + j → k.bad = [] → k.srcRank = s.ownRank k.part →
    Completes (.plinthUpkeepWindow j) s (fun t => t.plinthWait = [] ∧ t.outs = s.outs ++ [.packet { answer k .readResp with data := s.plinthRead k.handle k.addr k.len }] ∧ t.mem = s.mem)) ∧
  (∀ (party : Party) (s : State), Completes (.plinthNonceRead party) s (fun t => t.plinthNonce ∧ t.outs = s.outs ++ [.readData party (t.fld .PLINTH_NONCE)] ∧
    t = { s with regs := t.regs, plinthNonce := true, outs := t.outs, free := t.free } ∧ RegsBut s t [(.PLINTH_NONCE, 0)])) ∧
  (∀ (p : PlinthPackage) (s : State), s.fld .PLINTH_STATUS_OP = 0 → s.installCode p = 0 →
    Completes (.plinthInstall p false) s (fun t => t.obj p.token.object = { state := objWriting, manifest := p.manifest, written := 0 } ∧ t.plinthNonce = false ∧
      t.fld .PLINTH_STATUS_OP = plinthInstalling ∧ t.plinthOp = p.token.object ∧ (∀ n, n ≠ p.token.object → t.obj n = s.obj n) ∧
      t = { s with regs := t.regs, plinth := t.plinth, plinthNonce := t.plinthNonce, plinthOp := t.plinthOp } ∧ RegsBut s t [(.PLINTH_STATUS_OP, 0)])) ∧
  (∀ (p : PlinthPackage) (d : PlinthToken) (s : State), s.fld .PLINTH_STATUS_OP = 0 → s.plinthNonce = false → ∀ c ∈ [Instr.plinthInstall p false, .plinthDelete d],
    Completes c s (fun t => t.fld .PLINTH_STATUS_FAILED = 1 ∧ t.fld .PLINTH_STATUS_CODE = E_PLINTH_AUTH ∧ t.plinth = s.plinth ∧ t.mem = s.mem)) ∧
  (∀ (p : PlinthPackage) (d : PlinthToken) (b : Bool) (s : State), s.fld .PLINTH_STATUS_OP ≠ 0 → ∀ c ∈ [Instr.plinthInstall p b, .plinthDelete d],
    Completes c s (fun t => t.fld .PLINTH_STATUS_FAILED = 1 ∧ t.fld .PLINTH_STATUS_CODE = E_PLINTH_BUSY ∧ OnlyRegs s t [(.PLINTH_STATUS_FAILED, 0), (.PLINTH_STATUS_CODE, 0)])) ∧
  (∀ (data : List Byte) (e : LayerEntry) (s : State), s.fld .PLINTH_STATUS_OP = plinthInstalling → (s.obj s.plinthOp).state = objWriting →
    (s.obj s.plinthOp).manifest.layers[(s.obj s.plinthOp).written]? = some e → sha512 data = e.digest → data.length = e.len →
    Completes (.plinthLayerWritten data) s (fun t => t.plinthRead s.plinthOp e.off e.len = data ∧ (t.obj s.plinthOp).written = (s.obj s.plinthOp).written + 1 ∧
      (∀ a, (a < plinthKey s.plinthOp e.off ∨ plinthKey s.plinthOp e.off + e.len ≤ a) → bankGet 0 t.mem.plinthData a = bankGet 0 s.mem.plinthData a) ∧
      ((s.obj s.plinthOp).manifest.layerCount ≤ (s.obj s.plinthOp).written + 1 → (t.obj s.plinthOp).state = objReady ∧ t.fld .PLINTH_STATUS_OP = 0 ∧ t.fld .PLINTH_STATUS_DONE = 1) ∧
      t.mem = { s.mem with plinthData := t.mem.plinthData } ∧ t.cores = s.cores)) ∧
  (∀ (data : List Byte) (e : LayerEntry) (s : State), s.fld .PLINTH_STATUS_OP = plinthInstalling → (s.obj s.plinthOp).state = objWriting →
    (s.obj s.plinthOp).manifest.layers[(s.obj s.plinthOp).written]? = some e → (data.length ≠ e.len ∨ sha512 data ≠ e.digest) →
    Completes (.plinthLayerWritten data) s (fun t => t.obj s.plinthOp = {} ∧ (∀ o < 2 ^ 41, bankGet 0 t.mem.plinthData (plinthKey s.plinthOp o) = 0) ∧
      t.fld .PLINTH_STATUS_FAILED = 1 ∧ t.fld .PLINTH_STATUS_CODE = E_PLINTH_DIGEST)) ∧
  (∀ (d : PlinthToken) (s : State), s.fld .PLINTH_STATUS_OP = 0 → s.deleteCode d = 0 →
    Completes (.plinthDelete d) s (fun t => t.obj d.object = { s.obj d.object with state := objErasing } ∧ t.fld .PLINTH_STATUS_OP = plinthDeleting ∧ t.plinthNonce = false ∧
      t.mem = s.mem ∧ ∀ n, n ≠ d.object → t.obj n = s.obj n)) ∧
  (∀ (n : Nat) (s : State), (s.obj n).state = objErasing → s.fld .PLINTH_STATUS_OP = plinthDeleting → s.plinthOp = n →
    Completes (.plinthEraseDone n) s (fun t => t.obj n = {} ∧ (∀ o < 2 ^ 41, bankGet 0 t.mem.plinthData (plinthKey n o) = 0) ∧ t.fld .PLINTH_STATUS_OP = 0 ∧ t.fld .PLINTH_STATUS_DONE = 1 ∧
      (∀ m, m ≠ n → t.obj m = s.obj m ∧ ∀ o < 2 ^ 41, bankGet 0 t.mem.plinthData (plinthKey m o) = bankGet 0 s.mem.plinthData (plinthKey m o)))) ∧
  (∀ (n layer : Nat) (s : State), s.flag .PLINTH_CTRL_AUDIT_EN → (s.obj n).state = objReady → layer < (s.obj n).manifest.layerCount →
    Completes (.plinthAuditLayer n layer true) s (fun t => OnlyRegs s t [(.PLINTH_AUDIT, 0)]) ∧
    (s.fld .PLINTH_ERROR_CODE = 0 → Completes (.plinthAuditLayer n layer false) s (fun t => t.obj n = { s.obj n with state := objCorrupt } ∧
      t.fld .PLINTH_ERROR_CODE = E_PLINTH_CORRUPT ∧ t.bit .INT_STATUS_LO 3 ∧ t.mem = s.mem)))

/-- Bindings and in-place replacement (12 R387, R388, R392 to R396): a binding commits its four words where it is allowed and is refused otherwise; an
armed replacement copies its layers from the tick it names on, holding the neighbours, and its binding reads the new object once it is done; an
uncorrectable word stops it and faults the partition.
Log entries 30 and 91: ABORT, refusals, and a copy that waits. -/
def Obligations.PlinthBindings : Prop :=
  (∀ (party : Party) (w0 w1 w2 w3 : Nat) (s : State), party ≠ .mgmt → w3 < 2 ^ 32 → bankGet 0 s.held (pairKey .host bindAddr) = w0 + 1 →
    bankGet 0 s.held (pairKey .host (bindAddr + 4)) = w1 + 1 → bankGet 0 s.held (pairKey .host (bindAddr + 8)) = w2 + 1 →
    let n := s.fld .BIND_INDEX_INDEX
    let v := w0 + w1 * 2 ^ 32 + w2 * 2 ^ 64 + w3 * 2 ^ 96
    (s.bindRefused n v = false → Completes (.bindCommit party w3) s (fun t => t.bind_ n = v ∧ (∀ m, m ≠ n → t.bind_ m = s.bind_ m) ∧
      t = { s with regs := t.regs, held := t.held, binds := t.binds } ∧ RegsBut s t [(.BIND_INDEX_INDEX, 0)])) ∧
    (s.bindRefused n v → Completes (.bindCommit party w3) s (fun t => t.fld .BIND_STATUS_REJECT = 1 ∧ t.fld .BIND_STATUS_CODE = E_PLINTH_BIND_INVALID ∧
      t = { s with regs := t.regs, held := t.held } ∧ RegsBut s t [(.BIND_STATUS_REJECT, 0), (.BIND_STATUS_CODE, 0)]))) ∧
  (∀ (party : Party) (p : Nat) (s : State), party ≠ .mgmt → s.replState p ≠ replWriting →
    Completes (.replCtrlArm party p) s (fun t => (t.repl p).fetching ∧ t = { s with repls := t.repls })) ∧
  (∀ (p : Nat) (desc : List (Nat × Bool × Nat)) (s : State), (s.repl p).fetching → s.replState p ≠ replStopped →
    s.replArmCode p (s.fld .REPL_BIND_BIND p) (s.fld .REPL_BIND_NEW_OBJECT p) desc = 0 →
    Completes (.replDescFetched p desc) s (fun t => t.replState p = replArmed ∧ t.fld .REPL_DONE_LAYER_VALID p = 0 ∧ (t.repl p).desc = desc.map Prod.snd ∧
      (t.repl p).bind = s.fld .REPL_BIND_BIND p ∧ (t.repl p).newObject = s.fld .REPL_BIND_NEW_OBJECT p ∧ t = { s with regs := t.regs, repls := t.repls } ∧
      RegsBut s t [(.REPL_STATUS_STATE, p), (.REPL_DONE_LAYER_VALID, p)])) ∧
  (∀ (p c : Nat) (desc : List (Nat × Bool × Nat)) (s : State), (s.repl p).fetching → s.replState p ≠ replStopped →
    s.replArmCode p (s.fld .REPL_BIND_BIND p) (s.fld .REPL_BIND_NEW_OBJECT p) desc = c → c ≠ 0 →
    Completes (.replDescFetched p desc) s (fun t => t.fld .REPL_STATUS_CODE p = c ∧ t.replState p = s.replState p ∧ (t.repl p).fetching = false ∧
      t = { s with regs := t.regs, repls := t.repls } ∧ RegsBut s t [(.REPL_STATUS_CODE, p)])) ∧
  (∀ (p : Nat) (s : State), s.replDue p → s.planTick p + 1 ∉ (s.part p).sentHolds →
    Completes (.replStepBegin p) s (fun t => t.replState p = replWriting ∧ (t.repl p).held = some (s.planTick p + 1) ∧
      (t.repl p).stepLeft = (if s.flag .REPL_CTRL_MODE p then 1 else s.replLayers p - s.replNext p) ∧
      (∀ n ∈ s.partPorts p, .ctl n { type := .hold, tag := s.fld .PLAN_JOB_TAG p, origin := s.ownRank p, tick := (s.planTick p + 1) % 2 ^ 32, cause := 0x12 } ∈ t.outs) ∧
      t = { s with regs := t.regs, repls := t.repls, parts := t.parts, outs := t.outs } ∧ RegsBut s t [(.REPL_STATUS_STATE, p)])) ∧
  (∀ (p a : Nat) (e : LayerEntry) (s : State), s.replState p = replWriting → (s.repl p).desc[s.replNext p]? = some (true, a) →
    (s.obj (s.repl p).newObject).manifest.layers[s.replNext p]? = some e → e.len ≤ 2 ^ 41 → a + e.len ≤ s.hbmSpace p → s.replNext p < 2 ^ 13 →
    s.replNext p + 1 < s.replLayers p → s.replCut p = false → 1 < (s.repl p).stepLeft → s.hbmOpen p a e.len → s.failedIn p a e.len = false →
    Completes (.replLayerCopied p [] none) s (fun t => t.partHbmRead p a e.len = s.plinthRead (s.repl p).newObject e.off e.len ∧
      t.fld .REPL_DONE_LAYER_LAYER p = s.replNext p ∧ t.fld .REPL_DONE_LAYER_VALID p = 1 ∧ t.replState p = replWriting ∧
      (t.repl p).stepLeft = (s.repl p).stepLeft - 1 ∧ t.mem = { s.mem with hbm := t.mem.hbm } ∧ t.outs = s.outs ∧
      RegsBut s t [(.REPL_DONE_LAYER_LAYER, p), (.REPL_DONE_LAYER_VALID, p)])) ∧
  (∀ (p : Nat) (s : State), s.replState p = replWriting → s.replLayers p ≤ s.replNext p + 1 → (s.repl p).held = none → (s.repl p).newObject < 1024 → s.hbmOpen p (s.replRegion p).1 (s.replRegion p).2 →
    Completes (.replLayerCopied p [] none) s (fun t => t.replState p = replDone ∧ bObject (t.bind_ (s.repl p).bind) = (s.repl p).newObject ∧
      bHbm (t.bind_ (s.repl p).bind) = bHbm (s.bind_ (s.repl p).bind) ∧ bPart (t.bind_ (s.repl p).bind) = bPart (s.bind_ (s.repl p).bind) ∧
      (∀ n, n ≠ (s.repl p).bind → t.bind_ n = s.bind_ n) ∧ t.outs = s.outs ∧ t.cores = s.cores)) ∧
  (∀ (p die n : Nat) (s : State), s.replState p = replWriting → (s.pstate p).active → s.hbmOpen p (s.replRegion p).1 (s.replRegion p).2 →
    Completes (.replLayerCopied p [] (some (die, n))) s (fun t => t.replState p = replStopped ∧ t.fld .REPL_STATUS_PARTIAL p = 1 ∧
      t.fld .REPL_STATUS_CODE p = E_PLINTH_UNCORRECTABLE ∧ t.fld .PLINTH_UE 0 die = (s.fld .PLINTH_UE 0 die + 1) % 2 ^ 32 ∧ t.pstate p = .fault ∧ t.cores = s.cores)) ∧
  (∀ (p : Nat) (l : List Nat) (b : Option (Nat × Nat)) (s : State), s.replState p = replWriting → s.hbmOpen p (s.replRegion p).1 (s.replRegion p).2 = false →
    Completes (.replLayerCopied p l b) s (fun t => t = { s with snoop := t.snoop, outs := t.outs })) ∧
  (∀ (party : Party) (p : Nat) (s : State), party ≠ .mgmt → s.replState p = replArmed →
    Completes (.replCtrlAbort party p) s (fun t => t.replState p = (if s.flag .REPL_DONE_LAYER_VALID p then replStopped else replIdle) ∧ OnlyRegs s t [(.REPL_STATUS_STATE, p)])) ∧
  (∀ (party : Party) (p : Nat) (s : State), party ≠ .mgmt → s.replState p = replWriting →
    Completes (.replCtrlAbort party p) s (fun t => t.repl p = { s.repl p with stopping := true } ∧ t = { s with repls := t.repls })) ∧
  (∀ (party : Party) (p : Nat) (s : State), party ≠ .mgmt → s.replState p = replStopped → s.pstate p = .stopped →
    Completes (.replCtrlFinish party p) s (fun t => t.replState p = replWriting ∧ (t.repl p).finishing ∧ (t.repl p).held = none ∧
      (t.repl p).stepLeft = s.replLayers p - s.replNext p ∧ t = { s with regs := t.regs, repls := t.repls } ∧ RegsBut s t [(.REPL_STATUS_STATE, p)]))

/-- Requests and registers of the serving unit (13 R401 to R404, R421; 14 R444): a descriptor fetched enters the store in its queue's order;
SRV_ADMIT_THROUGH only rises; the configuration registers take values while the partition is IDLE, LOADED or STOPPED and reject them otherwise.
Log entry 25 on who is refused. -/
def Obligations.ServingRequests : Prop :=
  (∀ (q : Nat) (data : List Byte) (s : State), qIsReq q → s.qUsed q ≠ 0 → s.dma → s.qState q = qRunning → s.storeFull (qPart q) = false →
    Completes (.reqDescriptorFetch q data) s (fun t => (t.srv (qPart q)).store = (s.srv (qPart q)).store ++ [{ queue := (q - 16) % 4, num := (s.srv (qPart q)).fetched, late := !s.arrivalMode (qPart q) && decide ((parseDesc data).tickAt < (s.srv (qPart q)).next), desc := parseDesc data }] ∧
      (t.srv (qPart q)).fetched = (s.srv (qPart q)).fetched + 1 ∧ t.fld .Q_INDEX_CI q = (s.fld .Q_INDEX_CI q + 1) % 2 ^ 16 ∧
      t = { s with regs := t.regs, srvs := t.srvs, host := t.host } ∧ RegsBut s t [(.Q_INDEX_CI, q)])) ∧
  (∀ (party : Party) (p hi v : Nat) (s : State), party ≠ .mgmt → (s.commitPair party (srvAddr p 0x24) (s.fld .SRV_ADMIT_THROUGH_LO p) hi).1 = v →
    (s.fld64 .SRV_ADMIT_THROUGH_LO .SRV_ADMIT_THROUGH_HI p ≤ v → Completes (.srvAdmitThroughWrite party p hi) s (fun t =>
      t.fld64 .SRV_ADMIT_THROUGH_LO .SRV_ADMIT_THROUGH_HI p = v % 2 ^ 64 ∧ (s.reqOwed p = [] → v ≤ (t.srv p).through) ∧ (t.srv p).store = (s.srv p).store ∧
      t = { s with regs := t.regs, srvs := t.srvs, held := t.held } ∧ RegsBut s t [(.SRV_ADMIT_THROUGH_LO, p), (.SRV_ADMIT_THROUGH_HI, p)])) ∧
    (v < s.fld64 .SRV_ADMIT_THROUGH_LO .SRV_ADMIT_THROUGH_HI p → Completes (.srvAdmitThroughWrite party p hi) s (fun t =>
      t.fld .SRV_STATUS_CMD_REJECT p = 1 ∧ t = { s with regs := t.regs, held := t.held } ∧ RegsBut s t [(.SRV_STATUS_CMD_REJECT, p)]))) ∧
  (∀ (party : Party) (p v : Nat) (s : State), party ≠ .mgmt → s.srvWritable p → (v.testBit 0 = false ∨ s.fld .EXCHANGE_PORTS p = 0) →
    Completes (.srvCfgWrite party p v) s (fun t => t.fld .SRV_CFG_ADMIT p = v % 2 ∧ t.fld .SRV_CFG_LAG p = v / 2 % 8 ∧ t.fld .SRV_CFG_ADMIT_PER_TICK p = v / 16 % 512 ∧
      OnlyRegs s t [(.SRV_CFG_ADMIT, p), (.SRV_CFG_LAG, p), (.SRV_CFG_ADMIT_PER_TICK, p)])) ∧
  (∀ (party : Party) (p v : Nat) (s : State), party ≠ .mgmt → s.srvWritable p = false → s.fld .SRV_ERROR_CODE p = 0 →
    ∀ c ∈ [Instr.srvCfgWrite party p v, .srvKvWrite party p 0x10 v, .srvKvWrite party p 0x14 v, .srvKvWrite party p 0x20 v],
      Completes c s (fun t => t.fld .SRV_STATUS_CMD_REJECT p = 1 ∧ t.fld .SRV_ERROR_CODE p = E_SRV_CONFIG ∧ t.fld .SRV_CFG_LAG p = s.fld .SRV_CFG_LAG p ∧
        t.fld .SRV_VOCAB p = s.fld .SRV_VOCAB p ∧ t.fld .SRV_KV_BLOCKS p = s.fld .SRV_KV_BLOCKS p ∧ t.pstate p = s.pstate p ∧ t.mem = s.mem ∧ t.cores = s.cores)) ∧
  (∀ (party : Party) (p v : Nat) (s : State), party ≠ .mgmt → s.srvWritable p →
    Completes (.srvKvWrite party p 0x14 v) s (fun t => t.fld .SRV_KV_BLOCKS p = v % 2 ^ 24 ∧ OnlyRegs s t [(.SRV_KV_BLOCKS, p)]) ∧
    (v % 2 ^ 21 ≠ 0 → v % 2 ^ 21 ≤ 1048576 → Completes (.srvKvWrite party p 0x20 v) s (fun t => t.fld .SRV_VOCAB p = v % 2 ^ 21 ∧ OnlyRegs s t [(.SRV_VOCAB, p)])) ∧
    (4 ≤ v % 16 → v % 16 ≤ 10 → v / 16 % 8192 ≠ 0 → v / 16 % 8192 ≤ 4096 → s.kvRegionOk p (s.kvTable p) (v / 16 % 8192) →
      Completes (.srvKvWrite party p 0x10 v) s (fun t => t.fld .SRV_KV_CFG_BLOCK_LOG2 p = v % 16 ∧ t.fld .SRV_KV_CFG_MAX_BLOCKS_PER_SEQ p = v / 16 % 8192 ∧
        OnlyRegs s t [(.SRV_KV_CFG_BLOCK_LOG2, p), (.SRV_KV_CFG_MAX_BLOCKS_PER_SEQ, p)])))

/-- Building, sampling and results (13 R405 to R418; 14 R445): the build of the next tick admits the head of the store, or rejects it with its reason;
a block table acknowledged stands in the partition's HBM; the bank is published when the tables of its sequences are; a sampled row gives its token
to its sequence and a record; a missing sample is an error; the oldest record goes to the ring.
The first build, repeated REQ_IDs, an acknowledgement that waits and a row that arrives bad are the model's readings (log entries 36, 38, 91, 92). -/
def Obligations.ServingTicks : Prop :=
  (∀ (p : Nat) (s : State), s.storeStuck p = false → s.buildReady p →
    Completes (.slotBuild p) s (fun t => (t.srv p).building = some (s.srv p).next ∧ (t.srv p).next = (s.srv p).next + 1 ∧
      t.fld64 .SRV_BUILT_TICK_LO .SRV_BUILT_TICK_HI p = (s.srv p).next % 2 ^ 64 ∧ t.mem = s.mem ∧ t.cores = s.cores)) ∧
  (∀ (p : Nat) (r : SrvReq) (s : State), s.buildReady p → s.arrivalMode p = false → (s.srv p).store = [r] → (s.srv p).seqs = [] → (s.srv p).places = [] →
    r.desc.op ≠ 2 → r.desc.tickAt ≤ (s.srv p).next → s.rejectWhy p (s.srv p).next r = 0 → s.kvNeed p r.desc ≤ s.kvFree p →
    Completes (.slotBuild p) s (fun t => (t.srv p).store = [] ∧ t.fld .SRV_ADMITTED p = (s.fld .SRV_ADMITTED p + 1) % 2 ^ 32 ∧ (t.srv p).records = (s.srv p).records ∧
      ∃ q, (t.srv p).seqs = [q] ∧ q.desc = r.desc ∧ q.num = s.fld .SRV_GEOM2_SEQ_BASE p ∧ q.blocks = s.kvPick p (s.kvNeed p r.desc) ∧ q.tokens = [])) ∧
  (∀ (p why : Nat) (r : SrvReq) (s : State), s.buildReady p → s.arrivalMode p = false → (s.srv p).store = [r] → (s.srv p).seqs = [] → (s.srv p).places = [] →
    r.desc.op ≠ 2 → r.desc.tickAt ≤ (s.srv p).next → s.rejectWhy p (s.srv p).next r = why → why ≠ 0 →
    Completes (.slotBuild p) s (fun t => (t.srv p).store = [] ∧ t.fld .SRV_REJECTED p = (s.fld .SRV_REJECTED p + 1) % 2 ^ 32 ∧ (t.srv p).seqs = [] ∧
      (t.srv p).records = (s.srv p).records ++ [{ reqId := r.desc.reqId, tick := (s.srv p).next, reason := why, flags := recFinal + recRejected }])) ∧
  (∀ (p seq n : Nat) (q : Seq) (s : State), (s.srv p).seqs.find? (fun o => o.num = seq && !o.acked) = some q → n = kvStride (s.fld .SRV_KV_CFG_MAX_BLOCKS_PER_SEQ p) →
    (s.kvTable p + (seq - s.fld .SRV_GEOM2_SEQ_BASE p) * n) + n ≤ s.hbmSpace p →
    s.hbmOpen p (s.kvTable p + (seq - s.fld .SRV_GEOM2_SEQ_BASE p) * n) n → s.failedIn p (s.kvTable p + (seq - s.fld .SRV_GEOM2_SEQ_BASE p) * n) n = false →
    Completes (.blockTableAck p seq true) s (fun t => (∀ o ∈ (t.srv p).seqs, o.num = seq → o.acked) ∧
      t.partHbmRead p (s.kvTable p + (seq - s.fld .SRV_GEOM2_SEQ_BASE p) * n) n = (q.blocks.flatMap (leBytes 4) ++ List.replicate n 0xFF).take n ∧
      t = { s with srvs := t.srvs, mem := t.mem, hbmBad := t.hbmBad, hbmFix := t.hbmFix } ∧ t.mem = { s.mem with hbm := t.mem.hbm })) ∧
  (∀ (p seq : Nat) (q : Seq) (s : State), (s.srv p).seqs.find? (fun o => o.num = seq && !o.acked) = some q → s.fld .SRV_ERROR_CODE p = 0 → (s.pstate p).active →
    Completes (.blockTableAck p seq false) s (fun t => t.fld .SRV_ERROR_CODE p = E_SRV_KV_TABLE ∧ t.fld .SRV_ERROR_INFO_SEQ p = seq % 2 ^ 14 ∧ t.pstate p = .fault ∧ t.mem = s.mem)) ∧
  (∀ (p v : Nat) (s : State), (s.srv p).building = some v → (∀ y ∈ (s.srv p).places, y.tick = v → ∀ q ∈ (s.srv p).seqs, q.num = y.seq → q.acked) →
    Completes (.slotBankPublish p) s (fun t => (t.srv p).building = none ∧ (t.srv p).banks.lookup v = some (s.bankOf p v) ∧ t = { s with srvs := t.srvs })) ∧
  (∀ (k : Pkt) (tied : Bool) (y : Placement) (q : Seq) (f : Fmt) (v : Nat) (s : State), s.sharedPaused = false → s.fld .SLEEVE_STATUS_STATE ≠ 2 → k.bad = [] → (s.srv k.part).rowsDue ≠ 0 → k.len = s.fld .SRV_VOCAB k.part →
    s.recordWaits k.part = false → s.slotReg k.part k.tick (k.srcNode * 96 + k.srcUnit) k.addr = some v → v ≠ 0xFFFFFFFF → fmtOf k.code = some f →
    s.named k.part k.tick v = some y → y.needs → y.result = none → (s.srv k.part).seqs.find? (fun o => o.num = y.seq) = some q →
    let r := sampleLogits q.desc q.tokens ((List.range k.len).map (fun i => decodeElem f (elemBits f (leNat k.data) i)))
    r.tokenOpen = false → r.lpOpen = false →
    Completes (.sampleRowReceive k tied) s (fun t => (∀ o ∈ (t.srv k.part).seqs, o.num = q.num → ∃ b ∈ (s.srv k.part).seqs, o.tokens = b.tokens ++ [r.token]) ∧
      t.fld64 .SRV_TOKENS_LO .SRV_TOKENS_HI k.part = (s.fld64 .SRV_TOKENS_LO .SRV_TOKENS_HI k.part + 1) % 2 ^ 64 ∧ (t.srv k.part).rowsDue = (s.srv k.part).rowsDue - 1 ∧
      ∃ rc, (t.srv k.part).records = (s.srv k.part).records ++ [rc] ∧ rc.token = r.token ∧ rc.logprob = r.logprob ∧ rc.index = q.tokens.length ∧ rc.seq = q.num ∧
        rc.tick = k.tick ∧ rc.reqId = q.desc.reqId)) ∧
  (∀ (k : Pkt) (tied : Bool) (s : State), s.sharedPaused = false → s.fld .SLEEVE_STATUS_STATE ≠ 2 → k.bad = [] → (s.srv k.part).rowsDue ≠ 0 → k.len ≠ s.fld .SRV_VOCAB k.part → k.round = 0 → s.fld .SRV_ERROR_CODE k.part = 0 →
    (s.pstate k.part).active →
    Completes (.sampleRowReceive k tied) s (fun t => t.fld .SRV_ERROR_CODE k.part = E_SRV_VOCAB ∧ t.pstate k.part = .fault ∧ t.mem = s.mem ∧ (t.srv k.part).records = (s.srv k.part).records)) ∧
  (∀ (p : Nat) (y : Placement) (s : State), (s.srv p).rowsDue = 0 → s.fld .SRV_ERROR_CODE p = 0 → (s.pstate p).active →
    (s.srv p).places.find? (fun y => y.needs && y.result.isNone && y.tick + s.srvLag p ≤ (s.part p).completed && (s.srv p).seqs.any (fun q => q.num = y.seq)) = some y →
    Completes (.missedSampleDetect p) s (fun t => t.fld .SRV_ERROR_CODE p = E_SRV_MISSED_SAMPLE ∧ t.fld .SRV_ERROR_INFO_SEQ p = y.seq % 2 ^ 14 ∧ t.pstate p = .fault ∧ t.mem = s.mem)) ∧
  (∀ (p : Nat) (r : Rec) (l : List Rec) (s : State), (s.srv p).records = r :: l → s.ringRoom p → s.flag .Q_CFG_IRQ_EN (80 + p) = false →
    Completes (.resultRecordWrite p) s (fun t => (t.srv p).records = l ∧ t.fld .Q_INDEX_PI (80 + p) = (s.fld .Q_INDEX_PI (80 + p) + 1) % 2 ^ 16 ∧
      t.outs = s.outs ++ [.hostWrite (s.qAddr (80 + p) (s.fld .Q_INDEX_PI (80 + p))) (recBytes r) (s.queueTee (80 + p))] ∧
      t = { s with regs := t.regs, srvs := t.srvs, host := t.host, outs := t.outs } ∧ RegsBut s t [(.Q_INDEX_PI, 80 + p)]))

/-- The host link (14 R423, R424, R426, R428 to R431, R434, R448, R449): it trains to the highest common mode; a hot reset empties every queue and
leaves memory; configuration requests are retried until the boot base stands; an access that no register takes is an error and reads zero; the decoder
commits one range; DOE objects are answered, refused or discarded; an IDE failure ends its stream and its queues.
What a hot reset keeps, and the places of configuration bits, are the model's reading (log entries 35, 39, 93). -/
def Obligations.HostLink : Prop :=
  (∀ s : State, Completes (.hostLinkTrain []) s (fun t => t.fld .HOST_LINK_MODE = 0 ∧ t.fld .HOST_LINK_RATE = 0 ∧ t.fld .HOST_LINK_WIDTH = 0 ∧ t.host.downAt ≠ 0 ∧
    t = { s with regs := t.regs, host := t.host })) ∧
  (∀ (mode rate lanes : Nat) (s : State), (mode, rate) ∈ hostModes → 0 < lanes → (mode = 1 ∨ s.fld .STRAP_READ_HOST_MODE = 0) →
    Completes (.hostLinkTrain [(mode, rate, lanes)]) s (fun t => t.fld .HOST_LINK_MODE = mode ∧ t.fld .HOST_LINK_RATE = rate ∧ t.fld .HOST_LINK_WIDTH = hostWidth lanes ∧
      t.host.downAt = 0 ∧ t = { s with regs := t.regs, host := t.host } ∧
      RegsBut s t [(.HOST_LINK_MODE, 0), (.HOST_LINK_RATE, 0), (.HOST_LINK_WIDTH, 0), (.HOST_LINK_FLIT, 0), (.HOST_LINK_MEM_ON, 0), (.HOST_LINK_CACHE_ON, 0)])) ∧
  (∀ s : State, s.flag .HOST_ERROR_INFO_VALID = false →
    Completes (.hotReset false) s (fun t => (∀ q < 96, t.qState q = qDisabled ∧ t.fld .Q_CFG_ENABLE q = 0 ∧ t.fld .Q_INDEX_PI q = 0 ∧ t.fld .Q_INDEX_CI q = 0) ∧
      t.fld .INT_MODE = 0 ∧ t.host.busMaster = false ∧ t.fld .HOST_RESETS = (s.fld .HOST_RESETS + 1) % 2 ^ 32 ∧ t.fld .HOST_ERROR_CODE = E_HOST_LINK_RESET ∧
      t.mem = s.mem ∧ t.cores = s.cores)) ∧
  (∀ (write : Bool) (off v : Nat) (s : State), s.fld .HOST_LINK_MODE ≠ 0 → s.host.ready = false → s.thimble.romRecovery = false →
    Completes (.configRequest write off v) s (fun t => t = { s with outs := s.outs ++ [.config true 0] })) ∧
  (∀ (off v : Nat) (s : State), s.fld .HOST_LINK_MODE ≠ 0 → s.host.ready → s.thimble.romRecovery = false →
    Completes (.configRequest false off v) s (fun t => t = { s with outs := s.outs ++ [.config false (s.configRead off)] }) ∧
    s.configRead 0x000 = 0x64161D9F ∧ s.configRead 0x008 = 0x120000B0 ∧
    Completes (.configRequest true 0x004 v) s (fun t => t.host = { s.host with config := bankSet 0 s.host.config 0x004 (v % 2 ^ 32), busMaster := v.testBit 2 } ∧ t = { s with host := t.host, outs := s.outs ++ [.config false 0] })) ∧
  (∀ (read : Bool) (s : State), s.flag .HOST_ERROR_INFO_VALID = false →
    Completes (.barAccessError read) s (fun t => t.fld .HOST_ERROR_CODE = E_HOST_ACCESS ∧ t.flag .HOST_ERROR_INFO_VALID ∧ t.bit .INT_STATUS_HI 24 ∧
      (read → .readData .host 0 ∈ t.outs) ∧ t.mem = s.mem ∧ t.cores = s.cores)) ∧
  (∀ (ways size : Nat) (s : State), s.thimble.romRecovery = false → Completes (.hdmDecoderCommit ways size) s (fun t => (ways = 1 → size = rangeOneSize → t.host.hdmMapped ∧ t.host.hdmErr = false) ∧
    ((ways ≠ 1 ∨ size ≠ rangeOneSize) → t.host.hdmMapped = s.host.hdmMapped ∧ t.host.hdmErr) ∧ t = { s with regs := t.regs, host := t.host } ∧
    RegsBut s t [(.HOST_LINK_MEM_ON, 0)])) ∧
  (∀ s : State, Completes .getTimestamp s (fun t => t = { s with outs := s.outs ++ [.mailbox (some (s.todOf s.now))] }) ∧
    Completes .setTimestamp s (fun t => t = { s with outs := s.outs ++ [.mailbox none] })) ∧
  (∀ (inst len : Nat) (s : State), s.host.doeUnread = [] → s.thimble.romRecovery = false →
    (len ≤ 65536 → Completes (.doeRequest inst 0 len true none) s (fun t => t.host.doeUnread = [inst] ∧ t = { s with host := t.host, outs := s.outs ++ [.doe inst .answered] })) ∧
    (65536 < len → Completes (.doeRequest inst 0 len true none) s (fun t => t.host.doeUnread = [] ∧ t.outs = s.outs ++ [.doe inst .refused]))) ∧
  (∀ (inst kind len : Nat) (s : State), inst ∈ s.host.doeUnread →
    Completes (.doeRequest inst kind len false none) s (fun t => t = { s with outs := s.outs ++ [.doe inst .discarded] })) ∧
  (∀ (len : Nat) (s : State), s.host.doeUnread = [] → s.thimble.romRecovery = false → len ≤ 65536 →
    Completes (.doeRequest 0 2 len false (some 0)) s (fun t => t.fld .HOST_IDE_STATUS_LINK_SECURE = 1 ∧ RegsBut s t [(.HOST_IDE_STATUS_LINK_SECURE, 0)])) ∧
  (∀ (q : Nat) (s : State), s.flag .HOST_ERROR_INFO_VALID = false → (q, 6) ∈ s.host.qStreams → s.flag .Q_STATUS_BOUND q →
    Completes (.ideFailure 5) s (fun t => t.fld .HOST_IDE_STATUS_CM_SECURE = 0 ∧ t.fld .HOST_IDE_STATUS_FAIL = 1 ∧ t.fld .HOST_ERROR_CODE = E_HOST_IDE ∧ t.host.memFailed ∧
      t.qState q = qError ∧ t.fld .Q_STATUS_CODE q = E_HOST_IDE ∧ t.mem = s.mem ∧ t.cores = s.cores))

/-- Queues (14 R436 to R440, R447, Table 14.13): a doorbell moves the host's index of its ring, and one that does not fit is an error; an index's shadow
is written; a queue is enabled and disabled, and its configuration is taken while it is DISABLED; a failed fetch is an ERROR; the timer of a result ring
raises its vector.
IRQ_EN of a CMD queue is the model's reading (log entry 34). -/
def Obligations.HostQueues : Prop :=
  (∀ (q idx : Nat) (s : State), s.thimble.romRecovery = false → qIsRes q = false → (idx % 65536 + 65536 - s.fld .Q_INDEX_PI q) % 65536 ≤ s.qSize q →
    (idx % 65536 + 65536 - s.fld .Q_INDEX_CI q) % 65536 ≤ s.qSize q →
    Completes (.doorbellWrite q idx) s (fun t => t.fld .Q_INDEX_PI q = idx % 65536 ∧ OnlyRegs s t [(.Q_INDEX_PI, q)])) ∧
  (∀ (q idx : Nat) (s : State), s.thimble.romRecovery = false → qIsRes q → (idx % 65536 + 65536 - s.fld .Q_INDEX_CI q) % 65536 ≤ s.qSize q →
    (s.fld .Q_INDEX_PI q + 65536 - idx % 65536) % 65536 ≤ s.qSize q →
    Completes (.doorbellWrite q idx) s (fun t => t.fld .Q_INDEX_CI q = idx % 65536 ∧ OnlyRegs s t [(.Q_INDEX_CI, q)])) ∧
  (∀ (q idx : Nat) (s : State), s.thimble.romRecovery = false → qIsRes q = false → s.qSize q < (idx % 65536 + 65536 - s.fld .Q_INDEX_CI q) % 65536 →
    Completes (.doorbellWrite q idx) s (fun t => t.fld .Q_STATUS_DB_ERR q = 1 ∧ t.fld .Q_STATUS_CODE q = E_HOST_DOORBELL ∧ t.fld .Q_INDEX_PI q = s.fld .Q_INDEX_PI q ∧
      t.fld .Q_INDEX_CI q = s.fld .Q_INDEX_CI q ∧ t.mem = s.mem ∧ t.cores = s.cores)) ∧
  (∀ (q : Nat) (s : State), (s.queue q).shadowDue → s.dma → (s.queue q).shadowAt = 0 → (s.queue q).irqDue = false →
    Completes (.shadowWrite q) s (fun t => (t.queue q).shadowDue = false ∧
      t.outs = s.outs ++ [.hostWrite (s.shadowAddr q) (leBytes 8 (s.fld (if qIsRes q then .Q_INDEX_PI else .Q_INDEX_CI) q)) (s.queueTee q)] ∧
      t = { s with host := t.host, outs := t.outs })) ∧
  (∀ (party : Party) (q v : Nat) (s : State), party ≠ .mgmt → s.mayCfg party q → s.qState q = qDisabled → 4 ≤ cfgSize v →
    Completes (.queueEnable party q v) s (fun t => t.qState q = qRunning ∧ t.fld .Q_CFG_ENABLE q = 1 ∧ t.fld .Q_CFG_SIZE_LOG2 q = cfgSize v ∧ t.fld .Q_INDEX_PI q = 0 ∧
      t.fld .Q_INDEX_CI q = 0 ∧ t.queue q = {} ∧ t = { s with regs := t.regs, host := t.host } ∧
      RegsBut s t [(.Q_STATUS_STATE, q), (.Q_CFG_ENABLE, q), (.Q_CFG_SIZE_LOG2, q), (.Q_CFG_COHERENT, q), (.Q_CFG_IRQ_EN, q), (.Q_INDEX_PI, q), (.Q_INDEX_CI, q)]) ∧
    Completes (.qCfgWrite party q v) s (fun t => t.fld .Q_CFG_SIZE_LOG2 q = cfgSize v ∧ t.fld .Q_CFG_COHERENT q = v / 32 % 2 ∧ t.fld .Q_CFG_IRQ_EN q = v / 64 % 2 ∧
      OnlyRegs s t [(.Q_CFG_SIZE_LOG2, q), (.Q_CFG_COHERENT, q), (.Q_CFG_IRQ_EN, q)])) ∧
  (∀ (party : Party) (q v : Nat) (s : State), party ≠ .mgmt → s.qState q = qRunning → ∀ c ∈ [Instr.queueEnable party q v, .qCfgWrite party q v],
    Completes c s (fun t => t.fld .Q_STATUS_CFG_REJECT q = 1 ∧ t.fld .Q_STATUS_CODE q = E_HOST_QUEUE_CFG ∧ t.qState q = qRunning ∧
      t.fld .Q_CFG_SIZE_LOG2 q = s.fld .Q_CFG_SIZE_LOG2 q ∧ t.mem = s.mem ∧ t.cores = s.cores)) ∧
  (∀ (party : Party) (q : Nat) (s : State), party ≠ .mgmt → s.mayCfg party q → s.qState q = qRunning →
    Completes (.queueDisable party q) s (fun t => t.qState q = (if s.queueBusy q then qStopping else qDisabled) ∧ t.fld .Q_CFG_ENABLE q = 0 ∧ t.mem = s.mem ∧ t.cores = s.cores ∧
      t.outs = s.outs ∧ RegsBut s t [(.Q_STATUS_STATE, q), (.Q_CFG_ENABLE, q)])) ∧
  (∀ (q : Nat) (entry : List Byte) (c : HostCmd) (s : State), qIsCmd q → s.qUsed q ≠ 0 → s.dma → s.qState q = qRunning → (s.queue q).cmd = none →
    (parseCmd entry = (c, true) → Completes (.queueFetchDone q true entry) s (fun t => (t.queue q).cmd = some c ∧ t = { s with host := t.host })) ∧
    (parseCmd entry = (c, false) → Completes (.queueFetchDone q true entry) s (fun t => (t.queue q).cmd = none ∧ t.fld .Q_INDEX_CI q = (s.fld .Q_INDEX_CI q + 1) % 2 ^ 16)) ∧
    Completes (.queueFetchDone q false entry) s (fun t => t.qState q = qError ∧ t.fld .Q_STATUS_CODE q = E_HOST_FETCH ∧ t.mem = s.mem ∧ t.cores = s.cores)) ∧
  (∀ (q : Nat) (s : State), qIsRes q → s.flag .Q_CFG_IRQ_EN q → s.fld .Q_IRQ_DELAY_US q ≠ 0 → (s.queue q).oldest ≠ 0 →
    s.elapsed ((s.queue q).oldest - 1) (s.fld .Q_IRQ_DELAY_US q * 1000) → (s.queue q).shadowDue = false →
    Completes (.resIrqTimer q) s (fun t => t.bit .INT_STATUS_HI (q - 72) ∧ (t.queue q).unsignalled = 0 ∧ (t.queue q).oldest = 0 ∧
      t = { s with regs := t.regs, host := t.host, outs := t.outs } ∧ RegsBut s t [(.INT_STATUS_HI, 0)]))

/-- Commands (14 R441 to R443, Tables 14.7, 14.9): NOP completes; a load whose checks hold leaves the partition LOADED with the image's settings, and one
that fails is refused; a copy moves bytes between the host and the partition's HBM; a command under way completes, its entry's completion bytes are
written and the consumer index goes on.
A copy's packets reach their controllers together, a load acts at its command: the model's reading (log entry 34). -/
def Obligations.HostCommands : Prop :=
  (∀ (q : Nat) (c : HostCmd) (s : State), qIsCmd q → s.dma → s.qState q = qRunning → s.flag .Q_CFG_IRQ_EN q = false → (s.queue q).cmd = some c →
    let i := s.fld .Q_INDEX_CI q
    let done := Out.hostWrite (s.qAddr q i + 0x30) (leBytes 2 0 ++ leBytes 1 0 ++ leBytes 1 (1 + i / s.qSize q % 2) ++ List.replicate 12 0) (s.queueTee q)
    (c.op = 0 → c.begun = false → Completes (.nop q) s (fun t => t.fld .Q_INDEX_CI q = (i + 1) % 2 ^ 16 ∧ (t.queue q).cmd = none ∧ t.outs = s.outs ++ [done] ∧
      t = { s with regs := t.regs, host := t.host, outs := t.outs } ∧ RegsBut s t [(.Q_INDEX_CI, q)])) ∧
    (c.begun → c.code = 0 → s.copyWaits q = false → Completes (.commandComplete q true) s (fun t => t.fld .Q_INDEX_CI q = (i + 1) % 2 ^ 16 ∧ (t.queue q).cmd = none ∧ t.outs = s.outs ++ [done] ∧
      t = { s with regs := t.regs, host := t.host, outs := t.outs } ∧ RegsBut s t [(.Q_INDEX_CI, q)]))) ∧
  (∀ (q : Nat) (c : HostCmd) (img : PlanImage) (s : State), qIsCmd q → s.dma → (s.queue q).cmd = some c → c.op = 1 → c.begun = false → s.loadFullCode q img = 0 →
    Completes (.loadFull q img) s (fun t => t.pstate q = .loaded ∧ (t.part q).resident ∧ (t.part q).completed = 0 ∧ t.fld .EXCHANGE_PORTS q = img.exchangePorts % 2 ^ 32 ∧
      t.fld .PLAN_JOB_TAG q = img.jobTag % 2 ^ 16 ∧ t.fld .SRV_VOCAB q = img.vocab % 2 ^ 21 ∧ (∀ x, img.cores = [x] → (t.core x.core).prog = x.prog) ∧
      (t.queue q).cmd = some { c with begun := true } ∧ t.mem = s.mem ∧ t.outs = s.outs)) ∧
  (∀ (q : Nat) (c : HostCmd) (s : State), qIsCmd q → s.dma → (s.queue q).cmd = some c → c.op = 2 → c.begun = false → s.loadResidentCode q = 0 →
    Completes (.loadResident q) s (fun t => t.pstate q = .loaded ∧ (t.part q).completed = 0 ∧
      (∀ g, t.core g = { s.core g with queue := (t.core g).queue, started := (t.core g).started, token := (t.core g).token, barrier := (t.core g).barrier }) ∧ t.mem = s.mem ∧ t.outs = s.outs ∧
      (t.queue q).cmd = some { c with begun := true })) ∧
  (∀ (q : Nat) (c : HostCmd) (img : PlanImage) (s : State), qIsCmd q → s.dma → s.qState q = qRunning → (s.queue q).cmd = some c → c.begun = false →
    (c.op = 1 → s.loadFullCode q img ≠ 0 → Completes (.loadFull q img) s (fun t => t.fld .PLAN_STATUS_CMD_REJECT q = 1 ∧ t.pstate q = s.pstate q ∧ (t.queue q).cmd = none ∧
      t.fld .Q_INDEX_CI q = (s.fld .Q_INDEX_CI q + 1) % 2 ^ 16 ∧ t.cores = s.cores ∧ t.mem = s.mem)) ∧
    (c.op = 2 → s.loadResidentCode q ≠ 0 → Completes (.loadResident q) s (fun t => t.fld .PLAN_STATUS_CMD_REJECT q = 1 ∧ t.pstate q = s.pstate q ∧ (t.queue q).cmd = none ∧
      t.fld .Q_INDEX_CI q = (s.fld .Q_INDEX_CI q + 1) % 2 ^ 16 ∧ t.cores = s.cores ∧ t.mem = s.mem))) ∧
  (∀ (q : Nat) (data : List Byte) (c : HostCmd) (s : State), qIsCmd q → s.dma → (s.queue q).cmd = some c → c.begun = false → s.copyCode q c = 0 →
    s.hbmOpen q c.hbm c.size → s.failedIn q c.hbm c.size = false → (∀ x ∈ s.hbmPieces q c.hbm c.size, (s.stack x.2.2.1).waiting = []) →
    (c.op = 3 → data.length = c.size → Completes (.copyIn q data) s (fun t => t.partHbmRead q c.hbm c.size = data ∧ t.mem = { s.mem with hbm := t.mem.hbm } ∧
      (t.queue q).cmd = some { c with begun := true } ∧
      t = { s with regs := t.regs, mem := t.mem, host := t.host, hbmStacks := t.hbmStacks, hbmBad := t.hbmBad, hbmFix := t.hbmFix } ∧
      RegsBut s t ((List.range 16).map (fun n => (Fld.HBM_CE, n))))) ∧
    (c.op = 4 → s.hbmBad = [] → Completes (.copyOut q) s (fun t => t.outs = s.outs ++ (s.hbmPieces q c.hbm c.size).map (fun x =>
        Out.hostWrite (c.addr + x.1) (s.hbmRead x.2.2.1 x.2.2.2 x.2.1) (s.queueTee q)) ∧
      (t.queue q).cmd = some { c with begun := true } ∧ t = { s with regs := t.regs, host := t.host, outs := t.outs, hbmStacks := t.hbmStacks } ∧
      RegsBut s t ((List.range 16).map (fun n => (Fld.HBM_CE, n))))))

/-- Tokens, nonces and grants (15 R453, R454, R459 to R464, Tables 15.4 to 15.6): a nonce is drawn and answered; a token that fails a check is
answered with its code, and from the nonce on it has used the nonce up; one that passes has its action's effect; a grant that has run its time ends.
Keys, digests and nonces are symbolic or free, and overlapping checks are ordered by the model (log entries 3, 20, 42). -/
def Obligations.SecrecyTokens : Prop :=
  (∀ (party : Party) (s : State), party ≠ .mgmt →
    Completes (.secNonceRead party) s (fun t => t.outs = s.outs ++ [.readData party (t.fld .SEC_NONCE)] ∧ bankGet 0 t.thimble.nonces 0 ≠ 0 ∧
      t = { s with regs := t.regs, thimble := t.thimble, outs := t.outs, free := t.free } ∧ RegsBut s t [(.SEC_NONCE, 0)])) ∧
  (∀ s : State, Completes (.secNonceRead .mgmt) s (fun t => t = { s with outs := s.outs ++ [.readData .mgmt 0] })) ∧
  (∀ (ch : Chan) (s : State), ch ≠ .mailbox → ch ≠ .doe → Asked s ch 0 →
    Completes (.getNonce ch) s (fun t => ∃ n, Answered t ch 0 [n] ∧ bankGet 0 t.thimble.nonces (nonceKey ch) = n + 1 ∧ t.regs = s.regs ∧ t.mem = s.mem ∧ t.cores = s.cores)) ∧
  (∀ (ch : Chan) (k : SecToken) (s : State), Asked s ch opSubmitToken → tokenEarly k ch ≠ 0 →
    Completes (.submitToken ch (.sec k) true) s (fun t => Answered t ch (tokenEarly k ch) [] ∧ t.thimble = s.thimble ∧ t.mem = s.mem ∧ t.cores = s.cores)) ∧
  (∀ (ch : Chan) (k : SecToken) (s : State), Asked s ch opSubmitToken → tokenEarly k ch = 0 → s.tokenLate ch k ≠ 0 →
    Completes (.submitToken ch (.sec k) true) s (fun t => Answered t ch (s.tokenLate ch k) [] ∧ bankGet 0 t.thimble.nonces (nonceKey ch) = 0 ∧
      t.thimble.publishers = s.thimble.publishers ∧ t.fld .SEC_STATUS_OPERATOR = s.fld .SEC_STATUS_OPERATOR ∧ t.fld .SEC_STATUS_FA_ACTIVE = s.fld .SEC_STATUS_FA_ACTIVE ∧
      t.mem = s.mem ∧ t.cores = s.cores)) ∧
  (∀ (b : Nat) (k : PlinthPackage) (s : State), Asked s (.mgmt b) opSubmitToken → s.fld .PLINTH_STATUS_OP = 0 →
    Completes (.submitToken (.mgmt b) (.install k) true) s (fun t => Answered t (.mgmt b) (s.installCode k) [] ∧ t.plinth = (s.plinthInstall k false).plinth)) ∧
  (∀ (ch : Chan) (k : SecToken) (s : State), Asked s ch opSubmitToken → tokenEarly k ch = 0 → s.tokenLate ch k = 0 →
    (k.action = actObserve → Completes (.observe ch k) s (fun t => Answered t ch 0 [] ∧ t.fld .SEC_STATUS_OBSERVE = 1 ∧ t.thimble.observeEnd = s.grantEnd k.duration ∧
      bankGet 0 t.thimble.nonces (nonceKey ch) = 0 ∧ t.mem = s.mem ∧ t.cores = s.cores)) ∧
    (k.action = actTenantDebug → Completes (.tenantDebug ch k) s (fun t => Answered t ch 0 [] ∧ (∀ p < 16, k.parts.testBit p → t.fld .SEC_PART_DEBUG p = 1 ∧
      t.bit .SEC_BOUND_DEBUG p ∧ bankGet 0 t.thimble.debugEnd p = s.grantEnd k.duration) ∧ bankGet 0 t.thimble.nonces (nonceKey ch) = 0 ∧ t.mem = s.mem ∧ t.cores = s.cores)) ∧
    (k.action = actVendorFa → Completes (.vendorFa ch k) s (fun t => Answered t ch 0 [] ∧ t.fld .SEC_STATUS_FA_ACTIVE = 1 ∧ t.fld .SPAD_MODE = 2 ∧
      (∀ p < 16, t.flag .SEC_PART_BOUND p = false) ∧ (∀ g, s.corePart g < 16 → s.partExists (s.corePart g) → SpadZero t g) ∧
      (bankGet 0 t.hbmPairs devicePair % 2 = 0 ∧ 2 * s.hbmDraws < bankGet 0 t.hbmPairs devicePair) ∧
      ∀ p < 16, (t.partExists p = false ∨ t.pstate p = .idle) → t.hbmBusy p = false → bankGet 0 t.hbmPairs p % 2 = 0 ∧ 2 * s.hbmDraws < bankGet 0 t.hbmPairs p)) ∧
    (k.action = actReplaceOperator → Completes (.replaceOperator ch k) s (fun t => Answered t ch 0 [] ∧ t.fld .SEC_STATUS_OPERATOR = 1 ∧
      t.fld64 .SEC_OPERATOR_ID_LO .SEC_OPERATOR_ID_HI = keyIdOf (k.arg.take 32) % 2 ^ 64 ∧ t.fld .ARM_MIN_SVN_OP = 0 ∧ t.mem = s.mem ∧ t.cores = s.cores)) ∧
    (k.action = actEnrolPublisher → keyIdOf (k.arg.take 32) ∉ s.thimble.publishers → Completes (.enrolPublisher ch k) s (fun t => Answered t ch 0 [] ∧
      t.thimble.publishers = s.thimble.publishers ++ [keyIdOf (k.arg.take 32)] ∧ t.fld .SEC_STATUS_PUBLISHERS = (s.thimble.publishers.length + 1) % 128 ∧ t.mem = s.mem ∧ t.cores = s.cores)) ∧
    (k.action = actRemovePublisher → Completes (.removePublisher ch k) s (fun t => Answered t ch 0 [] ∧
      t.thimble.publishers = s.thimble.publishers.filter (fun x => x ≠ tokNat k 0 8) ∧ t.mem = s.mem ∧ t.cores = s.cores)) ∧
    (k.action = actSetPolicy → Completes (.setPolicy ch k) s (fun t => Answered t ch 0 [] ∧ t.fld .SEC_STATUS_IDE_REQUIRED = tokNat k 0 1 % 2 ∧
      t.fld .SEC_STATUS_OPEN_ALLOWED = tokNat k 0 1 / 2 % 2 ∧ ((tokNat k 0 1).testBit 2 → t.fld .SEC_STATUS_FA_FUSED = 1) ∧ t.mem = s.mem ∧ t.cores = s.cores)) ∧
    (k.action = actRaiseArmSvn → Completes (.raiseArmSvn ch k) s (fun t => Answered t ch 0 [] ∧
      t.fld (if tokNat k 0 1 = 0 then .ARM_MIN_SVN_Q else .ARM_MIN_SVN_OP) = tokNat k 4 4 % 2 ^ 32 ∧ t.mem = s.mem ∧ t.cores = s.cores)) ∧
    (k.action = actOperatorReset → Completes (.operatorReset ch k) s (fun t => Answered t ch 0 [] ∧ t.fld .SEC_STATUS_OPERATOR = 0 ∧ t.thimble.publishers = [] ∧
      t.fld64 .SEC_OPERATOR_ID_LO .SEC_OPERATOR_ID_HI = 0 ∧ ∀ p < 16, t.flag .SEC_PART_BOUND p = false))) ∧
  (∀ (b : Nat) (key : List Byte) (s : State), Asked s (.mgmt b) 0 →
    (s.flag .SEC_STATUS_OPERATOR = false → Completes (.enrolOperator (.mgmt b) key) s (fun t => Answered t (.mgmt b) 0 [] ∧ t.fld .SEC_STATUS_OPERATOR = 1 ∧
      t.fld64 .SEC_OPERATOR_ID_LO .SEC_OPERATOR_ID_HI = keyIdOf key % 2 ^ 64 ∧ t.mem = s.mem ∧ t.cores = s.cores)) ∧
    (s.flag .SEC_STATUS_OPERATOR → Completes (.enrolOperator (.mgmt b) key) s (fun t => Answered t (.mgmt b) E_SEC_ENROLLED [] ∧
      t.fld64 .SEC_OPERATOR_ID_LO .SEC_OPERATOR_ID_HI = s.fld64 .SEC_OPERATOR_ID_LO .SEC_OPERATOR_ID_HI))) ∧
  (∀ s : State, s.thimble.observeEnd ≠ 0 → s.timeReached (s.thimble.observeEnd - 1) →
    Completes (.grantExpire none) s (fun t => t.fld .SEC_STATUS_OBSERVE = 0 ∧ t.thimble.observeEnd = 0 ∧ t = { s with regs := t.regs, thimble := t.thimble } ∧
      RegsBut s t [(.SEC_STATUS_OBSERVE, 0)])) ∧
  (∀ (p : Nat) (s : State), bankGet 0 s.thimble.debugEnd p ≠ 0 → s.timeReached (bankGet 0 s.thimble.debugEnd p - 1) →
    Completes (.grantExpire (some p)) s (fun t => t.flag .SEC_PART_DEBUG p = false ∧ t.mem = s.mem ∧ t.cores = s.cores)) ∧
  (∀ (id p : Nat) (s : State), Asked s (.session id) 0 →
    (s.boundTo p id → Completes (.endGrant (.session id) p) s (fun t => Answered t (.session id) 0 [] ∧ t.flag .SEC_PART_DEBUG p = false ∧ t.mem = s.mem)) ∧
    (s.boundTo p id = false → Completes (.endGrant (.session id) p) s (fun t => Answered t (.session id) E_SEC_NOT_BOUND [] ∧ t.fld .SEC_PART_DEBUG p = s.fld .SEC_PART_DEBUG p))) ∧
  (∀ (p : Nat) (s : State), Asked s .mailbox opEndGrant → s.fld .MBX_CMD_PART = 15 → s.fld .MBX_ARG_LO = 1 →
    Completes (.endGrant .mailbox p) s (fun t => Answered t .mailbox 0 [] ∧ t.fld .SEC_STATUS_OBSERVE = 0 ∧ t.thimble.observeEnd = 0))

/-- Tenants and their keys (15 R465 to R471, R480): a session that was granted a partition binds it, cleared and under new keys; a binding that ends
leaves nothing of the tenant; a partition bound to another is refused; CKIDs, queues and link keys are bound as asked; a link generation switches at its time.
Keys are symbolic: log entries 20, 42. -/
def Obligations.TenantBindings : Prop :=
  (∀ (b p session : Nat) (s : State), Asked s (.mgmt b) 0 → s.flag .PWR_STATE_PERST = false →
    Completes (.grantSession (.mgmt b) p session) s (fun t => Answered t (.mgmt b) 0 [] ∧ bankGet 0 t.thimble.grants (p % 16) = session + 1 ∧
      t = { s with thimble := t.thimble, outs := t.outs })) ∧
  (∀ (p : Nat) (s : State), Asked s .mailbox opGrantSession →
    Completes (.grantSession .mailbox p 0) s (fun t => Answered t .mailbox 0 [] ∧ bankGet 0 t.thimble.grants (s.fld .MBX_CMD_PART) = s.fld64 .MBX_ARG_LO .MBX_ARG_HI + 1 ∧ t.mem = s.mem)) ∧
  (∀ (b id p : Nat) (s : State), p < 16 → s.flag .SEC_PART_BOUND p → ∀ c ∈ [(Instr.evict (.mgmt b) p, Chan.mgmt b), (.unbind id p, .session id)],
    Asked s c.2 0 → (c.2 = .session id → s.boundTo p id) →
    Completes c.1 s (fun t => Answered t c.2 0 [] ∧ t.flag .SEC_PART_BOUND p = false ∧ t.bit .SEC_BOUND_TENANT p = false ∧ t.pstate p = .idle ∧
      t.flag .SEC_PART_DEBUG p = false ∧ t.kgenState p 0 = 0 ∧ t.kgenState p 1 = 0 ∧ (∀ g, s.corePart g = p → SpadZero t g) ∧
      (t.hbmBusy p = false → bankGet 0 t.hbmKeyReq p = 0 ∧ bankGet 0 t.hbmPairs p = 2 * (s.hbmDraws + 1) ∧ t.bit .HBM_KEYS p = false) ∧
      (t.hbmBusy p → bankGet 0 t.hbmKeyReq p = 1) ∧ ∀ q ∈ partQueues p, t.flag .Q_STATUS_BOUND q = false)) ∧
  (∀ (b p : Nat) (s : State), Asked s (.mgmt b) 0 → s.flag .SEC_PART_BOUND (p % 16) = false →
    Completes (.evict (.mgmt b) p) s (fun t => Answered t (.mgmt b) E_SEC_NOT_BOUND [] ∧ t.mem = s.mem ∧ t.cores = s.cores)) ∧
  (∀ (id p tenant : Nat) (s : State), Asked s (.session id) 0 → s.tenantOf id = some tenant → p < 16 →
    (s.bindCode id p = 0 → Completes (.bindPartition id p) s (fun t => Answered t (.session id) 0 [] ∧ t.fld .SEC_PART_BOUND p = 1 ∧ t.bit .SEC_BOUND_TENANT p ∧
      t.tenantId p = tenant % 2 ^ 64 ∧ t.kgenState p 0 = 0 ∧ t.kgenState p 1 = 0 ∧ t.fld .SEC_PART_SEND_KGEN p = 0 ∧ t.bit .HBM_KEYS p ∧
      (s.tenantId p ≠ tenant → ∀ g, s.corePart g = p → SpadZero t g) ∧
      (t.hbmBusy p = false → bankGet 0 t.hbmKeyReq p = 0 ∧ bankGet 0 t.hbmPairs p = 2 * (s.hbmDraws + 1)) ∧ (t.hbmBusy p → bankGet 0 t.hbmKeyReq p = 2))) ∧
    (s.bindCode id p ≠ 0 → Completes (.bindPartition id p) s (fun t => Answered t (.session id) (s.bindCode id p) [] ∧ t.fld .SEC_PART_BOUND p = s.fld .SEC_PART_BOUND p ∧
      t.mem = s.mem ∧ t.cores = s.cores))) ∧
  (∀ (id p k1 k2 n : Nat) (s : State), Asked s (.session id) 0 → s.boundTo p id = false → ∀ c ∈ [Instr.unbind id p, .setHbmKey id p k1 k2, .bindCkid id p n, .bindQueues id p n],
    Completes c s (fun t => Answered t (.session id) E_SEC_NOT_BOUND [] ∧ t.mem = s.mem ∧ t.cores = s.cores ∧ t.hbmKeyReq = s.hbmKeyReq ∧ t.host.ckids = s.host.ckids)) ∧
  (∀ (id p k1 k2 : Nat) (s : State), Asked s (.session id) 0 → s.boundTo p id → s.pstate p = .idle →
    (k1 ≠ k2 → Completes (.setHbmKey id p k1 k2) s (fun t => Answered t (.session id) 0 [] ∧ bankGet 0 t.hbmKeyReq p = tenantPair k1 k2 + 3 ∧ t = { s with hbmKeyReq := t.hbmKeyReq, outs := t.outs })) ∧
    (k1 = k2 → Completes (.setHbmKey id p k1 k2) s (fun t => Answered t (.session id) E_SEC_KEY_INVALID [] ∧ t.hbmKeyReq = s.hbmKeyReq))) ∧
  (∀ (id p n : Nat) (s : State), Asked s (.session id) 0 → s.boundTo p id → s.ideCode = 0 →
    Completes (.bindCkid id p n) s (fun t => Answered t (.session id) 0 [] ∧ bankGet 0 t.host.ckids n = p + 1 ∧ t.fld .SEC_PART_CKID_BOUND p = 1 ∧ t.mem = s.mem ∧ t.cores = s.cores) ∧
    Completes (.bindQueues id p n) s (fun t => Answered t (.session id) 0 [] ∧ (∀ q ∈ partQueues p, t.fld .Q_STATUS_BOUND q = 1 ∧ bankGet 0 t.host.qStreams q = n + 1) ∧
      t.fld .SEC_PART_QUEUES_BOUND p = 1 ∧ t.fld .OBS_PART_STATUS_BOUND p = 1 ∧ t.mem = s.mem ∧ t.cores = s.cores)) ∧
  (∀ (id p gen kseq j : Nat) (secret : List Byte) (s : State), Asked s (.session id) 0 → p < 16 → s.boundTo p id → gen < 2 → kseq < 2 ^ 64 → s.runSlot p = some j →
    (s.jobKeyCode p gen true kseq = 0 → Completes (.setJobKey (.session id) p gen true kseq secret true) s (fun t => Answered t (.session id) 0 [] ∧ t.kgenState p gen = 2 ∧
      bankGet 0 t.jobKeys (sealKey p gen) = Config.linkKey secret (s.fld .SLOT_CFG_JOB_TAG j) kseq + 1 ∧ t.fld64 .SEC_KFLOOR_LO .SEC_KFLOOR_HI = kseq ∧
      (∀ n < 32, t.sealCount p gen n = 0) ∧ t.mem = s.mem ∧ t.cores = s.cores)) ∧
    (s.jobKeyCode p gen false kseq = 0 → Completes (.setJobKey (.session id) p gen false kseq secret true) s (fun t => Answered t (.session id) 0 [] ∧ t.kgenState p gen = 1 ∧
      bankGet 0 t.jobKeys (sealKey p gen) = 0 ∧ t.fld64 .SEC_KFLOOR_LO .SEC_KFLOOR_HI = s.fld64 .SEC_KFLOOR_LO .SEC_KFLOOR_HI))) ∧
  (∀ (id p gen T : Nat) (s : State), Asked s (.session id) 0 → p < 16 → s.boundTo p id → gen < 2 → T < 2 ^ 64 → s.kgenState p gen ≠ 0 →
    s.flag .SEC_PART_SWITCH_PENDING p = false → s.twoMicrosAhead T →
    Completes (.switchKgen (.session id) p gen T true) s (fun t => Answered t (.session id) 0 [] ∧ t.fld .SEC_PART_SWITCH_PENDING p = 1 ∧
      bankGet 0 t.thimble.kgenSwitch p = T * 2 + gen + 1 ∧ t.fld .SEC_PART_SEND_KGEN p = s.fld .SEC_PART_SEND_KGEN p)) ∧
  (∀ (p T gen : Nat) (s : State), bankGet 0 s.thimble.kgenSwitch p = T * 2 + gen + 1 → gen < 2 → s.timeReached T →
    Completes (.kgenSwitchTime p) s (fun t => t.fld .SEC_PART_SEND_KGEN p = gen ∧ t.fld .SEC_PART_SWITCH_PENDING p = 0 ∧ bankGet 0 t.thimble.kgenSwitch p = 0 ∧
      t = { s with regs := t.regs, thimble := t.thimble } ∧ RegsBut s t [(.SEC_PART_SEND_KGEN, p), (.SEC_PART_SWITCH_PENDING, p)])) ∧
  (∀ (id p gen : Nat) (s : State), Asked s (.session id) 0 → p < 16 → s.boundTo p id → gen < 2 →
    (gen ≠ s.fld .SEC_PART_SEND_KGEN p → s.switchTarget p ≠ some gen → Completes (.clearKgen (.session id) p gen true) s (fun t =>
      Answered t (.session id) 0 [] ∧ t.kgenState p gen = 0 ∧ bankGet 0 t.jobKeys (sealKey p gen) = 0 ∧ t.kgenState p (1 - gen) = s.kgenState p (1 - gen))) ∧
    (gen = s.fld .SEC_PART_SEND_KGEN p → Completes (.clearKgen (.session id) p gen true) s (fun t => Answered t (.session id) E_SEC_STATE [] ∧ t.jobKeys = s.jobKeys))) ∧
  (∀ (id : Nat) (s : State), Asked s (.session id) 0 →
    Completes (.getKfloor id) s (fun t => t = { s with outs := s.outs ++ [.reply (.session id) (.code 0 [s.fld64 .SEC_KFLOOR_LO .SEC_KFLOOR_HI])] })) ∧
  (∀ (party : Party) (s : State), party ≠ .mgmt → s.flag .MBX_STATUS_BUSY = false →
    (1 ≤ s.fld .MBX_CMD_OP → s.fld .MBX_CMD_OP ≤ 7 → Completes (.mbxCtrlGo party) s (fun t => t.fld .MBX_STATUS_BUSY = 1 ∧ OnlyRegs s t [(.MBX_STATUS_BUSY, 0)])) ∧
    (s.fld .MBX_CMD_OP = 0 → Completes (.mbxCtrlGo party) s (fun t => Answered t .mailbox E_SEC_TOKEN_FORMAT [] ∧ t.mem = s.mem ∧ t.cores = s.cores)))

/-- The SPDM responder (15 R473, R474, Tables 15.9, 15.10): each request is answered; a requester sees the content of a partition only where no tenant
or its own tenant holds it; sessions open, are finished, updated and end, a thirty-third is refused.
Answers hold only what a rule names: log entry 43. -/
def Obligations.SpdmResponder : Prop :=
  (∀ (ch : Chan) (s : State), SpdmHeard s ch → ∀ c ∈ [(Instr.getVersion ch, Spdm.version), (.getCapabilities ch, .capabilities), (.negotiateAlgorithms ch, .algorithms),
      (.getDigests ch 0, .digests), (.getDigests ch 1, .unsupported), (.getCertificate ch 0, .certificate), (.getCertificate ch 1, .unsupported), (.challenge ch, .challenge),
      (.chunkSend ch, .chunkSend), (.chunkGet ch, .chunk), (.spdmUnsupportedRequest ch, .unsupported), (.getMeasurements ch none, .measurements (s.measurements ch))],
    Completes c.1 s (fun t => t = { s with outs := s.outs ++ [.reply ch (.spdm c.2)] })) ∧
  (∀ (ch : Chan) (p : Nat) (s : State), p < 16 → s.flag .SEC_PART_BOUND p → (∀ id, ch = .session id → s.boundTo p id = false) → ∀ e ∈ s.measurements ch, e.1 ≠ 0x20 + p) ∧
  (∀ (ch : Chan) (k : Nat) (s : State), SpdmHeard s ch →
    Completes (.getMeasurements ch (some k)) s (fun t => t = { s with outs := s.outs ++ [.reply ch (.spdm (.measurements ((s.measurements ch).filter (fun e => e.1 = k))))] })) ∧
  (∀ (ch : Chan) (id : Nat) (s : State), SpdmHeard s ch →
    (s.thimble.sessions.length < 32 → s.session id = none → Completes (.keyExchange ch id) s (fun t => t.session id = some { id := id } ∧
      t.thimble = { s.thimble with sessions := s.thimble.sessions ++ [{ id := id }] } ∧ t = { s with thimble := t.thimble, outs := s.outs ++ [.reply ch (.spdm (.keyExchange id))] })) ∧
    (32 ≤ s.thimble.sessions.length → Completes (.keyExchange ch id) s (fun t => t = { s with outs := s.outs ++ [.reply ch (.spdm .busy)] }))) ∧
  (∀ (id tenant : Nat) (s : State), SpdmHeard s (.session id) →
    Completes (.finishMsg id tenant) s (fun t => t.tenantOf id = some tenant ∧ t = { s with thimble := t.thimble, outs := s.outs ++ [.reply (.session id) (.spdm .finished)] }) ∧
    Completes (.heartbeat id) s (fun t => t = { s with outs := s.outs ++ [.reply (.session id) (.spdm .heartbeat)] }) ∧
    Completes (.keyUpdate id) s (fun t => ((t.session id).elim 0 Session.keys) = ((s.session id).elim 0 Session.keys) + 1 ∧ t.tenantOf id = s.tenantOf id ∧
      t = { s with thimble := t.thimble, outs := s.outs ++ [.reply (.session id) (.spdm .keyUpdate)] }) ∧
    Completes (.endSession id) s (fun t => t.session id = none ∧ (∀ p, bankGet 0 t.thimble.grants p ≠ id + 1) ∧ bankGet 0 t.thimble.nonces (2 + id) = 0 ∧
      (∀ j, j ≠ id → t.session j = s.session j) ∧ t = { s with thimble := t.thimble, outs := s.outs ++ [.reply (.session id) (.spdm .endSession)] }))

/-- The management buses and their answers (16 R483 to R490): modes and addresses of a bus, its isolation and return; MCTP control and PLDM
requests are answered with what the rule names; events are handed out oldest first; sensors are refreshed.
Contents that no rule names are constants of Config, reserved endpoint IDs are not taken: log entry 44. -/
def Obligations.MgmtBuses : Prop :=
  (∀ (b addr : Nat) (s : State), s.busUp b →
    Completes (.i3cDynamicAddress b addr) s (fun t => t.fld (busFld b) = 1 ∧ bankGet 0 t.thimble.addrs b = addr + 1 ∧ t = { s with regs := t.regs, thimble := t.thimble } ∧
      RegsBut s t [(busFld b, 0)]) ∧
    Completes (.i3cRstdaa b) s (fun t => t.fld (busFld b) = 0 ∧ bankGet 0 t.thimble.addrs b = 0 ∧ t = { s with regs := t.regs, thimble := t.thimble } ∧
      RegsBut s t [(busFld b, 0)]) ∧
    Completes (.busStuckLow b) s (fun t => b ∈ t.thimble.stuck ∧ t = { s with thimble := t.thimble, outs := s.outs ++ [.busRecover b] }) ∧
    (b ∈ s.thimble.stuck → Completes (.busIsolate b) s (fun t => t.fld (busFld b) = 2 ∧ bankGet 0 t.thimble.addrs b = 0 ∧ b ∉ t.thimble.stuck ∧
      (s.fld .MGMT_ERROR_VALID = 0 → t.fld .MGMT_ERROR_CODE = E_MGMT_BUS_STUCK ∧ t.fld .MGMT_ERROR_VALID = 1) ∧
      (s.fld (busFld (1 - b)) ≠ 2 → .busStuck b ∈ t.events) ∧ t.mem = s.mem ∧ t.cores = s.cores)) ∧
    (∀ eid, 8 ≤ eid → eid < 255 → Completes (.setEndpointId b eid) s (fun t =>
      t = { s with thimble := { s.thimble with eid := eid }, outs := s.outs ++ [.reply (.mgmt b) (.mctp [eid])] })) ∧
    (∀ c ∈ [(Instr.getEndpointId b, [s.thimble.eid]), (.getMctpVersionSupport b, Config.mctpData 0), (.getMessageTypeSupport b, [0x00, 0x01, 0x05, 0x06, 0x7E]),
        (.getVendorDefinedMsgSupport b, [0x1D9F])],
      Completes c.1 s (fun t => t = { s with outs := s.outs ++ [.reply (.mgmt b) (.mctp c.2)] }))) ∧
  (∀ (b : Nat) (s : State), s.thimbleUp → s.fld (busFld b) = 2 →
    Completes (.busReturn b) s (fun t => t.fld (busFld b) = 0 ∧ OnlyRegs s t [(busFld b, 0)])) ∧
  (∀ (b type : Nat) (s : State), s.busUp b → s.thimble.eid ≠ 0 →
    (∀ c ∈ [(Instr.gettid b, Config.mctpData 1), (.getpldmversion b, Config.mctpData 2), (.getpldmtypes b, [0, 2, 4, 5]), (.getpldmcommands b type, Config.mctpData (16 + type)),
        (.fruDataRead b, Config.mctpData 3), (.getpdr b, ((List.range 14).map (fun k => k + 1)).filter s.sensorUp)],
      Completes c.1 s (fun t => t = { s with outs := s.outs ++ [.reply (.mgmt b) (.mctp c.2)] })) ∧
    Completes (.mctpUnsupportedType b) s (fun t => t.fld .MGMT_BAD_MSG = (s.fld .MGMT_BAD_MSG + 1) % 2 ^ 32 ∧ OnlyRegs s t [(.MGMT_BAD_MSG, 0)])) ∧
  (∀ (b : Nat) (s : State), Asked s (.mgmt b) 0 → ∀ c ∈ [(Instr.getEvents b, 16), (.pollForPlatformEventMessage b, 1)],
    Completes c.1 s (fun t => t.events = s.events.drop c.2 ∧ t.outs = s.outs ++ [.reply (.mgmt b) (.events (s.events.take c.2))] ∧
      (t.events = [] → t.fld .MGMT_STATUS_ALERT = 0) ∧ (t.events ≠ [] → t.fld .MGMT_STATUS_ALERT = s.fld .MGMT_STATUS_ALERT) ∧
      t = { s with regs := t.regs, events := t.events, outs := t.outs } ∧ RegsBut s t [(.MGMT_STATUS_ALERT, 0)])) ∧
  (∀ (mv ca watts : Nat) (s : State), s.thimbleUp → mv < 2 ^ 16 → ca < 2 ^ 16 →
    Completes (.sensorRefresh mv ca watts) s (fun t => t.fld .INPUT_VOLTAGE = mv ∧ t.fld .INPUT_CURRENT = ca ∧ bankGet 0 t.thimble.readings 1 = mv ∧
      bankGet 0 t.thimble.readings 2 = ca ∧ bankGet 0 t.thimble.readings 3 = watts ∧
      ((∃ e ∈ s.power.temps, critAt (tempSensor e.1) ≤ e.2) → t.fld .MGMT_STATUS_THERM = 1) ∧
      ((∀ e ∈ s.power.temps, e.2 ≤ critAt (tempSensor e.1) - 3) → t.fld .MGMT_STATUS_THERM = 0) ∧
      t = { s with regs := t.regs, thimble := t.thimble, events := t.events, outs := t.outs })) ∧
  (∀ (b off : Nat) (s : State), Asked s (.mgmt b) 0 → s.flag .PWR_STATE_PERST = false →
    (off % 4 ≠ 0 ∨ 2 ^ 26 ≤ off → Completes (.readReg b off) s (fun t => Answered t (.mgmt b) E_MGMT_REG_ACCESS [] ∧ t.mem = s.mem ∧ t.cores = s.cores) ∧
      ∀ v, Completes (.writeReg b off v) s (fun t => Answered t (.mgmt b) E_MGMT_REG_ACCESS [] ∧ t.mem = s.mem ∧ t.cores = s.cores)) ∧
    Completes (.readReg b 0x00101008) s (fun t => t.outs = s.outs ++ [.reply (.mgmt b) (.code 0 [s.fld .PLAN_TICK_LO 0 % 2 ^ 32])] ∧ t = { s with outs := t.outs, latch := t.latch }) ∧
    ∀ v < 2 ^ 32, Completes (.writeReg b 0x00400070 v) s (fun t => t.fld .POOL_SCRUB = v % 2 ∧ t.outs = s.outs ++ [.reply (.mgmt b) (.code 0 [])] ∧
      t = { s with regs := t.regs, outs := t.outs } ∧ RegsBut s t [(.POOL_SCRUB, 0)]))

/-- Who is in charge (16 R491 to R496; 17 R512): PLAN changes hands; the caps are clamped; the power state moves or the request is refused; a
power cycle answers and then takes every rail away; FAULT_N is released when nothing is wrong any more.
Which conditions CLEAR_FAULT sees is the model's reading (log entry 45). -/
def Obligations.MgmtControl : Prop :=
  (∀ (b : Nat) (s : State), Asked s (.mgmt b) 0 →
    (s.host.downAt ≠ 0 → s.elapsed (s.host.downAt - 1) 1000000000 → s.flag .PWR_STATE_PERST = false →
      Completes (.takePlan b) s (fun t => t.fld .CONTROL_OWNER_PLAN_MGMT = 1 ∧ t.outs = s.outs ++ [.reply (.mgmt b) (.code 0 [])] ∧
        t = { s with regs := t.regs, outs := t.outs } ∧ RegsBut s t [(.CONTROL_OWNER_PLAN_MGMT, 0)])) ∧
    (s.host.downAt = 0 → Completes (.takePlan b) s (fun t => Answered t (.mgmt b) E_MGMT_NOT_OWNER [] ∧
      t.fld .CONTROL_OWNER_PLAN_MGMT = s.fld .CONTROL_OWNER_PLAN_MGMT ∧ t.mem = s.mem ∧ t.cores = s.cores))) ∧
  (∀ (party : Party) (s : State), party ≠ .mgmt → s.host.downAt = 0 →
    Completes (.controlOwnerClaim party) s (fun t => t.fld .CONTROL_OWNER_PLAN_MGMT = 0 ∧ OnlyRegs s t [(.CONTROL_OWNER_PLAN_MGMT, 0)])) ∧
  (∀ (party : Party) (v : Nat) (s : State), party ≠ .mgmt → v < 2 ^ 13 →
    Completes (.powerCapWrite party v none) s (fun t => t.fld .POWER_CAP = min (max v 1500) (s.fld .POWER_ENVELOPE) ∧ OnlyRegs s t [(.POWER_CAP, 0)]) ∧
    ∀ u < 2 ^ 13, Completes (.powerCapWrite party v (some u)) s (fun t =>
      t.fld .POWER_CAP = min (min (max v 1500) (s.fld .POWER_ENVELOPE)) (min (max u 1500) (s.fld .POWER_ENVELOPE)) ∧ OnlyRegs s t [(.POWER_CAP, 0)])) ∧
  (∀ (v : Nat) (s : State), s.thimbleUp → s.thimble.romRecovery = false → v < 2 ^ 13 →
    Completes (.powerEnvelopeWrite .mgmt v) s (fun t => t.fld .POWER_ENVELOPE = min (max v 1500) 3300 ∧
      t.fld .POWER_CAP = min (s.fld .POWER_CAP) (min (max v 1500) 3300) ∧ OnlyRegs s t [(.POWER_ENVELOPE, 0), (.POWER_CAP, 0)]) ∧
    Completes (.clockCapWrite .mgmt v) s (fun t => t.fld .CLOCK_CAP = v % 4 ∧ t = { s with regs := t.regs, dies := t.dies } ∧ RegsBut s t [(.CLOCK_CAP, 0)] ∧
      ∀ nn < 64, s.awake nn → (s.die nn).changing = 0 → max gradeStep (max (v % 4) (s.dieStep .THERM_DIE_STEP nn)) ≠ (s.die nn).now →
        (t.die nn).changing = max gradeStep (max (v % 4) (s.dieStep .THERM_DIE_STEP nn)) + 1)) ∧
  (∀ (party : Party) (v : Nat) (s : State), party ≠ .mgmt → ∀ c ∈ [Instr.powerEnvelopeWrite party v, .clockCapWrite party v],
    Completes c s (fun t => t.fld .POWER_ENVELOPE = s.fld .POWER_ENVELOPE ∧ t.fld .CLOCK_CAP = s.fld .CLOCK_CAP ∧ t.fld .POWER_CAP = s.fld .POWER_CAP ∧
      (s.fld .MGMT_ERROR_VALID = 0 → t.fld .MGMT_ERROR_CODE = E_MGMT_NOT_OWNER) ∧ t = { s with regs := t.regs, events := t.events, outs := t.outs })) ∧
  (∀ (b : Nat) (st : Fin 3) (s : State), Asked s (.mgmt b) 0 →
    (s.flag .PWR_STATE_MOVING = false → s.moveCode (s.fld .PWR_STATE_STATE) (st.val + 1) = 0 → s.fld .PWR_STATE_STATE ≠ st.val + 1 →
      Completes (.setPowerState b st) s (fun t => t.fld .PWR_STATE_TARGET = st.val + 1 ∧ t.fld .PWR_STATE_MOVING = 1 ∧ t.fld .PWR_STATE_HOLD_BOOT = 0 ∧
        t.outs = s.outs ++ [.reply (.mgmt b) (.code 0 [])] ∧ (s.fld .PWR_STATE_STATE = pwrAo → t.power.go) ∧ t = { s with regs := t.regs, power := t.power, outs := t.outs })) ∧
    (s.flag .PWR_STATE_MOVING → s.moveCode (s.fld .PWR_STATE_TARGET) (st.val + 1) = 0 →
      Completes (.setPowerState b st) s (fun t => t.power.next = st.val + 1 ∧ t.fld .PWR_STATE_TARGET = s.fld .PWR_STATE_TARGET ∧
        t.outs = s.outs ++ [.reply (.mgmt b) (.code 0 [])] ∧ t = { s with regs := t.regs, power := t.power, outs := t.outs })) ∧
    (s.flag .PWR_STATE_MOVING = false → s.fld .PWR_STATE_STATE = pwrRun → st = 1 → (∃ p < 16, (s.pstate p).active ∨ s.pstate p = .armed) →
      Completes (.setPowerState b st) s (fun t => Answered t (.mgmt b) E_PWR_STATE_BUSY [] ∧ t.fld .PWR_STATE_MOVING = s.fld .PWR_STATE_MOVING ∧
        t.fld .PWR_STATE_TARGET = s.fld .PWR_STATE_TARGET ∧ t.power = s.power ∧ t.mem = s.mem ∧ t.cores = s.cores))) ∧
  (∀ s : State, s.flag .PWR_STATE_MOVING → s.fld .PWR_STATE_STATE ≠ pwrAo → s.power.next = 0 →
    (s.fld .PWR_STATE_TARGET = pwrRun → Completes .powerStateMoveDone s (fun t => t.fld .PWR_STATE_STATE = pwrRun ∧ t.fld .PWR_STATE_MOVING = 0 ∧ ∀ nn < 64, t.awake nn)) ∧
    (s.fld .PWR_STATE_TARGET = pwrIdle → Completes .powerStateMoveDone s (fun t => t.fld .PWR_STATE_STATE = pwrIdle ∧ t.fld .PWR_STATE_MOVING = 0 ∧ (∀ nn < 64, t.awake nn = false) ∧
      (∀ n < 16, s.stackState n ≠ stackFailed → t.stackState n = stackSelfRefresh) ∧ t.mem = s.mem ∧ t.cores = s.cores)) ∧
    (s.fld .PWR_STATE_TARGET = pwrAo → Completes .powerStateMoveDone s (fun t => t.fld .PWR_STATE_STATE = pwrAo ∧ t.fld .PWR_STATE_MOVING = 0 ∧
      (∀ n < 32, t.fld .LINK_STATUS_STATE n = linkDown) ∧ t.mem = { plinthData := s.mem.plinthData } ∧ t.plinth = s.plinth))) ∧
  (∀ (b seconds : Nat) (s : State), s.thimbleUp → s.busServed b → 1 ≤ seconds → seconds ≤ 60 →
    Completes (.powerCycle b seconds) s (fun t => .reply (.mgmt b) (.code 0 []) ∈ t.outs ∧ t.power.railsOff ∧ t.power.por ∧ t.fld .INPUT_EVENTS_MGMT_CYCLE = 1 ∧
      t.mem = { plinthData := s.mem.plinthData } ∧ t.cores = [] ∧ t.plinth = s.plinth)) ∧
  (∀ (b : Nat) (input : Bool) (s : State), Asked s (.mgmt b) 0 →
    (input = false → s.power.step < 12 ∨ s.faultPresent = false → Completes (.clearFault b input) s (fun t => Answered t (.mgmt b) 0 [] ∧ t.power.cleared ∧
      (s.power.up → t.fld .MGMT_STATUS_FAULT = 0) ∧ t = { s with regs := t.regs, power := t.power, events := t.events, outs := t.outs })) ∧
    (input ∨ 12 ≤ s.power.step ∧ s.faultPresent → Completes (.clearFault b input) s (fun t => Answered t (.mgmt b) E_MGMT_FAULT_PRESENT [] ∧
      t.fld .MGMT_STATUS_FAULT = s.fld .MGMT_STATUS_FAULT ∧ t = { s with regs := t.regs, events := t.events, outs := t.outs })))

/-- Firmware updates (16 R497 to R500): an update begins once; its header is checked before anything is written; the digest decides at the end; a
transfer that stops leaves the stored image invalid once writing has begun; an activation restarts Thimble or is put off; the ROM starts a valid
image and stays in ROM recovery with another.
Log entries 20 and 46: digests, and a stop before the header. -/
def Obligations.FirmwareUpdate : Prop :=
  (∀ (b : Nat) (s : State), s.busUp b → s.thimble.eid ≠ 0 →
    (s.thimble.update = none → Completes (.requestUpdate b) s (fun t => t.thimble = { s.thimble with update := some {} } ∧ t.fld .MGMT_STATUS_UPDATING = 1 ∧
      .reply (.mgmt b) (.mctp []) ∈ t.outs ∧ .firmware 0 ∈ t.events ∧ t = { s with regs := t.regs, thimble := t.thimble, events := t.events, outs := t.outs })) ∧
    (s.thimble.update ≠ none → Completes (.requestUpdate b) s (fun t => t = { s with outs := s.outs ++ [.reply (.mgmt b) .pldmBusy] })) ∧
    (∀ (h : FwHeader) (l : List Byte), s.thimble.update = some { header := some h, body := l } → Completes (.cancelUpdate b) s (fun t => t.thimble.update = none ∧
      t.thimble.stored = some (fwOf h false) ∧ t.fld .MGMT_STATUS_UPDATING = 0 ∧ .reply (.mgmt b) (.mctp []) ∈ t.outs)) ∧
    (∀ l : List Byte, s.thimble.update = some { header := none, body := l } → Completes (.cancelUpdate b) s (fun t => t.thimble.update = none ∧
      t.thimble.stored = s.thimble.stored ∧ t.fld .MGMT_STATUS_UPDATING = 0 ∧ .reply (.mgmt b) (.mctp []) ∈ t.outs)) ∧
    (s.thimble.updated → (∀ p < 16, s.pstate p = .idle ∧ s.flag .SEC_PART_BOUND p = false) → Completes (.activateFirmware b) s (fun t => t.thimble.restarting ∧
      t.thimble.stored = s.thimble.stored ∧ .reply (.mgmt b) (.mctp []) ∈ t.outs ∧ .firmware 3 ∈ t.events)) ∧
    (s.thimble.updated → (∃ p < 16, s.pstate p ≠ .idle ∨ s.flag .SEC_PART_BOUND p) → Completes (.activateFirmware b) s (fun t => t.fld .MGMT_STATUS_ACTIVATE_PENDING = 1 ∧
      Answered t (.mgmt b) E_MGMT_ACTIVATE_BUSY [] ∧ t.thimble = s.thimble)) ∧
    (s.thimble.updated = false → Completes (.activateFirmware b) s (fun t => t = { s with outs := s.outs ++ [.reply (.mgmt b) .pldmError] }))) ∧
  (∀ (h : FwHeader) (l : List Byte) (s : State), s.thimbleUp → s.thimble.update = some { header := none, body := l } →
    (s.fwCode h = 0 → Completes (.firmwareDataReceive (.header h)) s (fun t => t.thimble.update = some { header := some h } ∧ t.thimble.stored = some (fwOf h false) ∧
      t.thimble.updated = false ∧ t = { s with regs := t.regs, thimble := t.thimble })) ∧
    (s.fwCode h ≠ 0 → Completes (.firmwareDataReceive (.header h)) s (fun t => t.thimble.update = none ∧ t.thimble.stored = s.thimble.stored ∧
      (s.fld .MGMT_ERROR_VALID = 0 → t.fld .MGMT_ERROR_CODE = s.fwCode h) ∧ t.fld .MGMT_STATUS_UPDATING = 0))) ∧
  (∀ (h : FwHeader) (l x : List Byte) (s : State), s.thimbleUp → s.thimble.update = some { header := some h, body := l } →
    ((l ++ x).length < h.bodySize → Completes (.firmwareDataReceive (.body x)) s (fun t => t.thimble = { s.thimble with update := some { header := some h, body := l ++ x } })) ∧
    (h.bodySize ≤ (l ++ x).length → sha512 ((l ++ x).take h.bodySize) = h.bodyDigest → Completes (.firmwareDataReceive (.body x)) s (fun t =>
      t.thimble.stored = some (fwOf h true) ∧ t.thimble.updated ∧ t.thimble.update = none ∧ .firmware 1 ∈ t.events ∧ t.fld .MGMT_STATUS_UPDATING = 0)) ∧
    (h.bodySize ≤ (l ++ x).length → sha512 ((l ++ x).take h.bodySize) ≠ h.bodyDigest → Completes (.firmwareDataReceive (.body x)) s (fun t =>
      t.thimble.stored = some (fwOf h false) ∧ t.thimble.update = none ∧ (s.fld .MGMT_ERROR_VALID = 0 → t.fld .MGMT_ERROR_CODE = E_MGMT_FW_DIGEST) ∧ .firmware 2 ∈ t.events)) ∧
    Completes .firmwareTransferTimeout s (fun t => t.thimble.stored = some (fwOf h false) ∧ t.thimble.update = none ∧
      (s.fld .MGMT_ERROR_VALID = 0 → t.fld .MGMT_ERROR_CODE = E_MGMT_FW_DIGEST) ∧ t.fld .MGMT_STATUS_UPDATING = 0)) ∧
  (∀ (f : Firmware) (s : State), s.thimble.restarting → s.thimble.stored = some f →
    (f.valid → Completes .thimbleRestartDone s (fun t => t.thimble.restarting = false ∧ t.thimble.romRecovery = false ∧ t.thimble.running = some f.digest ∧
      t.fld .FW_INFO_VERSION_MINOR = f.version % 2 ^ 16 ∧ t.fld .FW_INFO_SVN = f.svn % 2 ^ 7 ∧ t.fld .MGMT_STATUS_ACTIVATE_PENDING = 0 ∧
      (f.raiseFloor → t.fld .FW_INFO_FLOOR = max (s.fld .FW_INFO_FLOOR) f.svn % 2 ^ 7) ∧ t = { s with regs := t.regs, thimble := t.thimble } ∧
      RegsBut s t [(.FW_INFO_VERSION_MINOR, 0), (.FW_INFO_SVN, 0), (.MGMT_STATUS_ACTIVATE_PENDING, 0), (.FW_INFO_FLOOR, 0)])) ∧
    (f.valid = false → Completes .thimbleRestartDone s (fun t => t.thimble.restarting = false ∧ t.thimble.romRecovery ∧ (s.flag .MGMT_STATUS_FAULT = false → t.fld .MGMT_STATUS_FAULT = 1))))

/-- The input stage (17 R503 to R510, R517 to R519; 16 R496; 18 R538): what each of its events records, which of them drop the device to AO or assert
power-on reset, and what its end releases.
The model's readings of log entries 47 to 49. -/
def Obligations.InputStage : Prop :=
  (∀ s : State, s.power.por = false →
    Completes .watchdogRestart s (fun t => t = { s with power := { s.power with watchdog := s.raw } }) ∧
    (s.elapsed s.power.watchdog 1000000000 → Completes .watchdogExpire s (fun t => t.power.railsOff ∧ t.fld .INPUT_EVENTS_WATCHDOG = 1 ∧ PoweredOn s t [(.INPUT_EVENTS_WATCHDOG, 0)])) ∧
    Completes (.inputLow true) s (fun t => t.fld .INPUT_STATUS_LOW = 1 ∧ PwrNoted s t E_PWR_INPUT_LOW ∧ t.mem = s.mem ∧ t.cores = s.cores ∧ RegsBut s t ((.INPUT_STATUS_LOW, 0) :: notedFlds)) ∧
    Completes (.inputLow false) s (fun t => t.fld .INPUT_STATUS_LOW = 0 ∧ OnlyRegs s t [(.INPUT_STATUS_LOW, 0)]) ∧
    (∀ on : Bool, Completes (.inputHigh on) s (fun t => t.fld .INPUT_STATUS_HIGH = on.toNat ∧ OnlyRegs s t [(.INPUT_STATUS_HIGH, 0)])) ∧
    Completes .overvoltageTrip s (fun t => t.fld .INPUT_STATUS_EFUSE_OPEN = 1 ∧ t.fld .INPUT_EVENTS_OV_TRIP = 1 ∧ t.flag .MGMT_STATUS_FAULT ∧ PwrNoted s t E_PWR_OVERVOLTAGE ∧
      InAo s t [(.INPUT_STATUS_EFUSE_OPEN, 0), (.INPUT_EVENTS_OV_TRIP, 0)]) ∧
    Completes (.efuseTrip false) s (fun t => t.fld .INPUT_STATUS_EFUSE_OPEN = 1 ∧ t.fld .INPUT_EVENTS_EFUSE_TRIP = 1 ∧ t.flag .MGMT_STATUS_FAULT ∧ PwrNoted s t E_PWR_EFUSE_TRIP ∧
      InAo s t [(.INPUT_STATUS_EFUSE_OPEN, 0), (.INPUT_EVENTS_EFUSE_TRIP, 0)]) ∧
    Completes (.efuseTrip true) s (fun t => t.power.aoShort ∧ t.power.por ∧ t.fld .INPUT_EVENTS_EFUSE_TRIP = 1 ∧ t.mem = { plinthData := s.mem.plinthData } ∧ t.cores = []) ∧
    Completes .senseOpen s (fun t => t.fld .INPUT_STATUS_SENSE_OPEN = 1 ∧ t.fld .INPUT_EVENTS_SENSE_OPEN = 1 ∧ PwrNoted s t E_PWR_SENSE_OPEN ∧ t.mem = s.mem ∧ t.cores = s.cores ∧
      RegsBut s t ([(.INPUT_STATUS_SENSE_OPEN, 0), (.INPUT_EVENTS_SENSE_OPEN, 0)] ++ notedFlds)) ∧
    Completes .perstGlitch s (fun t => t.fld .PIN_EVENTS_PERST_GLITCH = 1 ∧ OnlyRegs s t [(.PIN_EVENTS_PERST_GLITCH, 0)]) ∧
    (s.flag .PWR_STATE_PERST = false → Completes .perstAssert s (fun t => t.fld .PWR_STATE_PERST = 1 ∧ t.fld .RESET_CAUSE_PIN = 1 ∧
      t.fld .RESET_CAUSE_PIN_COUNT = min 255 (s.fld .RESET_CAUSE_PIN_COUNT + 1) ∧ t.power.next = 0 ∧ InAo s t [(.PWR_STATE_PERST, 0), (.RESET_CAUSE_PIN, 0), (.RESET_CAUSE_PIN_COUNT, 0)])) ∧
    (s.flag .PWR_STATE_PERST → Completes .perstRelease s (fun t => t.fld .PWR_STATE_PERST = 0 ∧ t.fld .OPTB_STATUS_APPLIED = 0 ∧ t = { s with regs := t.regs, power := t.power } ∧
      RegsBut s t [(.PWR_STATE_PERST, 0), (.OPTB_STATUS_APPLIED, 0)]))) ∧
  (∀ s : State, Completes .senseRestore s (fun t => t.fld .INPUT_STATUS_SENSE_OPEN = 0 ∧ OnlyRegs s t [(.INPUT_STATUS_SENSE_OPEN, 0)]) ∧
    Completes .railsRestore s (fun t => t = { s with power := { s.power with railsOff := false } }) ∧
    Completes (.aoPathRetry true) s (fun t => t = { s with power := { s.power with aoShort := false } }) ∧
    Completes (.inputBrownout false) s (fun t => t.fld .INPUT_EVENTS_BROWNOUT = 1 ∧ t.power.brownout ∧ PoweredOn s t [(.INPUT_EVENTS_BROWNOUT, 0)]) ∧
    (∀ c ∈ [Instr.inputBrownout true, .reversePolarity], Completes c s (fun t => (∀ f ∈ inputEventFlds, t.fld f = 0) ∧ (c = .reversePolarity → t.power.reversed) ∧
      t.fld .INPUT_STATUS_EFUSE_OPEN = 0 ∧ t.power.thermal = false ∧
      PoweredOn s t ((.INPUT_STATUS_EFUSE_OPEN, 0) :: inputEventFlds.map (fun f => (f, 0)))))) ∧
  (∀ s : State, s.power.por → s.power.railsOff = false → s.power.aoShort = false →
    Completes .porRelease s (fun t => t.power.por = false ∧ t.power.step = 2 ∧ t.power.watchdog = s.raw ∧ t.fld .RESET_CAUSE_POR_COLD = (!s.power.brownout).toNat ∧
      t.fld .RESET_CAUSE_POR_BROWNOUT = s.power.brownout.toNat ∧ t.fld .RESET_CAUSE_PIN = 0 ∧ (s.power.reversed → t.fld .INPUT_EVENTS_REVERSE = 1) ∧
      t = { s with regs := t.regs, power := t.power } ∧
      RegsBut s t [(.RESET_CAUSE_POR_COLD, 0), (.RESET_CAUSE_POR_BROWNOUT, 0), (.RESET_CAUSE_PIN, 0), (.TIME_STATUS_COARSE, 0), (.INPUT_EVENTS_REVERSE, 0)])) ∧
  (∀ s : State, s.railRising →
    Completes .railInRegulation s (fun t => t = { s with power := { s.power with rail := s.power.rail + 1 } }) ∧
    Completes .railTimeout s (fun t => PwrNoted s t E_PWR_RAIL_FAULT ∧ (s.flag .PWR_ERROR_INFO_VALID = false → t.fld .PWR_ERROR_INFO_ITEM = s.power.rail + 1) ∧
      t.flag .MGMT_STATUS_FAULT ∧ t.power.rail = 0 ∧ InAo s t []))

/-- Options and the bring-up (17 R520 to R528, Table 17.9): STRAP_SEL is read and its choice applied; each step of the bring-up has the effect
that the table names.
The model's readings of log entries 9, 10 and 47. -/
def Obligations.BringUp : Prop :=
  (∀ (code : Nat) (s : State), code < 1024 → s.power.por = false → 3 ≤ s.power.step → s.thimble.romRecovery = false → s.thimble.restarting = false →
    s.fld .OPTB_STATUS_APPLIED = 0 → s.power.abandoned = false →
    Completes (.optionLoad code) s (fun t => t.fld .STRAP_READ_CODE = code ∧ t.fld .STRAP_READ_CHOICE = (code + 32) / 64 % 16 ∧ t.fld .OPTB_STATUS_APPLIED = 1 ∧
      t.fld .STRAP_READ_OPEN = (if 992 ≤ code then 1 else 0) ∧ (s.power.loaded = false → t.fld .STRAP_READ_ADDR_OFFSET = (code + 32) / 64 % 16) ∧
      (s.flag .OPTB_STATUS_FUSE_EN = false → t.fld .STRAP_READ_HOST_MODE = (code + 32) / 64 / 4 % 2 ∧ t.fld .STRAP_READ_BOOT = (code + 32) / 64 / 8 % 2 ∧ t.fld .STRAP_READ_FROM_OPTB = 0) ∧
      (s.flag .OPTB_STATUS_FUSE_EN = false → 992 ≤ code → PwrNoted s t E_PWR_STRAP_OPEN) ∧ t.power.step = max s.power.step 4 ∧ t.mem = s.mem ∧ t.cores = s.cores)) ∧
  (∀ (storeBad : Bool) (edges : List (Nat × Nat)) (untrained : List Nat) (s : State), s.power.por = false → s.thimble.romRecovery = false → s.thimble.restarting = false →
    (s.power.step = 2 → Completes (.bringUp 3 storeBad edges untrained) s (fun t => t.power.step = 3 ∧ t.fld .CLK_STATUS_PLL_LOCKED = 1 ∧ t.fld .CLK_STATUS_REF_SEL = 2 ∧
      (storeBad → t.thimble.storeBad) ∧ t.mem = s.mem ∧ t.cores = s.cores)) ∧
    (s.power.step = 4 → s.power.go → s.flag .PWR_STATE_PERST = false → s.flag .INPUT_STATUS_EFUSE_OPEN = false → s.flag .OPTB_STATUS_APPLIED → s.clock.pllFailed = false →
      Completes (.bringUp 5 storeBad edges untrained) s (fun t => t.power.step = 5 ∧ t.power.go = false ∧ t.fld .PWR_STATE_MOVING = 1 ∧ t.fld .CLK_STATUS_PLL_LOCKED = 1 ∧
        t = { s with regs := t.regs, power := t.power, clock := t.clock, host := t.host, outs := t.outs })) ∧
    (s.power.step = 5 → s.power.rail = 7 → Completes (.bringUp 6 storeBad edges untrained) s (fun t => t.power.step = 6 ∧ t.fld .TIME_STATUS_COARSE = 0 ∧
      t = { s with regs := t.regs, power := t.power })) ∧
    (s.power.step = 6 → s.power.rail = 8 → Completes (.bringUp 7 storeBad [] untrained) s (fun t => t.power.step = 7 ∧ (∀ nn < 64, t.awake nn ∧ (t.die nn).now = s.wantedStep nn) ∧
      t = { s with domains := t.domains, dies := t.dies, power := t.power })) ∧
    (s.power.step = 7 → Completes (.bringUp 8 storeBad edges untrained) s (fun t => t.power.step = 8 ∧ (∀ g, SpadZero t g) ∧ (∀ a, bankGet 0 t.mem.pool a = 0) ∧
      t.mem.hbm = s.mem.hbm ∧ t.mem.plinthData = s.mem.plinthData)) ∧
    (s.power.step = 8 → Completes (.bringUp 9 storeBad edges untrained) s (fun t => t.power.step = 9 ∧ (∀ n < 16, n ∉ untrained → t.stackState n = stackReady) ∧
      ∀ n < 16, n ∈ untrained → t.stackState n = stackFailed)) ∧
    (s.power.step = 9 → s.thimble.running = none → Completes (.bringUp 10 storeBad edges untrained) s (fun t => t.power.step = 10 ∧ t.fld .ARM_ACTIVE_VERSION = Config.bootVersion % 2 ^ 32 ∧
      t.fld .SPAD_MODE = (if s.flag .SEC_STATUS_FA_ACTIVE then 2 else 0) ∧ t.mem = s.mem ∧ t.cores = s.cores)) ∧
    (s.power.step = 10 → s.fld .PWR_STATE_TARGET = pwrRun → s.power.next = 0 → Completes (.bringUp 11 storeBad edges untrained) s (fun t => t.power.step = 11 ∧
      t.fld .PWR_STATE_STATE = pwrRun ∧ t.fld .PWR_STATE_MOVING = 0 ∧ t.mem = s.mem ∧ t.cores = s.cores)) ∧
    (s.power.step = 11 → Completes (.bringUp 12 storeBad edges untrained) s (fun t => t.power.step = 12 ∧ t.power.up ∧ t.host.ready ∧
      (s.power.up = false → s.faultPresent = false → t.fld .MGMT_STATUS_FAULT = 0) ∧ t.mem = s.mem ∧ t.cores = s.cores)))

/-- Gated domains (17 R513, R514, Table 17.4): a die whose partition is idle in RUN is gated; each event moves a domain from state to state as the
table says; a port enters DISABLED when its domain is disabled and leaves it when its domain wakes.
Pairs that the table does not list change nothing: the model's reading (log entry 50). -/
def Obligations.GatedDomains : Prop :=
  (∀ (nn since : Nat) (s : State), s.fld .PWR_STATE_STATE = pwrRun → (s.domain nn).st = .on →
    (s.pstate (s.diePart nn) = .idle ∧ bankGet 0 s.power.gate (2 * nn) = since + 1 ∧ s.elapsed since 1000000) ∨
      (s.pstate (s.diePart nn) = .running ∧ s.flag .PWR_GATE_CFG ∧ (∀ k < 96, s.coreStatus (nn * 96 + k) = 2 ∨ s.coreStatus (nn * 96 + k) = 5) ∧
        bankGet 0 s.power.gate (2 * nn + 1) = since + 1 ∧ s.elapsed since (s.fld .PWR_GATE_CFG * 1000)) →
    Completes (.dieGateTimer nn) s (fun t => t.domain nn = { st := .isolating } ∧ (∀ j, j ≠ nn → t.domain j = s.domain j) ∧ t = { s with domains := t.domains })) ∧
  (∀ (k : Nat) (s : State), (k < 64 ∨ 96 ≤ k ∧ (s.stack ((k - 96) / 32)).waiting = []) → ∀ e ∈ [(Instr.domainDisable k, ({ st := .on } : Domain), ({ st := .isolating } : Domain)),
      (.domainDisable k, { st := .waking }, { st := .waking, drop := true }), (.domainDisable k, { st := .isolating, want := true }, { st := .isolating }),
      (.domainEnable k, { st := .off }, { st := .waking }), (.domainEnable k, { st := .isolating }, { st := .isolating, want := true }),
      (.domainEnable k, { st := .falling }, { st := .on }), (.domainEnable k, { st := .discharging }, { st := .discharging, want := true }),
      (.isolationComplete k, { st := .isolating }, { st := .falling }), (.isolationComplete k, { st := .isolating, want := true }, { st := .on }),
      (.railFallen k, { st := .falling }, { st := .discharging }), (.railOff k, { st := .discharging }, { st := .off }),
      (.railOff k, { st := .discharging, want := true }, { st := .waking }), (.domainWakeComplete k, { st := .waking }, { st := .on }),
      (.domainWakeComplete k, { st := .waking, drop := true }, { st := .isolating })],
    s.domain k = e.2.1 → Completes e.1 s (fun t => t.domain k = e.2.2 ∧ (∀ j, j ≠ k → t.domain j = s.domain j) ∧ t = { s with domains := t.domains, dies := t.dies, hbmStacks := t.hbmStacks })) ∧
  (∀ (k : Nat) (s : State), k < 64 → s.domain k = { st := .waking } → (s.die k).newest ≠ 0 →
    Completes (.domainWakeComplete k) s (fun t => t.die k = { s.die k with step := (s.die k).newest, changing := 0, newest := 0 } ∧ ∀ j, j ≠ k → t.die j = s.die j)) ∧
  (∀ (n : Nat) (s : State), n < 32 → (s.domain (portDom n)).st = .on →
    Completes (.domainDisable (portDom n)) s (fun t => t.fld .LINK_STATUS_STATE n = linkDisabled ∧ t.domain (portDom n) = { st := .isolating })) ∧
  (∀ (n : Nat) (s : State), n < 32 → s.domain (portDom n) = { st := .off } → s.fld .LINK_STATUS_STATE n = linkDisabled → s.flag .LINK_CTRL_ENABLE n →
    Completes (.domainEnable (portDom n)) s (fun t => t.fld .LINK_STATUS_STATE n = linkDetect ∧ t.domain (portDom n) = { st := .waking } ∧ t.mem = s.mem ∧ t.cores = s.cores))

/-- Temperature, the sleeve and the status lines (17 R515, R516, R526, R527; 18 R539): a reading imposes a die's thermal step, a trip value drops the
device to AO; a sleeve reset goes from GO through ISOLATING and RESETTING to DONE, or its refusal is recorded; a stuck line is an event.
The model's readings of log entries 60 and 61. -/
def Obligations.ThermalAndSleeve : Prop :=
  (∀ (nn : Nat) (T : Int) (s : State), nn < 64 → s.power.por = false →
    (T < 110 → Completes (.tempSample [(nn, T)]) s (fun t => bankGet 0 t.power.temps nn = T ∧ (103 ≤ T → t.dieStep .THERM_DIE_STEP nn = 3) ∧
      (T ≤ 90 → t.dieStep .THERM_DIE_STEP nn = 0) ∧ (95 ≤ T → T < 100 → s.dieStep .THERM_DIE_STEP nn = 0 → t.dieStep .THERM_DIE_STEP nn = 1) ∧
      (∀ j < 64, j ≠ nn → t.dieStep .THERM_DIE_STEP j = s.dieStep .THERM_DIE_STEP j) ∧ t = { s with regs := t.regs, power := t.power, dies := t.dies } ∧
      RegsBut s t [(.THERM_DIE_STEP, 0)])) ∧
    (110 ≤ T → Completes (.tempSample [(nn, T)]) s (fun t => t.fld .INPUT_EVENTS_THERMAL_TRIP = 1 ∧ t.fld .INPUT_STATUS_EFUSE_OPEN = 1 ∧ t.power.thermal ∧
      t.flag .MGMT_STATUS_FAULT ∧ PwrNoted s t E_PWR_THERMAL_TRIP ∧ InAo s t [(.INPUT_EVENTS_THERMAL_TRIP, 0), (.INPUT_STATUS_EFUSE_OPEN, 0), (.THERM_DIE_STEP, 0)]))) ∧
  (∀ (party : Party) (b : Nat) (s : State), s.partyServed party →
    (b ≤ 112 → s.fld .SLEEVE_STATUS_STATE = 0 ∨ s.fld .SLEEVE_STATUS_STATE = 3 → s.flag .PWR_STATE_MOVING = false → s.blockInScope b = false →
      Completes (.sleeveGo party b none) s (fun t => t.fld .SLEEVE_STATUS_STATE = 1 ∧ t.fld .SLEEVE_STATUS_BLOCK = b ∧ t.bit .INT_STATUS_LO 0 ∧ t.mem = s.mem ∧ t.cores = s.cores ∧
        RegsBut s t [(.SLEEVE_CTRL_BLOCK, 0), (.SLEEVE_STATUS_STATE, 0), (.SLEEVE_STATUS_BLOCK, 0), (.INT_STATUS_LO, 0)])) ∧
    (112 < b → Completes (.sleeveGo party b none) s (fun t => t.fld .SLEEVE_STATUS_CODE = E_PWR_SLEEVE_BLOCK ∧ t.fld .SLEEVE_STATUS_STATE = s.fld .SLEEVE_STATUS_STATE ∧
      PwrNoted s t E_PWR_SLEEVE_BLOCK ∧ t.mem = s.mem ∧ t.cores = s.cores)) ∧
    (b ≤ 112 → s.fld .SLEEVE_STATUS_STATE = 1 ∨ s.fld .SLEEVE_STATUS_STATE = 2 → Completes (.sleeveGo party b none) s (fun t => t.fld .SLEEVE_STATUS_CODE = E_PWR_SLEEVE_BUSY ∧
      t.fld .SLEEVE_STATUS_STATE = s.fld .SLEEVE_STATUS_STATE ∧ t.fld .SLEEVE_STATUS_BLOCK = s.fld .SLEEVE_STATUS_BLOCK ∧ PwrNoted s t E_PWR_SLEEVE_BUSY ∧ t.mem = s.mem ∧ t.cores = s.cores))) ∧
  (∀ (b : Nat) (s : State), s.fld .SLEEVE_STATUS_STATE = 1 → s.fld .SLEEVE_STATUS_BLOCK = b →
    Completes .sleeveDrainTimeout s (fun t => t.fld .SLEEVE_STATUS_STATE = 2 ∧ (b < 64 → ∀ g, g / 96 = b → (t.core g).queue = [] ∧ (t.core g).started = []) ∧
      (b < 64 → (s.pstate (s.diePart b)).active → s.diePart b < 16 → t.pstate (s.diePart b) = .fault) ∧ (64 ≤ b → b < 72 → ∀ j < 4, t.fld .LINK_STATUS_STATE ((b - 64) * 4 + j) = linkDisabled) ∧
      (76 ≤ b → b < 80 → ∀ k ∈ t.plinthWait, k.dstNode ≠ b))) ∧
  (∀ (b : Nat) (s : State), s.fld .SLEEVE_STATUS_STATE = 2 → s.fld .SLEEVE_STATUS_BLOCK = b →
    Completes .sleeveResetDone s (fun t => t.fld .SLEEVE_STATUS_STATE = 3 ∧ t.bit .INT_STATUS_LO 0 ∧ (b < 64 → ∀ g, g / 96 = b → SpadZero t g))) ∧
  (∀ (e : Fin 3 × Fld × Fld) (s : State), e ∈ ([(0, .MGMT_STATUS_ALERT, .PIN_EVENTS_ALERT_STUCK), (1, .MGMT_STATUS_FAULT, .PIN_EVENTS_FAULT_STUCK),
      (2, .MGMT_STATUS_THERM, .PIN_EVENTS_THERM_STUCK)] : List (Fin 3 × Fld × Fld)) → s.thimbleUp → s.flag e.2.1 = false →
    Completes (.statusLineStuck e.1) s (fun t => t.fld e.2.2 = 1 ∧ .stuck e.1.val ∈ t.events ∧ t = { s with regs := t.regs, events := t.events, outs := t.outs } ∧
      RegsBut s t [(e.2.2, 0), (.MGMT_STATUS_ALERT, 0), (.MGMT_EVENTS_LOST, 0)]))

/-- Counters, aggregates and starches (19 R547 to R551): a counter is read low half first, by a party that its partition does not shut out; the
aggregates are latched at the end of a period; a starch is taken, armed, released and drained, and what the state does not accept sets REFUSED.
Counters of what the model does not keep are free values: log entry 52. -/
def Obligations.CountersAndStarch : Prop :=
  (∀ (party : Party) (p c : Nat) (s : State), party ≠ .mgmt → s.tenantBars p party = false → s.flag .OBS_CNT_SEL_LIVE p → s.fld .OBS_CNT_SEL_ID p = 0x01 →
    s.fld .OBS_CNT_SEL_SUB p = c → 1 ≤ c → c ≤ 23 → s.fld .OBS_CNT_SEL_INSTANCE p = 0 →
    Completes (.obsCounterRead party p) s (fun t => t.outs = s.outs ++ [.readData party (bankGet 0 s.obs.counts (countKey p 0x01 c 0) % 2 ^ 32)] ∧
      bankGet 0 t.latch (pairKey party (obsAddr p 0x30)) = bankGet 0 s.obs.counts (countKey p 0x01 c 0) / 2 ^ 32 % 2 ^ 32 + 1 ∧
      t = { s with regs := t.regs, latch := t.latch, outs := t.outs } ∧ RegsBut s t [(.OBS_CNT_VALUE_LO, p), (.OBS_CNT_VALUE_HI, p)])) ∧
  (∀ (party : Party) (p : Nat) (s : State), party = .mgmt ∨ s.tenantBars p party →
    Completes (.obsCounterRead party p) s (fun t => t.outs = s.outs ++ [.readData party 0] ∧ t = { s with regs := t.regs, latch := t.latch, outs := t.outs })) ∧
  (∀ s : State, s.elapsed s.obs.aggAt (s.obs.aggMs * 1000000) →
    Completes .aggPeriodLatch s (fun t => t.obs = { s.obs with agg := [], aggAt := s.raw, aggMs := max 1 (min 1000 (s.fld .OBS_AGG_PERIOD)) } ∧
      (∀ k ∈ [0, 1, 3, 5, 7], t.fld64 .OBS_AGG_LO .OBS_AGG_HI 0 k = bankGet 0 s.obs.agg k % 2 ^ 64) ∧ t = { s with regs := t.regs, obs := t.obs, free := t.free } ∧
      RegsBut s t [(.OBS_AGG_LO, 0), (.OBS_AGG_HI, 0)])) ∧
  (∀ s : State, s.elapsed s.obs.aggAt (s.obs.aggMs * 1000000) = false → Completes .aggPeriodLatch s (fun t => t = s)) ∧
  (∀ (c : Instr) (s : State), (c = .starchCtrlNow ∧ (s.fld .STARCH_STATUS_STATE = 0 ∨ s.fld .STARCH_STATUS_STATE = 1)) ∨
      (c = .starchTimeReached ∧ s.fld .STARCH_STATUS_STATE = 1 ∧ s.timeReached (s.fld64 .STARCH_TIME_LO .STARCH_TIME_HI)) →
    Completes c s (fun t => t.fld .STARCH_STATUS_STATE = 2 ∧ t.fld .STARCH_STATUS_COUNT = (s.fld .STARCH_STATUS_COUNT + 1) % 2 ^ 16 ∧
      t.fld64 .STARCH_AT_LO .STARCH_AT_HI = s.now % 2 ^ 64 ∧ t.obs.starched = s.obs.counts ∧ t.obs.counts = s.obs.counts ∧
      t = { s with regs := t.regs, obs := t.obs, free := t.free })) ∧
  (∀ s : State, s.fld .STARCH_STATUS_STATE = 0 → s.twoMicrosAhead (s.fld64 .STARCH_TIME_LO .STARCH_TIME_HI) →
    Completes .starchCtrlArm s (fun t => t.fld .STARCH_STATUS_STATE = 1 ∧ OnlyRegs s t [(.STARCH_STATUS_STATE, 0)])) ∧
  (∀ (c : Instr) (s : State), (c = .starchCtrlNow ∧ 2 ≤ s.fld .STARCH_STATUS_STATE) ∨ (c = .starchCtrlArm ∧ s.fld .STARCH_STATUS_STATE ≠ 0) ∨
      (c = .starchCtrlArm ∧ s.twoMicrosAhead (s.fld64 .STARCH_TIME_LO .STARCH_TIME_HI) = false) ∨
      (c = .starchCtrlRelease ∧ s.fld .STARCH_STATUS_STATE ≠ 1 ∧ s.fld .STARCH_STATUS_STATE ≠ 2) →
    Completes c s (fun t => t.fld .STARCH_STATUS_REFUSED = 1 ∧ OnlyRegs s t [(.STARCH_STATUS_REFUSED, 0)])) ∧
  (∀ s : State, s.fld .STARCH_STATUS_STATE = 1 ∨ s.fld .STARCH_STATUS_STATE = 2 →
    Completes .starchCtrlRelease s (fun t => t.fld .STARCH_STATUS_STATE = (if s.fld .STARCH_STATUS_STATE = 1 then 0 else 3) ∧ OnlyRegs s t [(.STARCH_STATUS_STATE, 0)])) ∧
  (∀ s : State, s.fld .STARCH_STATUS_STATE = 3 → (∀ p < 16, s.ringOpen p ∧ ∀ r ∈ s.hub p, r.kind ≠ recCounter) →
    Completes .starchDrainDone s (fun t => t.fld .STARCH_STATUS_STATE = 0 ∧ OnlyRegs s t [(.STARCH_STATUS_STATE, 0)]))

/-- The observation ring, its records and its plaster (19 R552 to R558, R562, R563): a record is written where the ring has room and the producer
index advances; the ring is set up while it is disabled, by a party its partition does not shut out; a snapshot is captured once and sent when it
may be; a station sends its trace.
The model's readings of log entry 8. -/
def Obligations.ObservationRing : Prop :=
  (∀ (p : Nat) (r : ObsRec) (s : State), s.dma → s.ringOpen p → s.nextRec p = some r → s.padLen p r.len = 0 →
    (s.obsRoom p r.len → Completes (.obsRecordWrite p) s (fun t => (∃ data tee, t.outs = s.outs ++ [.hostWrite (s.obsHost p (s.obsPlace p)) data tee] ∧ data.length = r.len ∧
        data.take 16 = leBytes 1 r.kind ++ leBytes 1 (p + 16 * r.sub) ++ leBytes 2 (r.len / 32) ++ leBytes 4 (bankGet 0 s.obs.seq p) ++ leBytes 8 r.time ∧
        (data.drop 16).take r.body.length = r.body) ∧
      t.fld .OBS_RING_PI p = (s.fld .OBS_RING_PI p + r.len) % 2 ^ 32 ∧ bankGet 0 t.obs.seq p = (bankGet 0 s.obs.seq p + 1) % 2 ^ 32 ∧
      (r.kind ≠ recLoss → t.hub p = (s.hub p).erase r) ∧ t = { s with regs := t.regs, obs := t.obs, outs := t.outs, free := t.free })) ∧
    (s.obsRoom p r.len = false → Completes (.obsRecordWrite p) s (fun t => t = s))) ∧
  (∀ (party : Party) (p v : Nat) (s : State), party ≠ .mgmt → s.tenantBars p party = false → s.flag .OBS_RING_CFG_EN p = false →
    Completes (.obsRingCfgWrite party p .base v) s (fun t => t.fld64 .OBS_RING_BASE_LO .OBS_RING_BASE_HI p = v % 2 ^ 64 ∧ OnlyRegs s t [(.OBS_RING_BASE_LO, p), (.OBS_RING_BASE_HI, p)]) ∧
    (16 ≤ v / 2 % 32 → v / 2 % 32 ≤ 30 → v % 2 = 1 → Completes (.obsRingCfgWrite party p .cfg v) s (fun t => t.fld .OBS_RING_CFG_EN p = 1 ∧ t.fld .OBS_RING_CFG_SIZE_LOG2 p = v / 2 % 32 ∧
      t.fld .OBS_RING_PI p = 0 ∧ t.fld .OBS_RING_CI p = 0 ∧ bankGet 0 t.obs.seq p = 0 ∧ t = { s with regs := t.regs, obs := t.obs } ∧
      RegsBut s t [(.OBS_RING_CFG_EN, p), (.OBS_RING_CFG_SIZE_LOG2, p), (.OBS_RING_PI, p), (.OBS_RING_CI, p)])) ∧
    (v / 2 % 32 < 16 ∨ 30 < v / 2 % 32 → v % 2 = 1 → Completes (.obsRingCfgWrite party p .cfg v) s (fun t => t.fld .OBS_PART_STATUS_CFG_REJECT p = 1 ∧
      OnlyRegs s t [(.OBS_PART_STATUS_CFG_REJECT, p)]))) ∧
  (∀ (party : Party) (p v : Nat) (s : State), party ≠ .mgmt → s.tenantBars p party ∨ (s.flag .OBS_RING_CFG_EN p ∧ v % 2 = 1) → ∀ reg : RingReg,
    Completes (.obsRingCfgWrite party p reg v) s (fun t => t.fld .OBS_PART_STATUS_CFG_REJECT p = 1 ∧ OnlyRegs s t [(.OBS_PART_STATUS_CFG_REJECT, p)])) ∧
  (∀ (party : Party) (p v : Nat) (s : State), party ≠ .mgmt → s.tenantBars p party = false → v < 2 ^ 32 →
    ((v + 2 ^ 32 - s.fld .OBS_RING_CI p) % 2 ^ 32 ≤ s.obsUsed p → Completes (.obsRingCiWrite party p v) s (fun t => t.fld .OBS_RING_CI p = v ∧ OnlyRegs s t [(.OBS_RING_CI, p)])) ∧
    (s.obsUsed p < (v + 2 ^ 32 - s.fld .OBS_RING_CI p) % 2 ^ 32 → Completes (.obsRingCiWrite party p v) s (fun t => t.fld .OBS_PART_STATUS_CI_ERR p = 1 ∧
      OnlyRegs s t [(.OBS_PART_STATUS_CI_ERR, p)]))) ∧
  (∀ (party : Party) (p : Nat) (s : State), party ≠ .mgmt → s.tenantBars p party = false →
    (s.pstate p = .idle → Completes (.plasterDemand party p) s (fun t => t = s)) ∧
    (s.pstate p ≠ .idle → (∀ x ∈ s.obs.shadows, x.part ≠ p) → Completes (.plasterDemand party p) s (fun t => (∃ x, t.obs = { s.obs with shadows := s.obs.shadows ++ [x], snapshots := s.obs.snapshots + 1 } ∧
        x.part = p ∧ x.reason = 2 ∧ x.number = s.obs.snapshots + 1 ∧ x.time = s.now ∧ x.regs = s.regs ∧ x.plan = s.part p ∧ x.cores = s.partCores p ∧ x.sending = false) ∧
      t.fld .OBS_PART_STATUS_PLASTER_HELD p = 1 ∧ t = { s with regs := t.regs, obs := t.obs } ∧ RegsBut s t [(.OBS_PART_STATUS_PLASTER_HELD, p)])) ∧
    (s.pstate p ≠ .idle → (∃ x ∈ s.obs.shadows, x.part = p) → Completes (.plasterDemand party p) s (fun t => t.fld .OBS_PLASTER_LOST p = (s.fld .OBS_PLASTER_LOST p + 1) % 2 ^ 32 ∧
      OnlyRegs s t [(.OBS_PLASTER_LOST, p)]))) ∧
  (∀ (p : Nat) (x : Plaster) (s : State), s.obs.shadows = [x] → x.part = p → x.sending = false →
    (s.plasterMay p → Completes (.plasterSend p) s (fun t => t.hub p = s.hub p ++ s.plasterRecords x ∧ t.obs.shadows = [{ x with sending := true }] ∧
      t.fld .OBS_PART_STATUS_PLASTER_HELD p = 0 ∧ t.fld .OBS_PART_STATUS_PLASTER_SENDING p = 1 ∧ t = { s with regs := t.regs, obs := t.obs } ∧
      RegsBut s t [(.OBS_PART_STATUS_PLASTER_HELD, p), (.OBS_PART_STATUS_PLASTER_SENDING, p)])) ∧
    (s.plasterMay p = false → Completes (.plasterSend p) s (fun t => t = s))) ∧
  (∀ (g e t0 : Nat) (rest : List (Nat × Nat)) (s : State), (s.core g).trace = (e, t0) :: rest → 13 ≤ rest.length + 1 ∨ reached 64 s.now (t0 + 640000) →
    (s.ringOpen (s.corePart g) → s.hubAdmits (s.corePart g) → Completes (.traceRecordSend g) s (fun t => (t.core g).trace = rest.drop 12 ∧
      t.hub (s.corePart g) = s.hub (s.corePart g) ++ [{ kind := recTrace, time := t0, body := traceBody g (s.core g).traceLost (e :: (rest.take 12).map Prod.fst) }] ∧
      (∀ h, h ≠ g → t.core h = s.core h) ∧ t = { s with cores := t.cores, obs := t.obs })) ∧
    (s.ringOpen (s.corePart g) = false → Completes (.traceRecordSend g) s (fun t => (t.core g).trace = rest.drop 12 ∧
      t.fld .OBS_REC_LOST (s.corePart g) = (s.fld .OBS_REC_LOST (s.corePart g) + 1) % 2 ^ 32 ∧ t = { s with cores := t.cores, regs := t.regs } ∧ RegsBut s t [(.OBS_REC_LOST, s.corePart g)])))

/-- Tensor dumps and ND_CTRL (19 R559 to R561; 20 R571): a dump point takes writes only under tenant debug, fires on its trigger while its count
lasts, and ends with its records sent; ND_CTRL takes writes only where nothing runs.
What a dump saw is the command's operand: log entry 63. -/
def Obligations.DumpsAndNdCtrl : Prop :=
  (∀ (party : Party) (p k v : Nat) (s : State), party ≠ .mgmt →
    (s.dumpMay p party = false → ∀ reg : DumpReg, Completes (.dumpCfgWrite party p k reg v) s (fun t => t.fld .DUMP_STATUS_DENIED (dumpAt p k) = 1 ∧
      t.fld .DUMP_STATUS_CODE (dumpAt p k) = E_SPAD_SIDE_DENIED ∧ OnlyRegs s t [(.DUMP_STATUS_DENIED, dumpAt p k), (.DUMP_STATUS_CODE, dumpAt p k)])) ∧
    (s.dumpMay p party → s.flag .DUMP_CFG_EN (dumpAt p k) → v % 2 = 1 → ∀ reg : DumpReg, Completes (.dumpCfgWrite party p k reg v) s (fun t =>
      t.fld .DUMP_STATUS_DENIED (dumpAt p k) = 1 ∧ OnlyRegs s t [(.DUMP_STATUS_DENIED, dumpAt p k)])) ∧
    (s.dumpMay p party → s.flag .DUMP_CFG_EN (dumpAt p k) = false →
      Completes (.dumpCfgWrite party p k .tag v) s (fun t => t.fld .DUMP_TAG_VALUE (dumpAt p k) = v % 2 ^ 16 ∧ t.fld .DUMP_TAG_MASK (dumpAt p k) = v / 2 ^ 16 % 2 ^ 16 ∧
        OnlyRegs s t [(.DUMP_TAG_VALUE, dumpAt p k), (.DUMP_TAG_MASK, dumpAt p k)]) ∧
      Completes (.dumpCfgWrite party p k .src v) s (fun t => t.fld .DUMP_SRC_CORE (dumpAt p k) = v % 2 ^ 13 ∧ t.fld .DUMP_SRC_HANDLE (dumpAt p k) = v / 2 ^ 13 % 2 ^ 10 ∧
        OnlyRegs s t [(.DUMP_SRC_CORE, dumpAt p k), (.DUMP_SRC_HANDLE, dumpAt p k)]) ∧
      Completes (.dumpCfgWrite party p k .offset v) s (fun t => t.fld .DUMP_OFFSET (dumpAt p k) = v % 2 ^ 19 ∧ OnlyRegs s t [(.DUMP_OFFSET, dumpAt p k)]) ∧
      Completes (.dumpCfgWrite party p k .length v) s (fun t => t.fld .DUMP_LENGTH (dumpAt p k) = v % 2 ^ 20 ∧ OnlyRegs s t [(.DUMP_LENGTH, dumpAt p k)]) ∧
      Completes (.dumpCfgWrite party p k .tick v) s (fun t => t.fld64 .DUMP_TICK_LO .DUMP_TICK_HI (dumpAt p k) = v % 2 ^ 64 ∧
        OnlyRegs s t [(.DUMP_TICK_LO, dumpAt p k), (.DUMP_TICK_HI, dumpAt p k)]) ∧
      (v % 2 = 1 → s.dumpShapeBad p (dumpAt p k) = false → Completes (.dumpCfgWrite party p k .cfg v) s (fun t => t.fld .DUMP_CFG_EN (dumpAt p k) = 1 ∧
        t.fld .DUMP_CFG_KIND (dumpAt p k) = v / 2 % 2 ∧ t.fld .DUMP_CFG_COUNT (dumpAt p k) = v / 2 ^ 8 % 2 ^ 8 ∧
        OnlyRegs s t [(.DUMP_CFG_EN, dumpAt p k), (.DUMP_CFG_KIND, dumpAt p k), (.DUMP_CFG_COUNT, dumpAt p k)])) ∧
      (v % 2 = 1 → s.dumpShapeBad p (dumpAt p k) → Completes (.dumpCfgWrite party p k .cfg v) s (fun t => t.fld .DUMP_STATUS_CODE (dumpAt p k) = E_SPAD_SIDE_SHAPE ∧
        OnlyRegs s t [(.DUMP_STATUS_CODE, dumpAt p k)])))) ∧
  (∀ (p k tag : Nat) (s : State), s.dumpFires p (dumpAt p k) tag →
    (s.flag .DUMP_STATUS_RUNNING (dumpAt p k) = false → s.dumpCheck (dumpAt p k) = 0 → Completes (.dumpTrigger p k tag) s (fun t => t.fld .DUMP_STATUS_RUNNING (dumpAt p k) = 1 ∧
      (s.fld .DUMP_CFG_COUNT (dumpAt p k) = 1 → t.fld .DUMP_CFG_EN (dumpAt p k) = 0 ∧ t.fld .DUMP_CFG_COUNT (dumpAt p k) = 0) ∧
      (s.fld .DUMP_CFG_COUNT (dumpAt p k) = 0 → t.fld .DUMP_CFG_EN (dumpAt p k) = s.fld .DUMP_CFG_EN (dumpAt p k)) ∧
      (1 < s.fld .DUMP_CFG_COUNT (dumpAt p k) → s.fld .DUMP_CFG_COUNT (dumpAt p k) < 256 → t.fld .DUMP_CFG_COUNT (dumpAt p k) + 1 = s.fld .DUMP_CFG_COUNT (dumpAt p k)) ∧
      (t.dump (dumpAt p k)).time = s.now ∧ t = { s with regs := t.regs, obs := t.obs } ∧
      RegsBut s t [(.DUMP_STATUS_RUNNING, dumpAt p k), (.DUMP_CFG_EN, dumpAt p k), (.DUMP_CFG_COUNT, dumpAt p k)])) ∧
    (s.flag .DUMP_STATUS_RUNNING (dumpAt p k) → s.fld .DUMP_STATUS_MISSED (dumpAt p k) < 255 → Completes (.dumpTrigger p k tag) s (fun t =>
      t.fld .DUMP_STATUS_MISSED (dumpAt p k) = s.fld .DUMP_STATUS_MISSED (dumpAt p k) + 1 ∧ OnlyRegs s t [(.DUMP_STATUS_MISSED, dumpAt p k)]))) ∧
  (∀ (p k : Nat) (seen : List (Nat × List Byte × Bool)) (s : State), s.flag .DUMP_STATUS_RUNNING (dumpAt p k) → s.ringOpen p →
    Completes (.dumpComplete p k seen) s (fun t => t.fld .DUMP_STATUS_RUNNING (dumpAt p k) = 0 ∧ t.fld .DUMP_STATUS_DONE (dumpAt p k) = 1 ∧
      (∃ l, t.hub p = s.hub p ++ l ∧ l.length = (s.fld .DUMP_LENGTH (dumpAt p k) + 511) / 512 ∧ ∀ r ∈ l, r.kind = recDump ∧ r.time = (s.dump (dumpAt p k)).time) ∧
      t = { s with regs := t.regs, obs := t.obs })) ∧
  (∀ (party : Party) (p v : Nat) (s : State), party ≠ .mgmt →
    (s.patchable p → Completes (.ndCtrlWrite party p v) s (fun t => t.fld .ND_CTRL_OVERFLOW_DROP p = v % 2 ∧ t.fld .ND_CTRL_DROP_LO p = v / 2 ^ 8 % 2 ^ 8 ∧
      t.fld .ND_CTRL_DROP_HI p = v / 2 ^ 16 % 2 ^ 8 ∧ OnlyRegs s t [(.ND_CTRL_OVERFLOW_DROP, p), (.ND_CTRL_DROP_LO, p), (.ND_CTRL_DROP_HI, p)])) ∧
    (s.patchable p = false → Completes (.ndCtrlWrite party p v) s (fun t => t.fld .PLAN_STATUS_CMD_REJECT p = 1 ∧ OnlyRegs s t [(.PLAN_STATUS_CMD_REJECT, p)])))

/-- A step takes the command at the front of the queue: it is exec of that command on the state with the queue's rest. -/
def Obligations.StepRunsFront : Prop :=
  ∀ (c : Instr) (rest : List Instr) (s : State), step { s with pending := c :: rest } = exec c { s with pending := rest }

/-- Every command completes (R1 to R576 name none that stops the device): for every state and every operand of each of the 365 rows of the
table, exec answers a next state. Among them sample, barrier, barArriveReceive,
barReleaseReceive, refreshWindow, hbmTempCross, linkRetrain, getVersion, getEndpointId, gettid, getEvents, statusLineStuck; what the next state
holds the other statements say. -/
def Obligations.EveryCommandCompletes : Prop :=
  ∀ (c : Instr) (s : State), ∃ t, exec c s = .next t

/-- With no command waiting a cycle passes (10 R321, 01 R44; the step itself is the model's choice, log entry 2): the raw count moves on by a TIME
cycle, or by an AO cycle while COARSE is set; where no access and no aborted macro-operation waits, a running no-progress timer moves with it and
memory, cores and outputs are as they were; before the clock die runs nothing moves. -/
def Obligations.IdleStep : Prop :=
  ∀ s : State, s.pending = [] → ∃ t, step s = .next t ∧ (s.power.por ∨ s.power.step < 3 → t = s) ∧
    (s.power.por = false → 3 ≤ s.power.step → t.raw = s.raw + 64 * (if s.fld .TIME_STATUS_COARSE = 0 then 1 else 20)) ∧
    ((∀ e ∈ s.hbmStacks, e.2.waiting = []) → s.plinthWait = [] → (∀ p < 16, (s.part p).abortAt = 0) →
      t.pending = [] ∧ t.mem = s.mem ∧ t.cores = s.cores ∧ t.outs = s.outs ∧
      (s.power.por = false → 3 ≤ s.power.step → ∀ p < 16, s.timerRuns p → (t.part p).noProg = (s.part p).noProg + 64 * (if s.fld .TIME_STATUS_COARSE = 0 then 1 else 20)))

/-- The state right after reset (01 R29; 02 Table 2.11; 14 R446; 17 Tables 17.3, 17.9, 17.13): power-on reset asserted, AO with RUN as the target, every partition
IDLE with nothing held, partition 0 owning every quad, pool group, port and slice as the table gives them, no vector raised, memories empty and in their canonical form.
Reset is the instant of power-on reset (log entry 47), values the spec does not state are the model's choice (log entries 9, 40), and so is the canonical form (log entry 69). -/
def Obligations.ResetState : Prop :=
  State.reset.pending = [] ∧ State.reset.power.por ∧ State.reset.power.step = 0 ∧ State.reset.fld .PWR_STATE_STATE = 1 ∧ State.reset.fld .PWR_STATE_TARGET = 3 ∧
  State.reset.fld .POWER_CAP = 3300 ∧ State.reset.fld .POWER_ENVELOPE = 3300 ∧ State.reset.fld .INT_STATUS_LO = 0 ∧ State.reset.fld .INT_STATUS_HI = 0 ∧
  State.reset.fld .ARM_PART_QUADS 0 = 0xFFFF ∧ State.reset.fld .ARM_PART_PORTS 0 = 0xFFFFFFFF ∧ State.reset.fld .CONTROL_OWNER_PLAN_MGMT = 0 ∧
  (∀ p < 16, State.reset.pstate p = .idle ∧ (State.reset.part p).holds = [] ∧ State.reset.planTick p = 0 ∧ State.reset.fld .PLAN_ERROR_CODE p = 0) ∧
  (∀ p, 1 ≤ p → p < 16 → State.reset.fld .ARM_PART_QUADS p = 0 ∧ State.reset.fld .ARM_PART_PORTS p = 0) ∧
  (∀ n < 32, State.reset.fld .LINK_STATUS_STATE n = linkDisabled) ∧ (∀ g c, State.reset.fld .SYNC_GIVEN g c = 0 ∧ State.reset.fld .SYNC_TAKEN g c = 0) ∧
  (∀ g a, State.reset.spadByte g a = 0) ∧ (∀ nn, State.reset.awake nn = false) ∧ State.reset.outs = [] ∧ State.reset.events = [] ∧ State.reset.memWf = true

/-- Every step, whatever command it takes, keeps the scratchpads, the pool, HBM and the Plinth store in their canonical form.
The canonical form is the model's own (log entry 69). -/
def Obligations.MemWfStep : Prop :=
  ∀ s t : State, s.memWf = true → step s = .next t → t.memWf = true
end

