-- ==== Sys2Proof/Laws/Bank.lean ====
section
/-! SUPPORT. Laws/Bank.lean: a bank read back after a write, and the canonical form that every bank operation keeps. -/
namespace Sys2Proof.Machine

variable {α : Type}

theorem bankGet_bankIns_self (d : α) (b : List (Nat × α)) (k : Nat) (v : α) : bankGet d (bankIns k v b) k = v := by
  induction b with
  | nil => simp [bankIns, bankGet]
  | cons e t ih =>
    simp only [bankIns]
    split
    · simp [bankGet]
    · split
      · simp [bankGet]
      · rename_i h1 h2; simp [bankGet, h2, ih]

theorem bankGet_bankIns_ne (d : α) (b : List (Nat × α)) {k j : Nat} (v : α) (h : j ≠ k) :
    bankGet d (bankIns k v b) j = bankGet d b j := by
  induction b with
  | nil => simp [bankIns, bankGet, Ne.symm h]
  | cons e t ih =>
    simp only [bankIns]
    split
    · simp [bankGet, Ne.symm h]
    · split
      · rename_i _ h2; simp [bankGet, h2, Ne.symm h]
      · simp [bankGet, ih]

theorem bankGet_bankDel_self (d : α) (b : List (Nat × α)) (k : Nat) : bankGet d (bankDel k b) k = d := by
  induction b with
  | nil => rfl
  | cons e t ih =>
    simp only [bankDel]
    split
    · exact ih
    · rename_i h; simp [bankGet, h, ih]

theorem bankGet_bankDel_ne (d : α) (b : List (Nat × α)) {k j : Nat} (h : j ≠ k) : bankGet d (bankDel k b) j = bankGet d b j := by
  induction b with
  | nil => rfl
  | cons e t ih =>
    simp only [bankDel]
    split
    · rename_i he; simp [bankGet, he, Ne.symm h, ih]
    · simp [bankGet, ih]

/-- What a bank holds at the key just written. -/
@[simp] theorem bankGet_bankSet_self [DecidableEq α] (d : α) (b : List (Nat × α)) (k : Nat) (v : α) :
    bankGet d (bankSet d b k v) k = v := by
  unfold bankSet
  split
  · rename_i h; rw [bankGet_bankDel_self, h]
  · exact bankGet_bankIns_self d b k v

/-- A write leaves every other key as it was. -/
theorem bankGet_bankSet_ne [DecidableEq α] (d e : α) (b : List (Nat × α)) {k j : Nat} (v : α) (h : j ≠ k) :
    bankGet e (bankSet d b k v) j = bankGet e b j := by
  unfold bankSet
  split
  · exact bankGet_bankDel_ne e b h
  · exact bankGet_bankIns_ne e b v h

/-- The canonical form said by pairs: keys strictly rising, no default listed. -/
theorem bankWf_iff [DecidableEq α] (d : α) (b : List (Nat × α)) :
    bankWf d b = true ↔ b.Pairwise (fun e f => e.1 < f.1) ∧ ∀ e ∈ b, e.2 ≠ d := by
  induction b with
  | nil => simp [bankWf]
  | cons e t ih =>
    cases t with
    | nil => simp [bankWf]
    | cons f t =>
      simp only [bankWf, Bool.and_eq_true, decide_eq_true_eq, ih, List.pairwise_cons, List.mem_cons, forall_eq_or_imp]
      constructor
      · rintro ⟨⟨h1, h2⟩, ⟨h3, h4⟩, h5, h6⟩
        exact ⟨⟨⟨h2, fun a ha => lt_trans h2 (h3 a ha)⟩, h3, h4⟩, h1, h5, h6⟩
      · rintro ⟨⟨⟨h2, _⟩, h3, h4⟩, h1, h5, h6⟩
        exact ⟨⟨h1, h2⟩, ⟨h3, h4⟩, h5, h6⟩

theorem mem_bankIns (k : Nat) (v : α) (b : List (Nat × α)) (e : Nat × α) (h : e ∈ bankIns k v b) : e = (k, v) ∨ e ∈ b := by
  induction b with
  | nil => simpa [bankIns] using h
  | cons f t ih =>
    simp only [bankIns] at h
    split at h
    · simpa using h
    · split at h
      · simp only [List.mem_cons] at h ⊢; tauto
      · simp only [List.mem_cons] at h ⊢
        rcases h with h | h
        · exact .inr (.inl h)
        · rcases ih h with h | h <;> tauto

theorem mem_bankDel (k : Nat) (b : List (Nat × α)) (e : Nat × α) (h : e ∈ bankDel k b) : e ∈ b := by
  induction b with
  | nil => simp [bankDel] at h
  | cons f t ih =>
    simp only [bankDel] at h
    split at h
    · exact List.mem_cons_of_mem _ (ih h)
    · simp only [List.mem_cons] at h ⊢; rcases h with h | h
      · exact .inl h
      · exact .inr (ih h)

/-- A write keeps the canonical form. -/
theorem bankWf_bankSet [DecidableEq α] (d : α) (b : List (Nat × α)) (k : Nat) (v : α) (h : bankWf d b = true) :
    bankWf d (bankSet d b k v) = true := by
  rw [bankWf_iff] at h ⊢
  obtain ⟨hs, hd⟩ := h
  unfold bankSet
  split
  · refine ⟨?_, fun e he => hd e (mem_bankDel k b e he)⟩
    clear hd
    induction b with
    | nil => simp [bankDel]
    | cons f t ih =>
      rw [List.pairwise_cons] at hs
      simp only [bankDel]
      split
      · exact ih hs.2
      · rw [List.pairwise_cons]
        exact ⟨fun a ha => hs.1 a (mem_bankDel k t a ha), ih hs.2⟩
  · rename_i hv
    refine ⟨?_, fun e he => ?_⟩
    · clear hd
      induction b with
      | nil => simp [bankIns]
      | cons f t ih =>
        rw [List.pairwise_cons] at hs
        simp only [bankIns]
        split
        · rename_i hk
          rw [List.pairwise_cons, List.pairwise_cons]
          refine ⟨fun a ha => ?_, hs.1, hs.2⟩
          rcases List.mem_cons.mp ha with ha | ha
          · exact ha ▸ hk
          · exact lt_trans hk (hs.1 a ha)
        · split
          · rename_i _ hk
            rw [List.pairwise_cons]
            exact ⟨fun a ha => hk ▸ hs.1 a ha, hs.2⟩
          · rename_i hk1 hk2
            rw [List.pairwise_cons]
            refine ⟨fun a ha => ?_, ih hs.2⟩
            rcases mem_bankIns k v t a ha with ha | ha
            · subst ha; simp only; omega
            · exact hs.1 a ha
    · rcases mem_bankIns k v b e he with he | he
      · rw [he]; exact hv
      · exact hd e he

/-- Taking keys out keeps it. -/
theorem bankWf_bankDrop [DecidableEq α] (d : α) (p : Nat → Bool) (b : List (Nat × α)) (h : bankWf d b = true) :
    bankWf d (bankDrop p b) = true := by
  rw [bankWf_iff] at h ⊢
  exact ⟨h.1.filter _, fun e he => h.2 e (List.mem_of_mem_filter he)⟩

/-- Writing a run of keys keeps it. -/
theorem bankWf_bankPutList [DecidableEq α] (d : α) (l : List α) (b : List (Nat × α)) (k : Nat) (h : bankWf d b = true) :
    bankWf d (bankPutList d b k l) = true := by
  induction l generalizing b k with
  | nil => exact h
  | cons v t ih => exact ih _ _ (bankWf_bankSet d b k v h)

theorem bankGet_of_lt [DecidableEq α] (d : α) (b : List (Nat × α)) (k : Nat) (h : ∀ e ∈ b, k < e.1) : bankGet d b k = d := by
  induction b with
  | nil => rfl
  | cons e t ih =>
    have h1 := h e (by simp)
    simp only [bankGet, if_neg (Nat.ne_of_gt h1)]
    exact ih (fun f hf => h f (by simp [hf]))

/-- Equal contents are equal banks. -/
theorem bankWf_ext [DecidableEq α] (d : α) (b c : List (Nat × α)) (hb : bankWf d b = true) (hc : bankWf d c = true)
    (h : ∀ k, bankGet d b k = bankGet d c k) : b = c := by
  rw [bankWf_iff] at hb hc
  induction b generalizing c with
  | nil =>
    cases c with
    | nil => rfl
    | cons f u => exact absurd (by simpa [bankGet] using (h f.1).symm) (hc.2 f (by simp))
  | cons e t ih =>
    cases c with
    | nil => exact absurd (by simpa [bankGet] using h e.1) (hb.2 e (by simp))
    | cons f u =>
      have hb1 := List.pairwise_cons.mp hb.1
      have hc1 := List.pairwise_cons.mp hc.1
      have hk : e.1 = f.1 := by
        rcases lt_trichotomy e.1 f.1 with hlt | heq | hgt
        · have hz : bankGet d (f :: u) e.1 = d := bankGet_of_lt d _ _ (fun x hx => by
            rcases List.mem_cons.mp hx with hx | hx
            · exact hx ▸ hlt
            · exact lt_trans hlt (hc1.1 x hx))
          exact absurd (by simpa [bankGet] using (h e.1).trans hz) (hb.2 e (by simp))
        · exact heq
        · have hz : bankGet d (e :: t) f.1 = d := bankGet_of_lt d _ _ (fun x hx => by
            rcases List.mem_cons.mp hx with hx | hx
            · exact hx ▸ hgt
            · exact lt_trans hgt (hb1.1 x hx))
          exact absurd (by simpa [bankGet] using (h f.1).symm.trans hz) (hc.2 f (by simp))
      have hv : e.2 = f.2 := by simpa [bankGet, hk] using h f.1
      have ht : t = u := ih u ⟨hb1.2, fun x hx => hb.2 x (by simp [hx])⟩ ⟨hc1.2, fun x hx => hc.2 x (by simp [hx])⟩ (fun k => by
        by_cases hke : k = e.1
        · rw [hke, bankGet_of_lt d t _ (fun x hx => hb1.1 x hx), bankGet_of_lt d u _ (fun x hx => hk ▸ hc1.1 x hx)]
        · have := h k
          simpa [bankGet, Ne.symm hke, hk ▸ Ne.symm hke] using this)
      rw [ht, Prod.ext hk hv]

end Sys2Proof.Machine
end

