-- ==== Sys2Proof/Laws/State.lean ====
section
/-! SUPPORT. Laws/State.lean: what each update of the state leaves as it was, field by field, and a register field read back. -/
namespace Sys2Proof.Machine
open Sys2Proof

/-! ### Updates, field by field -/

@[simp] theorem State.setFld_pending (s : State) (f : Fld) (v i k : Nat) : (s.setFld f v i k).pending = s.pending := rfl
@[simp] theorem State.setFld_held (s : State) (f : Fld) (v i k : Nat) : (s.setFld f v i k).held = s.held := rfl
@[simp] theorem State.setFld_latch (s : State) (f : Fld) (v i k : Nat) : (s.setFld f v i k).latch = s.latch := rfl
@[simp] theorem State.setFld_parts (s : State) (f : Fld) (v i k : Nat) : (s.setFld f v i k).parts = s.parts := rfl
@[simp] theorem State.setFld_cores (s : State) (f : Fld) (v i k : Nat) : (s.setFld f v i k).cores = s.cores := rfl
@[simp] theorem State.setFld_mem (s : State) (f : Fld) (v i k : Nat) : (s.setFld f v i k).mem = s.mem := rfl
@[simp] theorem State.setFld_poolBad (s : State) (f : Fld) (v i k : Nat) : (s.setFld f v i k).poolBad = s.poolBad := rfl
@[simp] theorem State.setFld_hbmPairs (s : State) (f : Fld) (v i k : Nat) : (s.setFld f v i k).hbmPairs = s.hbmPairs := rfl
@[simp] theorem State.setFld_hbmDraws (s : State) (f : Fld) (v i k : Nat) : (s.setFld f v i k).hbmDraws = s.hbmDraws := rfl
@[simp] theorem State.setFld_flight (s : State) (f : Fld) (v i k : Nat) : (s.setFld f v i k).flight = s.flight := rfl
@[simp] theorem State.setFld_outbox (s : State) (f : Fld) (v i k : Nat) : (s.setFld f v i k).outbox = s.outbox := rfl
@[simp] theorem State.setFld_gives (s : State) (f : Fld) (v i k : Nat) : (s.setFld f v i k).gives = s.gives := rfl
@[simp] theorem State.setFld_side (s : State) (f : Fld) (v i k : Nat) : (s.setFld f v i k).side = s.side := rfl
@[simp] theorem State.setFld_hbmBad (s : State) (f : Fld) (v i k : Nat) : (s.setFld f v i k).hbmBad = s.hbmBad := rfl
@[simp] theorem State.setFld_hbmFix (s : State) (f : Fld) (v i k : Nat) : (s.setFld f v i k).hbmFix = s.hbmFix := rfl
@[simp] theorem State.setFld_hbmStacks (s : State) (f : Fld) (v i k : Nat) : (s.setFld f v i k).hbmStacks = s.hbmStacks := rfl
@[simp] theorem State.setFld_snoop (s : State) (f : Fld) (v i k : Nat) : (s.setFld f v i k).snoop = s.snoop := rfl
@[simp] theorem State.setFld_hdmClosing (s : State) (f : Fld) (v i k : Nat) : (s.setFld f v i k).hdmClosing = s.hdmClosing := rfl
@[simp] theorem State.setFld_hbmKeyReq (s : State) (f : Fld) (v i k : Nat) : (s.setFld f v i k).hbmKeyReq = s.hbmKeyReq := rfl
@[simp] theorem State.setFld_plinth (s : State) (f : Fld) (v i k : Nat) : (s.setFld f v i k).plinth = s.plinth := rfl
@[simp] theorem State.setFld_binds (s : State) (f : Fld) (v i k : Nat) : (s.setFld f v i k).binds = s.binds := rfl
@[simp] theorem State.setFld_plinthNonce (s : State) (f : Fld) (v i k : Nat) : (s.setFld f v i k).plinthNonce = s.plinthNonce := rfl
@[simp] theorem State.setFld_plinthWait (s : State) (f : Fld) (v i k : Nat) : (s.setFld f v i k).plinthWait = s.plinthWait := rfl
@[simp] theorem State.setFld_plinthOp (s : State) (f : Fld) (v i k : Nat) : (s.setFld f v i k).plinthOp = s.plinthOp := rfl
@[simp] theorem State.setFld_thimble (s : State) (f : Fld) (v i k : Nat) : (s.setFld f v i k).thimble = s.thimble := rfl
@[simp] theorem State.setFld_loader (s : State) (f : Fld) (v i k : Nat) : (s.setFld f v i k).loader = s.loader := rfl
@[simp] theorem State.setFld_slotMaps (s : State) (f : Fld) (v i k : Nat) : (s.setFld f v i k).slotMaps = s.slotMaps := rfl
@[simp] theorem State.setFld_srvs (s : State) (f : Fld) (v i k : Nat) : (s.setFld f v i k).srvs = s.srvs := rfl
@[simp] theorem State.setFld_repls (s : State) (f : Fld) (v i k : Nat) : (s.setFld f v i k).repls = s.repls := rfl
@[simp] theorem State.setFld_events (s : State) (f : Fld) (v i k : Nat) : (s.setFld f v i k).events = s.events := rfl
@[simp] theorem State.setFld_outs (s : State) (f : Fld) (v i k : Nat) : (s.setFld f v i k).outs = s.outs := rfl
@[simp] theorem State.setFld_fabRoutes (s : State) (f : Fld) (v i k : Nat) : (s.setFld f v i k).fabRoutes = s.fabRoutes := rfl
@[simp] theorem State.setFld_ranks (s : State) (f : Fld) (v i k : Nat) : (s.setFld f v i k).ranks = s.ranks := rfl
@[simp] theorem State.setFld_jobSlots (s : State) (f : Fld) (v i k : Nat) : (s.setFld f v i k).jobSlots = s.jobSlots := rfl
@[simp] theorem State.setFld_ports (s : State) (f : Fld) (v i k : Nat) : (s.setFld f v i k).ports = s.ports := rfl
@[simp] theorem State.setFld_jobKeys (s : State) (f : Fld) (v i k : Nat) : (s.setFld f v i k).jobKeys = s.jobKeys := rfl
@[simp] theorem State.setFld_sealSeq (s : State) (f : Fld) (v i k : Nat) : (s.setFld f v i k).sealSeq = s.sealSeq := rfl
@[simp] theorem State.setFld_barFlags (s : State) (f : Fld) (v i k : Nat) : (s.setFld f v i k).barFlags = s.barFlags := rfl
@[simp] theorem State.setFld_tokens (s : State) (f : Fld) (v i k : Nat) : (s.setFld f v i k).tokens = s.tokens := rfl
@[simp] theorem State.setFld_dies (s : State) (f : Fld) (v i k : Nat) : (s.setFld f v i k).dies = s.dies := rfl
@[simp] theorem State.setFld_domains (s : State) (f : Fld) (v i k : Nat) : (s.setFld f v i k).domains = s.domains := rfl
@[simp] theorem State.setFld_tports (s : State) (f : Fld) (v i k : Nat) : (s.setFld f v i k).tports = s.tports := rfl
@[simp] theorem State.setFld_owners (s : State) (f : Fld) (v i k : Nat) : (s.setFld f v i k).owners = s.owners := rfl
@[simp] theorem State.setFld_clock (s : State) (f : Fld) (v i k : Nat) : (s.setFld f v i k).clock = s.clock := rfl
@[simp] theorem State.setFld_power (s : State) (f : Fld) (v i k : Nat) : (s.setFld f v i k).power = s.power := rfl
@[simp] theorem State.setFld_obs (s : State) (f : Fld) (v i k : Nat) : (s.setFld f v i k).obs = s.obs := rfl
@[simp] theorem State.setFld_host (s : State) (f : Fld) (v i k : Nat) : (s.setFld f v i k).host = s.host := rfl
@[simp] theorem State.setFld_raw (s : State) (f : Fld) (v i k : Nat) : (s.setFld f v i k).raw = s.raw := rfl
@[simp] theorem State.setFld_free (s : State) (f : Fld) (v i k : Nat) : (s.setFld f v i k).free = s.free := rfl

@[simp] theorem State.dropFlds_pending (s : State) (q : Nat → Nat → Bool) : (s.dropFlds q).pending = s.pending := rfl
@[simp] theorem State.dropFlds_held (s : State) (q : Nat → Nat → Bool) : (s.dropFlds q).held = s.held := rfl
@[simp] theorem State.dropFlds_latch (s : State) (q : Nat → Nat → Bool) : (s.dropFlds q).latch = s.latch := rfl
@[simp] theorem State.dropFlds_parts (s : State) (q : Nat → Nat → Bool) : (s.dropFlds q).parts = s.parts := rfl
@[simp] theorem State.dropFlds_cores (s : State) (q : Nat → Nat → Bool) : (s.dropFlds q).cores = s.cores := rfl
@[simp] theorem State.dropFlds_mem (s : State) (q : Nat → Nat → Bool) : (s.dropFlds q).mem = s.mem := rfl
@[simp] theorem State.dropFlds_poolBad (s : State) (q : Nat → Nat → Bool) : (s.dropFlds q).poolBad = s.poolBad := rfl
@[simp] theorem State.dropFlds_hbmPairs (s : State) (q : Nat → Nat → Bool) : (s.dropFlds q).hbmPairs = s.hbmPairs := rfl
@[simp] theorem State.dropFlds_hbmDraws (s : State) (q : Nat → Nat → Bool) : (s.dropFlds q).hbmDraws = s.hbmDraws := rfl
@[simp] theorem State.dropFlds_flight (s : State) (q : Nat → Nat → Bool) : (s.dropFlds q).flight = s.flight := rfl
@[simp] theorem State.dropFlds_outbox (s : State) (q : Nat → Nat → Bool) : (s.dropFlds q).outbox = s.outbox := rfl
@[simp] theorem State.dropFlds_gives (s : State) (q : Nat → Nat → Bool) : (s.dropFlds q).gives = s.gives := rfl
@[simp] theorem State.dropFlds_side (s : State) (q : Nat → Nat → Bool) : (s.dropFlds q).side = s.side := rfl
@[simp] theorem State.dropFlds_hbmBad (s : State) (q : Nat → Nat → Bool) : (s.dropFlds q).hbmBad = s.hbmBad := rfl
@[simp] theorem State.dropFlds_hbmFix (s : State) (q : Nat → Nat → Bool) : (s.dropFlds q).hbmFix = s.hbmFix := rfl
@[simp] theorem State.dropFlds_hbmStacks (s : State) (q : Nat → Nat → Bool) : (s.dropFlds q).hbmStacks = s.hbmStacks := rfl
@[simp] theorem State.dropFlds_snoop (s : State) (q : Nat → Nat → Bool) : (s.dropFlds q).snoop = s.snoop := rfl
@[simp] theorem State.dropFlds_hdmClosing (s : State) (q : Nat → Nat → Bool) : (s.dropFlds q).hdmClosing = s.hdmClosing := rfl
@[simp] theorem State.dropFlds_hbmKeyReq (s : State) (q : Nat → Nat → Bool) : (s.dropFlds q).hbmKeyReq = s.hbmKeyReq := rfl
@[simp] theorem State.dropFlds_plinth (s : State) (q : Nat → Nat → Bool) : (s.dropFlds q).plinth = s.plinth := rfl
@[simp] theorem State.dropFlds_binds (s : State) (q : Nat → Nat → Bool) : (s.dropFlds q).binds = s.binds := rfl
@[simp] theorem State.dropFlds_plinthNonce (s : State) (q : Nat → Nat → Bool) : (s.dropFlds q).plinthNonce = s.plinthNonce := rfl
@[simp] theorem State.dropFlds_plinthWait (s : State) (q : Nat → Nat → Bool) : (s.dropFlds q).plinthWait = s.plinthWait := rfl
@[simp] theorem State.dropFlds_plinthOp (s : State) (q : Nat → Nat → Bool) : (s.dropFlds q).plinthOp = s.plinthOp := rfl
@[simp] theorem State.dropFlds_thimble (s : State) (q : Nat → Nat → Bool) : (s.dropFlds q).thimble = s.thimble := rfl
@[simp] theorem State.dropFlds_loader (s : State) (q : Nat → Nat → Bool) : (s.dropFlds q).loader = s.loader := rfl
@[simp] theorem State.dropFlds_slotMaps (s : State) (q : Nat → Nat → Bool) : (s.dropFlds q).slotMaps = s.slotMaps := rfl
@[simp] theorem State.dropFlds_srvs (s : State) (q : Nat → Nat → Bool) : (s.dropFlds q).srvs = s.srvs := rfl
@[simp] theorem State.dropFlds_repls (s : State) (q : Nat → Nat → Bool) : (s.dropFlds q).repls = s.repls := rfl
@[simp] theorem State.dropFlds_events (s : State) (q : Nat → Nat → Bool) : (s.dropFlds q).events = s.events := rfl
@[simp] theorem State.dropFlds_outs (s : State) (q : Nat → Nat → Bool) : (s.dropFlds q).outs = s.outs := rfl
@[simp] theorem State.dropFlds_fabRoutes (s : State) (q : Nat → Nat → Bool) : (s.dropFlds q).fabRoutes = s.fabRoutes := rfl
@[simp] theorem State.dropFlds_ranks (s : State) (q : Nat → Nat → Bool) : (s.dropFlds q).ranks = s.ranks := rfl
@[simp] theorem State.dropFlds_jobSlots (s : State) (q : Nat → Nat → Bool) : (s.dropFlds q).jobSlots = s.jobSlots := rfl
@[simp] theorem State.dropFlds_ports (s : State) (q : Nat → Nat → Bool) : (s.dropFlds q).ports = s.ports := rfl
@[simp] theorem State.dropFlds_jobKeys (s : State) (q : Nat → Nat → Bool) : (s.dropFlds q).jobKeys = s.jobKeys := rfl
@[simp] theorem State.dropFlds_sealSeq (s : State) (q : Nat → Nat → Bool) : (s.dropFlds q).sealSeq = s.sealSeq := rfl
@[simp] theorem State.dropFlds_barFlags (s : State) (q : Nat → Nat → Bool) : (s.dropFlds q).barFlags = s.barFlags := rfl
@[simp] theorem State.dropFlds_tokens (s : State) (q : Nat → Nat → Bool) : (s.dropFlds q).tokens = s.tokens := rfl
@[simp] theorem State.dropFlds_dies (s : State) (q : Nat → Nat → Bool) : (s.dropFlds q).dies = s.dies := rfl
@[simp] theorem State.dropFlds_domains (s : State) (q : Nat → Nat → Bool) : (s.dropFlds q).domains = s.domains := rfl
@[simp] theorem State.dropFlds_tports (s : State) (q : Nat → Nat → Bool) : (s.dropFlds q).tports = s.tports := rfl
@[simp] theorem State.dropFlds_owners (s : State) (q : Nat → Nat → Bool) : (s.dropFlds q).owners = s.owners := rfl
@[simp] theorem State.dropFlds_clock (s : State) (q : Nat → Nat → Bool) : (s.dropFlds q).clock = s.clock := rfl
@[simp] theorem State.dropFlds_power (s : State) (q : Nat → Nat → Bool) : (s.dropFlds q).power = s.power := rfl
@[simp] theorem State.dropFlds_obs (s : State) (q : Nat → Nat → Bool) : (s.dropFlds q).obs = s.obs := rfl
@[simp] theorem State.dropFlds_host (s : State) (q : Nat → Nat → Bool) : (s.dropFlds q).host = s.host := rfl
@[simp] theorem State.dropFlds_raw (s : State) (q : Nat → Nat → Bool) : (s.dropFlds q).raw = s.raw := rfl
@[simp] theorem State.dropFlds_free (s : State) (q : Nat → Nat → Bool) : (s.dropFlds q).free = s.free := rfl

@[simp] theorem State.setPart_pending (s : State) (p : Nat) (x : Part) : (s.setPart p x).pending = s.pending := rfl
@[simp] theorem State.setPart_regs (s : State) (p : Nat) (x : Part) : (s.setPart p x).regs = s.regs := rfl
@[simp] theorem State.setPart_held (s : State) (p : Nat) (x : Part) : (s.setPart p x).held = s.held := rfl
@[simp] theorem State.setPart_latch (s : State) (p : Nat) (x : Part) : (s.setPart p x).latch = s.latch := rfl
@[simp] theorem State.setPart_cores (s : State) (p : Nat) (x : Part) : (s.setPart p x).cores = s.cores := rfl
@[simp] theorem State.setPart_mem (s : State) (p : Nat) (x : Part) : (s.setPart p x).mem = s.mem := rfl
@[simp] theorem State.setPart_poolBad (s : State) (p : Nat) (x : Part) : (s.setPart p x).poolBad = s.poolBad := rfl
@[simp] theorem State.setPart_hbmPairs (s : State) (p : Nat) (x : Part) : (s.setPart p x).hbmPairs = s.hbmPairs := rfl
@[simp] theorem State.setPart_hbmDraws (s : State) (p : Nat) (x : Part) : (s.setPart p x).hbmDraws = s.hbmDraws := rfl
@[simp] theorem State.setPart_flight (s : State) (p : Nat) (x : Part) : (s.setPart p x).flight = s.flight := rfl
@[simp] theorem State.setPart_outbox (s : State) (p : Nat) (x : Part) : (s.setPart p x).outbox = s.outbox := rfl
@[simp] theorem State.setPart_gives (s : State) (p : Nat) (x : Part) : (s.setPart p x).gives = s.gives := rfl
@[simp] theorem State.setPart_side (s : State) (p : Nat) (x : Part) : (s.setPart p x).side = s.side := rfl
@[simp] theorem State.setPart_hbmBad (s : State) (p : Nat) (x : Part) : (s.setPart p x).hbmBad = s.hbmBad := rfl
@[simp] theorem State.setPart_hbmFix (s : State) (p : Nat) (x : Part) : (s.setPart p x).hbmFix = s.hbmFix := rfl
@[simp] theorem State.setPart_hbmStacks (s : State) (p : Nat) (x : Part) : (s.setPart p x).hbmStacks = s.hbmStacks := rfl
@[simp] theorem State.setPart_snoop (s : State) (p : Nat) (x : Part) : (s.setPart p x).snoop = s.snoop := rfl
@[simp] theorem State.setPart_hdmClosing (s : State) (p : Nat) (x : Part) : (s.setPart p x).hdmClosing = s.hdmClosing := rfl
@[simp] theorem State.setPart_hbmKeyReq (s : State) (p : Nat) (x : Part) : (s.setPart p x).hbmKeyReq = s.hbmKeyReq := rfl
@[simp] theorem State.setPart_plinth (s : State) (p : Nat) (x : Part) : (s.setPart p x).plinth = s.plinth := rfl
@[simp] theorem State.setPart_binds (s : State) (p : Nat) (x : Part) : (s.setPart p x).binds = s.binds := rfl
@[simp] theorem State.setPart_plinthNonce (s : State) (p : Nat) (x : Part) : (s.setPart p x).plinthNonce = s.plinthNonce := rfl
@[simp] theorem State.setPart_plinthWait (s : State) (p : Nat) (x : Part) : (s.setPart p x).plinthWait = s.plinthWait := rfl
@[simp] theorem State.setPart_plinthOp (s : State) (p : Nat) (x : Part) : (s.setPart p x).plinthOp = s.plinthOp := rfl
@[simp] theorem State.setPart_thimble (s : State) (p : Nat) (x : Part) : (s.setPart p x).thimble = s.thimble := rfl
@[simp] theorem State.setPart_loader (s : State) (p : Nat) (x : Part) : (s.setPart p x).loader = s.loader := rfl
@[simp] theorem State.setPart_slotMaps (s : State) (p : Nat) (x : Part) : (s.setPart p x).slotMaps = s.slotMaps := rfl
@[simp] theorem State.setPart_srvs (s : State) (p : Nat) (x : Part) : (s.setPart p x).srvs = s.srvs := rfl
@[simp] theorem State.setPart_repls (s : State) (p : Nat) (x : Part) : (s.setPart p x).repls = s.repls := rfl
@[simp] theorem State.setPart_events (s : State) (p : Nat) (x : Part) : (s.setPart p x).events = s.events := rfl
@[simp] theorem State.setPart_outs (s : State) (p : Nat) (x : Part) : (s.setPart p x).outs = s.outs := rfl
@[simp] theorem State.setPart_fabRoutes (s : State) (p : Nat) (x : Part) : (s.setPart p x).fabRoutes = s.fabRoutes := rfl
@[simp] theorem State.setPart_ranks (s : State) (p : Nat) (x : Part) : (s.setPart p x).ranks = s.ranks := rfl
@[simp] theorem State.setPart_jobSlots (s : State) (p : Nat) (x : Part) : (s.setPart p x).jobSlots = s.jobSlots := rfl
@[simp] theorem State.setPart_ports (s : State) (p : Nat) (x : Part) : (s.setPart p x).ports = s.ports := rfl
@[simp] theorem State.setPart_jobKeys (s : State) (p : Nat) (x : Part) : (s.setPart p x).jobKeys = s.jobKeys := rfl
@[simp] theorem State.setPart_sealSeq (s : State) (p : Nat) (x : Part) : (s.setPart p x).sealSeq = s.sealSeq := rfl
@[simp] theorem State.setPart_barFlags (s : State) (p : Nat) (x : Part) : (s.setPart p x).barFlags = s.barFlags := rfl
@[simp] theorem State.setPart_tokens (s : State) (p : Nat) (x : Part) : (s.setPart p x).tokens = s.tokens := rfl
@[simp] theorem State.setPart_dies (s : State) (p : Nat) (x : Part) : (s.setPart p x).dies = s.dies := rfl
@[simp] theorem State.setPart_domains (s : State) (p : Nat) (x : Part) : (s.setPart p x).domains = s.domains := rfl
@[simp] theorem State.setPart_tports (s : State) (p : Nat) (x : Part) : (s.setPart p x).tports = s.tports := rfl
@[simp] theorem State.setPart_owners (s : State) (p : Nat) (x : Part) : (s.setPart p x).owners = s.owners := rfl
@[simp] theorem State.setPart_clock (s : State) (p : Nat) (x : Part) : (s.setPart p x).clock = s.clock := rfl
@[simp] theorem State.setPart_power (s : State) (p : Nat) (x : Part) : (s.setPart p x).power = s.power := rfl
@[simp] theorem State.setPart_obs (s : State) (p : Nat) (x : Part) : (s.setPart p x).obs = s.obs := rfl
@[simp] theorem State.setPart_host (s : State) (p : Nat) (x : Part) : (s.setPart p x).host = s.host := rfl
@[simp] theorem State.setPart_raw (s : State) (p : Nat) (x : Part) : (s.setPart p x).raw = s.raw := rfl
@[simp] theorem State.setPart_free (s : State) (p : Nat) (x : Part) : (s.setPart p x).free = s.free := rfl

@[simp] theorem State.setCore_pending (s : State) (g : Nat) (x : Core) : (s.setCore g x).pending = s.pending := rfl
@[simp] theorem State.setCore_regs (s : State) (g : Nat) (x : Core) : (s.setCore g x).regs = s.regs := rfl
@[simp] theorem State.setCore_held (s : State) (g : Nat) (x : Core) : (s.setCore g x).held = s.held := rfl
@[simp] theorem State.setCore_latch (s : State) (g : Nat) (x : Core) : (s.setCore g x).latch = s.latch := rfl
@[simp] theorem State.setCore_parts (s : State) (g : Nat) (x : Core) : (s.setCore g x).parts = s.parts := rfl
@[simp] theorem State.setCore_mem (s : State) (g : Nat) (x : Core) : (s.setCore g x).mem = s.mem := rfl
@[simp] theorem State.setCore_poolBad (s : State) (g : Nat) (x : Core) : (s.setCore g x).poolBad = s.poolBad := rfl
@[simp] theorem State.setCore_hbmPairs (s : State) (g : Nat) (x : Core) : (s.setCore g x).hbmPairs = s.hbmPairs := rfl
@[simp] theorem State.setCore_hbmDraws (s : State) (g : Nat) (x : Core) : (s.setCore g x).hbmDraws = s.hbmDraws := rfl
@[simp] theorem State.setCore_flight (s : State) (g : Nat) (x : Core) : (s.setCore g x).flight = s.flight := rfl
@[simp] theorem State.setCore_outbox (s : State) (g : Nat) (x : Core) : (s.setCore g x).outbox = s.outbox := rfl
@[simp] theorem State.setCore_gives (s : State) (g : Nat) (x : Core) : (s.setCore g x).gives = s.gives := rfl
@[simp] theorem State.setCore_side (s : State) (g : Nat) (x : Core) : (s.setCore g x).side = s.side := rfl
@[simp] theorem State.setCore_hbmBad (s : State) (g : Nat) (x : Core) : (s.setCore g x).hbmBad = s.hbmBad := rfl
@[simp] theorem State.setCore_hbmFix (s : State) (g : Nat) (x : Core) : (s.setCore g x).hbmFix = s.hbmFix := rfl
@[simp] theorem State.setCore_hbmStacks (s : State) (g : Nat) (x : Core) : (s.setCore g x).hbmStacks = s.hbmStacks := rfl
@[simp] theorem State.setCore_snoop (s : State) (g : Nat) (x : Core) : (s.setCore g x).snoop = s.snoop := rfl
@[simp] theorem State.setCore_hdmClosing (s : State) (g : Nat) (x : Core) : (s.setCore g x).hdmClosing = s.hdmClosing := rfl
@[simp] theorem State.setCore_hbmKeyReq (s : State) (g : Nat) (x : Core) : (s.setCore g x).hbmKeyReq = s.hbmKeyReq := rfl
@[simp] theorem State.setCore_plinth (s : State) (g : Nat) (x : Core) : (s.setCore g x).plinth = s.plinth := rfl
@[simp] theorem State.setCore_binds (s : State) (g : Nat) (x : Core) : (s.setCore g x).binds = s.binds := rfl
@[simp] theorem State.setCore_plinthNonce (s : State) (g : Nat) (x : Core) : (s.setCore g x).plinthNonce = s.plinthNonce := rfl
@[simp] theorem State.setCore_plinthWait (s : State) (g : Nat) (x : Core) : (s.setCore g x).plinthWait = s.plinthWait := rfl
@[simp] theorem State.setCore_plinthOp (s : State) (g : Nat) (x : Core) : (s.setCore g x).plinthOp = s.plinthOp := rfl
@[simp] theorem State.setCore_thimble (s : State) (g : Nat) (x : Core) : (s.setCore g x).thimble = s.thimble := rfl
@[simp] theorem State.setCore_loader (s : State) (g : Nat) (x : Core) : (s.setCore g x).loader = s.loader := rfl
@[simp] theorem State.setCore_slotMaps (s : State) (g : Nat) (x : Core) : (s.setCore g x).slotMaps = s.slotMaps := rfl
@[simp] theorem State.setCore_srvs (s : State) (g : Nat) (x : Core) : (s.setCore g x).srvs = s.srvs := rfl
@[simp] theorem State.setCore_repls (s : State) (g : Nat) (x : Core) : (s.setCore g x).repls = s.repls := rfl
@[simp] theorem State.setCore_events (s : State) (g : Nat) (x : Core) : (s.setCore g x).events = s.events := rfl
@[simp] theorem State.setCore_outs (s : State) (g : Nat) (x : Core) : (s.setCore g x).outs = s.outs := rfl
@[simp] theorem State.setCore_fabRoutes (s : State) (g : Nat) (x : Core) : (s.setCore g x).fabRoutes = s.fabRoutes := rfl
@[simp] theorem State.setCore_ranks (s : State) (g : Nat) (x : Core) : (s.setCore g x).ranks = s.ranks := rfl
@[simp] theorem State.setCore_jobSlots (s : State) (g : Nat) (x : Core) : (s.setCore g x).jobSlots = s.jobSlots := rfl
@[simp] theorem State.setCore_ports (s : State) (g : Nat) (x : Core) : (s.setCore g x).ports = s.ports := rfl
@[simp] theorem State.setCore_jobKeys (s : State) (g : Nat) (x : Core) : (s.setCore g x).jobKeys = s.jobKeys := rfl
@[simp] theorem State.setCore_sealSeq (s : State) (g : Nat) (x : Core) : (s.setCore g x).sealSeq = s.sealSeq := rfl
@[simp] theorem State.setCore_barFlags (s : State) (g : Nat) (x : Core) : (s.setCore g x).barFlags = s.barFlags := rfl
@[simp] theorem State.setCore_tokens (s : State) (g : Nat) (x : Core) : (s.setCore g x).tokens = s.tokens := rfl
@[simp] theorem State.setCore_dies (s : State) (g : Nat) (x : Core) : (s.setCore g x).dies = s.dies := rfl
@[simp] theorem State.setCore_domains (s : State) (g : Nat) (x : Core) : (s.setCore g x).domains = s.domains := rfl
@[simp] theorem State.setCore_tports (s : State) (g : Nat) (x : Core) : (s.setCore g x).tports = s.tports := rfl
@[simp] theorem State.setCore_owners (s : State) (g : Nat) (x : Core) : (s.setCore g x).owners = s.owners := rfl
@[simp] theorem State.setCore_clock (s : State) (g : Nat) (x : Core) : (s.setCore g x).clock = s.clock := rfl
@[simp] theorem State.setCore_power (s : State) (g : Nat) (x : Core) : (s.setCore g x).power = s.power := rfl
@[simp] theorem State.setCore_obs (s : State) (g : Nat) (x : Core) : (s.setCore g x).obs = s.obs := rfl
@[simp] theorem State.setCore_host (s : State) (g : Nat) (x : Core) : (s.setCore g x).host = s.host := rfl
@[simp] theorem State.setCore_raw (s : State) (g : Nat) (x : Core) : (s.setCore g x).raw = s.raw := rfl
@[simp] theorem State.setCore_free (s : State) (g : Nat) (x : Core) : (s.setCore g x).free = s.free := rfl

@[simp] theorem State.out_pending (s : State) (o : Out) : (s.out o).pending = s.pending := rfl
@[simp] theorem State.out_regs (s : State) (o : Out) : (s.out o).regs = s.regs := rfl
@[simp] theorem State.out_held (s : State) (o : Out) : (s.out o).held = s.held := rfl
@[simp] theorem State.out_latch (s : State) (o : Out) : (s.out o).latch = s.latch := rfl
@[simp] theorem State.out_parts (s : State) (o : Out) : (s.out o).parts = s.parts := rfl
@[simp] theorem State.out_cores (s : State) (o : Out) : (s.out o).cores = s.cores := rfl
@[simp] theorem State.out_mem (s : State) (o : Out) : (s.out o).mem = s.mem := rfl
@[simp] theorem State.out_poolBad (s : State) (o : Out) : (s.out o).poolBad = s.poolBad := rfl
@[simp] theorem State.out_hbmPairs (s : State) (o : Out) : (s.out o).hbmPairs = s.hbmPairs := rfl
@[simp] theorem State.out_hbmDraws (s : State) (o : Out) : (s.out o).hbmDraws = s.hbmDraws := rfl
@[simp] theorem State.out_flight (s : State) (o : Out) : (s.out o).flight = s.flight := rfl
@[simp] theorem State.out_outbox (s : State) (o : Out) : (s.out o).outbox = s.outbox := rfl
@[simp] theorem State.out_gives (s : State) (o : Out) : (s.out o).gives = s.gives := rfl
@[simp] theorem State.out_side (s : State) (o : Out) : (s.out o).side = s.side := rfl
@[simp] theorem State.out_hbmBad (s : State) (o : Out) : (s.out o).hbmBad = s.hbmBad := rfl
@[simp] theorem State.out_hbmFix (s : State) (o : Out) : (s.out o).hbmFix = s.hbmFix := rfl
@[simp] theorem State.out_hbmStacks (s : State) (o : Out) : (s.out o).hbmStacks = s.hbmStacks := rfl
@[simp] theorem State.out_snoop (s : State) (o : Out) : (s.out o).snoop = s.snoop := rfl
@[simp] theorem State.out_hdmClosing (s : State) (o : Out) : (s.out o).hdmClosing = s.hdmClosing := rfl
@[simp] theorem State.out_hbmKeyReq (s : State) (o : Out) : (s.out o).hbmKeyReq = s.hbmKeyReq := rfl
@[simp] theorem State.out_plinth (s : State) (o : Out) : (s.out o).plinth = s.plinth := rfl
@[simp] theorem State.out_binds (s : State) (o : Out) : (s.out o).binds = s.binds := rfl
@[simp] theorem State.out_plinthNonce (s : State) (o : Out) : (s.out o).plinthNonce = s.plinthNonce := rfl
@[simp] theorem State.out_plinthWait (s : State) (o : Out) : (s.out o).plinthWait = s.plinthWait := rfl
@[simp] theorem State.out_plinthOp (s : State) (o : Out) : (s.out o).plinthOp = s.plinthOp := rfl
@[simp] theorem State.out_thimble (s : State) (o : Out) : (s.out o).thimble = s.thimble := rfl
@[simp] theorem State.out_loader (s : State) (o : Out) : (s.out o).loader = s.loader := rfl
@[simp] theorem State.out_slotMaps (s : State) (o : Out) : (s.out o).slotMaps = s.slotMaps := rfl
@[simp] theorem State.out_srvs (s : State) (o : Out) : (s.out o).srvs = s.srvs := rfl
@[simp] theorem State.out_repls (s : State) (o : Out) : (s.out o).repls = s.repls := rfl
@[simp] theorem State.out_events (s : State) (o : Out) : (s.out o).events = s.events := rfl
@[simp] theorem State.out_fabRoutes (s : State) (o : Out) : (s.out o).fabRoutes = s.fabRoutes := rfl
@[simp] theorem State.out_ranks (s : State) (o : Out) : (s.out o).ranks = s.ranks := rfl
@[simp] theorem State.out_jobSlots (s : State) (o : Out) : (s.out o).jobSlots = s.jobSlots := rfl
@[simp] theorem State.out_ports (s : State) (o : Out) : (s.out o).ports = s.ports := rfl
@[simp] theorem State.out_jobKeys (s : State) (o : Out) : (s.out o).jobKeys = s.jobKeys := rfl
@[simp] theorem State.out_sealSeq (s : State) (o : Out) : (s.out o).sealSeq = s.sealSeq := rfl
@[simp] theorem State.out_barFlags (s : State) (o : Out) : (s.out o).barFlags = s.barFlags := rfl
@[simp] theorem State.out_tokens (s : State) (o : Out) : (s.out o).tokens = s.tokens := rfl
@[simp] theorem State.out_dies (s : State) (o : Out) : (s.out o).dies = s.dies := rfl
@[simp] theorem State.out_domains (s : State) (o : Out) : (s.out o).domains = s.domains := rfl
@[simp] theorem State.out_tports (s : State) (o : Out) : (s.out o).tports = s.tports := rfl
@[simp] theorem State.out_owners (s : State) (o : Out) : (s.out o).owners = s.owners := rfl
@[simp] theorem State.out_clock (s : State) (o : Out) : (s.out o).clock = s.clock := rfl
@[simp] theorem State.out_power (s : State) (o : Out) : (s.out o).power = s.power := rfl
@[simp] theorem State.out_obs (s : State) (o : Out) : (s.out o).obs = s.obs := rfl
@[simp] theorem State.out_host (s : State) (o : Out) : (s.out o).host = s.host := rfl
@[simp] theorem State.out_raw (s : State) (o : Out) : (s.out o).raw = s.raw := rfl
@[simp] theorem State.out_free (s : State) (o : Out) : (s.out o).free = s.free := rfl

@[simp] theorem State.draw_pending (s : State) : s.draw.2.pending = s.pending := rfl
@[simp] theorem State.draw_regs (s : State) : s.draw.2.regs = s.regs := rfl
@[simp] theorem State.draw_held (s : State) : s.draw.2.held = s.held := rfl
@[simp] theorem State.draw_latch (s : State) : s.draw.2.latch = s.latch := rfl
@[simp] theorem State.draw_parts (s : State) : s.draw.2.parts = s.parts := rfl
@[simp] theorem State.draw_cores (s : State) : s.draw.2.cores = s.cores := rfl
@[simp] theorem State.draw_mem (s : State) : s.draw.2.mem = s.mem := rfl
@[simp] theorem State.draw_poolBad (s : State) : s.draw.2.poolBad = s.poolBad := rfl
@[simp] theorem State.draw_hbmPairs (s : State) : s.draw.2.hbmPairs = s.hbmPairs := rfl
@[simp] theorem State.draw_hbmDraws (s : State) : s.draw.2.hbmDraws = s.hbmDraws := rfl
@[simp] theorem State.draw_flight (s : State) : s.draw.2.flight = s.flight := rfl
@[simp] theorem State.draw_outbox (s : State) : s.draw.2.outbox = s.outbox := rfl
@[simp] theorem State.draw_gives (s : State) : s.draw.2.gives = s.gives := rfl
@[simp] theorem State.draw_side (s : State) : s.draw.2.side = s.side := rfl
@[simp] theorem State.draw_hbmBad (s : State) : s.draw.2.hbmBad = s.hbmBad := rfl
@[simp] theorem State.draw_hbmFix (s : State) : s.draw.2.hbmFix = s.hbmFix := rfl
@[simp] theorem State.draw_hbmStacks (s : State) : s.draw.2.hbmStacks = s.hbmStacks := rfl
@[simp] theorem State.draw_snoop (s : State) : s.draw.2.snoop = s.snoop := rfl
@[simp] theorem State.draw_hdmClosing (s : State) : s.draw.2.hdmClosing = s.hdmClosing := rfl
@[simp] theorem State.draw_hbmKeyReq (s : State) : s.draw.2.hbmKeyReq = s.hbmKeyReq := rfl
@[simp] theorem State.draw_plinth (s : State) : s.draw.2.plinth = s.plinth := rfl
@[simp] theorem State.draw_binds (s : State) : s.draw.2.binds = s.binds := rfl
@[simp] theorem State.draw_plinthNonce (s : State) : s.draw.2.plinthNonce = s.plinthNonce := rfl
@[simp] theorem State.draw_plinthWait (s : State) : s.draw.2.plinthWait = s.plinthWait := rfl
@[simp] theorem State.draw_plinthOp (s : State) : s.draw.2.plinthOp = s.plinthOp := rfl
@[simp] theorem State.draw_thimble (s : State) : s.draw.2.thimble = s.thimble := rfl
@[simp] theorem State.draw_loader (s : State) : s.draw.2.loader = s.loader := rfl
@[simp] theorem State.draw_slotMaps (s : State) : s.draw.2.slotMaps = s.slotMaps := rfl
@[simp] theorem State.draw_srvs (s : State) : s.draw.2.srvs = s.srvs := rfl
@[simp] theorem State.draw_repls (s : State) : s.draw.2.repls = s.repls := rfl
@[simp] theorem State.draw_events (s : State) : s.draw.2.events = s.events := rfl
@[simp] theorem State.draw_outs (s : State) : s.draw.2.outs = s.outs := rfl
@[simp] theorem State.draw_fabRoutes (s : State) : s.draw.2.fabRoutes = s.fabRoutes := rfl
@[simp] theorem State.draw_ranks (s : State) : s.draw.2.ranks = s.ranks := rfl
@[simp] theorem State.draw_jobSlots (s : State) : s.draw.2.jobSlots = s.jobSlots := rfl
@[simp] theorem State.draw_ports (s : State) : s.draw.2.ports = s.ports := rfl
@[simp] theorem State.draw_jobKeys (s : State) : s.draw.2.jobKeys = s.jobKeys := rfl
@[simp] theorem State.draw_sealSeq (s : State) : s.draw.2.sealSeq = s.sealSeq := rfl
@[simp] theorem State.draw_barFlags (s : State) : s.draw.2.barFlags = s.barFlags := rfl
@[simp] theorem State.draw_tokens (s : State) : s.draw.2.tokens = s.tokens := rfl
@[simp] theorem State.draw_dies (s : State) : s.draw.2.dies = s.dies := rfl
@[simp] theorem State.draw_domains (s : State) : s.draw.2.domains = s.domains := rfl
@[simp] theorem State.draw_tports (s : State) : s.draw.2.tports = s.tports := rfl
@[simp] theorem State.draw_owners (s : State) : s.draw.2.owners = s.owners := rfl
@[simp] theorem State.draw_clock (s : State) : s.draw.2.clock = s.clock := rfl
@[simp] theorem State.draw_power (s : State) : s.draw.2.power = s.power := rfl
@[simp] theorem State.draw_obs (s : State) : s.draw.2.obs = s.obs := rfl
@[simp] theorem State.draw_host (s : State) : s.draw.2.host = s.host := rfl
@[simp] theorem State.draw_raw (s : State) : s.draw.2.raw = s.raw := rfl

@[simp] theorem State.holdLow_pending (s : State) (party : Party) (lo v : Nat) : (s.holdLow party lo v).pending = s.pending := rfl
@[simp] theorem State.holdLow_regs (s : State) (party : Party) (lo v : Nat) : (s.holdLow party lo v).regs = s.regs := rfl
@[simp] theorem State.holdLow_latch (s : State) (party : Party) (lo v : Nat) : (s.holdLow party lo v).latch = s.latch := rfl
@[simp] theorem State.holdLow_parts (s : State) (party : Party) (lo v : Nat) : (s.holdLow party lo v).parts = s.parts := rfl
@[simp] theorem State.holdLow_cores (s : State) (party : Party) (lo v : Nat) : (s.holdLow party lo v).cores = s.cores := rfl
@[simp] theorem State.holdLow_mem (s : State) (party : Party) (lo v : Nat) : (s.holdLow party lo v).mem = s.mem := rfl
@[simp] theorem State.holdLow_poolBad (s : State) (party : Party) (lo v : Nat) : (s.holdLow party lo v).poolBad = s.poolBad := rfl
@[simp] theorem State.holdLow_hbmPairs (s : State) (party : Party) (lo v : Nat) : (s.holdLow party lo v).hbmPairs = s.hbmPairs := rfl
@[simp] theorem State.holdLow_hbmDraws (s : State) (party : Party) (lo v : Nat) : (s.holdLow party lo v).hbmDraws = s.hbmDraws := rfl
@[simp] theorem State.holdLow_flight (s : State) (party : Party) (lo v : Nat) : (s.holdLow party lo v).flight = s.flight := rfl
@[simp] theorem State.holdLow_outbox (s : State) (party : Party) (lo v : Nat) : (s.holdLow party lo v).outbox = s.outbox := rfl
@[simp] theorem State.holdLow_gives (s : State) (party : Party) (lo v : Nat) : (s.holdLow party lo v).gives = s.gives := rfl
@[simp] theorem State.holdLow_side (s : State) (party : Party) (lo v : Nat) : (s.holdLow party lo v).side = s.side := rfl
@[simp] theorem State.holdLow_hbmBad (s : State) (party : Party) (lo v : Nat) : (s.holdLow party lo v).hbmBad = s.hbmBad := rfl
@[simp] theorem State.holdLow_hbmFix (s : State) (party : Party) (lo v : Nat) : (s.holdLow party lo v).hbmFix = s.hbmFix := rfl
@[simp] theorem State.holdLow_hbmStacks (s : State) (party : Party) (lo v : Nat) : (s.holdLow party lo v).hbmStacks = s.hbmStacks := rfl
@[simp] theorem State.holdLow_snoop (s : State) (party : Party) (lo v : Nat) : (s.holdLow party lo v).snoop = s.snoop := rfl
@[simp] theorem State.holdLow_hdmClosing (s : State) (party : Party) (lo v : Nat) : (s.holdLow party lo v).hdmClosing = s.hdmClosing := rfl
@[simp] theorem State.holdLow_hbmKeyReq (s : State) (party : Party) (lo v : Nat) : (s.holdLow party lo v).hbmKeyReq = s.hbmKeyReq := rfl
@[simp] theorem State.holdLow_plinth (s : State) (party : Party) (lo v : Nat) : (s.holdLow party lo v).plinth = s.plinth := rfl
@[simp] theorem State.holdLow_binds (s : State) (party : Party) (lo v : Nat) : (s.holdLow party lo v).binds = s.binds := rfl
@[simp] theorem State.holdLow_plinthNonce (s : State) (party : Party) (lo v : Nat) : (s.holdLow party lo v).plinthNonce = s.plinthNonce := rfl
@[simp] theorem State.holdLow_plinthWait (s : State) (party : Party) (lo v : Nat) : (s.holdLow party lo v).plinthWait = s.plinthWait := rfl
@[simp] theorem State.holdLow_plinthOp (s : State) (party : Party) (lo v : Nat) : (s.holdLow party lo v).plinthOp = s.plinthOp := rfl
@[simp] theorem State.holdLow_thimble (s : State) (party : Party) (lo v : Nat) : (s.holdLow party lo v).thimble = s.thimble := rfl
@[simp] theorem State.holdLow_loader (s : State) (party : Party) (lo v : Nat) : (s.holdLow party lo v).loader = s.loader := rfl
@[simp] theorem State.holdLow_slotMaps (s : State) (party : Party) (lo v : Nat) : (s.holdLow party lo v).slotMaps = s.slotMaps := rfl
@[simp] theorem State.holdLow_srvs (s : State) (party : Party) (lo v : Nat) : (s.holdLow party lo v).srvs = s.srvs := rfl
@[simp] theorem State.holdLow_repls (s : State) (party : Party) (lo v : Nat) : (s.holdLow party lo v).repls = s.repls := rfl
@[simp] theorem State.holdLow_events (s : State) (party : Party) (lo v : Nat) : (s.holdLow party lo v).events = s.events := rfl
@[simp] theorem State.holdLow_outs (s : State) (party : Party) (lo v : Nat) : (s.holdLow party lo v).outs = s.outs := rfl
@[simp] theorem State.holdLow_fabRoutes (s : State) (party : Party) (lo v : Nat) : (s.holdLow party lo v).fabRoutes = s.fabRoutes := rfl
@[simp] theorem State.holdLow_ranks (s : State) (party : Party) (lo v : Nat) : (s.holdLow party lo v).ranks = s.ranks := rfl
@[simp] theorem State.holdLow_jobSlots (s : State) (party : Party) (lo v : Nat) : (s.holdLow party lo v).jobSlots = s.jobSlots := rfl
@[simp] theorem State.holdLow_ports (s : State) (party : Party) (lo v : Nat) : (s.holdLow party lo v).ports = s.ports := rfl
@[simp] theorem State.holdLow_jobKeys (s : State) (party : Party) (lo v : Nat) : (s.holdLow party lo v).jobKeys = s.jobKeys := rfl
@[simp] theorem State.holdLow_sealSeq (s : State) (party : Party) (lo v : Nat) : (s.holdLow party lo v).sealSeq = s.sealSeq := rfl
@[simp] theorem State.holdLow_barFlags (s : State) (party : Party) (lo v : Nat) : (s.holdLow party lo v).barFlags = s.barFlags := rfl
@[simp] theorem State.holdLow_tokens (s : State) (party : Party) (lo v : Nat) : (s.holdLow party lo v).tokens = s.tokens := rfl
@[simp] theorem State.holdLow_dies (s : State) (party : Party) (lo v : Nat) : (s.holdLow party lo v).dies = s.dies := rfl
@[simp] theorem State.holdLow_domains (s : State) (party : Party) (lo v : Nat) : (s.holdLow party lo v).domains = s.domains := rfl
@[simp] theorem State.holdLow_tports (s : State) (party : Party) (lo v : Nat) : (s.holdLow party lo v).tports = s.tports := rfl
@[simp] theorem State.holdLow_owners (s : State) (party : Party) (lo v : Nat) : (s.holdLow party lo v).owners = s.owners := rfl
@[simp] theorem State.holdLow_clock (s : State) (party : Party) (lo v : Nat) : (s.holdLow party lo v).clock = s.clock := rfl
@[simp] theorem State.holdLow_power (s : State) (party : Party) (lo v : Nat) : (s.holdLow party lo v).power = s.power := rfl
@[simp] theorem State.holdLow_obs (s : State) (party : Party) (lo v : Nat) : (s.holdLow party lo v).obs = s.obs := rfl
@[simp] theorem State.holdLow_host (s : State) (party : Party) (lo v : Nat) : (s.holdLow party lo v).host = s.host := rfl
@[simp] theorem State.holdLow_raw (s : State) (party : Party) (lo v : Nat) : (s.holdLow party lo v).raw = s.raw := rfl
@[simp] theorem State.holdLow_free (s : State) (party : Party) (lo v : Nat) : (s.holdLow party lo v).free = s.free := rfl

/-! ### Register fields read back -/

/-- Two fields, instances or elements that are not the same are kept apart. -/
theorem Fld.key_ne {f g : Fld} {i j k l : Nat} (h : f.code % 16384 ≠ g.code % 16384 ∨ i ≠ j ∨ k % 256 ≠ l % 256) :
    f.key i k ≠ g.key j l := by
  unfold Fld.key
  have hf := Nat.mod_lt f.code (show 0 < 16384 by decide)
  have hg := Nat.mod_lt g.code (show 0 < 16384 by decide)
  have hk := Nat.mod_lt k (show 0 < 256 by decide)
  have hl := Nat.mod_lt l (show 0 < 256 by decide)
  omega

/-- A field just written holds the value, cut to its width. -/
@[simp] theorem State.fld_setFld_self (s : State) (f : Fld) (v i k : Nat) : (s.setFld f v i k).fld f i k = v % 2 ^ f.width := by
  simp [State.fld, State.setFld]

/-- Any other field is as it was. -/
theorem State.fld_setFld_ne (s : State) {f g : Fld} (v : Nat) {i j k l : Nat}
    (h : g.code % 16384 ≠ f.code % 16384 ∨ j ≠ i ∨ l % 256 ≠ k % 256) : (s.setFld f v i k).fld g j l = s.fld g j l := by
  simp only [State.fld, State.setFld]
  exact bankGet_bankSet_ne _ _ _ _ (Fld.key_ne h)

@[simp] theorem State.fld_setPart (s : State) (p : Nat) (x : Part) (f : Fld) (i k : Nat) : (s.setPart p x).fld f i k = s.fld f i k := rfl
@[simp] theorem State.fld_setCore (s : State) (g : Nat) (x : Core) (f : Fld) (i k : Nat) : (s.setCore g x).fld f i k = s.fld f i k := rfl
@[simp] theorem State.fld_out (s : State) (o : Out) (f : Fld) (i k : Nat) : (s.out o).fld f i k = s.fld f i k := rfl

/-! ### Partition and core records read back -/

@[simp] theorem State.part_setPart_self (s : State) (p : Nat) (x : Part) : (s.setPart p x).part p = x := by
  simp [State.part, State.setPart]

theorem State.part_setPart_ne (s : State) {p q : Nat} (x : Part) (h : q ≠ p) : (s.setPart p x).part q = s.part q := by
  simp only [State.part, State.setPart]
  exact bankGet_bankSet_ne _ _ _ _ h

@[simp] theorem State.part_setFld (s : State) (f : Fld) (v i k p : Nat) : (s.setFld f v i k).part p = s.part p := rfl

@[simp] theorem State.core_setCore_self (s : State) (g : Nat) (x : Core) : (s.setCore g x).core g = x := by
  simp [State.core, State.setCore]

theorem State.core_setCore_ne (s : State) {g h : Nat} (x : Core) (hne : h ≠ g) : (s.setCore g x).core h = s.core h := by
  simp only [State.core, State.setCore]
  exact bankGet_bankSet_ne _ _ _ _ hne

@[simp] theorem State.core_setFld (s : State) (f : Fld) (v i k g : Nat) : (s.setFld f v i k).core g = s.core g := rfl

/-! ### The plan sequencer's states -/

/-- A partition put in a state is in that state. -/
@[simp] theorem State.pstate_setPState (s : State) (p : Nat) (st : PState) : (s.setPState p st).pstate p = st := by
  have h : (s.setPState p st).fld .PLAN_STATUS_STATE p = st.code % 2 ^ Fld.PLAN_STATUS_STATE.width := by
    unfold State.setPState State.setBit
    rw [State.fld_setFld_ne _ _ (.inl (by decide))]
    exact State.fld_setFld_self _ _ _ _ _
  unfold State.pstate
  rw [h]
  cases st <;> decide

/-- It leaves every other partition in its state. -/
theorem State.pstate_setPState_ne (s : State) {p q : Nat} (st : PState) (h : q ≠ p) : (s.setPState p st).pstate q = s.pstate q := by
  unfold State.pstate State.setPState State.setBit
  rw [State.fld_setFld_ne _ _ (.inl (by decide)), State.fld_setFld_ne _ _ (.inr (.inl h))]

end Sys2Proof.Machine
end

