-- ==== Sys2Proof/Laws/Frame.lean ====
section
/-! SUPPORT. Laws/Frame.lean: what the shared operations leave as it was: the queue and the memories, and the register fields that they do
not write. A proof cites these lemmas in place of unfolding the operation. -/
namespace Sys2Proof.Machine
open Sys2Proof

/-! ### Register fields -/

theorem RegsBut.refl (s : State) (fs : List (Fld × Nat)) : RegsBut s s fs := fun _ _ _ _ _ => rfl

theorem OnlyRegs.refl (s : State) (fs : List (Fld × Nat)) : OnlyRegs s s fs := ⟨rfl, RegsBut.refl s fs⟩

theorem RegsBut.trans {s t u : State} {fs : List (Fld × Nat)} (h : RegsBut s t fs) (k : RegsBut t u fs) : RegsBut s u fs :=
  fun f i j hf hn => (k f i j hf hn).trans (h f i j hf hn)

theorem RegsBut.mono {s t : State} {fs gs : List (Fld × Nat)} (h : RegsBut s t fs) (hs : ∀ e ∈ fs, e ∈ gs) : RegsBut s t gs :=
  fun f i j hf hn => h f i j hf (fun e he => hn e (hs e he))

/-- A write of a listed field. -/
theorem RegsBut.setFld {s t : State} {fs : List (Fld × Nat)} (h : RegsBut s t fs) {g : Fld} {j : Nat} (v k : Nat) (hg : g.code < 16384)
    (hm : (g, j) ∈ fs) : RegsBut s (t.setFld g v j k) fs := by
  intro f i l hf hn
  rw [State.fld_setFld_ne, h f i l hf hn]
  rcases hn _ hm with h1 | h1
  · left; simpa [Nat.mod_eq_of_lt hf, Nat.mod_eq_of_lt hg] using h1
  · exact .inr (.inl h1)

theorem OnlyRegs.setFld {s t : State} {fs : List (Fld × Nat)} (h : OnlyRegs s t fs) {g : Fld} {j : Nat} (v k : Nat) (hg : g.code < 16384)
    (hm : (g, j) ∈ fs) : OnlyRegs s (t.setFld g v j k) fs := by
  obtain ⟨he, hr⟩ := h
  refine ⟨?_, RegsBut.setFld hr v k hg hm⟩
  rw [he]; rfl

/-- A fresh value uses up one number (log entry 3). -/
theorem State.draw_eq (s : State) : s.draw = (Config.freeValue s.free, { s with free := s.free + 1 }) := rfl

/-! ### Branches and folds -/

@[simp] theorem ite_pending (c : Prop) [Decidable c] (a b : State) : (if c then a else b).pending = if c then a.pending else b.pending := apply_ite ..
@[simp] theorem ite_mem (c : Prop) [Decidable c] (a b : State) : (if c then a else b).mem = if c then a.mem else b.mem := apply_ite ..
@[simp] theorem ite_fst {α β : Type} (c : Prop) [Decidable c] (a b : α × β) : (if c then a else b).1 = if c then a.1 else b.1 := apply_ite ..
@[simp] theorem ite_snd {α β : Type} (c : Prop) [Decidable c] (a b : α × β) : (if c then a else b).2 = if c then a.2 else b.2 := apply_ite ..
@[simp] theorem ite_st (c : Prop) [Decidable c] (a b : Effect) : (if c then a else b).st = if c then a.st else b.st := apply_ite ..

/-- What every step of a fold keeps, the fold keeps. -/
theorem foldl_keep {β γ : Type} (π : State → γ) (f : State → β → State) (h : ∀ s b, π (f s b) = π s) (l : List β) (s : State) :
    π (l.foldl f s) = π s := by
  induction l generalizing s with
  | nil => rfl
  | cons b t ih => exact (ih (f s b)).trans (h s b)

@[simp] theorem foldl_pending {β : Type} (f : State → β → State) (h : ∀ s b, (f s b).pending = s.pending) (l : List β) (s : State) :
    (l.foldl f s).pending = s.pending := foldl_keep _ f h l s
@[simp] theorem foldl_mem {β : Type} (f : State → β → State) (h : ∀ s b, (f s b).mem = s.mem) (l : List β) (s : State) :
    (l.foldl f s).mem = s.mem := foldl_keep _ f h l s

theorem foldl_memWf {β : Type} (f : State → β → State) (h : ∀ s b, s.memWf = true → (f s b).memWf = true) (l : List β) (s : State)
    (hs : s.memWf = true) : (l.foldl f s).memWf = true := by
  induction l generalizing s with
  | nil => exact hs
  | cons b t ih => exact ih _ (h s b hs)

/-! ### Shared operations that keep the queue and the memories -/

@[simp] theorem State.setHub_keeps (s :
    State) (p : Nat) (l : List ObsRec) : (State.setHub s p l).pending = s.pending ∧ (State.setHub s p l).mem = s.mem := by
  simp [State.setHub]
@[simp] theorem State.setFld_keeps (s :
    State) (f : Fld) (v : Nat) (i : Nat) (k : Nat) : (State.setFld s f v i k).pending = s.pending ∧ (State.setFld s f v i k).mem = s.mem := by
  simp [State.setFld]
@[simp] theorem State.addFld_keeps (s :
    State) (f : Fld) (n : Nat) (i : Nat) (k : Nat) : (State.addFld s f n i k).pending = s.pending ∧ (State.addFld s f n i k).mem = s.mem := by
  simp [State.addFld]
@[simp] theorem State.sendRec_keeps (s :
    State) (p : Nat) (r : ObsRec) : (State.sendRec s p r).pending = s.pending ∧ (State.sendRec s p r).mem = s.mem := by
  simp [State.sendRec]
@[simp] theorem State.setDump_keeps (s :
    State) (i : Nat) (d : Dump) : (State.setDump s i d).pending = s.pending ∧ (State.setDump s i d).mem = s.mem := by
  simp [State.setDump]
@[simp] theorem State.abortDump_keeps (s :
    State) (p : Nat) (k : Nat) (code : Nat) : (State.abortDump s p k code).pending = s.pending ∧ (State.abortDump s p k code).mem = s.mem := by
  simp [State.abortDump]
@[simp] theorem State.abortDumps_keeps (s :
    State) (p : Nat) (code : Nat) : (State.abortDumps s p code).pending = s.pending ∧ (State.abortDumps s p code).mem = s.mem := by
  simp [State.abortDumps]
@[simp] theorem State.out_keeps (s : State) (o : Out) : (State.out s o).pending = s.pending ∧ (State.out s o).mem = s.mem := by
  simp [State.out]
@[simp] theorem State.queueEvent_keeps (s :
    State) (e : MgmtEvent) : (State.queueEvent s e).pending = s.pending ∧ (State.queueEvent s e).mem = s.mem := by
  simp [State.queueEvent]
@[simp] theorem State.recordFirst_keeps (s :
    State) (fc : Fld) (fm : Fld) (code : Nat) (i : Nat) : (State.recordFirst s fc fm code i).pending = s.pending ∧ (State.recordFirst s fc fm code i).mem = s.mem := by
  simp [State.recordFirst]
@[simp] theorem State.planError_keeps (s :
    State) (p : Nat) (code : Nat) : (State.planError s p code).pending = s.pending ∧ (State.planError s p code).mem = s.mem := by
  simp [State.planError]
@[simp] theorem State.leaveActive_keeps (s :
    State) (p : Nat) : (State.leaveActive s p).pending = s.pending ∧ (State.leaveActive s p).mem = s.mem := by
  simp [State.leaveActive]
@[simp] theorem State.setPart_keeps (s :
    State) (p : Nat) (x : Part) : (State.setPart s p x).pending = s.pending ∧ (State.setPart s p x).mem = s.mem := by
  simp [State.setPart]
@[simp] theorem State.clearHolds_keeps (s :
    State) (p : Nat) : (State.clearHolds s p).pending = s.pending ∧ (State.clearHolds s p).mem = s.mem := by
  simp [State.clearHolds]
@[simp] theorem State.setBit_keeps (s :
    State) (f : Fld) (n : Nat) (b : Bool) (i : Nat) : (State.setBit s f n b i).pending = s.pending ∧ (State.setBit s f n b i).mem = s.mem := by
  simp [State.setBit]
@[simp] theorem State.setPState_keeps (s :
    State) (p : Nat) (st : PState) : (State.setPState s p st).pending = s.pending ∧ (State.setPState s p st).mem = s.mem := by
  simp [State.setPState]
@[simp] theorem State.capturePlaster_keeps (s :
    State) (p : Nat) (reason : Nat) : (State.capturePlaster s p reason).pending = s.pending ∧ (State.capturePlaster s p reason).mem = s.mem := by
  simp [State.capturePlaster]
@[simp] theorem State.setFld64_keeps (s :
    State) (lo : Fld) (hi : Fld) (v : Nat) (i : Nat) (k : Nat) : (State.setFld64 s lo hi v i k).pending = s.pending ∧ (State.setFld64 s lo hi v i k).mem = s.mem := by
  simp [State.setFld64]
@[simp] theorem State.sendCtl_keeps (s :
    State) (ports : List Nat) (f : CtlFlit) : (State.sendCtl s ports f).pending = s.pending ∧ (State.sendCtl s ports f).mem = s.mem := by
  simp [State.sendCtl]
@[simp] theorem State.raiseVector_keeps (s :
    State) (v : Nat) : (State.raiseVector s v).pending = s.pending ∧ (State.raiseVector s v).mem = s.mem := by
  simp [State.raiseVector]
@[simp] theorem State.draw_keeps (s : State) : (State.draw s).2.pending = s.pending ∧ (State.draw s).2.mem = s.mem := by
  simp [State.draw]
@[simp] theorem State.counterValue_keeps (s :
    State) (bank : List (Nat × Nat)) (p : Nat) (id : Nat) (sub : Nat) (inst : Nat) : (State.counterValue s bank p id sub inst).1.pending = s.pending ∧ (State.counterValue s bank p id sub inst).1.mem = s.mem := by
  unfold State.counterValue; split <;> simp
theorem State.counterEntries_keeps (s : State) (p : Nat) (l : List (Nat × Nat × Nat)) :
    (s.counterEntries p l).1.pending = s.pending ∧ (s.counterEntries p l).1.mem = s.mem := by
  induction l generalizing s with
  | nil => exact ⟨rfl, rfl⟩
  | cons e t ih =>
    obtain ⟨a, b⟩ := ih (s.counterValue s.obs.starched p e.1 e.2.1 e.2.2).1
    obtain ⟨c, d⟩ := State.counterValue_keeps s s.obs.starched p e.1 e.2.1 e.2.2
    exact ⟨a.trans c, b.trans d⟩
theorem State.counterRecords_keeps (s : State) (p : Nat) : (s.counterRecords p).pending = s.pending ∧ (s.counterRecords p).mem = s.mem := by
  unfold State.counterRecords
  split
  · exact ⟨rfl, rfl⟩
  · generalize s.counterNames _ = l
    obtain ⟨a, b⟩ := State.counterEntries_keeps s p l
    exact ⟨(foldl_pending _ (fun s x => (State.sendRec_keeps s p _).1) _ _).trans a, (foldl_mem _ (fun s x => (State.sendRec_keeps s p _).2) _ _).trans b⟩
theorem State.foldl_counterRecords_keeps (l : List Nat) (s : State) : (l.foldl (fun s p => s.counterRecords p) s).pending = s.pending ∧
    (l.foldl (fun s p => s.counterRecords p) s).mem = s.mem :=
  ⟨foldl_pending _ (fun s x => (State.counterRecords_keeps s x).1) l s, foldl_mem _ (fun s x => (State.counterRecords_keeps s x).2) l s⟩
theorem State.fourWrites_keeps (s : State) (o : Obs) (a b c d : Fld) (v w : Nat) :
    (((({ s with obs := o } : State).setFld64 a b v).setFld c w).addFld d).pending = s.pending ∧
      (((({ s with obs := o } : State).setFld64 a b v).setFld c w).addFld d).mem = s.mem := by simp
theorem State.holdCounts_keeps (s : State) : s.holdCounts.pending = s.pending ∧ s.holdCounts.mem = s.mem :=
  State.fourWrites_keeps s { s.obs with starched := s.obs.counts } .STARCH_AT_LO .STARCH_AT_HI .STARCH_STATUS_STATE .STARCH_STATUS_COUNT
    s.now starchHeld
@[simp] theorem State.takeStarch_keeps (s : State) : s.takeStarch.pending = s.pending ∧ s.takeStarch.mem = s.mem := by
  obtain ⟨a, b⟩ := State.foldl_counterRecords_keeps (List.range 16) s.holdCounts
  exact ⟨a.trans (State.holdCounts_keeps s).1, b.trans (State.holdCounts_keeps s).2⟩
@[simp] theorem State.faultActions_keeps (s : State) (p : Nat) (code : Nat) :
    (State.faultActions s p code).pending = s.pending ∧ (State.faultActions s p code).mem = s.mem := by
  simp [State.faultActions]
@[simp] theorem State.enterFault_keeps (s : State) (p : Nat) (code : Nat) :
    (State.enterFault s p code).pending = s.pending ∧ (State.enterFault s p code).mem = s.mem := by
  unfold State.enterFault; (repeat' split) <;> simp
@[simp] theorem State.forceFault_keeps (s : State) (p : Nat) (code : Nat) :
    (State.forceFault s p code).pending = s.pending ∧ (State.forceFault s p code).mem = s.mem := by
  unfold State.forceFault; (repeat' split) <;> simp
@[simp] theorem State.faultAll_keeps (s : State) (code : Nat) : (s.faultAll code).pending = s.pending ∧ (s.faultAll code).mem = s.mem := by
  simp [State.faultAll]
@[simp] theorem State.progress_keeps (s : State) (p : Nat) : (State.progress s p).pending = s.pending ∧ (State.progress s p).mem = s.mem := by
  simp [State.progress]
@[simp] theorem State.homeCount_keeps (s :
    State) (p : Nat) (i : Nat) (round : Nat) (member : Bool) : (State.homeCount s p i round member).pending = s.pending ∧ (State.homeCount s p i round member).mem = s.mem := by
  simp [State.homeCount]
@[simp] theorem State.inject_keeps (s :
    State) (p : Nat) (k : Pkt) : (State.inject s p k).pending = s.pending ∧ (State.inject s p k).mem = s.mem := by
  unfold State.inject; (repeat' split) <;> simp
@[simp] theorem State.queueOut_keeps (s : State) (p : Nat) (k : Pkt) : (State.queueOut s p k).pending = s.pending ∧ (State.queueOut s p k).mem = s.mem := by
  simp [State.queueOut]
@[simp] theorem State.deviceArrival_keeps (s :
    State) (p : Nat) (i : Nat) (round : Nat) (member : Bool) : (State.deviceArrival s p i round member).pending = s.pending ∧ (State.deviceArrival s p i round member).mem = s.mem := by
  simp [State.deviceArrival]
@[simp] theorem State.acceptArrival_keeps (s :
    State) (p : Nat) (i : Nat) (g : Nat) (n : Nat) : (State.acceptArrival s p i g n).pending = s.pending ∧ (State.acceptArrival s p i g n).mem = s.mem := by
  simp [State.acceptArrival]
@[simp] theorem State.recordValid_keeps (s :
    State) (fc : Fld) (fm : Fld) (fv : Fld) (code : Nat) (i : Nat) : (State.recordValid s fc fm fv code i).pending = s.pending ∧ (State.recordValid s fc fm fv code i).mem = s.mem := by
  simp [State.recordValid]
@[simp] theorem State.secError_keeps (s :
    State) (code : Nat) : (State.secError s code).pending = s.pending ∧ (State.secError s code).mem = s.mem := by
  simp [State.secError]
@[simp] theorem State.mgmtError_keeps (s :
    State) (code : Nat) : (State.mgmtError s code).pending = s.pending ∧ (State.mgmtError s code).mem = s.mem := by
  simp [State.mgmtError]
@[simp] theorem State.answer_keeps (s :
    State) (ch : Chan) (code : Nat) (data : List Nat) : (State.answer s ch code data).pending = s.pending ∧ (State.answer s ch code data).mem = s.mem := by
  unfold State.answer; dsimp only; split <;> simp
@[simp] theorem State.setSrv_keeps (s :
    State) (p : Nat) (x : Srv) : (State.setSrv s p x).pending = s.pending ∧ (State.setSrv s p x).mem = s.mem := by
  simp [State.setSrv]
@[simp] theorem State.setCore_keeps (s :
    State) (g : Nat) (x : Core) : (State.setCore s g x).pending = s.pending ∧ (State.setCore s g x).mem = s.mem := by
  simp [State.setCore]
@[simp] theorem State.commitPair_keeps (s :
    State) (party : Party) (lo : Nat) (cur : Nat) (hi : Nat) : (State.commitPair s party lo cur hi).2.pending = s.pending ∧ (State.commitPair s party lo cur hi).2.mem = s.mem := by
  simp [State.commitPair]
@[simp] theorem State.releaseCore_keeps (s :
    State) (p : Nat) (i : Nat) (g : Nat) : (State.releaseCore s p i g).pending = s.pending ∧ (State.releaseCore s p i g).mem = s.mem := by
  unfold State.releaseCore; dsimp only; (repeat' split) <;> simp
@[simp] theorem State.applyRelease_keeps (s :
    State) (p : Nat) (i : Nat) : (State.applyRelease s p i).pending = s.pending ∧ (State.applyRelease s p i).mem = s.mem := by
  simp [State.applyRelease]
@[simp] theorem State.dropFlds_keeps (s :
    State) (p : Nat → Nat → Bool) : (State.dropFlds s p).pending = s.pending ∧ (State.dropFlds s p).mem = s.mem := by
  simp [State.dropFlds]
@[simp] theorem State.assertFaultN_keeps (s : State) : (State.assertFaultN s).pending = s.pending ∧ (State.assertFaultN s).mem = s.mem := by
  simp [State.assertFaultN]
@[simp] theorem State.noteGive_keeps (s : State) (g c : Nat) (refused : Bool) :
    (State.noteGive s g c refused).pending = s.pending ∧ (State.noteGive s g c refused).mem = s.mem := by
  simp [State.noteGive]
@[simp] theorem State.raiseGiven_keeps (s :
    State) (g : Nat) (c : Nat) (n : Nat) : (State.raiseGiven s g c n).pending = s.pending ∧ (State.raiseGiven s g c n).mem = s.mem := by
  simp [State.raiseGiven]
@[simp] theorem State.ndEvent_keeps (s :
    State) (p : Nat) (tick : Nat) : (State.ndEvent s p tick).pending = s.pending ∧ (State.ndEvent s p tick).mem = s.mem := by
  simp [State.ndEvent]
@[simp] theorem State.overflowDrop_keeps (s :
    State) (g : Nat) : (State.overflowDrop s g).pending = s.pending ∧ (State.overflowDrop s g).mem = s.mem := by
  simp [State.overflowDrop]
@[simp] theorem State.coreError_keeps (s :
    State) (g : Nat) (code : Nat) (tag : Nat) : (State.coreError s g code tag).pending = s.pending ∧ (State.coreError s g code tag).mem = s.mem := by
  simp [State.coreError]
@[simp] theorem State.coreFault_keeps (s : State) (g code tag : Nat) :
    (s.coreFault g code tag).pending = s.pending ∧ (s.coreFault g code tag).mem = s.mem := by
  simp [State.coreFault]
@[simp] theorem State.syncErrInfo_keeps (s :
    State) (g : Nat) (counter : Nat) (amount : Nat) (barrier : Nat) (isBar : Bool) (arrived : Bool) (rank : Nat) : (State.syncErrInfo s g counter amount barrier isBar arrived rank).pending = s.pending ∧ (State.syncErrInfo s g counter amount barrier isBar arrived rank).mem = s.mem := by
  simp [State.syncErrInfo]
@[simp] theorem State.outsideGive_keeps (s :
    State) (g : Nat) (c : Nat) (n : Nat) (arrived : Bool) (rank : Nat) : (State.outsideGive s g c n arrived rank).pending = s.pending ∧ (State.outsideGive s g c n arrived rank).mem = s.mem := by
  simp [State.outsideGive]
@[simp] theorem State.arrivingGive_keeps (s :
    State) (g : Nat) (c : Nat) (n : Nat) (rank : Nat) : (State.arrivingGive s g c n rank).pending = s.pending ∧ (State.arrivingGive s g c n rank).mem = s.mem := by
  simp [State.arrivingGive]
@[simp] theorem State.freshWords_keeps (s :
    State) (g : Nat) (ws : List Nat) : (State.freshWords s g ws).pending = s.pending ∧ (State.freshWords s g ws).mem = s.mem := by
  simp [State.freshWords]
@[simp] theorem State.setObj_keeps (s :
    State) (n : Nat) (o : PlinthObj) : (State.setObj s n o).pending = s.pending ∧ (State.setObj s n o).mem = s.mem := by
  simp [State.setObj]
@[simp] theorem State.setMembers_keeps (s :
    State) (g : Nat) (mask : Nat) : (State.setMembers s g mask).pending = s.pending ∧ (State.setMembers s g mask).mem = s.mem := by
  simp [State.setMembers]
@[simp] theorem State.zeroBarriers_keeps (s : State) (p : Nat) : (State.zeroBarriers s p).pending = s.pending ∧ (State.zeroBarriers s p).mem = s.mem := by
  simp [State.zeroBarriers]
@[simp] theorem State.endOps_keeps (s : State) (g : Nat) : (State.endOps s g).pending = s.pending ∧ (State.endOps s g).mem = s.mem := by
  simp [State.endOps]
@[simp] theorem State.zeroSync_keeps (s : State) (p : Nat) : (State.zeroSync s p).pending = s.pending ∧ (State.zeroSync s p).mem = s.mem := by
  simp [State.zeroSync]
@[simp] theorem State.setQueue_keeps (s :
    State) (q : Nat) (x : Queue) : (State.setQueue s q x).pending = s.pending ∧ (State.setQueue s q x).mem = s.mem := by
  simp [State.setQueue]
@[simp] theorem State.dropPlaster_keeps (s :
    State) (p : Nat) : (State.dropPlaster s p).pending = s.pending ∧ (State.dropPlaster s p).mem = s.mem := by
  simp [State.dropPlaster]
@[simp] theorem State.zeroCounts_keeps (s :
    State) (p : Nat) : (State.zeroCounts s p).pending = s.pending ∧ (State.zeroCounts s p).mem = s.mem := by
  simp [State.zeroCounts]
@[simp] theorem State.cancelKgenSwitch_keeps (s :
    State) (p : Nat) : (State.cancelKgenSwitch s p).pending = s.pending ∧ (State.cancelKgenSwitch s p).mem = s.mem := by
  simp [State.cancelKgenSwitch]
@[simp] theorem State.setKgen_keeps (s :
    State) (p : Nat) (gen : Nat) (st : Nat) (key : Nat) : (State.setKgen s p gen st key).pending = s.pending ∧ (State.setKgen s p gen st key).mem = s.mem := by
  simp [State.setKgen]
@[simp] theorem State.dropKgens_keeps (s : State) (p : Nat) : (State.dropKgens s p).pending = s.pending ∧ (State.dropKgens s p).mem = s.mem := by
  simp [State.dropKgens]
@[simp] theorem State.setDie_keeps (s :
    State) (nn : Nat) (x : Die) : (State.setDie s nn x).pending = s.pending ∧ (State.setDie s nn x).mem = s.mem := by
  simp [State.setDie]
@[simp] theorem State.setDomain_keeps (s :
    State) (k : Nat) (x : Domain) : (State.setDomain s k x).pending = s.pending ∧ (State.setDomain s k x).mem = s.mem := by
  simp [State.setDomain]
@[simp] theorem State.releaseFaultN_keeps (s : State) : (State.releaseFaultN s).pending = s.pending ∧ (State.releaseFaultN s).mem = s.mem := by
  simp [State.releaseFaultN]
@[simp] theorem State.hostError_keeps (s :
    State) (code : Nat) (queue : Nat) : (State.hostError s code queue).pending = s.pending ∧ (State.hostError s code queue).mem = s.mem := by
  simp [State.hostError]
@[simp] theorem State.queueError_keeps (s :
    State) (q : Nat) (code : Nat) : (State.queueError s q code).pending = s.pending ∧ (State.queueError s q code).mem = s.mem := by
  simp [State.queueError]
@[simp] theorem State.indexMoved_keeps (s :
    State) (q : Nat) : (State.indexMoved s q).pending = s.pending ∧ (State.indexMoved s q).mem = s.mem := by
  simp [State.indexMoved]
@[simp] theorem State.queueIrq_keeps (s : State) (q : Nat) : (State.queueIrq s q).pending = s.pending ∧ (State.queueIrq s q).mem = s.mem := by
  simp [State.queueIrq]
@[simp] theorem State.queueOff_keeps (s : State) (q : Nat) : (State.queueOff s q).pending = s.pending ∧ (State.queueOff s q).mem = s.mem := by
  simp [State.queueOff]
@[simp] theorem State.queueSettle_keeps (s :
    State) (q : Nat) : (State.queueSettle s q).pending = s.pending ∧ (State.queueSettle s q).mem = s.mem := by
  simp [State.queueSettle]
@[simp] theorem State.countUp_keeps (s :
    State) (p : Nat) (id : Nat) (sub : Nat) (inst : Nat) (n : Nat) : (State.countUp s p id sub inst n).pending = s.pending ∧ (State.countUp s p id sub inst n).mem = s.mem := by
  simp [State.countUp]
@[simp] theorem State.setDieDomain_keeps (s : State) (nn : Nat) (x : Domain) : (State.setDieDomain s nn x).pending = s.pending ∧ (State.setDieDomain s nn x).mem = s.mem := by
  simp [State.setDieDomain]
@[simp] theorem State.dieWoken_keeps (s : State) (nn : Nat) : (State.dieWoken s nn).pending = s.pending ∧ (State.dieWoken s nn).mem = s.mem := by
  simp [State.dieWoken]
@[simp] theorem State.noteUe_keeps (s :
    State) (g : Nat) (w : Nat) : (State.noteUe s g w).pending = s.pending ∧ (State.noteUe s g w).mem = s.mem := by
  simp [State.noteUe]
@[simp] theorem State.endObserve_keeps (s : State) : (State.endObserve s).pending = s.pending ∧ (State.endObserve s).mem = s.mem := by
  simp [State.endObserve]
@[simp] theorem State.queueToError_keeps (s :
    State) (q : Nat) (code : Nat) : (State.queueToError s q code).pending = s.pending ∧ (State.queueToError s q code).mem = s.mem := by
  simp [State.queueToError]
@[simp] theorem State.holdLow_keeps (s :
    State) (party : Party) (lo : Nat) (v : Nat) : (State.holdLow s party lo v).pending = s.pending ∧ (State.holdLow s party lo v).mem = s.mem := by
  simp [State.holdLow]
@[simp] theorem State.releaseToken_keeps (s :
    State) (g : Nat) (id : Nat) : (State.releaseToken s g id).pending = s.pending ∧ (State.releaseToken s g id).mem = s.mem := by
  simp [State.releaseToken]
@[simp] theorem State.raiseFlags_keeps (s : State) (g flags tag id : Nat) :
    (State.raiseFlags s g flags tag id).pending = s.pending ∧ (State.raiseFlags s g flags tag id).mem = s.mem := by
  simp [State.raiseFlags]
@[simp] theorem State.macroOpStart_keeps (s :
    State) (g : Nat) (id : Nat) : (State.macroOpStart s g id).pending = s.pending ∧ (State.macroOpStart s g id).mem = s.mem := by
  unfold State.macroOpStart; dsimp only; split <;> simp
@[simp] theorem State.setRepl_keeps (s :
    State) (p : Nat) (r : Repl) : (State.setRepl s p r).pending = s.pending ∧ (State.setRepl s p r).mem = s.mem := by
  simp [State.setRepl]
@[simp] theorem State.requestStep_keeps (s :
    State) (nn : Nat) : (State.requestStep s nn).pending = s.pending ∧ (State.requestStep s nn).mem = s.mem := by
  simp [State.requestStep]
@[simp] theorem State.raiseTaken_keeps (s :
    State) (g : Nat) (c : Nat) (n : Nat) : (State.raiseTaken s g c n).pending = s.pending ∧ (State.raiseTaken s g c n).mem = s.mem := by
  simp [State.raiseTaken]
@[simp] theorem State.readWordCount_keeps (s :
    State) (g : Nat) (w : Nat) : (State.readWordCount s g w).pending = s.pending ∧ (State.readWordCount s g w).mem = s.mem := by
  simp [State.readWordCount]
@[simp] theorem State.setRun_keeps (s :
    State) (g : Nat) (id : Nat) (f : Running → Running) : (State.setRun s g id f).pending = s.pending ∧ (State.setRun s g id f).mem = s.mem := by
  simp [State.setRun]
@[simp] theorem State.switchStep_keeps (s :
    State) (nn : Nat) : (State.switchStep s nn).pending = s.pending ∧ (State.switchStep s nn).mem = s.mem := by
  simp [State.switchStep]

end Sys2Proof.Machine
end

