-- ==== Sys2Proof/Laws/Memory.lean ====
section
/-! SUPPORT. Laws/Memory.lean: the operations over the four memories keep the canonical form, and a byte written reads back. -/
namespace Sys2Proof.Machine
open Sys2Proof

/-- The canonical form, memory by memory. -/
theorem Memory.wf_iff (m : Memory) :
    m.wf = true ↔ bankWf 0 m.spad = true ∧ bankWf 0 m.pool = true ∧ bankWf 0 m.hbm = true ∧ bankWf 0 m.plinthData = true := by
  simp [Memory.wf, and_assoc]

/-- Bytes put at offsets of a handle (05 R160). -/
theorem State.hPut_memWf (s : State) (g v off : Nat) (data : List Byte) (h : s.memWf = true) : (s.hPut g v off data).memWf = true := by
  induction data generalizing s off with
  | nil => exact h
  | cons b t ih =>
    apply ih
    simp only [State.memWf, Memory.wf_iff] at h ⊢
    exact ⟨bankWf_bankSet _ _ _ _ h.1, h.2⟩

/-- Reading words changes no memory (05 R155, R157). -/
theorem State.consumeWords_mem (s : State) (g : Nat) (ws : List Nat) : (s.consumeWords g ws).1.mem = s.mem := by
  induction ws generalizing s with
  | nil => rfl
  | cons w t ih =>
    simp only [State.consumeWords]
    split
    · rfl
    · rw [ih]; unfold State.readWordCount; split <;> rfl

/-- Reading the words that a write merges changes no memory (05 R156). -/
theorem State.mergeWords_mem (s : State) (g : Nat) (ws : List Nat) : (s.mergeWords g ws).1.mem = s.mem := by
  induction ws generalizing s with
  | nil => rfl
  | cons w t ih =>
    simp only [State.mergeWords]
    split
    · exact (ih _).trans rfl
    · rw [ih]; unfold State.readWordCount; split <;> rfl

/-- A write of a handle's range (05 R156). -/
theorem State.hWrite_memWf (s : State) (g h off : Nat) (data : List Byte) (w : s.memWf = true) : (s.hWrite g h off data).1.memWf = true := by
  have hc : (s.mergeWords g (partialWords (s.handle g h) off data.length)).1.memWf = true := by
    simpa only [State.memWf, State.mergeWords_mem] using w
  exact State.hPut_memWf _ _ _ _ _ hc

/-- Cores filled with zero (05 Table 5.7). -/
theorem State.foldl_setCore_mem {β : Type} (f : State → β → Nat) (x : State → β → Core) (l : List β) (s : State) :
    (l.foldl (fun s b => s.setCore (f s b) (x s b)) s).mem = s.mem := by
  induction l generalizing s with
  | nil => rfl
  | cons b t ih => exact ih _

theorem State.clearCores_memWf (s : State) (m : Nat → Bool) (w : s.memWf = true) : (s.clearCores m).memWf = true := by
  simp only [State.memWf, State.clearCores, State.foldl_setCore_mem, Memory.wf_iff] at w ⊢
  exact ⟨bankWf_bankDrop _ _ _ w.1, w.2⟩

/-- Pool groups filled with zero (05 Table 5.7). -/
theorem State.clearGroups_memWf (s : State) (m : Nat → Bool) (w : s.memWf = true) : (s.clearGroups m).memWf = true := by
  simp only [State.memWf, State.clearGroups, Memory.wf_iff] at w ⊢
  exact ⟨w.1, bankWf_bankDrop _ _ _ w.2.1, w.2.2⟩

/-- Bytes written to the pool (05 R175). -/
theorem Memory.putPool_wf (m : Memory) (a : Nat) (data : List Byte) (w : m.wf = true) :
    { m with pool := bankPutList 0 m.pool a data }.wf = true := by
  rw [Memory.wf_iff] at w ⊢
  exact ⟨w.1, bankWf_bankPutList _ _ _ _ w.2.1, w.2.2⟩

/-- Bytes written to HBM (11 R350, R355). -/
theorem State.hbmWrite_memWf (s : State) (stack b : Nat) (data : List Byte) (w : s.memWf = true) : (s.hbmWrite stack b data).memWf = true := by
  simp only [State.memWf, State.hbmWrite, Memory.wf_iff] at w ⊢
  exact ⟨w.1, w.2.1, bankWf_bankPutList _ _ _ _ w.2.2.1, w.2.2.2⟩

/-- Whole words stored in HBM (11 R368). -/
theorem State.hbmStore_memWf (s : State) (n b : Nat) (data : List Byte) (skip : List Nat) (w : s.memWf = true) :
    (s.hbmStore n b data skip).memWf = true := by
  unfold State.hbmStore
  generalize List.range ((data.length + 31) / 32) = l
  induction l generalizing s with
  | nil => exact w
  | cons j t ih =>
    refine ih _ ?_
    dsimp only
    split
    · exact w
    · exact State.hbmWrite_memWf _ _ _ _ w

theorem State.partHbmWrite_memWf (s : State) (p a : Nat) (data : List Byte) (w : s.memWf = true) : (s.partHbmWrite p a data).memWf = true := by
  unfold State.partHbmWrite
  generalize s.hbmPieces p a data.length = l
  induction l generalizing s with
  | nil => exact w
  | cons x t ih => exact ih _ (State.hbmStore_memWf _ _ _ _ _ w)

/-- A new pair (11 R355). -/
theorem State.drawPair_memWf (s : State) (who : Nat) (w : s.memWf = true) : (s.drawPair who).memWf = true := w

/-- Bytes of an object written or erased (12 R383, R384). -/
theorem Memory.putPlinth_wf (m : Memory) (a : Nat) (data : List Byte) (w : m.wf = true) :
    { m with plinthData := bankPutList 0 m.plinthData a data }.wf = true := by
  rw [Memory.wf_iff] at w ⊢
  exact ⟨w.1, w.2.1, w.2.2.1, bankWf_bankPutList _ _ _ _ w.2.2.2⟩

theorem State.eraseObj_memWf (s : State) (n : Nat) (w : s.memWf = true) : (s.eraseObj n).memWf = true := by
  simp only [State.memWf, State.eraseObj, State.setObj, Memory.wf_iff] at w ⊢
  exact ⟨w.1, w.2.1, w.2.2.1, bankWf_bankDrop _ _ _ w.2.2.2⟩

/-- A reset that loses every memory but Plinth (17 Table 17.7). -/
theorem Memory.plinthOnly_wf (m : Memory) (w : m.wf = true) : ({ plinthData := m.plinthData } : Memory).wf = true := by
  rw [Memory.wf_iff] at w ⊢
  exact ⟨rfl, rfl, rfl, w.2.2.2⟩

/-! ### Read after write -/

/-- Keys below a list of writes are as they were. -/
theorem bankGet_bankPutList_lt {α : Type} [DecidableEq α] (d : α) (b : List (Nat × α)) (k : Nat) (l : List α) {j : Nat} (h : j < k) :
    bankGet d (bankPutList d b k l) j = bankGet d b j := by
  induction l generalizing b k with
  | nil => rfl
  | cons v t ih =>
    rw [bankPutList, ih _ _ (by omega), bankGet_bankSet_ne _ _ _ _ (by omega)]

/-- Consecutive writes read back, and every other key is as it was. -/
theorem bankGet_bankPutList {α : Type} [DecidableEq α] (d : α) (b : List (Nat × α)) (k : Nat) (l : List α) (j : Nat) :
    bankGet d (bankPutList d b k l) j = if k ≤ j ∧ j < k + l.length then l.getD (j - k) d else bankGet d b j := by
  induction l generalizing b k with
  | nil => simp [bankPutList]
  | cons v t ih =>
    rw [bankPutList]
    rcases lt_trichotomy j k with h | h | h
    · rw [bankGet_bankPutList_lt _ _ _ _ (by omega), bankGet_bankSet_ne _ _ _ _ (by omega)]
      simp [Nat.not_le.mpr h]
    · subst h
      rw [bankGet_bankPutList_lt _ _ _ _ (by omega), bankGet_bankSet_self]
      simp
    · rw [ih, bankGet_bankSet_ne _ _ _ _ (by omega)]
      obtain ⟨i, rfl⟩ := Nat.exists_eq_add_of_lt h
      by_cases hl : i < t.length
      · rw [if_pos (by omega), if_pos (by simp; omega)]
        have e1 : k + i + 1 - (k + 1) = i := by omega
        have e2 : k + i + 1 - k = i + 1 := by omega
        rw [e1, e2]; simp
      · rw [if_neg (by omega), if_neg (by simp; omega)]

end Sys2Proof.Machine
end

