-- ==== Sys2Proof/Tests/Slice0.lean ====
section
/-! SUPPORT. Tests/Slice0.lean: ill-formed commands, the spec's worked examples, and for every obligation with hypotheses a witness that
meets them, clause by clause. -/
open Sys2Proof Sys2Proof.Machine
namespace Sys2Proof.Tests

/-- A device that is up in RUN: nothing but these fields differs from reset. -/
def st (l : List (Fld × Nat × Nat)) : State :=
  { State.reset with
    regs := (Fld.key .PWR_STATE_STATE 0 0, 3) :: l.map (fun e => (e.1.key e.2.1 0, e.2.2))
    power := { por := false, step := 12, rail := 8, loaded := true, up := true }
    thimble := { eid := 8 } }

/-- The state with more fields set, by field, instance and element. -/
def withE (s : State) (l : List (Fld × Nat × Nat × Nat)) : State := { s with regs := s.regs ++ l.map (fun e => (e.1.key e.2.1 e.2.2.1, e.2.2.2)) }

/-- A state with a record of core 0. -/
def cst (c : Core) (l : List (Fld × Nat × Nat) := []) : State := { st l with cores := [(0, c)] }
/-- A state with the record of partition 0. -/
def pst (x : Part) (l : List (Fld × Nat × Nat)) : State := { st l with parts := [(0, x)] }
/-- A layout written out: lengths and values, little-endian. -/
def bytes (l : List (Nat × Nat)) : List Byte := l.flatMap (fun e => leBytes e.1 e.2)

/-- The entry of such a list that starts at an offset. -/
def entryAt : List (Nat × Nat) → Nat → Option (Nat × Nat)
  | [], _ => none
  | e :: l, off => if off = 0 then some e else if off < e.1 then none else entryAt l (off - e.1)

theorem leBytes_length (n v : Nat) : (leBytes n v).length = n := by simp [leBytes]

theorem byteField_drop (a b : List Byte) {off : Nat} (n : Nat) (h : a.length ≤ off) : byteField (a ++ b) off n = byteField b (off - a.length) n := by
  unfold byteField
  congr 1
  refine List.map_congr_left fun j _ => ?_
  simp only [List.getD_eq_getElem?_getD]
  rw [List.getElem?_append_right (by omega), show off + j - a.length = off - a.length + j by omega]

theorem leBytes_sum (n v : Nat) : ((List.range n).map (fun j => (v / 256 ^ j % 256) * 256 ^ j)).sum = v % 256 ^ n := by
  induction n with
  | zero => simp [Nat.mod_one]
  | succ n ih => rw [List.range_succ, List.map_append, List.sum_append, ih, Nat.pow_succ, Nat.mod_mul]; simp [Nat.mul_comm]

theorem byteField_leBytes (n v : Nat) (b : List Byte) (h : v < 256 ^ n) : byteField (leBytes n v ++ b) 0 n = v := by
  refine Eq.trans ?_ ((leBytes_sum n v).trans (Nat.mod_eq_of_lt h))
  unfold byteField
  congr 1
  refine List.map_congr_left fun j hj => ?_
  simp [leBytes, List.getElem?_append, List.mem_range.1 hj]

/-- The field of a structure written entry by entry is the entry's value. -/
theorem byteField_bytes (l : List (Nat × Nat)) {off n v : Nat} (t : List Byte) (h : entryAt l off = some (n, v)) (hv : v < 256 ^ n) :
    byteField (bytes l ++ t) off n = v := by
  induction l generalizing off with
  | nil => cases h
  | cons e l ih =>
    simp only [entryAt] at h
    have hb : bytes (e :: l) ++ t = leBytes e.1 e.2 ++ (bytes l ++ t) := by simp [bytes]
    rw [hb]
    split at h
    · subst off; cases h; exact byteField_leBytes _ _ _ hv
    · split at h
      · cases h
      · rw [byteField_drop _ _ _ (by rw [leBytes_length]; omega), leBytes_length]; exact ih h
theorem byteField_bytes0 (l : List (Nat × Nat)) {off n v : Nat} (h : entryAt l off = some (n, v)) (hv : v < 256 ^ n) : byteField (bytes l) off n = v := by
  have := byteField_bytes l [] h hv
  rwa [List.append_nil] at this
theorem sha512_lt (l : List Byte) : sha512 l < 256 ^ 64 := lt_of_lt_of_eq (BitVec.isLt _) (pow_mul 2 8 64)

/-! ### WellFormed: an operand one past each range is refused, and the last one in it accepted -/

theorem smoke_parts : Instr.wf (.tickGrant 15) = true ∧ Instr.wf (.tickGrant 16) = false := by decide
theorem smoke_cores : Instr.wf (.fetch 6143) = true ∧ Instr.wf (.fetch 6144) = false := by decide
theorem smoke_dies : Instr.wf (.dieWake 63) = true ∧ Instr.wf (.dieWake 64) = false := by decide
theorem smoke_slots : Instr.wf (.slotCtrlDrain 31) = true ∧ Instr.wf (.slotCtrlDrain 32) = false := by decide
theorem smoke_queues : Instr.wf (.shadowWrite 95) = true ∧ Instr.wf (.shadowWrite 96) = false := by decide
theorem smoke_ports : Instr.wf (.ingressDeliver 31 7) = true ∧ Instr.wf (.ingressDeliver 32 7) = false ∧ Instr.wf (.ingressDeliver 31 8) = false := by decide
theorem smoke_nodes : Instr.wf (.edgeModuleFail 83 5 true) = true ∧ Instr.wf (.edgeModuleFail 84 5 true) = false ∧ Instr.wf (.edgeModuleFail 83 6 true) = false := by decide
theorem smoke_stacks : Instr.wf (.refreshWindow 15 31) = true ∧ Instr.wf (.refreshWindow 16 31) = false ∧ Instr.wf (.refreshWindow 15 32) = false := by decide
theorem smoke_slices : Instr.wf (.hdmModeWrite .host 255 1) = true ∧ Instr.wf (.hdmModeWrite .host 256 1) = false := by decide
theorem smoke_objects : Instr.wf (.plinthEraseDone 1023) = true ∧ Instr.wf (.plinthEraseDone 1024) = false := by decide
theorem smoke_params : Instr.wf (.prmWrite .host 0 63 0) = true ∧ Instr.wf (.prmWrite .host 0 64 0) = false ∧ Instr.wf (.prmWrite .host 0 63 (2 ^ 32)) = false := by decide
theorem smoke_banks : Instr.wf (.spadScrubRead 0 15 0) = true ∧ Instr.wf (.spadScrubRead 0 16 0) = false := by decide
theorem smoke_barriers : Instr.wf (.barRanksWrite .host 0 31 0) = true ∧ Instr.wf (.barRanksWrite .host 0 32 0) = false := by decide
theorem smoke_lanes : Instr.wf (.laneFail 0 8) = true ∧ Instr.wf (.laneFail 0 9) = false := by decide
theorem smoke_points : Instr.wf (.dumpTrigger 0 7 0) = true ∧ Instr.wf (.dumpTrigger 0 8 0) = false := by decide
theorem smoke_generations : Instr.wf (.clearKgen .mailbox 0 1 true) = true ∧ Instr.wf (.clearKgen .mailbox 0 2 true) = false := by decide
theorem smoke_buses : Instr.wf (.i3cRstdaa 1) = true ∧ Instr.wf (.i3cRstdaa 2) = false := by decide
theorem smoke_blocks : Instr.wf (.sleeveGo .host 127 none) = true ∧ Instr.wf (.sleeveGo .host 128 none) = false := by decide
theorem smoke_domains : Instr.wf (.domainEnable 607) = true ∧ Instr.wf (.domainEnable 608) = false := by decide


/-! ### Worked examples of the spec -/

/-- 05 R160: a handle with BASE_ROW 100, SIZE 512, BANK_MASK 0x00F0: byte 0x1234 is word 145, in bank 5, row 136. -/
theorem test_handle_word : hWord (100 + 512 * 2 ^ 10 + 0xF0 * 2 ^ 32 + 2 ^ 48) 145 = 5 * 1024 + 136 := by decide +kernel

/-- 11 Table 11.2: byte 4,294,971,956 of 8 slices lies in HS04 at stack address 536,871,476, and is served by CD08. -/
theorem test_hbm_place : hbmPlace [3, 4, 5, 6, 19, 20, 21, 22] 4294971956 = (4, 536871476) ∧ hbmNode 4 536871476 = 8 := by decide +kernel

/-- 01 R41: a cap of 2,650 W gives 4,064 tokens; 16 Table 16.6: 2,400 W gives 3,264. -/
theorem test_power_tokens : tokensFor 2650 = 4064 ∧ tokensFor 2400 = 3264 ∧ tokensFor 3300 = 6144 ∧ tokensFor 1400 = 96 := by decide +kernel

def e4m3 (l : List Nat) : List Val := l.map (decodeElem .e4m3)
/-- 04 Table 4.15, run 1: after START over k = 0 the entry holds 200,704 × 2^90, after CONT over k = 1 and 2 it holds 2^72. -/
theorem test_sum_run1 : (accumulateDot 1 .e4m3 { b := -90 } (e4m3 [0x7E]) (e4m3 [0x7E])).a = 200704 * 2 ^ 90 ∧
    (accumulateDot 1 .e4m3 { b := -90 } (e4m3 [0x7E, 0xFE, 0x01]) (e4m3 [0x7E, 0x7E, 0x01])).a = 2 ^ 72 := by decide +kernel
/-- 04 Table 4.15, run 2: after START over k = 2 it holds 2^72, and so it does after CONT over k = 0 and 1. -/
theorem test_sum_run2 : (accumulateDot 1 .e4m3 { b := -90 } (e4m3 [0x01]) (e4m3 [0x01])).a = 2 ^ 72 ∧
    (accumulateDot 1 .e4m3 { b := -90 } (e4m3 [0x01, 0x7E, 0xFE]) (e4m3 [0x01, 0x7E, 0x7E])).a = 2 ^ 72 := by decide +kernel

/-- 04 R137: E4M3 writes 464 as 448 without OVF. -/
theorem test_e4m3_464 : writeVal .e4m3 .rne (.fin false 464 0) = (0x7E, 0) := by decide +kernel
/-- 04 R137: a value above 464 is beyond range. -/
theorem test_e4m3_465 : (writeVal .e4m3 .rne (.fin false 465 0)).2 &&& flOvf = flOvf := by decide +kernel
/-- 04 R137: INT8 writes 127.5 as 127 with OVF, and 127.25 as 127 without. -/
theorem test_int8 : writeVal .int8 .rne (.fin false 255 (-1)) = (127, flOvf) ∧ writeVal .int8 .rne (.fin false 509 (-2)) = (127, 0) := by decide +kernel
/-- 04 R137: (2 − 2^-24) × 2^127 is a tie that goes beyond the range of FP32; a value below it does not. -/
theorem test_fp32_top : (writeVal .fp32 .rne (.fin false (2 ^ 25 - 1) 103)).2 = flOvf ∧ writeVal .fp32 .rne (.fin false (2 ^ 26 - 3) 102) = (0x7F7FFFFF, 0) := by decide +kernel

/-- 14, a ring that wraps: queue 82 of 256 entries, PI 120, CI 65,400: a doorbell of 64 is taken, one of 200 sets DB_ERR. -/
def ring82 : State := st [(.Q_CFG_SIZE_LOG2, 82, 8), (.Q_INDEX_PI, 82, 120), (.Q_INDEX_CI, 82, 65400)]
theorem test_doorbell : (ring82.doorbell 82 64).fld .Q_INDEX_CI 82 = 64 ∧ (ring82.doorbell 82 64).fld .Q_STATUS_DB_ERR 82 = 0 ∧
    (ring82.doorbell 82 200).fld .Q_INDEX_CI 82 = 65400 ∧ (ring82.doorbell 82 200).fld .Q_STATUS_DB_ERR 82 = 1 := by decide +kernel

/-- 20 Table 20.4: E_POOL_CONFLICT is 0x050E. -/
theorem test_code : E_POOL_CONFLICT = 0x050E := rfl

/-- 10 Table 10.8: t1 to t4 at Q, with TPORT_ASYM of −6 units of 1/64 ns: θ is 16 and d is 960, in units of 1/64 ns. -/
def stamps : State := (st [(.TPORT_ASYM, 0, 2 ^ 32 - 96)]).exchange 0 64000000 64000979 64025600 64026541 0
theorem test_four_stamps : stamps.fld .TPORT_OFFSET 0 = 16 ∧ stamps.fld .TPORT_DELAY 0 = 960 ∧ stamps.fld .TPORT_EXCH 0 = 1 := by decide +kernel

/-- A command in front of the queue runs on the queue's rest; here NOP of a CMD queue changes nothing else. -/
theorem test_step_front : step { State.reset with pending := [.nop 3, .nop 4] } = exec (.nop 3) { State.reset with pending := [.nop 4] } := rfl

/-! ### Witnesses: PlanW -/
namespace PlanW

/-- Slot 0 runs job 7 of partition 0 on ports 0 and 1. -/
def runL : List (Fld × Nat × Nat) := [(.SLOT_STATUS_STATE, 0, 2), (.SLOT_CFG_JOB_TAG, 0, 7), (.SLOT_PORTS0, 0, 3), (.EXCHANGE_PORTS, 0, 3), (.LINK_STATUS_STATE, 0, 5), (.LINK_STATUS_STATE, 1, 5)]
def flit (ty : CtlType) : CtlFlit := { type := ty, tag := 7, origin := 3, tick := 4, hops := 1 }
def held (live : Bool) : HoldEntry := { tag := 7, origin := 3, tick := 4, cause := 1, hops := 1, live := live, since := 0 }
def transitL : List (Fld × Nat × Nat) := (.SLOT_CFG_KIND, 0, 1) :: runL
/-- The header of a cut for SCOPE, signed by an operator. -/
def armHead (kind scope : Nat) : List Byte :=
  bytes [(4, 0x4D524151), (2, 1), (2, 0x100), (1, kind), (1, 2), (1, 0xB0), (1, 3), (4, 1), (4, 0), (4, 32), (2, scope), (6, 0), (16, 5), (64, 0), (64, 9), (8, 4), (8, 0), (64, 1)]
def armImg : ArmImage := { header := armHead 2 1, signedBy := 4, bodySha := 9, fullSha := 3, recs := [] }
def armSt (state phase : Nat) : State := { st [(.ARM_STATUS_STATE, 0, state)] with loader := { staged := some armImg, phase := phase } }

/-- The hypotheses of each clause of Obligations.RegisterAccess are met. -/
theorem witness_RegisterAccess :
    (∃ (off : Nat), (regAt off = none)) ∧
    (∃ (party : Party) (v : Nat) (s : State), (s.hostShut party = false) ∧ (v < 2 ^ 32)) ∧
    (∃ (party : Party) (v : Nat) (s : State), (s.hostShut party = false) ∧ (v < 2 ^ 32) ∧ (v.testBit 31)) ∧
    (∃ (party : Party) (v : Nat) (s : State), (s.hostShut party = false) ∧ (v < 2 ^ 32)) ∧
    (∃ (v : Nat) (w : Nat) (s : State), (s.hostShut .host = false) ∧ (v < 2 ^ 32) ∧ (w < 2 ^ 32)) ∧
    (∃ (party : Party) (s : State), (s.hostShut party)) ∧
    (∃ (party : Party) (s : State), (s.hostShut party = false)) ∧
    (∃ (party : Party) (s : State), (s.hostShut party = false)) ∧
    (∃ (party : Party) (v : Nat) (s : State), (party ≠ .mgmt) ∧ (s.hostShut party = false) ∧ (v < 2 ^ 32)) ∧
    (∃ (party : Party) (lo : Nat) (hi : Nat) (s : State), (party ≠ .mgmt) ∧ (s.hostShut party = false) ∧ (lo < 2 ^ 32) ∧ (hi < 2 ^ 32)) ∧
    (∃ (party : Party) (lo : Nat) (hi : Nat) (s : State), (party ≠ .mgmt) ∧ (s.hostShut party = false) ∧ (lo < 2 ^ 32) ∧ (hi < 2 ^ 32) ∧ (bankGet 0 s.held (pairKey party 0x00400034) = lo + 1)) ∧
    (∃ (party : Party) (s : State), (s.hostShut party = false)) ∧
    (∃ (party : Party) (s : State), (s.hostShut party = false) ∧ (s.fld .HANDLE_INDEX_AUTO 0 = 1)) := ⟨
  ⟨0x3FFFFF0, by decide +kernel⟩,
  ⟨.mgmt, 3, st [], by decide +kernel⟩,
  ⟨.host, 0x80000000, st [(.FAB_ERROR_INFO_VALID, 0, 1), (.FAB_ERROR_CODE, 0, 9)], by decide +kernel⟩,
  ⟨.host, 0x80000000, st [(.FAB_ERROR_INFO_VALID, 0, 1), (.FAB_ERROR_CODE, 0, 9)], by decide +kernel⟩,
  ⟨1, 6, st [], by decide +kernel⟩,
  ⟨.bound, { st [] with thimble := { romRecovery := true } }, by decide +kernel⟩,
  ⟨.host, st [(.PLAN_TICK_LO, 0, 5), (.PLAN_TICK_HI, 0, 2)], by decide +kernel⟩,
  ⟨.host, st [(.PLAN_TICK_LO, 0, 5), (.PLAN_TICK_HI, 0, 2)], by decide +kernel⟩,
  ⟨.host, 77, st [], by decide +kernel⟩,
  ⟨.host, 77, 3, st [], by decide +kernel⟩,
  ⟨.bound, 77, 3, { st [] with held := [(pairKey .bound 0x00400034, 78)] }, by decide +kernel⟩,
  ⟨.host, st [(.POOL_CE, 0, 4)], by decide +kernel⟩,
  ⟨.host, st [(.HANDLE_INDEX_AUTO, 0, 1), (.HANDLE_INDEX_INDEX, 0, 1023)], by decide +kernel⟩⟩

/-- The hypotheses of each clause of Obligations.PlanStartAndClear are met. -/
theorem witness_PlanStartAndClear :
    (∃ (party : Party) (p : Nat) (s : State), (s.ownsPlan party) ∧ (s.clearing p = false) ∧ (s.applying p = false) ∧ (s.pstate p = .loaded) ∧ ((∀ n ∈ s.exchangePorts p, s.portLive n))) ∧
    (∃ (p : Nat) (s : State), (s.pstate p = .armed) ∧ (s.timeReached (s.part p).startTime) ∧ ((∀ n ∈ s.exchangePorts p, s.portLive n))) ∧
    (∃ (p : Nat) (n : Nat) (s : State), (s.pstate p = .armed) ∧ (s.timeReached (s.part p).startTime) ∧ (n ∈ s.exchangePorts p) ∧ (s.portLive n = false) ∧ (s.fld .PLAN_ERROR_CODE p = 0)) ∧
    (∃ (p : Nat) (s : State), (s.clearing p = false) ∧ (s.applying p = false) ∧ ((s.pstate p = .stopped ∨ s.pstate p = .fault))) := ⟨
  ⟨.host, 0, st ((.PLAN_STATUS_STATE, 0, 1) :: runL), by decide +kernel⟩,
  ⟨0, pst { startTime := 0 } ((.PLAN_STATUS_STATE, 0, 2) :: runL), by decide +kernel⟩,
  ⟨0, 2, pst { startTime := 0 } [(.PLAN_STATUS_STATE, 0, 2), (.EXCHANGE_PORTS, 0, 4)], by decide +kernel⟩,
  ⟨0, withE (pst { holds := [held true], reported := [(0, 5)] } [(.PLAN_STATUS_STATE, 0, 5), (.PLAN_TICK_LO, 0, 9)]) [(.SYNC_GIVEN, 3, 2, 7)], by decide +kernel⟩⟩

/-- The hypotheses of each clause of Obligations.PlanCommands are met. -/
theorem witness_PlanCommands :
    (∃ (party : Party) (p : Nat) (s : State), (s.ownsPlan party) ∧ (s.clearing p = false) ∧ (s.applying p = false) ∧ (s.pstate p = .loaded) ∧ (s.twoMicrosAhead (s.fld64 .PLAN_START_TIME_LO .PLAN_START_TIME_HI p))) ∧
    (∃ (party : Party) (p : Nat) (s : State), (s.ownsPlan party) ∧ (s.clearing p = false) ∧ (s.applying p = false) ∧ (s.pstate p = .loaded) ∧ (s.twoMicrosAhead (s.fld64 .PLAN_START_TIME_LO .PLAN_START_TIME_HI p) = false) ∧ (s.fld .PLAN_ERROR_CODE p = 0)) ∧
    (∃ (p : Nat) (s : State), (s.clearing p = false) ∧ (s.applying p = false) ∧ (s.pstate p = .running)) ∧
    (∃ (p : Nat) (s : State), (s.clearing p = false) ∧ (s.applying p = false) ∧ (s.pstate p = .armed)) ∧
    (∃ (p : Nat) (s : State), (s.clearing p = false) ∧ (s.applying p = false) ∧ ((s.pstate p).active)) ∧
    (∃ (party : Party) (p : Nat) (s : State), (s.ownsPlan party) ∧ (s.clearing p = false) ∧ (s.applying p = false) ∧ (s.pstate p = .brk)) ∧
    (∃ (p : Nat) (s : State), (s.clearing p = false) ∧ (s.applying p = false) ∧ ((s.pstate p = .loaded ∨ s.pstate p = .armed))) ∧
    (∃ (p : Nat) (s : State), (s.clearing p = false) ∧ (s.applying p = false) ∧ (s.pstate p = .brk) ∧ ((s.part p).breakAt = s.raw + 1)) ∧
    (∃ (p : Nat) (s : State), (s.clearing p = false) ∧ (s.applying p = false) ∧ (s.pstate p ≠ .running) ∧ ((s.pstate p = .brk → (s.part p).breakAt ≠ s.raw + 1))) := ⟨
  ⟨.host, 0, st [(.PLAN_STATUS_STATE, 0, 1), (.PLAN_START_TIME_LO, 0, 999999)], by decide +kernel⟩,
  ⟨.host, 0, st [(.PLAN_STATUS_STATE, 0, 1)], by decide +kernel⟩,
  ⟨0, st [(.PLAN_STATUS_STATE, 0, 3)], by decide +kernel⟩,
  ⟨0, st [(.PLAN_STATUS_STATE, 0, 2)], by decide +kernel⟩,
  ⟨0, pst { holds := [held true] } ((.PLAN_STATUS_STATE, 0, 3) :: runL), by decide +kernel⟩,
  ⟨.host, 0, pst { prev := 3 } [(.PLAN_STATUS_STATE, 0, 7)], by decide +kernel⟩,
  ⟨0, st [(.PLAN_STATUS_STATE, 0, 1)], by decide +kernel⟩,
  ⟨0, { pst { prev := 3, breakAt := 6 } [(.PLAN_STATUS_STATE, 0, 7)] with raw := 5 }, by decide +kernel⟩,
  ⟨0, st [], by decide +kernel⟩⟩

/-- The hypotheses of each clause of Obligations.PlanSettings are met. -/
theorem witness_PlanSettings :
    (∃ (p : Nat) (v : Nat) (s : State), (s.settable p) ∧ (v ≤ 8)) ∧
    (∃ (p : Nat) (v : Nat) (s : State), ((s.settable p = false ∨ (9 ≤ v ∧ v ≤ 15)))) ∧
    (∃ (p : Nat) (v : Nat) (s : State), (s.settable p) ∧ (v < 2 ^ 24)) ∧
    (∃ (p : Nat) (v : Nat) (s : State), (s.settable p) ∧ (v < 2 ^ 64)) ∧
    (∃ (p : Nat) (v : Nat) (s : State), (s.settable p) ∧ (v < 2 ^ 64)) ∧
    (∃ (p : Nat) (s : State), (s.settable p)) ∧
    (∃ (p : Nat) (which : PlanSetting) (s : State), (s.settable p = false) ∧ (which ≠ .stopAtTick)) ∧
    (∃ (p : Nat) (s : State), ((s.pstate p).active) ∧ ((s.part p).completed ≤ s.planTick p) ∧ (s.tickReady p (s.planTick p)) ∧ (s.pstate p ≠ .stopping) ∧ (s.fld .PLAN_CTRL_STOP_AT_TICK p = 0)) ∧
    (∃ (p : Nat) (s : State), (s.pstate p = .stopping) ∧ ((s.part p).completed ≤ s.planTick p) ∧ (s.tickReady p (s.planTick p))) ∧
    (∃ (p : Nat) (s : State), (s.grantable p) ∧ (s.planTick p + 1 < 2 ^ 64)) := ⟨
  ⟨0, 8, st [], by decide +kernel⟩,
  ⟨0, 9, st [], by decide +kernel⟩,
  ⟨0, 50, st [], by decide +kernel⟩,
  ⟨0, 0x500000003, st [], by decide +kernel⟩,
  ⟨0, 0x500000003, st [], by decide +kernel⟩,
  ⟨0, st [], by decide +kernel⟩,
  ⟨0, .holdTimeout, st [(.PLAN_STATUS_STATE, 0, 3)], by decide +kernel⟩,
  ⟨0, pst {} ((.PLAN_STATUS_STATE, 0, 3) :: runL), by decide +kernel⟩,
  ⟨0, pst { holds := [held true] } ((.PLAN_STATUS_STATE, 0, 4) :: runL), by decide +kernel⟩,
  ⟨0, pst { completed := 1, noProg := 5 } [(.PLAN_STATUS_STATE, 0, 3)], by decide +kernel⟩⟩

/-- The hypotheses of each clause of Obligations.PlanFlits are met. -/
theorem witness_PlanFlits :
    (∃ (port : Nat) (j : Nat) (p : Nat) (f : CtlFlit) (s : State), (s.jobSlot f.tag = some j) ∧ ((s.slotPorts j).testBit port) ∧ (s.fld .SLOT_CFG_KIND j = 0) ∧ (s.fld .SLOT_CFG_PARTITION j = p) ∧ ((s.fld .EXCHANGE_PORTS p).testBit port) ∧ (f.hem = s.fld .HEM_DEPTH p) ∧ ((s.pstate p).active = false)) ∧
    (∃ (port : Nat) (j : Nat) (p : Nat) (f : CtlFlit) (s : State), (s.jobSlot f.tag = some j) ∧ ((s.slotPorts j).testBit port) ∧ (s.fld .SLOT_CFG_KIND j = 0) ∧ (s.fld .SLOT_CFG_PARTITION j = p) ∧ ((s.fld .EXCHANGE_PORTS p).testBit port) ∧ (f.hem ≠ s.fld .HEM_DEPTH p) ∧ ((s.pstate p).active) ∧ (s.fld .PLAN_ERROR_CODE p = 0)) ∧
    (∃ (port : Nat) (j : Nat) (p : Nat) (f : CtlFlit) (s : State), (s.jobSlot f.tag = some j) ∧ ((s.slotPorts j).testBit port) ∧ (s.fld .SLOT_CFG_KIND j = 0) ∧ (s.fld .SLOT_CFG_PARTITION j = p) ∧ (f.origin ≠ s.fld .SLOT_RANK j) ∧ ((∀ e ∈ (s.part p).holds, e.hasKey f = false)) ∧ ((s.part p).holds.length < 32)) ∧
    (∃ (port : Nat) (j : Nat) (p : Nat) (f : CtlFlit) (s : State), (s.jobSlot f.tag = some j) ∧ ((s.slotPorts j).testBit port) ∧ (s.fld .SLOT_CFG_KIND j = 0) ∧ (s.fld .SLOT_CFG_PARTITION j = p) ∧ ((∃ e ∈ (s.part p).holds, e.hasKey f)) ∧ ((∀ e ∈ (s.part p).holds, e.hasKey f → e.live))) ∧
    (∃ (port : Nat) (j : Nat) (p : Nat) (f : CtlFlit) (s : State), (s.jobSlot f.tag = some j) ∧ ((s.slotPorts j).testBit port) ∧ (s.fld .SLOT_CFG_KIND j = 0) ∧ (s.fld .SLOT_CFG_PARTITION j = p) ∧ ((s.pstate p = .running ∨ s.pstate p = .loaded ∨ s.pstate p = .stopped)) ∧ (s.fld .PLAN_ERROR_CODE p = 0)) ∧
    (∃ (port : Nat) (j : Nat) (f : CtlFlit) (s : State), (s.jobSlot f.tag = some j) ∧ ((s.slotPorts j).testBit port) ∧ (s.fld .SLOT_CFG_KIND j = 1) ∧ (f.hops < s.hopLimit)) := ⟨
  ⟨0, 0, 0, { flit .report with hem := 2 }, st ((.PLAN_STATUS_STATE, 0, 1) :: runL), by decide +kernel⟩,
  ⟨0, 0, 0, { flit .report with hem := 3 }, pst { holds := [held true] } ((.PLAN_STATUS_STATE, 0, 3) :: runL), by decide +kernel⟩,
  ⟨0, 0, 0, flit .hold, st ((.PLAN_STATUS_STATE, 0, 3) :: runL), by decide +kernel⟩,
  ⟨0, 0, 0, flit .release, pst { holds := [held true] } ((.PLAN_STATUS_STATE, 0, 3) :: runL), by decide +kernel⟩,
  ⟨0, 0, 0, flit .faultStop, pst { holds := [held true] } ((.PLAN_STATUS_STATE, 0, 3) :: runL), by decide +kernel⟩,
  ⟨0, 0, flit .hold, st transitL, by decide +kernel⟩⟩

/-- The hypotheses of each clause of Obligations.TimeoutAndTokens are met. -/
theorem witness_TimeoutAndTokens :
    (∃ (p : Nat) (s : State), (s.timerRuns p) ∧ (s.timedOut p) ∧ (s.fld .PLAN_ERROR_CODE p = 0)) ∧
    (∃ (p : Nat) (s : State), ((s.timerRuns p = false ∨ s.timedOut p = false))) ∧
    (∃ (g : Nat) (h : Nat) (rivals : List Nat) (o : MacroOp) (s : State), ((s.core g).wantsToken = some o) ∧ (h ∈ rivals) ∧ (s.rivalToken g (s.dieQuota (g / 96)) (arg o .token) h)) ∧
    (∃ (g : Nat) (rivals : List Nat) (o : MacroOp) (s : State), ((∀ h ∈ rivals, s.rivalToken g (s.dieQuota (g / 96)) (arg o .token) h = false)) ∧ ((s.core g).wantsToken = some o) ∧ (arg o .token < 96) ∧ ((bankGet [] s.tokens (g / 96)).length < s.dieQuota (g / 96)) ∧ ((∀ e ∈ bankGet [] s.tokens (g / 96), e.1 ≠ arg o .token % s.dieQuota (g / 96)))) := ⟨
  ⟨0, pst { noProg := 64000000000 } [(.PLAN_STATUS_STATE, 0, 3)], by decide +kernel⟩,
  ⟨0, st [], by decide +kernel⟩,
  ⟨0, 1, [1], { fam := .matmul, args := [(.token, 15)] }, { st [(.POWER_TOKENS, 0, 640)] with cores := [(0, { queue := [{ fam := .matmul, args := [(.token, 15)] }] }), (1, { queue := [{ fam := .matmul, args := [(.token, 5)] }] })] }, by decide +kernel⟩,
  ⟨0, [1], { fam := .matmul, args := [(.token, 5)] }, cst { queue := [{ fam := .matmul, args := [(.token, 5)] }] } [(.POWER_TOKENS, 0, 640)], by decide +kernel⟩⟩

/-- The hypotheses of each clause of Obligations.ArmatureLoading are met. -/
theorem witness_ArmatureLoading :
    (∃ (s : State), ((s.fld .ARM_STATUS_STATE = armEmpty ∨ s.fld .ARM_STATUS_STATE = armStaged))) ∧
    (∃ (img : ArmImage) (s : State), (s.fld .ARM_STATUS_STATE = armVerifying) ∧ (s.armCheck img = 0) ∧ (img.scope < 2 ^ 16)) ∧
    (∃ (img : ArmImage) (s : State), (s.fld .ARM_STATUS_STATE = armVerifying) ∧ (s.armCheck img ≠ 0) ∧ (s.fld .ARM_ERROR_VALID = 0)) ∧
    (∃ (s : State), (s.fld .ARM_STATUS_STATE = armStaged)) ∧
    (∃ (s : State), ((s.fld .ARM_STATUS_STATE = armVerifying ∨ s.fld .ARM_STATUS_STATE = armApplying)) ∧ (s.fld .ARM_ERROR_VALID = 0)) ∧
    (∃ (img : ArmImage) (s : State), (s.fld .ARM_STATUS_STATE = armStaged) ∧ (s.loader.staged = some img) ∧ ((∀ p < 16, img.scope.testBit p → s.pstate p = .idle)) ∧ (s.scopeOk img)) ∧
    (∃ (img : ArmImage) (p : Nat) (s : State), (s.fld .ARM_STATUS_STATE = armStaged) ∧ (s.loader.staged = some img) ∧ (p < 16) ∧ (img.scope.testBit p) ∧ (s.pstate p ≠ .idle) ∧ (s.fld .ARM_ERROR_VALID = 0)) ∧
    (∃ (img : ArmImage) (s : State), (s.fld .ARM_STATUS_STATE = armApplying) ∧ (s.loader.staged = some img) ∧ (s.loader.phase = 0)) ∧
    (∃ (img : ArmImage) (s : State), (s.fld .ARM_STATUS_STATE = armApplying) ∧ (s.loader.staged = some img) ∧ (s.loader.phase = 0) ∧ (s.fld .ARM_ERROR_VALID = 0)) ∧
    (∃ (img : ArmImage) (s : State), (s.fld .ARM_STATUS_STATE = armApplying) ∧ (s.loader.staged = some img) ∧ (s.loader.phase = 1)) ∧
    (∃ (img : ArmImage) (s : State), (s.fld .ARM_STATUS_STATE = armApplying) ∧ (s.loader.staged = some img) ∧ (s.loader.phase = 1) ∧ (s.fld .ARM_ERROR_VALID = 0)) ∧
    (∃ (img : ArmImage) (s : State), (s.fld .ARM_STATUS_STATE = armApplying) ∧ (s.loader.staged = some img) ∧ (s.loader.phase = 2)) ∧
    (∃ (img : ArmImage) (s : State), (s.fld .ARM_STATUS_STATE = armApplying) ∧ (s.loader.staged = some img) ∧ (s.loader.phase = 3) ∧ (img.version < 2 ^ 32) ∧ ((∀ q < 16, (s.newQuad img.recs q).1 < 16))) := ⟨
  ⟨st [], by decide +kernel⟩,
  ⟨armImg, { st [(.ARM_STATUS_STATE, 0, 1), (.DEVICE_ID_GRADE, 0, 1), (.ARM_ACTIVE_VERSION, 0, 0), (.SEC_STATUS_OPERATOR, 0, 1), (.SEC_OPERATOR_ID_LO, 0, 4)] with loader := { size := 288 } }, by decide +kernel⟩,
  ⟨{ armImg with header := armHead 9 1 }, st [(.ARM_STATUS_STATE, 0, 1)], by decide +kernel⟩,
  ⟨armSt 2 0, by decide +kernel⟩,
  ⟨armSt 1 0, by decide +kernel⟩,
  ⟨armImg, armSt 2 0, by decide +kernel⟩,
  ⟨armImg, 0, { armSt 2 0 with regs := [(Fld.key .ARM_STATUS_STATE 0 0, 2), (Fld.key .PLAN_STATUS_STATE 0 0, 3)] }, by decide +kernel⟩,
  ⟨armImg, { armSt 3 0 with mem := { spad := [(5, 9#8)] } }, by decide +kernel⟩,
  ⟨armImg, armSt 3 0, by decide +kernel⟩,
  ⟨armImg, armSt 3 1, by decide +kernel⟩,
  ⟨armImg, armSt 3 1, by decide +kernel⟩,
  ⟨armImg, armSt 3 2, by decide +kernel⟩,
  ⟨armImg, armSt 3 3, by decide +kernel⟩⟩

end PlanW

/-! ### Witnesses: CoreW -/
namespace CoreW

/-- Core 0 of a running partition 0, its die awake. -/
def run (c : Core) (l : List (Fld × Nat × Nat) := []) : State := { st ([(.PLAN_STATUS_STATE, 0, 3), (.ARM_PART_LIMITS_HANDLES, 0, 64), (.ARM_PART_LIMITS_WINDOWS, 0, 8)] ++ l) with cores := [(0, c)], domains := [(0, { st := .on })] }
/-- A valid handle entry with every permission. -/
def hEnt (base size mask : Nat) : Nat := base + size * 2 ^ 10 + mask * 2 ^ 32 + 31 * 2 ^ 48
def hs : List (Nat × Nat) := [(0, hEnt 0 64 1), (1, hEnt 64 64 1), (2, hEnt 128 64 1), (3, hEnt 192 64 1), (4, hEnt 256 64 3)]
/-- Core 0 about to execute one instruction. -/
def cpu (i : CpInstr) (l : List (Fld × Nat × Nat) := []) : State := run { prog := [i, .fin], handles := hs } l
/-- Core 0 with one started macro-operation. -/
def unit (o : MacroOp) (l : List (Fld × Nat × Nat) := []) : State := { run { started := [{ op := o }], handles := hs, windows := [(0, 2 ^ 63 + 2 ^ 62 + 2 ^ 61 + 2 ^ 48)], decls := [(5, 9)] } l with mem := { State.reset.mem with spad := [(0, 3), (1, 253), (2048, 7), (2049, 128)] }, srvs := [(0, { banks := [(0, [(1, 44)])] })] }
def mm : MacroOp := { fam := .matmul, args := [(.hA, 0), (.hB, 1), (.m, 2), (.n, 3), (.k, 4), (.fmtA, 3), (.fmtB, 3)] }
def at_ : MacroOp := { fam := .attn, args := [(.hQ, 0), (.hK, 1), (.hV, 2), (.hState, 3), (.hOut, 4), (.rows, 1), (.headDim, 32), (.blockLen, 1), (.fmt1, 3), (.fmt2, 3), (.fmt3, 3), (.first, 1), (.final, 1), (.fmtOut, 12)] }
def ve : MacroOp := { fam := .vec, args := [(.vop, 0), (.len, 5), (.src1, 0), (.src2, 1), (.dst, 4), (.fmt1, 3), (.fmt2, 3), (.fmtOut, 3)] }
def re : MacroOp := { fam := .reduce, args := [(.rop, 0), (.rows, 1), (.cols, 5), (.src1, 0), (.dst, 4), (.fmt1, 3), (.fmtOut, 12)] }
def fi : MacroOp := { fam := .fill, args := [(.dstHandle, 4), (.dstOff, 32), (.size, 64), (.pattern, 0x04030201)] }
def co : MacroOp := { fam := .copy, args := [(.srcHandle, 0), (.dstHandle, 4), (.dstOff, 32), (.size, 64)] }
def mv (sk dk : Nat) : MacroOp := { fam := .move, args := [(.srcKind, sk), (.dstKind, dk), (.srcHandle, 0), (.dstHandle, 4), (.size, 2048)] }
def sy (f : Family) (n w : Nat) : MacroOp := { fam := f, args := [(.counter, 5), (.amount, n), (.waitFlag, w)] }
def ba : MacroOp := { fam := .barrier, args := [(.index, 3), (.waitFlag, 1)] }
def sam (rows : Nat) : MacroOp := { fam := .sample, args := [(.rows, rows), (.vocab, 8), (.src1, 0), (.fmt1, 12), (.result, 4), (.counter, 5)] }
def dead : MacroOp := { fam := .copy, args := [(.srcHandle, 0), (.dstHandle, 4), (.size, 32)] }
def runSlotL : List (Fld × Nat × Nat) := [(.SLOT_STATUS_STATE, 0, 2), (.SLOT_CFG_JOB_TAG, 0, 7), (.PLAN_STATUS_STATE, 0, 3), (.BAR_RANKS_RANK_HI, 3, 3)]
def barPkt (round : Nat) : Pkt := { op := .barArrive, tag := 7, barrier := 3, srcRank := 2, round := round }
def sjob : SideJob := { by_ := .thimble, core := 0, entry := hEnt 0 64 1, off := 0, rows := 2, cols := 4, stride := 8, esize := 1, transpose := false, dst := 64 }

/-- The hypotheses of each clause of Obligations.CpInstructions are met. -/
theorem witness_CpInstructions :
    (∃ (g : Nat) (rd : Nat) (ra : Nat) (v : Nat) (op : ScalarOp) (b : ScalarSrc) (s : State), (s.cpReady g) ∧ (s.pc g < 16383) ∧ (s.instr g = .scalar op rd ra b) ∧ (rd < 32) ∧ (scalarResult op (s.sreg g ra) (s.scalarSrc g b) = some v)) ∧
    (∃ (g : Nat) (rd : Nat) (ra : Nat) (rb : Nat) (s : State), (s.cpReady g) ∧ (s.pc g < 16383) ∧ (s.instr g = .scalar .add rd ra (.reg rb)) ∧ (0 < rd) ∧ (rd < 32)) ∧
    (∃ (g : Nat) (rd : Nat) (ra : Nat) (v : Nat) (op : ScalarOp) (s : State), (s.cpReady g) ∧ (s.pc g < 16383) ∧ (s.instr g = .scalar op rd ra (.imm v)) ∧ (0 < rd) ∧ (rd < 32) ∧ ((op = .shl ∨ op = .shr ∨ op = .sar)) ∧ (64 ≤ v) ∧ (v < 2 ^ 32)) ∧
    (∃ (g : Nat) (rd : Nat) (n : Nat) (s : State), (s.cpReady g) ∧ (s.pc g < 16383) ∧ (s.instr g = .readPrm rd n) ∧ (rd < 32)) ∧
    (∃ (g : Nat) (rd : Nat) (n : Nat) (v : Nat) (s : State), (s.cpReady g) ∧ (s.pc g < 16383) ∧ (s.instr g = .readSlot rd n) ∧ (rd < 32) ∧ (s.readSlotReg g n = .value v)) ∧
    (∃ (g : Nat) (rd : Nat) (n : Nat) (s : State), (s.cpReady g) ∧ (s.instr g = .readSlot rd n) ∧ (s.coreRole g = 0) ∧ (s.fld .CORE_ERROR_CODE g = 0)) ∧
    (∃ (g : Nat) (v : Nat) (s : State), (s.cpReady g) ∧ (s.pc g = 16383) ∧ (s.instr g = .mark v)) ∧
    (∃ (g : Nat) (s : State), (s.cpReady g) ∧ (s.instr g = .undecodable) ∧ (s.fld .CORE_ERROR_CODE g = 0)) ∧
    (∃ (g : Nat) (rd : Nat) (h : Nat) (src : ScalarSrc) (s : State), (s.cpReady g) ∧ (s.pc g < 16383) ∧ (s.instr g = .fetch rd h src) ∧ (rd < 32) ∧ (s.handleCode g h .lr (s.scalarSrc g src) 8 8 = 0) ∧ ((∀ o ∈ (s.core g).started.map Running.op ++ (s.core g).queue, overlap (hSpans (s.handle g h) (s.scalarSrc g src) 8) (s.spansOf g (opWrites o)) = false)) ∧ ((∀ w ∈ hWords (s.handle g h) (s.scalarSrc g src) 8, s.badBytes g w = 0))) ∧
    (∃ (g : Nat) (rd : Nat) (h : Nat) (src : ScalarSrc) (s : State), (s.cpReady g) ∧ (s.instr g = .fetch rd h src) ∧ (s.handleCode g h .lr (s.scalarSrc g src) 8 8 ≠ 0) ∧ (s.fld .CORE_ERROR_CODE g = 0)) := ⟨
  ⟨0, 4, 5, 3, .add, .imm 3, cpu (.scalar .add 4 5 (.imm 3)), by decide +kernel⟩,
  ⟨0, 4, 4, 6, withE (cpu (.scalar .add 4 4 (.reg 6))) [(.SCALAR_HI, 0, 4, 0xFFFFFFFF), (.SCALAR_HI, 0, 6, 1)], by decide +kernel⟩,
  ⟨0, 4, 5, 64, .sar, cpu (.scalar .sar 4 5 (.imm 64)), by decide +kernel⟩,
  ⟨0, 31, 63, withE (cpu (.readPrm 31 63)) [(.PRM, 0, 63, 99)], by decide +kernel⟩,
  ⟨0, 4, 1, 44, { cpu (.readSlot 4 1) [(.ARM_QUAD_ROLE, 0, 1)] with srvs := [(0, { banks := [(0, [(1, 44)])] })] }, by decide +kernel⟩,
  ⟨0, 4, 1, cpu (.readSlot 4 1), by decide +kernel⟩,
  ⟨0, 9, { run { prog := List.replicate 16383 .tick ++ [.mark 9] } with regs := [(Fld.key .PLAN_STATUS_STATE 0 0, 3), (Fld.key .CP_PC 0 0, 16383)] }, by decide +kernel⟩,
  ⟨0, run { ranOut := true }, by decide +kernel⟩,
  ⟨0, 4, 0, .imm 2040, cpu (.fetch 4 0 (.imm 2040)), by decide +kernel⟩,
  ⟨0, 4, 0, .imm 2044, cpu (.fetch 4 0 (.imm 2044)), by decide +kernel⟩⟩

/-- The hypotheses of each clause of Obligations.CpFlow are met. -/
theorem witness_CpFlow :
    (∃ (g : Nat) (rs : Nat) (n : Nat) (c : SkipCond) (s : State), (s.cpReady g) ∧ (s.instr g = .skip c rs n) ∧ (s.pc g + 1 + n < 16384) ∧ ((skipHolds c (s.sreg g rs) = false ∨ skipBeyond (s.core g) (s.pc g) (s.pc g + 1 + n) = false))) ∧
    (∃ (g : Nat) (rs : Nat) (n : Nat) (c : SkipCond) (s : State), (s.cpReady g) ∧ (s.instr g = .skip c rs n) ∧ (skipHolds c (s.sreg g rs)) ∧ (skipBeyond (s.core g) (s.pc g) (s.pc g + 1 + n)) ∧ (s.fld .CORE_ERROR_CODE g = 0)) ∧
    (∃ (g : Nat) (last : Nat) (v : Nat) (count : Operand) (s : State), (s.cpReady g) ∧ (s.instr g = .loop count) ∧ (matchEnd ((s.core g).prog.drop (s.pc g + 1)) (s.pc g + 1) 0 = some last) ∧ (last < 16383) ∧ ((s.core g).loops.length < 4) ∧ ((isImm count ∨ (((s.core g).prog.drop (s.pc g + 1)).take (last - s.pc g)).any isTick = false)) ∧ (s.operand g count = .value v)) ∧
    (∃ (g : Nat) (l : LoopLevel) (rest : List LoopLevel) (s : State), (s.cpReady g) ∧ (s.instr g = .endloop) ∧ ((s.core g).loops = l :: rest) ∧ (s.pc g < 16383) ∧ (l.body < 16384)) ∧
    (∃ (g : Nat) (last : Nat) (count : Operand) (s : State), (s.cpReady g) ∧ (s.instr g = .loop count) ∧ (matchEnd ((s.core g).prog.drop (s.pc g + 1)) (s.pc g + 1) 0 = some last) ∧ (4 ≤ (s.core g).loops.length) ∧ (s.fld .CORE_ERROR_CODE g = 0)) ∧
    (∃ (g : Nat) (last : Nat) (count : Operand) (s : State), (s.cpReady g) ∧ (s.instr g = .loop count) ∧ (matchEnd ((s.core g).prog.drop (s.pc g + 1)) (s.pc g + 1) 0 = some last) ∧ ((s.core g).loops.length < 4) ∧ (isImm count = false) ∧ ((((s.core g).prog.drop (s.pc g + 1)).take (last - s.pc g)).any isTick) ∧ (s.fld .CORE_ERROR_CODE g = 0)) ∧
    (∃ (g : Nat) (s : State), (s.cpReady g) ∧ (s.pc g < 16383) ∧ (s.instr g = .tick)) ∧
    (∃ (g : Nat) (v : Nat) (s : State), (s.cpReady g) ∧ (s.pc g < 16383) ∧ (s.instr g = .mark v)) ∧
    (∃ (g : Nat) (s : State), (s.cpReady g) ∧ (s.instr g = .fin)) := ⟨
  ⟨0, 4, 1, .nonZero, cpu (.skip .nonZero 4 1), by decide +kernel⟩,
  ⟨0, 4, 1, .zero, cpu (.skip .zero 4 1), by decide +kernel⟩,
  ⟨0, 1, 3, .imm 3, run { prog := [.loop (.imm 3), .endloop, .fin] }, by decide +kernel⟩,
  ⟨0, { left := 2, body := 0, last := 0 }, [], run { prog := [.endloop, .fin], loops := [{ left := 2, body := 0, last := 0 }] }, by decide +kernel⟩,
  ⟨0, 1, .imm 3, run { prog := [.loop (.imm 3), .endloop, .fin], loops := List.replicate 4 { left := 2, body := 0, last := 0 } }, by decide +kernel⟩,
  ⟨0, 2, .prm 3, run { prog := [.loop (.prm 3), .tick, .endloop, .fin] }, by decide +kernel⟩,
  ⟨0, cpu .tick, by decide +kernel⟩,
  ⟨0, 9, cpu (.mark 9), by decide +kernel⟩,
  ⟨0, cpu .fin, by decide +kernel⟩⟩

/-- The hypotheses of each clause of Obligations.MacroFlow are met. -/
theorem witness_MacroFlow :
    (∃ (g : Nat) (m : MacroT) (s : State), ((s.pstate (s.corePart g) = .running ∨ s.pstate (s.corePart g) = .stopping)) ∧ (s.cpReady g) ∧ (s.pc g < 16383) ∧ (s.instr g = .issue m) ∧ (m.fam ≠ .illegal) ∧ ((s.core g).issueBlocked = false) ∧ ((s.core g).queue.length < 8) ∧ ((s.resolve g m.args).1 = .value 0) ∧ (s.breakMask g m.tag = 0)) ∧
    (∃ (g : Nat) (m : MacroT) (s : State), ((s.pstate (s.corePart g) = .running ∨ s.pstate (s.corePart g) = .stopping)) ∧ (s.cpReady g) ∧ (s.instr g = .issue m) ∧ (m.fam ≠ .illegal) ∧ ((s.core g).issueBlocked = false) ∧ ((s.core g).queue.length < 8) ∧ ((s.resolve g m.args).1 = .value 0) ∧ (s.breakMask g m.tag ≠ 0) ∧ ((s.core g).resume = false)) ∧
    (∃ (g : Nat) (m : MacroT) (s : State), (s.pstate (s.corePart g) = .brk) ∧ ((s.part (s.corePart g)).breakAt = s.raw + 1) ∧ (s.cpReady g) ∧ (s.instr g = .issue m) ∧ (m.fam ≠ .illegal) ∧ ((s.core g).issueBlocked = false) ∧ ((s.core g).queue.length < 8) ∧ ((s.resolve g m.args).1 = .value 0) ∧ (s.breakMask g m.tag ≠ 0) ∧ ((s.core g).resume = false)) ∧
    (∃ (g : Nat) (id : Nat) (o : MacroOp) (s : State), ((s.core g).queue.find? (fun x => x.id = id) = some o) ∧ (s.awake (g / 96)) ∧ (s.stepping (g / 96) = false) ∧ ((s.pstate (s.corePart g)).active) ∧ ((s.core g).cp ≠ .error) ∧ ((s.core g).unitFree o) ∧ ((s.core g).tokenReady o) ∧ (s.boardFree g o) ∧ ((waitsForAll o.fam = false ∨ (s.core g).earlier id = []))) ∧
    (∃ (g : Nat) (id : Nat) (r : Running) (s : State), ((s.core g).started.find? (fun x => x.op.id = id && x.done && s.leftSource g x) = some r) ∧ (r.err = 0) ∧ (s.trapCode g r.flags = 0)) ∧
    (∃ (g : Nat) (id : Nat) (r : Running) (s : State), ((s.core g).started.find? (fun x => x.op.id = id && x.done && s.leftSource g x) = some r) ∧ (r.err ≠ 0) ∧ (r.err < 2 ^ 16) ∧ (s.fld .CORE_ERROR_CODE g = 0)) ∧
    (∃ (g : Nat) (id : Nat) (s : State), ((∀ r ∈ (s.core g).started, r.op.id = id → s.leftSource g r = false))) := ⟨
  ⟨0, { fam := .fill, tag := 9, args := [(.size, .imm 32)] }, cpu (.issue { fam := .fill, tag := 9, args := [(.size, .imm 32)] }), by decide +kernel⟩,
  ⟨0, { fam := .fill, tag := 9 }, cpu (.issue { fam := .fill, tag := 9 }) [(.BRK_CTRL_TAG_EN, 0, 1), (.BRK_TAG_VALUE, 0, 9), (.BRK_TAG_MASK, 0, 0xFFFF)], by decide +kernel⟩,
  ⟨0, { fam := .fill, tag := 9 }, { cpu (.issue { fam := .fill, tag := 9 }) [(.BRK_CTRL_TAG_EN, 0, 1), (.BRK_TAG_VALUE, 0, 9), (.BRK_TAG_MASK, 0, 0xFFFF)] with regs := [(Fld.key .PLAN_STATUS_STATE 0 0, 7), (Fld.key .BRK_CTRL_TAG_EN 0 0, 1), (Fld.key .BRK_TAG_VALUE 0 0, 9), (Fld.key .BRK_TAG_MASK 0 0, 0xFFFF)], parts := [(0, { prev := 3, breakAt := 6 })], raw := 5 }, by decide +kernel⟩,
  ⟨0, 0, fi, run { queue := [fi], handles := hs }, by decide +kernel⟩,
  ⟨0, 0, { op := mm, done := true }, run { started := [{ op := mm, done := true }] }, by decide +kernel⟩,
  ⟨0, 0, { op := mm, done := true, err := E_CORE_SHAPE }, run { started := [{ op := mm, done := true, err := E_CORE_SHAPE }] }, by decide +kernel⟩,
  ⟨0, 0, run { started := [{ op := mv 2 0, done := true, xfer := some 3 }], xfers := [{ id := 3, left := 1, args := [] }] }, by decide +kernel⟩⟩

/-- The hypotheses of each clause of Obligations.UnitOutcomes are met. -/
theorem witness_UnitOutcomes :
    (∃ (g : Nat) (id : Nat) (o : MacroOp) (fa : Fmt) (fb : Fmt) (s : State), (s.toRun g id .matmul = some o) ∧ (arg o .token < 96) ∧ (matmulCode o = 0) ∧ (s.accessCode g o = 0) ∧ (cleanOp s g o) ∧ (fmtArg o .fmtA = some fa) ∧ (fmtArg o .fmtB = some fb) ∧ ((arg o .cont ≠ 1 ∨ ∃ r, (s.core g).acc.regions.find? (fun r => r.base = arg o .accBase && r.m = arg o .m && r.n = arg o .n && r.cls = (pairClass fa fb).getD 1) = some r ∧ r.kcount + arg o .k ≤ 1048576 ∧ (r.cls = 1 → ∀ i < arg o .m, ∀ j < arg o .n, (bankGet {} (s.core g).acc.entries (arg o .accBase + (i * arg o .n + j))).b = regionBase (refOf (s.scaleRows g (arg o .hSA) fa (arg o .m) (arg o .k)) i) (refOf (s.scaleRows g (arg o .hSB) fb (arg o .n) (arg o .k)) j))))) ∧
    (∃ (g : Nat) (id : Nat) (o : MacroOp) (s : State), (s.toRun g id .attn = some o) ∧ (arg o .token < 96) ∧ (attnCode o = 0) ∧ (s.accessCode g o = 0) ∧ (cleanOp s g o)) ∧
    (∃ (g : Nat) (id : Nat) (o : MacroOp) (s : State), (s.toRun g id .vec = some o) ∧ (vecCode o = 0) ∧ (s.accessCode g o = 0) ∧ (cleanOp s g o)) ∧
    (∃ (g : Nat) (id : Nat) (o : MacroOp) (s : State), (s.toRun g id .reduce = some o) ∧ (reduceCode o = 0) ∧ (s.accessCode g o = 0) ∧ (cleanOp s g o)) ∧
    (∃ (g : Nat) (id : Nat) (o : MacroOp) (s : State), (s.toRun g id .fill = some o) ∧ (s.accessCode g o = 0) ∧ (cleanOp s g o)) ∧
    (∃ (g : Nat) (id : Nat) (o : MacroOp) (s : State), (s.toRun g id .copy = some o) ∧ (s.accessCode g o = 0) ∧ (cleanOp s g o)) ∧
    (∃ (g : Nat) (id : Nat) (o : MacroOp) (s : State), (s.toRun g id .move = some o) ∧ (arg o .srcKind = 0) ∧ (arg o .dstKind = 0) ∧ (arg o .sigAmount % 2 ^ 16 = 0) ∧ (s.accessCode g o = 0) ∧ (cleanOp s g o)) ∧
    (∃ (g : Nat) (id : Nat) (o : MacroOp) (s : State), (s.toRun g id .matmul = some o) ∧ (arg o .token < 96) ∧ (matmulCode o ≠ 0)) ∧
    (∃ (g : Nat) (id : Nat) (o : MacroOp) (s : State), (s.toRun g id .matmul = some o) ∧ (96 ≤ arg o .token)) ∧
    (∃ (o : MacroOp), ((arg o .m = 0 ∨ 256 < arg o .m ∨ 256 < arg o .n ∨ 4096 < arg o .m * arg o .n ∨ 1048576 < arg o .k ∨ 4096 < arg o .accBase + arg o .m * arg o .n))) ∧
    (∃ (g : Nat) (id : Nat) (o : MacroOp) (s : State), (s.toRun g id .attn = some o) ∧ (arg o .token < 96) ∧ (attnCode o = 0) ∧ (s.accessCode g o ≠ 0)) ∧
    (∃ (g : Nat) (id : Nat) (o : MacroOp) (s : State), (s.toRun g id .vec = some o) ∧ (vecCode o ≠ 0)) ∧
    (∃ (g : Nat) (id : Nat) (w : Nat) (ws : List Nat) (o : MacroOp) (s : State), (s.toRun g id .copy = some o) ∧ (s.accessCode g o = 0) ∧ (s.wordsOf g (opReads o) = w :: ws) ∧ (3 ≤ s.badBytes g w)) := ⟨
  ⟨0, 0, mm, .int8, .int8, unit mm, by decide +kernel, by decide +kernel, by decide +kernel, by decide +kernel, by unfold cleanOp; decide +kernel, by decide +kernel⟩,
  ⟨0, 0, at_, unit at_, by decide +kernel, by decide +kernel, by decide +kernel, by decide +kernel, by unfold cleanOp; decide +kernel⟩,
  ⟨0, 0, ve, unit ve, by decide +kernel, by decide +kernel, by decide +kernel, by unfold cleanOp; decide +kernel⟩,
  ⟨0, 0, re, unit re, by decide +kernel, by decide +kernel, by decide +kernel, by unfold cleanOp; decide +kernel⟩,
  ⟨0, 0, fi, unit fi, by decide +kernel, by decide +kernel, by unfold cleanOp; decide +kernel⟩,
  ⟨0, 0, co, unit co, by decide +kernel, by decide +kernel, by unfold cleanOp; decide +kernel⟩,
  ⟨0, 0, mv 0 0, unit (mv 0 0), by decide +kernel, by decide +kernel, by decide +kernel, by decide +kernel, by decide +kernel, by unfold cleanOp; decide +kernel⟩,
  ⟨0, 0, { fam := .matmul, args := [] }, unit { fam := .matmul, args := [] }, by decide +kernel⟩,
  ⟨0, 0, { fam := .matmul, args := [(.token, 96)] }, unit { fam := .matmul, args := [(.token, 96)] }, by decide +kernel⟩,
  ⟨{ fam := .matmul, args := [(.m, 257)] }, by decide +kernel⟩,
  ⟨0, 0, { at_ with args := (.hState, 9) :: (.token, 95) :: at_.args }, unit { at_ with args := (.hState, 9) :: (.token, 95) :: at_.args }, by decide +kernel⟩,
  ⟨0, 0, { fam := .vec, args := [(.vop, 19), (.len, 1)] }, unit { fam := .vec, args := [(.vop, 19), (.len, 1)] }, by decide +kernel⟩,
  ⟨0, 0, 0, [], dead, run { started := [{ op := dead }], handles := hs, bad := [(0, 3)] }, by decide +kernel⟩⟩

/-- The hypotheses of each clause of Obligations.UnitResults are met. -/
theorem witness_UnitResults :
    (∃ (g : Nat) (id : Nat) (j : Nat) (o : MacroOp) (s : State), (s.toRun g id .fill = some o) ∧ (s.accessCode g o = 0) ∧ (cleanOp s g o) ∧ (hMask (s.handle g (arg o .dstHandle)) ≠ 0) ∧ (hBase (s.handle g (arg o .dstHandle)) + hRows (s.handle g (arg o .dstHandle)) ≤ 1024) ∧ (j < arg o .size)) ∧
    (∃ (g : Nat) (id : Nat) (j : Nat) (o : MacroOp) (s : State), (s.toRun g id .copy = some o) ∧ (s.accessCode g o = 0) ∧ (cleanOp s g o) ∧ (hMask (s.handle g (arg o .dstHandle)) ≠ 0) ∧ (hBase (s.handle g (arg o .dstHandle)) + hRows (s.handle g (arg o .dstHandle)) ≤ 1024) ∧ (j < arg o .size)) ∧
    (∃ (g : Nat) (id : Nat) (j : Nat) (o : MacroOp) (s : State), (s.toRun g id .vec = some o) ∧ (vecCode o = 0) ∧ (s.accessCode g o = 0) ∧ (cleanOp s g o) ∧ (arg o .vop = 0) ∧ (arg o .fmt1 = 3) ∧ (arg o .fmt2 = 3) ∧ (arg o .fmtOut = 3) ∧ (arg o .cols = 0) ∧ (arg o .bcast1 = 0) ∧ (arg o .bcast2 = 0) ∧ (arg o .accumulate = 0) ∧ (hMask (s.handle g (arg o .dst)) ≠ 0) ∧ (hBase (s.handle g (arg o .dst)) + hRows (s.handle g (arg o .dst)) ≤ 1024) ∧ (j < arg o .len)) ∧
    (∃ (g : Nat) (id : Nat) (i : Nat) (j : Nat) (o : MacroOp) (s : State), (s.toRun g id .matmul = some o) ∧ (arg o .token < 96) ∧ (matmulCode o = 0) ∧ (s.accessCode g o = 0) ∧ (cleanOp s g o) ∧ (arg o .fmtA = 3) ∧ (arg o .fmtB = 3) ∧ (arg o .transA = 0) ∧ (arg o .transB = 0) ∧ (arg o .cont = 0) ∧ (arg o .wb = 0) ∧ (i < arg o .m) ∧ (j < arg o .n)) ∧
    (∃ (a : List Val) (b : List Val) (c : List Val) (d : List Val), ((a.zip b).Perm (c.zip d))) := ⟨
  ⟨0, 0, 63, fi, unit fi, by decide +kernel, by decide +kernel, by unfold cleanOp; decide +kernel, by decide +kernel⟩,
  ⟨0, 0, 1, co, unit co, by decide +kernel, by decide +kernel, by unfold cleanOp; decide +kernel, by decide +kernel⟩,
  ⟨0, 0, 1, ve, unit ve, by decide +kernel, by decide +kernel, by decide +kernel, by unfold cleanOp; decide +kernel, by decide +kernel⟩,
  ⟨0, 0, 1, 2, mm, unit mm, by decide +kernel, by decide +kernel, by decide +kernel, by decide +kernel, by unfold cleanOp; decide +kernel, by decide +kernel⟩,
  ⟨[.fin false 1 0, .fin false 2 0], [.fin false 3 0, .fin false 4 0], [.fin false 2 0, .fin false 1 0], [.fin false 4 0, .fin false 3 0], by decide +kernel⟩⟩

/-- The hypotheses of each clause of Obligations.MoveSends are met. -/
theorem witness_MoveSends :
    (∃ (g : Nat) (id : Nat) (o : MacroOp) (s : State), (s.toRun g id .move = some o) ∧ (arg o .srcKind = 0) ∧ (1 ≤ arg o .dstKind) ∧ (arg o .dstKind ≤ 3) ∧ (s.accessCode g o = 0) ∧ (cleanOp s g o) ∧ (s.moveDstCode g o = 0) ∧ (let ks := s.writePkts g (s.core g).nextXfer o.tick o.args 0 (s.hRead g (arg o .srcHandle) (arg o .srcOff) (arg o .size)) true; (s.sendCode (s.corePart g) ks = 0) ∧ (ks.any (s.mustHold (s.corePart g)) = false))) ∧
    (∃ (g : Nat) (id : Nat) (o : MacroOp) (s : State), (s.toRun g id .move = some o) ∧ (1 ≤ arg o .srcKind) ∧ (arg o .srcKind ≤ 4) ∧ (arg o .dstKind ≤ 3) ∧ (s.accessCode g o = 0) ∧ (cleanOp s g o) ∧ (s.moveSrcCode g o = 0) ∧ (s.moveDstCode g o = 0) ∧ (s.sendCode (s.corePart g) (s.readPkts g (s.core g).nextXfer o) = 0) ∧ ((s.readPkts g (s.core g).nextXfer o).any (s.mustHold (s.corePart g)) = false)) ∧
    (∃ (g : Nat) (id : Nat) (o : MacroOp) (s : State), (s.toRun g id .move = some o) ∧ (arg o .srcKind = 0) ∧ (1 ≤ arg o .dstKind) ∧ (arg o .dstKind ≤ 3) ∧ (s.accessCode g o = 0) ∧ (cleanOp s g o) ∧ (s.moveDstCode g o = 0) ∧ (let ks := s.writePkts g (s.core g).nextXfer o.tick o.args 0 (s.hRead g (arg o .srcHandle) (arg o .srcOff) (arg o .size)) true; (s.sendCode (s.corePart g) ks = 0) ∧ (ks.any (s.mustHold (s.corePart g)) = false))) ∧
    (∃ (g : Nat) (id : Nat) (o : MacroOp) (f : Fmt) (s : State), (s.toRun g id .sample = some o) ∧ (s.sampleCode g o = 0) ∧ (s.accessCode g o = 0) ∧ (cleanOp s g o) ∧ (fmtArg o .fmt1 = some f) ∧ (s.sendCode (s.corePart g) (s.samplePkts g o f) = 0) ∧ ((s.samplePkts g o f).any (s.mustHold (s.corePart g)) = false)) ∧
    (∃ (g : Nat) (id : Nat) (o : MacroOp) (s : State), (s.toRun g id .sample = some o) ∧ ((s.sampleCode g o ≠ 0 ∨ s.accessCode g o ≠ 0))) ∧
    (∃ (k : Pkt) (p : Nat) (s : State), (s.offDevice p k = false)) := ⟨
  ⟨0, 0, mv 0 2, unit (mv 0 2) [(.ARM_PART_POOL_LO, 0, 1)], by unfold cleanOp; decide +kernel⟩,
  ⟨0, 0, mv 2 0, unit (mv 2 0) [(.ARM_PART_POOL_LO, 0, 1)], by decide +kernel, by decide +kernel, by decide +kernel, by decide +kernel, by decide +kernel, by unfold cleanOp; decide +kernel, by decide +kernel⟩,
  ⟨0, 0, mv 0 2, unit (mv 0 2) [(.ARM_PART_POOL_LO, 0, 1)], by unfold cleanOp; decide +kernel⟩,
  ⟨0, 0, sam 1, .fp32, unit (sam 1) [(.ARM_QUAD_ROLE, 0, 1)], by decide +kernel, by decide +kernel, by decide +kernel, by unfold cleanOp; decide +kernel, by decide +kernel⟩,
  ⟨0, 0, sam 17, unit (sam 17) [(.ARM_QUAD_ROLE, 0, 1)], by decide +kernel⟩,
  ⟨{ op := .memWrite }, 0, st [], by decide +kernel⟩⟩

/-- The hypotheses of each clause of Obligations.SyncOps are met. -/
theorem witness_SyncOps :
    (∃ (g : Nat) (id : Nat) (n : Nat) (tied : Bool) (o : MacroOp) (s : State), (s.toRun g id .give = some o) ∧ (arg o .amount = n) ∧ (0 < n) ∧ (n < 2 ^ 16) ∧ (arg o .remote = 0) ∧ (s.bound g (opCounter o) ≠ 0) ∧ ((s.inCycle tied).giveOverflows g (opCounter o) n = false)) ∧
    (∃ (g : Nat) (id : Nat) (n : Nat) (tied : Bool) (o : MacroOp) (s : State), (s.toRun g id .give = some o) ∧ (arg o .amount = n) ∧ (0 < n) ∧ (n < 2 ^ 16) ∧ (arg o .remote = 0) ∧ (s.bound g (opCounter o) ≠ 0) ∧ ((s.inCycle tied).giveOverflows g (opCounter o) n) ∧ (s.dropMarked (s.corePart g) (opCounter o) = false) ∧ (s.flag .SYNC_ERR_INFO_VALID g = false)) ∧
    (∃ (g : Nat) (id : Nat) (n : Nat) (o : MacroOp) (take : Bool) (tied : Bool) (s : State), (s.toRun g id (if take then .take else .wait) = some o) ∧ (arg o .amount = n) ∧ (0 < n) ∧ (n ≤ s.bound g (opCounter o)) ∧ (n ≤ (s.inCycle tied).takeable g (opCounter o))) ∧
    (∃ (g : Nat) (id : Nat) (n : Nat) (o : MacroOp) (take : Bool) (tied : Bool) (s : State), (s.toRun g id (if take then .take else .wait) = some o) ∧ (arg o .amount = n) ∧ (0 < n) ∧ (n ≤ s.bound g (opCounter o)) ∧ ((s.inCycle tied).takeable g (opCounter o) < n) ∧ ((take = false ∨ arg o .waitFlag = 1))) ∧
    (∃ (g : Nat) (id : Nat) (n : Nat) (tied : Bool) (o : MacroOp) (s : State), (s.toRun g id .take = some o) ∧ (arg o .amount = n) ∧ (0 < n) ∧ (n ≤ s.bound g (opCounter o)) ∧ ((s.inCycle tied).takeable g (opCounter o) < n) ∧ (arg o .waitFlag = 0)) ∧
    (∃ (g : Nat) (tied : Bool) (r : Running) (s : State), ((s.core g).started.find? (fun r => r.blocked && !r.done && (r.op.fam = .take || r.op.fam = .wait)) = some r) ∧ (arg r.op .amount ≤ (s.inCycle tied).takeable g (opCounter r.op))) := ⟨
  ⟨0, 0, 9, true, sy .give 9 0, unit (sy .give 9 0), by decide +kernel⟩,
  ⟨0, 0, 10, false, sy .give 10 0, unit (sy .give 10 0), by decide +kernel⟩,
  ⟨0, 0, 9, sy .take 9 0, true, false, withE (unit (sy .take 9 0)) [(.SYNC_GIVEN, 0, 5, 9)], by decide +kernel⟩,
  ⟨0, 0, 9, sy .wait 9 0, false, true, { withE (unit (sy .wait 9 0)) [(.SYNC_GIVEN, 0, 5, 9)] with gives := [(0, 5, 8, false)] }, by decide +kernel⟩,
  ⟨0, 0, 9, false, sy .take 9 0, withE (unit (sy .take 9 0)) [(.SYNC_GIVEN, 0, 5, 8)], by decide +kernel⟩,
  ⟨0, false, { op := sy .take 9 1, blocked := true }, withE (run { started := [{ op := sy .take 9 1, blocked := true }], decls := [(5, 9)] }) [(.SYNC_GIVEN, 0, 5, 9)], by decide +kernel⟩⟩

/-- The hypotheses of each clause of Obligations.Barriers are met. -/
theorem witness_Barriers :
    (∃ (g : Nat) (id : Nat) (i : Nat) (n : Nat) (o : MacroOp) (s : State), (s.toRun g id .barrier = some o) ∧ (arg o .index = i) ∧ (i < 32) ∧ (s.bit .BARRIER_MEMBER i g) ∧ (s.outbox = []) ∧ ((s.fld .BAR_ARRIVED g i + 1) % 2 ^ 32 = n) ∧ ((s.fld .BAR_ROUND (s.corePart g * 32 + i) + 1) % 2 ^ 32 = n) ∧ ((s.fld .BAR_LOCAL_CUR (s.corePart g * 32 + i) + 1) % 2 ^ 13 ≠ s.localCount (s.corePart g) i) ∧ (s.barFull (s.corePart g) i = false)) ∧
    (∃ (g : Nat) (id : Nat) (i : Nat) (n : Nat) (o : MacroOp) (s : State), (s.toRun g id .barrier = some o) ∧ (arg o .index = i) ∧ (i < 32) ∧ (s.bit .BARRIER_MEMBER i g) ∧ (s.outbox = []) ∧ ((s.fld .BAR_ARRIVED g i + 1) % 2 ^ 32 = n) ∧ ((s.fld .BAR_ROUND (s.corePart g * 32 + i) + 1) % 2 ^ 32 = n) ∧ ((s.fld .BAR_LOCAL_CUR (s.corePart g * 32 + i) + 1) % 2 ^ 13 = s.localCount (s.corePart g) i) ∧ (s.runSlot (s.corePart g) = none)) ∧
    (∃ (g : Nat) (id : Nat) (i : Nat) (n : Nat) (o : MacroOp) (s : State), (s.toRun g id .barrier = some o) ∧ (arg o .index = i) ∧ (i < 32) ∧ (s.bit .BARRIER_MEMBER i g) ∧ ((s.fld .BAR_ARRIVED g i + 1) % 2 ^ 32 = n) ∧ (n ≠ (s.fld .BAR_ROUND (s.corePart g * 32 + i) + 1) % 2 ^ 32) ∧ (n ≠ (s.fld .BAR_ROUND (s.corePart g * 32 + i) + 2) % 2 ^ 32)) ∧
    (∃ (g : Nat) (id : Nat) (o : MacroOp) (s : State), (s.toRun g id .barrier = some o) ∧ (s.outbox = [])) ∧
    (∃ (g : Nat) (id : Nat) (i : Nat) (o : MacroOp) (s : State), (s.toRun g id .barrier = some o) ∧ (arg o .index = i) ∧ (i < 32) ∧ (s.bit .BARRIER_MEMBER i g = false)) ∧
    (∃ (k : Pkt) (p : Nat) (s : State), (s.lands k) ∧ (s.outbox = []) ∧ (s.tagPart k.tag = some p) ∧ (s.pstate p ≠ .idle) ∧ (s.barHome p k.barrier) ∧ (s.fld .BAR_RANKS_RANK_LO (p * 32 + k.barrier) ≤ k.srcRank) ∧ (k.srcRank ≤ s.fld .BAR_RANKS_RANK_HI (p * 32 + k.barrier)) ∧ (k.round = (s.fld .BAR_ROUND (p * 32 + k.barrier) + 1) % 2 ^ 32) ∧ ((s.fld .BAR_HOME_CUR (p * 32 + k.barrier) + 1) % 2 ^ 17 ≠ s.barSize p k.barrier)) ∧
    (∃ (k : Pkt) (p : Nat) (s : State), (s.lands k) ∧ (s.outbox = []) ∧ (s.tagPart k.tag = some p) ∧ (s.pstate p ≠ .idle) ∧ (s.barHome p k.barrier) ∧ (s.fld .BAR_RANKS_RANK_LO (p * 32 + k.barrier) ≤ k.srcRank) ∧ (k.srcRank ≤ s.fld .BAR_RANKS_RANK_HI (p * 32 + k.barrier)) ∧ (k.round = (s.fld .BAR_ROUND (p * 32 + k.barrier) + 1) % 2 ^ 32) ∧ ((s.fld .BAR_HOME_CUR (p * 32 + k.barrier) + 1) % 2 ^ 17 = s.barSize p k.barrier) ∧ ((k.member ∨ (bankGet 0 s.barFlags (p * 32 + k.barrier)).testBit 0))) ∧
    (∃ (k : Pkt) (p : Nat) (s : State), (s.lands k) ∧ (s.outbox = []) ∧ (s.tagPart k.tag = some p) ∧ (s.pstate p ≠ .idle) ∧ (s.barHome p k.barrier) ∧ (s.fld .BAR_RANKS_RANK_LO (p * 32 + k.barrier) ≤ k.srcRank) ∧ (k.srcRank ≤ s.fld .BAR_RANKS_RANK_HI (p * 32 + k.barrier)) ∧ (k.round = (s.fld .BAR_ROUND (p * 32 + k.barrier) + 2) % 2 ^ 32) ∧ (s.barFull p k.barrier = false)) ∧
    (∃ (k : Pkt) (p : Nat) (s : State), (s.lands k) ∧ (s.tagPart k.tag = some p) ∧ (s.pstate p ≠ .idle) ∧ ((s.pstate p).active = false) ∧ ((s.barHome p k.barrier = false ∨ k.srcRank < s.fld .BAR_RANKS_RANK_LO (p * 32 + k.barrier) ∨ s.fld .BAR_RANKS_RANK_HI (p * 32 + k.barrier) < k.srcRank))) ∧
    (∃ (k : Pkt) (p : Nat) (s : State), (s.lands k) ∧ (s.tagPart k.tag = some p) ∧ (s.pstate p = .idle)) ∧
    (∃ (k : Pkt) (p : Nat) (s : State), (s.lands k) ∧ (s.outbox = []) ∧ (s.tagPart k.tag = some p) ∧ (s.pstate p ≠ .idle) ∧ (k.round = (s.fld .BAR_ROUND (p * 32 + k.barrier) + 1) % 2 ^ 32)) ∧
    (∃ (k : Pkt) (p : Nat) (s : State), (s.lands k) ∧ (s.outbox = []) ∧ (s.tagPart k.tag = some p) ∧ (s.pstate p ≠ .idle) ∧ (k.round = (s.fld .BAR_ROUND (p * 32 + k.barrier) + 1) % 2 ^ 32) ∧ (s.partCores p = []) ∧ (s.localCount p k.barrier ≠ 0)) ∧
    (∃ (k : Pkt) (p : Nat) (s : State), (s.lands k) ∧ (s.tagPart k.tag = some p) ∧ (k.round ≠ (s.fld .BAR_ROUND (p * 32 + k.barrier) + 1) % 2 ^ 32)) := ⟨
  ⟨0, 0, 3, 1, ba, withE (unit ba [(.BARRIER_MEMBER, 0, 8)]) [(.BARRIER_MEMBER, 1, 0, 8)], by decide +kernel⟩,
  ⟨0, 0, 3, 1, ba, unit ba [(.BARRIER_MEMBER, 0, 8)], by decide +kernel⟩,
  ⟨0, 0, 3, 3, ba, withE (unit ba [(.BARRIER_MEMBER, 0, 8)]) [(.BAR_ARRIVED, 0, 3, 2)], by decide +kernel⟩,
  ⟨0, 0, ba, unit ba ((.BARRIER_MEMBER, 0, 8) :: runSlotL), by decide +kernel⟩,
  ⟨0, 0, 3, ba, unit ba, by decide +kernel⟩,
  ⟨barPkt 1, 0, st runSlotL, by decide +kernel⟩,
  ⟨{ barPkt 1 with member := true }, 0, st ((.BAR_HOME_CUR, 3, 3) :: runSlotL), by decide +kernel⟩,
  ⟨barPkt 2, 0, st runSlotL, by decide +kernel⟩,
  ⟨{ barPkt 1 with srcRank := 4 }, 0, st [(.SLOT_STATUS_STATE, 0, 2), (.SLOT_CFG_JOB_TAG, 0, 7), (.PLAN_STATUS_STATE, 0, 1), (.BAR_RANKS_RANK_HI, 3, 3)], by decide +kernel⟩,
  ⟨barPkt 1, 0, st [(.SLOT_STATUS_STATE, 0, 2), (.SLOT_CFG_JOB_TAG, 0, 7), (.BAR_RANKS_RANK_HI, 3, 3)], by decide +kernel⟩,
  ⟨{ barPkt 1 with op := .barRelease }, 0, st runSlotL, by decide +kernel⟩,
  ⟨{ barPkt 1 with op := .barRelease }, 0, st ((.BARRIER_MEMBER, 0, 8) :: (.BAR_LOCAL_NEXT, 3, 1) :: runSlotL), by decide +kernel⟩,
  ⟨{ barPkt 2 with op := .barRelease }, 0, st runSlotL, by decide +kernel⟩⟩

/-- The hypotheses of each clause of Obligations.CoreRegistersAndSideReads are met. -/
theorem witness_CoreRegistersAndSideReads :
    (∃ (party : Party) (g : Nat) (n : Nat) (v : Nat) (s : State), (party ≠ .mgmt) ∧ (s.patchable (s.corePart g)) ∧ (n < 64) ∧ (v < 2 ^ 32)) ∧
    (∃ (party : Party) (g : Nat) (s : State), (party ≠ .mgmt) ∧ (s.patchable (s.corePart g) = false)) ∧
    (∃ (party : Party) (g : Nat) (v : Nat) (s : State), (party ≠ .mgmt) ∧ (s.patchable (s.corePart g)) ∧ (v < 512)) ∧
    (∃ (party : Party) (g : Nat) (v : Nat) (s : State), (party ≠ .mgmt) ∧ (s.debugOpen (s.corePart g) party) ∧ (v < 2 ^ 32)) ∧
    (∃ (party : Party) (g : Nat) (s : State), (party ≠ .mgmt) ∧ (s.debugOpen (s.corePart g) party = false)) ∧
    (∃ (v : Nat), (v < 2 ^ 16)) ∧
    (∃ (by_ : SideBy) (s : State), (by_ ≠ .mgmt) ∧ (s.flag .SIDE_STATUS_BUSY = false) ∧ (s.sideAllowed by_ (s.corePart (s.fld .SIDE_SRC_CORE)) = false)) ∧
    (∃ (by_ : SideBy) (v : Nat) (s : State), (by_ ≠ .mgmt) ∧ (s.flag .SIDE_STATUS_BUSY = false) ∧ (s.sideAllowed by_ (s.corePart (s.fld .SIDE_SRC_CORE))) ∧ (let u := (s.setFld .SIDE_CTRL_TRANSPOSE (v / 2)).setFld .SIDE_CTRL_ESIZE (v / 4); (u.sideShapeBad = false) ∧ (s.handleCode (s.fld .SIDE_SRC_CORE) (s.fld .SIDE_SRC_HANDLE) .lr (s.fld .SIDE_OFFSET) u.sideLen 1 = 0))) ∧
    (∃ (j : SideJob) (s : State), (s.side = some j) ∧ (j.transpose = false) ∧ ((∀ w ∈ j.words, s.badBytes j.core w = 0))) ∧
    (∃ (j : SideJob) (w : Nat) (ws : List Nat) (s : State), (s.side = some j) ∧ (j.words = w :: ws) ∧ (3 ≤ s.badBytes j.core w)) := ⟨
  ⟨.host, 0, 63, 5, st [], by decide +kernel⟩,
  ⟨.bound, 0, st [(.PLAN_STATUS_STATE, 0, 3)], by decide +kernel⟩,
  ⟨.host, 0, 511, st [], by decide +kernel⟩,
  ⟨.host, 0, 0xFF000012, st [(.SEC_PART_DEBUG, 0, 1)], by decide +kernel⟩,
  ⟨.host, 0, st [], by decide +kernel⟩,
  ⟨5, by decide +kernel⟩,
  ⟨.host, st [], by decide +kernel⟩,
  ⟨.thimble, 1, { cst { handles := hs } [(.SPAD_MODE, 0, 1), (.ARM_PART_LIMITS_HANDLES, 0, 64), (.SIDE_SHAPE_ROWS, 0, 2), (.SIDE_SHAPE_COLS, 0, 4), (.SIDE_STRIDE, 0, 8)] with raw := 3 }, by decide +kernel⟩,
  ⟨sjob, { cst { handles := hs } [(.SIDE_STATUS_BUSY, 0, 1)] with side := some sjob }, by decide +kernel⟩,
  ⟨sjob, 0, [0], { cst { handles := hs, bad := [(0, 3)] } [(.SIDE_STATUS_BUSY, 0, 1)] with side := some sjob }, by decide +kernel⟩⟩

/-- The hypotheses of each clause of Obligations.ScrubbingAndClear are met. -/
theorem witness_ScrubbingAndClear :
    (∃ (g : Nat) (b : Nat) (s : State), (b < 16) ∧ (s.sideUses g b = false)) ∧
    (∃ (g : Nat) (b : Nat) (s : State), (b < 16) ∧ (s.sideUses g b)) ∧
    (∃ (g : Nat) (w : Nat) (s : State), (w ∈ (s.core g).corrections)) ∧
    (∃ (w : Nat) (found : Nat) (s : State), (s.flag .POOL_SCRUB) ∧ (max (bankGet 0 s.poolBad w) found ≤ 2) ∧ (1 ≤ max (bankGet 0 s.poolBad w) found)) ∧
    (∃ (w : Nat) (found : Nat) (s : State), (s.flag .POOL_SCRUB) ∧ (3 ≤ max (bankGet 0 s.poolBad w) found)) ∧
    (∃ (p : Nat) (s : State), (p < 16) ∧ (s.clearing p = false) ∧ (s.pstate p = .idle) ∧ (s.fld .ARM_STATUS_STATE ≠ armApplying)) ∧
    (∃ (p : Nat) (s : State), (p < 16) ∧ (s.clearing p = false) ∧ (s.pstate p ≠ .idle)) ∧
    (∃ (p : Nat) (s : State), (p < 16) ∧ (s.clearing p)) := ⟨
  ⟨0, 15, st [], by decide +kernel⟩,
  ⟨0, 0, { cst { handles := hs } [(.SIDE_STATUS_BUSY, 0, 1)] with side := some sjob }, by decide +kernel⟩,
  ⟨0, 7, cst { bad := [(7, 1)], corrections := [7] }, by decide +kernel⟩,
  ⟨7, 2, st [(.POOL_SCRUB, 0, 1)], by decide +kernel⟩,
  ⟨7, 3, st [(.POOL_SCRUB, 0, 1)], by decide +kernel⟩,
  ⟨15, st [], by decide +kernel⟩,
  ⟨0, st [(.PLAN_STATUS_STATE, 0, 1)], by decide +kernel⟩,
  ⟨0, st [(.SPAD_CLEAR_STATUS_BUSY, 0, 1)], by decide +kernel⟩⟩

end CoreW

/-! ### Witnesses: FabricW -/
namespace FabricW

/-- Core 0 of a running partition 0, its die awake. -/
def run (c : Core) (l : List (Fld × Nat × Nat) := []) : State := { st ([(.PLAN_STATUS_STATE, 0, 3), (.ARM_PART_LIMITS_HANDLES, 0, 64), (.ARM_PART_LIMITS_WINDOWS, 0, 8)] ++ l) with cores := [(0, c)], domains := [(0, { st := .on })] }
/-- A valid handle entry with every permission. -/
def hEnt (base size mask : Nat) : Nat := base + size * 2 ^ 10 + mask * 2 ^ 32 + 31 * 2 ^ 48
def hs : List (Nat × Nat) := [(0, hEnt 0 64 1), (1, hEnt 64 64 1), (2, hEnt 128 64 1), (3, hEnt 192 64 1), (4, hEnt 256 64 3)]
/-- Core 0 about to execute one instruction. -/
def cpu (i : CpInstr) (l : List (Fld × Nat × Nat) := []) : State := run { prog := [i, .fin], handles := hs } l
/-- Core 0 with one started macro-operation. -/
def unit (o : MacroOp) (l : List (Fld × Nat × Nat) := []) : State := { run { started := [{ op := o }], handles := hs, windows := [(0, 2 ^ 63 + 2 ^ 62 + 2 ^ 61 + 2 ^ 48)], decls := [(5, 9)] } l with mem := { State.reset.mem with spad := [(0, 3), (1, 253), (2048, 7), (2049, 128)] }, srvs := [(0, { banks := [(0, [(1, 44)])] })] }
/-- Job slot 0 runs job 7 of partition 0. -/
def jobL : List (Fld × Nat × Nat) := [(.SLOT_STATUS_STATE, 0, 2), (.SLOT_CFG_JOB_TAG, 0, 7), (.PLAN_STATUS_STATE, 0, 3), (.ARM_PART_LIMITS_HANDLES, 0, 64)]
def job (c : Core) (l : List (Fld × Nat × Nat) := []) : State := cst c (jobL ++ l)
def wrPkt : Pkt := { op := .write, tag := 7, handle := 4, off := 32, final := false, data := List.replicate 32 9 }
def poolPkt (op : Op) : Pkt := { op := op, tag := 7, dstNode := 72, dstUnit := 96, addr := 64, tick := 1, len := 32, data := List.replicate 32 9 }
/-- The frame with the tag and CRC that a port key and a frame counter give it. -/
def checked (key n : Nat) (f : Frame) : Frame :=
  let f := { f with ctag := frameTag key n f }
  { f with crc := frameCrc f }
theorem frameCrc_crc (f : Frame) (x : Nat) : frameCrc { f with crc := x } = frameCrc f := rfl
theorem frameTag_crc (key n : Nat) (f : Frame) (x : Nat) : frameTag key n { f with crc := x } = frameTag key n f := rfl
theorem frameTag_ctag (key n : Nat) (f : Frame) (x : Nat) : frameTag key n { f with ctag := x } = frameTag key n f := rfl
theorem checked_crc (key n : Nat) (f : Frame) : (checked key n f).crc = frameCrc (checked key n f) :=
  (frameCrc_crc { f with ctag := frameTag key n f } _).symm
theorem checked_ok {s : State} {n : Nat} {f : Frame} (h : f.fcnt % 4096 = (s.port n).rxCount % 4096) :
    s.checkedFrame n (checked (s.port n).rxKey (s.port n).rxCount f) := ⟨checked_crc .., h, ((frameTag_crc _ _ _ _).trans (frameTag_ctag _ _ f _)).symm⟩
theorem dwell_over {s : State} {n : Nat} (h : (s.port n).dwellAt + 188000000 ≤ s.raw) : s.elapsed (s.port n).dwellAt (s.dwellNs n) = true := by
  unfold State.elapsed State.dwellNs
  have := Nat.mod_lt (Config.dwellDraw ownKeyId n (s.port n).dwells) (show 0 < 16 by decide)
  exact decide_eq_true (by omega)
theorem dwell_runs {s : State} {n : Nat} (h : s.raw < (s.port n).dwellAt + 128000000) : s.elapsed (s.port n).dwellAt (s.dwellNs n) = false := by
  unfold State.elapsed State.dwellNs
  exact decide_eq_false (by omega)
def give (n : Nat) : Pkt := { op := .give, tag := 7, sigCounter := 5, sigAmount := n }
def xfer : Xfer := { id := 3, left := 1, args := [(.dstHandle, 4)] }
def ackX : Xfer := { id := 3, left := 0, acks := 2 }

/-- The hypotheses of each clause of Obligations.EntryCommits are met. -/
theorem witness_EntryCommits :
    (∃ (party : Party) (g : Nat) (hi : Nat) (v : Nat) (s : State), (party ≠ .mgmt) ∧ (s.patchable (s.corePart g)) ∧ ((s.commitPair party (coreAddr g 0x404) (s.handle g (s.fld .HANDLE_INDEX_INDEX g) % 2 ^ 32) hi).1 = v) ∧ (s.handleRefused (s.corePart g) (s.fld .HANDLE_INDEX_INDEX g) v = false)) ∧
    (∃ (party : Party) (g : Nat) (hi : Nat) (v : Nat) (s : State), (party ≠ .mgmt) ∧ (s.patchable (s.corePart g)) ∧ ((s.commitPair party (coreAddr g 0x404) (s.handle g (s.fld .HANDLE_INDEX_INDEX g) % 2 ^ 32) hi).1 = v) ∧ (s.handleRefused (s.corePart g) (s.fld .HANDLE_INDEX_INDEX g) v)) ∧
    (∃ (party : Party) (g : Nat) (hi : Nat) (v : Nat) (s : State), (party ≠ .mgmt) ∧ (s.patchable (s.corePart g)) ∧ ((s.commitPair party (coreAddr g 0x410) (s.window g (s.fld .WINDOW_INDEX_INDEX g) % 2 ^ 32) hi).1 = v) ∧ (s.windowRefused (s.corePart g) (s.fld .WINDOW_INDEX_INDEX g) v = false)) ∧
    (∃ (party : Party) (g : Nat) (hi : Nat) (v : Nat) (s : State), (party ≠ .mgmt) ∧ (s.patchable (s.corePart g)) ∧ ((s.commitPair party (coreAddr g 0x504) (s.decl g (s.fld .SYNC_DECL_INDEX_INDEX g) % 2 ^ 32) hi).1 = v) ∧ (declRefused v = false)) ∧
    (∃ (v : Nat), (hValid v) ∧ ((hMask v = 0 ∨ hSize v = 0 ∨ 16384 < hSize v ∨ 1024 < hBase v + hRows v))) ∧
    (∃ (party : Party) (lo : Nat) (hi : Nat) (s : State) (a : Nat), (lo < 2 ^ 32) ∧ (hi < 2 ^ 32) ∧ (bankGet 0 s.held (pairKey party a) = lo + 1)) := ⟨
  ⟨.host, 0, 0x001F0001, hEnt 0 64 1, { cst {} [(.ARM_PART_LIMITS_HANDLES, 0, 64), (.HANDLE_INDEX_INDEX, 0, 63), (.ARM_PART_LIMITS_LANDING, 0, 0)] with held := [(pairKey .host (coreAddr 0 0x404), 64 * 2 ^ 10 + 1)] }, by decide +kernel⟩,
  ⟨.bound, 0, 0x001F0000, 31 * 2 ^ 48, cst {} [], by decide +kernel⟩,
  ⟨.host, 0, 0x80000000 + 2 ^ 29, 2 ^ 63 + 2 ^ 61, st [(.ARM_PART_LIMITS_WINDOWS, 0, 8)], by decide +kernel⟩,
  ⟨.host, 0, 0, 9, { st [] with held := [(pairKey .host (coreAddr 0 0x504), 10)] }, by decide +kernel⟩,
  ⟨2 ^ 48, by decide +kernel⟩,
  ⟨.mgmt, 9, 7, { st [] with held := [(pairKey .mgmt 0x40, 10)] }, 0x40, by decide +kernel⟩⟩

/-- The hypotheses of each clause of Obligations.RemoteAccess are met. -/
theorem witness_RemoteAccess :
    (∃ (k : Pkt) (q : Nat) (j : Nat) (b : Byte) (s : State), (s.lands k) ∧ (s.tagPart k.tag = some q) ∧ (xferKey k ∉ (s.core (pktCore k)).dropped) ∧ (s.handleCode (pktCore k) k.handle .rwr k.off k.data.length 32 = 0) ∧ (s.inLanding (s.corePart (pktCore k)) (s.handle (pktCore k) k.handle) k.off k.data.length) ∧ ((k.final = false ∨ k.sig = false)) ∧ (hMask (s.handle (pktCore k) k.handle) ≠ 0) ∧ (hBase (s.handle (pktCore k) k.handle) + hRows (s.handle (pktCore k) k.handle) ≤ 1024) ∧ (k.data[j]? = some b)) ∧
    (∃ (k : Pkt) (q : Nat) (s : State), (s.lands k) ∧ (s.tagPart k.tag = some q) ∧ (xferKey k ∉ (s.core (pktCore k)).dropped) ∧ (s.handleCode (pktCore k) k.handle .rwr k.off k.data.length 32 ≠ 0) ∧ ((s.pstate (s.corePart (pktCore k))).active = false)) ∧
    (∃ (k : Pkt) (p : Nat) (s : State), (s.lands k) ∧ (s.tagPart k.tag = some p) ∧ (k.srcRank = s.ownRank p) ∧ (s.outbox = []) ∧ (s.mustHold p (answer k .readResp) = false) ∧ (s.handleCode (pktCore k) k.handle .rr k.off k.len 32 = 0)) ∧
    (∃ (k : Pkt) (p : Nat) (s : State), (s.lands k) ∧ (s.tagPart k.tag = some p) ∧ (k.srcRank = s.ownRank p) ∧ (s.outbox = []) ∧ (s.mustHold p (answer k .errorResp) = false) ∧ (s.handleCode (pktCore k) k.handle .rr k.off k.len 32 ≠ 0) ∧ ((s.pstate (s.corePart (pktCore k))).active = false)) ∧
    (∃ (k : Pkt) (p : Nat) (s : State), (s.lands k) ∧ (s.tagPart k.tag = some p) ∧ (s.outbox = []) ∧ (s.mustHold p (answer k .readResp)) ∧ (s.handleCode (pktCore k) k.handle .rr k.off k.len 32 = 0)) ∧
    (∃ (k : Pkt) (s : State), (k.fits) ∧ (s.mayLand k) ∧ (s.fenced k.dstNode k) ∧ (s.fld .FAB_ERROR_CODE = 0)) ∧
    (∃ (k : Pkt) (s : State), (s.overtakes k)) ∧
    (∃ (k : Pkt) (x : Xfer) (j : Nat) (b : Byte) (s : State), (s.lands k) ∧ (s.xferOf k = some x) ∧ (argOf x.args .dstKind = 0) ∧ (argOf x.args .sigAmount = 0) ∧ (x.acks = 0) ∧ (let v := s.handle (pktCore k) (argOf x.args .dstHandle); (hMask v ≠ 0) ∧ (hBase v + hRows v ≤ 1024) ∧ (argOf x.args .dstOff + k.sub + k.data.length ≤ 32 * hSize v) ∧ (k.data[j]? = some b))) ∧
    (∃ (k : Pkt) (x : Xfer) (s : State), (s.lands k) ∧ (s.xferOf k = some x) ∧ (0 < k.code) ∧ (k.code < 2 ^ 16) ∧ (s.fld .CORE_ERROR_CODE (pktCore k) = 0) ∧ ((s.pstate (s.corePart (pktCore k))).active)) ∧
    (∃ (k : Pkt) (x : Xfer) (s : State), (s.lands k) ∧ (s.xferOf k = some x) ∧ (argOf x.args .sigAmount = 0)) := ⟨
  ⟨wrPkt, 0, 31, 9, job { handles := [(4, hEnt 1020 64 0xFFFF)] } [(.ARM_PART_LIMITS_LANDING, 0, 0)], by decide +kernel⟩,
  ⟨wrPkt, 0, cst {} [(.SLOT_STATUS_STATE, 0, 2), (.SLOT_CFG_JOB_TAG, 0, 7), (.PLAN_STATUS_STATE, 0, 1)], by decide +kernel⟩,
  ⟨{ wrPkt with op := .readReq, len := 64 }, 0, job { handles := hs }, by decide +kernel⟩,
  ⟨{ wrPkt with op := .readReq, len := 16 }, 0, cst { handles := hs } [(.SLOT_STATUS_STATE, 0, 2), (.SLOT_CFG_JOB_TAG, 0, 7), (.PLAN_STATUS_STATE, 0, 1)], by decide +kernel⟩,
  ⟨{ wrPkt with op := .readReq, len := 64, srcRank := 2 }, 0, cst { handles := hs } [(.SLOT_STATUS_STATE, 0, 3), (.SLOT_CFG_JOB_TAG, 0, 7), (.PLAN_STATUS_STATE, 0, 3), (.ARM_PART_LIMITS_HANDLES, 0, 64)], by decide +kernel⟩,
  ⟨{ wrPkt with part := 3 }, job {}, by decide +kernel⟩,
  ⟨wrPkt, { job {} with flight := [{ wrPkt with off := 0 }] }, by decide +kernel⟩,
  ⟨{ wrPkt with op := .readResp, xfer := 3 }, xfer, 31, 9, job { handles := hs, xfers := [xfer] }, by decide +kernel⟩,
  ⟨{ op := .errorResp, tag := 7, xfer := 3, code := E_SPAD_REMOTE_REJECT }, xfer, job { xfers := [xfer] }, by decide +kernel⟩,
  ⟨{ op := .ack, tag := 7, xfer := 3 }, ackX, job { xfers := [ackX] }, by decide +kernel⟩⟩

/-- The hypotheses of each clause of Obligations.PoolRequests are met. -/
theorem witness_PoolRequests :
    (∃ (k : Pkt) (s : State), (s.lands k) ∧ (k.op = .memWrite) ∧ (k.tick < 256) ∧ (let group := (k.dstNode - 72) * 16 + (k.dstUnit - 96); (let core := k.srcNode * 96 + k.srcUnit; ((∀ b < 1024, ∀ c, s.poolOwner b k.tick = some (c, k.tick) → c = core)) ∧ (group < 64) ∧ (k.final) ∧ (k.srcRank = s.ownRank (s.corePart core))))) ∧
    (∃ (k : Pkt) (s : State), (s.lands k) ∧ (k.op = .memRead) ∧ (k.tick < 256) ∧ (k.bad = []) ∧ (let group := (k.dstNode - 72) * 16 + (k.dstUnit - 96); (let core := k.srcNode * 96 + k.srcUnit; ((∀ b < 1024, ∀ c, s.poolOwner b k.tick = some (c, k.tick) → c = core)) ∧ (group < 64) ∧ (s.poolBad = []) ∧ (k.srcRank = s.ownRank (s.corePart core))))) ∧
    (∃ (k : Pkt) (c : Nat) (s : State), (s.lands k) ∧ (k.op = .memWrite) ∧ (0 < k.data.length) ∧ (k.tick < 256) ∧ (let group := (k.dstNode - 72) * 16 + (k.dstUnit - 96); (let core := k.srcNode * 96 + k.srcUnit; (s.poolOwner (group * 16 + k.addr / 32 % 16) k.tick = some (c, k.tick)) ∧ (c ≠ core) ∧ (s.flag .POOL_CONFLICT_LOC_VALID = false) ∧ (c < 6144) ∧ (core < 6144) ∧ ((s.pstate (s.corePart core)).active) ∧ (s.fld .CORE_ERROR_CODE core = 0)))) ∧
    (∃ (j : Pkt) (k : Pkt) (s : State), (s.flight = []) ∧ (s.lands j) ∧ (s.lands k) ∧ (j.op = .memWrite) ∧ (k.op = .memWrite) ∧ (0 < j.data.length) ∧ (0 < k.data.length) ∧ (k.final = false) ∧ (j.tick = k.tick) ∧ (k.tick < 256) ∧ (j.dstNode = k.dstNode) ∧ (j.dstUnit = k.dstUnit) ∧ (j.addr = k.addr) ∧ ((k.dstNode - 72) * 16 + (k.dstUnit - 96) < 64) ∧ (k.srcNode * 96 + k.srcUnit < j.srcNode * 96 + j.srcUnit) ∧ (j.srcNode * 96 + j.srcUnit < 6144) ∧ (s.owners = []) ∧ (s.flag .POOL_CONFLICT_LOC_VALID = false)) := ⟨
  ⟨poolPkt .memWrite, { job {} with owners := [(3, 1 * 0 + 1 + 1)] }, by decide +kernel, rfl, by decide +kernel, fun b hb c hc => by by_cases h : b = 1 <;> simp [State.poolOwner, poolPkt, bankGet, h] at hc ⊢; omega, by decide +kernel⟩,
  ⟨poolPkt .memRead, job {}, by decide +kernel, rfl, by decide +kernel, rfl, fun b hb c hc => by simp [State.poolOwner, job, cst, st, State.reset, bankGet] at hc, by decide +kernel⟩,
  ⟨poolPkt .memWrite, 5, { job {} with owners := [(2 * 2 + 1, 5 * 256 + 1 + 1)] }, by decide +kernel⟩,
  ⟨{ poolPkt .memWrite with srcUnit := 5, final := false }, { poolPkt .memWrite with srcUnit := 4, final := false }, job {}, by decide +kernel⟩⟩

/-- The hypotheses of each clause of Obligations.ArrivingGives are met. -/
theorem witness_ArrivingGives :
    (∃ (k : Pkt) (q : Nat) (n : Nat) (tied : Bool) (s : State), (s.lands k) ∧ (s.tagPart k.tag = some q) ∧ (s.pstate (s.corePart (pktCore k)) ≠ .idle) ∧ (k.sigAmount = n) ∧ (s.bound (pktCore k) k.sigCounter ≠ 0) ∧ ((s.inCycle tied).giveOverflows (pktCore k) k.sigCounter n = false)) ∧
    (∃ (k : Pkt) (q : Nat) (s : State), (s.lands k) ∧ (s.tagPart k.tag = some q) ∧ (s.pstate (s.corePart (pktCore k)) = .idle)) ∧
    (∃ (k : Pkt) (q : Nat) (n : Nat) (tied : Bool) (s : State), (s.lands k) ∧ (s.tagPart k.tag = some q) ∧ ((s.pstate (s.corePart (pktCore k))).active) ∧ (k.sigAmount = n) ∧ (s.bound (pktCore k) k.sigCounter ≠ 0) ∧ ((s.inCycle tied).giveOverflows (pktCore k) k.sigCounter n) ∧ (s.dropMarked (s.corePart (pktCore k)) k.sigCounter = false) ∧ (s.fld .CORE_ERROR_CODE (pktCore k) = 0)) ∧
    (∃ (party : Party) (p : Nat) (v : Nat) (s : State), (party ≠ .mgmt) ∧ (s.patchable p) ∧ (v % 2 ^ 16 ≤ v / 2 ^ 16 % 2 ^ 16)) ∧
    (∃ (party : Party) (p : Nat) (v : Nat) (s : State), (party ≠ .mgmt) ∧ ((s.patchable p = false ∨ v / 2 ^ 16 % 2 ^ 16 < v % 2 ^ 16))) ∧
    (∃ (party : Party) (g : Nat) (v : Nat) (i : Nat) (s : State), (party ≠ .mgmt) ∧ (s.patchable (s.corePart g)) ∧ (v < 2 ^ 32) ∧ (i < 32) ∧ (g < 6144)) := ⟨
  ⟨give 9, 0, 9, true, job { decls := [(5, 9)] }, by decide +kernel⟩,
  ⟨give 9, 0, cst {} [(.SLOT_STATUS_STATE, 0, 2), (.SLOT_CFG_JOB_TAG, 0, 7)], by decide +kernel⟩,
  ⟨give 10, 0, 10, false, job { decls := [(5, 9)] }, by decide +kernel⟩,
  ⟨.host, 0, 0xFFFFFFFF, st [], by decide +kernel⟩,
  ⟨.host, 0, 1, st [], by decide +kernel⟩,
  ⟨.host, 0, 2 ^ 31, 31, st [(.BARRIER_MEMBER, 0, 1)], by decide +kernel⟩⟩

/-- The hypotheses of each clause of Obligations.FabricRouting are met. -/
theorem witness_FabricRouting :
    (∃ (n : Nat) (edge : Nat) (k : Pkt) (s : State), (k.fits) ∧ ((edge = 6 ∨ s.edgeUp n edge)) ∧ ((s.sharedPaused && 64 ≤ n) = false) ∧ (k.op ≠ .bad) ∧ (k.dstNode ≤ 83) ∧ (k.bad = []) ∧ (s.fenced n k = false) ∧ ((s.packetRoute n k).testBit 4) ∧ ((s.packetRoute n k).testBit 3 = false) ∧ (s.edgeUp n (s.packetRoute n k % 8))) ∧
    (∃ (n : Nat) (edge : Nat) (k : Pkt) (s : State), ((k.fits = false ∨ (edge ≠ 6 ∧ s.edgeUp n edge = false)))) ∧
    (∃ (n : Nat) (edge : Nat) (headBad : Nat) (k : Pkt) (s : State), (k.fits) ∧ ((edge = 6 ∨ s.edgeUp n edge)) ∧ ((s.sharedPaused && 64 ≤ n) = false) ∧ ((3 ≤ headBad ∨ (headBad = 0 ∧ 83 < k.dstNode))) ∧ (s.fld .FAB_ERROR_CODE = 0)) ∧
    (∃ (n : Nat) (edge : Nat) (k : Pkt) (s : State), (k.fits) ∧ ((edge = 6 ∨ s.edgeUp n edge)) ∧ ((s.sharedPaused && 64 ≤ n) = false) ∧ (k.op ≠ .bad) ∧ (k.dstNode ≤ 83) ∧ (k.bad = []) ∧ (s.fenced n k) ∧ (s.fld .FAB_ERROR_CODE = 0)) ∧
    (∃ (n : Nat) (e : Nat) (m : Nat) (s : State), (edgePeer n e = some m) ∧ (m ≠ n) ∧ (s.flag .FAB_EDGE_UP n e) ∧ (s.fld .FAB_EDGE_MODULES n e + 1 < edgeModules n e)) ∧
    (∃ (n : Nat) (e : Nat) (m : Nat) (s : State), (edgePeer n e = some m) ∧ (m ≠ n) ∧ (s.flag .FAB_EDGE_UP n e) ∧ (s.fld .FAB_ERROR_CODE = 0)) ∧
    (∃ (n : Nat) (d : Nat) (vc : Nat), (n < 84) ∧ (d < 84) ∧ (vc < 4) ∧ (n ≠ d)) := ⟨
  ⟨0, 1, { op := .memWrite, dstNode := 83, tag := 7 }, st [], by decide +kernel⟩,
  ⟨0, 1, { op := .memWrite, dstNode := 83, data := [1] }, st [], by decide +kernel⟩,
  ⟨0, 1, 0, { op := .memWrite, dstNode := 84 }, st [], by decide +kernel⟩,
  ⟨0, 6, { op := .write, part := 3 }, st [], by decide +kernel⟩,
  ⟨16, 0, 0, st [], by decide +kernel⟩,
  ⟨16, 0, 0, st [], by decide +kernel⟩,
  ⟨0, 83, 3, by decide +kernel⟩⟩

/-- The hypotheses of each clause of Obligations.LinkTraining are met. -/
theorem witness_LinkTraining :
    (∃ (n : Nat) (s : State), (s.linkState n = linkDisabled) ∧ ((s.domain (portDom n)).st = .on)) ∧
    (∃ (n : Nat) (s : State), (s.linkState n = linkDetect)) ∧
    (∃ (n : Nat) (s : State), (s.linkState n = linkDetect) ∧ (s.elapsed (s.port n).dwellAt (s.dwellNs n))) ∧
    (∃ (n : Nat) (s : State), (s.linkState n = linkDetect) ∧ (s.elapsed (s.port n).dwellAt (s.dwellNs n) = false)) ∧
    (∃ (n : Nat) (s : State), (s.linkState n = linkDetect)) ∧
    (∃ (n : Nat) (rates : Nat) (rate : Nat) (lanes : List (Option LaneLock)) (s : State), (s.linkState n = linkLock) ∧ (lanes.length = 9) ∧ ((∀ l ∈ lanes, l.isSome)) ∧ ((∀ a ∈ lanes.filterMap id, ∀ b ∈ lanes.filterMap id, a.farPort = b.farPort)) ∧ (1 ≤ rate) ∧ (rate ≤ 3) ∧ ((rates &&& s.fld .LINK_CTRL_RATE_MASK n).testBit (rate - 1)) ∧ ((∀ r < 3, rate ≤ r → (rates &&& s.fld .LINK_CTRL_RATE_MASK n).testBit r = false))) ∧
    (∃ (n : Nat) (key : Nat) (port : Nat) (rates : Nat) (s : State), (s.linkState n = linkIdentify) ∧ (s.needsHalf n = false) ∧ (key < 2 ^ 64) ∧ (port < 32) ∧ (rates.testBit (s.fld .LINK_STATUS_RATE n - 1))) ∧
    (∃ (n : Nat) (key : Nat) (s : State), (s.linkState n = linkIdentify) ∧ ((s.port n).identified) ∧ (key % 2 ^ 64 = s.fld64 .PEER_KEY_ID_LO .PEER_KEY_ID_HI n) ∧ (s.peerUnexpected n = false)) ∧
    (∃ (n : Nat) (key : Nat) (s : State), (s.linkState n = linkIdentify) ∧ ((s.port n).identified) ∧ (key % 2 ^ 64 = s.fld64 .PEER_KEY_ID_LO .PEER_KEY_ID_HI n) ∧ (s.peerUnexpected n) ∧ (s.fld .LINK_ERROR_CODE n = 0)) ∧
    (∃ (n : Nat) (s : State), (s.linkState n = linkHeld)) ∧
    (∃ (n : Nat) (s : State), (s.linkState n = linkIdentify) ∧ ((s.port n).behindHeld)) ∧
    (∃ (n : Nat) (rtt : Nat) (s : State), (s.linkState n = linkAlign) ∧ (rtt < 2 ^ 16)) ∧
    (∃ (n : Nat) (s : State), ((s.linkState n = linkLock ∨ s.linkState n = linkAlign)) ∧ (s.fld .LINK_ERROR_CODE n = 0)) ∧
    (∃ (n : Nat) (s : State), ((s.linkState n = linkLock ∨ s.linkState n = linkIdentify ∨ s.linkState n = linkAlign ∨ s.linkState n = linkHeld))) ∧
    (∃ (n : Nat) (s : State), (s.linkState n = linkDown)) := ⟨
  ⟨0, { st [] with domains := [(64, { st := .on })] }, by decide +kernel⟩,
  ⟨0, { st [(.LINK_STATUS_STATE, 0, 1), (.LINK_CTRL_ENABLE, 0, 1)] with domains := [(64, { st := .on })] }, by decide +kernel⟩,
  ⟨0, { st [(.LINK_STATUS_STATE, 0, 1), (.LINK_STATUS_SWAPPED, 0, 1)] with raw := 200000000 }, rfl, dwell_over (by decide +kernel)⟩,
  ⟨0, st [(.LINK_STATUS_STATE, 0, 1)], rfl, dwell_runs (by decide +kernel)⟩,
  ⟨0, st [(.LINK_STATUS_STATE, 0, 1), (.LINK_STATUS_SWAPPED, 0, 1)], by decide +kernel⟩,
  ⟨0, 7, 3, (List.range 9).map (fun i => some { farLane := 8 - i, farPort := 5 }), st [(.LINK_STATUS_STATE, 0, 2)], by decide +kernel⟩,
  ⟨0, 0x500000003, 31, 7, st [(.LINK_STATUS_STATE, 0, 3), (.LINK_STATUS_RATE, 0, 3)], by decide +kernel⟩,
  ⟨0, 0x500000003, { st [(.LINK_STATUS_STATE, 0, 3), (.PEER_KEY_ID_LO, 0, 3), (.PEER_KEY_ID_HI, 0, 5)] with ports := [(0, { identified := true, rxCount := 5 })] }, by decide +kernel⟩,
  ⟨0, 0x500000003, { st [(.LINK_STATUS_STATE, 0, 3), (.PEER_KEY_ID_LO, 0, 3), (.PEER_KEY_ID_HI, 0, 5), (.PEER_EXPECT_CTRL_VALID, 0, 1)] with ports := [(0, { identified := true })] }, by decide +kernel⟩,
  ⟨0, st [(.LINK_STATUS_STATE, 0, 7)], by decide +kernel⟩,
  ⟨0, { st [(.LINK_STATUS_STATE, 0, 3)] with ports := [(0, { behindHeld := true })] }, by decide +kernel⟩,
  ⟨0, 65535, { st [(.LINK_STATUS_STATE, 0, 4)] with ports := [(0, { nextSeq := 5, ackV := true })] }, by decide +kernel⟩,
  ⟨0, st [(.LINK_STATUS_STATE, 0, 2)], by decide +kernel⟩,
  ⟨0, st [(.LINK_STATUS_STATE, 0, 7)], by decide +kernel⟩,
  ⟨0, st [(.LINK_STATUS_STATE, 0, 8)], by decide +kernel⟩⟩

/-- The hypotheses of each clause of Obligations.LinkFrames are met. -/
theorem witness_LinkFrames :
    (∃ (n : Nat) (s : State), (s.inRun) ∧ (s.linkState n = linkUp) ∧ ((s.port n).txMark < 4095) ∧ ((s.port n).sender = .normal) ∧ ((s.port n).egress ≠ []) ∧ ((s.port n).unacked.length < 2046)) ∧
    (∃ (n : Nat) (s : State), (s.inRun) ∧ (s.linkState n = linkUp) ∧ ((s.port n).txMark < 4095) ∧ ((s.port n).sender = .normal) ∧ ((s.port n).egress = []) ∧ ((s.port n).ctlQ = [])) ∧
    (∃ (n : Nat) (s : State), (s.inRun) ∧ (s.linkState n = linkUp) ∧ ((s.port n).txMark = 4095) ∧ ((s.port n).sender = .normal) ∧ ((s.port n).egress = []) ∧ ((s.port n).ctlQ = [])) ∧
    (∃ (s : State), (s.inRun = false)) ∧
    (∃ (n : Nat) (f : TxFrame) (rest : List TxFrame) (s : State), (s.linkState n = linkUp) ∧ ((s.port n).unacked = f :: rest) ∧ (s.elapsed (s.port n).timer (s.replayTmo n))) ∧
    (∃ (n : Nat) (f : CtlFlit) (s : State), (s.portLive n) ∧ (f.type ≠ .report) ∧ ((s.port n).ctlQ.length < 64)) ∧
    (∃ (n : Nat) (f : CtlFlit) (s : State), (s.portLive n) ∧ (f.type = .report) ∧ ((∃ g ∈ (s.port n).ctlQ, g.type = .report ∧ g.tag = f.tag))) ∧
    (∃ (n : Nat) (f : Frame) (s : State), (s.linkState n = linkUp) ∧ ((s.port n).rxMark < 4095) ∧ ((s.port n).resync = false) ∧ (f.idle = false) ∧ (s.checkedFrame n f) ∧ (f.fseq = (s.port n).expect) ∧ (f.fseq < 4096) ∧ (f.slots = List.replicate 17 .empty) ∧ ((s.port n).rx = none) ∧ (f.ackV = false) ∧ (f.nak = false) ∧ (f.cmsg = .none)) ∧
    (∃ (n : Nat) (f : Frame) (s : State), (s.linkState n = linkUp) ∧ ((s.port n).rxMark < 4095) ∧ ((s.port n).resync = false) ∧ (f.idle = false) ∧ (s.checkedFrame n f) ∧ (1 ≤ ((s.port n).expect + 4096 - f.fseq % 4096) % 4096) ∧ (((s.port n).expect + 4096 - f.fseq % 4096) % 4096 ≤ 2047) ∧ (f.ackV = false) ∧ (f.nak = false) ∧ (f.cmsg = .none)) ∧
    (∃ (n : Nat) (chk : FrameCheck) (s : State), (s.linkState n = linkUp) ∧ ((s.port n).rxMark < 4095) ∧ ((s.port n).naked = false) ∧ (15 < chk.errs.length)) ∧
    (∃ (n : Nat) (age : Nat) (f : Frame) (s : State), (s.linkState n = linkUp) ∧ ((s.port n).rxMark < 4095) ∧ ((s.port n).resync = false) ∧ (f.idle) ∧ (s.checkedFrame n f) ∧ (f.ackV) ∧ (f.nak = false) ∧ (f.cmsg = .none) ∧ (((s.port n).nextSeq + 4095 - f.ack % 4096) % 4096 = age) ∧ (age < (s.port n).unacked.length)) ∧
    (∃ (n : Nat) (f : Frame) (s : State), (s.linkState n = linkUp) ∧ ((s.port n).resync = false) ∧ (f.crc = frameCrc f) ∧ (f.fcnt % 4096 ≠ (s.port n).rxCount % 4096) ∧ ((s.port n).badRun = 15) ∧ (s.fld .LINK_ERROR_CODE n = 0)) := ⟨
  ⟨0, { st [(.LINK_STATUS_STATE, 0, 5)] with ports := [(0, { nextSeq := 4095, egress := List.replicate 20 (.word 1 { pkt := wrPkt } 0), nakDue := true })] }, by decide +kernel⟩,
  ⟨0, st [(.LINK_STATUS_STATE, 0, 5)], by decide +kernel⟩,
  ⟨0, { st [(.LINK_STATUS_STATE, 0, 5)] with ports := [(0, { txMark := 4095 })] }, by decide +kernel⟩,
  ⟨{ State.reset with regs := [(Fld.key .LINK_STATUS_STATE 0 0, 5)] }, by decide +kernel⟩,
  ⟨0, { seq := 9, slots := [] }, [], { st [(.LINK_STATUS_STATE, 0, 5)] with ports := [(0, { unacked := [{ seq := 9, slots := [] }] })], raw := 99999999 }, by decide +kernel⟩,
  ⟨0, { type := .hold, tag := 7, origin := 1, tick := 2 }, st [(.LINK_STATUS_STATE, 0, 6)], by decide +kernel⟩,
  ⟨0, { type := .report, tag := 7, origin := 1, tick := 2 }, { st [(.LINK_STATUS_STATE, 0, 6)] with ports := [(0, { ctlQ := [{ type := .report, tag := 7, origin := 1, tick := 1 }] })] }, by decide +kernel⟩,
  ⟨0, checked 0 9 { idle := false, fseq := 4095, fcnt := 9, slots := List.replicate 17 .empty }, { st [(.LINK_STATUS_STATE, 0, 5)] with ports := [(0, { expect := 4095, rxCount := 9, nakDue := true, naked := true })] }, by decide +kernel, by decide +kernel, by decide +kernel, by decide +kernel, checked_ok (by decide +kernel), by decide +kernel, by decide +kernel, by decide +kernel, by decide +kernel, by decide +kernel, by decide +kernel, by decide +kernel⟩,
  ⟨0, checked 0 9 { idle := false, fseq := 4094, fcnt := 9, slots := List.replicate 17 .empty }, { st [(.LINK_STATUS_STATE, 0, 5)] with ports := [(0, { expect := 4095, rxCount := 9 })] }, by decide +kernel, by decide +kernel, by decide +kernel, by decide +kernel, checked_ok (by decide +kernel), by decide +kernel, by decide +kernel, by decide +kernel, by decide +kernel, by decide +kernel⟩,
  ⟨0, { errs := List.replicate 16 (5, 1) }, st [(.LINK_STATUS_STATE, 0, 5)], by decide +kernel⟩,
  ⟨0, 1, checked 0 0 { idle := true, ack := 3, ackV := true }, { st [(.LINK_STATUS_STATE, 0, 5)] with ports := [(0, { nextSeq := 5, unacked := [{ seq := 3, slots := [] }, { seq := 4, slots := [] }] })], raw := 99999999 }, by decide +kernel, by decide +kernel, by decide +kernel, by decide +kernel, checked_ok (by decide +kernel), by decide +kernel, by decide +kernel, by decide +kernel, by decide +kernel, by decide +kernel⟩,
  ⟨0, checked 0 0 { idle := false, fcnt := 5 }, { st [(.LINK_STATUS_STATE, 0, 5)] with ports := [(0, { badRun := 15 })] }, by decide +kernel, by decide +kernel, checked_crc .., by decide +kernel, by decide +kernel, by decide +kernel⟩⟩

/-- The hypotheses of each clause of Obligations.Darning are met. -/
theorem witness_Darning :
    (∃ (n : Nat) (lane : Nat) (s : State), (s.linkState n = linkUp) ∧ (lane < 8) ∧ (s.leads n = false) ∧ (s.flag .LINK_STATUS_HALF n = false) ∧ (s.flag .TPORT_STATUS_MEASURING n = false) ∧ (lane ∉ (s.port n).failed)) ∧
    (∃ (n : Nat) (lane : Nat) (s : State), (s.linkState n = linkUp) ∧ (lane < 8) ∧ (s.leads n) ∧ (s.flag .TPORT_STATUS_MEASURING n = false) ∧ (lane ∉ (s.port n).failed) ∧ (s.flag .LINK_STATUS_DARNED n = false) ∧ (s.flag .LINK_STATUS_HALF n = false) ∧ (s.flag .LINK_STATUS_SPARE_LOST n = false) ∧ ((s.port n).seqKind = .idle) ∧ ((s.port n).pendingHalf = none) ∧ ((s.port n).after = none)) ∧
    (∃ (n : Nat) (s : State), ((s.port n).seqKind = .darn) ∧ ((s.port n).seqSwitched = false) ∧ ((s.port n).seqPeer) ∧ ((s.port n).seqLane < 9)) ∧
    (∃ (n : Nat) (s : State), (s.linkState n = linkUp) ∧ ((s.port n).seqKind = .undarn) ∧ ((s.port n).seqSwitched = false) ∧ ((s.port n).seqLane < 8) ∧ ((s.port n).pendingHalf = none) ∧ ((s.port n).after = none) ∧ (s.flag .LINK_STATUS_HALF n = false) ∧ (s.flag .LINK_STATUS_SPARE_LOST n = false)) ∧
    (∃ (n : Nat) (s : State), (s.linkState n = linkUp) ∧ (s.leads n) ∧ (s.flag .LINK_CTRL_CAL_EN n) ∧ ((s.port n).seqKind = .idle) ∧ ((s.port n).cal = none) ∧ ((s.port n).after = none) ∧ (s.flag .LINK_STATUS_DARNED n = false) ∧ (s.flag .LINK_STATUS_SPARE_LOST n = false) ∧ ((s.port n).pendingHalf = none)) ∧
    (∃ (n : Nat) (i : Nat) (s : State), ((s.port n).cal = some i) ∧ (i < 8) ∧ (s.flag .LINK_STATUS_DARNED n) ∧ (s.flag .LINK_STATUS_DARN_FAILED n = false) ∧ ((s.port n).seqKind = .idle)) ∧
    (∃ (n : Nat) (i : Nat) (s : State), ((s.port n).cal = some i) ∧ (i < 8) ∧ (s.flag .LINK_STATUS_DARN_FAILED n)) ∧
    (∃ (n : Nat) (m : LinkMsg) (s : State), (s.linkState n = linkUp) ∧ ((∀ h ∈ (s.port n).handled, h.1.txn ≠ m.txn)) ∧ ((s.port n).seqKind = .idle) ∧ (s.flag .LINK_STATUS_DARNED n = false)) ∧
    (∃ (n : Nat) (m : LinkMsg) (s : State), (s.linkState n = linkUp) ∧ ((∀ h ∈ (s.port n).handled, h.1.txn ≠ m.txn))) ∧
    (∃ (n : Nat) (m : LinkMsg) (s : State), (s.linkState n = linkUp) ∧ ((∀ h ∈ (s.port n).handled, h.1.txn ≠ m.txn))) ∧
    (∃ (n : Nat) (m : LinkMsg) (s : State), (s.linkState n = linkUp) ∧ ((∀ h ∈ (s.port n).handled, h.1.txn ≠ m.txn))) ∧
    (∃ (n : Nat) (m : LinkMsg) (s : State), (s.linkState n = linkUp) ∧ ((s.port n).handled = []) ∧ ((s.port n).ownDone ≠ some m.txn) ∧ ((s.port n).seqLane = m.lane) ∧ ((s.port n).seqSwitched) ∧ (m.lane < 9) ∧ ((s.port n).seqKind = .darn)) ∧
    (∃ (n : Nat) (m : LinkMsg) (s : State), (s.linkState n = linkUp) ∧ ((s.port n).handled = []) ∧ ((s.port n).ownDone ≠ some m.txn) ∧ ((s.port n).seqLane = m.lane) ∧ ((s.port n).seqSwitched) ∧ (m.lane < 9) ∧ ((s.port n).seqKind = .undarn) ∧ ((s.port n).cal = none) ∧ ((s.port n).after = none)) := ⟨
  ⟨0, 7, { st [(.LINK_STATUS_STATE, 0, 5)] with ports := [(0, {})] }, by decide +kernel⟩,
  ⟨0, 7, st [(.LINK_STATUS_STATE, 0, 5), (.LINK_STATUS_LEADER, 0, 1)], by decide +kernel⟩,
  ⟨0, { st [(.LINK_STATUS_STATE, 0, 5)] with ports := [(0, { seqKind := .darn, seqPeer := true, seqLane := 8 })] }, by decide +kernel⟩,
  ⟨0, { st [(.LINK_STATUS_STATE, 0, 5), (.LINK_STATUS_LEADER, 0, 1)] with ports := [(0, { seqKind := .undarn, seqLane := 7, cal := some 7 })] }, by decide +kernel⟩,
  ⟨0, st [(.LINK_STATUS_STATE, 0, 5), (.LINK_STATUS_LEADER, 0, 1), (.LINK_CTRL_CAL_EN, 0, 1)], by decide +kernel⟩,
  ⟨0, 7, { st [(.LINK_STATUS_STATE, 0, 5), (.LINK_STATUS_DARNED, 0, 1)] with ports := [(0, { cal := some 7 })] }, by decide +kernel⟩,
  ⟨0, 7, { st [(.LINK_STATUS_STATE, 0, 5), (.LINK_STATUS_DARNED, 0, 1), (.LINK_STATUS_DARN_FAILED, 0, 1)] with ports := [(0, { cal := some 7 })] }, by decide +kernel⟩,
  ⟨0, { op := 0x02, txn := 4, lane := 7, reason := 1 }, { st [(.LINK_STATUS_STATE, 0, 5)] with ports := [(0, {})] }, by decide +kernel⟩,
  ⟨0, { op := 0x05, txn := 4, lane := 7 }, { st [(.LINK_STATUS_STATE, 0, 5)] with ports := [(0, {})] }, by decide +kernel⟩,
  ⟨0, { op := 0x03, txn := 4, lane := 7 }, { st [(.LINK_STATUS_STATE, 0, 5)] with ports := [(0, { seqKind := .darn, awaiting := [({ op := 0x02, txn := 4 }, 0)] })] }, by decide +kernel⟩,
  ⟨0, { op := 0x06, txn := 4, lane := 7 }, { st [(.LINK_STATUS_STATE, 0, 5)] with ports := [(0, { seqKind := .undarn, awaiting := [({ op := 0x05, txn := 4 }, 0)] })] }, by decide +kernel⟩,
  ⟨0, { op := 0x04, txn := 4, lane := 8 }, { st [(.LINK_STATUS_STATE, 0, 5)] with ports := [(0, { seqKind := .darn, seqLane := 8, seqSwitched := true })] }, by decide +kernel⟩,
  ⟨0, { op := 0x07, txn := 4, lane := 8 }, { st [(.LINK_STATUS_STATE, 0, 5), (.LINK_STATUS_DARNED, 0, 1)] with ports := [(0, { seqKind := .undarn, seqLane := 8, seqSwitched := true })] }, by decide +kernel⟩⟩

/-- The hypotheses of each clause of Obligations.LinkMessages are met. -/
theorem witness_LinkMessages :
    (∃ (n : Nat) (m : LinkMsg) (s : State), (s.linkState n = linkUp) ∧ ((s.port n).handled = []) ∧ (s.leads n) ∧ (m.reason ≠ 1) ∧ ((s.port n).seqKind = .idle) ∧ (s.flag .LINK_STATUS_DARNED n = false)) ∧
    (∃ (n : Nat) (m : LinkMsg) (r : LinkMsg) (s : State), (s.linkState n = linkUp) ∧ (s.leads n) ∧ ((s.port n).handled = [({ m with op := 0x01 }, some r)])) ∧
    (∃ (n : Nat) (s : State), (s.linkState n = linkUp) ∧ ((s.port n).handled = [])) ∧
    (∃ (n : Nat) (h : Nat) (s : State), (s.linkState n = linkUp) ∧ ((s.port n).handled = []) ∧ ((s.port n).pendingHalf = some h)) ∧
    (∃ (n : Nat) (s : State), ((s.linkState n = linkUp ∨ s.linkState n = linkAlign)) ∧ ((s.port n).handled = [])) ∧
    (∃ (n : Nat) (ns : Nat) (k : Nat) (m : LinkMsg) (a : LinkMsg) (s : State), ((s.linkState n = linkUp ∨ s.linkState n = linkAlign)) ∧ ((a, k) ∈ (s.port n).awaiting) ∧ (a.op = 0x0A) ∧ (a.data = m.data) ∧ (ns < 2 ^ 16)) ∧
    (∃ (n : Nat) (s : State), (s.linkState n = linkUp) ∧ ((∀ a ∈ (s.port n).awaiting, a.2 < 64))) ∧
    (∃ (n : Nat) (s : State), (s.linkState n = linkUp) ∧ ((∃ a ∈ (s.port n).awaiting, 64 ≤ a.2))) ∧
    (∃ (n : Nat) (s : State), (s.linkState n = linkUp)) ∧
    (∃ (n : Nat) (s : State), (s.linkState n = linkRetrain) ∧ ((s.port n).pendingHalf = none) ∧ ((s.port n).deferred = []) ∧ ((s.leads n → s.openLanes n = []))) ∧
    (∃ (n : Nat) (p : Nat) (s : State), (s.linkState n = linkRetrain) ∧ (p < 16) ∧ ((s.pstate p).active) ∧ (s.bit .EXCHANGE_PORTS n p)) := ⟨
  ⟨0, { op := 0x01, txn := 4, lane := 7 }, st [(.LINK_STATUS_STATE, 0, 5), (.LINK_STATUS_LEADER, 0, 1)], by decide +kernel⟩,
  ⟨0, { op := 0x01, txn := 4, lane := 7 }, { op := 0x02, txn := 9, lane := 7 }, { st [(.LINK_STATUS_STATE, 0, 5), (.LINK_STATUS_LEADER, 0, 1)] with ports := [(0, { handled := [({ op := 0x01, txn := 4, lane := 7 }, some { op := 0x02, txn := 9, lane := 7 })] })] }, by decide +kernel⟩,
  ⟨0, st [(.LINK_STATUS_STATE, 0, 5)], by decide +kernel⟩,
  ⟨0, 1, { st [(.LINK_STATUS_STATE, 0, 5)] with ports := [(0, { pendingHalf := some 1 })] }, by decide +kernel⟩,
  ⟨0, st [(.LINK_STATUS_STATE, 0, 4)], by decide +kernel⟩,
  ⟨0, 65535, 0, { op := 0x0B, txn := 4, data := 99 }, { op := 0x0A, txn := 4, data := 99 }, { st [(.LINK_STATUS_STATE, 0, 4)] with ports := [(0, { awaiting := [({ op := 0x0A, txn := 4, data := 99 }, 0)] })] }, by decide +kernel⟩,
  ⟨0, { st [(.LINK_STATUS_STATE, 0, 5)] with ports := [(0, { awaiting := [({ op := 0x0A }, 63)] })] }, by decide +kernel⟩,
  ⟨0, { st [(.LINK_STATUS_STATE, 0, 5)] with ports := [(0, { awaiting := [({ op := 0x0A }, 64)] })] }, by decide +kernel⟩,
  ⟨0, { st [(.LINK_STATUS_STATE, 0, 5)] with ports := [(0, { nextSeq := 3, unacked := [{ seq := 2, slots := [] }], seqKind := .darn })] }, by decide +kernel⟩,
  ⟨0, { st [(.LINK_STATUS_STATE, 0, 6)] with ports := [(0, { nextSeq := 3, unacked := [{ seq := 2, slots := [] }] })] }, by decide +kernel⟩,
  ⟨0, 15, st [(.LINK_STATUS_STATE, 0, 6), (.PLAN_STATUS_STATE, 15, 3), (.EXCHANGE_PORTS, 15, 1)], by decide +kernel⟩⟩

end FabricW

/-! ### Witnesses: TimeW -/
namespace TimeW

/-- Job slot 0 is ACTIVE on ports 0 and 1 for job 7 of partition 0. -/
def slotL : List (Fld × Nat × Nat) := [(.SLOT_STATUS_STATE, 0, 1), (.SLOT_CFG_JOB_TAG, 0, 7), (.SLOT_PORTS0, 0, 3), (.LINK_STATUS_STATE, 0, 5), (.LINK_STATUS_STATE, 1, 5)]
def sp (a l : List (Fld × Nat × Nat)) : State := st (a ++ l)
def lpk (d : Nat) : LPkt := { pkt := { op := .write, tag := 7, dstRank := d } }
def inSt (k : LPkt) (l : List (Fld × Nat × Nat)) : State := { sp l slotL with ports := [(0, { ingress := [k] })], ranks := [(0, { lo := 5, hi := 6, ports := 3, valid := true })] }
def up0 (x : TPort) (l : List (Fld × Nat × Nat)) : State := { st ((.LINK_STATUS_STATE, 0, 5) :: l) with tports := [(0, x)] }
def goodT : TPort := { heard := true, synced := true, domain := 0 }
def tpL : List (Fld × Nat × Nat) := [(.TIME_DOMAIN_DOMAIN, 0, 0), (.TIME_DOMAIN_MAX_HOPS, 0, 8), (.TIME_PARENTS_V0_V30, 0, 1), (.TIME_PARENTS_PORT0, 0, 0)]
def foL : List (Fld × Nat × Nat) := [(.TIME_CTRL_ROLE, 0, 1), (.TIME_STATUS_PARENT_VALID, 0, 1), (.TIME_STATUS_PARENT, 0, 0)]
def dieSt : State := { st [(.CLOCK_CAP, 0, 3)] with domains := [(63, { st := .on })], dies := [(63, { step := 1 })] }

/-- The hypotheses of each clause of Obligations.JobSlots are met. -/
theorem witness_JobSlots :
    (∃ (j : Nat) (s : State), ((s.slotState j = slotFree ∨ s.slotState j = slotDrained)) ∧ (s.activateCode j = 0) ∧ (s.outbox = [])) ∧
    (∃ (j : Nat) (s : State), ((s.slotState j = slotFree ∨ s.slotState j = slotDrained)) ∧ (s.fld .SLOT_CFG_JOB_TAG j = 0)) ∧
    (∃ (j : Nat) (s : State), (s.slotState j = slotActive) ∧ (s.flag .SLOT_STATUS_SWITCH_PENDING j = false)) ∧
    (∃ (j : Nat) (s : State), (s.slotState j = slotDraining) ∧ (s.slotHeld j = 0)) ∧
    (∃ (j : Nat) (s : State), (s.slotState j = slotDrained) ∧ ((s.fld .SLOT_CFG_KIND j = 1 ∨ s.pstate (s.fld .SLOT_CFG_PARTITION j) ∈ [PState.idle, .loaded, .stopped, .fault]))) ∧
    (∃ (j : Nat) (s : State), (s.slotState j = slotActive) ∧ (s.flag .SLOT_STATUS_SWITCH_PENDING j = false) ∧ (s.twoMicrosAhead (s.fld64 .SLOT_SWITCH_TIME_LO .SLOT_SWITCH_TIME_HI j))) ∧
    (∃ (j : Nat) (s : State), (s.slotState j = slotActive) ∧ (s.flag .SLOT_STATUS_SWITCH_PENDING j = false) ∧ (s.twoMicrosAhead (s.fld64 .SLOT_SWITCH_TIME_LO .SLOT_SWITCH_TIME_HI j) = false)) ∧
    (∃ (j : Nat) (s : State), (s.flag .SLOT_STATUS_SWITCH_PENDING j) ∧ ((s.slotRec j).inGuard = false) ∧ (s.timeReached (s.slotRec j).switchAt = false)) ∧
    (∃ (j : Nat) (s : State), (s.slotState j = slotActive) ∧ (s.flag .SLOT_STATUS_SWITCH_PENDING j) ∧ (s.inGuard j = false)) ∧
    (∃ (j : Nat) (s : State), (s.inGuard j)) ∧
    (∃ (j : Nat) (s : State), (s.slotState j = slotActive) ∧ (s.inGuard j)) ∧
    (∃ (j : Nat) (s : State), (s.flag .SLOT_STATUS_SWITCH_PENDING j) ∧ ((s.slotRec j).inGuard = false) ∧ (s.timeReached (s.slotRec j).switchAt)) ∧
    (∃ (j : Nat) (s : State), (s.flag .SLOT_STATUS_SWITCH_PENDING j) ∧ ((s.slotRec j).inGuard) ∧ (s.outbox = []) ∧ (s.timeReached (((s.slotRec j).switchAt + (s.slotRec j).guardUs * 64000) % 2 ^ 64))) := ⟨
  ⟨0, st [(.SLOT_CFG_JOB_TAG, 0, 7), (.SLOT_CFG_KIND, 0, 1)], by decide +kernel⟩,
  ⟨31, st [(.SLOT_STATUS_STATE, 31, 3)], by decide +kernel⟩,
  ⟨0, sp [] slotL, by decide +kernel⟩,
  ⟨0, st [(.SLOT_STATUS_STATE, 0, 2), (.SLOT_CFG_JOB_TAG, 0, 7)], by decide +kernel⟩,
  ⟨0, { st [(.SLOT_STATUS_STATE, 0, 3), (.SLOT_CFG_JOB_TAG, 0, 7)] with ranks := [(511, { lo := 5 }), (512, { lo := 6 })] }, by decide +kernel⟩,
  ⟨0, { sp [(.SLOT_SWITCH_TIME_LO, 0, 128000)] slotL with clock := {} }, by decide +kernel⟩,
  ⟨0, sp [(.SLOT_SWITCH_TIME_LO, 0, 127999)] slotL, by decide +kernel⟩,
  ⟨0, { sp [(.SLOT_STATUS_SWITCH_PENDING, 0, 1)] slotL with jobSlots := [(0, { switchAt := 1, guardUs := 5 })] }, by decide +kernel⟩,
  ⟨0, { sp [(.SLOT_STATUS_SWITCH_PENDING, 0, 1)] slotL with jobSlots := [(0, { switchAt := 1, guardUs := 5 })] }, by decide +kernel⟩,
  ⟨0, { sp [(.SLOT_STATUS_SWITCH_PENDING, 0, 1)] slotL with jobSlots := [(0, { switchAt := 0, guardUs := 5 })] }, by decide +kernel⟩,
  ⟨0, { sp [(.SLOT_STATUS_SWITCH_PENDING, 0, 1)] slotL with jobSlots := [(0, { switchAt := 0, guardUs := 5 })] }, by decide +kernel⟩,
  ⟨0, { sp [(.SLOT_STATUS_SWITCH_PENDING, 0, 1)] slotL with jobSlots := [(0, { switchAt := 0, guardUs := 5 })] }, by decide +kernel⟩,
  ⟨0, { sp [(.SLOT_STATUS_SWITCH_PENDING, 0, 1)] slotL with jobSlots := [(0, { switchAt := 0, guardUs := 5, inGuard := true })], raw := 320000 }, by decide +kernel⟩⟩

/-- The hypotheses of each clause of Obligations.SlotTables are met. -/
theorem witness_SlotTables :
    (∃ (party : Party), (party ≠ .mgmt)) ∧
    (∃ (party : Party), (party ≠ .mgmt)) ∧
    (∃ (party : Party) (v : Nat) (j : Nat) (k : Nat) (i : Nat) (ranks : Nat) (ports : Nat) (s : State), (party ≠ .mgmt) ∧ (s.fld .ROUTE_TBL_INDEX_SLOT = j) ∧ (s.fld .ROUTE_TBL_INDEX_EPOCH = k) ∧ (s.fld .ROUTE_TBL_INDEX_ENTRY = i) ∧ (bankGet 0 s.held (pairKey .host tblRanksAddr) = ranks + 1) ∧ (bankGet 0 s.held (pairKey .host tblPortsAddr) = ports + 1) ∧ (s.epochWritable j k) ∧ ((v.testBit 0 = false ∨ (maskIn ports (s.epochPorts j k) ∧ ranks % 2 ^ 16 ≤ ranks / 2 ^ 16 % 2 ^ 16)))) ∧
    (∃ (party : Party) (s : State), (party ≠ .mgmt) ∧ (s.epochWritable (s.fld .ROUTE_TBL_INDEX_SLOT) (s.fld .ROUTE_TBL_INDEX_EPOCH) = false)) ∧
    (∃ (party : Party) (j : Nat) (s : State), (party ≠ .mgmt) ∧ (s.slotState j = slotFree)) ∧
    (∃ (party : Party) (j : Nat) (s : State), (party ≠ .mgmt) ∧ (s.slotState j = slotFree)) ∧
    (∃ (party : Party) (j : Nat) (s : State), (party ≠ .mgmt) ∧ (s.slotState j = slotFree)) ∧
    (∃ (party : Party) (j : Nat) (s : State), (party ≠ .mgmt) ∧ (s.slotState j = slotFree)) ∧
    (∃ (party : Party) (j : Nat) (s : State), (party ≠ .mgmt) ∧ (s.slotState j ≠ slotFree)) := ⟨
  ⟨.host, by decide +kernel⟩,
  ⟨.bound, by decide +kernel⟩,
  ⟨.host, 3, 31, 1, 255, 0x00060005, 3, { st [(.ROUTE_TBL_INDEX_SLOT, 0, 31), (.ROUTE_TBL_INDEX_EPOCH, 0, 1), (.ROUTE_TBL_INDEX_ENTRY, 0, 255), (.ROUTE_TBL_INDEX_AUTO, 0, 1), (.SLOT_PORTS0, 31, 3), (.SLOT_PORTS1, 31, 3)] with held := [(pairKey .host tblRanksAddr, 0x00060006), (pairKey .host tblPortsAddr, 4)] }, by decide +kernel⟩,
  ⟨.host, sp [(.SLOT_CFG_EPOCH, 0, 1), (.ROUTE_TBL_INDEX_EPOCH, 0, 1)] slotL, by decide +kernel⟩,
  ⟨.host, 31, st [], by decide +kernel⟩,
  ⟨.host, 31, st [], by decide +kernel⟩,
  ⟨.host, 31, st [], by decide +kernel⟩,
  ⟨.host, 31, st [], by decide +kernel⟩,
  ⟨.host, 0, sp [] slotL, by decide +kernel⟩⟩

/-- The hypotheses of each clause of Obligations.PortPackets are met. -/
theorem witness_PortPackets :
    (∃ (k : Pkt) (j : Nat) (s : State), (s.lands k) ∧ ((∀ d ∈ (s.port (k.addr % 32)).dropOut, d.key ≠ xferKey k)) ∧ (s.portLive (k.addr % 32)) ∧ (s.kgenState k.part (s.fld .SEC_PART_SEND_KGEN k.part) = 1) ∧ (s.jobSlot k.tag = some j)) ∧
    (∃ (k : Pkt) (gen : Nat) (c : Nat) (s : State), (s.lands k) ∧ ((∀ d ∈ (s.port (k.addr % 32)).dropOut, d.key ≠ xferKey k)) ∧ (s.portLive (k.addr % 32)) ∧ (s.fld .SEC_PART_SEND_KGEN k.part = gen) ∧ (s.kgenState k.part gen = 2) ∧ (s.sealCount k.part gen (k.addr % 32) = c) ∧ (c < 2 ^ 64 - 1)) ∧
    (∃ (k : Pkt) (s : State), (s.lands k) ∧ ((∀ d ∈ (s.port (k.addr % 32)).dropOut, d.key ≠ xferKey k)) ∧ (s.portLive (k.addr % 32) = false) ∧ (s.fld .ROUTE_ERROR_CODE = 0)) ∧
    (∃ (k : Pkt) (s : State), (s.lands k) ∧ ((∃ d ∈ (s.port (k.addr % 32)).dropOut, d.key = xferKey k))) ∧
    (∃ (n : Nat) (j : Nat) (k : LPkt) (rest : List LPkt) (s : State), (s.sharedPaused = false) ∧ ((s.port n).ingress = k :: rest) ∧ (s.jobSlot k.pkt.tag = some j) ∧ ((s.slotPorts j).testBit n) ∧ (s.slotState j ≠ slotDrained) ∧ (s.fld .SLOT_CFG_KIND j = 0) ∧ (k.pkt.dstRank = s.fld .SLOT_RANK j) ∧ (k.epoch = s.fld .SLOT_CFG_EPOCH j) ∧ (s.unsealOk (s.fld .SLOT_CFG_PARTITION j) k)) ∧
    (∃ (n : Nat) (j : Nat) (k : LPkt) (rest : List LPkt) (s : State), (s.sharedPaused = false) ∧ ((s.port n).ingress = k :: rest) ∧ (s.jobSlot k.pkt.tag = some j) ∧ ((s.slotPorts j).testBit n) ∧ (s.slotState j ≠ slotDrained) ∧ (s.fld .SLOT_CFG_KIND j = 0) ∧ (k.pkt.dstRank = s.fld .SLOT_RANK j) ∧ (k.epoch = s.fld .SLOT_CFG_EPOCH j) ∧ (s.unsealOk (s.fld .SLOT_CFG_PARTITION j) k = false) ∧ ((s.pstate (s.fld .SLOT_CFG_PARTITION j)).active)) ∧
    (∃ (n : Nat) (j : Nat) (m : Nat) (k : LPkt) (e : RankEntry) (rest : List LPkt) (s : State), (s.sharedPaused = false) ∧ ((s.port n).ingress = k :: rest) ∧ (s.jobSlot k.pkt.tag = some j) ∧ ((s.slotPorts j).testBit n) ∧ (s.slotState j ≠ slotDrained) ∧ ((s.fld .SLOT_CFG_KIND j = 1 ∨ k.pkt.dstRank ≠ s.fld .SLOT_RANK j)) ∧ (s.rankLookup j k.epoch k.pkt.dstRank = some e) ∧ (choosePort e (e.ports / 2 ^ (n / 4 * 4) % 16 * 2 ^ (n / 4 * 4)) k.pkt = some m) ∧ (m ≠ n) ∧ (s.portLive m)) ∧
    (∃ (n : Nat) (j : Nat) (k : LPkt) (e : RankEntry) (rest : List LPkt) (s : State), (s.sharedPaused = false) ∧ ((s.port n).ingress = k :: rest) ∧ (s.jobSlot k.pkt.tag = some j) ∧ ((s.slotPorts j).testBit n) ∧ (s.slotState j ≠ slotDrained) ∧ ((s.fld .SLOT_CFG_KIND j = 1 ∨ k.pkt.dstRank ≠ s.fld .SLOT_RANK j)) ∧ (s.rankLookup j k.epoch k.pkt.dstRank = some e) ∧ (choosePort e (e.ports / 2 ^ (n / 4 * 4) % 16 * 2 ^ (n / 4 * 4)) k.pkt = some n) ∧ (s.fld .ROUTE_ERROR_CODE = 0) ∧ ((∀ q ∈ rest, xferKey q.pkt ≠ xferKey k.pkt)) ∧ ((s.port n).rx = none)) ∧
    (∃ (n : Nat) (k : LPkt) (rest : List LPkt) (s : State), (s.sharedPaused = false) ∧ ((s.port n).ingress = k :: rest) ∧ (s.jobSlot k.pkt.tag = none) ∧ (k.pkt.tag < 2 ^ 16)) ∧
    (∃ (n : Nat) (m : Nat) (lvc : Nat) (j : Nat) (k : LPkt) (rest : List (LPkt × Nat × Nat)) (s : State), (s.sharedPaused = false) ∧ ((s.port n).waiting = (k, m, lvc) :: rest) ∧ (m ≠ n) ∧ (s.portLive m) ∧ (s.jobSlot k.pkt.tag = some j)) := ⟨
  ⟨{ op := .write, tag := 7, addr := 33 }, 0, sp [(.SEC_PART_KGEN0, 0, 1)] slotL, by decide +kernel⟩,
  ⟨{ op := .write, tag := 7, addr := 1 }, 1, 9, { sp [(.SEC_PART_KGEN1, 0, 2), (.SEC_PART_SEND_KGEN, 0, 1)] slotL with sealSeq := [(sealKey 0 1 * 32 + 1, 9)], jobKeys := [(sealKey 0 1, 77)] }, by decide +kernel⟩,
  ⟨{ op := .write, tag := 7, addr := 2, final := false }, sp [] slotL, by decide +kernel⟩,
  ⟨{ op := .write, tag := 7, addr := 2 }, { sp [] slotL with ports := [(2, { dropOut := [{ key := (7, 0, 0, 0, 0), counts := true }] })] }, by decide +kernel⟩,
  ⟨0, 0, lpk 0, [], inSt (lpk 0) [(.SEC_PART_KGEN0, 0, 1)], by decide +kernel⟩,
  ⟨0, 0, { lpk 0 with isSealed := true, seq := 5 }, [], inSt { lpk 0 with isSealed := true, seq := 5 } [(.SEC_PART_KGEN0, 0, 1), (.PLAN_STATUS_STATE, 0, 3)], by decide +kernel⟩,
  ⟨0, 0, 1, lpk 5, { lo := 5, hi := 6, ports := 3, valid := true }, [], inSt (lpk 5) [], by decide +kernel⟩,
  ⟨0, 0, lpk 6, { lo := 5, hi := 6, ports := 3, valid := true }, [], inSt (lpk 6) [], by decide +kernel⟩,
  ⟨0, { pkt := { op := .write, tag := 9 } }, [], inSt { pkt := { op := .write, tag := 9 } } [], by decide +kernel⟩,
  ⟨0, 1, 3, 0, lpk 5, [], { sp [] slotL with ports := [(0, { waiting := [(lpk 5, 1, 3)] })] }, by decide +kernel⟩⟩

/-- The hypotheses of each clause of Obligations.ClockReferences are met. -/
theorem witness_ClockReferences :
    (∃ (diff : Int), (1 < diff.natAbs)) ∧
    (∃ (diff : Int), (diff.natAbs ≤ 1)) ∧
    (∃ (s : State), (s.fld .CLK_STATUS_REF_SEL ≠ 0)) ∧
    (∃ (c : Nat) (x : Nat) (s : State), (c < 2) ∧ (s.fld .CLK_STATUS_REF_SEL = c) ∧ (s.refList.find? (fun y => y ≠ 2 && y ≠ c && s.refGood y) = some x)) ∧
    (∃ (c : Nat) (s : State), (c < 2) ∧ (s.fld .CLK_STATUS_REF_SEL = c) ∧ (s.refList.find? (fun y => y ≠ 2 && y ≠ c && s.refGood y) = none) ∧ (s.holdsWord)) ∧
    (∃ (c : Nat), (c < 2)) ∧
    (∃ (c : Nat) (s : State), (c < 2) ∧ (s.flag .CLK_CTRL_AUTO) ∧ (s.refRank c < s.refRank (s.fld .CLK_STATUS_REF_SEL)) ∧ (s.refList.find? (fun x => x < 2 && (x = c || (s.refGood x && s.clock.requal.contains x))) = some c)) ∧
    (∃ (s : State), (s.flag .TIME_ERROR_VALID = false)) ∧
    (∃ (nn : Nat) (s : State), (s.inRun) ∧ ((s.domain nn).st = .off)) ∧
    (∃ (s : State), (s.inRun = false)) ∧
    (∃ (nn : Nat) (s : State), ((s.domain nn).st = .waking) ∧ ((s.domain nn).drop = false)) ∧
    (∃ (nn : Nat) (s : State), (s.awake nn) ∧ ((s.die nn).changing = 0) ∧ ((s.die nn).now ≠ s.wantedStep nn)) ∧
    (∃ (nn : Nat) (s : State), ((s.awake nn = false ∨ (s.die nn).changing ≠ 0))) ∧
    (∃ (nn : Nat) (s : State), ((s.die nn).changing ≠ 0)) := ⟨
  ⟨-2, by decide +kernel⟩,
  ⟨-1, by decide +kernel⟩,
  ⟨st [(.CLK_STATUS_REF_SEL, 0, 1), (.CLK_STATUS_REFCLK_OK, 0, 1)], by decide +kernel⟩,
  ⟨0, 1, st [(.CLK_CTRL_REF_PRI0, 0, 0), (.CLK_CTRL_REF_PRI1, 0, 1), (.CLK_CTRL_REF_PRI2, 0, 2), (.CLK_STATUS_REF_SEL, 0, 0), (.CLK_STATUS_RECOVERED_OK, 0, 1)], by decide +kernel⟩,
  ⟨0, { st [(.CLK_CTRL_REF_PRI0, 0, 0), (.CLK_CTRL_REF_PRI1, 0, 1), (.CLK_CTRL_REF_PRI2, 0, 2), (.CLK_STATUS_REF_SEL, 0, 0)] with clock := { hasHeld := true } }, by decide +kernel⟩,
  ⟨1, by decide +kernel⟩,
  ⟨0, st [(.CLK_CTRL_REF_PRI0, 0, 0), (.CLK_CTRL_REF_PRI1, 0, 1), (.CLK_CTRL_REF_PRI2, 0, 2), (.CLK_STATUS_REF_SEL, 0, 1), (.CLK_CTRL_AUTO, 0, 1)], by decide +kernel⟩,
  ⟨st [(.PLAN_STATUS_STATE, 3, 3)], by decide +kernel⟩,
  ⟨63, st [], by decide +kernel⟩,
  ⟨State.reset, by decide +kernel⟩,
  ⟨63, { st [] with domains := [(63, { st := .waking })], dies := [(63, { newest := 3 })] }, by decide +kernel⟩,
  ⟨63, dieSt, by decide +kernel, rfl, fun h => by have w : 1 ≤ dieSt.wantedStep 63 := le_max_of_le_right (le_max_of_le_left (by decide +kernel)); rw [← h] at w; revert w; decide +kernel⟩,
  ⟨63, st [], by decide +kernel⟩,
  ⟨63, { st [] with dies := [(63, { step := 1, changing := 2, newest := 3 })] }, by decide +kernel⟩⟩

/-- The hypotheses of each clause of Obligations.TimeRegisters are met. -/
theorem witness_TimeRegisters :
    (∃ (party : Party) (hi : Nat) (s : State), (let v := (s.commitPair party rateAddr (s.fld .TIME_RATE_LO) hi).1; (s.timeWritable) ∧ ((sgn 64 v).natAbs ≤ 2 ^ 36))) ∧
    (∃ (party : Party) (hi : Nat) (s : State), (let v := (s.commitPair party rateAddr (s.fld .TIME_RATE_LO) hi).1; (s.timeWritable) ∧ (2 ^ 36 < (sgn 64 v).natAbs) ∧ (s.flag .TIME_ERROR_VALID = false))) ∧
    (∃ (s : State), (s.timeWritable = false) ∧ (s.flag .TIME_ERROR_VALID = false)) ∧
    (∃ (party : Party) (hi : Nat) (s : State), (let amt := sgn 64 (s.commitPair party stepAddr 0 hi).1; (s.timeWritable) ∧ (s.stepRefused amt = false))) ∧
    (∃ (party : Party) (hi : Nat) (s : State), (s.timeWritable) ∧ (s.stepRefused (sgn 64 (s.commitPair party stepAddr 0 hi).1)) ∧ (s.flag .TIME_ERROR_VALID = false)) ∧
    (∃ (party : Party) (ext : Nat) (lo : Nat) (hi : Nat) (s : State), (s.timeWritable) ∧ (lo < 2 ^ 32) ∧ (hi < 2 ^ 32) ∧ (ext < 2 ^ 20) ∧ (bankGet 0 s.held (pairKey party sOffLoAddr) = lo + 1) ∧ (bankGet 0 s.held (pairKey party sOffHiAddr) = hi + 1)) := ⟨
  ⟨.host, 0, { st [(.TIME_RATE_LO, 0, 0), (.TIME_RATE_HI, 0, 0)] with held := [(pairKey .host rateAddr, 6)], raw := 99999 }, by decide +kernel⟩,
  ⟨.host, 17, st [(.TIME_RATE_LO, 0, 0), (.TIME_RATE_HI, 0, 0)], by decide +kernel⟩,
  ⟨st [(.TIME_CTRL_ROLE, 0, 1)], by decide +kernel⟩,
  ⟨.host, 0xFFFFFFFF, { st [] with held := [(pairKey .host stepAddr, 0xFFFFFFFF)], raw := 1 }, by decide +kernel⟩,
  ⟨.host, 0x7FFFFFFF, st [(.TIME_STATUS_SET, 0, 1), (.TIME_JUMP_LIMIT, 0, 5)], by decide +kernel⟩,
  ⟨.mgmt, 1048575, 5, 6, { st [] with held := [(pairKey .mgmt sOffLoAddr, 6), (pairKey .mgmt sOffHiAddr, 7)] }, by decide +kernel⟩⟩

/-- The hypotheses of each clause of Obligations.TimeRoles are met. -/
theorem witness_TimeRoles :
    (∃ (n : Nat) (s : State), ((s.timeState = timeOffSt ∨ s.timeState = timeGm)) ∧ (s.candidates.find? s.usable = some n) ∧ (n < 32)) ∧
    (∃ (s : State), ((s.timeState = timeOffSt ∨ s.timeState = timeGm)) ∧ ((∀ n ∈ s.candidates, s.usable n = false))) ∧
    (∃ (s : State), (s.timeRole = 1) ∧ (s.timeState = timeAcquire) ∧ (s.flag .TIME_STATUS_SET = false) ∧ ((∀ n ∈ s.candidates, s.usable n = false)) ∧ (s.flag .TIME_ERROR_VALID = false)) ∧
    (∃ (n : Nat) (m : Nat) (s : State), (s.fld .TIME_STATUS_PARENT = n) ∧ (s.isParent n) ∧ (s.usable n = false) ∧ (s.candidates.find? (fun x => x ≠ n && s.usable x) = some m) ∧ (m < 32) ∧ (s.timeState ≠ timeSynced)) ∧
    (∃ (n : Nat) (m : Nat) (s : State), (s.fld .TIME_STATUS_PARENT = n) ∧ (s.isParent n) ∧ (s.timeState = timeSynced) ∧ ((s.candidates.takeWhile (fun x => x ≠ n)).find? s.usable = some m) ∧ (m < 32)) ∧
    (∃ (s : State), (s.timeState ≠ timeGm)) ∧
    (∃ (s : State), (s.timeState = timeGm) ∧ (s.flag .TIME_CTRL_PPS_IN_EN) ∧ (s.clock.ppsFirst) ∧ (s.stepRefused (toSecond (s.todOf s.now)) = false)) ∧
    (∃ (s : State), (s.timeState = timeGm) ∧ (s.flag .TIME_CTRL_PPS_IN_EN) ∧ (s.flag .TIME_ERROR_VALID = false)) ∧
    (∃ (s : State), (s.flag .TIME_CTRL_PPS_OUT_EN) ∧ (s.todOf s.now % 2 ^ 36 < 64) ∧ (s.clock.ppsLast ≠ some (todSec (s.todOf s.now)))) ∧
    (∃ (s : State), ((64 ≤ s.todOf s.now % 2 ^ 36 ∨ s.clock.ppsLast = some (todSec (s.todOf s.now))))) ∧
    (∃ (m : Nat) (s : State), (s.clock.ppsOut = some m) ∧ (s.elapsed m (max 1 (s.fld .PPS_OUT_CFG) * 1000))) := ⟨
  ⟨0, up0 goodT tpL, by decide +kernel⟩,
  ⟨up0 {} tpL, by decide +kernel⟩,
  ⟨st ([(.TIME_CTRL_ROLE, 0, 1), (.TIME_STATUS_STATE, 0, 2)]), by decide +kernel⟩,
  ⟨0, 1, { sp (foL ++ tpL) ([(.LINK_STATUS_STATE, 1, 5), (.TIME_PARENTS_V0_V31, 0, 1), (.TIME_PARENTS_PORT1, 0, 1)]) with tports := [(1, goodT)] }, by decide +kernel⟩,
  ⟨1, 0, { sp tpL [(.LINK_STATUS_STATE, 0, 5), (.TIME_PARENTS_V0_V31, 0, 1), (.TIME_PARENTS_PORT1, 0, 1), (.TIME_CTRL_ROLE, 0, 1), (.TIME_STATUS_PARENT_VALID, 0, 1), (.TIME_STATUS_PARENT, 0, 1), (.TIME_STATUS_STATE, 0, 3)] with tports := [(0, goodT)] }, by decide +kernel⟩,
  ⟨{ st [] with raw := 99 }, by decide +kernel⟩,
  ⟨{ st [(.TIME_STATUS_STATE, 0, 1), (.TIME_CTRL_ROLE, 0, 2), (.TIME_CTRL_PPS_IN_EN, 0, 1)] with clock := { ppsFirst := true }, raw := 99 }, by decide +kernel⟩,
  ⟨st [(.TIME_STATUS_STATE, 0, 1), (.TIME_CTRL_ROLE, 0, 2), (.TIME_CTRL_PPS_IN_EN, 0, 1)], by decide +kernel⟩,
  ⟨st [(.TIME_CTRL_PPS_OUT_EN, 0, 1)], by decide +kernel⟩,
  ⟨{ st [(.TIME_CTRL_PPS_OUT_EN, 0, 1)] with raw := 64 }, by decide +kernel⟩,
  ⟨0, { st [(.PPS_OUT_CFG, 0, 0)] with clock := { ppsOut := some 0 }, raw := 64000 }, by decide +kernel⟩⟩

/-- The hypotheses of each clause of Obligations.TimeProtocol are met. -/
theorem witness_TimeProtocol :
    (∃ (n : Nat) (s : State), (s.timeLive n) ∧ ((s.timeRole ≠ 1 ∨ s.flag .TIME_STATUS_PARENT_VALID))) ∧
    (∃ (n : Nat) (s : State), (s.timeLive n) ∧ ((s.flag .LINK_STATUS_DARNED n && s.fld .LINK_STATUS_DARN_LANE n = s.refLane n) = false)) ∧
    (∃ (n : Nat) (c : Nat) (d : Int) (s : State), (s.timeLive n) ∧ (s.flag .LINK_STATUS_DARNED n) ∧ (s.fld .LINK_STATUS_DARN_LANE n = s.refLane n) ∧ ((s.tport n).skew = some (c, 16 * d))) ∧
    (∃ (n : Nat) (own : Nat) (t2 : Nat) (t3 : Nat) (t4 : Nat) (mark : Nat) (m : TimeMsg) (s : State), (s.timeLive n) ∧ (s.isParent n = false) ∧ (s.raw ≤ mark + 2 * s.timePeriod) ∧ ((s.tport n).exchs = [{ m := m.id, t2 := t2, own := some (own, t3, mark), t4 := some t4 }]) ∧ (exchangeExact s n (m.payload % 2 ^ 64) t2 t3 t4)) ∧
    (∃ (n : Nat) (i : Nat) (t1 : Nat) (t2 : Nat) (t3 : Nat) (mark : Nat) (m : TimeMsg) (s : State), (s.timeLive n) ∧ (s.isParent n = false) ∧ (s.raw ≤ mark + 2 * s.timePeriod) ∧ ((s.tport n).exchs = [{ m := i, t2 := t2, t1 := some t1, own := some (m.id, t3, mark) }]) ∧ (exchangeExact s n t1 t2 t3 (m.payload % 2 ^ 64))) ∧
    (∃ (n : Nat) (i : Nat) (t1 : Nat) (t2 : Nat) (t3 : Nat) (mark : Nat) (m : TimeMsg) (s : State), (s.timeLive n) ∧ ((s.tport n).exchs = [{ m := i, t2 := t2, t1 := some t1, own := some (m.id, t3, mark) }]) ∧ ((mark + 2 * s.timePeriod < s.raw ∨ stampDiff t2 t1 + stampDiff (m.payload % 2 ^ 64) t3 < 0))) ∧
    (∃ (n : Nat) (s : State), (s.timeLive n) ∧ (s.timeRole ≠ 1)) ∧
    (∃ (n : Nat) (b : Nat) (m : TimeMsg) (s : State), (s.timeLive n) ∧ (s.isParent n) ∧ ((s.tport n).todB = some (m.id, b)) ∧ (b < 2 ^ 36)) ∧
    (∃ (n : Nat) (sec : Nat) (m : TimeMsg) (s : State), (s.timeLive n) ∧ (s.isParent n) ∧ ((s.tport n).todA = some (m.id, sec)) ∧ (sec < 2 ^ 48)) ∧
    (∃ (n : Nat) (s : State), (s.timeLive n) ∧ ((s.tport n).skew = none)) ∧
    (∃ (n : Nat) (cycle : Nat) (skew : Int) (b : Int) (s : State), (s.timeLive n) ∧ (s.flag .TPORT_STATUS_MEASURING n) ∧ ((s.tport n).peerSkew = some (cycle % 256, b)) ∧ (let v := skew - b + sgn 32 (s.fld .TPORT_ASYM_ADJ n); (0 ≤ v + 2 ^ 31) ∧ (v < 2 ^ 31))) ∧
    (∃ (n : Nat) (s : State), (s.flag .TPORT_STATUS_MEASURING n = false)) := ⟨
  ⟨0, up0 { nextMark := 255, tick := 14 } [], by decide +kernel⟩,
  ⟨0, up0 { exchs := [{ m := 9, t2 := 1 }] } [], by decide +kernel⟩,
  ⟨0, 5, -3, up0 { skew := some (5, 16 * -3) } [(.LINK_STATUS_DARNED, 0, 1)], by decide +kernel⟩,
  ⟨0, 3, 1064, 2000, 3064, 0, { op := 2, id := 9, payload := 1000 }, up0 { exchs := [{ m := 9, t2 := 1064, own := some (3, 2000, 0), t4 := some 3064 }] } [], by decide +kernel, by decide +kernel, by decide +kernel, by decide +kernel, by unfold exchangeExact; decide +kernel⟩,
  ⟨0, 9, 1000, 1064, 2000, 0, { op := 3, id := 3, payload := 3064 }, up0 { exchs := [{ m := 9, t2 := 1064, t1 := some 1000, own := some (3, 2000, 0) }] } [], by decide +kernel, by decide +kernel, by decide +kernel, by decide +kernel, by unfold exchangeExact; decide +kernel⟩,
  ⟨0, 9, 1000, 1064, 2000, 0, { op := 3, id := 3, payload := 1900 }, up0 { exchs := [{ m := 9, t2 := 1064, t1 := some 1000, own := some (3, 2000, 0) }] } [], by decide +kernel⟩,
  ⟨0, up0 {} [], by decide +kernel⟩,
  ⟨0, 2 ^ 36 - 1, { op := 5, id := 9, payload := 2 ^ 72 - 1 }, up0 { todB := some (9, 2 ^ 36 - 1) } foL, by decide +kernel⟩,
  ⟨0, 2 ^ 48 - 1, { op := 6, id := 9, payload := 2 ^ 72 - 1 }, up0 { todA := some (9, 2 ^ 48 - 1) } foL, by decide +kernel⟩,
  ⟨0, up0 {} [], by decide +kernel⟩,
  ⟨0, 265, -2 ^ 31, 0, { up0 { peerSkew := some (9, 0) } [(.TPORT_STATUS_MEASURING, 0, 1)] with raw := 3 }, by decide +kernel⟩,
  ⟨0, up0 {} [], by decide +kernel⟩⟩

end TimeW

/-! ### Witnesses: MemoryW -/
namespace MemoryW

/-- Stack 0 is READY and slice 0 is partition 0's. -/
def hbm (l : List (Fld × Nat × Nat) := []) : State := { st ([(.HBM_STATUS_STATE, 0, 2), (.HBM_SLICE_OWNED, 0, 1), (.HBM_SLICE_PARTITION, 0, 0)] ++ l) with domains := [(chanDom 0 0, { st := .on }), (chanDom 0 (pseudoCh (2499999999 * 32)), { st := .on })] }
def hPkt (op : Op) : Pkt := { op := op, dstUnit := 96, addr := 64, len := 64, data := List.replicate 64 9 }
def hs64 (write : Bool) : HdmReq := { addr := 64, write := write, data := if write then List.replicate 64 9 else [] }
def mapd (s : State) : State := { s with regs := s.regs ++ [(Fld.key .HOST_LINK_MEM_ON 0 0, 1)] }
/-- A manifest of one layer of 32 bytes under a digest, of a publisher, that gives its table a digest. -/
def manOf (count key ld digest : Nat) : Manifest :=
  { header := bytes [(4, 0x4D4C5051), (2, 1), (2, 0xC0), (4, count), (4, 0), (8, 64), (8, key), (16, 0), (16, 0), (64, ld), (64, 0)],
    table := (List.range count).flatMap (fun i => bytes [(8, 32 * i), (8, 32), (1, 0), (7, 0), (64, digest)]), signedBy := key }
theorem manOf_layersDigest (c k : Nat) {ld : Nat} (d : Nat) (h : ld < 256 ^ 64) : (manOf c k ld d).layersDigest = ld := byteField_bytes0 _ rfl h
theorem manOf_layer (k ld : Nat) {d : Nat} (h : d < 256 ^ 64) : (manOf 1 k ld d).layers[0]? = some { off := 0, len := 32, fmt := 0, digest := d } := by
  have hc : (manOf 1 k ld d).layerCount = 1 := byteField_bytes0 _ rfl (by norm_num)
  have ht : (manOf 1 k ld d).table = bytes [(8, 0), (8, 32), (1, 0), (7, 0), (64, d)] := by simp [manOf, bytes]
  unfold Manifest.layers
  rw [hc]
  show some (Manifest.layer _ 0) = _
  unfold Manifest.layer
  rw [ht, byteField_bytes0 _ rfl (show 0 < _ by norm_num), byteField_bytes0 _ rfl (show 32 < _ by norm_num), byteField_bytes0 _ rfl (show 0 < _ by norm_num),
    byteField_bytes0 _ rfl h]
def man : Manifest := manOf 1 0 0 5
def ready (n : Nat) : State := { st [] with plinth := [(n, { state := 2, manifest := man })] }
def pkgTok (act : Nat) (m : Manifest) : PlinthToken :=
  { bytes := bytes [(4, 0x544C5051), (1, act), (1, 0), (2, 3), (8, ownKeyId), (16, 11), (8, 0x600000005), (8, 0), (64, m.sha), (64, 0)], signedBy := 0x600000005 }
theorem pkgTok_device (a : Nat) (m : Manifest) : (pkgTok a m).deviceKeyId = ownKeyId := byteField_bytes0 _ rfl (BitVec.isLt _)
theorem pkgTok_digest (a : Nat) (m : Manifest) : (pkgTok a m).manifestDigest = m.sha := byteField_bytes0 _ rfl (sha512_lt _)
def opL : List (Fld × Nat × Nat) := [(.PLINTH_NONCE, 0, 11), (.SEC_STATUS_OPERATOR, 0, 1), (.SEC_OPERATOR_ID_LO, 0, 5), (.SEC_OPERATOR_ID_HI, 0, 6)]
def insMan : Manifest := manOf 1 7 (sha512 (manOf 1 7 0 5).table) 5
def insSt : State := { st opL with plinthNonce := true, thimble := { eid := 8, publishers := [7] } }
def delSt : State := { st opL with plinthNonce := true, plinth := [(3, { state := 2, manifest := man })] }
def instSt (d : Nat) : State := { st [(.PLINTH_STATUS_OP, 0, 1)] with plinthOp := 3, plinth := [(3, { state := 1, manifest := manOf 1 0 0 d })] }
def plPkt (bad : List Nat) : Pkt := { op := .memRead, dstNode := 77, handle := 3, addr := 4096, len := 32, bad := bad }
/-- Partition 0 runs with binding 9 to object 3, and replaces it by object 4. -/
def repSt (stt : Nat) (r : Repl) (l : List (Fld × Nat × Nat) := []) : State := { hbm ([(.REPL_STATUS_STATE, 0, stt)] ++ l) with plinth := [(3, { state := 2, manifest := man }), (4, { state := 2, manifest := man })], binds := [(9, 1 + 3 * 2 ^ 8)], repls := [(0, r)] }

/-- The hypotheses of each clause of Obligations.HbmAccesses are met. -/
theorem witness_HbmAccesses :
    (∃ (k : Pkt) (s : State), (s.lands { k with op := .memWrite }) ∧ (s.stackState (nodeStack k.dstNode) = stackReady) ∧ ((s.stack (nodeStack k.dstNode)).waiting = []) ∧ (s.chanServes (nodeStack k.dstNode) (pseudoCh k.addr)) ∧ (s.heldLines (.pkt { k with op := .memWrite } 0) = []) ∧ (k.bad = []) ∧ (k.srcRank = s.ownRank k.part)) ∧
    (∃ (k : Pkt) (odecc : Nat) (s : State), (s.lands { k with op := .memRead }) ∧ (s.stackState (nodeStack k.dstNode) = stackReady) ∧ ((s.stack (nodeStack k.dstNode)).waiting = []) ∧ (s.chanServes (nodeStack k.dstNode) (pseudoCh k.addr)) ∧ (s.heldLines (.pkt { k with op := .memRead } odecc) = []) ∧ (k.bad = []) ∧ (s.hbmBad = []) ∧ (k.srcRank = s.ownRank k.part)) ∧
    (∃ (k : Pkt) (odecc : Nat) (s : State), (s.lands { k with op := .memRead }) ∧ (s.stackState (nodeStack k.dstNode) = stackReady) ∧ ((s.stack (nodeStack k.dstNode)).waiting = []) ∧ (s.chanServes (nodeStack k.dstNode) (pseudoCh k.addr)) ∧ (s.heldLines (.pkt { k with op := .memRead } odecc) = []) ∧ ((s.hbmFound (nodeStack k.dstNode) k.addr k.len k.bad).any uncorrectable) ∧ (k.srcRank = s.ownRank k.part)) ∧
    (∃ (k : Pkt) (s : State), (s.lands { k with op := .memWrite }) ∧ (s.lands { k with op := .memRead }) ∧ (s.stackState (nodeStack k.dstNode) = stackFailed) ∧ ((s.stack (nodeStack k.dstNode)).waiting = []) ∧ (k.srcRank = s.ownRank k.part)) ∧
    (∃ (k : Pkt) (s : State), (s.lands { k with op := .memWrite }) ∧ (s.heldLines (.pkt { k with op := .memWrite } 0) = []) ∧ ((s.stack (nodeStack k.dstNode)).waiting = []) ∧ ((s.stackState (nodeStack k.dstNode) = stackRinse ∨ (s.stackState (nodeStack k.dstNode) = stackReady ∧ s.chanServes (nodeStack k.dstNode) (pseudoCh k.addr) = false)))) ∧
    (∃ (r : HdmReq) (s : State), (s.flag .HOST_LINK_MEM_ON) ∧ (s.thimble.romRecovery = false) ∧ (r.addr < 1280000000000) ∧ (s.hdmServed r) ∧ (r.caches = false) ∧ (r.bad = []) ∧ (s.stackState (hdmStack r.addr) = stackReady) ∧ ((s.stack (hdmStack r.addr)).waiting = []) ∧ (s.chanServes (hdmStack r.addr) (pseudoCh (hdmAddr r.addr))) ∧ (r.write)) ∧
    (∃ (r : HdmReq) (s : State), (s.flag .HOST_LINK_MEM_ON) ∧ (s.thimble.romRecovery = false) ∧ (r.addr < 1280000000000) ∧ (s.hdmServed r) ∧ (r.caches = false) ∧ (r.bad = []) ∧ (s.stackState (hdmStack r.addr) = stackReady) ∧ ((s.stack (hdmStack r.addr)).waiting = []) ∧ (s.chanServes (hdmStack r.addr) (pseudoCh (hdmAddr r.addr))) ∧ (r.write = false) ∧ (s.hbmBad = [])) ∧
    (∃ (r : HdmReq) (s : State), (s.flag .HOST_LINK_MEM_ON) ∧ (s.thimble.romRecovery = false) ∧ (r.addr < 1280000000000) ∧ (s.hdmServed r = false)) ∧
    (∃ (r : HdmReq) (s : State), (s.flag .HOST_LINK_MEM_ON) ∧ (s.thimble.romRecovery = false) ∧ (1280000000000 ≤ r.addr)) ∧
    (∃ (s : State), ((s.flag .HOST_LINK_MEM_ON = false ∨ s.thimble.romRecovery))) ∧
    (∃ (n : Nat) (b : Nat) (s : State), ((b / 64, true) ∈ s.filter n b) ∧ ((s.stack n).waiting = []) ∧ (s.hdmClosing = [])) := ⟨
  ⟨hPkt .write, hbm, by decide +kernel⟩,
  ⟨hPkt .readReq, 5, hbm, by decide +kernel⟩,
  ⟨{ hPkt .readReq with bad := [0, 3] }, 5, hbm, by decide +kernel⟩,
  ⟨hPkt .write, st [(.HBM_STATUS_STATE, 0, 5)], by decide +kernel⟩,
  ⟨hPkt .write, { hbm with hbmStacks := [(0, { refresh := [(0, 1)] })] }, by decide +kernel⟩,
  ⟨hs64 true, mapd (hbm [(.HBM_SLICE_HDM_MODE, 0, 1)]), by decide +kernel⟩,
  ⟨hs64 false, mapd (hbm [(.HBM_SLICE_HDM_MODE, 0, 1)]), by decide +kernel⟩,
  ⟨{ addr := 1279999999936 }, mapd (hbm []), by decide +kernel⟩,
  ⟨{ addr := 1280000000000 }, mapd (hbm []), by decide +kernel⟩,
  ⟨st [], by decide +kernel⟩,
  ⟨0, 64, { hbm with snoop := [(0, [(1, true), (2, false)])] }, by decide +kernel⟩⟩

/-- The hypotheses of each clause of Obligations.HbmUpkeep are met. -/
theorem witness_HbmUpkeep :
    (∃ (n : Nat) (pc : Nat) (s : State), (s.stackState n = stackReady) ∧ (s.now / 64 % s.refreshNs n = 120 * pc % s.refreshNs n) ∧ ((s.stack n).waiting = [])) ∧
    (∃ (c : Nat), (c < 256)) ∧
    (∃ (n : Nat) (s : State), (s.stackState n = stackReady) ∧ (s.now / 64 % 100000000 = n * 6250000)) ∧
    (∃ (n : Nat) (l : List (Nat × Bool)) (s : State), (s.stackState n = stackRinse) ∧ ((s.stack n).waiting = []) ∧ ((s.stack n).fails = []) ∧ ((∀ e ∈ l, e.2))) ∧
    (∃ (n : Nat) (pc : Nat) (p : Nat) (j : Nat) (s : State), (s.stackState n = stackRinse) ∧ ((s.stack n).waiting = []) ∧ (bankGet 0 (s.stack n).fails pc = 7) ∧ (p < 16) ∧ (j < 16) ∧ (s.sliceOwner (16 * j + n) = some p) ∧ (s.pstate p ≠ .idle)) ∧
    (∃ (n : Nat) (w : Nat) (s : State), (s.flag .HBM_SCRUB_EN n) ∧ (s.stackState n = stackReady) ∧ (s.chanServes n (pseudoCh (w * 32))) ∧ ((s.stack n).waiting = []) ∧ ((s.stack n).scrubbed + 1 < stackWords)) ∧
    (∃ (n : Nat) (w : Nat) (s : State), (hbmWord n (w * 32) ∈ s.hbmFix)) ∧
    (∃ (p : Nat) (s : State), (bankGet 0 s.hbmKeyReq p ≠ 0) ∧ (s.hbmBusy p = false) ∧ ((s.partExists p = false ∨ s.pstate p = .idle)) ∧ (p < 16)) ∧
    (∃ (party : Party), (party ≠ .mgmt)) ∧
    (∃ (party : Party) (sl : Nat) (s : State), (party ≠ .mgmt) ∧ (s.sliceOpen sl) ∧ (s.snoop = []) ∧ (s.hdmClosing = [])) := ⟨
  ⟨0, 31, { hbm with raw := 120 * 31 * 64 }, by decide +kernel⟩,
  ⟨84, by decide +kernel⟩,
  ⟨15, { st [(.HBM_STATUS_STATE, 15, 2)] with raw := 15 * 6250000 * 64 }, by decide +kernel⟩,
  ⟨0, [(30, true)], st [(.HBM_STATUS_STATE, 0, 3)], by decide +kernel⟩,
  ⟨0, 31, 5, 0, { hbm [(.PLAN_STATUS_STATE, 5, 3)] with regs := (Fld.key .HBM_STATUS_STATE 0 0, 3) :: (Fld.key .HBM_SLICE_PARTITION 0 0, 5) :: (hbm [(.PLAN_STATUS_STATE, 5, 3)]).regs, hbmStacks := [(0, { fails := [(31, 7)] })] }, by decide +kernel⟩,
  ⟨0, 2499999999, hbm [(.HBM_SCRUB_EN, 0, 1)], by decide +kernel⟩,
  ⟨0, 5, { hbm with hbmFix := [5], hbmBad := [(5, 1)] }, by decide +kernel⟩,
  ⟨0, { hbm [] with hbmKeyReq := [(0, 2)], mem := { State.reset.mem with hbm := [(5, 9)] } }, by decide +kernel⟩,
  ⟨.host, by decide +kernel⟩,
  ⟨.host, 255, withE (st []) [(.HBM_SLICE_HDM_MODE, 15, 15, 1)], by decide +kernel⟩⟩

/-- The hypotheses of each clause of Obligations.PlinthStore are met. -/
theorem witness_PlinthStore :
    (∃ (k : Pkt) (s : State), (s.lands k) ∧ (s.upkeepDie ≠ k.dstNode - 76) ∧ (k.srcRank = s.ownRank k.part) ∧ (k.bad = [])) ∧
    (∃ (k : Pkt) (s : State), (s.lands k) ∧ (s.upkeepDie ≠ k.dstNode - 76) ∧ (k.srcRank = s.ownRank k.part) ∧ (k.bad.any uncorrectable)) ∧
    (∃ (k : Pkt) (s : State), (s.lands k) ∧ (s.upkeepDie = k.dstNode - 76)) ∧
    (∃ (j : Nat) (k : Pkt) (s : State), (s.now / 64 % 4000 = 1000 * j) ∧ (s.plinthWait = [k]) ∧ (k.dstNode ≠ 76 + j) ∧ (k.bad = []) ∧ (k.srcRank = s.ownRank k.part)) ∧
    (∃ (p : PlinthPackage) (s : State), (s.fld .PLINTH_STATUS_OP = 0) ∧ (s.installCode p = 0)) ∧
    (∃ (s : State), (s.fld .PLINTH_STATUS_OP = 0) ∧ (s.plinthNonce = false)) ∧
    (∃ (s : State), (s.fld .PLINTH_STATUS_OP ≠ 0)) ∧
    (∃ (data : List Byte) (e : LayerEntry) (s : State), (s.fld .PLINTH_STATUS_OP = plinthInstalling) ∧ ((s.obj s.plinthOp).state = objWriting) ∧ ((s.obj s.plinthOp).manifest.layers[(s.obj s.plinthOp).written]? = some e) ∧ (sha512 data = e.digest) ∧ (data.length = e.len)) ∧
    (∃ (data : List Byte) (e : LayerEntry) (s : State), (s.fld .PLINTH_STATUS_OP = plinthInstalling) ∧ ((s.obj s.plinthOp).state = objWriting) ∧ ((s.obj s.plinthOp).manifest.layers[(s.obj s.plinthOp).written]? = some e) ∧ ((data.length ≠ e.len ∨ sha512 data ≠ e.digest))) ∧
    (∃ (d : PlinthToken) (s : State), (s.fld .PLINTH_STATUS_OP = 0) ∧ (s.deleteCode d = 0)) ∧
    (∃ (n : Nat) (s : State), ((s.obj n).state = objErasing) ∧ (s.fld .PLINTH_STATUS_OP = plinthDeleting) ∧ (s.plinthOp = n)) ∧
    (∃ (n : Nat) (layer : Nat) (s : State), (s.flag .PLINTH_CTRL_AUDIT_EN) ∧ ((s.obj n).state = objReady) ∧ (layer < (s.obj n).manifest.layerCount)) ∧
    (∃ (n : Nat) (layer : Nat) (s : State), (s.flag .PLINTH_CTRL_AUDIT_EN) ∧ ((s.obj n).state = objReady) ∧ (layer < (s.obj n).manifest.layerCount) ∧ (s.fld .PLINTH_ERROR_CODE = 0)) := ⟨
  ⟨plPkt [], st [], by decide +kernel⟩,
  ⟨plPkt [2, 3], st [], by decide +kernel⟩,
  ⟨{ plPkt [] with dstNode := 76 }, st [], by decide +kernel⟩,
  ⟨3, plPkt [], { st [] with raw := 3000 * 64, plinthWait := [plPkt []] }, by decide +kernel⟩,
  ⟨{ token := pkgTok 1 insMan, manifest := insMan }, insSt, by decide +kernel, by unfold State.installCode; rw [if_neg (by simp only [State.plinthTokenOk, pkgTok_device, decide_true, Bool.and_true]; decide +kernel), if_neg (by decide +kernel), if_neg (by rw [pkgTok_digest]; exact not_not.2 rfl), if_neg (by decide +kernel), if_neg (by decide +kernel), if_neg (by decide +kernel), if_neg (by rw [show insMan.layersDigest = sha512 insMan.table from manOf_layersDigest 1 7 5 (sha512_lt _)]; simp only [ne_eq, not_true, decide_false, Bool.false_or]; decide +kernel), if_neg (by decide +kernel)]⟩,
  ⟨st [], by decide +kernel⟩,
  ⟨st [(.PLINTH_STATUS_OP, 0, 1)], by decide +kernel⟩,
  ⟨List.replicate 32 1, { off := 0, len := 32, fmt := 0, digest := sha512 (List.replicate 32 1) }, instSt (sha512 (List.replicate 32 1)), by decide +kernel, by decide +kernel, manOf_layer 0 0 (sha512_lt _), rfl, rfl⟩,
  ⟨[], { off := 0, len := 32, fmt := 0, digest := 5 }, instSt 5, by decide +kernel⟩,
  ⟨pkgTok 2 man, delSt, by decide +kernel, by unfold State.deleteCode; rw [if_neg (by simp only [State.plinthTokenOk, pkgTok_device, decide_true, Bool.and_true]; decide +kernel), if_neg (by decide +kernel), if_neg (by rw [pkgTok_digest]; exact not_not.2 rfl), if_neg (by decide +kernel)]⟩,
  ⟨3, { st [(.PLINTH_STATUS_OP, 0, 2)] with plinthOp := 3, plinth := [(3, { state := 4, manifest := man })] }, by decide +kernel⟩,
  ⟨3, 0, { ready 3 with regs := (Fld.key .PLINTH_CTRL_AUDIT_EN 0 0, 1) :: (ready 3).regs }, by decide +kernel⟩,
  ⟨3, 0, { ready 3 with regs := (Fld.key .PLINTH_CTRL_AUDIT_EN 0 0, 1) :: (ready 3).regs }, by decide +kernel⟩⟩

/-- The hypotheses of each clause of Obligations.PlinthBindings are met. -/
theorem witness_PlinthBindings :
    (∃ (party : Party) (w0 : Nat) (w1 : Nat) (w2 : Nat) (w3 : Nat) (s : State), (party ≠ .mgmt) ∧ (w3 < 2 ^ 32) ∧ (bankGet 0 s.held (pairKey .host bindAddr) = w0 + 1) ∧ (bankGet 0 s.held (pairKey .host (bindAddr + 4)) = w1 + 1) ∧ (bankGet 0 s.held (pairKey .host (bindAddr + 8)) = w2 + 1) ∧ (let n := s.fld .BIND_INDEX_INDEX; (let v := w0 + w1 * 2 ^ 32 + w2 * 2 ^ 64 + w3 * 2 ^ 96; (s.bindRefused n v = false)))) ∧
    (∃ (party : Party) (w0 : Nat) (w1 : Nat) (w2 : Nat) (w3 : Nat) (s : State), (party ≠ .mgmt) ∧ (w3 < 2 ^ 32) ∧ (bankGet 0 s.held (pairKey .host bindAddr) = w0 + 1) ∧ (bankGet 0 s.held (pairKey .host (bindAddr + 4)) = w1 + 1) ∧ (bankGet 0 s.held (pairKey .host (bindAddr + 8)) = w2 + 1) ∧ (let n := s.fld .BIND_INDEX_INDEX; (let v := w0 + w1 * 2 ^ 32 + w2 * 2 ^ 64 + w3 * 2 ^ 96; (s.bindRefused n v)))) ∧
    (∃ (party : Party) (p : Nat) (s : State), (party ≠ .mgmt) ∧ (s.replState p ≠ replWriting)) ∧
    (∃ (p : Nat) (desc : List (Nat × Bool × Nat)) (s : State), ((s.repl p).fetching) ∧ (s.replState p ≠ replStopped) ∧ (s.replArmCode p (s.fld .REPL_BIND_BIND p) (s.fld .REPL_BIND_NEW_OBJECT p) desc = 0)) ∧
    (∃ (p : Nat) (c : Nat) (desc : List (Nat × Bool × Nat)) (s : State), ((s.repl p).fetching) ∧ (s.replState p ≠ replStopped) ∧ (s.replArmCode p (s.fld .REPL_BIND_BIND p) (s.fld .REPL_BIND_NEW_OBJECT p) desc = c) ∧ (c ≠ 0)) ∧
    (∃ (p : Nat) (s : State), (s.replDue p) ∧ (s.planTick p + 1 ∉ (s.part p).sentHolds)) ∧
    (∃ (p : Nat) (a : Nat) (e : LayerEntry) (s : State), (s.replState p = replWriting) ∧ ((s.repl p).desc[s.replNext p]? = some (true, a)) ∧ ((s.obj (s.repl p).newObject).manifest.layers[s.replNext p]? = some e) ∧ (e.len ≤ 2 ^ 41) ∧ (a + e.len ≤ s.hbmSpace p) ∧ (s.replNext p < 2 ^ 13) ∧ (s.replNext p + 1 < s.replLayers p) ∧ (s.replCut p = false) ∧ (1 < (s.repl p).stepLeft) ∧ (s.hbmOpen p a e.len) ∧ (s.failedIn p a e.len = false)) ∧
    (∃ (p : Nat) (s : State), (s.replState p = replWriting) ∧ (s.replLayers p ≤ s.replNext p + 1) ∧ ((s.repl p).held = none) ∧ ((s.repl p).newObject < 1024) ∧ (s.hbmOpen p (s.replRegion p).1 (s.replRegion p).2)) ∧
    (∃ (p : Nat) (s : State), (s.replState p = replWriting) ∧ ((s.pstate p).active) ∧ (s.hbmOpen p (s.replRegion p).1 (s.replRegion p).2)) ∧
    (∃ (p : Nat) (s : State), (s.replState p = replWriting) ∧ (s.hbmOpen p (s.replRegion p).1 (s.replRegion p).2 = false)) ∧
    (∃ (party : Party) (p : Nat) (s : State), (party ≠ .mgmt) ∧ (s.replState p = replArmed)) ∧
    (∃ (party : Party) (p : Nat) (s : State), (party ≠ .mgmt) ∧ (s.replState p = replWriting)) ∧
    (∃ (party : Party) (p : Nat) (s : State), (party ≠ .mgmt) ∧ (s.replState p = replStopped) ∧ (s.pstate p = .stopped)) := ⟨
  ⟨.host, 1 + 3 * 2 ^ 8, 0, 0, 0, { ready 3 with held := [(pairKey .host bindAddr, 2 + 3 * 2 ^ 8), (pairKey .host (bindAddr + 4), 1), (pairKey .host (bindAddr + 8), 1)] }, by decide +kernel⟩,
  ⟨.host, 1 + 4 * 2 ^ 8, 0, 0, 0, { ready 3 with held := [(pairKey .host bindAddr, 2 + 4 * 2 ^ 8), (pairKey .host (bindAddr + 4), 1), (pairKey .host (bindAddr + 8), 1)] }, by decide +kernel⟩,
  ⟨.host, 15, st [], by decide +kernel⟩,
  ⟨0, [(0, true, 64)], repSt 0 { fetching := true } [(.PLAN_STATUS_STATE, 0, 1), (.REPL_BIND_BIND, 0, 9), (.REPL_BIND_NEW_OBJECT, 0, 4)], by decide +kernel⟩,
  ⟨0, E_PLINTH_RANGE, [(0, true, 63)], repSt 0 { fetching := true } [(.PLAN_STATUS_STATE, 0, 1), (.REPL_BIND_BIND, 0, 9), (.REPL_BIND_NEW_OBJECT, 0, 4)], by decide +kernel⟩,
  ⟨0, { repSt 1 { desc := [(true, 64)], bind := 9, newObject := 4 } [(.PLAN_STATUS_STATE, 0, 3)] with parts := [(0, { completed := 1 })] }, by decide +kernel⟩,
  ⟨0, 64, { off := 0, len := 32, fmt := 0, digest := 5 }, { repSt 2 { desc := [(true, 64), (true, 96)], bind := 9, newObject := 4, stepLeft := 2 } [(.PLAN_STATUS_STATE, 0, 3)] with plinth := [(4, { state := 2, manifest := manOf 2 0 0 5 })], mem := { State.reset.mem with plinthData := [(plinthKey 4 5, 77)] } }, by decide +kernel⟩,
  ⟨0, repSt 2 { desc := [(true, 64)], bind := 9, newObject := 4 } [(.PLAN_STATUS_STATE, 0, 3)], by decide +kernel⟩,
  ⟨0, repSt 2 { desc := [(true, 64)], bind := 9, newObject := 4 } [(.PLAN_STATUS_STATE, 0, 3)], by decide +kernel⟩,
  ⟨0, { repSt 2 { desc := [(true, 64)], bind := 9, newObject := 4 } [(.PLAN_STATUS_STATE, 0, 3)] with domains := [] }, by decide +kernel⟩,
  ⟨.host, 0, repSt 1 {}, by decide +kernel⟩,
  ⟨.host, 0, repSt 2 {}, by decide +kernel⟩,
  ⟨.host, 0, repSt 4 { newObject := 4 } [(.PLAN_STATUS_STATE, 0, 5)], by decide +kernel⟩⟩

end MemoryW

/-! ### Witnesses: HostW -/
namespace HostW

/-- Partition 0 serves: two blocks of table, one decode slot of 8 tokens, HBM in slice 0. -/
def srv (x : Srv) (l : List (Fld × Nat × Nat) := []) : State := { st (l ++ [(.PLAN_STATUS_STATE, 0, 1), (.SRV_GEOM0_DEC_SLOTS, 0, 1), (.SRV_GEOM0_DEC_SLOT_TOKENS, 0, 8), (.SRV_GEOM2_SEQ_MAX, 0, 2), (.SRV_GEOM2_SEQ_BASE, 0, 5), (.SRV_KV_CFG_BLOCK_LOG2, 0, 4), (.SRV_KV_CFG_MAX_BLOCKS_PER_SEQ, 0, 8), (.SRV_KV_BLOCKS, 0, 16), (.SRV_VOCAB, 0, 2), (.HBM_SLICE_OWNED, 0, 1), (.HBM_SLICE_PARTITION, 0, 0), (.HBM_STATUS_STATE, 0, 2)]) with srvs := [(0, x)], domains := [(chanDom 0 0, { st := .on })] }
def dsc : ReqDesc := { reqId := 77, promptLen := 8, maxNew := 8, temperature := 0, topP := 0x3F800000, minP := 0, repPenalty := 0x3F800000, op := 1 }
def sq : Seq := { num := 5, desc := dsc, slot := 0, blocks := [0], gen := true }
def pl : Placement := { tick := 0, engine := 0, slot := 0, seq := 5, gen := true }
def row : Pkt := { op := .sampleData, part := 0, len := 2, code := 12, addr := 1, data := leBytes 4 0x3F800000 ++ leBytes 4 0x40000000, sub := 2 }
def ring : List (Fld × Nat × Nat) := [(.Q_STATUS_STATE, 80, 1), (.Q_CFG_SIZE_LOG2, 80, 4), (.Q_BASE_LO, 80, 4096)]
def dmaOn (s : State) : State := { s with host := { busMaster := true } }
def cmdSt (c : HostCmd) (l : List (Fld × Nat × Nat) := []) : State := { st ([(.Q_STATUS_STATE, 0, 1), (.Q_CFG_SIZE_LOG2, 0, 4), (.Q_BASE_LO, 0, 4096), (.HBM_SLICE_OWNED, 0, 1), (.HBM_SLICE_PARTITION, 0, 0), (.HBM_STATUS_STATE, 0, 2)] ++ l) with host := { busMaster := true, queues := [(0, { cmd := some c })] }, domains := [(chanDom 0 0, { st := .on })] }
def loadL : List (Fld × Nat × Nat) := [(.SLOT_STATUS_STATE, 0, 1), (.SLOT_CFG_JOB_TAG, 0, 7), (.SLOT_PORTS0, 0, 3), (.ARM_PART_PORTS, 0, 3)]
def img : PlanImage := { cores := [{ core := 5, prog := [.fin], prm := [(63, 9)], handles := [(0, 3 * 2 ^ 48 + 2 ^ 32 + 2 ^ 10)] }], exchangePorts := 1, jobTag := 7, vocab := 1048576 }

/-- The hypotheses of each clause of Obligations.ServingRequests are met. -/
theorem witness_ServingRequests :
    (∃ (q : Nat) (s : State), (qIsReq q) ∧ (s.qUsed q ≠ 0) ∧ (s.dma) ∧ (s.qState q = qRunning) ∧ (s.storeFull (qPart q) = false)) ∧
    (∃ (party : Party) (p : Nat) (hi : Nat) (v : Nat) (s : State), (party ≠ .mgmt) ∧ ((s.commitPair party (srvAddr p 0x24) (s.fld .SRV_ADMIT_THROUGH_LO p) hi).1 = v) ∧ (s.fld64 .SRV_ADMIT_THROUGH_LO .SRV_ADMIT_THROUGH_HI p ≤ v)) ∧
    (∃ (party : Party) (p : Nat) (hi : Nat) (v : Nat) (s : State), (party ≠ .mgmt) ∧ ((s.commitPair party (srvAddr p 0x24) (s.fld .SRV_ADMIT_THROUGH_LO p) hi).1 = v) ∧ (v < s.fld64 .SRV_ADMIT_THROUGH_LO .SRV_ADMIT_THROUGH_HI p)) ∧
    (∃ (party : Party) (p : Nat) (v : Nat) (s : State), (party ≠ .mgmt) ∧ (s.srvWritable p) ∧ ((v.testBit 0 = false ∨ s.fld .EXCHANGE_PORTS p = 0))) ∧
    (∃ (party : Party) (p : Nat) (s : State), (party ≠ .mgmt) ∧ (s.srvWritable p = false) ∧ (s.fld .SRV_ERROR_CODE p = 0)) ∧
    (∃ (party : Party) (p : Nat) (s : State), (party ≠ .mgmt) ∧ (s.srvWritable p)) ∧
    (∃ (party : Party) (p : Nat) (v : Nat) (s : State), (party ≠ .mgmt) ∧ (s.srvWritable p) ∧ (v % 2 ^ 21 ≠ 0) ∧ (v % 2 ^ 21 ≤ 1048576)) ∧
    (∃ (party : Party) (p : Nat) (v : Nat) (s : State), (party ≠ .mgmt) ∧ (s.srvWritable p) ∧ (4 ≤ v % 16) ∧ (v % 16 ≤ 10) ∧ (v / 16 % 8192 ≠ 0) ∧ (v / 16 % 8192 ≤ 4096) ∧ (s.kvRegionOk p (s.kvTable p) (v / 16 % 8192))) := ⟨
  ⟨16, dmaOn (srv {} [(.Q_STATUS_STATE, 16, 1), (.Q_INDEX_PI, 16, 1)]), by decide +kernel⟩,
  ⟨.host, 0, 0, 9, { srv {} with held := [(pairKey .host (srvAddr 0 0x24), 10)] }, by decide +kernel⟩,
  ⟨.host, 0, 0, 9, { srv {} [(.SRV_ADMIT_THROUGH_LO, 0, 10)] with held := [(pairKey .host (srvAddr 0 0x24), 10)] }, by decide +kernel⟩,
  ⟨.host, 0, 0x1FFF, srv {}, by decide +kernel⟩,
  ⟨.host, 1, srv {} [(.PLAN_STATUS_STATE, 1, 3)], by decide +kernel⟩,
  ⟨.host, 0, srv {}, by decide +kernel⟩,
  ⟨.host, 0, 1048576, srv {}, by decide +kernel⟩,
  ⟨.host, 0, 10 + 4096 * 16, srv {}, by decide +kernel⟩⟩

/-- The hypotheses of each clause of Obligations.ServingTicks are met. -/
theorem witness_ServingTicks :
    (∃ (p : Nat) (s : State), (s.storeStuck p = false) ∧ (s.buildReady p)) ∧
    (∃ (p : Nat) (r : SrvReq) (s : State), (s.buildReady p) ∧ (s.arrivalMode p = false) ∧ ((s.srv p).store = [r]) ∧ ((s.srv p).seqs = []) ∧ ((s.srv p).places = []) ∧ (r.desc.op ≠ 2) ∧ (r.desc.tickAt ≤ (s.srv p).next) ∧ (s.rejectWhy p (s.srv p).next r = 0) ∧ (s.kvNeed p r.desc ≤ s.kvFree p)) ∧
    (∃ (p : Nat) (why : Nat) (r : SrvReq) (s : State), (s.buildReady p) ∧ (s.arrivalMode p = false) ∧ ((s.srv p).store = [r]) ∧ ((s.srv p).seqs = []) ∧ ((s.srv p).places = []) ∧ (r.desc.op ≠ 2) ∧ (r.desc.tickAt ≤ (s.srv p).next) ∧ (s.rejectWhy p (s.srv p).next r = why) ∧ (why ≠ 0)) ∧
    (∃ (p : Nat) (seq : Nat) (n : Nat) (q : Seq) (s : State), ((s.srv p).seqs.find? (fun o => o.num = seq && !o.acked) = some q) ∧ (n = kvStride (s.fld .SRV_KV_CFG_MAX_BLOCKS_PER_SEQ p)) ∧ ((s.kvTable p + (seq - s.fld .SRV_GEOM2_SEQ_BASE p) * n) + n ≤ s.hbmSpace p) ∧ (s.hbmOpen p (s.kvTable p + (seq - s.fld .SRV_GEOM2_SEQ_BASE p) * n) n) ∧ (s.failedIn p (s.kvTable p + (seq - s.fld .SRV_GEOM2_SEQ_BASE p) * n) n = false)) ∧
    (∃ (p : Nat) (seq : Nat) (q : Seq) (s : State), ((s.srv p).seqs.find? (fun o => o.num = seq && !o.acked) = some q) ∧ (s.fld .SRV_ERROR_CODE p = 0) ∧ ((s.pstate p).active)) ∧
    (∃ (p : Nat) (v : Nat) (s : State), ((s.srv p).building = some v) ∧ ((∀ y ∈ (s.srv p).places, y.tick = v → ∀ q ∈ (s.srv p).seqs, q.num = y.seq → q.acked))) ∧
    (∃ (k : Pkt) (y : Placement) (q : Seq) (f : Fmt) (v : Nat) (s : State), (s.sharedPaused = false) ∧ (s.fld .SLEEVE_STATUS_STATE ≠ 2) ∧ (k.bad = []) ∧ ((s.srv k.part).rowsDue ≠ 0) ∧ (k.len = s.fld .SRV_VOCAB k.part) ∧ (s.recordWaits k.part = false) ∧ (s.slotReg k.part k.tick (k.srcNode * 96 + k.srcUnit) k.addr = some v) ∧ (v ≠ 0xFFFFFFFF) ∧ (fmtOf k.code = some f) ∧ (s.named k.part k.tick v = some y) ∧ (y.needs) ∧ (y.result = none) ∧ ((s.srv k.part).seqs.find? (fun o => o.num = y.seq) = some q) ∧ (let r := sampleLogits q.desc q.tokens ((List.range k.len).map (fun i => decodeElem f (elemBits f (leNat k.data) i))); (r.tokenOpen = false) ∧ (r.lpOpen = false))) ∧
    (∃ (k : Pkt) (s : State), (s.sharedPaused = false) ∧ (s.fld .SLEEVE_STATUS_STATE ≠ 2) ∧ (k.bad = []) ∧ ((s.srv k.part).rowsDue ≠ 0) ∧ (k.len ≠ s.fld .SRV_VOCAB k.part) ∧ (k.round = 0) ∧ (s.fld .SRV_ERROR_CODE k.part = 0) ∧ ((s.pstate k.part).active)) ∧
    (∃ (p : Nat) (y : Placement) (s : State), ((s.srv p).rowsDue = 0) ∧ (s.fld .SRV_ERROR_CODE p = 0) ∧ ((s.pstate p).active) ∧ ((s.srv p).places.find? (fun y => y.needs && y.result.isNone && y.tick + s.srvLag p ≤ (s.part p).completed && (s.srv p).seqs.any (fun q => q.num = y.seq)) = some y)) ∧
    (∃ (p : Nat) (r : Rec) (l : List Rec) (s : State), ((s.srv p).records = r :: l) ∧ (s.ringRoom p) ∧ (s.flag .Q_CFG_IRQ_EN (80 + p) = false)) := ⟨
  ⟨0, srv {}, by decide +kernel⟩,
  ⟨0, { queue := 0, num := 0, desc := dsc }, srv { store := [{ queue := 0, num := 0, desc := dsc }] }, by decide +kernel⟩,
  ⟨0, whyBad, { queue := 0, num := 0, desc := { dsc with maxNew := 0 } }, srv { store := [{ queue := 0, num := 0, desc := { dsc with maxNew := 0 } }] }, by decide +kernel⟩,
  ⟨0, 5, 32, sq, srv { seqs := [sq] }, by decide +kernel⟩,
  ⟨0, 5, sq, srv { seqs := [sq] } [(.PLAN_STATUS_STATE, 0, 3)], by decide +kernel⟩,
  ⟨0, 3, srv { building := some 3, seqs := [{ sq with acked := true }], places := [{ pl with tick := 3 }] }, by decide +kernel⟩,
  ⟨row, pl, sq, .fp32, 5, dmaOn (srv { seqs := [sq], places := [pl], rowsDue := 1, banks := [(0, [(1, 5)])] } ring), by decide +kernel⟩,
  ⟨{ row with len := 3 }, srv { rowsDue := 1 } [(.PLAN_STATUS_STATE, 0, 3)], by decide +kernel⟩,
  ⟨0, pl, { srv { seqs := [sq], places := [pl] } [(.PLAN_STATUS_STATE, 0, 3)] with parts := [(0, { completed := 8 })] }, by decide +kernel⟩,
  ⟨0, { reqId := 77, tick := 3 }, [], dmaOn (srv { records := [{ reqId := 77, tick := 3 }] } ring), by decide +kernel⟩⟩

/-- The hypotheses of each clause of Obligations.HostLink are met. -/
theorem witness_HostLink :
    (∃ (mode : Nat) (rate : Nat) (lanes : Nat) (s : State), ((mode, rate) ∈ hostModes) ∧ (0 < lanes) ∧ ((mode = 1 ∨ s.fld .STRAP_READ_HOST_MODE = 0))) ∧
    (∃ (s : State), (s.flag .HOST_ERROR_INFO_VALID = false)) ∧
    (∃ (s : State), (s.fld .HOST_LINK_MODE ≠ 0) ∧ (s.host.ready = false) ∧ (s.thimble.romRecovery = false)) ∧
    (∃ (s : State), (s.fld .HOST_LINK_MODE ≠ 0) ∧ (s.host.ready) ∧ (s.thimble.romRecovery = false)) ∧
    (∃ (s : State), (s.fld .HOST_LINK_MODE ≠ 0) ∧ (s.host.ready) ∧ (s.thimble.romRecovery = false)) ∧
    (∃ (s : State), (s.fld .HOST_LINK_MODE ≠ 0) ∧ (s.host.ready) ∧ (s.thimble.romRecovery = false)) ∧
    (∃ (s : State), (s.fld .HOST_LINK_MODE ≠ 0) ∧ (s.host.ready) ∧ (s.thimble.romRecovery = false)) ∧
    (∃ (s : State), (s.flag .HOST_ERROR_INFO_VALID = false)) ∧
    (∃ (s : State), (s.thimble.romRecovery = false)) ∧
    (∃ (len : Nat) (s : State), (s.host.doeUnread = []) ∧ (s.thimble.romRecovery = false) ∧ (len ≤ 65536)) ∧
    (∃ (len : Nat) (s : State), (s.host.doeUnread = []) ∧ (s.thimble.romRecovery = false) ∧ (65536 < len)) ∧
    (∃ (inst : Nat) (s : State), (inst ∈ s.host.doeUnread)) ∧
    (∃ (len : Nat) (s : State), (s.host.doeUnread = []) ∧ (s.thimble.romRecovery = false) ∧ (len ≤ 65536)) ∧
    (∃ (q : Nat) (s : State), (s.flag .HOST_ERROR_INFO_VALID = false) ∧ ((q, 6) ∈ s.host.qStreams) ∧ (s.flag .Q_STATUS_BOUND q)) := ⟨
  ⟨7, 7, 5, st [(.STRAP_READ_HOST_MODE, 0, 0)], by decide +kernel⟩,
  ⟨{ st [] with host := { queues := [(3, { shadowDue := true })] } }, by decide +kernel⟩,
  ⟨st [(.HOST_LINK_MODE, 0, 1)], by decide +kernel⟩,
  ⟨{ st [(.HOST_LINK_MODE, 0, 1)] with host := { ready := true } }, by decide +kernel⟩,
  ⟨{ st [(.HOST_LINK_MODE, 0, 1)] with host := { ready := true } }, by decide +kernel⟩,
  ⟨{ st [(.HOST_LINK_MODE, 0, 1)] with host := { ready := true } }, by decide +kernel⟩,
  ⟨{ st [(.HOST_LINK_MODE, 0, 1)] with host := { ready := true } }, by decide +kernel⟩,
  ⟨st [], by decide +kernel⟩,
  ⟨st [], by decide +kernel⟩,
  ⟨65536, st [], by decide +kernel⟩,
  ⟨65537, st [], by decide +kernel⟩,
  ⟨1, { st [] with host := { doeUnread := [1] } }, by decide +kernel⟩,
  ⟨65536, st [], by decide +kernel⟩,
  ⟨95, { st [(.Q_STATUS_BOUND, 95, 1)] with host := { qStreams := [(95, 6)] } }, by decide +kernel⟩⟩

/-- The hypotheses of each clause of Obligations.HostQueues are met. -/
theorem witness_HostQueues :
    (∃ (q : Nat) (idx : Nat) (s : State), (s.thimble.romRecovery = false) ∧ (qIsRes q = false) ∧ ((idx % 65536 + 65536 - s.fld .Q_INDEX_PI q) % 65536 ≤ s.qSize q) ∧ ((idx % 65536 + 65536 - s.fld .Q_INDEX_CI q) % 65536 ≤ s.qSize q)) ∧
    (∃ (q : Nat) (idx : Nat) (s : State), (s.thimble.romRecovery = false) ∧ (qIsRes q) ∧ ((idx % 65536 + 65536 - s.fld .Q_INDEX_CI q) % 65536 ≤ s.qSize q) ∧ ((s.fld .Q_INDEX_PI q + 65536 - idx % 65536) % 65536 ≤ s.qSize q)) ∧
    (∃ (q : Nat) (idx : Nat) (s : State), (s.thimble.romRecovery = false) ∧ (qIsRes q = false) ∧ (s.qSize q < (idx % 65536 + 65536 - s.fld .Q_INDEX_CI q) % 65536)) ∧
    (∃ (q : Nat) (s : State), ((s.queue q).shadowDue) ∧ (s.dma) ∧ ((s.queue q).shadowAt = 0) ∧ ((s.queue q).irqDue = false)) ∧
    (∃ (party : Party) (q : Nat) (v : Nat) (s : State), (party ≠ .mgmt) ∧ (s.mayCfg party q) ∧ (s.qState q = qDisabled) ∧ (4 ≤ cfgSize v)) ∧
    (∃ (party : Party) (q : Nat) (v : Nat) (s : State), (party ≠ .mgmt) ∧ (s.mayCfg party q) ∧ (s.qState q = qDisabled) ∧ (4 ≤ cfgSize v)) ∧
    (∃ (party : Party) (q : Nat) (s : State), (party ≠ .mgmt) ∧ (s.qState q = qRunning)) ∧
    (∃ (party : Party) (q : Nat) (s : State), (party ≠ .mgmt) ∧ (s.mayCfg party q) ∧ (s.qState q = qRunning)) ∧
    (∃ (q : Nat) (entry : List Byte) (c : HostCmd) (s : State), (qIsCmd q) ∧ (s.qUsed q ≠ 0) ∧ (s.dma) ∧ (s.qState q = qRunning) ∧ ((s.queue q).cmd = none) ∧ (parseCmd entry = (c, true))) ∧
    (∃ (q : Nat) (entry : List Byte) (c : HostCmd) (s : State), (qIsCmd q) ∧ (s.qUsed q ≠ 0) ∧ (s.dma) ∧ (s.qState q = qRunning) ∧ ((s.queue q).cmd = none) ∧ (parseCmd entry = (c, false))) ∧
    (∃ (q : Nat) (s : State), (qIsCmd q) ∧ (s.qUsed q ≠ 0) ∧ (s.dma) ∧ (s.qState q = qRunning) ∧ ((s.queue q).cmd = none)) ∧
    (∃ (q : Nat) (s : State), (qIsRes q) ∧ (s.flag .Q_CFG_IRQ_EN q) ∧ (s.fld .Q_IRQ_DELAY_US q ≠ 0) ∧ ((s.queue q).oldest ≠ 0) ∧ (s.elapsed ((s.queue q).oldest - 1) (s.fld .Q_IRQ_DELAY_US q * 1000)) ∧ ((s.queue q).shadowDue = false)) := ⟨
  ⟨0, 16, st [(.Q_CFG_SIZE_LOG2, 0, 4)], by decide +kernel⟩,
  ⟨80, 16, st [(.Q_CFG_SIZE_LOG2, 80, 4), (.Q_INDEX_PI, 80, 16)], by decide +kernel⟩,
  ⟨0, 17, st [(.Q_CFG_SIZE_LOG2, 0, 4)], by decide +kernel⟩,
  ⟨80, { st [(.Q_SHADOW_LO, 80, 4103), (.Q_INDEX_PI, 80, 16)] with host := { busMaster := true, queues := [(80, { shadowDue := true })] } }, by decide +kernel⟩,
  ⟨.host, 95, 0x69, st [], by decide +kernel⟩,
  ⟨.host, 95, 0x68, st [], by decide +kernel⟩,
  ⟨.host, 95, st [(.Q_STATUS_STATE, 95, 1)], by decide +kernel⟩,
  ⟨.host, 0, st [(.Q_STATUS_STATE, 0, 1), (.Q_CFG_ENABLE, 0, 1)], by decide +kernel⟩,
  ⟨0, List.replicate 64 0, { op := 0 }, dmaOn (st [(.Q_STATUS_STATE, 0, 1), (.Q_INDEX_PI, 0, 1)]), by decide +kernel⟩,
  ⟨0, 5 :: List.replicate 63 0, { op := 5 }, dmaOn (st [(.Q_STATUS_STATE, 0, 1), (.Q_INDEX_PI, 0, 1)]), by decide +kernel⟩,
  ⟨0, dmaOn (st [(.Q_STATUS_STATE, 0, 1), (.Q_INDEX_PI, 0, 1)]), by decide +kernel⟩,
  ⟨80, { st [(.Q_CFG_IRQ_EN, 80, 1), (.Q_IRQ_DELAY_US, 80, 1)] with host := { queues := [(80, { oldest := 1, unsignalled := 3 })] }, raw := 64000 }, by decide +kernel⟩⟩

/-- The hypotheses of each clause of Obligations.HostCommands are met. -/
theorem witness_HostCommands :
    (∃ (q : Nat) (c : HostCmd) (s : State), (qIsCmd q) ∧ (s.dma) ∧ (s.qState q = qRunning) ∧ (s.flag .Q_CFG_IRQ_EN q = false) ∧ ((s.queue q).cmd = some c) ∧ (let i := s.fld .Q_INDEX_CI q; (let done := Out.hostWrite (s.qAddr q i + 0x30) (leBytes 2 0 ++ leBytes 1 0 ++ leBytes 1 (1 + i / s.qSize q % 2) ++ List.replicate 12 0) (s.queueTee q); (c.op = 0) ∧ (c.begun = false)))) ∧
    (∃ (q : Nat) (c : HostCmd) (s : State), (qIsCmd q) ∧ (s.dma) ∧ (s.qState q = qRunning) ∧ (s.flag .Q_CFG_IRQ_EN q = false) ∧ ((s.queue q).cmd = some c) ∧ (let i := s.fld .Q_INDEX_CI q; (let done := Out.hostWrite (s.qAddr q i + 0x30) (leBytes 2 0 ++ leBytes 1 0 ++ leBytes 1 (1 + i / s.qSize q % 2) ++ List.replicate 12 0) (s.queueTee q); (c.begun) ∧ (c.code = 0) ∧ (s.copyWaits q = false)))) ∧
    (∃ (q : Nat) (c : HostCmd) (img : PlanImage) (s : State), (qIsCmd q) ∧ (s.dma) ∧ ((s.queue q).cmd = some c) ∧ (c.op = 1) ∧ (c.begun = false) ∧ (s.loadFullCode q img = 0)) ∧
    (∃ (q : Nat) (c : HostCmd) (s : State), (qIsCmd q) ∧ (s.dma) ∧ ((s.queue q).cmd = some c) ∧ (c.op = 2) ∧ (c.begun = false) ∧ (s.loadResidentCode q = 0)) ∧
    (∃ (q : Nat) (c : HostCmd) (img : PlanImage) (s : State), (qIsCmd q) ∧ (s.dma) ∧ (s.qState q = qRunning) ∧ ((s.queue q).cmd = some c) ∧ (c.begun = false) ∧ (c.op = 1) ∧ (s.loadFullCode q img ≠ 0)) ∧
    (∃ (q : Nat) (c : HostCmd) (s : State), (qIsCmd q) ∧ (s.dma) ∧ (s.qState q = qRunning) ∧ ((s.queue q).cmd = some c) ∧ (c.begun = false) ∧ (c.op = 2) ∧ (s.loadResidentCode q ≠ 0)) ∧
    (∃ (q : Nat) (data : List Byte) (c : HostCmd) (s : State), (qIsCmd q) ∧ (s.dma) ∧ ((s.queue q).cmd = some c) ∧ (c.begun = false) ∧ (s.copyCode q c = 0) ∧ (s.hbmOpen q c.hbm c.size) ∧ (s.failedIn q c.hbm c.size = false) ∧ ((∀ x ∈ s.hbmPieces q c.hbm c.size, (s.stack x.2.2.1).waiting = [])) ∧ (c.op = 3) ∧ (data.length = c.size)) ∧
    (∃ (q : Nat) (c : HostCmd) (s : State), (qIsCmd q) ∧ (s.dma) ∧ ((s.queue q).cmd = some c) ∧ (c.begun = false) ∧ (s.copyCode q c = 0) ∧ (s.hbmOpen q c.hbm c.size) ∧ (s.failedIn q c.hbm c.size = false) ∧ ((∀ x ∈ s.hbmPieces q c.hbm c.size, (s.stack x.2.2.1).waiting = [])) ∧ (c.op = 4) ∧ (s.hbmBad = [])) := ⟨
  ⟨0, { op := 0 }, cmdSt { op := 0 } [(.Q_INDEX_CI, 0, 65535)], by decide +kernel⟩,
  ⟨0, { op := 3, begun := true }, cmdSt { op := 3, begun := true } [(.Q_INDEX_CI, 0, 16)], by decide +kernel⟩,
  ⟨0, { op := 1 }, img, cmdSt { op := 1 } loadL, by decide +kernel⟩,
  ⟨0, { op := 2 }, { cmdSt { op := 2 } ((.PLAN_JOB_TAG, 0, 7) :: loadL) with parts := [(0, { resident := true })] }, by decide +kernel⟩,
  ⟨0, { op := 1 }, { img with exchangePorts := 4 }, cmdSt { op := 1 } loadL, by decide +kernel⟩,
  ⟨0, { op := 2 }, cmdSt { op := 2 } loadL, by decide +kernel⟩,
  ⟨0, List.replicate 32 7, { op := 3, addr := 64, size := 32, hbm := 32 }, cmdSt { op := 3, addr := 64, size := 32, hbm := 32 }, by decide +kernel⟩,
  ⟨0, { op := 4, addr := 64, size := 32, hbm := 32 }, cmdSt { op := 4, addr := 64, size := 32, hbm := 32 }, by decide +kernel⟩⟩

end HostW

/-! ### Witnesses: SecrecyW -/
namespace SecrecyW

/-- Thimble runs, an operator (key 9) is enrolled, session 3 is secured by tenant 9, and a nonce is out on each channel. -/
def sec (l : List (Fld × Nat × Nat) := []) : State := { st ([(.SEC_STATUS_FA_FUSED, 0, 0), (.SEC_STATUS_OPERATOR, 0, 1), (.SEC_OPERATOR_ID_LO, 0, 9)] ++ l) with thimble := { eid := 8, nonces := [(0, 5), (1, 5), (5, 5)], sessions := [{ id := 3, tenant := some 9 }], publishers := [], observeEnd := 6, debugEnd := [(1, 7)], kgenSwitch := [(1, 5 * 2 + 1 + 1)], grants := [(0, 4)] } }
/-- A token for this device with these fields. -/
def tok (a : Nat) (parts : Nat := 0) (nonce : Nat := 4) (dur : Nat := 0) (arg : List Byte := []) (signer : Nat := 9) (consentBy : Nat := 0) : SecToken :=
  { bytes := bytes [(4, 0x4B545351), (1, a), (1, 1), (2, parts), (8, ownKeyId), (16, nonce), (8, signer), (4, dur), (4, 0)] ++
      (arg ++ List.replicate (64 - arg.length) 0) ++ bytes [(16, 0), (64, 0), (64, 0)], signedBy := signer, consentBy := consentBy }
theorem tok_device (a p n d : Nat) (arg : List Byte) (k c : Nat) : (tok a p n d arg k c).deviceKeyId = ownKeyId := by
  show byteField (bytes _ ++ _ ++ _) 8 8 = _
  rw [List.append_assoc]
  exact byteField_bytes _ _ rfl (BitVec.isLt _)
theorem tok_signer (a p n d : Nat) (arg : List Byte) {k : Nat} (c : Nat) (h : k < 2 ^ 64) : (tok a p n d arg k c).signer = k := by
  show byteField (bytes _ ++ _ ++ _) 32 8 = _
  rw [List.append_assoc]
  exact byteField_bytes _ _ rfl h
def bnd (l : List (Fld × Nat × Nat) := []) : State := sec ([(.SEC_PART_BOUND, 0, 1), (.SEC_TENANT_ID_LO, 0, 9), (.SEC_BOUND_TENANT, 0, 1)] ++ l)
def slot0 : List (Fld × Nat × Nat) := [(.SLOT_STATUS_STATE, 0, 1), (.SLOT_CFG_KIND, 0, 0), (.SLOT_CFG_PARTITION, 0, 0), (.SLOT_CFG_JOB_TAG, 0, 7)]

/-- The hypotheses of each clause of Obligations.SecrecyTokens are met. -/
theorem witness_SecrecyTokens :
    (∃ (party : Party), (party ≠ .mgmt)) ∧
    (∃ (ch : Chan) (s : State), (ch ≠ .mailbox) ∧ (ch ≠ .doe) ∧ (Asked s ch 0)) ∧
    (∃ (ch : Chan) (k : SecToken) (s : State), (Asked s ch opSubmitToken) ∧ (tokenEarly k ch ≠ 0)) ∧
    (∃ (ch : Chan) (k : SecToken) (s : State), (Asked s ch opSubmitToken) ∧ (tokenEarly k ch = 0) ∧ (s.tokenLate ch k ≠ 0)) ∧
    (∃ (b : Nat) (s : State), (Asked s (.mgmt b) opSubmitToken) ∧ (s.fld .PLINTH_STATUS_OP = 0)) ∧
    (∃ (ch : Chan) (k : SecToken) (s : State), (Asked s ch opSubmitToken) ∧ (tokenEarly k ch = 0) ∧ (s.tokenLate ch k = 0) ∧ (k.action = actObserve)) ∧
    (∃ (ch : Chan) (k : SecToken) (s : State), (Asked s ch opSubmitToken) ∧ (tokenEarly k ch = 0) ∧ (s.tokenLate ch k = 0) ∧ (k.action = actTenantDebug)) ∧
    (∃ (ch : Chan) (k : SecToken) (s : State), (Asked s ch opSubmitToken) ∧ (tokenEarly k ch = 0) ∧ (s.tokenLate ch k = 0) ∧ (k.action = actVendorFa)) ∧
    (∃ (ch : Chan) (k : SecToken) (s : State), (Asked s ch opSubmitToken) ∧ (tokenEarly k ch = 0) ∧ (s.tokenLate ch k = 0) ∧ (k.action = actReplaceOperator)) ∧
    (∃ (ch : Chan) (k : SecToken) (s : State), (Asked s ch opSubmitToken) ∧ (tokenEarly k ch = 0) ∧ (s.tokenLate ch k = 0) ∧ (k.action = actEnrolPublisher) ∧ (keyIdOf (k.arg.take 32) ∉ s.thimble.publishers)) ∧
    (∃ (ch : Chan) (k : SecToken) (s : State), (Asked s ch opSubmitToken) ∧ (tokenEarly k ch = 0) ∧ (s.tokenLate ch k = 0) ∧ (k.action = actRemovePublisher)) ∧
    (∃ (ch : Chan) (k : SecToken) (s : State), (Asked s ch opSubmitToken) ∧ (tokenEarly k ch = 0) ∧ (s.tokenLate ch k = 0) ∧ (k.action = actSetPolicy)) ∧
    (∃ (ch : Chan) (k : SecToken) (s : State), (Asked s ch opSubmitToken) ∧ (tokenEarly k ch = 0) ∧ (s.tokenLate ch k = 0) ∧ (k.action = actRaiseArmSvn)) ∧
    (∃ (ch : Chan) (k : SecToken) (s : State), (Asked s ch opSubmitToken) ∧ (tokenEarly k ch = 0) ∧ (s.tokenLate ch k = 0) ∧ (k.action = actOperatorReset)) ∧
    (∃ (b : Nat) (s : State), (Asked s (.mgmt b) 0) ∧ (s.flag .SEC_STATUS_OPERATOR = false)) ∧
    (∃ (b : Nat) (s : State), (Asked s (.mgmt b) 0) ∧ (s.flag .SEC_STATUS_OPERATOR)) ∧
    (∃ (s : State), (s.thimble.observeEnd ≠ 0) ∧ (s.timeReached (s.thimble.observeEnd - 1))) ∧
    (∃ (p : Nat) (s : State), (bankGet 0 s.thimble.debugEnd p ≠ 0) ∧ (s.timeReached (bankGet 0 s.thimble.debugEnd p - 1))) ∧
    (∃ (id : Nat) (p : Nat) (s : State), (Asked s (.session id) 0) ∧ (s.boundTo p id)) ∧
    (∃ (id : Nat) (p : Nat) (s : State), (Asked s (.session id) 0) ∧ (s.boundTo p id = false)) ∧
    (∃ (s : State), (Asked s .mailbox opEndGrant) ∧ (s.fld .MBX_CMD_PART = 15) ∧ (s.fld .MBX_ARG_LO = 1)) := ⟨
  ⟨.host, by decide +kernel⟩,
  ⟨.session 3, sec, by decide +kernel, by decide +kernel, by simp only [Asked]; decide +kernel⟩,
  ⟨.mgmt 0, { bytes := [] }, sec, by simp only [Asked]; decide +kernel, by unfold tokenEarly; rw [if_pos (by decide +kernel)]; decide⟩,
  ⟨.mgmt 0, tok 1 (nonce := 44) (dur := 5), sec, by simp only [Asked]; decide +kernel, by unfold tokenEarly; rw [if_neg (by decide +kernel), if_neg (not_not.2 (tok_device ..))], by decide +kernel⟩,
  ⟨0, sec, by simp only [Asked]; decide +kernel, by decide +kernel⟩,
  ⟨.mgmt 0, tok 1 (dur := 5), sec, by simp only [Asked]; decide +kernel, by unfold tokenEarly; rw [if_neg (by decide +kernel), if_neg (not_not.2 (tok_device ..))], by decide +kernel⟩,
  ⟨.mgmt 0, tok 2 (dur := 5) (parts := 1), sec, by simp only [Asked]; decide +kernel, by unfold tokenEarly; rw [if_neg (by decide +kernel), if_neg (not_not.2 (tok_device ..))], by decide +kernel⟩,
  ⟨.mgmt 0, tok 3 (signer := Config.quinianFaKey.toNat) (consentBy := 9), sec, by simp only [Asked]; decide +kernel, by unfold tokenEarly; rw [if_neg (by decide +kernel), if_neg (not_not.2 (tok_device ..))], by unfold State.tokenLate; rw [if_neg (by decide +kernel), if_neg (not_not.2 (by rw [tok_signer _ _ _ _ _ _ (BitVec.isLt _)]; unfold State.tokenKey; rw [if_pos (by decide +kernel)])), if_neg (by rw [tok_signer _ _ _ _ _ _ (BitVec.isLt _)]; exact not_not.2 rfl), if_neg (by decide +kernel)]; decide +kernel, rfl⟩,
  ⟨.mgmt 0, tok 0x10 (arg := [1, 2]), sec, by simp only [Asked]; decide +kernel, by unfold tokenEarly; rw [if_neg (by decide +kernel), if_neg (not_not.2 (tok_device ..))], by decide +kernel⟩,
  ⟨.mgmt 0, tok 0x11 (arg := [1, 2]), sec, by simp only [Asked]; decide +kernel, by unfold tokenEarly; rw [if_neg (by decide +kernel), if_neg (not_not.2 (tok_device ..))], by decide +kernel, rfl, by simp [sec]⟩,
  ⟨.mgmt 0, tok 0x12 (arg := [6]), sec, by simp only [Asked]; decide +kernel, by unfold tokenEarly; rw [if_neg (by decide +kernel), if_neg (not_not.2 (tok_device ..))], by decide +kernel⟩,
  ⟨.mgmt 0, tok 0x13 (arg := [5]), sec, by simp only [Asked]; decide +kernel, by unfold tokenEarly; rw [if_neg (by decide +kernel), if_neg (not_not.2 (tok_device ..))], by decide +kernel⟩,
  ⟨.mgmt 0, tok 0x14 (arg := [1, 0, 0, 0, 3]), sec, by simp only [Asked]; decide +kernel, by unfold tokenEarly; rw [if_neg (by decide +kernel), if_neg (not_not.2 (tok_device ..))], by decide +kernel⟩,
  ⟨.mgmt 0, tok 0x15 (signer := Config.quinianFaKey.toNat), sec, by simp only [Asked]; decide +kernel, by unfold tokenEarly; rw [if_neg (by decide +kernel), if_neg (not_not.2 (tok_device ..))], by unfold State.tokenLate; rw [if_neg (by decide +kernel), if_neg (not_not.2 (by rw [tok_signer _ _ _ _ _ _ (BitVec.isLt _)]; unfold State.tokenKey; rw [if_pos (by decide +kernel)])), if_neg (by rw [tok_signer _ _ _ _ _ _ (BitVec.isLt _)]; exact not_not.2 rfl), if_neg (by decide +kernel)]; decide +kernel, rfl⟩,
  ⟨0, { st [] with thimble := { eid := 8 } }, by simp only [Asked]; decide +kernel, by decide +kernel⟩,
  ⟨0, sec, by simp only [Asked]; decide +kernel, by decide +kernel⟩,
  ⟨{ sec with raw := 5 }, by decide +kernel⟩,
  ⟨1, { sec [(.SEC_PART_DEBUG, 1, 1), (.SPAD_RECOVERY, 0, 2)] with raw := 6 }, by decide +kernel⟩,
  ⟨3, 0, bnd [(.SEC_PART_DEBUG, 0, 1)], by simp only [Asked]; decide +kernel, by decide +kernel⟩,
  ⟨3, 1, bnd, by simp only [Asked]; decide +kernel, by decide +kernel⟩,
  ⟨sec [(.MBX_STATUS_BUSY, 0, 1), (.MBX_CMD_OP, 0, 7), (.MBX_CMD_PART, 0, 15), (.MBX_ARG_LO, 0, 1)], by simp only [Asked]; decide +kernel, by decide +kernel⟩⟩

/-- The hypotheses of each clause of Obligations.TenantBindings are met. -/
theorem witness_TenantBindings :
    (∃ (b : Nat) (s : State), (Asked s (.mgmt b) 0) ∧ (s.flag .PWR_STATE_PERST = false)) ∧
    (∃ (s : State), (Asked s .mailbox opGrantSession)) ∧
    (∃ (b : Nat) (id : Nat) (p : Nat) (s : State), (p < 16) ∧ (s.flag .SEC_PART_BOUND p) ∧ (∃ c ∈ [(Instr.evict (.mgmt b) p, Chan.mgmt b), (.unbind id p, .session id)], (Asked s c.2 0) ∧ ((c.2 = .session id → s.boundTo p id)))) ∧
    (∃ (b : Nat) (p : Nat) (s : State), (Asked s (.mgmt b) 0) ∧ (s.flag .SEC_PART_BOUND (p % 16) = false)) ∧
    (∃ (id : Nat) (p : Nat) (tenant : Nat) (s : State), (Asked s (.session id) 0) ∧ (s.tenantOf id = some tenant) ∧ (p < 16) ∧ (s.bindCode id p = 0)) ∧
    (∃ (id : Nat) (p : Nat) (tenant : Nat) (s : State), (Asked s (.session id) 0) ∧ (s.tenantOf id = some tenant) ∧ (p < 16) ∧ (s.bindCode id p ≠ 0)) ∧
    (∃ (id : Nat) (p : Nat) (s : State), (Asked s (.session id) 0) ∧ (s.boundTo p id = false)) ∧
    (∃ (id : Nat) (p : Nat) (k1 : Nat) (k2 : Nat) (s : State), (Asked s (.session id) 0) ∧ (s.boundTo p id) ∧ (s.pstate p = .idle) ∧ (k1 ≠ k2)) ∧
    (∃ (id : Nat) (p : Nat) (k1 : Nat) (k2 : Nat) (s : State), (Asked s (.session id) 0) ∧ (s.boundTo p id) ∧ (s.pstate p = .idle) ∧ (k1 = k2)) ∧
    (∃ (id : Nat) (p : Nat) (s : State), (Asked s (.session id) 0) ∧ (s.boundTo p id) ∧ (s.ideCode = 0)) ∧
    (∃ (id : Nat) (p : Nat) (s : State), (Asked s (.session id) 0) ∧ (s.boundTo p id) ∧ (s.ideCode = 0)) ∧
    (∃ (id : Nat) (p : Nat) (gen : Nat) (kseq : Nat) (j : Nat) (s : State), (Asked s (.session id) 0) ∧ (p < 16) ∧ (s.boundTo p id) ∧ (gen < 2) ∧ (kseq < 2 ^ 64) ∧ (s.runSlot p = some j) ∧ (s.jobKeyCode p gen true kseq = 0)) ∧
    (∃ (id : Nat) (p : Nat) (gen : Nat) (kseq : Nat) (j : Nat) (s : State), (Asked s (.session id) 0) ∧ (p < 16) ∧ (s.boundTo p id) ∧ (gen < 2) ∧ (kseq < 2 ^ 64) ∧ (s.runSlot p = some j) ∧ (s.jobKeyCode p gen false kseq = 0)) ∧
    (∃ (id : Nat) (p : Nat) (gen : Nat) (T : Nat) (s : State), (Asked s (.session id) 0) ∧ (p < 16) ∧ (s.boundTo p id) ∧ (gen < 2) ∧ (T < 2 ^ 64) ∧ (s.kgenState p gen ≠ 0) ∧ (s.flag .SEC_PART_SWITCH_PENDING p = false) ∧ (s.twoMicrosAhead T)) ∧
    (∃ (p : Nat) (T : Nat) (gen : Nat) (s : State), (bankGet 0 s.thimble.kgenSwitch p = T * 2 + gen + 1) ∧ (gen < 2) ∧ (s.timeReached T)) ∧
    (∃ (id : Nat) (p : Nat) (gen : Nat) (s : State), (Asked s (.session id) 0) ∧ (p < 16) ∧ (s.boundTo p id) ∧ (gen < 2) ∧ (gen ≠ s.fld .SEC_PART_SEND_KGEN p) ∧ (s.switchTarget p ≠ some gen)) ∧
    (∃ (id : Nat) (p : Nat) (gen : Nat) (s : State), (Asked s (.session id) 0) ∧ (p < 16) ∧ (s.boundTo p id) ∧ (gen < 2) ∧ (gen = s.fld .SEC_PART_SEND_KGEN p)) ∧
    (∃ (id : Nat) (s : State), (Asked s (.session id) 0)) ∧
    (∃ (party : Party) (s : State), (party ≠ .mgmt) ∧ (s.flag .MBX_STATUS_BUSY = false) ∧ (1 ≤ s.fld .MBX_CMD_OP) ∧ (s.fld .MBX_CMD_OP ≤ 7)) ∧
    (∃ (party : Party) (s : State), (party ≠ .mgmt) ∧ (s.flag .MBX_STATUS_BUSY = false) ∧ (s.fld .MBX_CMD_OP = 0)) := ⟨
  ⟨0, sec, by simp only [Asked]; decide +kernel, by decide +kernel⟩,
  ⟨sec [(.MBX_STATUS_BUSY, 0, 1), (.MBX_CMD_OP, 0, 1), (.MBX_CMD_PART, 0, 5), (.MBX_ARG_LO, 0, 3)], by simp only [Asked]; decide +kernel⟩,
  ⟨0, 3, 0, bnd, by decide, by decide +kernel, (Instr.evict (.mgmt 0) 0, .mgmt 0), List.mem_cons_self, by simp only [Asked]; decide +kernel, by simp⟩,
  ⟨0, 5, sec, by simp only [Asked]; decide +kernel, by decide +kernel⟩,
  ⟨3, 0, 9, sec, by simp only [Asked]; decide +kernel, by decide +kernel⟩,
  ⟨3, 0, 9, bnd, by simp only [Asked]; decide +kernel, by decide +kernel⟩,
  ⟨3, 1, bnd, by simp only [Asked]; decide +kernel, by decide +kernel⟩,
  ⟨3, 0, 1, 2, bnd, by simp only [Asked]; decide +kernel, by decide +kernel⟩,
  ⟨3, 0, 2, 2, bnd, by simp only [Asked]; decide +kernel, by decide +kernel⟩,
  ⟨3, 0, bnd, by simp only [Asked]; decide +kernel, by decide +kernel⟩,
  ⟨3, 0, bnd, by simp only [Asked]; decide +kernel, by decide +kernel⟩,
  ⟨3, 0, 1, 5, 0, bnd slot0, by simp only [Asked]; decide +kernel, by decide +kernel⟩,
  ⟨3, 0, 1, 5, 0, bnd ((.SEC_STATUS_OPEN_ALLOWED, 0, 1) :: slot0), by simp only [Asked]; decide +kernel, by decide +kernel⟩,
  ⟨3, 0, 1, 128000, bnd [(.SEC_PART_KGEN1, 0, 2)], by simp only [Asked]; decide +kernel, by decide +kernel⟩,
  ⟨1, 5, 1, { sec with raw := 5 }, by decide +kernel⟩,
  ⟨3, 0, 1, bnd [(.SEC_PART_KGEN1, 0, 2)], by simp only [Asked]; decide +kernel, by decide +kernel⟩,
  ⟨3, 0, 0, bnd, by simp only [Asked]; decide +kernel, by decide +kernel⟩,
  ⟨3, bnd, by simp only [Asked]; decide +kernel⟩,
  ⟨.host, sec [(.MBX_CMD_OP, 0, 3)], by decide +kernel⟩,
  ⟨.host, sec, by decide +kernel⟩⟩

/-- The hypotheses of each clause of Obligations.SpdmResponder are met. -/
theorem witness_SpdmResponder :
    (∃ (ch : Chan) (s : State), (SpdmHeard s ch)) ∧
    (∃ (ch : Chan) (p : Nat) (s : State), (p < 16) ∧ (s.flag .SEC_PART_BOUND p) ∧ ((∀ id, ch = .session id → s.boundTo p id = false))) ∧
    (∃ (ch : Chan) (s : State), (SpdmHeard s ch)) ∧
    (∃ (ch : Chan) (id : Nat) (s : State), (SpdmHeard s ch) ∧ (s.thimble.sessions.length < 32) ∧ (s.session id = none)) ∧
    (∃ (ch : Chan) (s : State), (SpdmHeard s ch) ∧ (32 ≤ s.thimble.sessions.length)) ∧
    (∃ (id : Nat) (s : State), (SpdmHeard s (.session id))) ∧
    (∃ (id : Nat) (s : State), (SpdmHeard s (.session id))) ∧
    (∃ (id : Nat) (s : State), (SpdmHeard s (.session id))) ∧
    (∃ (id : Nat) (s : State), (SpdmHeard s (.session id))) := ⟨
  ⟨.doe, sec, by simp only [SpdmHeard]; decide +kernel⟩,
  ⟨.doe, 0, bnd, by decide, by decide +kernel, fun _ h => by cases h⟩,
  ⟨.doe, sec, by simp only [SpdmHeard]; decide +kernel⟩,
  ⟨.doe, 4, sec, by simp only [SpdmHeard]; decide +kernel, by decide +kernel⟩,
  ⟨.doe, { sec with thimble := { (sec).thimble with sessions := (List.range 32).map (fun k => { id := k }) } }, by simp only [SpdmHeard]; decide +kernel, by decide +kernel⟩,
  ⟨3, sec, by simp only [SpdmHeard]; decide +kernel⟩,
  ⟨3, sec, by simp only [SpdmHeard]; decide +kernel⟩,
  ⟨3, sec, by simp only [SpdmHeard]; decide +kernel⟩,
  ⟨3, sec, by simp only [SpdmHeard]; decide +kernel⟩⟩

end SecrecyW

/-! ### Witnesses: MgmtW -/
namespace MgmtW

/-- Thimble serves with endpoint ID 8, and keeps what differs. -/
def mg (l : List (Fld × Nat × Nat) := []) : State := st l
/-- A firmware transfer in progress. -/
def fw (u : FwUpdate) (l : List (Fld × Nat × Nat) := []) : State := { st l with thimble := { eid := 8, update := some u } }
/-- A header with these fields, signed by Quinian. -/
def hdOf (size digest : Nat) : FwHeader :=
  { bytes := bytes [(4, 0x49574651), (2, 1), (2, 256), (1, 0xB0), (1, 0), (2, 0), (4, 3), (4, 2), (4, size), (24, 0), (64, digest), (8, Config.quinianFwKey.toNat), (72, 0), (64, 0)],
    signedBy := Config.quinianFwKey.toNat }
theorem hdOf_size {n : Nat} (d : Nat) (h : n < 256 ^ 4) : (hdOf n d).bodySize = n := byteField_bytes0 _ rfl h
theorem hdOf_digest (n : Nat) {d : Nat} (h : d < 256 ^ 64) : (hdOf n d).bodyDigest = d := byteField_bytes0 _ rfl h
theorem hdOf_key (n d : Nat) : (hdOf n d).keyId = Config.quinianFwKey.toNat := byteField_bytes0 _ rfl (BitVec.isLt _)
/-- A digest that is not the one of these bytes. -/
def otherThan (l : List Byte) : Nat := if sha512 l = 0 then 1 else 0
theorem otherThan_lt (l : List Byte) : otherThan l < 256 ^ 64 := by unfold otherThan; split <;> norm_num
theorem otherThan_ne (l : List Byte) : sha512 l ≠ otherThan l := by unfold otherThan; split <;> omega
def hd : FwHeader := hdOf 32 5

/-- The hypotheses of each clause of Obligations.MgmtBuses are met. -/
theorem witness_MgmtBuses :
    (∃ (b : Nat) (s : State), (s.busUp b)) ∧
    (∃ (b : Nat) (s : State), (s.busUp b)) ∧
    (∃ (b : Nat) (s : State), (s.busUp b)) ∧
    (∃ (b : Nat) (s : State), (s.busUp b) ∧ (b ∈ s.thimble.stuck)) ∧
    (∃ (b : Nat) (s : State) (eid : Nat), (s.busUp b) ∧ (8 ≤ eid) ∧ (eid < 255)) ∧
    (∃ (b : Nat) (s : State), (s.busUp b)) ∧
    (∃ (b : Nat) (s : State), (s.thimbleUp) ∧ (s.fld (busFld b) = 2)) ∧
    (∃ (b : Nat) (s : State), (s.busUp b) ∧ (s.thimble.eid ≠ 0)) ∧
    (∃ (b : Nat) (s : State), (s.busUp b) ∧ (s.thimble.eid ≠ 0)) ∧
    (∃ (b : Nat) (s : State), (Asked s (.mgmt b) 0)) ∧
    (∃ (mv : Nat) (ca : Nat) (s : State), (s.thimbleUp) ∧ (mv < 2 ^ 16) ∧ (ca < 2 ^ 16)) ∧
    (∃ (b : Nat) (off : Nat) (s : State), (Asked s (.mgmt b) 0) ∧ (s.flag .PWR_STATE_PERST = false) ∧ (off % 4 ≠ 0 ∨ 2 ^ 26 ≤ off)) ∧
    (∃ (b : Nat) (off : Nat) (s : State), (Asked s (.mgmt b) 0) ∧ (s.flag .PWR_STATE_PERST = false) ∧ (off % 4 ≠ 0 ∨ 2 ^ 26 ≤ off)) ∧
    (∃ (b : Nat) (s : State), (Asked s (.mgmt b) 0) ∧ (s.flag .PWR_STATE_PERST = false)) ∧
    (∃ (b : Nat) (s : State) (v : Nat), (Asked s (.mgmt b) 0) ∧ (s.flag .PWR_STATE_PERST = false) ∧ (v < 2 ^ 32)) := ⟨
  ⟨1, mg, by decide +kernel⟩,
  ⟨1, mg [(.MGMT_STATUS_BUS_B, 0, 1)], by decide +kernel⟩,
  ⟨1, mg, by decide +kernel⟩,
  ⟨1, { mg with thimble := { eid := 8, stuck := [1], addrs := [(1, 45)] } }, by decide +kernel⟩,
  ⟨1, mg, 9, by decide +kernel⟩,
  ⟨1, mg, by decide +kernel⟩,
  ⟨1, mg [(.MGMT_STATUS_BUS_B, 0, 2)], by decide +kernel⟩,
  ⟨1, mg, by decide +kernel⟩,
  ⟨1, mg [(.MGMT_BAD_MSG, 0, 4294967295)], by decide +kernel⟩,
  ⟨1, { mg with events := (List.range 20).map (fun k => MgmtEvent.code k) }, by simp only [Asked]; decide +kernel⟩,
  ⟨48000, 4000, mg, by decide +kernel⟩,
  ⟨1, 67108864, mg, by simp only [Asked]; decide +kernel, by decide +kernel⟩,
  ⟨1, 3, mg, by simp only [Asked]; decide +kernel, by decide +kernel⟩,
  ⟨1, mg [(.PLAN_TICK_LO, 0, 5)], by simp only [Asked]; decide +kernel, by decide +kernel⟩,
  ⟨1, mg, 3, by simp only [Asked]; decide +kernel, by decide +kernel⟩⟩

/-- The hypotheses of each clause of Obligations.MgmtControl are met. -/
theorem witness_MgmtControl :
    (∃ (b : Nat) (s : State), (Asked s (.mgmt b) 0) ∧ (s.host.downAt ≠ 0) ∧ (s.elapsed (s.host.downAt - 1) 1000000000) ∧ (s.flag .PWR_STATE_PERST = false)) ∧
    (∃ (b : Nat) (s : State), (Asked s (.mgmt b) 0) ∧ (s.host.downAt = 0)) ∧
    (∃ (party : Party) (s : State), (party ≠ .mgmt) ∧ (s.host.downAt = 0)) ∧
    (∃ (party : Party) (v : Nat), (party ≠ .mgmt) ∧ (v < 2 ^ 13)) ∧
    (∃ (party : Party) (v : Nat) (u : Nat), (party ≠ .mgmt) ∧ (v < 2 ^ 13) ∧ (u < 2 ^ 13)) ∧
    (∃ (v : Nat) (s : State), (s.thimbleUp) ∧ (s.thimble.romRecovery = false) ∧ (v < 2 ^ 13)) ∧
    (∃ (v : Nat) (s : State), (s.thimbleUp) ∧ (s.thimble.romRecovery = false) ∧ (v < 2 ^ 13)) ∧
    (∃ (party : Party), (party ≠ .mgmt)) ∧
    (∃ (b : Nat) (st : Fin 3) (s : State), (Asked s (.mgmt b) 0) ∧ (s.flag .PWR_STATE_MOVING = false) ∧ (s.moveCode (s.fld .PWR_STATE_STATE) (st.val + 1) = 0) ∧ (s.fld .PWR_STATE_STATE ≠ st.val + 1)) ∧
    (∃ (b : Nat) (st : Fin 3) (s : State), (Asked s (.mgmt b) 0) ∧ (s.flag .PWR_STATE_MOVING) ∧ (s.moveCode (s.fld .PWR_STATE_TARGET) (st.val + 1) = 0)) ∧
    (∃ (b : Nat) (st : Fin 3) (s : State), (Asked s (.mgmt b) 0) ∧ (s.flag .PWR_STATE_MOVING = false) ∧ (s.fld .PWR_STATE_STATE = pwrRun) ∧ (st = 1) ∧ ((∃ p < 16, (s.pstate p).active ∨ s.pstate p = .armed))) ∧
    (∃ (s : State), (s.flag .PWR_STATE_MOVING) ∧ (s.fld .PWR_STATE_STATE ≠ pwrAo) ∧ (s.power.next = 0) ∧ (s.fld .PWR_STATE_TARGET = pwrRun)) ∧
    (∃ (s : State), (s.flag .PWR_STATE_MOVING) ∧ (s.fld .PWR_STATE_STATE ≠ pwrAo) ∧ (s.power.next = 0) ∧ (s.fld .PWR_STATE_TARGET = pwrIdle)) ∧
    (∃ (s : State), (s.flag .PWR_STATE_MOVING) ∧ (s.fld .PWR_STATE_STATE ≠ pwrAo) ∧ (s.power.next = 0) ∧ (s.fld .PWR_STATE_TARGET = pwrAo)) ∧
    (∃ (b : Nat) (seconds : Nat) (s : State), (s.thimbleUp) ∧ (s.busServed b) ∧ (1 ≤ seconds) ∧ (seconds ≤ 60)) ∧
    (∃ (b : Nat) (input : Bool) (s : State), (Asked s (.mgmt b) 0) ∧ (input = false) ∧ (s.power.step < 12 ∨ s.faultPresent = false)) ∧
    (∃ (b : Nat) (input : Bool) (s : State), (Asked s (.mgmt b) 0) ∧ (input ∨ 12 ≤ s.power.step ∧ s.faultPresent)) := ⟨
  ⟨1, { mg with host := { downAt := 1 }, raw := 64000000000 }, by simp only [Asked]; decide +kernel, by decide +kernel⟩,
  ⟨1, { mg with host := { downAt := 0 } }, by simp only [Asked]; decide +kernel, by decide +kernel⟩,
  ⟨.host, { mg [(.CONTROL_OWNER_PLAN_MGMT, 0, 1)] with host := { downAt := 0 } }, by decide +kernel⟩,
  ⟨.host, 1400, by decide +kernel⟩,
  ⟨.host, 2500, 1600, by decide +kernel⟩,
  ⟨4000, mg [(.POWER_CAP, 0, 2000)], by decide +kernel⟩,
  ⟨2, mg, by decide +kernel⟩,
  ⟨.host, by decide +kernel⟩,
  ⟨1, 1, mg [(.POWER_ENVELOPE, 0, 2000)], by simp only [Asked]; decide +kernel, by decide +kernel⟩,
  ⟨1, 1, mg [(.PWR_STATE_MOVING, 0, 1), (.PWR_STATE_TARGET, 0, 1)], by simp only [Asked]; decide +kernel, by decide +kernel⟩,
  ⟨1, 1, mg [(.PLAN_STATUS_STATE, 2, 3)], by simp only [Asked]; decide +kernel, by decide +kernel⟩,
  ⟨mg [(.PWR_STATE_MOVING, 0, 1), (.PWR_STATE_TARGET, 0, 3), (.PWR_STATE_STATE, 0, 2)], by decide +kernel⟩,
  ⟨mg [(.PWR_STATE_MOVING, 0, 1), (.PWR_STATE_TARGET, 0, 2)], by decide +kernel⟩,
  ⟨mg [(.PWR_STATE_MOVING, 0, 1), (.PWR_STATE_TARGET, 0, 1)], by decide +kernel⟩,
  ⟨1, 60, mg, by decide +kernel⟩,
  ⟨1, false, { mg with power := { por := false, step := 5 } }, by simp only [Asked]; decide +kernel, by decide +kernel⟩,
  ⟨1, true, mg, by simp only [Asked]; decide +kernel, by decide +kernel⟩⟩

/-- The hypotheses of each clause of Obligations.FirmwareUpdate are met. -/
theorem witness_FirmwareUpdate :
    (∃ (b : Nat) (s : State), (s.busUp b) ∧ (s.thimble.eid ≠ 0) ∧ (s.thimble.update = none)) ∧
    (∃ (b : Nat) (s : State), (s.busUp b) ∧ (s.thimble.eid ≠ 0) ∧ (s.thimble.update ≠ none)) ∧
    (∃ (b : Nat) (s : State) (h : FwHeader) (l : List Byte), (s.busUp b) ∧ (s.thimble.eid ≠ 0) ∧ (s.thimble.update = some { header := some h, body := l })) ∧
    (∃ (b : Nat) (s : State) (l : List Byte), (s.busUp b) ∧ (s.thimble.eid ≠ 0) ∧ (s.thimble.update = some { header := none, body := l })) ∧
    (∃ (b : Nat) (s : State), (s.busUp b) ∧ (s.thimble.eid ≠ 0) ∧ (s.thimble.updated) ∧ ((∀ p < 16, s.pstate p = .idle ∧ s.flag .SEC_PART_BOUND p = false))) ∧
    (∃ (b : Nat) (s : State), (s.busUp b) ∧ (s.thimble.eid ≠ 0) ∧ (s.thimble.updated) ∧ ((∃ p < 16, s.pstate p ≠ .idle ∨ s.flag .SEC_PART_BOUND p))) ∧
    (∃ (b : Nat) (s : State), (s.busUp b) ∧ (s.thimble.eid ≠ 0) ∧ (s.thimble.updated = false)) ∧
    (∃ (h : FwHeader) (l : List Byte) (s : State), (s.thimbleUp) ∧ (s.thimble.update = some { header := none, body := l }) ∧ (s.fwCode h = 0)) ∧
    (∃ (h : FwHeader) (l : List Byte) (s : State), (s.thimbleUp) ∧ (s.thimble.update = some { header := none, body := l }) ∧ (s.fwCode h ≠ 0)) ∧
    (∃ (h : FwHeader) (l : List Byte) (x : List Byte) (s : State), (s.thimbleUp) ∧ (s.thimble.update = some { header := some h, body := l }) ∧ ((l ++ x).length < h.bodySize)) ∧
    (∃ (h : FwHeader) (l : List Byte) (x : List Byte) (s : State), (s.thimbleUp) ∧ (s.thimble.update = some { header := some h, body := l }) ∧ (h.bodySize ≤ (l ++ x).length) ∧ (sha512 ((l ++ x).take h.bodySize) = h.bodyDigest)) ∧
    (∃ (h : FwHeader) (l : List Byte) (x : List Byte) (s : State), (s.thimbleUp) ∧ (s.thimble.update = some { header := some h, body := l }) ∧ (h.bodySize ≤ (l ++ x).length) ∧ (sha512 ((l ++ x).take h.bodySize) ≠ h.bodyDigest)) ∧
    (∃ (h : FwHeader) (l : List Byte) (s : State), (s.thimbleUp) ∧ (s.thimble.update = some { header := some h, body := l })) ∧
    (∃ (f : Firmware) (s : State), (s.thimble.restarting) ∧ (s.thimble.stored = some f) ∧ (f.valid)) ∧
    (∃ (f : Firmware) (s : State), (s.thimble.restarting) ∧ (s.thimble.stored = some f) ∧ (f.valid = false)) := ⟨
  ⟨1, mg, by decide +kernel⟩,
  ⟨1, fw {}, by decide +kernel⟩,
  ⟨1, fw { header := some hd, body := [1] }, hd, [1], by decide +kernel, by decide +kernel, rfl⟩,
  ⟨1, fw { header := none }, [], by decide +kernel⟩,
  ⟨1, { mg with thimble := { eid := 8, updated := true, stored := some { version := 3, svn := 2, digest := 0 } } }, by decide +kernel⟩,
  ⟨1, { mg [(.PLAN_STATUS_STATE, 2, 3)] with thimble := { eid := 8, updated := true, stored := some { version := 3, svn := 2, digest := 0 } } }, by decide +kernel⟩,
  ⟨1, mg, by decide +kernel⟩,
  ⟨hd, [], fw {} [(.FW_INFO_FLOOR, 0, 2)], by decide +kernel, rfl, by unfold State.fwCode; rw [if_neg (by decide +kernel), if_neg (by rw [show hd.keyId = _ from hdOf_key ..]; simp [hd, hdOf]), if_neg (by decide +kernel)]⟩,
  ⟨hdOf 33 5, [], fw {}, by decide +kernel⟩,
  ⟨hd, [1], [2, 3], fw { header := some hd, body := [1] }, by decide +kernel, rfl, by decide +kernel⟩,
  ⟨hdOf 32 (sha512 (List.replicate 32 0)), [0], List.replicate 31 0, fw { header := some (hdOf 32 (sha512 (List.replicate 32 0))), body := [0] }, by decide +kernel, rfl, by decide +kernel, (congrArg sha512 (by decide +kernel)).trans (hdOf_digest 32 (sha512_lt (List.replicate 32 0))).symm⟩,
  ⟨hdOf 32 (otherThan (List.replicate 32 0)), [0], List.replicate 31 0, fw { header := some (hdOf 32 (otherThan (List.replicate 32 0))), body := [0] }, by decide +kernel, rfl, by decide +kernel, by rw [hdOf_digest 32 (otherThan_lt _), hdOf_size _ (by norm_num)]; exact otherThan_ne _⟩,
  ⟨hd, [1], fw { header := some hd, body := [1] }, by decide +kernel, rfl⟩,
  ⟨{ version := 3, svn := 2, digest := 5, raiseFloor := true }, { mg with thimble := { eid := 8, restarting := true, stored := some { version := 3, svn := 2, digest := 5, raiseFloor := true } } }, by decide +kernel⟩,
  ⟨{ version := 3, svn := 2, digest := 5, valid := false }, { mg with thimble := { eid := 8, restarting := true, stored := some { version := 3, svn := 2, digest := 5, valid := false } } }, by decide +kernel⟩⟩

end MgmtW

/-! ### Witnesses: PowerW -/
namespace PowerW

/-- Power-on reset is released and the bring-up has completed this step, rails up to this one. -/
def up (k rail : Nat) (l : List (Fld × Nat × Nat) := []) : State := { st l with power := { por := false, step := k, rail := rail, loaded := true, up := true, go := k < 5 } }
def dom (k : Nat) (x : Domain) (l : List (Fld × Nat × Nat) := []) : State := { st l with domains := [(k, x)] }

/-- The hypotheses of each clause of Obligations.InputStage are met. -/
theorem witness_InputStage :
    (∃ (s : State), (s.power.por = false)) ∧
    (∃ (s : State), (s.power.por = false) ∧ (s.elapsed s.power.watchdog 1000000000)) ∧
    (∃ (s : State), (s.power.por = false)) ∧
    (∃ (s : State), (s.power.por = false)) ∧
    (∃ (s : State), (s.power.por = false)) ∧
    (∃ (s : State), (s.power.por = false)) ∧
    (∃ (s : State), (s.power.por = false)) ∧
    (∃ (s : State), (s.power.por = false)) ∧
    (∃ (s : State), (s.power.por = false)) ∧
    (∃ (s : State), (s.power.por = false)) ∧
    (∃ (s : State), (s.power.por = false) ∧ (s.flag .PWR_STATE_PERST = false)) ∧
    (∃ (s : State), (s.power.por = false) ∧ (s.flag .PWR_STATE_PERST)) ∧
    (∃ (s : State), (s.power.por) ∧ (s.power.railsOff = false) ∧ (s.power.aoShort = false)) ∧
    (∃ (s : State), (s.railRising)) ∧
    (∃ (s : State), (s.railRising)) := ⟨
  ⟨{ st [] with raw := 9 }, by decide +kernel⟩,
  ⟨{ st [] with raw := 64000000000 }, by decide +kernel⟩,
  ⟨st [], by decide +kernel⟩,
  ⟨st [(.INPUT_STATUS_LOW, 0, 1)], by decide +kernel⟩,
  ⟨st [], by decide +kernel⟩,
  ⟨st [], by decide +kernel⟩,
  ⟨st [], by decide +kernel⟩,
  ⟨st [], by decide +kernel⟩,
  ⟨st [], by decide +kernel⟩,
  ⟨st [], by decide +kernel⟩,
  ⟨st [], by decide +kernel⟩,
  ⟨st [(.PWR_STATE_PERST, 0, 1), (.OPTB_STATUS_APPLIED, 0, 1)], by decide +kernel⟩,
  ⟨State.reset, by decide +kernel⟩,
  ⟨up 5 3, by decide +kernel⟩,
  ⟨up 5 3, by decide +kernel⟩⟩

/-- The hypotheses of each clause of Obligations.BringUp are met. -/
theorem witness_BringUp :
    (∃ (code : Nat) (s : State), (code < 1024) ∧ (s.power.por = false) ∧ (3 ≤ s.power.step) ∧ (s.thimble.romRecovery = false) ∧ (s.thimble.restarting = false) ∧ (s.fld .OPTB_STATUS_APPLIED = 0) ∧ (s.power.abandoned = false)) ∧
    (∃ (s : State), (s.power.por = false) ∧ (s.thimble.romRecovery = false) ∧ (s.thimble.restarting = false) ∧ (s.power.step = 2)) ∧
    (∃ (s : State), (s.power.por = false) ∧ (s.thimble.romRecovery = false) ∧ (s.thimble.restarting = false) ∧ (s.power.step = 4) ∧ (s.power.go) ∧ (s.flag .PWR_STATE_PERST = false) ∧ (s.flag .INPUT_STATUS_EFUSE_OPEN = false) ∧ (s.flag .OPTB_STATUS_APPLIED) ∧ (s.clock.pllFailed = false)) ∧
    (∃ (s : State), (s.power.por = false) ∧ (s.thimble.romRecovery = false) ∧ (s.thimble.restarting = false) ∧ (s.power.step = 5) ∧ (s.power.rail = 7)) ∧
    (∃ (s : State), (s.power.por = false) ∧ (s.thimble.romRecovery = false) ∧ (s.thimble.restarting = false) ∧ (s.power.step = 6) ∧ (s.power.rail = 8)) ∧
    (∃ (s : State), (s.power.por = false) ∧ (s.thimble.romRecovery = false) ∧ (s.thimble.restarting = false) ∧ (s.power.step = 7)) ∧
    (∃ (s : State), (s.power.por = false) ∧ (s.thimble.romRecovery = false) ∧ (s.thimble.restarting = false) ∧ (s.power.step = 8)) ∧
    (∃ (s : State), (s.power.por = false) ∧ (s.thimble.romRecovery = false) ∧ (s.thimble.restarting = false) ∧ (s.power.step = 9) ∧ (s.thimble.running = none)) ∧
    (∃ (s : State), (s.power.por = false) ∧ (s.thimble.romRecovery = false) ∧ (s.thimble.restarting = false) ∧ (s.power.step = 10) ∧ (s.fld .PWR_STATE_TARGET = pwrRun) ∧ (s.power.next = 0)) ∧
    (∃ (s : State), (s.power.por = false) ∧ (s.thimble.romRecovery = false) ∧ (s.thimble.restarting = false) ∧ (s.power.step = 11)) := ⟨
  ⟨33, up 3 0, by decide +kernel⟩,
  ⟨up 2 0, by decide +kernel⟩,
  ⟨up 4 0 [(.OPTB_STATUS_APPLIED, 0, 1)], by decide +kernel⟩,
  ⟨up 5 7, by decide +kernel⟩,
  ⟨up 6 8, by decide +kernel⟩,
  ⟨{ up 7 8 with mem := { State.reset.mem with spad := [(5, 9)] } }, by decide +kernel⟩,
  ⟨up 8 8, by decide +kernel⟩,
  ⟨up 9 8, by decide +kernel⟩,
  ⟨up 10 8 [(.PWR_STATE_TARGET, 0, 3)], by decide +kernel⟩,
  ⟨up 11 8, by decide +kernel⟩⟩

/-- The hypotheses of each clause of Obligations.GatedDomains are met. -/
theorem witness_GatedDomains :
    (∃ (nn : Nat) (since : Nat) (s : State), (s.fld .PWR_STATE_STATE = pwrRun) ∧ ((s.domain nn).st = .on) ∧ ((s.pstate (s.diePart nn) = .idle ∧ bankGet 0 s.power.gate (2 * nn) = since + 1 ∧ s.elapsed since 1000000) ∨ (s.pstate (s.diePart nn) = .running ∧ s.flag .PWR_GATE_CFG ∧ (∀ k < 96, s.coreStatus (nn * 96 + k) = 2 ∨ s.coreStatus (nn * 96 + k) = 5) ∧ bankGet 0 s.power.gate (2 * nn + 1) = since + 1 ∧ s.elapsed since (s.fld .PWR_GATE_CFG * 1000)))) ∧
    (∃ (k : Nat) (s : State), ((k < 64 ∨ 96 ≤ k ∧ (s.stack ((k - 96) / 32)).waiting = [])) ∧ (∃ e ∈ [(Instr.domainDisable k, ({ st := .on } : Domain), ({ st := .isolating } : Domain)), (.domainDisable k, { st := .waking }, { st := .waking, drop := true }), (.domainDisable k, { st := .isolating, want := true }, { st := .isolating }), (.domainEnable k, { st := .off }, { st := .waking }), (.domainEnable k, { st := .isolating }, { st := .isolating, want := true }), (.domainEnable k, { st := .falling }, { st := .on }), (.domainEnable k, { st := .discharging }, { st := .discharging, want := true }), (.isolationComplete k, { st := .isolating }, { st := .falling }), (.isolationComplete k, { st := .isolating, want := true }, { st := .on }), (.railFallen k, { st := .falling }, { st := .discharging }), (.railOff k, { st := .discharging }, { st := .off }), (.railOff k, { st := .discharging, want := true }, { st := .waking }), (.domainWakeComplete k, { st := .waking }, { st := .on }), (.domainWakeComplete k, { st := .waking, drop := true }, { st := .isolating })], (s.domain k = e.2.1))) ∧
    (∃ (k : Nat) (s : State), (k < 64) ∧ (s.domain k = { st := .waking }) ∧ ((s.die k).newest ≠ 0)) ∧
    (∃ (n : Nat) (s : State), (n < 32) ∧ ((s.domain (portDom n)).st = .on)) ∧
    (∃ (n : Nat) (s : State), (n < 32) ∧ (s.domain (portDom n) = { st := .off }) ∧ (s.fld .LINK_STATUS_STATE n = linkDisabled) ∧ (s.flag .LINK_CTRL_ENABLE n)) := ⟨
  ⟨5, 0, { dom 5 { st := .on } with power := { (dom 5 {}).power with gate := [(10, 1)] }, raw := 64000000 }, by decide +kernel⟩,
  ⟨5, dom 5 { st := .on }, by decide +kernel⟩,
  ⟨5, { dom 5 { st := .waking } with dies := [(5, { newest := 2 })] }, by decide +kernel⟩,
  ⟨4, dom 68 { st := .on } [(.LINK_STATUS_STATE, 4, 4)], by decide +kernel⟩,
  ⟨4, dom 68 { st := .off } [(.LINK_CTRL_ENABLE, 4, 1)], by decide +kernel⟩⟩

/-- The hypotheses of each clause of Obligations.ThermalAndSleeve are met. -/
theorem witness_ThermalAndSleeve :
    (∃ (nn : Nat) (T : Int) (s : State), (nn < 64) ∧ (s.power.por = false) ∧ (T < 110)) ∧
    (∃ (nn : Nat) (T : Int) (s : State), (nn < 64) ∧ (s.power.por = false) ∧ (110 ≤ T)) ∧
    (∃ (party : Party) (b : Nat) (s : State), (s.partyServed party) ∧ (b ≤ 112) ∧ (s.fld .SLEEVE_STATUS_STATE = 0 ∨ s.fld .SLEEVE_STATUS_STATE = 3) ∧ (s.flag .PWR_STATE_MOVING = false) ∧ (s.blockInScope b = false)) ∧
    (∃ (party : Party) (b : Nat) (s : State), (s.partyServed party) ∧ (112 < b)) ∧
    (∃ (party : Party) (b : Nat) (s : State), (s.partyServed party) ∧ (b ≤ 112) ∧ (s.fld .SLEEVE_STATUS_STATE = 1 ∨ s.fld .SLEEVE_STATUS_STATE = 2)) ∧
    (∃ (b : Nat) (s : State), (s.fld .SLEEVE_STATUS_STATE = 1) ∧ (s.fld .SLEEVE_STATUS_BLOCK = b)) ∧
    (∃ (b : Nat) (s : State), (s.fld .SLEEVE_STATUS_STATE = 2) ∧ (s.fld .SLEEVE_STATUS_BLOCK = b)) ∧
    (∃ (e : Fin 3 × Fld × Fld) (s : State), (e ∈ ([(0, .MGMT_STATUS_ALERT, .PIN_EVENTS_ALERT_STUCK), (1, .MGMT_STATUS_FAULT, .PIN_EVENTS_FAULT_STUCK), (2, .MGMT_STATUS_THERM, .PIN_EVENTS_THERM_STUCK)] : List (Fin 3 × Fld × Fld))) ∧ (s.thimbleUp) ∧ (s.flag e.2.1 = false)) := ⟨
  ⟨5, 103, st [], by decide +kernel⟩,
  ⟨5, 110, st [], by decide +kernel⟩,
  ⟨.host, 112, st [], by decide +kernel⟩,
  ⟨.host, 113, st [], by decide +kernel⟩,
  ⟨.host, 112, st [(.SLEEVE_STATUS_STATE, 0, 2)], by decide +kernel⟩,
  ⟨5, { st [(.SLEEVE_STATUS_STATE, 0, 1), (.SLEEVE_STATUS_BLOCK, 0, 5)] with cores := [(480, { cp := .ended })] }, by decide +kernel⟩,
  ⟨5, { st [(.SLEEVE_STATUS_STATE, 0, 2), (.SLEEVE_STATUS_BLOCK, 0, 5)] with mem := { State.reset.mem with spad := [(480 * 524288, 9)] } }, by decide +kernel⟩,
  ⟨(0, .MGMT_STATUS_ALERT, .PIN_EVENTS_ALERT_STUCK), st [], by decide +kernel⟩⟩

end PowerW

/-! ### Witnesses: ObserveW -/
namespace ObserveW

def obs (o : Obs) (l : List (Fld × Nat × Nat) := []) : State := { st l with obs := o, host := { busMaster := true } }
/-- Partition 0 has an enabled ring of 64 KiB and no tenant. -/
def rng (o : Obs := {}) (l : List (Fld × Nat × Nat) := []) : State := obs o ([(.OBS_RING_CFG_EN, 0, 1), (.OBS_RING_CFG_SIZE_LOG2, 0, 16), (.SEC_STATUS_OBSERVE, 0, 1)] ++ l)
def pl : Plaster := { part := 0, number := 1, reason := 0, time := 5, regs := [], plan := {}, cores := [], ports := [], tokens := [], domains := [], srvs := [] }
def rec1 : ObsRec := { kind := recDump, time := 5, body := List.replicate 16 1 }
def dbg (l : List (Fld × Nat × Nat) := []) : State := { st ([(.SEC_PART_DEBUG, 0, 1)] ++ l) with cores := [(0, { handles := [(0, 64 * 2 ^ 10 + 2 ^ 32 + 31 * 2 ^ 48)] })], obs := { dumps := [(0, { time := 4, tag := 2, tick := 1 })] } }

/-- The hypotheses of each clause of Obligations.CountersAndStarch are met. -/
theorem witness_CountersAndStarch :
    (∃ (party : Party) (p : Nat) (c : Nat) (s : State), (party ≠ .mgmt) ∧ (s.tenantBars p party = false) ∧ (s.flag .OBS_CNT_SEL_LIVE p) ∧ (s.fld .OBS_CNT_SEL_ID p = 0x01) ∧ (s.fld .OBS_CNT_SEL_SUB p = c) ∧ (1 ≤ c) ∧ (c ≤ 23) ∧ (s.fld .OBS_CNT_SEL_INSTANCE p = 0)) ∧
    (∃ (party : Party) (p : Nat) (s : State), (party = .mgmt ∨ s.tenantBars p party)) ∧
    (∃ (s : State), (s.elapsed s.obs.aggAt (s.obs.aggMs * 1000000))) ∧
    (∃ (s : State), (s.elapsed s.obs.aggAt (s.obs.aggMs * 1000000) = false)) ∧
    (∃ (c : Instr) (s : State), ((c = .starchCtrlNow ∧ (s.fld .STARCH_STATUS_STATE = 0 ∨ s.fld .STARCH_STATUS_STATE = 1)) ∨ (c = .starchTimeReached ∧ s.fld .STARCH_STATUS_STATE = 1 ∧ s.timeReached (s.fld64 .STARCH_TIME_LO .STARCH_TIME_HI)))) ∧
    (∃ (s : State), (s.fld .STARCH_STATUS_STATE = 0) ∧ (s.twoMicrosAhead (s.fld64 .STARCH_TIME_LO .STARCH_TIME_HI))) ∧
    (∃ (c : Instr) (s : State), ((c = .starchCtrlNow ∧ 2 ≤ s.fld .STARCH_STATUS_STATE) ∨ (c = .starchCtrlArm ∧ s.fld .STARCH_STATUS_STATE ≠ 0) ∨ (c = .starchCtrlArm ∧ s.twoMicrosAhead (s.fld64 .STARCH_TIME_LO .STARCH_TIME_HI) = false) ∨ (c = .starchCtrlRelease ∧ s.fld .STARCH_STATUS_STATE ≠ 1 ∧ s.fld .STARCH_STATUS_STATE ≠ 2))) ∧
    (∃ (s : State), (s.fld .STARCH_STATUS_STATE = 1 ∨ s.fld .STARCH_STATUS_STATE = 2)) ∧
    (∃ (s : State), (s.fld .STARCH_STATUS_STATE = 3) ∧ ((∀ p < 16, s.ringOpen p ∧ ∀ r ∈ s.hub p, r.kind ≠ recCounter))) := ⟨
  ⟨.host, 0, 3, obs { counts := [(0, 7)] } [(.OBS_CNT_SEL_LIVE, 0, 1), (.OBS_CNT_SEL_ID, 0, 1), (.OBS_CNT_SEL_SUB, 0, 3)], by decide +kernel⟩,
  ⟨.host, 0, obs {} [(.SEC_PART_BOUND, 0, 1)], by decide +kernel⟩,
  ⟨{ obs { agg := [(0, 7)], aggMs := 1 } with raw := 64000000 }, by decide +kernel⟩,
  ⟨obs { agg := [(0, 7)], aggMs := 1 }, by decide +kernel⟩,
  ⟨.starchCtrlNow, obs { counts := [(4, 7)] }, by decide +kernel⟩,
  ⟨st [(.STARCH_TIME_LO, 0, 128000)], by decide +kernel⟩,
  ⟨.starchCtrlNow, obs {} [(.STARCH_STATUS_STATE, 0, 2)], by decide +kernel⟩,
  ⟨st [(.STARCH_STATUS_STATE, 0, 1)], by decide +kernel⟩,
  ⟨st ((.STARCH_STATUS_STATE, 0, 3) :: (List.range 16).map (fun p => (.OBS_RING_CFG_EN, p, 1))), by decide +kernel⟩⟩

/-- The hypotheses of each clause of Obligations.ObservationRing are met. -/
theorem witness_ObservationRing :
    (∃ (p : Nat) (r : ObsRec) (s : State), (s.dma) ∧ (s.ringOpen p) ∧ (s.nextRec p = some r) ∧ (s.padLen p r.len = 0) ∧ (s.obsRoom p r.len)) ∧
    (∃ (p : Nat) (r : ObsRec) (s : State), (s.dma) ∧ (s.ringOpen p) ∧ (s.nextRec p = some r) ∧ (s.padLen p r.len = 0) ∧ (s.obsRoom p r.len = false)) ∧
    (∃ (party : Party) (p : Nat) (s : State), (party ≠ .mgmt) ∧ (s.tenantBars p party = false) ∧ (s.flag .OBS_RING_CFG_EN p = false)) ∧
    (∃ (party : Party) (p : Nat) (v : Nat) (s : State), (party ≠ .mgmt) ∧ (s.tenantBars p party = false) ∧ (s.flag .OBS_RING_CFG_EN p = false) ∧ (16 ≤ v / 2 % 32) ∧ (v / 2 % 32 ≤ 30) ∧ (v % 2 = 1)) ∧
    (∃ (party : Party) (p : Nat) (v : Nat) (s : State), (party ≠ .mgmt) ∧ (s.tenantBars p party = false) ∧ (s.flag .OBS_RING_CFG_EN p = false) ∧ (v / 2 % 32 < 16 ∨ 30 < v / 2 % 32) ∧ (v % 2 = 1)) ∧
    (∃ (party : Party) (p : Nat) (v : Nat) (s : State), (party ≠ .mgmt) ∧ (s.tenantBars p party ∨ (s.flag .OBS_RING_CFG_EN p ∧ v % 2 = 1))) ∧
    (∃ (party : Party) (p : Nat) (v : Nat) (s : State), (party ≠ .mgmt) ∧ (s.tenantBars p party = false) ∧ (v < 2 ^ 32) ∧ ((v + 2 ^ 32 - s.fld .OBS_RING_CI p) % 2 ^ 32 ≤ s.obsUsed p)) ∧
    (∃ (party : Party) (p : Nat) (v : Nat) (s : State), (party ≠ .mgmt) ∧ (s.tenantBars p party = false) ∧ (v < 2 ^ 32) ∧ (s.obsUsed p < (v + 2 ^ 32 - s.fld .OBS_RING_CI p) % 2 ^ 32)) ∧
    (∃ (party : Party) (p : Nat) (s : State), (party ≠ .mgmt) ∧ (s.tenantBars p party = false) ∧ (s.pstate p = .idle)) ∧
    (∃ (party : Party) (p : Nat) (s : State), (party ≠ .mgmt) ∧ (s.tenantBars p party = false) ∧ (s.pstate p ≠ .idle) ∧ ((∀ x ∈ s.obs.shadows, x.part ≠ p))) ∧
    (∃ (party : Party) (p : Nat) (s : State), (party ≠ .mgmt) ∧ (s.tenantBars p party = false) ∧ (s.pstate p ≠ .idle) ∧ ((∃ x ∈ s.obs.shadows, x.part = p))) ∧
    (∃ (p : Nat) (x : Plaster) (s : State), (s.obs.shadows = [x]) ∧ (x.part = p) ∧ (x.sending = false) ∧ (s.plasterMay p)) ∧
    (∃ (p : Nat) (x : Plaster) (s : State), (s.obs.shadows = [x]) ∧ (x.part = p) ∧ (x.sending = false) ∧ (s.plasterMay p = false)) ∧
    (∃ (g : Nat) (e : Nat) (t0 : Nat) (rest : List (Nat × Nat)) (s : State), ((s.core g).trace = (e, t0) :: rest) ∧ (13 ≤ rest.length + 1 ∨ reached 64 s.now (t0 + 640000)) ∧ (s.ringOpen (s.corePart g)) ∧ (s.hubAdmits (s.corePart g))) ∧
    (∃ (g : Nat) (e : Nat) (t0 : Nat) (rest : List (Nat × Nat)) (s : State), ((s.core g).trace = (e, t0) :: rest) ∧ (13 ≤ rest.length + 1 ∨ reached 64 s.now (t0 + 640000)) ∧ (s.ringOpen (s.corePart g) = false)) := ⟨
  ⟨0, rec1, rng { hub := [(0, [rec1])] }, by decide +kernel⟩,
  ⟨0, rec1, rng { hub := [(0, [rec1])] } [(.OBS_RING_PI, 0, 65536)], by decide +kernel⟩,
  ⟨.host, 0, obs {}, by decide +kernel⟩,
  ⟨.host, 0, 2 * 16 + 1, obs {}, by decide +kernel⟩,
  ⟨.host, 0, 2 * 15 + 1, obs {}, by decide +kernel⟩,
  ⟨.host, 0, 33, rng, by decide +kernel⟩,
  ⟨.host, 0, 32, rng {} [(.OBS_RING_PI, 0, 64)], by decide +kernel⟩,
  ⟨.host, 0, 96, rng {} [(.OBS_RING_PI, 0, 64)], by decide +kernel⟩,
  ⟨.host, 0, obs {}, by decide +kernel⟩,
  ⟨.host, 0, obs {} [(.PLAN_STATUS_STATE, 0, 3)], by decide +kernel⟩,
  ⟨.host, 0, obs { shadows := [pl] } [(.PLAN_STATUS_STATE, 0, 3)], by decide +kernel⟩,
  ⟨0, pl, rng { shadows := [pl] }, by decide +kernel⟩,
  ⟨0, pl, obs { shadows := [pl] }, by decide +kernel⟩,
  ⟨0, 7, 0, [], { rng with cores := [(0, { trace := [(7, 0)] })], raw := 640000 }, by decide +kernel⟩,
  ⟨0, 7, 0, [], { obs {} with cores := [(0, { trace := [(7, 0)] })], raw := 640000 }, by decide +kernel⟩⟩

/-- The hypotheses of each clause of Obligations.DumpsAndNdCtrl are met. -/
theorem witness_DumpsAndNdCtrl :
    (∃ (party : Party) (p : Nat) (s : State), (party ≠ .mgmt) ∧ (s.dumpMay p party = false)) ∧
    (∃ (party : Party) (p : Nat) (k : Nat) (v : Nat) (s : State), (party ≠ .mgmt) ∧ (s.dumpMay p party) ∧ (s.flag .DUMP_CFG_EN (dumpAt p k)) ∧ (v % 2 = 1)) ∧
    (∃ (party : Party) (p : Nat) (k : Nat) (s : State), (party ≠ .mgmt) ∧ (s.dumpMay p party) ∧ (s.flag .DUMP_CFG_EN (dumpAt p k) = false)) ∧
    (∃ (party : Party) (p : Nat) (k : Nat) (s : State), (party ≠ .mgmt) ∧ (s.dumpMay p party) ∧ (s.flag .DUMP_CFG_EN (dumpAt p k) = false)) ∧
    (∃ (party : Party) (p : Nat) (k : Nat) (s : State), (party ≠ .mgmt) ∧ (s.dumpMay p party) ∧ (s.flag .DUMP_CFG_EN (dumpAt p k) = false)) ∧
    (∃ (party : Party) (p : Nat) (k : Nat) (s : State), (party ≠ .mgmt) ∧ (s.dumpMay p party) ∧ (s.flag .DUMP_CFG_EN (dumpAt p k) = false)) ∧
    (∃ (party : Party) (p : Nat) (k : Nat) (s : State), (party ≠ .mgmt) ∧ (s.dumpMay p party) ∧ (s.flag .DUMP_CFG_EN (dumpAt p k) = false)) ∧
    (∃ (party : Party) (p : Nat) (k : Nat) (v : Nat) (s : State), (party ≠ .mgmt) ∧ (s.dumpMay p party) ∧ (s.flag .DUMP_CFG_EN (dumpAt p k) = false) ∧ (v % 2 = 1) ∧ (s.dumpShapeBad p (dumpAt p k) = false)) ∧
    (∃ (party : Party) (p : Nat) (k : Nat) (v : Nat) (s : State), (party ≠ .mgmt) ∧ (s.dumpMay p party) ∧ (s.flag .DUMP_CFG_EN (dumpAt p k) = false) ∧ (v % 2 = 1) ∧ (s.dumpShapeBad p (dumpAt p k))) ∧
    (∃ (p : Nat) (k : Nat) (tag : Nat) (s : State), (s.dumpFires p (dumpAt p k) tag) ∧ (s.flag .DUMP_STATUS_RUNNING (dumpAt p k) = false) ∧ (s.dumpCheck (dumpAt p k) = 0)) ∧
    (∃ (p : Nat) (k : Nat) (tag : Nat) (s : State), (s.dumpFires p (dumpAt p k) tag) ∧ (s.flag .DUMP_STATUS_RUNNING (dumpAt p k)) ∧ (s.fld .DUMP_STATUS_MISSED (dumpAt p k) < 255)) ∧
    (∃ (p : Nat) (k : Nat) (s : State), (s.flag .DUMP_STATUS_RUNNING (dumpAt p k)) ∧ (s.ringOpen p)) ∧
    (∃ (party : Party) (p : Nat) (s : State), (party ≠ .mgmt) ∧ (s.patchable p)) ∧
    (∃ (party : Party) (p : Nat) (s : State), (party ≠ .mgmt) ∧ (s.patchable p = false)) := ⟨
  ⟨.host, 0, st [], by decide +kernel⟩,
  ⟨.host, 0, 0, 1, dbg [(.DUMP_CFG_EN, 0, 1)], by decide +kernel⟩,
  ⟨.host, 0, 0, dbg, by decide +kernel⟩,
  ⟨.host, 0, 0, dbg, by decide +kernel⟩,
  ⟨.host, 0, 0, dbg, by decide +kernel⟩,
  ⟨.host, 0, 0, dbg, by decide +kernel⟩,
  ⟨.host, 0, 0, dbg, by decide +kernel⟩,
  ⟨.host, 0, 0, 257, dbg [(.DUMP_LENGTH, 0, 64)], by decide +kernel⟩,
  ⟨.host, 0, 0, 257, dbg [(.DUMP_LENGTH, 0, 63)], by decide +kernel⟩,
  ⟨0, 0, 2, dbg [(.DUMP_CFG_EN, 0, 1), (.DUMP_TAG_MASK, 0, 3), (.DUMP_TAG_VALUE, 0, 2), (.DUMP_LENGTH, 0, 64)], by decide +kernel⟩,
  ⟨0, 0, 2, dbg [(.DUMP_CFG_EN, 0, 1), (.DUMP_TAG_MASK, 0, 3), (.DUMP_TAG_VALUE, 0, 2), (.DUMP_STATUS_RUNNING, 0, 1), (.DUMP_STATUS_MISSED, 0, 254)], by decide +kernel⟩,
  ⟨0, 0, { dbg [(.DUMP_STATUS_RUNNING, 0, 1), (.DUMP_LENGTH, 0, 64), (.OBS_RING_CFG_EN, 0, 1), (.OBS_RING_CFG_SIZE_LOG2, 0, 16)] with host := { busMaster := true } }, by decide +kernel⟩,
  ⟨.host, 0, st [], by decide +kernel⟩,
  ⟨.host, 0, st [(.PLAN_STATUS_STATE, 0, 3)], by decide +kernel⟩⟩

end ObserveW

/-! ### Witnesses: the step -/

/-- The hypotheses of Obligations.IdleStep and Obligations.MemWfStep are met. -/
theorem witness_IdleStep : ∃ s : State, s.pending = [] ∧ s.power.por = false ∧ 3 ≤ s.power.step ∧ (∀ e ∈ s.hbmStacks, e.2.waiting = []) ∧ s.plinthWait = [] ∧
    ∀ p < 16, (s.part p).abortAt = 0 := ⟨st [], rfl, rfl, by decide, by decide, rfl, by decide⟩
theorem witness_MemWfStep : ∃ s t : State, s.memWf = true ∧ step s = .next t := ⟨State.reset, _, by decide +kernel, rfl⟩

end Sys2Proof.Tests
end

section
/-! PROOFS. Register accesses (00 R5 to R11; 14 R431, 16 R493), in layers: accesses that reach no register; how a register whose fields
are all of one access code is read and written; the example registers of Obligations.RegisterAccess, each with what an access of it does to the
state; the statement, clause by clause. -/
namespace Sys2Proof.Machine
open Sys2Proof

/-! ### An access reaches its register, or leaves the state as it is -/

theorem State.readKind_unnamed {a : Nat} (h : regAt a = none) (s : State) (party : Party) (counted : Bool) (kind : Reg → Bool) :
    s.readKind party a counted kind = s := by
  simp [State.readKind, h]

theorem State.writeKind_unnamed {a : Nat} (h : regAt a = none) (s : State) (party : Party) (v : Nat) (kind : Reg → Bool) (also : Meanwhile) :
    s.writeKind party a v kind also = s := by
  simp [State.writeKind, h]

theorem State.readKind_shut {s : State} {party : Party} (h : s.hostShut party = true) (a : Nat) (counted : Bool) (kind : Reg → Bool) :
    s.readKind party a counted kind = s := by
  unfold State.readKind
  split <;> simp [h]

theorem State.writeKind_shut {s : State} {party : Party} (h : s.hostShut party = true) (a v : Nat) (kind : Reg → Bool) (also : Meanwhile) :
    s.writeKind party a v kind also = s := by
  unfold State.writeKind
  split <;> simp [h]

theorem State.readKind_named {a : Nat} {r : Reg} {kind : Reg → Bool} {s : State} {party : Party} (ha : regAt a = some r)
    (hk : kind r = true) (hs : s.hostShut party = false) (counted : Bool) :
    s.readKind party a counted kind = (s.readReg party a r counted).1.out (.readData party (s.readReg party a r counted).2) := by
  simp [State.readKind, ha, hk, hs]

theorem State.writeKind_named {a : Nat} {r : Reg} {kind : Reg → Bool} {s : State} {party : Party} (ha : regAt a = some r)
    (hk : kind r = true) (hs : s.hostShut party = false) (v : Nat) (also : Meanwhile) :
    s.writeKind party a v kind also = s.writeTied party a r v also := by
  simp [State.writeKind, ha, hk, hs]

/-! ### The commands of register accesses, of BAR0 -/

theorem exec_registerWrite_bar0 (party : Party) (off v : Nat) (also : Meanwhile) (s : State) :
    exec (.registerWrite party false off v also) s = .next (s.writeKind party off v (fun r => !r.pairLow && !r.pairHigh) also) := rfl

theorem exec_pairLoRead_lo (party : Party) (off : Nat) (s : State) :
    exec (.pairLoRead party false off .lo) s = .next (s.readKind party off false Reg.isLo) := rfl

theorem exec_pairLoRead_both (party : Party) (off : Nat) (s : State) :
    exec (.pairLoRead party false off .both) s =
      .next ((s.readKind party off false Reg.isLo).readKind party (off + 4) false Reg.isHi) := rfl

theorem exec_pairLoWrite_lo (party : Party) (off v : Nat) (s : State) :
    exec (.pairLoWrite party false off v none) s = .next (s.writeKind party off v (fun r => r.pairLow || (false && r.isLo))) := rfl

theorem exec_pairLoWrite_both (party : Party) (off lo hi : Nat) (s : State) :
    exec (.pairLoWrite party false off lo (some hi)) s =
      .next ((s.writeKind party off lo (fun r => r.pairLow || (true && r.isLo))).writeKind party (off + 4) hi Reg.isHi) := rfl

theorem exec_pairHiWrite_bar0 (party : Party) (off v : Nat) (also : Meanwhile) (s : State) :
    exec (.pairHiWrite party false off v also) s = .next (s.writeKind party off v Reg.pairHigh also) := rfl

theorem exec_rcCounterRead_bar0 (party : Party) (off : Nat) (counted : Bool) (s : State) :
    exec (.rcCounterRead party false off counted) s = .next (s.readKind party off counted (fun r => r.has .RC)) := rfl

theorem exec_hiReadAdvance_bar0 (party : Party) (off : Nat) (s : State) :
    exec (.hiReadAdvance party false off) s = .next (s.readKind party off false Reg.advances) := rfl

/-! ### The fields of a register under a write -/

theorem State.setFld_mod (s : State) (f : Fld) (v i k : Nat) : s.setFld f (v % 2 ^ f.width) i k = s.setFld f v i k := by
  simp [State.setFld]

/-- A fold that acts on the members of a kind only, over a list that has none. -/
theorem foldl_skip {β : Type} (p : β → Prop) [DecidablePred p] (f : State → β → State) {l : List β} (h : ∀ b ∈ l, ¬ p b) (s : State) :
    l.foldl (fun s b => if p b then f s b else s) s = s := by
  induction l with
  | nil => rfl
  | cons b t ih =>
    rw [List.forall_mem_cons] at h
    simpa [h.1] using ih h.2

theorem Reg.forall_acc_ne {r : Reg} {a : Access} (h : r.has a = false) : ∀ f ∈ r.row.fields, ¬ f.acc = a := by
  simpa [Reg.has] using h

theorem State.hwSets_of_no_w1c {r : Reg} (h : r.has .W1C = false) (s : State) (sets : Nat) : s.hwSets r sets = s :=
  foldl_skip _ _ (Reg.forall_acc_ne h) s

theorem State.clearRc_of_no_rc {r : Reg} (h : r.has .RC = false) (s : State) (counted : Bool) : s.clearRc r counted = s :=
  foldl_skip _ _ (Reg.forall_acc_ne h) s

/-- A field without a code that goes with it. -/
theorem State.dropCode_of_no_code {f : Fld} (h : validBits.find? (fun e => e.1.code = f.code) = none) (s : State) (i v : Nat) :
    s.dropCode f i v = s := by
  simp [State.dropCode, h]

theorem State.writeFld_ro {f : Fld} (h : f.acc = .RO) (s : State) (i k v : Nat) : s.writeFld f i k v = s := by
  simp [State.writeFld, h]

theorem State.writeFld_rw {f : Fld} (h : f.acc = .RW) (s : State) (i k v : Nat) :
    s.writeFld f i k v = s.setFld f (v / 2 ^ (f.code % 32)) i k := by
  simp [State.writeFld, h, State.setFld_mod]

/-- A one clears a W1C bit (00 Table 0.6). -/
theorem State.writeFld_w1c_one {f : Fld} (h : f.acc = .W1C) (hw : f.width = 1) {v : Nat} (hv : v.testBit (f.code % 32) = true)
    (s : State) (i k : Nat) : s.writeFld f i k v = s.setFld f 0 i k := by
  have hx : v / 2 ^ (f.code % 32) % 2 = 1 := by simpa [Nat.testBit_eq_decide_div_mod_eq] using hv
  simp [State.writeFld, h, hw, hx]

/-- A zero leaves a W1C bit as it was (00 Table 0.6). -/
theorem State.writeFld_w1c_zero {f : Fld} (h : f.acc = .W1C) (hw : f.width = 1) {v : Nat} (hv : v.testBit (f.code % 32) = false)
    (s : State) (i k : Nat) : s.writeFld f i k v = s.setFld f (s.fld f i k) i k := by
  have hx : v / 2 ^ (f.code % 32) % 2 = 0 := by simpa [Nat.testBit_eq_decide_div_mod_eq] using hv
  rw [← State.setFld_mod s f (s.fld f i k)]
  simp [State.writeFld, h, hw, hx, Nat.and_one_is_mod]

/-- A register of one RW field. -/
theorem State.writeFlds_rw {r : Reg} {f : Fld} (hf : r.row.fields = [f]) (ha : f.acc = .RW)
    (hv : validBits.find? (fun e => e.1.code = f.code) = none) (s : State) (v : Nat) :
    s.writeFlds r v = s.setFld f (v / 2 ^ (f.code % 32)) r.i r.k := by
  simp [State.writeFlds, hf, State.writeFld_rw ha, State.dropCode_of_no_code hv]

/-! ### A write with what else its cycle holds -/

theorem Reg.w1c_eq_zero {r : Reg} (h : r.has .W1C = false) : r.w1c = 0 := by
  have hn := Reg.forall_acc_ne h
  unfold Reg.w1c
  generalize r.row.fields = l at hn
  induction l with
  | nil => rfl
  | cons f t ih =>
    rw [List.forall_mem_cons] at hn
    simpa [hn.1] using ih hn.2

/-- A register with no W1C bits, written alone. -/
theorem State.writeTied_alone {r : Reg} (hw : r.has .W1C = false) (hp : r.pairHigh = true → (r.other (r.row.id - 1)).has .W1C = false)
    (s : State) (party : Party) (a v : Nat) : s.writeTied party a r v {} = s.writeReg party a r (v % 2 ^ 32) := by
  by_cases h : r.pairHigh = true
  · simp [State.writeTied, h, State.hwSets_of_no_w1c hw, State.hwSets_of_no_w1c (hp h)]
  · simp [State.writeTied, h, State.hwSets_of_no_w1c hw]

/-- A register with no W1C bits and of no pair, written by host software and the management agent in one cycle. -/
theorem State.writeTied_host_both {r : Reg} (hw : r.has .W1C = false) (hp : r.pairHigh = false) (s : State) (a v w : Nat) :
    s.writeTied .host a r v { other := some w } = s.bothWrite .host a r (v % 2 ^ 32) (w % 2 ^ 32) := by
  simp [State.writeTied, hp, State.hwSets_of_no_w1c hw]

/-! ### Writes by block -/

theorem State.writeReg_spad {r : Reg} (hg : r.row.group = .spadG) (hl : r.pairLow = false) (s : State) (party : Party) (a v : Nat) :
    s.writeReg party a r v = s.writeSpad party a r v := by
  simp [State.writeReg, Reg.closed, hg, hl]

/-- Of two writes of one cycle the management agent's is carried out (16 R493). -/
theorem State.bothWrite_spad {r : Reg} (hg : r.row.group = .spadG) (hh : r.hostOnly = false) (s : State) (hp : Party) (a h m : Nat) :
    s.bothWrite hp a r h m = s.writeReg .mgmt a r m := by
  simp [State.bothWrite, hg, hh]

theorem State.writeReg_fab {r : Reg} (hg : r.row.group = .fabG) (hl : r.pairLow = false) (s : State) (party : Party) (a v : Nat) :
    s.writeReg party a r v = s.writeFlds r v := by
  simp [State.writeReg, Reg.closed, hg, hl]

/-! ### Reads -/

/-- A register of one field that fills it from bit 0 and is no view. -/
theorem State.regValue_whole {r : Reg} {f : Fld} (hf : r.row.fields = [f]) (hz : f.readsZero = false) (hc : f.code % 32 = 0)
    (hv : views.find? (fun e => e.1.code = f.code) = none) (s : State) : s.regValue r = s.fld f r.i r.k % 2 ^ f.width := by
  simp [State.regValue, hf, hz, hc, State.shown, hv]

theorem State.advanceIndex_of_not {r : Reg} (h : r.advances = false) (s : State) : s.advanceIndex r = s := by
  have hn := h
  simp only [Reg.advances, Bool.or_eq_false_iff, List.contains_eq_mem, List.mem_cons, List.not_mem_nil, or_false, not_or,
    decide_eq_false_iff_not] at hn
  obtain ⟨⟨h1, h2, h3, h4, h5⟩, -⟩ := hn
  simp [State.advanceIndex, h, h1, h2, h3, h4, h5]

/-- A read of a register that is open to the party and does nothing before it. -/
theorem State.readReg_open {r : Reg} {s : State} {party : Party} (hc : r.closed party = false) (hb : s.beforeRead party r = s) (a : Nat)
    (counted : Bool) : s.readReg party a r counted = (s.afterRead party a r counted, s.readValue party a r) := by
  simp [State.readReg, hc, hb]

/-- After a read of a low half the high half is latched (00 R8). -/
theorem State.afterRead_low {r : Reg} (hl : r.isLo = true) (he : r.ext = none) (hr : r.has .RC = false) (ha : r.advances = false)
    (s : State) (party : Party) (a : Nat) (counted : Bool) :
    s.afterRead party a r counted = s.latchHigh party a (s.seen party (r.other (r.row.id + 1))) := by
  simp [State.afterRead, hl, State.latchPair, he, State.clearRc_of_no_rc hr, State.advanceIndex_of_not ha]

theorem State.latchedOr_of_latched {s : State} {party : Party} {a v : Nat} (h : bankGet 0 s.latch (pairKey party a) = v + 1) (cur : Nat) :
    s.latchedOr party a cur = v := by
  simp [State.latchedOr, h]

@[simp] theorem State.hostShut_out (s : State) (o : Out) (party : Party) : (s.out o).hostShut party = s.hostShut party := rfl
@[simp] theorem State.hostShut_latchHigh (s : State) (p party : Party) (a v : Nat) :
    (s.latchHigh p a v).hostShut party = s.hostShut party := rfl
@[simp] theorem State.hostShut_holdLow (s : State) (p party : Party) (a v : Nat) :
    (s.holdLow p a v).hostShut party = s.hostShut party := rfl

@[simp] theorem State.bankGet_latchHigh (s : State) (party : Party) (a v : Nat) :
    bankGet 0 (s.latchHigh party a v).latch (pairKey party a) = v % 2 ^ 32 + 1 := by
  simp [State.latchHigh]

@[simp] theorem State.bankGet_holdLow (s : State) (party : Party) (a v : Nat) :
    bankGet 0 (s.holdLow party a v).held (pairKey party a) = v % 2 ^ 32 + 1 := by
  simp [State.holdLow]

/-- With a low half held, the high half commits both and uses it up (00 R9). -/
theorem State.commitPair_of_held {s : State} {party : Party} {a lo : Nat} (h : bankGet 0 s.held (pairKey party a) = lo + 1) (cur hi : Nat) :
    s.commitPair party a cur hi = (lo + hi % 2 ^ 32 * 2 ^ 32, { s with held := bankSet 0 s.held (pairKey party a) 0 }) := by
  simp [State.commitPair, h]

/-! ### POOL_SCRUB: an RW field -/

def regPoolScrub : Reg := ⟨⟨"POOL_SCRUB", 115, .spadG, 0x70, 4, 1, [.POOL_SCRUB]⟩, 0, 0⟩

theorem regAt_poolScrub : regAt 0x00400070 = some regPoolScrub := rfl

theorem State.writeReg_poolScrub (s : State) (party : Party) (a v : Nat) :
    s.writeReg party a regPoolScrub v = s.setFld .POOL_SCRUB v := by
  have hw : s.writeReg party a regPoolScrub v = s.writeFlds regPoolScrub v := by
    rw [State.writeReg_spad rfl rfl]
    cases party <;> rfl
  rw [hw, State.writeFlds_rw (f := .POOL_SCRUB) rfl rfl rfl]
  simp [regPoolScrub, Fld.POOL_SCRUB]

theorem State.setFld_poolScrub (s : State) (v : Nat) : (s.setFld .POOL_SCRUB (v % 2 ^ 32)).fld .POOL_SCRUB = v % 2 ∧
    OnlyRegs s (s.setFld .POOL_SCRUB (v % 2 ^ 32)) [(.POOL_SCRUB, 0)] := by
  refine ⟨?_, (OnlyRegs.refl s _).setFld _ _ (by decide) (by simp)⟩
  rw [State.fld_setFld_self]
  exact Nat.mod_mod_of_dvd v (by decide)

theorem registerWrite_poolScrub {s : State} {party : Party} (hs : s.hostShut party = false) (v : Nat) :
    Completes (.registerWrite party false 0x00400070 v {}) s
      (fun t => t.fld .POOL_SCRUB = v % 2 ∧ OnlyRegs s t [(.POOL_SCRUB, 0)]) := by
  refine ⟨_, exec_registerWrite_bar0 .., ?_⟩
  rw [State.writeKind_named regAt_poolScrub rfl hs, State.writeTied_alone rfl (by decide), State.writeReg_poolScrub]
  exact State.setFld_poolScrub s v

theorem registerWrite_poolScrub_both {s : State} (hs : s.hostShut .host = false) (v w : Nat) :
    Completes (.registerWrite .host false 0x00400070 v { other := some w }) s
      (fun t => t.fld .POOL_SCRUB = w % 2 ∧ OnlyRegs s t [(.POOL_SCRUB, 0)]) := by
  refine ⟨_, exec_registerWrite_bar0 .., ?_⟩
  rw [State.writeKind_named regAt_poolScrub rfl hs, State.writeTied_host_both rfl rfl, State.bothWrite_spad rfl rfl, State.writeReg_poolScrub]
  exact State.setFld_poolScrub s w

/-! ### FAB_ERROR_INFO: a W1C bit with a code -/

def regFabErrorInfo : Reg :=
  ⟨⟨"FAB_ERROR_INFO", 148, .fabG, 0x8, 4, 1,
    [.FAB_ERROR_INFO_NODE, .FAB_ERROR_INFO_EDGE, .FAB_ERROR_INFO_PARTITION, .FAB_ERROR_INFO_VALID]⟩, 0, 0⟩

theorem regAt_fabErrorInfo : regAt 0x00600008 = some regFabErrorInfo := rfl

theorem Reg.w1c_fabErrorInfo : regFabErrorInfo.w1c = 2 ^ 31 := rfl

/-- Only VALID can be written; its code goes with it. -/
theorem State.writeFlds_fabErrorInfo (s : State) (v : Nat) :
    s.writeFlds regFabErrorInfo v = (s.writeFld .FAB_ERROR_INFO_VALID 0 0 v).dropCode .FAB_ERROR_INFO_VALID 0 v := by
  simp only [State.writeFlds, regFabErrorInfo, List.foldl]
  rw [State.writeFld_ro (f := .FAB_ERROR_INFO_NODE) rfl, State.dropCode_of_no_code (f := .FAB_ERROR_INFO_NODE) rfl,
    State.writeFld_ro (f := .FAB_ERROR_INFO_EDGE) rfl, State.dropCode_of_no_code (f := .FAB_ERROR_INFO_EDGE) rfl,
    State.writeFld_ro (f := .FAB_ERROR_INFO_PARTITION) rfl, State.dropCode_of_no_code (f := .FAB_ERROR_INFO_PARTITION) rfl]

theorem State.writeFlds_fabErrorInfo_one {v : Nat} (hv : v.testBit 31 = true) (s : State) :
    s.writeFlds regFabErrorInfo v = (s.setFld .FAB_ERROR_INFO_VALID 0).setFld .FAB_ERROR_CODE 0 := by
  have hd (u : State) : u.dropCode .FAB_ERROR_INFO_VALID 0 v = u.setFld .FAB_ERROR_CODE 0 := if_pos hv
  rw [State.writeFlds_fabErrorInfo, State.writeFld_w1c_one rfl rfl hv, hd]

theorem State.writeFlds_fabErrorInfo_zero {v : Nat} (hv : v.testBit 31 = false) (s : State) :
    s.writeFlds regFabErrorInfo v = s.setFld .FAB_ERROR_INFO_VALID (s.fld .FAB_ERROR_INFO_VALID) := by
  have hd (u : State) : u.dropCode .FAB_ERROR_INFO_VALID 0 v = u := if_neg (Bool.eq_false_iff.mp hv)
  rw [State.writeFlds_fabErrorInfo, State.writeFld_w1c_zero rfl rfl hv, hd]

theorem State.hwSets_fabErrorInfo (s : State) (sets : Nat) :
    s.hwSets regFabErrorInfo sets =
      s.setFld .FAB_ERROR_INFO_VALID (s.fld .FAB_ERROR_INFO_VALID ||| sets / 2 ^ 31 % 2) := rfl

/-- The ones that fall on bits set by hardware in the same cycle do not count; then those bits are set (00 R7). -/
theorem State.writeTied_fabErrorInfo (s : State) (party : Party) (a v sets : Nat) :
    s.writeTied party a regFabErrorInfo v { sets := sets } =
      (s.writeFlds regFabErrorInfo (v % 2 ^ 32 - (v % 2 ^ 32 &&& (sets &&& 2 ^ 31)))).hwSets regFabErrorInfo sets := by
  have hp : regFabErrorInfo.pairHigh = false := rfl
  simp only [State.writeTied, hp, Reg.w1c_fabErrorInfo, State.writeReg_fab (r := regFabErrorInfo) rfl rfl]
  rfl

theorem testBit_sub_and_two_pow (x n : Nat) : (x - (x &&& 2 ^ n)).testBit n = false := by
  rw [Nat.and_two_pow]
  cases hx : x.testBit n with
  | false => simpa using hx
  | true =>
    obtain ⟨y, rfl⟩ := Nat.exists_eq_add_of_le (Nat.ge_two_pow_of_testBit hx)
    simpa [Nat.testBit_two_pow_add_eq] using hx

theorem registerWrite_fabErrorInfo_clears {s : State} {party : Party} (hs : s.hostShut party = false) {v : Nat} (hv : v < 2 ^ 32)
    (hb : v.testBit 31 = true) :
    Completes (.registerWrite party false 0x00600008 v {}) s (fun t => t.fld .FAB_ERROR_INFO_VALID = 0 ∧ t.fld .FAB_ERROR_CODE = 0 ∧
      OnlyRegs s t [(.FAB_ERROR_INFO_VALID, 0), (.FAB_ERROR_CODE, 0)]) := by
  refine ⟨_, exec_registerWrite_bar0 .., ?_⟩
  have hk : v % 2 ^ 32 - (v % 2 ^ 32 &&& (0 &&& 2 ^ 31)) = v := by
    rw [Nat.zero_and, Nat.and_zero, Nat.sub_zero, Nat.mod_eq_of_lt hv]
  rw [State.writeKind_named regAt_fabErrorInfo rfl hs, State.writeTied_fabErrorInfo, hk, State.writeFlds_fabErrorInfo_one hb,
    State.hwSets_fabErrorInfo]
  refine ⟨?_, ?_, (((OnlyRegs.refl s _).setFld _ _ (by decide) (by simp)).setFld _ _ (by decide) (by simp)).setFld _ _ (by decide) (by simp)⟩
  · rw [State.fld_setFld_self, State.fld_setFld_ne _ _ (.inl (by decide)), State.fld_setFld_self]
    rfl
  · rw [State.fld_setFld_ne _ _ (.inl (by decide)), State.fld_setFld_self]
    rfl

theorem registerWrite_fabErrorInfo_hwSet {s : State} {party : Party} (hs : s.hostShut party = false) (v : Nat) :
    Completes (.registerWrite party false 0x00600008 v { sets := 2 ^ 31 }) s (fun t => t.fld .FAB_ERROR_INFO_VALID = 1 ∧
      OnlyRegs s t [(.FAB_ERROR_INFO_VALID, 0)]) := by
  refine ⟨_, exec_registerWrite_bar0 .., ?_⟩
  rw [State.writeKind_named regAt_fabErrorInfo rfl hs, State.writeTied_fabErrorInfo, Nat.and_self,
    State.writeFlds_fabErrorInfo_zero (testBit_sub_and_two_pow _ _), State.hwSets_fabErrorInfo]
  refine ⟨?_, ((OnlyRegs.refl s _).setFld _ _ (by decide) (by simp)).setFld _ _ (by decide) (by simp)⟩
  rw [State.fld_setFld_self, State.fld_setFld_self]
  simp [Fld.FAB_ERROR_INFO_VALID]

/-! ### PLAN_TICK: a pair that is read -/

def regPlanTickLo : Reg := ⟨⟨"PLAN_TICK_LO", 26, .planP, 0x8, 4, 1, [.PLAN_TICK_LO]⟩, 0, 0⟩
def regPlanTickHi : Reg := ⟨⟨"PLAN_TICK_HI", 27, .planP, 0xc, 4, 1, [.PLAN_TICK_HI]⟩, 0, 0⟩

theorem regAt_planTickLo : regAt 0x00101008 = some regPlanTickLo := rfl
theorem regAt_planTickHi : regAt (0x00101008 + 4) = some regPlanTickHi := rfl
theorem Reg.other_planTickLo : regPlanTickLo.other (regPlanTickLo.row.id + 1) = regPlanTickHi := rfl

theorem State.seen_planTickLo (s : State) (party : Party) : s.seen party regPlanTickLo = s.fld .PLAN_TICK_LO % 2 ^ 32 :=
  State.regValue_whole (f := .PLAN_TICK_LO) rfl rfl rfl rfl s

theorem State.seen_planTickHi (s : State) (party : Party) : s.seen party regPlanTickHi = s.fld .PLAN_TICK_HI % 2 ^ 32 :=
  State.regValue_whole (f := .PLAN_TICK_HI) rfl rfl rfl rfl s

theorem State.readKind_planTickLo {s : State} {party : Party} (hs : s.hostShut party = false) :
    s.readKind party 0x00101008 false Reg.isLo =
      (s.latchHigh party 0x00101008 (s.fld .PLAN_TICK_HI % 2 ^ 32)).out (.readData party (s.fld .PLAN_TICK_LO % 2 ^ 32)) := by
  have hv : s.readValue party 0x00101008 regPlanTickLo = s.seen party regPlanTickLo := rfl
  rw [State.readKind_named regAt_planTickLo rfl hs, State.readReg_open (by cases party <;> rfl) rfl, State.afterRead_low rfl rfl rfl rfl,
    Reg.other_planTickLo, hv, State.seen_planTickLo, State.seen_planTickHi]

/-- The high half is read as it was latched. -/
theorem State.readKind_planTickHi {s : State} {party : Party} (hs : s.hostShut party = false) {v : Nat}
    (hl : bankGet 0 s.latch (pairKey party 0x00101008) = v + 1) :
    s.readKind party (0x00101008 + 4) false Reg.isHi = s.out (.readData party v) := by
  have hv : s.readValue party (0x00101008 + 4) regPlanTickHi = s.latchedOr party 0x00101008 (s.seen party regPlanTickHi) := rfl
  have ha : s.afterRead party (0x00101008 + 4) regPlanTickHi false = s := rfl
  rw [State.readKind_named regAt_planTickHi rfl hs, State.readReg_open (by cases party <;> rfl) rfl, hv, ha, State.latchedOr_of_latched hl]

theorem pairLoRead_planTick {s : State} {party : Party} (hs : s.hostShut party = false) :
    Completes (.pairLoRead party false 0x00101008 .lo) s (fun t => .readData party (s.fld .PLAN_TICK_LO 0 % 2 ^ 32) ∈ t.outs ∧
      bankGet 0 t.latch (pairKey party 0x00101008) = s.fld .PLAN_TICK_HI 0 % 2 ^ 32 + 1 ∧ t = { s with outs := t.outs, latch := t.latch }) := by
  refine ⟨_, exec_pairLoRead_lo .., ?_⟩
  rw [State.readKind_planTickLo hs]
  refine ⟨by simp [State.out], ?_, rfl⟩
  rw [State.out_latch, State.bankGet_latchHigh, Nat.mod_mod]

theorem pairLoRead_planTick_both {s : State} {party : Party} (hs : s.hostShut party = false) :
    Completes (.pairLoRead party false 0x00101008 .both) s (fun t => t = { s with outs := t.outs, latch := t.latch } ∧
      t.outs = s.outs ++ [.readData party (s.fld .PLAN_TICK_LO 0 % 2 ^ 32), .readData party (s.fld .PLAN_TICK_HI 0 % 2 ^ 32)]) := by
  refine ⟨_, exec_pairLoRead_both .., ?_⟩
  rw [State.readKind_planTickLo hs, State.readKind_planTickHi (by simpa using hs) (by rw [State.out_latch, State.bankGet_latchHigh])]
  refine ⟨rfl, ?_⟩
  simp [State.out, State.latchHigh]

/-! ### SIDE_DST: a pair that host software writes -/

def regSideDstLo : Reg := ⟨⟨"SIDE_DST_LO", 108, .spadG, 0x34, 4, 1, [.SIDE_DST_LO]⟩, 0, 0⟩
def regSideDstHi : Reg := ⟨⟨"SIDE_DST_HI", 109, .spadG, 0x38, 4, 1, [.SIDE_DST_HI]⟩, 0, 0⟩

theorem regAt_sideDstLo : regAt 0x00400034 = some regSideDstLo := rfl
theorem regAt_sideDstHi : regAt (0x00400034 + 4) = some regSideDstHi := rfl
theorem Reg.other_sideDstHi : regSideDstHi.other (regSideDstHi.row.id - 1) = regSideDstLo := rfl

/-- The state with both halves of SIDE_DST committed, and the held half used up. -/
def State.commitSideDst (s : State) (party : Party) (lo hi : Nat) : State :=
  (({ s with held := bankSet 0 s.held (pairKey party 0x00400034) 0 } : State).setFld .SIDE_DST_LO lo).setFld .SIDE_DST_HI hi

theorem State.writeFlds_sideDstLo (s : State) (v : Nat) : s.writeFlds regSideDstLo v = s.setFld .SIDE_DST_LO v := by
  rw [State.writeFlds_rw (f := .SIDE_DST_LO) rfl rfl rfl]
  simp [regSideDstLo, Fld.SIDE_DST_LO]

theorem State.writeFlds_sideDstHi (s : State) (v : Nat) : s.writeFlds regSideDstHi v = s.setFld .SIDE_DST_HI v := by
  rw [State.writeFlds_rw (f := .SIDE_DST_HI) rfl rfl rfl]
  simp [regSideDstHi, Fld.SIDE_DST_HI]

theorem State.writeReg_sideDstLo {party : Party} (hp : party ≠ .mgmt) (s : State) (a v : Nat) :
    s.writeReg party a regSideDstLo v = s.holdLow party a v := by
  cases party with
  | mgmt => exact absurd rfl hp
  | host => rfl
  | bound => rfl

theorem State.writeReg_sideDstHi {party : Party} (hp : party ≠ .mgmt) (s : State) (a v : Nat) :
    s.writeReg party a regSideDstHi v = s.writePair party a regSideDstHi v := by
  cases party with
  | mgmt => exact absurd rfl hp
  | host => rfl
  | bound => rfl

theorem State.writePair_sideDst {s : State} {party : Party} {lo hi : Nat} (hl : lo < 2 ^ 32) (hh : hi < 2 ^ 32)
    (hd : bankGet 0 s.held (pairKey party 0x00400034) = lo + 1) :
    s.writePair party (0x00400034 + 4) regSideDstHi hi = s.commitSideDst party lo hi := by
  have hx : (lo + hi % 2 ^ 32 * 2 ^ 32) / 2 ^ 32 = hi := by omega
  have hy (u : State) : u.setFld .SIDE_DST_LO (lo + hi % 2 ^ 32 * 2 ^ 32) = u.setFld .SIDE_DST_LO lo := by
    have hm : (lo + hi % 2 ^ 32 * 2 ^ 32) % 2 ^ Fld.SIDE_DST_LO.width = lo := by simp only [Fld.SIDE_DST_LO]; omega
    rw [← State.setFld_mod, hm]
  simp only [State.writePair, State.pairValue, Nat.add_sub_cancel, State.commitPair_of_held hd, Reg.other_sideDstHi,
    State.writeFlds_sideDstLo, State.writeFlds_sideDstHi, hx, hy]
  rfl

theorem State.writeKind_sideDstLo {s : State} {party : Party} (hp : party ≠ .mgmt) (hs : s.hostShut party = false) {kind : Reg → Bool}
    (hk : kind regSideDstLo = true) {v : Nat} (hv : v < 2 ^ 32) :
    s.writeKind party 0x00400034 v kind = s.holdLow party 0x00400034 v := by
  rw [State.writeKind_named regAt_sideDstLo hk hs, State.writeTied_alone rfl (fun _ => rfl), State.writeReg_sideDstLo hp, Nat.mod_eq_of_lt hv]

theorem State.writeKind_sideDstHi {s : State} {party : Party} (hp : party ≠ .mgmt) (hs : s.hostShut party = false) {kind : Reg → Bool}
    (hk : kind regSideDstHi = true) {lo hi : Nat} (hl : lo < 2 ^ 32) (hh : hi < 2 ^ 32)
    (hd : bankGet 0 s.held (pairKey party 0x00400034) = lo + 1) :
    s.writeKind party (0x00400034 + 4) hi kind = s.commitSideDst party lo hi := by
  rw [State.writeKind_named regAt_sideDstHi hk hs, State.writeTied_alone rfl (fun _ => rfl), State.writeReg_sideDstHi hp,
    Nat.mod_eq_of_lt hh, State.writePair_sideDst hl hh hd]

/-- What a commit leaves, from a state that differs from `s` in held halves at most. -/
theorem State.commitSideDst_spec (s : State) (held : List (Nat × Nat)) (party : Party) {lo hi : Nat} (hl : lo < 2 ^ 32) (hh : hi < 2 ^ 32)
    {t : State} (ht : t = ({ s with held := held } : State).commitSideDst party lo hi) :
    t.fld .SIDE_DST_LO = lo ∧ t.fld .SIDE_DST_HI = hi ∧ bankGet 0 t.held (pairKey party 0x00400034) = 0 ∧
      t = { s with regs := t.regs, held := t.held } ∧ RegsBut s t [(.SIDE_DST_LO, 0), (.SIDE_DST_HI, 0)] := by
  subst ht
  refine ⟨?_, ?_, ?_, rfl, ?_⟩
  · rw [State.commitSideDst, State.fld_setFld_ne _ _ (.inl (by decide)), State.fld_setFld_self]
    exact Nat.mod_eq_of_lt hl
  · rw [State.commitSideDst, State.fld_setFld_self]
    exact Nat.mod_eq_of_lt hh
  · simp [State.commitSideDst]
  · have h0 : RegsBut s { s with held := bankSet 0 held (pairKey party 0x00400034) 0 } [(.SIDE_DST_LO, 0), (.SIDE_DST_HI, 0)] :=
      RegsBut.refl s _
    exact (h0.setFld _ _ (by decide) (by simp)).setFld _ _ (by decide) (by simp)

theorem pairLoWrite_sideDst {s : State} {party : Party} (hp : party ≠ .mgmt) (hs : s.hostShut party = false) {v : Nat} (hv : v < 2 ^ 32) :
    Completes (.pairLoWrite party false 0x00400034 v none) s
      (fun t => bankGet 0 t.held (pairKey party 0x00400034) = v + 1 ∧ t = { s with held := t.held }) := by
  refine ⟨_, exec_pairLoWrite_lo .., ?_⟩
  rw [State.writeKind_sideDstLo hp hs rfl hv]
  exact ⟨by rw [State.bankGet_holdLow, Nat.mod_eq_of_lt hv], rfl⟩

theorem pairLoWrite_sideDst_both {s : State} {party : Party} (hp : party ≠ .mgmt) (hs : s.hostShut party = false) {lo hi : Nat}
    (hl : lo < 2 ^ 32) (hh : hi < 2 ^ 32) :
    Completes (.pairLoWrite party false 0x00400034 lo (some hi)) s (fun t => t.fld .SIDE_DST_LO = lo ∧ t.fld .SIDE_DST_HI = hi ∧
      bankGet 0 t.held (pairKey party 0x00400034) = 0 ∧ t = { s with regs := t.regs, held := t.held } ∧
      RegsBut s t [(.SIDE_DST_LO, 0), (.SIDE_DST_HI, 0)]) := by
  refine ⟨_, exec_pairLoWrite_both .., ?_⟩
  have hd : bankGet 0 (s.holdLow party 0x00400034 lo).held (pairKey party 0x00400034) = lo + 1 := by
    rw [State.bankGet_holdLow, Nat.mod_eq_of_lt hl]
  rw [State.writeKind_sideDstLo hp hs rfl hl, State.writeKind_sideDstHi hp (by simpa using hs) rfl hl hh hd]
  exact State.commitSideDst_spec s _ party hl hh rfl

theorem pairHiWrite_sideDst {s : State} {party : Party} (hp : party ≠ .mgmt) (hs : s.hostShut party = false) {lo hi : Nat}
    (hl : lo < 2 ^ 32) (hh : hi < 2 ^ 32) (hd : bankGet 0 s.held (pairKey party 0x00400034) = lo + 1) :
    Completes (.pairHiWrite party false 0x00400038 hi {}) s (fun t => t.fld .SIDE_DST_LO = lo ∧ t.fld .SIDE_DST_HI = hi ∧
      bankGet 0 t.held (pairKey party 0x00400034) = 0 ∧ t = { s with regs := t.regs, held := t.held } ∧
      RegsBut s t [(.SIDE_DST_LO, 0), (.SIDE_DST_HI, 0)]) := by
  refine ⟨_, exec_pairHiWrite_bar0 .., ?_⟩
  exact State.commitSideDst_spec s s.held party hl hh (State.writeKind_sideDstHi hp hs rfl hl hh hd)

/-! ### POOL_CE: an RC counter -/

def regPoolCe : Reg := ⟨⟨"POOL_CE", 113, .spadG, 0x50, 4, 4, [.POOL_CE]⟩, 0, 0⟩

theorem regAt_poolCe : regAt 0x00400050 = some regPoolCe := rfl

theorem State.afterRead_poolCe (s : State) (party : Party) (a : Nat) (counted : Bool) :
    s.afterRead party a regPoolCe counted = s.setFld .POOL_CE counted.toNat := rfl

theorem State.readValue_poolCe (s : State) (party : Party) (a : Nat) : s.readValue party a regPoolCe = s.fld .POOL_CE % 2 ^ 32 :=
  State.regValue_whole (f := .POOL_CE) rfl rfl rfl rfl s

theorem rcCounterRead_poolCe {s : State} {party : Party} (hs : s.hostShut party = false) (counted : Bool) :
    Completes (.rcCounterRead party false 0x00400050 counted) s (fun t => .readData party (s.fld .POOL_CE 0 0 % 2 ^ 32) ∈ t.outs ∧
      t.fld .POOL_CE 0 0 = counted.toNat ∧ t = { s with regs := t.regs, outs := t.outs } ∧ RegsBut s t [(.POOL_CE, 0)]) := by
  refine ⟨_, exec_rcCounterRead_bar0 .., ?_⟩
  rw [State.readKind_named regAt_poolCe rfl hs, State.readReg_open (by cases party <;> rfl) rfl, State.afterRead_poolCe,
    State.readValue_poolCe]
  refine ⟨by simp [State.out], ?_, rfl, ?_⟩
  · rw [State.fld_out, State.fld_setFld_self]
    cases counted <;> rfl
  · exact (RegsBut.refl s [(.POOL_CE, 0)]).setFld counted.toNat 0 (by decide) (by simp)

/-! ### HANDLE_HI: the last register of an indexed entry -/

def regHandleHi : Reg := ⟨⟨"HANDLE_HI", 118, .coreC, 0x408, 4, 1, [.HANDLE_HI]⟩, 0, 0⟩

theorem regAt_handleHi : regAt 0x02001408 = some regHandleHi := rfl

theorem State.afterRead_handleHi {s : State} (h : s.fld .HANDLE_INDEX_AUTO = 1) (party : Party) (a : Nat) (counted : Bool) :
    s.afterRead party a regHandleHi counted = s.addFld .HANDLE_INDEX_INDEX 1 := by
  have hf : s.flag .HANDLE_INDEX_AUTO = true := by rw [State.flag, h]; rfl
  have hr : s.afterRead party a regHandleHi counted = if s.flag .HANDLE_INDEX_AUTO then s.addFld .HANDLE_INDEX_INDEX 1 else s := rfl
  rw [hr, if_pos hf]

theorem hiReadAdvance_handleHi {s : State} {party : Party} (hs : s.hostShut party = false) (h : s.fld .HANDLE_INDEX_AUTO 0 = 1) :
    Completes (.hiReadAdvance party false 0x02001408) s (fun t =>
      t.fld .HANDLE_INDEX_INDEX 0 = (s.fld .HANDLE_INDEX_INDEX 0 + 1) % 1024 ∧ t = { s with regs := t.regs, outs := t.outs } ∧
      RegsBut s t [(.HANDLE_INDEX_INDEX, 0)]) := by
  refine ⟨_, exec_hiReadAdvance_bar0 .., ?_⟩
  rw [State.readKind_named regAt_handleHi rfl hs, State.readReg_open (by cases party <;> rfl) rfl, State.afterRead_handleHi h]
  refine ⟨?_, rfl, ?_⟩
  · rw [State.fld_out, State.addFld, State.fld_setFld_self]
    rfl
  · exact (RegsBut.refl s [(.HANDLE_INDEX_INDEX, 0)]).setFld (s.fld .HANDLE_INDEX_INDEX + 1) 0 (by decide) (by simp)

/-! ### Accesses with no effect -/

theorem regAccess_unnamed {off : Nat} (h : regAt off = none) (party : Party) (v : Nat) (counted : Bool) (s : State) :
    ∀ c ∈ [Instr.registerWrite party false off v {}, .pairLoRead party false off .lo, .pairLoWrite party false off v none,
        .pairHiWrite party false off v {}, .rcCounterRead party false off counted, .hiReadAdvance party false off],
      Completes c s (fun t => t = s) := by
  simp only [List.forall_mem_cons, List.not_mem_nil, false_imp_iff, implies_true, and_true]
  exact ⟨⟨_, exec_registerWrite_bar0 .., State.writeKind_unnamed h ..⟩, ⟨_, exec_pairLoRead_lo .., State.readKind_unnamed h ..⟩,
    ⟨_, exec_pairLoWrite_lo .., State.writeKind_unnamed h ..⟩, ⟨_, exec_pairHiWrite_bar0 .., State.writeKind_unnamed h ..⟩,
    ⟨_, exec_rcCounterRead_bar0 .., State.readKind_unnamed h ..⟩, ⟨_, exec_hiReadAdvance_bar0 .., State.readKind_unnamed h ..⟩⟩

theorem execRegisterWrite_shut {s : State} {party : Party} (h : s.hostShut party = true) (bar2 : Bool) (off v : Nat) (also : Meanwhile) :
    execRegisterWrite party bar2 off v s also = .next s := by
  unfold execRegisterWrite
  split
  · simp [h]
  · rw [State.writeKind_shut h]

theorem execPairLoRead_shut {s : State} {party : Party} (h : s.hostShut party = true) (bar2 : Bool) (off : Nat) (part : PairPart) :
    execPairLoRead party bar2 off s part = .next s := by
  cases part <;> simp [execPairLoRead, State.readKind_shut h]

theorem execPairLoWrite_shut {s : State} {party : Party} (h : s.hostShut party = true) (bar2 : Bool) (off v : Nat) (hi : Option Nat) :
    execPairLoWrite party bar2 off v s hi = .next s := by
  cases hi <;> simp [execPairLoWrite, State.writeKind_shut h]

/-- Host software's accesses end at configuration space during ROM recovery (14 R431). -/
theorem regAccess_shut {s : State} {party : Party} (h : s.hostShut party = true) (off v : Nat) (bar2 counted : Bool) (also : Meanwhile)
    (part : PairPart) (hi : Option Nat) :
    ∀ c ∈ [Instr.registerWrite party bar2 off v also, .pairLoRead party bar2 off part, .pairLoWrite party bar2 off v hi,
        .pairHiWrite party bar2 off v also, .rcCounterRead party bar2 off counted, .hiReadAdvance party bar2 off],
      Completes c s (fun t => t = s) := by
  simp only [List.forall_mem_cons, List.not_mem_nil, false_imp_iff, implies_true, and_true]
  exact ⟨⟨s, execRegisterWrite_shut h .., rfl⟩, ⟨s, execPairLoRead_shut h .., rfl⟩, ⟨s, execPairLoWrite_shut h .., rfl⟩,
    ⟨_, rfl, State.writeKind_shut h ..⟩, ⟨_, rfl, State.readKind_shut h ..⟩, ⟨_, rfl, State.readKind_shut h ..⟩⟩

/-- Settles O1: each clause is what the access of its example register does to the state. -/
theorem registerAccess : Obligations.RegisterAccess :=
  ⟨fun party _ v counted s h => regAccess_unnamed h party v counted s,
    fun _ v _ hs _ => registerWrite_poolScrub hs v,
    fun _ _ _ hs hv hb => registerWrite_fabErrorInfo_clears hs hv hb,
    fun _ v _ hs _ => registerWrite_fabErrorInfo_hwSet hs v,
    fun v w _ hs _ _ => registerWrite_poolScrub_both hs v w,
    fun _ off v bar2 counted also part hi _ h => regAccess_shut h off v bar2 counted also part hi,
    fun _ _ hs => pairLoRead_planTick hs,
    fun _ _ hs => pairLoRead_planTick_both hs,
    fun _ _ _ hp hs hv => pairLoWrite_sideDst hp hs hv,
    fun _ _ _ _ hp hs hl hh => pairLoWrite_sideDst_both hp hs hl hh,
    fun _ _ _ _ hp hs hl hh hd => pairHiWrite_sideDst hp hs hl hh hd,
    fun _ counted _ hs => rcCounterRead_poolCe hs counted,
    fun _ _ hs h => hiReadAdvance_handleHi hs h⟩

end Sys2Proof.Machine
end


section
/-! PROOFS. The plan sequencer's layer (01): reading a register field or a partition's record through the shared operations, by the register
fields that each operation can write. -/
namespace Sys2Proof.Machine
open Sys2Proof

/-! ### Register fields by name -/

/-- A write of a field of another name leaves a field as it was, whatever their numbers. -/
theorem State.fld_setFld_name (s : State) {f g : Fld} (h : g.code % 16384 ≠ f.code % 16384) (v i k j l : Nat) :
    (s.setFld f v i k).fld g j l = s.fld g j l := State.fld_setFld_ne s v (.inl h)

theorem State.fld_setFld64_name (s : State) {lo hi g : Fld} (hl : g.code % 16384 ≠ lo.code % 16384) (hh : g.code % 16384 ≠ hi.code % 16384)
    (v i k j l : Nat) : (s.setFld64 lo hi v i k).fld g j l = s.fld g j l := by
  rw [State.setFld64, State.fld_setFld_name _ hh, State.fld_setFld_name _ hl]

theorem State.fld_setFld64_lo (s : State) {lo hi : Fld} (hn : lo.code % 16384 ≠ hi.code % 16384) (v i k : Nat) :
    (s.setFld64 lo hi v i k).fld lo i k = v % 2 ^ lo.width := by
  rw [State.setFld64, State.fld_setFld_name _ hn, State.fld_setFld_self]

theorem State.fld_setFld64_hi (s : State) (lo hi : Fld) (v i k : Nat) : (s.setFld64 lo hi v i k).fld hi i k = v / 2 ^ 32 % 2 ^ hi.width :=
  State.fld_setFld_self ..

/-- A pair just written holds the value, cut to 64 bits (00 R8). -/
theorem State.fld64_setFld64 (s : State) {lo hi : Fld} (hl : lo.width = 32) (hh : hi.width = 32) (hn : lo.code % 16384 ≠ hi.code % 16384)
    (v i k : Nat) : (s.setFld64 lo hi v i k).fld64 lo hi i k = v % 2 ^ 64 := by
  rw [State.fld64, State.fld_setFld64_lo _ hn, State.fld_setFld64_hi, hl, hh]
  omega

theorem State.fld_setPState_name (s : State) {g : Fld} (h : g.code % 16384 ≠ Fld.PLAN_STATUS_STATE.code % 16384)
    (hr : g.code % 16384 ≠ Fld.PLAN_PART_RUN.code % 16384) (p : Nat) (st : PState) (i k : Nat) :
    (s.setPState p st).fld g i k = s.fld g i k := by
  rw [State.setPState, State.setBit, State.fld_setFld_name _ hr, State.fld_setFld_name _ h]

@[simp] theorem State.fld_clearHolds (s : State) (p : Nat) (f : Fld) (i k : Nat) : (s.clearHolds p).fld f i k = s.fld f i k := rfl

@[simp] theorem bankGet_bankDrop_kept {α : Type} (d : α) {q : Nat → Bool} (b : List (Nat × α)) {k : Nat} (h : q k = false) :
    bankGet d (bankDrop q b) k = bankGet d b k := by
  unfold bankDrop
  induction b with
  | nil => rfl
  | cons e t ih =>
    by_cases he : e.1 = k
    · simp [he, h, bankGet]
    · by_cases hq : q e.1 = true <;> simp [hq, bankGet, he, ih]

@[simp] theorem bankGet_bankDrop_dropped {α : Type} (d : α) {q : Nat → Bool} (b : List (Nat × α)) {k : Nat} (h : q k = true) :
    bankGet d (bankDrop q b) k = d := by
  unfold bankDrop
  induction b with
  | nil => rfl
  | cons e t ih =>
    by_cases he : e.1 = k
    · simp [he, h, ih]
    · by_cases hq : q e.1 = true <;> simp [hq, bankGet, he, ih]

/-- The field in a key. -/
theorem Fld.key_name (f : Fld) (i k : Nat) : f.key i k % 16384 = f.code % 16384 := by
  unfold Fld.key; omega

/-- The number of the partition, core or port in a key. -/
theorem Fld.key_number (f : Fld) (i k : Nat) : f.key i k / 16384 / 256 = i := by
  unfold Fld.key; omega

/-- A field that is not among those dropped is as it was. -/
theorem State.fld_dropFlds_kept (s : State) {q : Nat → Nat → Bool} {f : Fld} {i : Nat} (h : q (f.code % 16384) i = false) (k : Nat) :
    (s.dropFlds q).fld f i k = s.fld f i k :=
  bankGet_bankDrop_kept (q := fun key => q (key % 16384) (key / 16384 / 256)) f.rst s.regs (by rw [Fld.key_name, Fld.key_number]; exact h)

/-- A field that is dropped is at its reset value. -/
theorem State.fld_dropFlds_dropped (s : State) {q : Nat → Nat → Bool} {f : Fld} {i : Nat} (h : q (f.code % 16384) i = true) (k : Nat) :
    (s.dropFlds q).fld f i k = f.rst :=
  bankGet_bankDrop_dropped (q := fun key => q (key % 16384) (key / 16384 / 256)) f.rst s.regs (by rw [Fld.key_name, Fld.key_number]; exact h)

/-! ### What the shared operations can write -/

/-- The two states hold the same partitions, cores and memories, and the same register fields but those of the names listed. -/
structure KeptBut (s t : State) (fs : List Fld) : Prop where
  parts : t.parts = s.parts
  cores : t.cores = s.cores
  mem : t.mem = s.mem
  fld : ∀ (g : Fld) (i k : Nat), (∀ f ∈ fs, g.code % 16384 ≠ f.code % 16384) → t.fld g i k = s.fld g i k

namespace KeptBut
variable {s t u : State} {fs gs : List Fld}

theorem refl (s : State) (fs : List Fld) : KeptBut s s fs := ⟨rfl, rfl, rfl, fun _ _ _ _ => rfl⟩

theorem andThen (h : KeptBut s t fs) (k : KeptBut t u gs) (hs : gs ⊆ fs) : KeptBut s u fs :=
  ⟨k.parts.trans h.parts, k.cores.trans h.cores, k.mem.trans h.mem,
    fun g i l hg => (k.fld g i l (fun f hf => hg f (hs hf))).trans (h.fld g i l hg)⟩

theorem mono (h : KeptBut s t gs) (hs : gs ⊆ fs) : KeptBut s t fs := (refl s fs).andThen h hs

/-- What holds no register field, partition, core or memory may change. -/
theorem of_eq (hr : t.regs = s.regs) (hp : t.parts = s.parts) (hc : t.cores = s.cores) (hm : t.mem = s.mem) : KeptBut s t fs :=
  ⟨hp, hc, hm, fun g i k _ => by rw [State.fld, State.fld, hr]⟩

theorem same (h : KeptBut s t fs) (hr : u.regs = t.regs) (hp : u.parts = t.parts) (hc : u.cores = t.cores) (hm : u.mem = t.mem) :
    KeptBut s u fs := h.andThen (of_eq (fs := fs) hr hp hc hm) (List.Subset.refl fs)

theorem setFld (h : KeptBut s t fs) {f : Fld} (hf : f ∈ fs) (v i k : Nat) : KeptBut s (t.setFld f v i k) fs :=
  h.andThen (gs := fs) ⟨rfl, rfl, rfl, fun _ j l hg => State.fld_setFld_name t (hg f hf) v i k j l⟩ (List.Subset.refl fs)

theorem addFld (h : KeptBut s t fs) {f : Fld} (hf : f ∈ fs) (n i k : Nat) : KeptBut s (t.addFld f n i k) fs := h.setFld hf _ i k

theorem setFld64 (h : KeptBut s t fs) {lo hi : Fld} (hl : lo ∈ fs) (hh : hi ∈ fs) (v i k : Nat) :
    KeptBut s (t.setFld64 lo hi v i k) fs := (h.setFld hl v i k).setFld hh _ i k

/-- Fields of the names listed back at their reset values. -/
theorem dropFlds (h : KeptBut s t fs) {q : Nat → Nat → Bool} (hq : ∀ c i, q c i = true → ∃ f ∈ fs, f.code = c) :
    KeptBut s (t.dropFlds q) fs := by
  refine h.andThen (gs := fs) ⟨rfl, rfl, rfl, fun g i k hg => State.fld_dropFlds_kept t ?_ k⟩ (List.Subset.refl fs)
  by_contra hc
  obtain ⟨f, hf, he⟩ := hq _ _ (by simpa using hc)
  exact hg f hf (by omega)

theorem ite {c : Prop} [Decidable c] (h : KeptBut s t fs) (k : KeptBut s u fs) : KeptBut s (if c then t else u) fs := by
  split
  · exact h
  · exact k

theorem foldl {β : Type} {f : State → β → State} (h : ∀ s b, KeptBut s (f s b) fs) (l : List β) (s : State) : KeptBut s (l.foldl f s) fs := by
  induction l generalizing s with
  | nil => exact refl s fs
  | cons b l ih => exact (h s b).andThen (ih (f s b)) (List.Subset.refl fs)

theorem part (h : KeptBut s t fs) (p : Nat) : t.part p = s.part p := by rw [State.part, State.part, h.parts]

theorem core (h : KeptBut s t fs) (g : Nat) : t.core g = s.core g := by rw [State.core, State.core, h.cores]

/-- A partition keeps its state where PLAN_STATUS.STATE is not written. -/
theorem pstate (h : KeptBut s t fs) (hf : ∀ f ∈ fs, Fld.PLAN_STATUS_STATE.code % 16384 ≠ f.code % 16384) (p : Nat) :
    t.pstate p = s.pstate p := by rw [State.pstate, State.pstate, h.fld _ _ _ hf]

end KeptBut

/-- The fields that an event can write (16 R490). -/
def eventFlds : List Fld := [.MGMT_STATUS_ALERT, .MGMT_EVENTS_LOST]
/-- The fields that a vector can write (14 R446). -/
def vectorFlds : List Fld := [.INT_STATUS_LO, .INT_STATUS_HI]
/-- The fields that recording a plan error can write (01 R50). -/
def planErrorFlds : List Fld := [.PLAN_ERROR_CODE, .PLAN_ERROR_MULTI, .MGMT_STATUS_ALERT, .MGMT_EVENTS_LOST]
/-- The fields that a plaster and a starch can write (19 R549, R551, R555). -/
def snapFlds : List Fld := [.OBS_PLASTER_LOST, .OBS_PART_STATUS_PLASTER_HELD, .OBS_REC_LOST, .STARCH_AT_LO, .STARCH_AT_HI,
  .STARCH_STATUS_STATE, .STARCH_STATUS_COUNT, .STARCH_STATUS_REFUSED]

theorem KeptBut.queueEvent (s : State) (e : MgmtEvent) : KeptBut s (s.queueEvent e) eventFlds := by
  have ibi (u : State) (f : Fld) (bus : Nat) (hu : KeptBut s u eventFlds) : KeptBut s (if u.fld f = 1 then u.out (.ibi bus) else u) eventFlds :=
    .ite (hu.same rfl rfl rfl rfl) hu
  have queued (u : State) (hu : KeptBut s u eventFlds) : KeptBut s (if u.events.length < 256 then { u with events := u.events ++ [e] }
      else { u.addFld .MGMT_EVENTS_LOST with events := u.events.tail ++ [e] }) eventFlds :=
    .ite (hu.same rfl rfl rfl rfl) ((hu.addFld (f := .MGMT_EVENTS_LOST) (by decide) 1 0 0).same rfl rfl rfl rfl)
  have start := KeptBut.refl s eventFlds
  exact queued _ ((KeptBut.ite (ibi _ .MGMT_STATUS_BUS_B 1 (ibi _ .MGMT_STATUS_BUS_A 0 start)) start).setFld (by decide) 1 0 0)

/-- Recording a code in a first-error field. -/
theorem KeptBut.recordFirst (s : State) (fc fm : Fld) (code i : Nat) : KeptBut s (s.recordFirst fc fm code i) (fc :: fm :: eventFlds) := by
  unfold State.recordFirst
  refine .ite ?_ ?_
  · exact ((KeptBut.refl s _).setFld (by simp) code i 0).andThen (.queueEvent _ _) (by simp)
  · exact ((KeptBut.refl s _).setFld (by simp) 1 i 0).andThen (.queueEvent _ _) (by simp)

theorem KeptBut.planError (s : State) (p code : Nat) : KeptBut s (s.planError p code) planErrorFlds := .recordFirst ..

/-- The first code is kept (01 R50). -/
theorem State.fld_planError_code {s : State} {p : Nat} (h : s.fld .PLAN_ERROR_CODE p = 0) (code : Nat) :
    (s.planError p code).fld .PLAN_ERROR_CODE p = code % 2 ^ 16 := by
  rw [State.planError, State.recordFirst, if_pos h, (KeptBut.queueEvent _ _).fld _ _ _ (by decide), State.fld_setFld_self]
  rfl

theorem KeptBut.raiseVector (s : State) (v : Nat) : KeptBut s (s.raiseVector v) vectorFlds := by
  have hs (b : Bool) (hb : b = decide (v < 32)) : KeptBut s (s.setBit (if b then .INT_STATUS_LO else .INT_STATUS_HI) (v % 32) true) vectorFlds := by
    cases b <;> exact (KeptBut.refl s _).setFld (by decide) _ 0 0
  have hb := hs (decide (v < 32)) rfl
  simp only [decide_eq_true_eq] at hb
  unfold State.raiseVector
  dsimp only
  refine .ite (.refl s _) (.ite (.ite ?_ ?_) (.ite ?_ hb))
  all_goals exact hb.andThen (gs := []) (.of_eq rfl rfl rfl rfl) (List.nil_subset _)

theorem KeptBut.sendCtl (s : State) (ports : List Nat) (f : CtlFlit) (fs : List Fld) : KeptBut s (s.sendCtl ports f) fs := .of_eq rfl rfl rfl rfl

theorem KeptBut.leaveActive (s : State) (p : Nat) : KeptBut s (s.leaveActive p) [.REPL_STATUS_STATE] :=
  .ite ((KeptBut.refl s _).setFld (by decide) _ _ _) (.refl s _)

theorem KeptBut.capturePlaster (s : State) (p reason : Nat) : KeptBut s (s.capturePlaster p reason) snapFlds := by
  have start := KeptBut.refl s snapFlds
  unfold State.capturePlaster
  refine .ite (start.addFld (by decide) 1 p 0) ?_
  exact (start.setFld (f := .OBS_PART_STATUS_PLASTER_HELD) (by decide) 1 p 0).same rfl rfl rfl rfl

theorem KeptBut.sendRec (s : State) (p : Nat) (r : ObsRec) : KeptBut s (s.sendRec p r) snapFlds := by
  unfold State.sendRec
  exact .ite (.of_eq rfl rfl rfl rfl) ((KeptBut.refl s _).addFld (by decide) 1 p 0)

theorem KeptBut.counterValue (s : State) (bank : List (Nat × Nat)) (p id sub inst : Nat) :
    KeptBut s (s.counterValue bank p id sub inst).1 snapFlds := by
  unfold State.counterValue
  split
  · exact .refl s _
  · split
    · exact .of_eq rfl rfl rfl rfl
    · exact .refl s _

theorem KeptBut.counterEntries (s : State) (p : Nat) (l : List (Nat × Nat × Nat)) : KeptBut s (s.counterEntries p l).1 snapFlds := by
  induction l generalizing s with
  | nil => exact .refl s _
  | cons e l ih => exact (KeptBut.counterValue s s.obs.starched p e.1 e.2.1 e.2.2).andThen (ih _) (List.Subset.refl _)

theorem KeptBut.counterRecords (s : State) (p : Nat) : KeptBut s (s.counterRecords p) snapFlds := by
  unfold State.counterRecords
  refine .ite (.refl s _) ?_
  generalize s.counterNames (s.fld .OBS_CNT_MASK p) = names
  exact (KeptBut.counterEntries s p names).andThen (.foldl (fun u l => .sendRec u p _) _ _) (List.Subset.refl _)

theorem KeptBut.holdCounts (s : State) : KeptBut s s.holdCounts snapFlds := by
  have h0 : KeptBut s { s with obs := { s.obs with starched := s.obs.counts } } snapFlds := .of_eq rfl rfl rfl rfl
  exact ((h0.setFld64 (by decide) (by decide) _ 0 0).setFld (by decide) _ 0 0).addFld (by decide) 1 0 0

theorem KeptBut.takeStarch (s : State) : KeptBut s s.takeStarch snapFlds :=
  (KeptBut.holdCounts s).andThen (.foldl (fun u p => .counterRecords u p) _ _) (List.Subset.refl _)

/-! ### Entering FAULT (20 Table 20.4) -/

/-- The first actions of Table 20.4: the code is recorded, the partition is in FAULT with its hold table empty. -/
def State.faultEntered (s : State) (p code : Nat) : State :=
  let s := s.planError p code
  let s := if (s.pstate p).active then s.leaveActive p else s
  (s.setPState p .fault).clearHolds p

/-- The actions that make the fault known: the plaster, the starch, the FAULT_STOP and the vector. -/
def State.faultShown (s : State) (p : Nat) : State :=
  let s := s.capturePlaster p 1
  let s :=
    if s.flag .STARCH_CTRL_ON_FAULT then
      if s.fld .STARCH_STATUS_STATE = starchLive then s.takeStarch else s.setFld .STARCH_STATUS_REFUSED 1
    else s
  let s := s.sendCtl (s.partPorts p) (s.faultStopFlit p)
  s.raiseVector (8 + p)

theorem State.faultActions_eq (s : State) (p code : Nat) : s.faultActions p code = (s.faultEntered p code).faultShown p := rfl

theorem KeptBut.faultShown (s : State) (p : Nat) : KeptBut s (s.faultShown p) (snapFlds ++ vectorFlds) := by
  have starch (u : State) : KeptBut u (if u.flag .STARCH_CTRL_ON_FAULT then
      if u.fld .STARCH_STATUS_STATE = starchLive then u.takeStarch else u.setFld .STARCH_STATUS_REFUSED 1 else u) snapFlds :=
    .ite (.ite (.takeStarch u) ((KeptBut.refl u _).setFld (by decide) 1 0 0)) (.refl u _)
  unfold State.faultShown
  exact ((((KeptBut.capturePlaster s p 1).mono (List.subset_append_left ..)).andThen (starch _) (List.subset_append_left ..)).andThen
    (.sendCtl _ _ _ []) (List.nil_subset _)).andThen (.raiseVector _ _) (List.subset_append_right ..)

/-- Recording the code and leaving the active states, before the partition is put in FAULT. -/
theorem KeptBut.faultRecorded (s : State) (p code : Nat) :
    KeptBut s (if ((s.planError p code).pstate p).active then (s.planError p code).leaveActive p else s.planError p code)
      (.REPL_STATUS_STATE :: planErrorFlds) := by
  have h := (KeptBut.planError s p code).mono (List.subset_cons_self Fld.REPL_STATUS_STATE _)
  exact .ite (h.andThen (.leaveActive _ p) (by simp)) h

@[simp] theorem State.pstate_setPart (s : State) (p : Nat) (x : Part) (q : Nat) : (s.setPart p x).pstate q = s.pstate q := rfl
@[simp] theorem State.part_setPState (s : State) (p : Nat) (st : PState) (q : Nat) : (s.setPState p st).part q = s.part q := rfl

theorem State.pstate_faultActions (s : State) (p code : Nat) : (s.faultActions p code).pstate p = .fault := by
  rw [State.faultActions_eq, (KeptBut.faultShown _ p).pstate (by decide), State.faultEntered, State.clearHolds, State.pstate_setPart,
    State.pstate_setPState]

theorem State.part_faultActions (s : State) (p code : Nat) :
    (s.faultActions p code).part p = { s.part p with holds := [], sentHolds := [] } := by
  rw [State.faultActions_eq, (KeptBut.faultShown _ p).part, State.faultEntered, State.clearHolds, State.part_setPart_self,
    State.part_setPState, (KeptBut.faultRecorded s p code).part p]

theorem State.fld_faultActions_code {s : State} {p : Nat} (h : s.fld .PLAN_ERROR_CODE p = 0) (code : Nat) :
    (s.faultActions p code).fld .PLAN_ERROR_CODE p = code % 2 ^ 16 := by
  rw [State.faultActions_eq, (KeptBut.faultShown _ p).fld _ _ _ (by decide), State.faultEntered, State.clearHolds, State.fld_setPart,
    State.fld_setPState_name _ (by decide) (by decide)]
  split
  · rw [(KeptBut.leaveActive _ p).fld _ _ _ (by decide), State.fld_planError_code h]
  · exact State.fld_planError_code h code

/-- An error in a partition that runs (01 Table 1.6). -/
theorem State.enterFault_active {s : State} {p : Nat} (h : (s.pstate p).active = true) (code : Nat) :
    s.enterFault p code = s.faultActions p code := by
  unfold State.enterFault
  split
  · rename_i hf; rw [hf] at h; cases h
  · rw [if_pos h]

/-- A received FAULT_STOP at a partition that is neither IDLE nor in FAULT (01 R32). -/
theorem State.forceFault_eq {s : State} {p : Nat} (hi : s.pstate p ≠ .idle) (hf : s.pstate p ≠ .fault) (code : Nat) :
    s.forceFault p code = s.faultActions p code := by
  unfold State.forceFault
  split
  · contradiction
  · contradiction
  · rfl

end Sys2Proof.Machine
end


section
/-! PROOFS. The plan sequencer's commands, settings and ticks (01 Table 1.6, Table 1.9, R15 to R19, R37 to R40, R53). -/
namespace Sys2Proof.Machine
open Sys2Proof

/-! ### A partition put in a state, stopped, or turned away -/

theorem OnlyRegs.setPState (s : State) (p : Nat) (st : PState) :
    OnlyRegs s (s.setPState p st) [(.PLAN_STATUS_STATE, p), (.PLAN_PART_RUN, 0)] :=
  ((OnlyRegs.refl s _).setFld _ 0 (by decide) (by simp)).setFld _ 0 (by decide) (by simp)

theorem OnlyRegs.cmdReject (s : State) (p : Nat) : OnlyRegs s (s.cmdReject p) [(.PLAN_STATUS_CMD_REJECT, p)] :=
  (OnlyRegs.refl s _).setFld _ 0 (by decide) (by simp)

theorem State.fld_cmdReject (s : State) (p : Nat) : (s.cmdReject p).fld .PLAN_STATUS_CMD_REJECT p = 1 := State.fld_setFld_self ..

theorem State.part_clearHolds (s : State) (p : Nat) : (s.clearHolds p).part p = { s.part p with holds := [], sentHolds := [] } :=
  State.part_setPart_self ..

/-- A flit handed to some ports is among the outputs. -/
theorem State.mem_outs_sendCtl (s : State) {ports : List Nat} {n : Nat} (h : n ∈ ports) (f : CtlFlit) :
    Out.ctl n f ∈ (s.sendCtl ports f).outs :=
  List.mem_append_right _ (List.mem_map_of_mem h)

theorem State.outs_sub_raiseVector (s : State) (v : Nat) : s.outs ⊆ (s.raiseVector v).outs := by
  unfold State.raiseVector
  dsimp only
  generalize (if v < 32 then Fld.INT_STATUS_LO else .INT_STATUS_HI) = f
  split_ifs
  · exact List.Subset.refl _
  · exact List.subset_append_left ..
  · exact List.Subset.refl _
  · exact List.subset_append_left ..
  · exact List.Subset.refl _

/-- What a stop changes after the partition is in STOPPED with its hold table empty. -/
theorem KeptBut.stop (s : State) (p : Nat) : KeptBut ((s.setPState p .stopped).clearHolds p) (s.stop p) (.REPL_STATUS_STATE :: vectorFlds) :=
  ((KeptBut.leaveActive _ p).mono (by simp)).andThen (.raiseVector _ _) (List.subset_cons_self ..)

theorem State.pstate_stop (s : State) (p : Nat) : (s.stop p).pstate p = .stopped := by
  rw [(KeptBut.stop s p).pstate (by decide), State.clearHolds, State.pstate_setPart, State.pstate_setPState]

theorem State.part_stop (s : State) (p : Nat) : (s.stop p).part p = { s.part p with holds := [], sentHolds := [] } := by
  rw [(KeptBut.stop s p).part, State.part_clearHolds, State.part_setPState]

theorem State.mem_stop (s : State) (p : Nat) : (s.stop p).mem = s.mem := (KeptBut.stop s p).mem

theorem State.cores_stop (s : State) (p : Nat) : (s.stop p).cores = s.cores := (KeptBut.stop s p).cores

theorem State.outs_leaveActive (s : State) (p : Nat) : (s.leaveActive p).outs = s.outs := by
  unfold State.leaveActive
  split <;> rfl

theorem State.outs_sub_stop (s : State) (p : Nat) : s.outs ⊆ (s.stop p).outs := by
  refine List.Subset.trans ?_ (State.outs_sub_raiseVector _ _)
  rw [State.outs_leaveActive]
  exact List.Subset.refl _

/-! ### Commands of Table 1.6 -/

/-- A command is carried out where neither a clear nor an application stands in its way. -/
theorem State.planCmd_open {s : State} {p : Nat} (hc : s.clearing p = false) (ha : s.applying p = false) (f : State → State) :
    s.planCmd p f = f s := by
  simp [State.planCmd, hc, ha]

theorem exec_planCtrlArm {party : Party} {p : Nat} {s : State} (ho : s.ownsPlan party = true) (hc : s.clearing p = false)
    (ha : s.applying p = false) (hl : s.pstate p = .loaded) :
    exec (.planCtrlArm party p) s = .next (
      if s.twoMicrosAhead (s.fld64 .PLAN_START_TIME_LO .PLAN_START_TIME_HI p) then
        (s.setPart p { s.part p with startTime := s.fld64 .PLAN_START_TIME_LO .PLAN_START_TIME_HI p }).setPState p .armed
      else s.planError p E_PLAN_START_LATE) := by
  show execPlanCtrlArm party p s = _
  simp [execPlanCtrlArm, ho, State.planCmd_open hc ha, hl]

theorem exec_planCtrlStop {p : Nat} {s : State} (hc : s.clearing p = false) (ha : s.applying p = false) :
    exec (.planCtrlStop p) s = .next (
      if s.pstate p = .running then s.setPState p .stopping
      else if s.pstate p = .brk && (s.part p).breakAt = s.raw + 1 then s.setPart p { s.part p with prev := PState.stopping.code }
      else s.cmdReject p) := by
  show execPlanCtrlStop p s = _
  rw [execPlanCtrlStop, State.planCmd_open hc ha]

/-- ABORT of a run: FAULT_STOP is sent, the partition stops, and what is in flight has its time (01 Table 1.6). -/
def State.abortRun (s : State) (p : Nat) : State :=
  let t := (s.sendCtl (s.partPorts p) (s.faultStopFlit p)).stop p
  t.setPart p { t.part p with abortAt := t.raw + 1 }

theorem exec_planCtrlAbort {p : Nat} {s : State} (hc : s.clearing p = false) (ha : s.applying p = false) :
    exec (.planCtrlAbort p) s = .next (
      if s.pstate p = .armed then s.setPState p .loaded else if (s.pstate p).active then s.abortRun p else s.cmdReject p) := by
  show execPlanCtrlAbort p s = _
  rw [execPlanCtrlAbort, State.planCmd_open hc ha]
  rfl

theorem exec_planCtrlResume {party : Party} {p : Nat} {s : State} (ho : s.ownsPlan party = true) (hc : s.clearing p = false)
    (ha : s.applying p = false) (hb : s.pstate p = .brk) :
    exec (.planCtrlResume party p) s =
      .next ((s.partCores p).foldl (fun s e => s.resumeCore e.1) (s.setPState p (.ofCode (s.part p).prev))) := by
  show execPlanCtrlResume party p s = _
  simp [execPlanCtrlResume, ho, State.planCmd_open hc ha, hb]

theorem exec_planCtrlUnload {p : Nat} {s : State} (hc : s.clearing p = false) (ha : s.applying p = false)
    (hl : s.pstate p = .loaded ∨ s.pstate p = .armed) :
    exec (.planCtrlUnload p) s = .next ((s.setPState p .idle).clearHolds p) := by
  show execPlanCtrlUnload p s = _
  rw [execPlanCtrlUnload, State.planCmd_open hc ha, if_pos (by simpa using hl)]

/-! ### What each command does -/

theorem planCtrlArm_armed {party : Party} {p : Nat} {s : State} (ho : s.ownsPlan party = true) (hc : s.clearing p = false)
    (ha : s.applying p = false) (hl : s.pstate p = .loaded) (ht : s.twoMicrosAhead (s.fld64 .PLAN_START_TIME_LO .PLAN_START_TIME_HI p) = true) :
    Completes (.planCtrlArm party p) s (fun t => t.pstate p = .armed ∧
      (t.part p).startTime = s.fld64 .PLAN_START_TIME_LO .PLAN_START_TIME_HI p ∧
      RegsBut s t [(.PLAN_STATUS_STATE, p), (.PLAN_PART_RUN, 0)] ∧ t.mem = s.mem ∧ t.cores = s.cores) := by
  refine ⟨_, exec_planCtrlArm ho hc ha hl, ?_⟩
  rw [if_pos ht]
  refine ⟨State.pstate_setPState .., ?_, (OnlyRegs.setPState _ p .armed).2, rfl, rfl⟩
  rw [State.part_setPState, State.part_setPart_self]

theorem planCtrlArm_late {party : Party} {p : Nat} {s : State} (ho : s.ownsPlan party = true) (hc : s.clearing p = false)
    (ha : s.applying p = false) (hl : s.pstate p = .loaded) (ht : s.twoMicrosAhead (s.fld64 .PLAN_START_TIME_LO .PLAN_START_TIME_HI p) = false)
    (he : s.fld .PLAN_ERROR_CODE p = 0) :
    Completes (.planCtrlArm party p) s (fun t => t.pstate p = .loaded ∧ t.fld .PLAN_ERROR_CODE p = E_PLAN_START_LATE) := by
  refine ⟨_, exec_planCtrlArm ho hc ha hl, ?_⟩
  rw [if_neg (by simp [ht])]
  exact ⟨((KeptBut.planError s p _).pstate (by decide) p).trans hl, State.fld_planError_code he _⟩

theorem planCtrlAbort_active {p : Nat} {s : State} (hc : s.clearing p = false) (ha : s.applying p = false) (hr : (s.pstate p).active = true) :
    Completes (.planCtrlAbort p) s (fun t => t.pstate p = .stopped ∧ (t.part p).holds = [] ∧
      (∀ n ∈ s.partPorts p, .ctl n (s.faultStopFlit p) ∈ t.outs) ∧ t.mem = s.mem ∧ t.cores = s.cores) := by
  refine ⟨_, exec_planCtrlAbort hc ha, ?_⟩
  rw [if_neg (by intro h; rw [h] at hr; cases hr), if_pos hr]
  refine ⟨State.pstate_stop .., ?_, fun n hn => State.outs_sub_stop _ p (State.mem_outs_sendCtl s hn _), State.mem_stop .., State.cores_stop ..⟩
  rw [State.abortRun, State.part_setPart_self, State.part_stop]

/-- The breakpoint controls that ONESHOT clears (03 R110). -/
def brkFlds : List Fld := [.BRK_CTRL_COUNT_EN, .BRK_CTRL_TAG_EN, .BRK_CTRL_TICK_EN]

/-- RESUME changes a core's record and, with ONESHOT, its breakpoint controls (03 R110). -/
theorem KeptBut.resumeCore (s : State) (g : Nat) : ∃ c, KeptBut (s.setCore g c) (s.resumeCore g) brkFlds ∨ s.resumeCore g = s := by
  refine ⟨{ s.core g with fired := 0, resume := true }, ?_⟩
  generalize hu : s.setCore g { s.core g with fired := 0, resume := true } = u
  have clear (t : State) (h : KeptBut u t brkFlds) (c : Bool) {f : Fld} (hf : f ∈ brkFlds) :
      KeptBut u (if c then t.setFld f 0 g else t) brkFlds := .ite (h.setFld hf 0 g 0) h
  have all := clear _ (clear _ (clear u (.refl u _) ((s.core g).fired.testBit 0) (f := .BRK_CTRL_COUNT_EN) (by decide))
    ((s.core g).fired.testBit 1) (f := .BRK_CTRL_TAG_EN) (by decide)) ((s.core g).fired.testBit 2) (f := .BRK_CTRL_TICK_EN) (by decide)
  unfold State.resumeCore
  dsimp only
  split
  · exact .inr rfl
  · rw [hu]
    exact .inl (.ite all (.refl u _))

theorem State.resumeCore_keeps (s : State) (g p : Nat) : (s.resumeCore g).pstate p = s.pstate p ∧ (s.resumeCore g).mem = s.mem := by
  obtain ⟨c, h | h⟩ := KeptBut.resumeCore s g
  · exact ⟨h.pstate (by decide) p, h.mem⟩
  · rw [h]
    exact ⟨rfl, rfl⟩

theorem planCtrlResume_brk {party : Party} {p : Nat} {s : State} (ho : s.ownsPlan party = true) (hc : s.clearing p = false)
    (ha : s.applying p = false) (hb : s.pstate p = .brk) :
    Completes (.planCtrlResume party p) s (fun t => t.pstate p = .ofCode (s.part p).prev ∧ t.mem = s.mem) := by
  refine ⟨_, exec_planCtrlResume ho hc ha hb, ?_, ?_⟩
  · exact (foldl_keep (fun u => u.pstate p) _ (fun u (e : Nat × Core) => (u.resumeCore_keeps e.1 p).1) _ _).trans (State.pstate_setPState ..)
  · exact foldl_keep State.mem _ (fun u (e : Nat × Core) => (u.resumeCore_keeps e.1 p).2) _ _

theorem planCtrlUnload_idle {p : Nat} {s : State} (hc : s.clearing p = false) (ha : s.applying p = false)
    (hl : s.pstate p = .loaded ∨ s.pstate p = .armed) :
    Completes (.planCtrlUnload p) s (fun t => t.pstate p = .idle ∧ (t.part p).holds = [] ∧
      RegsBut s t [(.PLAN_STATUS_STATE, p), (.PLAN_PART_RUN, 0)] ∧ t.mem = s.mem ∧ t.cores = s.cores) := by
  refine ⟨_, exec_planCtrlUnload hc ha hl, ?_, ?_, (OnlyRegs.setPState s p .idle).2, rfl, rfl⟩
  · rw [State.clearHolds, State.pstate_setPart, State.pstate_setPState]
  · rw [State.part_clearHolds]

/-- STOP in BREAK, in the breakpoint's own cycle: carried out after RESUME (01 R40). -/
theorem planCtrlStop_brk {p : Nat} {s : State} (hc : s.clearing p = false) (ha : s.applying p = false) (hb : s.pstate p = .brk)
    (hr : (s.part p).breakAt = s.raw + 1) :
    Completes (.planCtrlStop p) s (fun t => t.part p = { s.part p with prev := PState.stopping.code } ∧ t = { s with parts := t.parts }) := by
  refine ⟨_, exec_planCtrlStop hc ha, ?_⟩
  rw [if_neg (by rw [hb]; decide), if_pos (by simp [hb, hr])]
  exact ⟨State.part_setPart_self .., rfl⟩

theorem planCtrlStop_refused {p : Nat} {s : State} (hc : s.clearing p = false) (ha : s.applying p = false) (hr : s.pstate p ≠ .running)
    (hb : s.pstate p = .brk → (s.part p).breakAt ≠ s.raw + 1) :
    Completes (.planCtrlStop p) s (fun t => t.fld .PLAN_STATUS_CMD_REJECT p = 1 ∧ OnlyRegs s t [(.PLAN_STATUS_CMD_REJECT, p)]) := by
  refine ⟨_, exec_planCtrlStop hc ha, ?_⟩
  rw [if_neg hr, if_neg (by simpa using hb)]
  exact ⟨State.fld_cmdReject .., OnlyRegs.cmdReject ..⟩

/-- Settles O3: each row of Table 1.6 is what its command does to the partition. -/
theorem planCommands : Obligations.PlanCommands := by
  refine ⟨fun _ _ _ ho hc ha hl ht => planCtrlArm_armed ho hc ha hl ht, fun _ _ _ ho hc ha hl ht he => planCtrlArm_late ho hc ha hl ht he,
    fun p s hc ha hr => ⟨_, exec_planCtrlStop hc ha, ?_⟩, fun p s hc ha hr => ⟨_, exec_planCtrlAbort hc ha, ?_⟩,
    fun _ _ hc ha hr => planCtrlAbort_active hc ha hr, fun _ _ _ ho hc ha hb => planCtrlResume_brk ho hc ha hb,
    fun _ _ hc ha hl => planCtrlUnload_idle hc ha hl, fun _ _ hc ha hb hr => planCtrlStop_brk hc ha hb hr,
    fun _ _ hc ha hr hb => planCtrlStop_refused hc ha hr hb⟩
  · rw [if_pos hr]
    exact ⟨State.pstate_setPState .., OnlyRegs.setPState ..⟩
  · rw [if_pos hr]
    exact ⟨State.pstate_setPState .., OnlyRegs.setPState ..⟩

end Sys2Proof.Machine
end


section
/-! PROOFS. Partition settings (01 R53, Table 1.9), the completion of a tick (R15, R19, R40) and the grant of the next one (R16, R17, R37). -/
namespace Sys2Proof.Machine
open Sys2Proof

/-! ### Settings -/

theorem exec_hemDepthWrite (p v : Nat) (s : State) :
    exec (.hemDepthWrite p v) s = .next (if s.settable p && v % 16 ≤ 8 then s.setFld .HEM_DEPTH v p else s.cmdReject p) := rfl

theorem exec_planSettingWrite (p : Nat) (which : PlanSetting) (v : Nat) (s : State) :
    exec (.planSettingWrite p which v) s = execPlanSettingWrite p which v s := rfl

theorem hemDepthWrite_taken {p v : Nat} {s : State} (hs : s.settable p = true) (hv : v ≤ 8) :
    Completes (.hemDepthWrite p v) s (fun t => t.fld .HEM_DEPTH p = v ∧ OnlyRegs s t [(.HEM_DEPTH, p)]) := by
  have hm : v % 16 = v := Nat.mod_eq_of_lt (by omega)
  refine ⟨_, exec_hemDepthWrite .., ?_⟩
  rw [if_pos (by simp [hs, hm, hv])]
  exact ⟨(State.fld_setFld_self ..).trans hm, (OnlyRegs.refl s _).setFld v 0 (by decide) (by simp)⟩

theorem hemDepthWrite_refused {p v : Nat} {s : State} (h : s.settable p = false ∨ (9 ≤ v ∧ v ≤ 15)) :
    Completes (.hemDepthWrite p v) s (fun t => t.fld .PLAN_STATUS_CMD_REJECT p = 1 ∧ t.fld .HEM_DEPTH p = s.fld .HEM_DEPTH p ∧
      OnlyRegs s t [(.PLAN_STATUS_CMD_REJECT, p)]) := by
  refine ⟨_, exec_hemDepthWrite .., ?_⟩
  rw [if_neg]
  · exact ⟨State.fld_cmdReject .., State.fld_setFld_name s (by decide) 1 p 0 p 0, OnlyRegs.cmdReject ..⟩
  · rcases h with h | h
    · simp [h]
    · have hm : v % 16 = v := Nat.mod_eq_of_lt (by omega)
      simp [hm]
      omega

theorem planSettingWrite_holdTimeout {p v : Nat} {s : State} (hs : s.settable p = true) (hv : v < 2 ^ 24) :
    Completes (.planSettingWrite p .holdTimeout v) s (fun t => t.fld .HOLD_TIMEOUT p = max 100 v ∧ OnlyRegs s t [(.HOLD_TIMEOUT, p)]) := by
  refine ⟨_, exec_planSettingWrite .., ?_⟩
  rw [if_pos hs]
  refine ⟨(State.fld_setFld_self ..).trans ?_, (OnlyRegs.refl s _).setFld _ 0 (by decide) (by simp)⟩
  rw [Nat.mod_eq_of_lt hv]
  exact Nat.mod_eq_of_lt (show max 100 v < 2 ^ 24 by omega)

/-- A pair of setting registers written whole. -/
theorem setFld64_setting {s : State} {lo hi : Fld} (hl : lo.width = 32) (hh : hi.width = 32) (hn : lo.code % 16384 ≠ hi.code % 16384)
    (cl : lo.code < 16384) (ch : hi.code < 16384) (p : Nat) {v : Nat} (hv : v < 2 ^ 64) :
    (s.setFld64 lo hi v p).fld64 lo hi p = v ∧ OnlyRegs s (s.setFld64 lo hi v p) [(lo, p), (hi, p)] :=
  ⟨(s.fld64_setFld64 hl hh hn v p 0).trans (Nat.mod_eq_of_lt hv),
    ((OnlyRegs.refl s _).setFld v 0 cl (by simp)).setFld _ 0 ch (by simp)⟩

theorem planSettingWrite_stopAtTick {p v : Nat} {s : State} (hs : s.settable p = true) :
    Completes (.planSettingWrite p .stopAtTick v) s (fun t => t.fld .PLAN_CTRL_STOP_AT_TICK p = v % 2 ∧
      OnlyRegs s t [(.PLAN_CTRL_STOP_AT_TICK, p)]) := by
  refine ⟨_, exec_planSettingWrite .., ?_⟩
  rw [if_pos hs]
  exact ⟨State.fld_setFld_self .., (OnlyRegs.refl s _).setFld _ 0 (by decide) (by simp)⟩

theorem planSettingWrite_refused {p : Nat} {which : PlanSetting} {s : State} (hs : s.settable p = false) (hw : which ≠ .stopAtTick) (v : Nat) :
    Completes (.planSettingWrite p which v) s (fun t => t.fld .PLAN_STATUS_CMD_REJECT p = 1 ∧
      OnlyRegs s t [(.PLAN_STATUS_CMD_REJECT, p)]) := by
  refine ⟨_, exec_planSettingWrite .., ?_⟩
  rw [if_neg (by simp [hs]), if_neg (by simp [hw])]
  exact ⟨State.fld_cmdReject .., OnlyRegs.cmdReject ..⟩

/-! ### Denied grants, releases -/

/-- The condition of R37 is noted: it stands, it ends, or it begins and is counted. -/
theorem State.noteDenied_cases (s : State) (p : Nat) :
    (s.grantDenied p = (s.part p).denied ∧ s.noteDenied p = s) ∨
    (s.grantDenied p = false ∧ s.noteDenied p = s.setPart p { s.part p with denied := false }) ∨
    (s.grantDenied p = true ∧ s.noteDenied p = (s.setPart p { s.part p with denied := true }).addFld .HOLD_COUNT 1 p) := by
  unfold State.noteDenied
  dsimp only
  by_cases h : s.grantDenied p = (s.part p).denied
  · exact .inl ⟨h, if_pos h⟩
  · rw [if_neg h]
    cases hd : s.grantDenied p
    · exact .inr (.inl ⟨rfl, rfl⟩)
    · exact .inr (.inr ⟨rfl, rfl⟩)

theorem State.part_noteDenied (s : State) (p : Nat) : (s.noteDenied p).part p = { s.part p with denied := s.grantDenied p } := by
  rcases s.noteDenied_cases p with ⟨hd, h⟩ | ⟨hd, h⟩ | ⟨hd, h⟩
  · rw [h, hd]
  · rw [h, hd, State.part_setPart_self]
  · rw [h, hd, State.addFld, State.part_setFld, State.part_setPart_self]

theorem RegsBut.noteDenied (s : State) (p : Nat) : RegsBut s (s.noteDenied p) [(.HOLD_COUNT, p)] := by
  rcases s.noteDenied_cases p with ⟨-, h⟩ | ⟨-, h⟩ | ⟨-, h⟩ <;> rw [h]
  · exact RegsBut.refl s _
  · exact RegsBut.refl s _
  · exact RegsBut.setFld (t := s.setPart p { s.part p with denied := true }) (RegsBut.refl s _) _ 0 (by decide) (by simp)

theorem State.noteDenied_keeps (s : State) (p : Nat) :
    (s.noteDenied p).mem = s.mem ∧ (s.noteDenied p).outs = s.outs ∧ (s.noteDenied p).pstate p = s.pstate p := by
  rcases s.noteDenied_cases p with ⟨-, h⟩ | ⟨-, h⟩ | ⟨-, h⟩ <;> rw [h]
  · exact ⟨rfl, rfl, rfl⟩
  · exact ⟨rfl, rfl, rfl⟩
  · exact ⟨rfl, rfl, congrArg PState.ofCode (State.fld_setFld_name _ (by decide) ..)⟩

/-- A RELEASE changes what the partition has sent, and the outputs. -/
theorem State.sendRelease_cases (s : State) (p t : Nat) : s.sendRelease p t = s ∨
    ∃ f hs, s.sendRelease p t = (s.sendCtl (s.partPorts p) f).setPart p { s.part p with sentHolds := hs } := by
  unfold State.sendRelease
  split
  · exact .inr ⟨_, _, rfl⟩
  · exact .inl rfl

/-- After a report and a RELEASE: the report is sent, and nothing but what the partition has sent has changed. -/
theorem State.reportRelease (s : State) (p t : Nat) (stops : Bool) :
    ∃ hs, ((s.sendReport p t stops).sendRelease p t).part p = { s.part p with sentHolds := hs } ∧
      ((s.sendReport p t stops).sendRelease p t).regs = s.regs ∧ ((s.sendReport p t stops).sendRelease p t).mem = s.mem ∧
      (s.sendReport p t stops).outs ⊆ ((s.sendReport p t stops).sendRelease p t).outs := by
  rcases (s.sendReport p t stops).sendRelease_cases p t with h | ⟨f, hs, h⟩ <;> rw [h]
  · exact ⟨_, rfl, rfl, rfl, List.Subset.refl _⟩
  · exact ⟨hs, State.part_setPart_self .., rfl, rfl, List.subset_append_left ..⟩

/-! ### Completing a tick -/

/-- Tick t is complete: it is counted, and the no-progress timer restarts. -/
def State.tickDone (s : State) (p : Nat) : State :=
  (s.setPart p { s.part p with completed := s.planTick p + 1, noProg := 0 }).countUp p 0x02 0 0 1

theorem State.part_tickDone (s : State) (p : Nat) :
    (s.tickDone p).part p = { s.part p with completed := s.planTick p + 1, noProg := 0 } := State.part_setPart_self ..

/-- The report of the tick in progress (01 R19, Table 1.3). -/
def State.reportFlit (s : State) (p : Nat) (stopped : Bool) : CtlFlit :=
  { type := .report, tag := s.fld .PLAN_JOB_TAG p, origin := s.ownRank p, tick := s.planTick p % 2 ^ 32, hem := s.fld .HEM_DEPTH p, stopped := stopped }

/-- The tick in progress is reported complete, and what was held for it released. -/
def State.tickReported (s : State) (p : Nat) (stops : Bool) : State :=
  ((s.tickDone p).sendReport p (s.planTick p) stops).sendRelease p (s.planTick p)

/-- The completion of a tick, and whether it stops the partition. -/
theorem exec_tickComplete {p : Nat} {s : State} (ha : (s.pstate p).active = true) (hc : (s.part p).completed ≤ s.planTick p)
    (hr : s.tickReady p (s.planTick p) = true) {stops : Bool} (hs : stops = (s.pstate p = .stopping ||
      (s.pstate p = .running && s.flag .PLAN_CTRL_STOP_AT_TICK p && s.planTick p = s.fld64 .PLAN_STOP_TICK_LO .PLAN_STOP_TICK_HI p) : Bool)) :
    exec (.tickComplete p) s = .next (if stops then (s.tickReported p stops).stop p else (s.tickReported p stops).noteDenied p) := by
  subst hs
  exact if_pos (by simp [ha, hc, hr])

/-- The completed tick's record and report. -/
theorem State.tickReported_keeps (s : State) (p : Nat) (stops : Bool) :
    ∃ hs, (s.tickReported p stops).part p = { s.part p with completed := s.planTick p + 1, noProg := 0, sentHolds := hs } ∧
      (s.tickReported p stops).regs = s.regs ∧ (s.tickReported p stops).mem = s.mem ∧
      ∀ n ∈ s.exchangePorts p, .ctl n (s.reportFlit p stops) ∈ (s.tickReported p stops).outs := by
  obtain ⟨hs, hpart, hregs, hmem, hout⟩ := (s.tickDone p).reportRelease p (s.planTick p) stops
  rw [State.part_tickDone] at hpart
  exact ⟨hs, hpart, hregs, hmem, fun n hn => hout (State.mem_outs_sendCtl (s.tickDone p) hn _)⟩

theorem tickComplete_runs {p : Nat} {s : State} (ha : (s.pstate p).active = true) (hc : (s.part p).completed ≤ s.planTick p)
    (hr : s.tickReady p (s.planTick p) = true) (hs : s.pstate p ≠ .stopping) (hz : s.fld .PLAN_CTRL_STOP_AT_TICK p = 0) :
    Completes (.tickComplete p) s (fun t => (t.part p).completed = s.planTick p + 1 ∧ t.pstate p = s.pstate p ∧ RegsBut s t [(.HOLD_COUNT, p)] ∧
      t.mem = s.mem ∧ ∀ n ∈ s.exchangePorts p, .ctl n (s.reportFlit p false) ∈ t.outs) := by
  obtain ⟨sent, hpart, hregs, hmem, hout⟩ := s.tickReported_keeps p false
  obtain ⟨dmem, douts, dstate⟩ := (s.tickReported p false).noteDenied_keeps p
  have hfld (f : Fld) (i k : Nat) : (s.tickReported p false).fld f i k = s.fld f i k := by rw [State.fld, State.fld, hregs]
  refine ⟨_, exec_tickComplete ha hc hr (stops := false) (by simp [hs, State.flag, hz]), ?_⟩
  rw [if_neg (by decide)]
  refine ⟨by rw [State.part_noteDenied, hpart], dstate.trans (congrArg PState.ofCode (hfld ..)), fun f i k hf hn => ?_, dmem.trans hmem,
    fun n hn => by rw [douts]; exact hout n hn⟩
  rw [RegsBut.noteDenied _ p f i k hf hn, hfld]

theorem tickComplete_stops {p : Nat} {s : State} (hs : s.pstate p = .stopping) (hc : (s.part p).completed ≤ s.planTick p)
    (hr : s.tickReady p (s.planTick p) = true) :
    Completes (.tickComplete p) s (fun t => t.pstate p = .stopped ∧ (t.part p).completed = s.planTick p + 1 ∧ (t.part p).holds = [] ∧
      t.mem = s.mem ∧ ∀ n ∈ s.exchangePorts p, .ctl n (s.reportFlit p true) ∈ t.outs) := by
  obtain ⟨sent, hpart, -, hmem, hout⟩ := s.tickReported_keeps p true
  refine ⟨_, exec_tickComplete (by rw [hs]; rfl) hc hr (stops := true) (by simp [hs]), ?_⟩
  rw [if_pos rfl]
  refine ⟨State.pstate_stop .., ?_, ?_, (State.mem_stop ..).trans hmem, fun n hn => State.outs_sub_stop _ p (hout n hn)⟩
  · rw [State.part_stop, hpart]
  · rw [State.part_stop]

/-! ### Granting the next tick -/

/-- A trace entry changes the core's record and the count of entries lost (19 R563). -/
theorem State.trace_cases (s : State) (g kind value : Nat) : s.trace g kind value = s ∨
    s.trace g kind value = (s.setCore g { s.core g with traceLost := (s.core g).traceLost + 1 }).addFld .OBS_TRACE_LOST 1 (s.corePart g) ∨
    ∃ l, s.trace g kind value = s.draw.2.setCore g { s.core g with trace := l } := by
  unfold State.trace
  dsimp only
  split
  · split
    · exact .inr (.inl rfl)
    · exact .inr (.inr ⟨_, rfl⟩)
  · exact .inl rfl

theorem State.trace_keeps (s : State) (g kind value : Nat) : (s.trace g kind value).parts = s.parts ∧ (s.trace g kind value).mem = s.mem ∧
    RegsBut s (s.trace g kind value) [(.OBS_TRACE_LOST, s.corePart g)] := by
  rcases s.trace_cases g kind value with h | h | ⟨l, h⟩ <;> rw [h]
  · exact ⟨rfl, rfl, RegsBut.refl s _⟩
  · exact ⟨rfl, rfl, RegsBut.setFld (t := s.setCore g _) (RegsBut.refl s _) _ 0 (by decide) (by simp)⟩
  · exact ⟨rfl, rfl, RegsBut.refl s _⟩

theorem State.parts_trace (s : State) (g kind value : Nat) : (s.trace g kind value).parts = s.parts := (s.trace_keeps g kind value).1

theorem State.mem_trace (s : State) (g kind value : Nat) : (s.trace g kind value).mem = s.mem := by
  obtain ⟨-, hmem, -⟩ := s.trace_keeps g kind value
  exact hmem

theorem State.fld_trace (s : State) (g kind value : Nat) {f : Fld} (hf : f.code < 16384) (hn : f.code ≠ Fld.OBS_TRACE_LOST.code) (i k : Nat) :
    (s.trace g kind value).fld f i k = s.fld f i k := by
  obtain ⟨-, -, hregs⟩ := s.trace_keeps g kind value
  exact hregs f i k hf (by simp [hn])

/-- A grant before its trace entries: the tick, the owner records and the partition's record (01 R17, 05 R177). -/
def State.grantNoted (s : State) (p t : Nat) : State :=
  let s := (s.setFld64 .PLAN_TICK_LO .PLAN_TICK_HI t p).emptyOwners p (some (t % 2))
  let x := s.part p
  let layer := s.fld .REPL_DONE_LAYER_LAYER p + s.fld .REPL_DONE_LAYER_VALID p * 2 ^ 31
  s.setPart p { x with denied := false, noProg := 0, layerAt := bankSet 0 (x.layerAt.filter (fun e => t < e.1 + 16)) t layer }

/-- The cores that make an entry when a tick is granted. -/
def State.tickCores (s : State) (p : Nat) : List Nat := (s.partDies p).flatMap (fun nn => (List.range 96).map (fun i => nn * 96 + i))

theorem State.grant_eq (s : State) (p t : Nat) :
    s.grant p t = ((s.grantNoted p t).tickCores p).foldl (fun s g => s.trace g 5 0) (s.grantNoted p t) := rfl

theorem State.fld_grantNoted (s : State) (p t : Nat) {f : Fld} (hl : f.code % 16384 ≠ Fld.PLAN_TICK_LO.code % 16384)
    (hh : f.code % 16384 ≠ Fld.PLAN_TICK_HI.code % 16384) (i k : Nat) : (s.grantNoted p t).fld f i k = s.fld f i k :=
  State.fld_setFld64_name s hl hh t p 0 i k

/-- The halves of the tick just noted. -/
theorem State.tick_grantNoted (s : State) (p t : Nat) : (s.grantNoted p t).fld .PLAN_TICK_LO p = t % 2 ^ 32 ∧
    (s.grantNoted p t).fld .PLAN_TICK_HI p = t / 2 ^ 32 % 2 ^ 32 :=
  ⟨State.fld_setFld64_lo (lo := .PLAN_TICK_LO) (hi := .PLAN_TICK_HI) s (by decide) t p 0,
    State.fld_setFld64_hi s .PLAN_TICK_LO .PLAN_TICK_HI t p 0⟩

theorem State.planTick_grantNoted (s : State) (p : Nat) {t : Nat} (h : t < 2 ^ 64) : (s.grantNoted p t).planTick p = t :=
  (State.fld64_setFld64 s rfl rfl (by decide) t p 0).trans (Nat.mod_eq_of_lt h)

theorem State.part_grantNoted (s : State) (p t : Nat) :
    ∃ l, (s.grantNoted p t).part p = { s.part p with denied := false, noProg := 0, layerAt := l } := ⟨_, State.part_setPart_self ..⟩

theorem State.fld_grant_noted (s : State) (p t : Nat) {f : Fld} (hf : f.code < 16384) (hn : f.code ≠ Fld.OBS_TRACE_LOST.code) (i k : Nat) :
    (s.grant p t).fld f i k = (s.grantNoted p t).fld f i k := by
  rw [State.grant_eq]
  exact foldl_keep (fun u => u.fld f i k) _ (fun u g => u.fld_trace g 5 0 hf hn i k) _ _

theorem State.parts_grant (s : State) (p t : Nat) : (s.grant p t).parts = (s.grantNoted p t).parts := by
  rw [State.grant_eq]
  exact foldl_keep State.parts _ (fun u g => u.parts_trace g 5 0) _ _

theorem State.mem_grant (s : State) (p t : Nat) : (s.grant p t).mem = s.mem := by
  rw [State.grant_eq]
  exact (foldl_keep State.mem _ (fun u g => u.mem_trace g 5 0) _ _).trans rfl

theorem State.part_grant (s : State) (p t : Nat) : ∃ l, (s.grant p t).part p = { s.part p with denied := false, noProg := 0, layerAt := l } := by
  rw [State.part, State.parts_grant]
  exact s.part_grantNoted p t

theorem State.planTick_grant (s : State) (p : Nat) {t : Nat} (h : t < 2 ^ 64) : (s.grant p t).planTick p = t := by
  rw [State.planTick, State.fld64, State.fld_grant_noted _ _ _ (by decide) (by decide), State.fld_grant_noted _ _ _ (by decide) (by decide)]
  exact s.planTick_grantNoted p h

theorem State.pstate_grant (s : State) (p t q : Nat) : (s.grant p t).pstate q = s.pstate q := by
  rw [State.pstate, State.fld_grant_noted _ _ _ (by decide) (by decide), State.fld_grantNoted _ _ _ (by decide) (by decide), ← State.pstate]

theorem State.running_of_grantable {s : State} {p : Nat} (h : s.grantable p = true) : s.pstate p = .running := by
  simp only [State.grantable, Bool.and_eq_true, decide_eq_true_eq] at h
  obtain ⟨⟨⟨⟨⟨⟨hrun, -⟩, -⟩, -⟩, -⟩, -⟩, -⟩ := h
  exact hrun

theorem tickGrant_next {p : Nat} {s : State} (hg : s.grantable p = true) (ht : s.planTick p + 1 < 2 ^ 64) :
    Completes (.tickGrant p) s (fun t => t.planTick p = s.planTick p + 1 ∧ t.pstate p = .running ∧ t.mem = s.mem ∧
      (t.part p).completed = (s.part p).completed ∧ t.part p = { s.part p with denied := false, noProg := 0, layerAt := (t.part p).layerAt }) := by
  have hx : exec (.tickGrant p) s = .next (s.grant p (s.planTick p + 1)) := congrArg Host.Outcome.next (if_pos hg)
  obtain ⟨l, hl⟩ := s.part_grant p (s.planTick p + 1)
  refine ⟨_, hx, s.planTick_grant p ht, (s.pstate_grant ..).trans (State.running_of_grantable hg), s.mem_grant .., ?_, ?_⟩ <;> rw [hl]

/-- Settles O4: the settings by whether they may be written, then the completion of a tick and the grant of the next. -/
theorem planSettings : Obligations.PlanSettings :=
  ⟨fun _ _ _ hs hv => hemDepthWrite_taken hs hv, fun _ _ _ h => hemDepthWrite_refused h, fun _ _ _ hs hv => planSettingWrite_holdTimeout hs hv,
    fun p _ _ hs hv => ⟨_, congrArg Host.Outcome.next (if_pos hs), setFld64_setting rfl rfl (by decide) (by decide) (by decide) p hv⟩,
    fun p _ _ hs hv => ⟨_, congrArg Host.Outcome.next (if_pos hs), setFld64_setting rfl rfl (by decide) (by decide) (by decide) p hv⟩,
    fun _ _ _ hs => planSettingWrite_stopAtTick hs, fun _ v _ _ hs hw => planSettingWrite_refused hs hw v,
    fun _ _ ha hc hr hs hz => tickComplete_runs ha hc hr hs hz, fun _ _ hs hc hr => tickComplete_stops hs hc hr,
    fun _ _ hg ht => tickGrant_next hg ht⟩

end Sys2Proof.Machine
end


section
/-! PROOFS. Plan control flits (01 R20 to R32): how a flit reaches the job that it names, what forwarding sends, and what a REPORT, a HOLD, a
RELEASE, a FAULT_STOP and a released entry's age do. -/
namespace Sys2Proof.Machine
open Sys2Proof

/-! ### A flit and its job -/

/-- A flit of a job that a partition runs. -/
theorem State.onFlit_run {s : State} {port j p : Nat} {f : CtlFlit} (hj : s.jobSlot f.tag = some j) (hp : (s.slotPorts j).testBit port = true)
    (hk : s.fld .SLOT_CFG_KIND j = 0) (hq : s.fld .SLOT_CFG_PARTITION j = p) (transit : Nat → State) (run : Nat → Nat → State) :
    s.onFlit port f transit run = run j p := by
  simp [State.onFlit, hj, hp, hk, hq]

/-- A flit of a job that the device carries in transit. -/
theorem State.onFlit_transit {s : State} {port j : Nat} {f : CtlFlit} (hj : s.jobSlot f.tag = some j) (hp : (s.slotPorts j).testBit port = true)
    (hk : s.fld .SLOT_CFG_KIND j = 1) (transit : Nat → State) (run : Nat → Nat → State) : s.onFlit port f transit run = transit j := by
  simp [State.onFlit, hj, hp, hk]

/-- Forwarding is handing flits out, and nothing else. -/
theorem State.forwardCtl_eq (s : State) (j port : Nat) (f : CtlFlit) : ∃ l, s.forwardCtl j port f = { s with outs := s.outs ++ l } := by
  unfold State.forwardCtl
  split
  · exact ⟨[], by rw [List.append_nil]⟩
  · exact ⟨_, rfl⟩

/-- Below the hop limit every other port of the job is sent the flit, a hop further (01 R29). -/
theorem State.mem_outs_forwardCtl {s : State} {j n port : Nat} {f : CtlFlit} (hh : f.hops < s.hopLimit) (h32 : n < 32)
    (hn : (s.slotPorts j).testBit n = true) (hne : n ≠ port) :
    Out.ctl n { f with hops := f.hops + 1 } ∈ (s.forwardCtl j port f).outs := by
  rw [State.forwardCtl, if_neg (by omega)]
  exact State.mem_outs_sendCtl s (by simp [bitsOf, h32, hn, hne]) _

/-- After a flit is stored it is forwarded, and a denied grant noted: the table, the memories and the other fields stay. -/
theorem State.forwardNoted_keeps (s : State) (j port p : Nat) (f : CtlFlit) :
    (((s.forwardCtl j port f).noteDenied p).part p).holds = (s.part p).holds ∧
      RegsBut s ((s.forwardCtl j port f).noteDenied p) [(.HOLD_COUNT, p)] ∧ ((s.forwardCtl j port f).noteDenied p).mem = s.mem ∧
      ((s.forwardCtl j port f).noteDenied p).outs = (s.forwardCtl j port f).outs := by
  obtain ⟨hmem, houts, -⟩ := (s.forwardCtl j port f).noteDenied_keeps p
  have hregs := RegsBut.noteDenied (s.forwardCtl j port f) p
  have hpart := (s.forwardCtl j port f).part_noteDenied p
  rw [hpart, hmem, houts]
  obtain ⟨l, hf⟩ := s.forwardCtl_eq j port f
  rw [hf] at hregs ⊢
  exact ⟨rfl, hregs, rfl, rfl⟩

/-! ### A partition that does not run -/

theorem State.checkLate_idle {s : State} {p : Nat} (h : (s.pstate p).active = false) : s.checkLate p = s := by
  simp [State.checkLate, h]

theorem State.grantDenied_idle {s : State} {p : Nat} (h : (s.pstate p).active = false) : s.grantDenied p = false := by
  have hr : s.pstate p ≠ .running := by intro hr; rw [hr] at h; cases h
  simp [State.grantDenied, hr]

/-- At a partition that does not run no grant is denied, so none is counted. -/
theorem State.noteDenied_idle {s : State} {p : Nat} (h : (s.pstate p).active = false) :
    s.noteDenied p = { s with parts := (s.noteDenied p).parts } := by
  rcases s.noteDenied_cases p with ⟨-, hd⟩ | ⟨-, hd⟩ | ⟨hc, -⟩
  · rw [hd]
  · rw [hd]; rfl
  · rw [State.grantDenied_idle h] at hc; cases hc

/-- What a partition knows of its neighbours after a REPORT on a port (01 R20). -/
def State.reportedAfter (s : State) (p port : Nat) (f : CtlFlit) : List (Nat × Nat) :=
  bankSet 0 (s.part p).reported port
    (max (widenTick (max (s.planTick p) (s.reportedTicks p port - 1)) f.tick + 1) (s.reportedTicks p port))

/-! ### The hold table (01 R29, R30) -/

/-- The entry of a flit that has just come. -/
def flitEntry (f : CtlFlit) (now : Nat) : HoldEntry :=
  { tag := f.tag, origin := f.origin, tick := f.tick, cause := f.cause, hops := f.hops, live := true, since := now }

/-- A table with room takes the entry at its end. -/
theorem storeHold_room (near : Nat) {hs : List HoldEntry} (e : HoldEntry) (h : hs.length < 32) : storeHold near hs e = hs ++ [e] := by
  have hl : (hs.filter HoldEntry.live).length < 32 := lt_of_le_of_lt (List.length_filter_le ..) h
  rw [storeHold, if_pos hl, makeRoom, if_pos h]

/-- The entries with the flit's key are released now. -/
def releaseHolds (f : CtlFlit) (now : Nat) (hs : List HoldEntry) : List HoldEntry :=
  hs.map (fun e => if e.hasKey f then { e with live := false, since := now } else e)

/-- An entry with the key is released; its key is as it was. -/
theorem releaseHolds_released {f : CtlFlit} {now : Nat} {hs : List HoldEntry} {e : HoldEntry} (he : e ∈ releaseHolds f now hs)
    (hk : e.hasKey f = true) : e.live = false ∧ e.since = now := by
  obtain ⟨d, -, rfl⟩ := List.mem_map.mp he
  by_cases hd : d.hasKey f = true
  · rw [if_pos hd]; exact ⟨rfl, rfl⟩
  · rw [if_neg hd] at hk; exact absurd hk hd

/-! ### Flits of a job that partition p runs: REPORT (01 R20, R23) -/

section RunFlits
variable {port j p : Nat} {f : CtlFlit} {s : State} (hj : s.jobSlot f.tag = some j) (hp : (s.slotPorts j).testBit port = true)
  (hk : s.fld .SLOT_CFG_KIND j = 0) (hq : s.fld .SLOT_CFG_PARTITION j = p)
include hj hp hk hq

/-- A REPORT from an exchange port of a partition that runs the job. -/
theorem exec_reportReceive (hx : (s.fld .EXCHANGE_PORTS p).testBit port = true) :
    exec (.reportReceive port f) s = .next (
      if f.hem ≠ s.fld .HEM_DEPTH p then if (s.pstate p).active then s.enterFault p E_PLAN_HEM_MISMATCH else s
      else ((s.setPart p { s.part p with reported := s.reportedAfter p port f }).checkLate p).noteDenied p) := by
  refine congrArg Host.Outcome.next ((State.onFlit_run hj hp hk hq _ _).trans ?_)
  rw [if_neg (by simp [hx])]
  rfl

theorem reportReceive_kept (hx : (s.fld .EXCHANGE_PORTS p).testBit port = true) (hh : f.hem = s.fld .HEM_DEPTH p) (ha : (s.pstate p).active = false) :
    Completes (.reportReceive port f) s (fun t => (t.part p).reported = s.reportedAfter p port f ∧ t = { s with parts := t.parts }) := by
  refine ⟨_, exec_reportReceive hj hp hk hq hx, ?_⟩
  rw [if_neg (by simp [hh]), State.checkLate_idle (by rw [State.pstate_setPart]; exact ha)]
  refine ⟨by rw [State.part_noteDenied, State.part_setPart_self], ?_⟩
  rw [State.noteDenied_idle (by rw [State.pstate_setPart]; exact ha)]
  rfl

theorem reportReceive_mismatch (hx : (s.fld .EXCHANGE_PORTS p).testBit port = true) (hh : f.hem ≠ s.fld .HEM_DEPTH p) (ha : (s.pstate p).active = true)
    (he : s.fld .PLAN_ERROR_CODE p = 0) :
    Completes (.reportReceive port f) s (fun t => t.pstate p = .fault ∧ t.fld .PLAN_ERROR_CODE p = E_PLAN_HEM_MISMATCH ∧
      (t.part p).holds = []) := by
  refine ⟨_, exec_reportReceive hj hp hk hq hx, ?_⟩
  rw [if_pos hh, if_pos ha, State.enterFault_active ha]
  exact ⟨State.pstate_faultActions .., State.fld_faultActions_code he _, by rw [State.part_faultActions]⟩

/-! ### HOLD (01 R29) -/

theorem exec_holdReceive_new (ho : f.origin ≠ s.fld .SLOT_RANK j) (hn : ∀ e ∈ (s.part p).holds, e.hasKey f = false) (hl : (s.part p).holds.length < 32) :
    exec (.holdReceive port f) s = .next (((s.setPart p
      { s.part p with holds := (s.part p).holds ++ [flitEntry f s.raw] }).forwardCtl j port f).noteDenied p) := by
  refine congrArg Host.Outcome.next ((State.onFlit_run hj hp hk hq _ _).trans ?_)
  have hlive : ((s.part p).holds.filter HoldEntry.live).length < 32 := lt_of_le_of_lt (List.length_filter_le ..) hl
  have hany : (s.part p).holds.any (fun e => e.hasKey f) = false := by simpa using hn
  simp only [hany, ho, storeHold_room _ _ hl, flitEntry]
  rw [if_neg (by simp), if_neg (by simpa using hlive)]

theorem holdReceive_new (ho : f.origin ≠ s.fld .SLOT_RANK j) (hn : ∀ e ∈ (s.part p).holds, e.hasKey f = false) (hl : (s.part p).holds.length < 32) :
    Completes (.holdReceive port f) s (fun t => (t.part p).holds = (s.part p).holds ++ [flitEntry f s.raw] ∧
      RegsBut s t [(.HOLD_COUNT, p)] ∧ t.mem = s.mem ∧ (f.hops < s.hopLimit →
        ∀ n, n < 32 → (s.slotPorts j).testBit n → n ≠ port → .ctl n { f with hops := f.hops + 1 } ∈ t.outs)) := by
  refine ⟨_, exec_holdReceive_new hj hp hk hq ho hn hl, ?_⟩
  obtain ⟨hholds, hregs, hmem, houts⟩ := (s.setPart p
    { s.part p with holds := (s.part p).holds ++ [flitEntry f s.raw] }).forwardNoted_keeps j port p f
  refine ⟨by rw [hholds, State.part_setPart_self], hregs, hmem, fun hh n h32 hb hne => ?_⟩
  rw [houts]
  exact State.mem_outs_forwardCtl hh h32 hb hne

/-! ### RELEASE (01 R30) -/

theorem exec_releaseReceive_live (he : ∃ e ∈ (s.part p).holds, e.hasKey f) (hl : ∀ e ∈ (s.part p).holds, e.hasKey f → e.live) :
    exec (.releaseReceive port f) s = .next (((s.setPart p
      { s.part p with holds := releaseHolds f s.raw (s.part p).holds }).forwardCtl j port f).noteDenied p) := by
  obtain ⟨e, hf⟩ : ∃ e, (s.part p).holds.find? (fun e => e.hasKey f) = some e :=
    Option.isSome_iff_exists.mp (by simpa [List.find?_isSome] using he)
  have hlive : e.live = true := hl e (List.mem_of_find?_eq_some hf) (by simpa using List.find?_some hf)
  refine congrArg Host.Outcome.next ((State.onFlit_run hj hp hk hq _ _).trans ?_)
  simp only [hf, hlive, if_true, releaseHolds]

theorem releaseReceive_live (he : ∃ e ∈ (s.part p).holds, e.hasKey f) (hl : ∀ e ∈ (s.part p).holds, e.hasKey f → e.live) :
    Completes (.releaseReceive port f) s (fun t => (∀ e ∈ (t.part p).holds, e.hasKey f → e.live = false ∧ e.since = s.raw) ∧
      (t.part p).holds.length = (s.part p).holds.length ∧ RegsBut s t [(.HOLD_COUNT, p)] ∧ t.mem = s.mem) := by
  refine ⟨_, exec_releaseReceive_live hj hp hk hq he hl, ?_⟩
  obtain ⟨hholds, hregs, hmem, -⟩ := (s.setPart p
    { s.part p with holds := releaseHolds f s.raw (s.part p).holds }).forwardNoted_keeps j port p f
  rw [State.part_setPart_self] at hholds
  exact ⟨fun e hm hkey => releaseHolds_released (hholds ▸ hm) hkey, by rw [hholds, releaseHolds, List.length_map], hregs, hmem⟩

/-! ### FAULT_STOP (01 R32) -/

theorem exec_faultStopReceive (hi : s.pstate p ≠ .idle) (hf : s.pstate p ≠ .fault) :
    exec (.faultStopReceive port f) s = .next (((s.forwardCtl j port f).setPart p
      { (s.forwardCtl j port f).part p with faultOrigin := f.origin + 1 }).forceFault p E_PLAN_REMOTE_FAULT) := by
  refine congrArg Host.Outcome.next ((State.onFlit_run hj hp hk hq _ _).trans ?_)
  dsimp only
  split
  · contradiction
  · contradiction
  · rfl

theorem faultStopReceive_fault (hi : s.pstate p ≠ .idle) (hf : s.pstate p ≠ .fault) (he : s.fld .PLAN_ERROR_CODE p = 0) :
    Completes (.faultStopReceive port f) s (fun t => t.pstate p = .fault ∧ t.fld .PLAN_ERROR_CODE p = E_PLAN_REMOTE_FAULT ∧
      (t.part p).faultOrigin = f.origin + 1 ∧ (t.part p).holds = [] ∧ t.mem = s.mem) := by
  refine ⟨_, exec_faultStopReceive hj hp hk hq hi hf, ?_⟩
  obtain ⟨l, ho⟩ := s.forwardCtl_eq j port f
  generalize hu : (s.forwardCtl j port f).setPart p { (s.forwardCtl j port f).part p with faultOrigin := f.origin + 1 } = u
  have hstate : u.pstate p = s.pstate p := by rw [← hu, State.pstate_setPart, ho]; rfl
  have hcode : u.fld .PLAN_ERROR_CODE p = s.fld .PLAN_ERROR_CODE p := by rw [← hu, State.fld_setPart, ho]; rfl
  have hmem : u.mem = s.mem := by rw [← hu, ho]; rfl
  have horigin : (u.part p).faultOrigin = f.origin + 1 := by rw [← hu, State.part_setPart_self]
  rw [State.forceFault_eq (hstate ▸ hi) (hstate ▸ hf)]
  refine ⟨State.pstate_faultActions .., State.fld_faultActions_code (hcode.trans he) _, ?_, ?_,
    (State.faultActions_keeps u p _).2.trans hmem⟩
  · rw [State.part_faultActions, ← horigin]
  · rw [State.part_faultActions]

end RunFlits

/-! ### In transit, and aged entries -/

/-- The flits that a device hands on in transit: HOLD, RELEASE and FAULT_STOP (01 R29, R30, R32). -/
theorem exec_transit {port j : Nat} {f : CtlFlit} {s : State} (hj : s.jobSlot f.tag = some j) (hp : (s.slotPorts j).testBit port = true)
    (hk : s.fld .SLOT_CFG_KIND j = 1) :
    ∀ c ∈ [Instr.holdReceive port f, .releaseReceive port f, .faultStopReceive port f], exec c s = .next (s.forwardCtl j port f) := by
  simp only [List.forall_mem_cons, List.not_mem_nil, false_imp_iff, implies_true, and_true]
  exact ⟨congrArg Host.Outcome.next (State.onFlit_transit hj hp hk ..), congrArg Host.Outcome.next (State.onFlit_transit hj hp hk ..),
    congrArg Host.Outcome.next (State.onFlit_transit hj hp hk ..)⟩

theorem transit_forwarded {port j : Nat} {f : CtlFlit} {s : State} (hj : s.jobSlot f.tag = some j)
    (hp : (s.slotPorts j).testBit port = true) (hk : s.fld .SLOT_CFG_KIND j = 1) (hh : f.hops < s.hopLimit) :
    ∀ c ∈ [Instr.holdReceive port f, .releaseReceive port f, .faultStopReceive port f],
      Completes c s (fun t => t = { s with outs := t.outs } ∧
        ∀ n, n < 32 → (s.slotPorts j).testBit n → n ≠ port → .ctl n { f with hops := f.hops + 1 } ∈ t.outs) := by
  intro c hc
  obtain ⟨l, ho⟩ := s.forwardCtl_eq j port f
  exact ⟨_, exec_transit hj hp hk c hc, by rw [ho], fun n h32 hn hne => State.mem_outs_forwardCtl hh h32 hn hne⟩

theorem holdEntryExpire_aged (p : Nat) (s : State) :
    Completes (.holdEntryExpire p) s (fun t => t = { s with parts := t.parts } ∧
      ∀ e, e ∈ (t.part p).holds ↔ e ∈ (s.part p).holds ∧ (e.live ∨ s.elapsed e.since (max (s.fld .HOLD_TIMEOUT p) 1000 * 1000) = false)) := by
  refine ⟨_, rfl, rfl, fun e => ?_⟩
  rw [State.part_setPart_self]
  simp

/-- Settles O5: each flit at a job that the device runs, the flits of a job in transit, and the age of released entries. -/
theorem planFlits : Obligations.PlanFlits := by
  refine ⟨fun _ _ _ _ _ hj hp hk hq hx hh ha => reportReceive_kept hj hp hk hq hx hh ha,
    fun _ _ _ _ _ hj hp hk hq hx hh ha he => reportReceive_mismatch hj hp hk hq hx hh ha he,
    fun _ _ _ _ _ hj hp hk hq ho hn hl => holdReceive_new hj hp hk hq ho hn hl,
    fun _ _ _ _ _ hj hp hk hq he hl => releaseReceive_live hj hp hk hq he hl,
    fun _ _ p _ s hj hp hk hq hs he => ?_, fun _ _ _ _ hj hp hk hh => transit_forwarded hj hp hk hh, holdEntryExpire_aged⟩
  have hi : s.pstate p ≠ .idle := by rcases hs with h | h | h <;> rw [h] <;> decide
  have hf : s.pstate p ≠ .fault := by rcases hs with h | h | h <;> rw [h] <;> decide
  exact faultStopReceive_fault hj hp hk hq hi hf he

end Sys2Proof.Machine
end


section
/-! PROOFS. The no-progress timer that runs out (01 R44 to R46), power tokens (R41, R42), and the state right after reset. -/
namespace Sys2Proof.Machine
open Sys2Proof

/-! ### The no-progress timer -/

/-- The fields of the entries of a wait path, and all that describe a deadlock (01 R45). -/
def cycleFlds : List Fld := [.DEADLOCK_CYCLE_CORE, .DEADLOCK_CYCLE_COUNTER, .DEADLOCK_CYCLE_BAR, .DEADLOCK_CYCLE_NOWAIT, .DEADLOCK_CYCLE_VALID]
def deadlockFlds : List Fld :=
  cycleFlds ++ [.DEADLOCK_INFO_LENGTH, .DEADLOCK_INFO_TRUNCATED, .DEADLOCK_INFO_CROSS_DEVICE, .DEADLOCK_INFO_REMOTE_RANK]

theorem KeptBut.listPath (s : State) (p : Nat) (path : List (Nat × Option WaitOn)) : KeptBut s (s.listPath p path) deadlockFlds := by
  unfold State.listPath
  refine KeptBut.setFld (f := .DEADLOCK_INFO_LENGTH) ?_ (by decide) _ _ _
  refine ((KeptBut.refl s _).dropFlds fun c i hc => ?_).andThen (.foldl (fun u e => ?_) _ _) (List.Subset.refl _)
  · simp only [Bool.and_eq_true, List.any_eq_true, decide_eq_true_eq] at hc
    obtain ⟨-, f, hf, hcode⟩ := hc
    exact ⟨f, List.mem_append_left _ hf, hcode⟩
  · exact (((((KeptBut.refl u _).setFld (f := .DEADLOCK_CYCLE_CORE) (by decide) _ _ _).setFld (f := .DEADLOCK_CYCLE_COUNTER) (by decide) _ _ _).setFld
      (f := .DEADLOCK_CYCLE_BAR) (by decide) _ _ _).setFld (f := .DEADLOCK_CYCLE_NOWAIT) (by decide) _ _ _).setFld
      (f := .DEADLOCK_CYCLE_VALID) (by decide) _ _ _

/-- The path is listed, with what its end says. -/
theorem KeptBut.describePath (s : State) (p : Nat) (path : List (Nat × Option WaitOn)) (truncated cross rank : Nat) :
    KeptBut s ((((s.listPath p path).setFld .DEADLOCK_INFO_TRUNCATED truncated p).setFld .DEADLOCK_INFO_CROSS_DEVICE cross p).setFld
      .DEADLOCK_INFO_REMOTE_RANK rank p) deadlockFlds :=
  (((KeptBut.listPath s p path).setFld (f := .DEADLOCK_INFO_TRUNCATED) (by decide) _ _ _).setFld (f := .DEADLOCK_INFO_CROSS_DEVICE) (by decide) _ _ _).setFld
    (f := .DEADLOCK_INFO_REMOTE_RANK) (by decide) _ _ _

/-- A timer that runs out describes the wait and puts the partition in FAULT (01 R45, R46). -/
theorem State.holdTimeoutExpire_expired {s : State} {p : Nat} (hr : s.timerRuns p = true) (ht : s.timedOut p = true) :
    ∃ u code, (code = E_PLAN_DEADLOCK ∨ code = E_PLAN_HOLD_TIMEOUT) ∧ KeptBut s u deadlockFlds ∧ s.holdTimeoutExpire p = u.enterFault p code := by
  unfold State.holdTimeoutExpire
  rw [if_neg (by simp [hr, ht])]
  split
  split
  · exact ⟨_, _, .inl rfl, .describePath .., rfl⟩
  · dsimp only
    split
    · exact ⟨_, _, .inr rfl, .describePath .., rfl⟩
    · exact ⟨_, _, .inr rfl, .describePath .., rfl⟩

theorem State.active_of_timerRuns {s : State} {p : Nat} (h : s.timerRuns p = true) : (s.pstate p).active = true := by
  simp only [State.timerRuns, Bool.and_eq_true, Bool.or_eq_true, decide_eq_true_eq] at h
  obtain ⟨⟨⟨⟨hp | hp, -⟩, -⟩, -⟩, -⟩ := h
  · rw [hp]; rfl
  · rw [hp]; rfl

theorem holdTimeoutExpire_fault {p : Nat} {s : State} (hr : s.timerRuns p = true) (ht : s.timedOut p = true)
    (he : s.fld .PLAN_ERROR_CODE p = 0) :
    Completes (.holdTimeoutExpire p) s (fun t => t.pstate p = .fault ∧ (t.part p).holds = [] ∧ t.mem = s.mem ∧
      (t.fld .PLAN_ERROR_CODE p = E_PLAN_DEADLOCK ∨ t.fld .PLAN_ERROR_CODE p = E_PLAN_HOLD_TIMEOUT)) := by
  obtain ⟨u, code, hcode, hk, hx⟩ := State.holdTimeoutExpire_expired hr ht
  have ha : (u.pstate p).active = true := by rw [hk.pstate (by decide)]; exact State.active_of_timerRuns hr
  have hz : u.fld .PLAN_ERROR_CODE p = 0 := (hk.fld _ _ _ (by decide)).trans he
  refine ⟨_, congrArg Host.Outcome.next hx, ?_⟩
  rw [State.enterFault_active ha]
  refine ⟨State.pstate_faultActions .., by rw [State.part_faultActions], (State.faultActions_keeps u p code).2.trans hk.mem, ?_⟩
  rw [State.fld_faultActions_code hz]
  rcases hcode with rfl | rfl
  · exact .inl rfl
  · exact .inr rfl

theorem holdTimeoutExpire_waits {p : Nat} {s : State} (h : s.timerRuns p = false ∨ s.timedOut p = false) :
    Completes (.holdTimeoutExpire p) s (fun t => t = s) := by
  refine ⟨_, rfl, ?_⟩
  rw [State.holdTimeoutExpire, if_pos (by rcases h with h | h <;> simp [h])]

/-! ### Power tokens -/

theorem powerTokensRecompute_budget (s : State) : Completes .powerTokensRecompute s (fun t =>
    t.fld .POWER_TOKENS = min 6144 (max 96 ((s.fld .POWER_CAP - 1380) * 16 / 5)) ∧ OnlyRegs s t [(.POWER_TOKENS, 0)]) := by
  refine ⟨_, rfl, (State.fld_setFld_self ..).trans ?_, (OnlyRegs.refl s _).setFld _ 0 (by decide) (by simp)⟩
  exact Nat.mod_eq_of_lt (lt_of_le_of_lt (Nat.min_le_left ..) (show 6144 < 2 ^ 13 by decide))

/-- The request of a core for its first heavy operation (01 R42). -/
theorem exec_tokenGrant {g : Nat} {rivals : List Nat} {o : MacroOp} {s : State} (ho : (s.core g).wantsToken = some o) :
    exec (.tokenGrant g rivals) s = .next (
      if arg o .token < 96 && (bankGet [] s.tokens (g / 96)).length < s.dieQuota (g / 96) &&
          (bankGet [] s.tokens (g / 96)).all (fun e => e.1 ≠ arg o .token % s.dieQuota (g / 96)) &&
          !rivals.any (s.rivalToken g (s.dieQuota (g / 96)) (arg o .token)) then
        { s.setCore g { s.core g with token := some (o.id, arg o .token % s.dieQuota (g / 96)) } with
          tokens := bankSet [] s.tokens (g / 96) (bankGet [] s.tokens (g / 96) ++ [(arg o .token % s.dieQuota (g / 96), g, o.id)]) }
      else s) := by
  show execTokenGrant g s rivals = _
  simp only [execTokenGrant, ho]

theorem tokenGrant_rival {g h : Nat} {rivals : List Nat} {o : MacroOp} {s : State} (ho : (s.core g).wantsToken = some o) (hm : h ∈ rivals)
    (hr : s.rivalToken g (s.dieQuota (g / 96)) (arg o .token) h = true) : Completes (.tokenGrant g rivals) s (fun t => t = s) := by
  have hany : rivals.any (s.rivalToken g (s.dieQuota (g / 96)) (arg o .token)) = true := List.any_eq_true.mpr ⟨h, hm, hr⟩
  exact ⟨_, exec_tokenGrant ho, if_neg (by simp [hany])⟩

theorem tokenGrant_free {g : Nat} {rivals : List Nat} {o : MacroOp} {s : State}
    (hr : ∀ h ∈ rivals, s.rivalToken g (s.dieQuota (g / 96)) (arg o .token) h = false) (ho : (s.core g).wantsToken = some o)
    (hk : arg o .token < 96) (hl : (bankGet [] s.tokens (g / 96)).length < s.dieQuota (g / 96))
    (hf : ∀ e ∈ bankGet [] s.tokens (g / 96), e.1 ≠ arg o .token % s.dieQuota (g / 96)) :
    Completes (.tokenGrant g rivals) s (fun t => (t.core g).token = some (o.id, arg o .token % s.dieQuota (g / 96)) ∧
      bankGet [] t.tokens (g / 96) = bankGet [] s.tokens (g / 96) ++ [(arg o .token % s.dieQuota (g / 96), g, o.id)] ∧
      t = { s with cores := t.cores, tokens := t.tokens }) := by
  have hany : rivals.any (s.rivalToken g (s.dieQuota (g / 96)) (arg o .token)) = false := by simpa using hr
  have hall : (bankGet [] s.tokens (g / 96)).all (fun e => e.1 ≠ arg o .token % s.dieQuota (g / 96)) = true := by
    simpa [List.all_eq_true] using hf
  refine ⟨_, exec_tokenGrant ho, ?_⟩
  rw [if_pos (by rw [hany, hall]; simp [hk, hl])]
  exact ⟨congrArg Core.token (State.core_setCore_self ..), bankGet_bankSet_self .., rfl⟩

/-- Settles O6: the timer that runs out or has not, the budget under the cap, and a request with and without a rival. -/
theorem timeoutAndTokens : Obligations.TimeoutAndTokens :=
  ⟨fun _ _ hr ht he => holdTimeoutExpire_fault hr ht he, fun _ _ h => holdTimeoutExpire_waits h, powerTokensRecompute_budget,
    fun _ _ _ _ _ ho hm hr => tokenGrant_rival ho hm hr, fun _ _ _ _ hr ho hk hl hf => tokenGrant_free hr ho hk hl hf⟩

/-! ### The state right after reset -/

/-- A field of a name that reset does not list is at its reset value, whatever its number. -/
theorem State.fld_reset {f : Fld} (h : ∀ e ∈ State.reset.regs, e.1 % 16384 ≠ f.code % 16384) (i k : Nat) : State.reset.fld f i k = f.rst := by
  have hget (l : List (Nat × Nat)) (hl : ∀ e ∈ l, e.1 % 16384 ≠ f.code % 16384) : bankGet f.rst l (f.key i k) = f.rst := by
    induction l with
    | nil => rfl
    | cons e t ih =>
      rw [List.forall_mem_cons] at hl
      rw [bankGet, if_neg (fun he => hl.1 (by rw [he, Fld.key_name]))]
      exact ih hl.2
  exact hget _ h

theorem State.sync_reset (g c : Nat) : State.reset.fld .SYNC_GIVEN g c = 0 ∧ State.reset.fld .SYNC_TAKEN g c = 0 :=
  ⟨State.fld_reset (by decide) g c, State.fld_reset (by decide) g c⟩

/-- Every partition is IDLE with nothing held (01 R29). -/
theorem State.part_reset (p : Nat) : State.reset.pstate p = .idle ∧ (State.reset.part p).holds = [] ∧ State.reset.planTick p = 0 ∧
    State.reset.fld .PLAN_ERROR_CODE p = 0 := by
  have hstate : State.reset.fld .PLAN_STATUS_STATE p = 0 := State.fld_reset (by decide) p 0
  have hlo : State.reset.fld .PLAN_TICK_LO p = 0 := State.fld_reset (by decide) p 0
  have hhi : State.reset.fld .PLAN_TICK_HI p = 0 := State.fld_reset (by decide) p 0
  exact ⟨by rw [State.pstate, hstate]; rfl, rfl, by rw [State.planTick, State.fld64, hlo, hhi, Nat.zero_mul], State.fld_reset (by decide) p 0⟩

/-- Partition 0 alone owns quads and ports (02 Table 2.11). -/
theorem State.owned_reset : ∀ p < 16, 1 ≤ p → State.reset.fld .ARM_PART_QUADS p = 0 ∧ State.reset.fld .ARM_PART_PORTS p = 0 := by decide

/-- Settles O59: the named registers of reset, then each family of them for every partition, port and core. -/
theorem resetState : Obligations.ResetState :=
  ⟨rfl, rfl, rfl, rfl, rfl, rfl, rfl, rfl, rfl, rfl, rfl, rfl, fun p _ => State.part_reset p, fun p h1 h16 => State.owned_reset p h16 h1,
    fun n _ => State.fld_reset (by decide) n 0, State.sync_reset, fun _ _ => rfl, fun _ => rfl, rfl, rfl, rfl⟩

end Sys2Proof.Machine
end


section
/-! PROOFS. Starting a partition at tick 0 (01 R17, R18, R39): what the grant of tick 0 sets up, and that nothing which follows in the same step
(traces, barrier arrivals, waiting packets, late holds) undoes it. Packets that wait are tried again, and one of another partition's core can
put that partition in FAULT; the started partition's own cores have no transfer left that could fail. -/
namespace Sys2Proof.Machine
open Sys2Proof

theorem bankGet_of_forall_ne {α : Type} (d : α) {b : List (Nat × α)} {k : Nat} (h : ∀ e ∈ b, e.1 ≠ k) : bankGet d b k = d := by
  induction b with
  | nil => rfl
  | cons e t ih =>
    rw [List.forall_mem_cons] at h
    rw [bankGet, if_neg h.1, ih h.2]

/-- The part of a core's plan is that of its die (02 R54), whatever else changes. -/
theorem State.corePart_congr {s t : State} (h : ∀ q, t.fld .ARM_QUAD_PARTITION q = s.fld .ARM_QUAD_PARTITION q) (g : Nat) :
    t.corePart g = s.corePart g := h _

/-! ### A partition at tick 0 -/

/-- The fields of a partition at tick 0, with their values: it runs, tick 0 is in progress, nothing has been held. -/
def tickZeroVals : List (Fld × Nat) :=
  [(.PLAN_STATUS_STATE, 3), (.PLAN_TICK_LO, 0), (.PLAN_TICK_HI, 0), (.HOLD_COUNT, 0), (.HOLD_TIME_LO, 0), (.HOLD_TIME_HI, 0)]

/-- A field whose write can neither move a partition from tick 0 nor a core to another partition. -/
def apartFromTickZero (f : Fld) : Bool :=
  (Fld.ARM_QUAD_PARTITION :: tickZeroVals.map Prod.fst).all (fun n => n.code % 16384 ≠ f.code % 16384)

/-- Partition p runs in tick 0 with no tick complete, the memories hold m, and its cores have no transfers. -/
structure AtTickZero (p : Nat) (m : Memory) (s : State) : Prop where
  vals : ∀ e ∈ tickZeroVals, s.fld e.1 p = e.2
  completed : (s.part p).completed = 0
  mem : s.mem = m
  xfers : ∀ g, s.corePart g = p → (s.core g).xfers = []

namespace AtTickZero
variable {p : Nat} {m : Memory} {s t : State}

/-- An operation that writes only register fields apart from those of tick 0. -/
theorem kept {fs : List Fld} (h : AtTickZero p m s) (k : KeptBut s t fs) (hf : fs.all apartFromTickZero = true) : AtTickZero p m t := by
  have apart {n : Fld} (hn : n ∈ Fld.ARM_QUAD_PARTITION :: tickZeroVals.map Prod.fst) : ∀ f ∈ fs, n.code % 16384 ≠ f.code % 16384 :=
    fun f hm => by simpa using List.all_eq_true.mp (List.all_eq_true.mp hf f hm) n hn
  refine ⟨fun e he => ?_, by rw [k.part, h.completed], k.mem.trans h.mem, fun g hg => ?_⟩
  · rw [k.fld _ _ _ (apart (List.mem_cons_of_mem _ (List.mem_map_of_mem he))), h.vals e he]
  · rw [k.core]
    exact h.xfers g ((State.corePart_congr (fun q => k.fld _ _ _ (apart (List.mem_cons_self ..))) g).symm.trans hg)

theorem same (h : AtTickZero p m s) (hr : t.regs = s.regs) (hp : t.parts = s.parts) (hc : t.cores = s.cores) (hm : t.mem = s.mem) :
    AtTickZero p m t := h.kept (fs := []) (.of_eq hr hp hc hm) rfl

theorem setFld (h : AtTickZero p m s) {f : Fld} (hf : apartFromTickZero f = true) (v i k : Nat) : AtTickZero p m (s.setFld f v i k) :=
  h.kept (fs := [f]) ((KeptBut.refl s _).setFld (List.mem_singleton_self f) v i k) (by simp [hf])

theorem addFld (h : AtTickZero p m s) {f : Fld} (hf : apartFromTickZero f = true) (n i k : Nat) : AtTickZero p m (s.addFld f n i k) :=
  h.setFld hf _ i k

theorem setPart (h : AtTickZero p m s) {q : Nat} {x : Part} (hx : q = p → x.completed = 0) : AtTickZero p m (s.setPart q x) := by
  refine ⟨h.vals, ?_, h.mem, h.xfers⟩
  by_cases hq : p = q
  · subst hq
    rw [State.part_setPart_self]
    exact hx rfl
  · rw [State.part_setPart_ne _ _ hq, h.completed]

/-- A partition's record rewritten with as many ticks complete. -/
theorem setPart_same (h : AtTickZero p m s) {q : Nat} {x : Part} (hx : x.completed = (s.part q).completed) : AtTickZero p m (s.setPart q x) :=
  h.setPart (fun hq => by rw [hx, hq, h.completed])

theorem setCore (h : AtTickZero p m s) {g : Nat} {c : Core} (hc : s.corePart g = p → c.xfers = []) : AtTickZero p m (s.setCore g c) := by
  refine ⟨h.vals, h.completed, h.mem, fun k hk => ?_⟩
  by_cases hg : k = g
  · subst hg
    rw [State.core_setCore_self]
    exact hc hk
  · rw [State.core_setCore_ne _ _ hg]
    exact h.xfers k hk

/-- A core's record rewritten with the same transfers. -/
theorem setCore_same (h : AtTickZero p m s) {g : Nat} {c : Core} (hc : c.xfers = (s.core g).xfers) : AtTickZero p m (s.setCore g c) :=
  h.setCore (fun hg => hc.trans (h.xfers g hg))

/-- Another partition is put in a state. -/
theorem setPState_ne (h : AtTickZero p m s) {q : Nat} (hq : q ≠ p) (st : PState) : AtTickZero p m (s.setPState q st) := by
  have hs : AtTickZero p m (s.setFld .PLAN_STATUS_STATE st.code q) :=
    ⟨fun e he => (State.fld_setFld_ne s _ (.inr (.inl (Ne.symm hq)))).trans (h.vals e he), h.completed, h.mem,
      fun g hg => h.xfers g ((State.corePart_congr (fun _ => State.fld_setFld_name s (by decide) ..) g).symm.trans hg)⟩
  exact hs.setFld (f := .PLAN_PART_RUN) (by decide) _ 0 0

theorem progress (h : AtTickZero p m s) (q : Nat) : AtTickZero p m (s.progress q) := h.setPart_same rfl

theorem ite {c : Prop} [Decidable c] (h : AtTickZero p m s) (k : AtTickZero p m t) : AtTickZero p m (if c then s else t) := by
  split
  · exact h
  · exact k

theorem foldl {β : Type} {f : State → β → State} (hf : ∀ s b, AtTickZero p m s → AtTickZero p m (f s b)) (l : List β) {s : State}
    (h : AtTickZero p m s) : AtTickZero p m (l.foldl f s) := by
  induction l generalizing s with
  | nil => exact h
  | cons b l ih => exact ih (hf s b h)

theorem trace (h : AtTickZero p m s) (g kind value : Nat) : AtTickZero p m (s.trace g kind value) := by
  rcases s.trace_cases g kind value with ht | ht | ⟨l, ht⟩ <;> rw [ht]
  · exact h
  · exact (h.setCore_same (c := { s.core g with traceLost := (s.core g).traceLost + 1 }) rfl).addFld (f := .OBS_TRACE_LOST) (by decide) 1 _ 0
  · exact (h.same (t := s.draw.2) rfl rfl rfl rfl).setCore_same (c := { s.core g with trace := l }) rfl

end AtTickZero

/-! ### Packets that wait are tried again -/

/-- The fields that a core's error can write (03 R90). -/
def coreErrorFlds : List Fld :=
  [.CORE_ERROR_CODE, .CORE_ERROR_MULTI, .MGMT_STATUS_ALERT, .MGMT_EVENTS_LOST, .CORE_ERROR_TAG, .DIE_ERROR_CORE_CORE, .DIE_ERROR_CORE_VALID]

theorem KeptBut.coreError (s : State) (g code tag : Nat) : KeptBut s (s.coreError g code tag) coreErrorFlds := by
  have h0 : KeptBut s (s.recordFirst .CORE_ERROR_CODE .CORE_ERROR_MULTI code g) coreErrorFlds := (KeptBut.recordFirst ..).mono (by decide)
  have h1 := KeptBut.ite (c := s.fld .CORE_ERROR_CODE g = 0) (h0.setFld (f := .CORE_ERROR_TAG) (by decide) tag g 0) h0
  unfold State.coreError
  simp only [decide_eq_true_eq]
  exact .ite ((h1.setFld (f := .DIE_ERROR_CORE_CORE) (by decide) _ _ _).setFld (f := .DIE_ERROR_CORE_VALID) (by decide) _ _ _) h1

/-- The fields that a routing error can write (09 R308). -/
def routeErrorFlds : List Fld := [.ROUTE_ERROR_CODE, .ROUTE_ERROR_MULTI, .MGMT_STATUS_ALERT, .MGMT_EVENTS_LOST, .ROUTE_ERROR_INFO_JOB_TAG,
  .ROUTE_ERROR_INFO_PORT, .ROUTE_ERROR_INFO_VALID]

theorem KeptBut.routeError (s : State) (code tag n : Nat) : KeptBut s (s.routeError code tag n) routeErrorFlds := by
  have h0 : KeptBut s (s.recordFirst .ROUTE_ERROR_CODE .ROUTE_ERROR_MULTI code) routeErrorFlds := (KeptBut.recordFirst ..).mono (by decide)
  exact .ite h0 (((h0.setFld (f := .ROUTE_ERROR_INFO_JOB_TAG) (by decide) _ _ _).setFld (f := .ROUTE_ERROR_INFO_PORT) (by decide) _ _ _).setFld
    (f := .ROUTE_ERROR_INFO_VALID) (by decide) _ _ _)

theorem KeptBut.inject (s : State) (p : Nat) (k : Pkt) : KeptBut s (s.inject p k) [] := by
  unfold State.inject
  split
  · exact .ite (.of_eq rfl rfl rfl rfl) (.of_eq rfl rfl rfl rfl)
  · exact .refl s _

/-- A barrier's tally of the next round becomes that of the current one. -/
def State.tallyMoved (s : State) (cur next : Fld) (b : Nat) : State := (s.setFld cur (s.fld next b) b).setFld next 0 b

/-- A new round begins: the tallies and the members' flags move up (06 R206). -/
def State.roundMoved (s : State) (p i : Nat) : State :=
  let b := p * 32 + i
  let s := (((s.addFld .BAR_ROUND 1 b).progress p).tallyMoved .BAR_LOCAL_CUR .BAR_LOCAL_NEXT b).tallyMoved .BAR_HOME_CUR .BAR_HOME_NEXT b
  { s with barFlags := bankSet 0 s.barFlags b (bankGet 0 s.barFlags b / 2) }

/-- A release: the round moves on, waiting cores go on, and a device without members arrives for the round that follows. -/
theorem State.applyRelease_eq (s : State) (p i : Nat) : s.applyRelease p i =
    let t := ((s.roundMoved p i).partCores p).foldl (fun s e => s.releaseCore p i e.1) (s.roundMoved p i)
    if t.barInRange p i && t.localCount p i = 0 then t.deviceArrival p i ((t.fld .BAR_ROUND (p * 32 + i) + 1) % 2 ^ 32) false else t := rfl

namespace AtTickZero
variable {p : Nat} {m : Memory} {s : State}

theorem faultActions_ne (h : AtTickZero p m s) {q : Nat} (hq : q ≠ p) (code : Nat) : AtTickZero p m (s.faultActions q code) := by
  rw [State.faultActions_eq]
  have hrec := h.kept (KeptBut.faultRecorded s q code) (by decide)
  exact ((hrec.setPState_ne hq .fault).setPart (fun e => absurd e hq)).kept (KeptBut.faultShown _ q) (by decide)

theorem enterFault_ne (h : AtTickZero p m s) {q : Nat} (hq : q ≠ p) (code : Nat) : AtTickZero p m (s.enterFault q code) := by
  unfold State.enterFault
  split
  · exact h.kept (KeptBut.planError s q code) (by decide)
  · exact .ite (h.faultActions_ne hq code) h

/-- The transfer that fails is of a core of another partition, since the cores of p have none. -/
theorem failXfer (h : AtTickZero p m s) {g : Nat} {x : Xfer} (hx : x ∈ (s.core g).xfers) (code : Nat) : AtTickZero p m (s.failXfer g x code) := by
  have hg : s.corePart g ≠ p := fun hg => by rw [h.xfers g hg] at hx; cases hx
  have ended {u : State} (hu : AtTickZero p m u) (hc : u.corePart g = s.corePart g) : AtTickZero p m (u.coreFault g code x.tag) :=
    (hu.kept (KeptBut.coreError u g code x.tag) (by decide)).enterFault_ne (hc ▸ hg) code
  unfold State.failXfer
  dsimp only
  generalize hu : s.setCore g _ = u
  have hz : AtTickZero p m u := hu ▸ h.setCore (fun hp => absurd hp hg)
  have hc : u.corePart g = s.corePart g := by subst hu; rfl
  split
  · exact ended ((hz.progress _).trace g 2 x.tag) ((State.corePart_congr (fun q => State.fld_trace _ _ _ _ (by decide) (by decide) q 0) g).trans hc)
  · exact ended hz hc

theorem unsent (h : AtTickZero p m s) (k : Pkt) (code : Nat) : AtTickZero p m (s.unsent k code) := by
  unfold State.unsent
  split
  · rename_i hx
    exact h.failXfer (List.mem_of_find?_eq_some hx) code
  · exact .ite (h.kept (KeptBut.routeError s code k.tag 0) (by decide)) h

theorem sendOrWait (h : AtTickZero p m s) (q : Nat) (k : Pkt) : AtTickZero p m (s.sendOrWait q k) := by
  unfold State.sendOrWait
  exact .ite (h.same rfl rfl rfl rfl) (.ite (h.kept (KeptBut.inject s q k) (by decide)) (h.unsent k _))

theorem flush (h : AtTickZero p m s) : AtTickZero p m s.flush :=
  .foldl (fun _ e hs => hs.sendOrWait e.1 e.2) _ (h.same rfl rfl rfl rfl)

/-! ### Barrier arrivals -/

theorem queueOut (h : AtTickZero p m s) (q : Nat) (k : Pkt) : AtTickZero p m (s.queueOut q k) := h.same rfl rfl rfl rfl

theorem homeCount (h : AtTickZero p m s) (q i round : Nat) (member : Bool) : AtTickZero p m (s.homeCount q i round member) := by
  have flagged (b : List (Nat × Nat)) : AtTickZero p m { s with barFlags := b } := h.same rfl rfl rfl rfl
  exact .ite (((flagged _).addFld (f := .BAR_HOME_CUR) (by decide) 1 _ 0).progress q)
    (.ite (((flagged _).addFld (f := .BAR_HOME_NEXT) (by decide) 1 _ 0).progress q) (h.addFld (f := .BAR_DROP) (by decide) 1 _ 0))

theorem deviceArrival (h : AtTickZero p m s) (q i round : Nat) (member : Bool) : AtTickZero p m (s.deviceArrival q i round member) :=
  .ite (h.homeCount q i round member) (.ite h (h.queueOut q _))

theorem acceptArrival (h : AtTickZero p m s) (q i g n : Nat) : AtTickZero p m (s.acceptArrival q i g n) := by
  have h0 := (h.setFld (f := .BAR_ARRIVED) (by decide) n g i).progress q
  have h1 (next : Bool) {u : State} (hu : AtTickZero p m u) :
      AtTickZero p m (if next then u.addFld .BAR_LOCAL_NEXT 1 (q * 32 + i) else u.addFld .BAR_LOCAL_CUR 1 (q * 32 + i)) :=
    .ite (hu.addFld (f := .BAR_LOCAL_NEXT) (by decide) _ _ _) (hu.addFld (f := .BAR_LOCAL_CUR) (by decide) _ _ _)
  exact .ite ((h1 _ h0).deviceArrival q i n true) (h1 _ h0)

theorem releaseCore (h : AtTickZero p m s) (q i g : Nat) : AtTickZero p m (s.releaseCore q i g) := by
  unfold State.releaseCore
  split
  · rename_i n stalled _
    refine .ite h (.ite (.ite ?_ h) (.ite (h.setCore_same rfl) h))
    have ha := h.acceptArrival q i g n
    dsimp only
    split
    · exact .ite (ha.setCore_same rfl) (ha.setCore_same rfl)
    · exact ha.setCore_same rfl
  · exact h

theorem roundMoved (h : AtTickZero p m s) (q i : Nat) : AtTickZero p m (s.roundMoved q i) := by
  have moved {u : State} (hu : AtTickZero p m u) {cur next : Fld} (hc : apartFromTickZero cur = true) (hn : apartFromTickZero next = true) :
      AtTickZero p m (u.tallyMoved cur next (q * 32 + i)) := (hu.setFld hc _ _ _).setFld hn _ _ _
  have counted := (h.addFld (f := .BAR_ROUND) (by decide) 1 (q * 32 + i) 0).progress q
  have tallied := moved (moved counted (cur := .BAR_LOCAL_CUR) (next := .BAR_LOCAL_NEXT) (by decide) (by decide))
    (cur := .BAR_HOME_CUR) (next := .BAR_HOME_NEXT) (by decide) (by decide)
  exact tallied.same rfl rfl rfl rfl

theorem applyRelease (h : AtTickZero p m s) (q i : Nat) : AtTickZero p m (s.applyRelease q i) := by
  have released := foldl (fun _ (e : Nat × Core) hs => hs.releaseCore q i e.1) ((s.roundMoved q i).partCores q) (h.roundMoved q i)
  rw [State.applyRelease_eq]
  exact .ite (released.deviceArrival q i _ false) released

theorem settleBarrier (n : Nat) {s : State} (h : AtTickZero p m s) (q i : Nat) : AtTickZero p m (s.settleBarrier q i n) := by
  induction n generalizing s with
  | zero => exact h
  | succ n ih =>
    unfold State.settleBarrier
    exact .ite (ih ((AtTickZero.foldl (fun _ _ hs => hs.queueOut q _) _ h).applyRelease q i)) h

theorem startBarriers (h : AtTickZero p m s) (q : Nat) : AtTickZero p m (s.startBarriers q) :=
  (AtTickZero.foldl (fun _ i hs => .ite (settleBarrier 2 (hs.deviceArrival q i 1 false) q i) hs) _ h).flush

/-! ### Late ticks -/

theorem sendHold (h : AtTickZero p m s) (q n cause : Nat) : AtTickZero p m (s.sendHold q n cause) :=
  .ite h (setPart_same (s := s.sendCtl _ _) (h.same rfl rfl rfl rfl) rfl)

theorem checkLate (h : AtTickZero p m s) (q : Nat) : AtTickZero p m (s.checkLate q) := by
  unfold State.checkLate
  refine .ite ?_ h
  split
  · exact h
  · exact .foldl (fun s _ hs => hs.sendHold q _ (s.holdCause q).1) _ h

end AtTickZero

end Sys2Proof.Machine
end


section
/-! PROOFS. The grant of tick 0 (01 R18, R33, R37) and PLAN_CTRL.CLEAR (01 R33, Table 1.6; 06 R190), each cut into its parts. -/
namespace Sys2Proof.Machine
open Sys2Proof

/-! ### What the grant of tick 0 sets up -/

/-- The fields that the grant of tick 0 resets in a core (03 R81, 04 R144). -/
def startFlds : List Fld := [.CP_PC, .SCALAR_LO, .SCALAR_HI, .MACRO_COUNT_LO, .MACRO_COUNT_HI, .ARITH_FLAGS_SAT, .ARITH_FLAGS_LOW, .ARITH_FLAGS_OVF,
  .ARITH_FLAGS_UNF, .ARITH_FLAGS_NAN, .ARITH_FLAGS_INF, .ARITH_FLAGS_INVALID, .ARITH_FLAGS_DIV0, .ARITH_FLAGS_SCALE_NAN,
  .ARITH_FIRST_TAG_TAG, .ARITH_FIRST_TAG_VALID]

theorem State.fld_startCore (s : State) (g : Nat) {f : Fld} (hf : startFlds.all (fun x => x.code ≠ f.code % 16384) = true) (i k : Nat) :
    (s.startCore g).fld f i k = s.fld f i k := by
  have hany : startFlds.any (fun x => x.code = f.code % 16384) = false := by simpa using hf
  refine State.fld_dropFlds_kept (q := fun c i => i = g && startFlds.any (fun x => x.code = c)) s ?_ k
  rw [hany, Bool.and_false]

theorem State.xfers_startCore_self (s : State) (g : Nat) : ((s.startCore g).core g).xfers = [] := congrArg Core.xfers (State.core_setCore_self ..)

theorem State.core_startCore_ne (s : State) {g h : Nat} (hn : h ≠ g) : (s.startCore g).core h = s.core h := State.core_setCore_ne _ _ hn

/-- The cores of a partition are started. -/
def State.startCores (s : State) (l : List (Nat × Core)) : State := l.foldl (fun s e => s.startCore e.1) s

theorem State.fld_startCores (s : State) (l : List (Nat × Core)) {f : Fld} (hf : startFlds.all (fun x => x.code ≠ f.code % 16384) = true)
    (i k : Nat) : (s.startCores l).fld f i k = s.fld f i k :=
  foldl_keep (fun u => u.fld f i k) _ (fun u (e : Nat × Core) => u.fld_startCore e.1 hf i k) l s

theorem State.mem_startCore (s : State) (g : Nat) : (s.startCore g).mem = s.mem := rfl

theorem State.mem_startCores (s : State) (l : List (Nat × Core)) : (s.startCores l).mem = s.mem :=
  foldl_keep State.mem _ (fun u (e : Nat × Core) => u.mem_startCore e.1) l s

/-- A core that is started, or had no transfers, has none. -/
theorem State.xfers_startCores {l : List (Nat × Core)} {s : State} {g : Nat} (h : (∃ e ∈ l, e.1 = g) ∨ (s.core g).xfers = []) :
    ((s.startCores l).core g).xfers = [] := by
  induction l generalizing s with
  | nil =>
    rcases h with ⟨e, he, -⟩ | h
    · cases he
    · exact h
  | cons e t ih =>
    refine ih ?_
    by_cases he : e.1 = g
    · exact .inr (he ▸ s.xfers_startCore_self e.1)
    · rw [State.core_startCore_ne _ (Ne.symm he)]
      rcases h with ⟨d, hd, hg⟩ | h
      · rcases List.mem_cons.mp hd with rfl | hd
        · exact absurd hg he
        · exact .inl ⟨d, hd, hg⟩
      · exact .inr h

/-- No core of a partition has a transfer once its cores are started. -/
theorem State.xfers_startCores_part (s : State) {p g : Nat} (hg : s.corePart g = p) : ((s.startCores (s.partCores p)).core g).xfers = [] := by
  refine State.xfers_startCores ?_
  by_cases h : ∃ e ∈ s.cores, e.1 = g
  · obtain ⟨e, he, rfl⟩ := h
    exact .inl ⟨e, List.mem_filter.mpr ⟨he, by simpa using hg⟩, rfl⟩
  · have hn : ∀ e ∈ s.cores, e.1 ≠ g := fun e he hg => h ⟨e, he, hg⟩
    exact .inr (by rw [State.core, bankGet_of_forall_ne _ hn])

/-- The partition runs, its hold table and the counts of what it was held for are empty. -/
def State.startCleared (s : State) (p : Nat) : State :=
  ((((s.setPState p .running).clearHolds p).setFld64 .HOLD_TIME_LO .HOLD_TIME_HI 0 p).setFld .HOLD_COUNT 0 p).emptyOwners p none

/-- The partition's record and its serving state as the grant of tick 0 leaves them. -/
def State.startServing (s : State) (p : Nat) : State :=
  let s := s.setPart p { s.part p with completed := 0, poolPending := [], layerAt := [], denied := false, abortAt := 0 }
  let s := if s.flag .SRV_CFG_ADMIT p && s.fld .EXCHANGE_PORTS p ≠ 0 then s.setFld .SRV_STATUS_MODE_FORCED 1 p else s
  s.setFld64 .SRV_TOKENS_LO .SRV_TOKENS_HI 0 p

@[simp] theorem State.fld_emptyOwners (s : State) (p : Nat) (parity : Option Nat) (f : Fld) (i k : Nat) :
    (s.emptyOwners p parity).fld f i k = s.fld f i k := rfl

/-- The grant of tick 0 up to the grant itself. -/
def State.started (s : State) (p : Nat) : State := ((s.startCleared p).startCores ((s.startCleared p).partCores p)).startServing p

theorem State.grantZero_eq (s : State) (p : Nat) : s.grantZero p = (((s.started p).grant p 0).startBarriers p).checkLate p := rfl

/-- Fields that neither the cores nor the serving state have. -/
def apartFromStart (f : Fld) : Bool :=
  startFlds.all (fun x => x.code ≠ f.code % 16384) &&
    [Fld.SRV_STATUS_MODE_FORCED, .SRV_TOKENS_LO, .SRV_TOKENS_HI].all (fun x => f.code % 16384 ≠ x.code % 16384)

theorem State.fld_startServing (s : State) (p : Nat) {f : Fld}
    (hf : [Fld.SRV_STATUS_MODE_FORCED, .SRV_TOKENS_LO, .SRV_TOKENS_HI].all (fun x => f.code % 16384 ≠ x.code % 16384) = true) (i k : Nat) :
    (s.startServing p).fld f i k = s.fld f i k := by
  simp only [List.all_cons, List.all_nil, Bool.and_true, Bool.and_eq_true, decide_eq_true_eq] at hf
  obtain ⟨hforced, hlo, hhi⟩ := hf
  rw [State.startServing, State.fld_setFld64_name _ hlo hhi]
  split
  · rw [State.fld_setFld_name _ hforced]
    rfl
  · rfl

theorem State.fld_started (s : State) (p : Nat) {f : Fld} (hf : apartFromStart f = true) (i k : Nat) :
    (s.started p).fld f i k = (s.startCleared p).fld f i k := by
  rw [apartFromStart, Bool.and_eq_true] at hf
  rw [State.started, State.fld_startServing _ _ hf.2, State.fld_startCores _ _ hf.1]

theorem State.startServing_keeps (s : State) (p : Nat) : ((s.startServing p).part p).completed = 0 ∧ (s.startServing p).mem = s.mem ∧
    (s.startServing p).cores = s.cores := by
  generalize hu : s.setPart p { s.part p with completed := 0, poolPending := [], layerAt := [], denied := false, abortAt := 0 } = u
  have h0 : (u.part p).completed = 0 ∧ u.mem = s.mem ∧ u.cores = s.cores := by
    subst hu
    exact ⟨by rw [State.part_setPart_self], rfl, rfl⟩
  unfold State.startServing
  rw [hu]
  dsimp only
  split
  · exact h0
  · exact h0

/-- What the fields of tick 0 hold before the tick itself is granted. -/
theorem State.vals_startCleared (s : State) (p : Nat) : (s.startCleared p).fld .PLAN_STATUS_STATE p = 3 ∧ (s.startCleared p).fld .HOLD_COUNT p = 0 ∧
    (s.startCleared p).fld .HOLD_TIME_LO p = 0 ∧ (s.startCleared p).fld .HOLD_TIME_HI p = 0 := by
  refine ⟨?_, ?_, ?_, ?_⟩ <;> simp only [State.startCleared, State.fld_emptyOwners]
  · rw [State.fld_setFld_name _ (by decide), State.fld_setFld64_name _ (by decide) (by decide), State.fld_clearHolds, State.setPState,
      State.setBit, State.fld_setFld_name _ (by decide), State.fld_setFld_self]
    rfl
  · rw [State.fld_setFld_self, Nat.zero_mod]
  · rw [State.fld_setFld_name _ (by decide), State.fld_setFld64_lo _ (by decide), Nat.zero_mod]
  · rw [State.fld_setFld_name _ (by decide), State.fld_setFld64_hi, Nat.zero_div, Nat.zero_mod]

/-- With tick 0 noted, the partition is at tick 0. -/
theorem AtTickZero.grantNoted_started (s : State) (p : Nat) : AtTickZero p s.mem ((s.started p).grantNoted p 0) := by
  obtain ⟨hcompleted, hmem, hcores⟩ := ((s.startCleared p).startCores ((s.startCleared p).partCores p)).startServing_keeps p
  obtain ⟨hstate, hcount, hlo, hhi⟩ := s.vals_startCleared p
  obtain ⟨htlo, hthi⟩ := (s.started p).tick_grantNoted p 0
  obtain ⟨l, hl⟩ := (s.started p).part_grantNoted p 0
  have hfld {f : Fld} (h0 : apartFromStart f = true) (h1 : f.code % 16384 ≠ Fld.PLAN_TICK_LO.code % 16384)
      (h2 : f.code % 16384 ≠ Fld.PLAN_TICK_HI.code % 16384) (i : Nat) : ((s.started p).grantNoted p 0).fld f i = (s.startCleared p).fld f i :=
    ((s.started p).fld_grantNoted p 0 h1 h2 i 0).trans (s.fld_started p h0 i 0)
  refine ⟨?_, by rw [hl]; exact hcompleted, hmem.trans (State.mem_startCores ..), fun g hg => ?_⟩
  · simp only [tickZeroVals, List.forall_mem_cons, List.not_mem_nil, false_imp_iff, implies_true, and_true]
    exact ⟨(hfld (by decide) (by decide) (by decide) p).trans hstate, htlo, hthi,
      (hfld (by decide) (by decide) (by decide) p).trans hcount, (hfld (by decide) (by decide) (by decide) p).trans hlo,
      (hfld (by decide) (by decide) (by decide) p).trans hhi⟩
  · have hpart : (s.startCleared p).corePart g = p := (State.corePart_congr (fun q => hfld (by decide) (by decide) (by decide) q) g).symm.trans hg
    have hcore : ((s.started p).grantNoted p 0).core g = ((s.startCleared p).startCores ((s.startCleared p).partCores p)).core g :=
      congrArg (fun b => bankGet ({} : Core) b g) hcores
    rw [hcore]
    exact State.xfers_startCores_part _ hpart

/-- The grant of tick 0 leaves the partition at tick 0 (01 R18). -/
theorem AtTickZero.grantZero (s : State) (p : Nat) : AtTickZero p s.mem (s.grantZero p) := by
  rw [State.grantZero_eq, State.grant_eq]
  exact (AtTickZero.startBarriers (.foldl (fun _ g h => h.trace g 5 0) _ (grantNoted_started s p)) p).checkLate p

theorem AtTickZero.started_post {p : Nat} {m : Memory} {t : State} (h : AtTickZero p m t) : t.pstate p = .running ∧ t.planTick p = 0 ∧
    t.fld .HOLD_COUNT p = 0 ∧ t.fld64 .HOLD_TIME_LO .HOLD_TIME_HI p = 0 ∧ (t.part p).completed = 0 ∧ t.mem = m := by
  have hv := h.vals
  simp only [tickZeroVals, List.forall_mem_cons, List.not_mem_nil, false_imp_iff, implies_true, and_true] at hv
  obtain ⟨hstate, hlo, hhi, hcount, htlo, hthi⟩ := hv
  exact ⟨by rw [State.pstate, hstate]; rfl, by rw [State.planTick, State.fld64, hlo, hhi, Nat.zero_mul], hcount,
    by rw [State.fld64, htlo, hthi, Nat.zero_mul], h.completed, h.mem⟩

/-! ### Starting (01 R18, R39) -/

theorem State.tryStart_live {s : State} {p : Nat} (h : ∀ n ∈ s.exchangePorts p, s.portLive n) : s.tryStart p = s.grantZero p :=
  if_pos (List.all_eq_true.mpr h)

theorem State.tryStart_down {s : State} {p n : Nat} (hn : n ∈ s.exchangePorts p) (hd : s.portLive n = false) :
    s.tryStart p = (s.setPState p .loaded).planError p E_PLAN_PORT_DOWN :=
  if_neg (fun h => by have hl := List.all_eq_true.mp h n hn; rw [hd] at hl; cases hl)

theorem exec_planCtrlStartNow {party : Party} {p : Nat} {s : State} (ho : s.ownsPlan party = true) (hc : s.clearing p = false)
    (ha : s.applying p = false) (hl : s.pstate p = .loaded) : exec (.planCtrlStartNow party p) s = .next (s.tryStart p) := by
  show execPlanCtrlStartNow party p s = _
  simp [execPlanCtrlStartNow, ho, State.planCmd_open hc ha, hl]

theorem exec_planStartTimeReached {p : Nat} {s : State} (ha : s.pstate p = .armed) (ht : s.timeReached (s.part p).startTime = true) :
    exec (.planStartTimeReached p) s = .next (s.tryStart p) := congrArg Host.Outcome.next (if_pos (by simp [ha, ht]))

theorem planStartTimeReached_down {p n : Nat} {s : State} (ha : s.pstate p = .armed) (ht : s.timeReached (s.part p).startTime = true)
    (hn : n ∈ s.exchangePorts p) (hd : s.portLive n = false) (he : s.fld .PLAN_ERROR_CODE p = 0) :
    Completes (.planStartTimeReached p) s (fun t => t.pstate p = .loaded ∧ t.fld .PLAN_ERROR_CODE p = E_PLAN_PORT_DOWN) := by
  refine ⟨_, exec_planStartTimeReached ha ht, ?_⟩
  rw [State.tryStart_down hn hd]
  have hz : (s.setPState p .loaded).fld .PLAN_ERROR_CODE p = 0 := (State.fld_setPState_name s (by decide) (by decide) ..).trans he
  exact ⟨((KeptBut.planError _ p _).pstate (by decide) p).trans (State.pstate_setPState ..), State.fld_planError_code hz _⟩

/-! ### CLEAR -/

/-- The first part of a CLEAR: the partition is IDLE, its record, tick counter and error code are at zero (01 R33, Table 1.9). -/
def State.planCleared (s : State) (p : Nat) : State :=
  let s := (s.setPState p .idle).clearHolds p
  let s := s.setPart p { s.part p with reported := [], completed := 0, layerAt := [], noProg := 0, denied := false, faultOrigin := 0, poolPending := [] }
  (s.setFld64 .PLAN_TICK_LO .PLAN_TICK_HI 0 p).setFld .PLAN_ERROR_CODE 0 p

/-- The errors of the partition and of its cores. -/
def State.errorsCleared (s : State) (p : Nat) : State := ((s.setFld .PLAN_ERROR_MULTI 0 p).setBit .SPAD_RECOVERY p false).zeroErrors p

/-- The sync counters and barriers at zero, the first part of 06 R190. -/
def State.syncCleared (s : State) (p : Nat) : State :=
  (s.dropFlds (fun f g => [Fld.SYNC_GIVEN, .SYNC_TAKEN, .BAR_ARRIVED].any (fun x => x.code = f) && s.corePart g = p)).zeroBarriers p

theorem State.zeroSync_eq (s : State) (p : Nat) :
    s.zeroSync p = ((s.syncCleared p).partCores p).foldl (fun s e => s.endOps e.1) (s.syncCleared p) := rfl

/-- The serving state abandoned, the counts of choices at zero and a held snapshot discarded (13 R420, 19 R557, 20 R571). -/
def State.restCleared (s : State) (p : Nat) : State :=
  (((s.srvAbandon p).setFld64 .ND_EVENTS_LO .ND_EVENTS_HI 0 p).setFld .ND_FIRST_TICK 0 p).dropPlaster p

theorem State.planClear_eq (s : State) (p : Nat) : s.planClear p = (((s.planCleared p).errorsCleared p).zeroSync p).restCleared p := rfl

/-- The fields of cores that clearing the errors can write, and all that it can write. -/
def coreZeroFlds : List Fld := [.CORE_ERROR_CODE, .CORE_ERROR_MULTI, .CORE_ERROR_TAG, .SYNC_ERR_INFO_COUNTER, .SYNC_ERR_INFO_AMOUNT,
  .SYNC_ERR_INFO_BARRIER, .SYNC_ERR_INFO_IS_BARRIER, .SYNC_ERR_INFO_ARRIVED, .SYNC_ERR_INFO_VALID, .SYNC_ERR_RANK]
def errorFlds : List Fld := coreZeroFlds ++ [.PLAN_ERROR_MULTI, .SPAD_RECOVERY, .DIE_ERROR_CORE_CORE, .DIE_ERROR_CORE_VALID]

theorem KeptBut.errorsCleared (s : State) (p : Nat) : KeptBut s (s.errorsCleared p) errorFlds := by
  have plan := ((KeptBut.refl s errorFlds).setFld (f := .PLAN_ERROR_MULTI) (by decide) 0 p 0).setFld (f := .SPAD_RECOVERY) (by decide)
    (putBit ((s.setFld .PLAN_ERROR_MULTI 0 p).fld .SPAD_RECOVERY) p false) 0 0
  unfold State.errorsCleared State.zeroErrors
  refine KeptBut.dropFlds (KeptBut.dropFlds plan fun c i hc => ?_) fun c i hc => ?_
  · simp only [Bool.and_eq_true, List.any_eq_true, decide_eq_true_eq] at hc
    obtain ⟨⟨f, hf, he⟩, -⟩ := hc
    exact ⟨f, List.mem_append_left _ hf, he⟩
  · simp only [Bool.and_eq_true, Bool.or_eq_true, decide_eq_true_eq] at hc
    rcases hc.1 with he | he
    · exact ⟨.DIE_ERROR_CORE_CORE, by decide, he.symm⟩
    · exact ⟨.DIE_ERROR_CORE_VALID, by decide, he.symm⟩

/-- The fields of barriers and of sync counters. -/
def barFlds : List Fld := [.BAR_ROUND, .BAR_LOCAL_CUR, .BAR_LOCAL_NEXT, .BAR_HOME_CUR, .BAR_HOME_NEXT]
def syncFlds : List Fld := [.SYNC_GIVEN, .SYNC_TAKEN, .BAR_ARRIVED]

theorem KeptBut.zeroBarriers (s : State) (p : Nat) : KeptBut s (s.zeroBarriers p) barFlds := by
  have dropped : KeptBut s (s.dropFlds (fun f i => barFlds.any (fun x => x.code = f) && i / 32 = p)) barFlds := by
    refine (KeptBut.refl s _).dropFlds fun c i hc => ?_
    simp only [Bool.and_eq_true, List.any_eq_true, decide_eq_true_eq] at hc
    exact hc.1
  exact dropped.same rfl rfl rfl rfl

theorem KeptBut.syncCleared (s : State) (p : Nat) : KeptBut s (s.syncCleared p) (syncFlds ++ barFlds) := by
  refine KeptBut.andThen ((KeptBut.refl s _).dropFlds fun c g hc => ?_) (.zeroBarriers _ p) (List.subset_append_right ..)
  simp only [Bool.and_eq_true, List.any_eq_true, decide_eq_true_eq] at hc
  obtain ⟨⟨f, hf, he⟩, -⟩ := hc
  exact ⟨f, List.mem_append_left _ hf, he⟩

/-- Ending the operations of the cores writes no register and no partition's record. -/
theorem State.zeroSync_keeps_regs (s : State) (p : Nat) : (s.zeroSync p).regs = (s.syncCleared p).regs ∧ (s.zeroSync p).parts = s.parts ∧
    (s.zeroSync p).mem = s.mem := by
  rw [State.zeroSync_eq]
  have regs (u : State) (e : Nat × Core) : (u.endOps e.1).regs = u.regs := rfl
  have parts (u : State) (e : Nat × Core) : (u.endOps e.1).parts = u.parts := rfl
  have mem (u : State) (e : Nat × Core) : (u.endOps e.1).mem = u.mem := rfl
  exact ⟨foldl_keep State.regs _ regs _ _, foldl_keep State.parts _ parts _ _, foldl_keep State.mem _ mem _ _⟩

theorem State.fld_zeroSync (s : State) (p : Nat) (f : Fld) (i k : Nat) : (s.zeroSync p).fld f i k = (s.syncCleared p).fld f i k := by
  rw [State.fld, State.fld, (s.zeroSync_keeps_regs p).1]

/-- The sync counters of the partition's cores are at zero, those of the others as they were (06 R190). -/
theorem State.fld_zeroSync_sync (s : State) {p : Nat} {f : Fld} (hf : f = .SYNC_GIVEN ∨ f = .SYNC_TAKEN) (g c : Nat) :
    (s.zeroSync p).fld f g c = if s.corePart g = p then 0 else s.fld f g c := by
  have hbar : ∀ b ∈ barFlds, f.code % 16384 ≠ b.code % 16384 := by rcases hf with rfl | rfl <;> decide
  have hname : [Fld.SYNC_GIVEN, .SYNC_TAKEN, .BAR_ARRIVED].any (fun x => x.code = f.code % 16384) = true := by
    rcases hf with rfl | rfl <;> decide
  have hrst : f.rst = 0 := by rcases hf with rfl | rfl <;> rfl
  rw [State.fld_zeroSync, State.syncCleared, (KeptBut.zeroBarriers _ p).fld _ _ _ hbar]
  split
  · rename_i hg
    rw [State.fld_dropFlds_dropped _ (by simp only [hname, hg]; rfl), hrst]
  · rename_i hg
    rw [State.fld_dropFlds_kept _ (by simp [hg])]

/-- The fields that the rest of a CLEAR can write. -/
def restFlds : List Fld := [.SRV_BUILT_TICK_LO, .SRV_BUILT_TICK_HI, .ND_EVENTS_LO, .ND_EVENTS_HI, .ND_FIRST_TICK, .OBS_PART_STATUS_PLASTER_HELD,
  .OBS_PART_STATUS_PLASTER_SENDING]

theorem KeptBut.restCleared (s : State) (p : Nat) : KeptBut s (s.restCleared p) restFlds := by
  have abandoned : KeptBut s (s.srvAbandon p) restFlds := by
    unfold State.srvAbandon
    dsimp only
    generalize hu : s.setSrv p _ = u
    have h0 : KeptBut s u restFlds := by subst hu; exact .of_eq rfl rfl rfl rfl
    exact h0.setFld64 (by decide) (by decide) 0 p 0
  have counts := (abandoned.setFld64 (lo := .ND_EVENTS_LO) (hi := .ND_EVENTS_HI) (by decide) (by decide) 0 p 0).setFld (f := .ND_FIRST_TICK)
    (by decide) 0 p 0
  have dropped {u : State} (hu : KeptBut s u restFlds) : KeptBut s (u.dropPlaster p) restFlds := by
    unfold State.dropPlaster
    dsimp only
    generalize hv : State.setHub _ p _ = v
    have h0 : KeptBut s v restFlds := by subst hv; exact hu.same rfl rfl rfl rfl
    exact (h0.setFld (f := .OBS_PART_STATUS_PLASTER_HELD) (by decide) 0 p 0).setFld (f := .OBS_PART_STATUS_PLASTER_SENDING) (by decide) 0 p 0
  exact dropped counts

/-- A field that a CLEAR does not write after its first part. -/
theorem State.fld_planClear (s : State) (p : Nat) {f : Fld} (he : ∀ x ∈ errorFlds, f.code % 16384 ≠ x.code % 16384)
    (hs : ∀ x ∈ syncFlds ++ barFlds, f.code % 16384 ≠ x.code % 16384) (hr : ∀ x ∈ restFlds, f.code % 16384 ≠ x.code % 16384) (i k : Nat) :
    (s.planClear p).fld f i k = (s.planCleared p).fld f i k := by
  rw [State.planClear_eq, (KeptBut.restCleared _ p).fld _ _ _ hr, State.fld_zeroSync, (KeptBut.syncCleared _ p).fld _ _ _ hs,
    (KeptBut.errorsCleared _ p).fld _ _ _ he]

theorem State.planClear_keeps (s : State) (p : Nat) : (s.planClear p).parts = (s.planCleared p).parts ∧ (s.planClear p).mem = s.mem := by
  obtain ⟨-, hparts, hmem⟩ := ((s.planCleared p).errorsCleared p).zeroSync_keeps_regs p
  have he := KeptBut.errorsCleared (s.planCleared p) p
  have hr := KeptBut.restCleared (((s.planCleared p).errorsCleared p).zeroSync p) p
  rw [State.planClear_eq]
  exact ⟨hr.parts.trans (hparts.trans he.parts), hr.mem.trans (hmem.trans he.mem)⟩

theorem State.part_planCleared (s : State) (p : Nat) :
    ((s.planCleared p).part p).holds = [] ∧ ((s.planCleared p).part p).reported = [] := by
  rw [State.planCleared, State.part_setFld, State.setFld64, State.part_setFld, State.part_setFld, State.part_setPart_self, State.part_clearHolds]
  exact ⟨rfl, rfl⟩

theorem State.vals_planCleared (s : State) (p : Nat) :
    (s.planCleared p).pstate p = .idle ∧ (s.planCleared p).planTick p = 0 ∧ (s.planCleared p).fld .PLAN_ERROR_CODE p = 0 := by
  refine ⟨?_, ?_, ?_⟩ <;> unfold State.planCleared
  · rw [State.pstate, State.fld_setFld_name _ (by decide), State.fld_setFld64_name _ (by decide) (by decide), State.fld_setPart,
      State.fld_clearHolds, ← State.pstate, State.pstate_setPState]
  · rw [State.planTick, State.fld64, State.fld_setFld_name _ (by decide), State.fld_setFld_name _ (by decide), State.fld_setFld64_lo _ (by decide),
      State.fld_setFld64_hi, Nat.zero_div, Nat.zero_mod, Nat.zero_mod, Nat.zero_mul]
  · rw [State.fld_setFld_self, Nat.zero_mod]

/-- A CLEAR leaves the fields of other names than the first part's as they were before it. -/
theorem State.fld_planCleared (s : State) (p : Nat) {f : Fld} (hf : [Fld.PLAN_STATUS_STATE, .PLAN_PART_RUN, .PLAN_TICK_LO, .PLAN_TICK_HI,
    .PLAN_ERROR_CODE].all (fun x => f.code % 16384 ≠ x.code % 16384) = true) (i k : Nat) : (s.planCleared p).fld f i k = s.fld f i k := by
  simp only [List.all_cons, List.all_nil, Bool.and_true, Bool.and_eq_true, decide_eq_true_eq] at hf
  obtain ⟨hstate, hrun, hlo, hhi, hcode⟩ := hf
  exact (State.fld_setFld_name _ hcode ..).trans ((State.fld_setFld64_name _ hlo hhi ..).trans (State.fld_setPState_name s hstate hrun ..))

theorem State.fld_planClear_sync (s : State) {p : Nat} {f : Fld} (hf : f = .SYNC_GIVEN ∨ f = .SYNC_TAKEN) (g c : Nat) :
    (s.planClear p).fld f g c = if s.corePart g = p then 0 else s.fld f g c := by
  have hrest : ∀ x ∈ restFlds, f.code % 16384 ≠ x.code % 16384 := by rcases hf with rfl | rfl <;> decide
  have herr : ∀ x ∈ errorFlds, f.code % 16384 ≠ x.code % 16384 := by rcases hf with rfl | rfl <;> decide
  have hplan : (s.planCleared p).fld f g c = s.fld f g c := State.fld_planCleared s p (by rcases hf with rfl | rfl <;> decide) g c
  have hpart : ((s.planCleared p).errorsCleared p).corePart g = s.corePart g :=
    State.corePart_congr (fun q => ((KeptBut.errorsCleared _ p).fld _ _ _ (by decide)).trans (State.fld_planCleared s p (by decide) q 0)) g
  rw [State.planClear_eq, (KeptBut.restCleared _ p).fld _ _ _ hrest, State.fld_zeroSync_sync _ hf, hpart,
    (KeptBut.errorsCleared _ p).fld _ _ _ herr, hplan]

theorem exec_planCtrlClear {p : Nat} {s : State} (hc : s.clearing p = false) (ha : s.applying p = false)
    (hs : s.pstate p = .stopped ∨ s.pstate p = .fault) : exec (.planCtrlClear p) s = .next (s.planClear p) := by
  show execPlanCtrlClear p s = _
  rw [execPlanCtrlClear, State.planCmd_open hc ha, if_pos (by simpa using hs)]

theorem planCtrlClear_idle {p : Nat} {s : State} (hc : s.clearing p = false) (ha : s.applying p = false)
    (hs : s.pstate p = .stopped ∨ s.pstate p = .fault) :
    Completes (.planCtrlClear p) s (fun t => t.pstate p = .idle ∧ (t.part p).holds = [] ∧ (t.part p).reported = [] ∧ t.planTick p = 0 ∧
      t.fld .PLAN_ERROR_CODE p = 0 ∧ t.mem = s.mem ∧ (∀ g c, s.corePart g = p → t.fld .SYNC_GIVEN g c = 0 ∧ t.fld .SYNC_TAKEN g c = 0) ∧
      (∀ g c, s.corePart g ≠ p → t.fld .SYNC_GIVEN g c = s.fld .SYNC_GIVEN g c ∧ t.fld .SYNC_TAKEN g c = s.fld .SYNC_TAKEN g c)) := by
  obtain ⟨hparts, hmem⟩ := s.planClear_keeps p
  have hpart : (s.planClear p).part p = (s.planCleared p).part p := congrArg (fun b => bankGet ({} : Part) b p) hparts
  obtain ⟨hholds, hreported⟩ := s.part_planCleared p
  obtain ⟨hstate, htick, hcode⟩ := s.vals_planCleared p
  refine ⟨_, exec_planCtrlClear hc ha hs, ?_, by rw [hpart, hholds], by rw [hpart, hreported], ?_, ?_, hmem, fun g c hg => ?_,
    fun g c hg => ?_⟩
  · rw [State.pstate, State.fld_planClear _ _ (by decide) (by decide) (by decide), ← State.pstate, hstate]
  · rw [State.planTick, State.fld64, State.fld_planClear _ _ (by decide) (by decide) (by decide),
      State.fld_planClear _ _ (by decide) (by decide) (by decide)]
    exact htick
  · rw [State.fld_planClear _ _ (by decide) (by decide) (by decide), hcode]
  · rw [State.fld_planClear_sync s (.inl rfl), State.fld_planClear_sync s (.inr rfl), if_pos hg]
    exact ⟨rfl, if_pos hg⟩
  · rw [State.fld_planClear_sync s (.inl rfl), State.fld_planClear_sync s (.inr rfl), if_neg hg]
    exact ⟨rfl, if_neg hg⟩

/-- Settles O2: tick 0 is granted or refused with the ports, and CLEAR leaves the partition IDLE. -/
theorem planStartAndClear : Obligations.PlanStartAndClear := by
  have start {p : Nat} {s : State} (h : ∀ n ∈ s.exchangePorts p, s.portLive n) := State.tryStart_live h ▸ (AtTickZero.grantZero s p).started_post
  exact ⟨fun _ _ _ ho hc ha hl hp => ⟨_, exec_planCtrlStartNow ho hc ha hl, start hp⟩,
    fun _ _ ha ht hp => ⟨_, exec_planStartTimeReached ha ht, start hp⟩,
    fun _ _ _ ha ht hn hd he => planStartTimeReached_down ha ht hn hd he, fun _ _ hc ha hs => planCtrlClear_idle hc ha hs⟩

end Sys2Proof.Machine
end


section
/-! PROOFS. What the shared operations leave of the Armature loader and of its registers (02 Table 2.11): errors, interrupts, entering FAULT,
and the packets that are tried again when the fabric ports reopen. -/
namespace Sys2Proof.Machine
open Sys2Proof

/-! ### The loader through the shared operations -/

@[simp] theorem ite_loader (c : Prop) [Decidable c] (a b : State) : (if c then a else b).loader = if c then a.loader else b.loader := apply_ite ..

@[simp] theorem State.loader_out (s : State) (o : Out) : (s.out o).loader = s.loader := rfl
@[simp] theorem State.loader_addFld (s : State) (f : Fld) (n i k : Nat) : (s.addFld f n i k).loader = s.loader := rfl

@[simp] theorem State.loader_queueEvent (s : State) (e : MgmtEvent) : (s.queueEvent e).loader = s.loader := by simp [State.queueEvent]

@[simp] theorem State.loader_recordFirst (s : State) (fc fm : Fld) (code i : Nat) : (s.recordFirst fc fm code i).loader = s.loader := by
  simp [State.recordFirst]

@[simp] theorem State.loader_recordValid (s : State) (fc fm fv : Fld) (code i : Nat) : (s.recordValid fc fm fv code i).loader = s.loader := by
  simp [State.recordValid]

@[simp] theorem State.loader_raiseVector (s : State) (v : Nat) : (s.raiseVector v).loader = s.loader := by
  unfold State.raiseVector
  dsimp only
  generalize (if v < 32 then Fld.INT_STATUS_LO else .INT_STATUS_HI) = f
  split_ifs <;> rfl

@[simp] theorem State.loader_assertFaultN (s : State) : s.assertFaultN.loader = s.loader := by simp [State.assertFaultN]

@[simp] theorem State.loader_planError (s : State) (p code : Nat) : (s.planError p code).loader = s.loader := State.loader_recordFirst ..

theorem State.loader_sendRec (s : State) (p : Nat) (r : ObsRec) : (s.sendRec p r).loader = s.loader := by
  unfold State.sendRec
  split <;> rfl

theorem State.loader_counterValue (s : State) (bank : List (Nat × Nat)) (p id sub inst : Nat) :
    (s.counterValue bank p id sub inst).1.loader = s.loader := by
  unfold State.counterValue
  split
  · rfl
  · split <;> rfl

theorem State.loader_counterEntries (s : State) (p : Nat) (l : List (Nat × Nat × Nat)) : (s.counterEntries p l).1.loader = s.loader := by
  induction l generalizing s with
  | nil => rfl
  | cons e l ih => exact (ih _).trans (State.loader_counterValue ..)

theorem State.loader_counterRecords (s : State) (p : Nat) : (s.counterRecords p).loader = s.loader := by
  unfold State.counterRecords
  split
  · rfl
  · exact (foldl_keep State.loader _ (fun u _ => u.loader_sendRec p _) _ _).trans (State.loader_counterEntries ..)

theorem State.loader_holdCounts (s : State) : s.holdCounts.loader = s.loader :=
  (State.loader_addFld ..).trans ((State.setFld_loader ..).trans ((State.setFld_loader ..).trans (State.setFld_loader ..)))

@[simp] theorem State.loader_takeStarch (s : State) : s.takeStarch.loader = s.loader :=
  (foldl_keep State.loader _ State.loader_counterRecords _ _).trans s.loader_holdCounts

theorem State.loader_capturePlaster (s : State) (p reason : Nat) : (s.capturePlaster p reason).loader = s.loader := by
  unfold State.capturePlaster
  split <;> rfl

theorem State.loader_faultEntered (s : State) (p code : Nat) : (s.faultEntered p code).loader = s.loader := by
  simp [State.faultEntered, State.clearHolds, State.setPState, State.setBit, State.leaveActive]

theorem State.loader_faultShown (s : State) (p : Nat) : (s.faultShown p).loader = s.loader := by
  simp [State.faultShown, State.sendCtl, State.loader_capturePlaster]

theorem State.loader_coreError (s : State) (g code tag : Nat) : (s.coreError g code tag).loader = s.loader := by simp [State.coreError]

theorem State.loader_routeError (s : State) (code tag n : Nat) : (s.routeError code tag n).loader = s.loader := by simp [State.routeError]

theorem State.loader_inject (s : State) (p : Nat) (k : Pkt) : (s.inject p k).loader = s.loader := by
  unfold State.inject
  split
  · simp
  · rfl

/-! ### What leaves the loader, its registers and the memories as they were -/

/-- The loader's record written, and nothing else. -/
def State.setLoader (s : State) (l : Loader) : State := { s with loader := l }

@[simp] theorem State.fld_setLoader (s : State) (l : Loader) (f : Fld) (i k : Nat) : (s.setLoader l).fld f i k = s.fld f i k := rfl

/-- A field of the loader's registers, ARM_CTRL to ARM_PART_VCMAP (02 Table 2.11): their numbers are 48 to 70. -/
def isArm (f : Fld) : Bool := 1536 ≤ f.code % 16384 && f.code % 16384 < 2272

/-- The two states have the same loader, memories and loader registers. -/
structure ArmKept (s t : State) : Prop where
  loader : t.loader = s.loader
  mem : t.mem = s.mem
  fld : ∀ (g : Fld) (i k : Nat), isArm g = true → t.fld g i k = s.fld g i k

namespace ArmKept
variable {s t u : State}

theorem refl (s : State) : ArmKept s s := ⟨rfl, rfl, fun _ _ _ _ => rfl⟩

theorem trans (h : ArmKept s t) (k : ArmKept t u) : ArmKept s u :=
  ⟨k.loader.trans h.loader, k.mem.trans h.mem, fun g i j hg => (k.fld g i j hg).trans (h.fld g i j hg)⟩

/-- An operation that writes only fields of other registers, and not the loader. -/
theorem of_kept {fs : List Fld} (h : KeptBut s t fs) (hl : t.loader = s.loader) (hf : fs.all (fun f => !isArm f) = true) : ArmKept s t := by
  refine ⟨hl, h.mem, fun g i k hg => h.fld g i k fun f hm he => ?_⟩
  have hn : isArm f = false := by simpa using List.all_eq_true.mp hf f hm
  rw [isArm, ← he, ← isArm, hg] at hn
  cases hn

theorem of_eq (hr : t.regs = s.regs) (hl : t.loader = s.loader) (hm : t.mem = s.mem) : ArmKept s t :=
  ⟨hl, hm, fun g i k _ => by rw [State.fld, State.fld, hr]⟩

theorem setFld {f : Fld} (hf : isArm f = false) (s : State) (v i k : Nat) : ArmKept s (s.setFld f v i k) :=
  of_kept ((KeptBut.refl s [f]).setFld (List.mem_singleton_self f) v i k) rfl (by simp [hf])

theorem ite {c : Prop} [Decidable c] (h : ArmKept s t) (k : ArmKept s u) : ArmKept s (if c then t else u) := by
  split
  · exact h
  · exact k

theorem foldl {β : Type} {f : State → β → State} (h : ∀ s b, ArmKept s (f s b)) (l : List β) (s : State) : ArmKept s (l.foldl f s) := by
  induction l generalizing s with
  | nil => exact refl s
  | cons b l ih => exact (h s b).trans (ih _)

theorem raiseVector (s : State) (v : Nat) : ArmKept s (s.raiseVector v) := of_kept (.raiseVector s v) (by simp) (by decide)

theorem queueEvent (s : State) (e : MgmtEvent) : ArmKept s (s.queueEvent e) := of_kept (.queueEvent s e) (by simp) (by decide)

theorem assertFaultN (s : State) : ArmKept s s.assertFaultN :=
  .ite (.refl s) (((setFld (f := .MGMT_STATUS_FAULT) (by decide) s 1 0 0).trans (.queueEvent _ _)).trans (.raiseVector _ _))

/-! ### Packets that wait are tried again -/

theorem faultEntered (s : State) (p code : Nat) : ArmKept s (s.faultEntered p code) := by
  have hrec := KeptBut.faultRecorded s p code
  refine ⟨State.loader_faultEntered .., hrec.mem, fun g i k hg => ?_⟩
  have apart {f : Fld} (hf : isArm f = false) : g.code % 16384 ≠ f.code % 16384 := fun he => by
    rw [isArm, ← he, ← isArm, hg] at hf
    cases hf
  rw [State.faultEntered, State.fld_clearHolds, State.fld_setPState_name _ (apart (by decide)) (apart (by decide))]
  refine hrec.fld g i k fun f hf => apart ?_
  revert f
  decide

theorem faultActions (s : State) (p code : Nat) : ArmKept s (s.faultActions p code) :=
  (faultEntered s p code).trans (of_kept (.faultShown _ p) (State.loader_faultShown ..) (by decide))

theorem enterFault (s : State) (p code : Nat) : ArmKept s (s.enterFault p code) := by
  unfold State.enterFault
  split
  · exact of_kept (.planError s p code) (by simp) (by decide)
  · exact .ite (.faultActions s p code) (.refl s)

theorem trace (s : State) (g kind value : Nat) : ArmKept s (s.trace g kind value) := by
  rcases s.trace_cases g kind value with ht | ht | ⟨l, ht⟩ <;> rw [ht]
  · exact .refl s
  · have hcore : ArmKept s (s.setCore g { s.core g with traceLost := (s.core g).traceLost + 1 }) := of_eq rfl rfl rfl
    exact hcore.trans (setFld (f := .OBS_TRACE_LOST) (by decide) _ _ _ _)
  · exact of_eq rfl rfl rfl

theorem coreFault (s : State) (g code tag : Nat) : ArmKept s (s.coreFault g code tag) :=
  (of_kept (.coreError s g code tag) (State.loader_coreError ..) (by decide)).trans (.enterFault _ _ _)

theorem failXfer (s : State) (g : Nat) (x : Xfer) (code : Nat) : ArmKept s (s.failXfer g x code) := by
  unfold State.failXfer
  dsimp only
  generalize hu : s.setCore g _ = u
  have hcore : ArmKept s u := by subst hu; exact of_eq rfl rfl rfl
  have hprogress : ArmKept s (u.progress (u.corePart g)) := hcore.trans (of_eq rfl rfl rfl)
  exact (ArmKept.ite (hprogress.trans (.trace _ g 2 x.tag)) hcore).trans (.coreFault _ _ _ _)

theorem unsent (s : State) (k : Pkt) (code : Nat) : ArmKept s (s.unsent k code) := by
  unfold State.unsent
  split
  · exact .failXfer s _ _ _
  · exact .ite (of_kept (.routeError s code k.tag 0) (State.loader_routeError ..) (by decide)) (.refl s)

theorem sendOrWait (s : State) (p : Nat) (k : Pkt) : ArmKept s (s.sendOrWait p k) := by
  unfold State.sendOrWait
  exact .ite (of_eq rfl rfl rfl) (.ite (of_kept (.inject s p k) (State.loader_inject ..) (by decide)) (.unsent s k _))

theorem flush (s : State) : ArmKept s s.flush := by
  have hempty : ArmKept s { s with outbox := [] } := of_eq rfl rfl rfl
  exact hempty.trans (ArmKept.foldl (fun u (e : Nat × Pkt) => ArmKept.sendOrWait u e.1 e.2) s.outbox _)

/-- The end of an operation of the loader: the fabric ports reopen and vector 1 is raised (02 Table 2.7). -/
theorem reopened (s : State) : ArmKept s (s.flush.raiseVector 1) := (flush s).trans (.raiseVector _ 1)

theorem quadPart (h : ArmKept s t) (q : Nat) : t.quadPart q = s.quadPart q := h.fld .ARM_QUAD_PARTITION q 0 (by decide)

end ArmKept

end Sys2Proof.Machine
end


section
/-! PROOFS. The Armature loader (02 R66 to R73, R78): how a stage or an apply fails; the commands of ARM_CTRL; the phases of an application;
the commit. -/
namespace Sys2Proof.Machine
open Sys2Proof

/-! ### Errors (02 R78) -/

/-- The fields that a loader error can write. -/
def armErrorFlds : List Fld := [.ARM_ERROR_CODE, .ARM_ERROR_MULTI, .ARM_ERROR_VALID, .MGMT_STATUS_ALERT, .MGMT_EVENTS_LOST]

theorem KeptBut.armError (s : State) (code : Nat) : KeptBut s (s.armError code) armErrorFlds := by
  unfold State.armError State.recordValid
  refine .ite ?_ ?_
  · exact (((KeptBut.refl s armErrorFlds).setFld (f := .ARM_ERROR_CODE) (by decide) code 0 0).setFld (f := .ARM_ERROR_VALID) (by decide) 1 0 0).andThen
      (.queueEvent _ _) (by decide)
  · exact ((KeptBut.refl s armErrorFlds).setFld (f := .ARM_ERROR_MULTI) (by decide) 1 0 0).andThen (.queueEvent _ _) (by decide)

@[simp] theorem State.loader_armError (s : State) (code : Nat) : (s.armError code).loader = s.loader := State.loader_recordValid ..

/-- With VALID clear the code is kept. -/
theorem State.vals_armError {s : State} (hv : s.fld .ARM_ERROR_VALID = 0) {code : Nat} (hc : code < 2 ^ 16) :
    (s.armError code).fld .ARM_ERROR_CODE = code ∧ (s.armError code).fld .ARM_ERROR_VALID = 1 := by
  rw [State.armError, State.recordValid, if_pos hv]
  refine ⟨?_, ?_⟩ <;> rw [(ArmKept.queueEvent _ _).fld _ _ _ (by decide)]
  · rw [State.fld_setFld_name _ (by decide), State.fld_setFld_self]
    exact Nat.mod_eq_of_lt hc
  · rw [State.fld_setFld_self]
    rfl

theorem State.state_armError (s : State) (code : Nat) : (s.armError code).fld .ARM_STATUS_STATE = s.fld .ARM_STATUS_STATE :=
  (KeptBut.armError s code).fld _ _ _ (by decide)

/-- From s a stage or an apply has failed with a code: the loader is EMPTY with FAILED set, the code is recorded, and the memories and the
quads are as they were (02 Table 2.7, R72, R73). -/
structure ArmFailed (s : State) (code : Nat) (t : State) : Prop where
  state : t.fld .ARM_STATUS_STATE = armEmpty
  staged : t.loader.staged = none
  failed : t.fld .ARM_STATUS_FAILED = 1
  code : t.fld .ARM_ERROR_CODE = code
  valid : t.fld .ARM_ERROR_VALID = 1
  mem : t.mem = s.mem
  quadPart : ∀ q, t.quadPart q = s.quadPart q

theorem ArmFailed.kept {s t u : State} {code : Nat} (h : ArmFailed s code t) (k : ArmKept t u) : ArmFailed s code u where
  state := (k.fld _ _ _ (by decide)).trans h.state
  staged := (congrArg Loader.staged k.loader).trans h.staged
  failed := (k.fld _ _ _ (by decide)).trans h.failed
  code := (k.fld _ _ _ (by decide)).trans h.code
  valid := (k.fld _ _ _ (by decide)).trans h.valid
  mem := k.mem.trans h.mem
  quadPart q := (k.quadPart q).trans (h.quadPart q)

/-- The failure before the fabric ports reopen. -/
def State.armEnded (s : State) (code : Nat) : State :=
  let s := ((s.armError code).setFld .ARM_STATUS_FAILED 1).setFld .ARM_STATUS_STATE armEmpty
  s.setLoader { s.loader with staged := none, closed := [] }

theorem State.armFail_eq (s : State) (code : Nat) : s.armFail code = (s.armEnded code).flush.raiseVector 1 := rfl

theorem State.armFailed_armEnded {s : State} (hv : s.fld .ARM_ERROR_VALID = 0) {code : Nat} (hc : code < 2 ^ 16) :
    ArmFailed s code (s.armEnded code) := by
  obtain ⟨hcode, hvalid⟩ := State.vals_armError hv hc
  refine ⟨?_, rfl, ?_, ?_, ?_, (KeptBut.armError s code).mem, fun q => ?_⟩
  · rw [State.armEnded, State.fld_setLoader, State.fld_setFld_self]
    rfl
  · rw [State.armEnded, State.fld_setLoader, State.fld_setFld_name _ (by decide), State.fld_setFld_self]
    rfl
  · rw [State.armEnded, State.fld_setLoader, State.fld_setFld_name _ (by decide), State.fld_setFld_name _ (by decide), hcode]
  · rw [State.armEnded, State.fld_setLoader, State.fld_setFld_name _ (by decide), State.fld_setFld_name _ (by decide), hvalid]
  · rw [State.quadPart, State.armEnded, State.fld_setLoader, State.fld_setFld_name _ (by decide), State.fld_setFld_name _ (by decide),
      (KeptBut.armError s code).fld _ _ _ (by decide), State.quadPart]

theorem State.armFailed_armFail {s : State} (hv : s.fld .ARM_ERROR_VALID = 0) {code : Nat} (hc : code < 2 ^ 16) :
    ArmFailed s code (s.armFail code) := by
  rw [State.armFail_eq]
  exact (State.armFailed_armEnded hv hc).kept (.reopened _)

/-! ### The commands of ARM_CTRL (02 R66 to R69) -/

/-- Outside VERIFYING and APPLYING a command is taken. -/
theorem State.armCmd_open {s : State} (h : s.fld .ARM_STATUS_STATE = armEmpty ∨ s.fld .ARM_STATUS_STATE = armStaged) (party : Party)
    (f : State → State) : s.armCmd party false f = f s := by
  rcases h with h | h <;> simp [State.armCmd, h, armEmpty, armStaged, armVerifying, armApplying]

theorem State.armCmd_busy {s : State} (h : s.fld .ARM_STATUS_STATE = armVerifying ∨ s.fld .ARM_STATUS_STATE = armApplying) (party : Party)
    (clash : Bool) (f : State → State) : s.armCmd party clash f = s.armError E_ARM_BUSY := by
  rcases h with h | h <;> simp [State.armCmd, h]

theorem RegsBut.of_regs {s t : State} (h : t.regs = s.regs) (fs : List (Fld × Nat)) : RegsBut s t fs :=
  fun f i k _ _ => by rw [State.fld, State.fld, h]

theorem armCtrlStage_verifying {party : Party} {s : State}
    (h : s.fld .ARM_STATUS_STATE = armEmpty ∨ s.fld .ARM_STATUS_STATE = armStaged) :
    Completes (.armCtrlStage party false) s (fun t => t.fld .ARM_STATUS_STATE = armVerifying ∧ t.loader.staged = none ∧ t.mem = s.mem ∧
      RegsBut s t [(.ARM_STATUS_STATE, 0)]) :=
  ⟨_, congrArg Host.Outcome.next (State.armCmd_open h party _), State.fld_setFld_self .., rfl, rfl,
    (RegsBut.of_regs rfl _).setFld _ 0 (by decide) (by simp)⟩

theorem armCtrlDiscard_empty {party : Party} {s : State} (h : s.fld .ARM_STATUS_STATE = armStaged) :
    Completes (.armCtrlDiscard party false) s (fun t => t.fld .ARM_STATUS_STATE = armEmpty ∧ t.loader.staged = none ∧ t.mem = s.mem ∧
      RegsBut s t [(.ARM_STATUS_STATE, 0)]) := by
  refine ⟨_, congrArg Host.Outcome.next (State.armCmd_open (.inr h) party _), ?_⟩
  rw [State.armDiscard, if_neg (by rw [h]; decide)]
  exact ⟨State.fld_setFld_self .., rfl, rfl, (RegsBut.of_regs rfl _).setFld _ 0 (by decide) (by simp)⟩

theorem armCtrl_busy {party : Party} {clash : Bool} {s : State}
    (h : s.fld .ARM_STATUS_STATE = armVerifying ∨ s.fld .ARM_STATUS_STATE = armApplying) (hv : s.fld .ARM_ERROR_VALID = 0) :
    ∀ c ∈ [Instr.armCtrlStage party clash, .armCtrlApply party clash, .armCtrlDiscard party clash],
      Completes c s (fun t => t.fld .ARM_ERROR_CODE = E_ARM_BUSY ∧ t.fld .ARM_ERROR_VALID = 1 ∧
        t.fld .ARM_STATUS_STATE = s.fld .ARM_STATUS_STATE ∧ t.loader = s.loader ∧ t.mem = s.mem) := by
  obtain ⟨hcode, hvalid⟩ := State.vals_armError hv (show E_ARM_BUSY < 2 ^ 16 by decide)
  have busy {c : Instr} {f : State → State} (hc : exec c s = .next (s.armCmd party clash f)) : Completes c s (fun t =>
      t.fld .ARM_ERROR_CODE = E_ARM_BUSY ∧ t.fld .ARM_ERROR_VALID = 1 ∧ t.fld .ARM_STATUS_STATE = s.fld .ARM_STATUS_STATE ∧
      t.loader = s.loader ∧ t.mem = s.mem) :=
    ⟨_, hc.trans (congrArg Host.Outcome.next (State.armCmd_busy h party clash f)), hcode, hvalid, State.state_armError .., State.loader_armError ..,
      (KeptBut.armError s _).mem⟩
  simp only [List.forall_mem_cons, List.not_mem_nil, false_imp_iff, implies_true, and_true]
  exact ⟨busy rfl, busy rfl, busy rfl⟩

/-! ### The checks of a fetched image (02 Table 2.6) -/

theorem State.armCheck_lt (s : State) (img : ArmImage) : s.armCheck img < 2 ^ 16 := by
  unfold State.armCheck
  split_ifs <;> decide

theorem armVerifyComplete_staged {img : ArmImage} {s : State} (h : s.fld .ARM_STATUS_STATE = armVerifying) (hc : s.armCheck img = 0)
    (hs : img.scope < 2 ^ 16) :
    Completes (.armVerifyComplete img) s (fun t => t.fld .ARM_STATUS_STATE = armStaged ∧ t.loader.staged = some img ∧
      t.fld .ARM_SCOPE = img.scope ∧ t.mem = s.mem ∧ RegsBut s t [(.ARM_STATUS_STATE, 0), (.ARM_SCOPE, 0)]) := by
  refine ⟨s.armVerify img, rfl, ?_⟩
  rw [State.armVerify, if_neg (by simp [h]), if_neg (by simp [hc])]
  refine ⟨?_, rfl, (State.fld_setFld_self ..).trans (Nat.mod_eq_of_lt hs), rfl,
    ((RegsBut.of_regs rfl _).setFld _ 0 (by decide) (by simp)).setFld _ 0 (by decide) (by simp)⟩
  rw [State.fld_setFld_name _ (by decide), State.fld_setFld_self]
  rfl

theorem armVerifyComplete_failed {img : ArmImage} {s : State} (h : s.fld .ARM_STATUS_STATE = armVerifying) (hc : s.armCheck img ≠ 0)
    (hv : s.fld .ARM_ERROR_VALID = 0) : Completes (.armVerifyComplete img) s (ArmFailed s (s.armCheck img)) := by
  refine ⟨s.armVerify img, rfl, ?_⟩
  rw [State.armVerify, if_neg (by simp [h]), if_pos hc]
  exact State.armFailed_armFail hv (s.armCheck_lt img)

/-! ### APPLY (02 R68) -/

theorem armCtrlApply_applying {party : Party} {img : ArmImage} {s : State} (h : s.fld .ARM_STATUS_STATE = armStaged)
    (hi : s.loader.staged = some img) (hp : ∀ p < 16, img.scope.testBit p → s.pstate p = .idle) (ho : s.scopeOk img = true) :
    Completes (.armCtrlApply party false) s (fun t => t.fld .ARM_STATUS_STATE = armApplying ∧ t.loader.phase = 0 ∧
      t.loader.staged = some img ∧ t.mem = s.mem ∧ RegsBut s t [(.ARM_STATUS_STATE, 0)]) := by
  have hidle : (List.range 16).any (fun p => img.scope.testBit p && s.pstate p ≠ .idle) = false := by simpa using hp
  refine ⟨_, congrArg Host.Outcome.next (State.armCmd_open (.inr h) party _), ?_⟩
  simp only [State.armApply, hi, hidle, ho, Bool.not_true, Bool.false_eq_true, if_false]
  exact ⟨State.fld_setFld_self .., rfl, rfl, rfl, (RegsBut.of_regs rfl _).setFld _ 0 (by decide) (by simp)⟩

theorem armCtrlApply_partBusy {party : Party} {img : ArmImage} {p : Nat} {s : State} (h : s.fld .ARM_STATUS_STATE = armStaged)
    (hi : s.loader.staged = some img) (h16 : p < 16) (hp : img.scope.testBit p = true) (hn : s.pstate p ≠ .idle)
    (hv : s.fld .ARM_ERROR_VALID = 0) :
    Completes (.armCtrlApply party false) s (fun t => t.fld .ARM_ERROR_CODE = E_ARM_PART_BUSY ∧ t.fld .ARM_STATUS_STATE = armStaged ∧
      t.loader = s.loader ∧ t.mem = s.mem) := by
  have hbusy : (List.range 16).any (fun p => img.scope.testBit p && s.pstate p ≠ .idle) = true :=
    List.any_eq_true.mpr ⟨p, List.mem_range.mpr h16, by simp [hp, hn]⟩
  refine ⟨_, congrArg Host.Outcome.next (State.armCmd_open (.inr h) party _), ?_⟩
  simp only [State.armApply, hi, hbusy, if_true]
  exact ⟨(State.vals_armError hv (by decide)).1, (State.state_armError ..).trans h, State.loader_armError .., (KeptBut.armError s _).mem⟩

/-! ### The phases of an application (02 Table 2.8) -/

section Phases
variable {img : ArmImage} {s : State} (ha : s.fld .ARM_STATUS_STATE = armApplying) (hi : s.loader.staged = some img)
include ha hi

/-- An event of the phase that the application is in. -/
theorem State.armPhase_run {k : Nat} (hk : s.loader.phase = k) (f : ArmImage → State) : s.armPhase k f = f img := by
  simp [State.armPhase, hi, ha, hk]

theorem armDrainTimeout_failed (hk : s.loader.phase = 0) (hv : s.fld .ARM_ERROR_VALID = 0) :
    Completes .armDrainTimeout s (ArmFailed s E_ARM_DRAIN_TIMEOUT) :=
  ⟨_, congrArg Host.Outcome.next (State.armPhase_run ha hi hk _), State.armFailed_armFail hv (by decide)⟩

theorem armShadowCheckDone_good (hk : s.loader.phase = 1) :
    Completes (.armShadowCheckDone true) s (fun t => t = { s with loader := { s.loader with phase := 2 } }) :=
  ⟨_, congrArg Host.Outcome.next (State.armPhase_run ha hi hk _), rfl⟩

/-- A second failure of one image within 1 s asserts FAULT_N besides (02 R73). -/
theorem armShadowCheckDone_failed (hk : s.loader.phase = 1) (hv : s.fld .ARM_ERROR_VALID = 0) :
    Completes (.armShadowCheckDone false) s (ArmFailed s E_ARM_WRITE_FAULT) := by
  refine ⟨_, congrArg Host.Outcome.next (State.armPhase_run ha hi hk _), ?_⟩
  rw [if_neg (by decide)]
  have hfail : ArmFailed s E_ARM_WRITE_FAULT (s.armFail E_ARM_WRITE_FAULT) := State.armFailed_armFail hv (by decide)
  have hnoted (x : Option (Nat × Nat)) : ArmFailed s E_ARM_WRITE_FAULT
      ((s.armFail E_ARM_WRITE_FAULT).setLoader { (s.armFail E_ARM_WRITE_FAULT).loader with lastFault := x }) := { hfail with }
  dsimp only
  split
  · exact (hnoted _).kept (.assertFaultN _)
  · exact hnoted _

theorem armSharedSwitch_switched (hk : s.loader.phase = 2) :
    Completes .armSharedSwitch s (fun t => t = { s with loader := { s.loader with phase := 3 } }) :=
  ⟨_, congrArg Host.Outcome.next (State.armPhase_run ha hi hk _), rfl⟩

end Phases

/-! ### The drain: what changes owner is filled with zero (02 Table 2.8, 05 R182) -/

theorem State.spad_clearCores (s : State) (m : Nat → Bool) :
    (s.clearCores m).mem.spad = bankDrop (fun a => m (a / 524288)) s.mem.spad := by
  unfold State.clearCores
  rw [State.foldl_setCore_mem]
  rfl

/-- The number of the core in the place of a scratchpad byte (05 R149). -/
theorem spadPlace_core (g : Nat) {a : Nat} (ha : a < 524288) : (g * 524288 + a) / 524288 = g := by omega

/-- A cleared core's bytes are zero, those of the others as they were. -/
theorem State.spadByte_clearCores (s : State) (m : Nat → Bool) (g : Nat) {a : Nat} (ha : a < 524288) :
    (s.clearCores m).spadByte g a = if m g then 0 else s.spadByte g a := by
  rw [State.spadByte, State.spad_clearCores]
  split
  · rename_i hm
    exact bankGet_bankDrop_dropped 0 _ (by rw [spadPlace_core g ha, hm])
  · rename_i hm
    exact bankGet_bankDrop_kept 0 _ (by rw [spadPlace_core g ha, Bool.eq_false_iff.mpr hm])

/-- What the drain does after the cores are cleared leaves the scratchpads. -/
theorem State.spadByte_drained (s : State) (m : Nat → Bool) (parts : List Nat) (g a : Nat) :
    ((parts.foldl (fun s p => s.zeroBarriers p) (s.clearGroups m)).setPhase 1).spadByte g a = s.spadByte g a := by
  have hmem : (parts.foldl (fun s p => s.zeroBarriers p) (s.clearGroups m)).mem = (s.clearGroups m).mem :=
    (KeptBut.foldl KeptBut.zeroBarriers parts _).mem
  have hspad : (parts.foldl (fun s p => s.zeroBarriers p) (s.clearGroups m)).mem.spad = s.mem.spad := by rw [hmem]; rfl
  exact congrArg (fun b => bankGet 0 b (g * 524288 + a)) hspad

theorem armDrainDone_cleared {img : ArmImage} {s : State} (ha : s.fld .ARM_STATUS_STATE = armApplying) (hi : s.loader.staged = some img)
    (hk : s.loader.phase = 0) :
    Completes .armDrainDone s (fun t => t.loader.phase = 1 ∧
      (∀ g a, a < 524288 → (s.newQuad img.recs (g / 96 / 4)).1 ≠ s.corePart g → t.spadByte g a = 0) ∧
      (∀ g a, a < 524288 → (s.newQuad img.recs (g / 96 / 4)).1 = s.corePart g → t.spadByte g a = s.spadByte g a)) := by
  refine ⟨_, congrArg Host.Outcome.next (State.armPhase_run ha hi hk _), rfl, fun g a h hg => ?_, fun g a h hg => ?_⟩
  · rw [State.spadByte_drained, State.spadByte_clearCores _ _ _ h, if_pos (by simpa using hg)]
  · rw [State.spadByte_drained, State.spadByte_clearCores _ _ _ h, if_neg (by simpa using hg)]

/-! ### The commit (02 R71, Table 2.8) -/

/-- Quads 0 to n − 1 take their partitions and roles; the others keep theirs. -/
theorem State.quadPart_foldl_quads (v : Nat → Nat × Nat) (s : State) (n q : Nat) :
    ((List.range n).foldl (fun t q => (t.setFld .ARM_QUAD_PARTITION (v q).1 q).setFld .ARM_QUAD_ROLE (v q).2 q) s).quadPart q =
      if q < n then (v q).1 % 16 else s.quadPart q := by
  induction n with
  | zero => rfl
  | succ n ih =>
    rw [List.range_succ, List.foldl_append, List.foldl_cons, List.foldl_nil, State.quadPart, State.fld_setFld_name _ (by decide)]
    by_cases hq : q = n
    · subst hq
      rw [State.fld_setFld_self, if_pos (Nat.lt_succ_self q)]
      rfl
    · rw [State.fld_setFld_ne _ _ (.inr (.inl hq)), ← State.quadPart, ih]
      exact if_congr (by omega) rfl rfl

theorem State.quadPart_commitQuads (s : State) (r : List ArmRec) {q : Nat} (hq : q < 16) :
    (s.commitQuads r).quadPart q = (s.newQuad r q).1 % 16 := by
  rw [State.commitQuads, State.quadPart_foldl_quads, if_pos hq]

theorem State.quadPart_setFld (s : State) {f : Fld} (hf : Fld.ARM_QUAD_PARTITION.code % 16384 ≠ f.code % 16384) (v i k q : Nat) :
    (s.setFld f v i k).quadPart q = s.quadPart q := State.fld_setFld_name s hf v i k q 0

theorem State.quadPart_commitPart (s t : State) (r : List ArmRec) (p q : Nat) : (s.commitPart t r p).quadPart q = s.quadPart q := by
  simp (disch := decide) only [State.commitPart, List.foldl, State.quadPart_setFld]

theorem State.quadPart_commitGeom (s t : State) (r : List ArmRec) (p q : Nat) : (s.commitGeom t r p).quadPart q = s.quadPart q := by
  unfold State.commitGeom
  generalize (if t.newServing r p then t.newGeom r p else ({}, [])) = geometry
  refine Eq.trans (b := State.quadPart (State.setFld _ .SRV_GEOM2_SEQ_MAX geometry.1.seqMax p) q) rfl ?_
  simp (disch := decide) only [State.quadPart_setFld]

theorem State.quadPart_commitSlice (s t : State) (r : List ArmRec) (sl q : Nat) : (s.commitSlice t r sl).quadPart q = s.quadPart q := by
  unfold State.commitSlice
  dsimp only
  split
  · rfl
  · simp (disch := decide) only [State.quadPart_setFld]

theorem State.quadPart_hbmKeySwitch (s : State) (p q : Nat) : (s.hbmKeySwitch p).quadPart q = s.quadPart q := by
  unfold State.hbmKeySwitch
  dsimp only
  split
  · rfl
  · rw [State.setBit, State.quadPart_setFld _ (by decide), State.quadPart_setFld _ (by decide)]
    split <;> rfl

theorem State.quadPart_commitKeys (s t : State) (r : List ArmRec) (p q : Nat) : (s.commitKeys t r p).quadPart q = s.quadPart q := by
  unfold State.commitKeys State.drawHbmKey
  split
  · rw [State.quadPart_hbmKeySwitch]
    split
    · rw [State.setBit, State.quadPart_setFld _ (by decide), State.quadPart_setFld _ (by decide)]
      rfl
    · rfl
  · rfl

theorem State.quadPart_commitPort (s t : State) (r : List ArmRec) (n q : Nat) : (s.commitPort t r n).quadPart q = s.quadPart q := by
  unfold State.commitPort
  split <;> simp (disch := decide) only [State.quadPart_setFld]

theorem State.quadPart_commitRoutes (s t : State) (i : ArmImage) (q : Nat) : (s.commitRoutes t i).quadPart q = s.quadPart q := by
  unfold State.commitRoutes
  generalize List.range 56448 = ks
  split
  · rw [State.quadPart_setFld _ (by decide), State.quadPart_setFld _ (by decide)]
    rfl
  · rfl

theorem State.quadPart_dropPart (s : State) (p q : Nat) : (s.dropPart p).quadPart q = s.quadPart q :=
  State.fld_dropFlds_kept s (q := fun f i => i = p && ((768 ≤ f && f < 1536) || (13888 ≤ f && f < 14016)))
    (f := .ARM_QUAD_PARTITION) (i := q) (Bool.and_eq_false_imp.mpr fun _ => rfl) 0

theorem State.quadPart_commitShape (t : State) (i : ArmImage) {q : Nat} (hq : q < 16) :
    (t.commitShape i).quadPart q = (t.newQuad i.recs q).1 % 16 := by
  have kept {β : Type} {f : State → β → State} (h : ∀ s b, (f s b).quadPart q = s.quadPart q) (l : List β) (s : State) :
      (l.foldl f s).quadPart q = s.quadPart q := foldl_keep (fun u => u.quadPart q) f h l s
  unfold State.commitShape
  rw [kept (fun s p => by split; exacts [rfl, s.quadPart_dropPart p q]), State.quadPart_setFld _ (by decide), State.quadPart_setFld _ (by decide),
    State.quadPart_commitRoutes, kept (fun s n => s.quadPart_commitPort t i.recs n q), kept (fun s p => s.quadPart_commitKeys t i.recs p q),
    kept (fun s x => s.quadPart_commitSlice t i.recs x q),
    kept (fun s p => (State.quadPart_commitGeom _ t i.recs p q).trans (s.quadPart_commitPart t i.recs p q)), State.quadPart_commitQuads t i.recs hq]

theorem State.fld_setWords_name (s : State) {f g : Fld} (h : g.code % 16384 ≠ f.code % 16384) (n v i k : Nat) :
    (s.setWords f n v).fld g i k = s.fld g i k :=
  foldl_keep (fun u => u.fld g i k) _ (fun u _ => State.fld_setFld_name u h ..) _ s

/-- The commit puts the tables in force and shows whose they are. -/
def State.commitShown (s : State) (i : ArmImage) : State :=
  let s := ((s.commitShape i).setFld .ARM_ACTIVE_VERSION i.version).setFld .ARM_ACTIVE_SVN i.svn
  let s := s.setWords .ARM_IMAGE_ID 4 i.imageId
  if i.kind = 1 then s.setWords .ARM_BASE_DIGEST 16 i.fullSha else s

/-- The commit before the fabric ports reopen: it is counted and timed, and the loader is EMPTY. -/
def State.committed (s : State) (i : ArmImage) : State :=
  let t := (((s.commitShown i).addFld .ARM_COUNT).setFld .ARM_APPLY_TIME ((s.raw - s.loader.startedAt) / 64000)).setFld .ARM_STATUS_APPLIED 1
  (t.setLoader { t.loader with staged := none, phase := 0, closed := [] }).setFld .ARM_STATUS_STATE armEmpty

theorem State.armCommit_eq {img : ArmImage} {s : State} (ha : s.fld .ARM_STATUS_STATE = armApplying) (hi : s.loader.staged = some img)
    (hk : s.loader.phase = 3) : s.armCommit = (s.committed img).flush.raiseVector 1 := State.armPhase_run ha hi hk _

/-- The fields of the tables in force that the commit's own do not write. -/
theorem State.fld_commitShown (s : State) (i : ArmImage) {g : Fld}
    (hg : [Fld.ARM_ACTIVE_SVN, .ARM_IMAGE_ID, .ARM_BASE_DIGEST].all (fun x => g.code % 16384 ≠ x.code % 16384) = true) (j k : Nat) :
    (s.commitShown i).fld g j k = ((s.commitShape i).setFld .ARM_ACTIVE_VERSION i.version).fld g j k := by
  simp only [List.all_cons, List.all_nil, Bool.and_true, Bool.and_eq_true, decide_eq_true_eq] at hg
  obtain ⟨hsvn, hid, hdigest⟩ := hg
  unfold State.commitShown
  dsimp only
  split
  · rw [State.fld_setWords_name _ hdigest, State.fld_setWords_name _ hid, State.fld_setFld_name _ hsvn]
  · rw [State.fld_setWords_name _ hid, State.fld_setFld_name _ hsvn]

theorem State.fld_committed (s : State) (i : ArmImage) {g : Fld}
    (hg : [Fld.ARM_COUNT, .ARM_APPLY_TIME, .ARM_STATUS_APPLIED, .ARM_STATUS_STATE].all (fun x => g.code % 16384 ≠ x.code % 16384) = true)
    (j k : Nat) : (s.committed i).fld g j k = (s.commitShown i).fld g j k := by
  simp only [List.all_cons, List.all_nil, Bool.and_true, Bool.and_eq_true, decide_eq_true_eq] at hg
  obtain ⟨hcount, htime, happlied, hstate⟩ := hg
  rw [State.committed, State.fld_setFld_name _ hstate, State.fld_setLoader, State.fld_setFld_name _ happlied, State.fld_setFld_name _ htime,
    State.addFld, State.fld_setFld_name _ hcount]

theorem State.applied_committed (s : State) (i : ArmImage) : (s.committed i).fld .ARM_STATUS_APPLIED = 1 := by
  rw [State.committed, State.fld_setFld_name _ (by decide), State.fld_setLoader, State.fld_setFld_self]
  rfl

theorem State.version_committed (s : State) (i : ArmImage) (hv : i.version < 2 ^ 32) : (s.committed i).fld .ARM_ACTIVE_VERSION = i.version := by
  rw [State.fld_committed _ _ (by decide), State.fld_commitShown _ _ (by decide), State.fld_setFld_self]
  exact Nat.mod_eq_of_lt hv

theorem State.quadPart_committed (s : State) (i : ArmImage) {q : Nat} (hq : q < 16) (hp : (s.newQuad i.recs q).1 < 16) :
    (s.committed i).quadPart q = (s.newQuad i.recs q).1 := by
  rw [State.quadPart, State.fld_committed _ _ (by decide), State.fld_commitShown _ _ (by decide), State.fld_setFld_name _ (by decide),
    ← State.quadPart, State.quadPart_commitShape s i hq, Nat.mod_eq_of_lt hp]

theorem armCommit_inForce {img : ArmImage} {s : State} (ha : s.fld .ARM_STATUS_STATE = armApplying) (hi : s.loader.staged = some img)
    (hk : s.loader.phase = 3) (hv : img.version < 2 ^ 32) (hq : ∀ q < 16, (s.newQuad img.recs q).1 < 16) :
    Completes .armCommit s (fun t => t.fld .ARM_STATUS_STATE = armEmpty ∧ t.loader.staged = none ∧ t.fld .ARM_STATUS_APPLIED = 1 ∧
      t.fld .ARM_ACTIVE_VERSION = img.version ∧ (∀ q < 16, t.quadPart q = (s.newQuad img.recs q).1)) := by
  have kept := ArmKept.reopened (s.committed img)
  refine ⟨_, congrArg Host.Outcome.next (State.armCommit_eq ha hi hk), ?_, congrArg Loader.staged kept.loader, ?_, ?_, fun q h => ?_⟩
  · rw [kept.fld _ _ _ (by decide), State.committed, State.fld_setFld_self]
    rfl
  · rw [kept.fld _ _ _ (by decide), State.applied_committed]
  · rw [kept.fld _ _ _ (by decide), State.version_committed _ _ hv]
  · rw [kept.quadPart, State.quadPart_committed _ _ h (hq q h)]

/-- Settles O7: the commands of ARM_CTRL and the checks of an image, then the phases of an application to its commit. -/
theorem armatureLoading : Obligations.ArmatureLoading := by
  refine ⟨fun _ _ h => armCtrlStage_verifying h, fun _ _ h hc hs => armVerifyComplete_staged h hc hs, fun img s h hc hv => ?_,
    fun _ _ h => armCtrlDiscard_empty h, fun _ _ _ h hv => armCtrl_busy h hv, fun _ _ _ h hi hp ho => armCtrlApply_applying h hi hp ho,
    fun _ _ _ _ h hi h16 hp hn hv => armCtrlApply_partBusy h hi h16 hp hn hv, fun _ _ ha hi hk => armDrainDone_cleared ha hi hk,
    fun img s ha hi hk hv => ?_, fun _ _ ha hi hk => armShadowCheckDone_good ha hi hk, fun img s ha hi hk hv => ?_,
    fun _ _ ha hi hk => armSharedSwitch_switched ha hi hk, fun _ _ ha hi hk hv hq => armCommit_inForce ha hi hk hv hq⟩
  · obtain ⟨t, ht, h⟩ := armVerifyComplete_failed h hc hv
    exact ⟨t, ht, h.state, h.staged, h.failed, h.code, h.valid, h.mem⟩
  · obtain ⟨t, ht, h⟩ := armDrainTimeout_failed ha hi hk hv
    exact ⟨t, ht, h.state, h.failed, h.code, h.mem, h.quadPart⟩
  · obtain ⟨t, ht, h⟩ := armShadowCheckDone_failed ha hi hk hv
    exact ⟨t, ht, h.state, h.failed, h.code, h.mem, h.quadPart⟩

end Sys2Proof.Machine
end


section
/-! PROOFS. The scratchpad under an operation (05 R149, R155 to R157, R160): reading words that are good changes nothing, a write of a
handle's range whose words are good puts its bytes and repairs its words, and a sequence of writes keeps everything outside its ranges. -/
namespace Sys2Proof.Machine
open Sys2Proof

/-! ### The words of a range -/

theorem mem_hWords {v off len w : Nat} : w ∈ hWords v off len ↔ 0 < len ∧ ∃ i, off / 32 ≤ i ∧ i ≤ (off + len - 1) / 32 ∧ hWord v i = w := by
  unfold hWords
  split
  · simp [*]
  · simp only [List.mem_map, List.mem_range]
    refine ⟨fun ⟨j, hj, hw⟩ => ⟨by omega, off / 32 + j, by omega, by omega, hw⟩, fun ⟨_, i, hlo, hhi, hw⟩ => ⟨i - off / 32, by omega, ?_⟩⟩
    rw [← hw, Nat.add_sub_cancel' hlo]

/-- A range inside another has its words among the other's. -/
theorem hWords_subset {v off len off' len' : Nat} (hlo : off' ≤ off) (hhi : off + len ≤ off' + len') : hWords v off len ⊆ hWords v off' len' := by
  intro w hw
  rw [mem_hWords] at hw ⊢
  obtain ⟨hlen, i, hi, hi', hw⟩ := hw
  exact ⟨by omega, i, by omega, by omega, hw⟩

/-- The words that a write covers in part are among those of its range. -/
theorem partialWords_subset (v off len : Nat) : partialWords v off len ⊆ hWords v off len := by
  intro w hw
  unfold partialWords at hw
  split at hw
  · cases hw
  · rw [List.mem_append] at hw
    rw [mem_hWords]
    refine ⟨by omega, ?_⟩
    rcases hw with hw | hw
    · exact ⟨off / 32, le_refl _, by omega, by split at hw <;> simp_all⟩
    · split at hw
      · rename_i hlast
        simp only [Bool.and_eq_true, decide_eq_true_eq] at hlast
        exact ⟨(off + len) / 32, by omega, by omega, (List.mem_singleton.mp hw).symm⟩
      · cases hw

/-! ### Reading words -/

/-- Reading words that are good counts nothing and ends with no error (05 R155). -/
theorem State.consumeWords_clean {s : State} {g : Nat} {ws : List Nat} (h : ∀ w ∈ ws, s.badBytes g w = 0) : s.consumeWords g ws = (s, 0) := by
  induction ws with
  | nil => rfl
  | cons w ws ih =>
    rw [List.forall_mem_cons] at h
    rw [State.consumeWords, if_neg (by simp [uncorrectable, h.1]), State.readWordCount, if_neg (by simp [correctable, h.1]), ih h.2]

theorem State.mergeWords_clean {s : State} {g : Nat} {ws : List Nat} (h : ∀ w ∈ ws, s.badBytes g w = 0) : s.mergeWords g ws = (s, []) := by
  induction ws with
  | nil => rfl
  | cons w ws ih =>
    rw [List.forall_mem_cons] at h
    rw [State.mergeWords, if_neg (by simp [uncorrectable, h.1]), State.readWordCount, if_neg (by simp [correctable, h.1]), ih h.2]

/-- The first word read is uncorrectable: it is noted, and nothing more is read (05 R157). -/
theorem State.consumeWords_bad {s : State} {g w : Nat} (ws : List Nat) (h : 3 ≤ s.badBytes g w) :
    s.consumeWords g (w :: ws) = (s.noteUe g w, E_SPAD_UNCORRECTABLE) := by
  rw [State.consumeWords, if_pos (by simpa [uncorrectable] using h)]

/-- What noting an uncorrectable word leaves: the word's address, and no other field than its own three. -/
theorem State.noteUe_spec (s : State) (g w : Nat) : (s.noteUe g w).fld .SPAD_UE_ADDR_ADDR g = w * 32 % 2 ^ 19 ∧
    (s.noteUe g w).fld .SPAD_UE_ADDR_VALID g = 1 ∧ s.noteUe g w = { s with regs := (s.noteUe g w).regs } ∧
    RegsBut s (s.noteUe g w) [(.SPAD_UE, g), (.SPAD_UE_ADDR_ADDR, g), (.SPAD_UE_ADDR_VALID, g)] := by
  refine ⟨?_, State.fld_setFld_self .., rfl, ?_⟩
  · rw [State.noteUe, State.fld_setFld_name _ (by decide), State.fld_setFld_self]
    rfl
  · exact (((RegsBut.refl s _).setFld _ 0 (by decide) (by simp)).setFld _ 0 (by decide) (by simp)).setFld _ 0 (by decide) (by simp)

/-! ### Writing a range -/

/-- One byte of a core's scratchpad written. -/
def State.setByte (s : State) (g a : Nat) (b : Byte) : State := { s with mem.spad := bankSet 0 s.mem.spad (g * 524288 + a) b }

theorem State.hPut_cons (s : State) (g v off : Nat) (b : Byte) (data : List Byte) :
    s.hPut g v off (b :: data) = (s.setByte g (hAddr v off) b).hPut g v (off + 1) data := rfl

theorem State.spad_setByte (s : State) (g a : Nat) (b : Byte) : (s.setByte g a b).mem.spad = bankSet 0 s.mem.spad (g * 524288 + a) b := rfl

/-- Bytes put at a handle's offsets change the scratchpad only. -/
theorem State.hPut_eq (s : State) (g v off : Nat) (data : List Byte) :
    s.hPut g v off data = { s with mem := { s.mem with spad := (s.hPut g v off data).mem.spad } } := by
  induction data generalizing s off with
  | nil => rfl
  | cons b data ih => rw [State.hPut_cons, ih]; rfl

/-- A byte of the scratchpad that is at none of the offsets is as it was. -/
theorem State.hPut_spad_ne {s : State} {g v off : Nat} {data : List Byte} {key : Nat}
    (h : ∀ j < data.length, key ≠ g * 524288 + hAddr v (off + j)) : bankGet 0 (s.hPut g v off data).mem.spad key = bankGet 0 s.mem.spad key := by
  induction data generalizing s off with
  | nil => rfl
  | cons b data ih =>
    rw [State.hPut_cons, ih (fun j hj => by simpa [Nat.add_right_comm, Nat.add_assoc] using h (j + 1) (by simpa using hj)), State.spad_setByte]
    exact bankGet_bankSet_ne _ _ _ _ (h 0 (by simp))

/-- A byte put reads back where no two of the offsets share an address. -/
theorem State.hPut_spad_at {s : State} {g v off : Nat} {data : List Byte}
    (hinj : ∀ i < data.length, ∀ j < data.length, hAddr v (off + i) = hAddr v (off + j) → i = j) {j : Nat} (hj : j < data.length) :
    (s.hPut g v off data).spadByte g (hAddr v (off + j)) = data[j] := by
  induction data generalizing s off j with
  | nil => cases hj
  | cons b data ih =>
    have hsucc (i : Nat) : off + 1 + i = off + (i + 1) := by omega
    rw [State.hPut_cons]
    cases j with
    | zero =>
      rw [State.spadByte, State.hPut_spad_ne, State.spad_setByte, Nat.add_zero, bankGet_bankSet_self, List.getElem_cons_zero]
      intro i hi he
      have := hinj 0 (by simp) (i + 1) (by simpa using hi) (by rw [hsucc] at he; omega)
      omega
    | succ j =>
      have hinj' : ∀ i < data.length, ∀ k < data.length, hAddr v (off + 1 + i) = hAddr v (off + 1 + k) → i = k := fun i hi k hk he => by
        rw [hsucc, hsucc] at he
        have := hinj (i + 1) (by simpa using hi) (k + 1) (by simpa using hk) he
        omega
      have hput := ih (s := s.setByte g (hAddr v off) b) hinj' (Nat.lt_of_succ_lt_succ hj)
      rwa [hsucc] at hput

/-- A write whose words are good puts its bytes, repairs its words and ends with no error (05 R156). -/
theorem State.hWrite_clean {s : State} {g h off : Nat} {data : List Byte} (hc : ∀ w ∈ hWords (s.handle g h) off data.length, s.badBytes g w = 0) :
    s.hWrite g h off data = ((s.hPut g (s.handle g h) off data).freshWords g (hWords (s.handle g h) off data.length), 0) := by
  rw [State.hWrite, State.mergeWords_clean fun w hw => hc w (partialWords_subset _ _ _ hw)]
  simp

/-! ### What an operation's writes keep -/

/-- Between the two states core g has written ranges of its handles: nothing outside them has changed but the core's accumulators, which are
now `a`, and what the writes repair. -/
structure Written (s t : State) (g : Nat) (a : AccFile) (rs : List HRange) : Prop where
  spad : SpadBut s t g rs
  rest : t = { s with cores := t.cores, mem := t.mem }
  others : ∀ h, h ≠ g → t.core h = s.core h
  core : t.core g = { s.core g with acc := a, bad := (t.core g).bad, corrections := (t.core g).corrections }
  good : ∀ w, s.badBytes g w = 0 → t.badBytes g w = 0

theorem Written.refl (s : State) (g : Nat) (rs : List HRange) : Written s s g (s.core g).acc rs :=
  ⟨⟨rfl, fun _ _ => rfl⟩, rfl, fun _ _ => rfl, rfl, fun _ h => h⟩

/-- The accumulators rewritten, before anything is written to the scratchpad. -/
theorem Written.setAcc (s : State) (g : Nat) (a : AccFile) (rs : List HRange) : Written s (s.setCore g { s.core g with acc := a }) g a rs := by
  refine ⟨⟨rfl, fun _ _ => rfl⟩, rfl, fun h hh => State.core_setCore_ne _ _ hh, by rw [State.core_setCore_self], fun w hw => ?_⟩
  rwa [State.badBytes, State.core_setCore_self]

section
variable {s t : State} {g : Nat} {a : AccFile} {rs : List HRange}

theorem Written.handle (h : Written s t g a rs) (n : Nat) : t.handle g n = s.handle g n := by rw [State.handle, h.core, State.handle]

/-- Writing a part of a range of the list, its words good, ends with no error. -/
theorem Written.hWrite (h : Written s t g a rs) {r : HRange} (hr : r ∈ rs) {off : Nat} {data : List Byte} (hlo : r.off ≤ off)
    (hhi : off + data.length ≤ r.off + r.len) (hc : ∀ w ∈ hWords (s.handle g r.h) r.off r.len, s.badBytes g w = 0) :
    (t.hWrite g r.h off data).2 = 0 ∧ Written s (t.hWrite g r.h off data).1 g a rs := by
  have hv := h.handle r.h
  obtain ⟨⟨hmem, hspad⟩, hrest, hothers, hcore, hgood⟩ := h
  have hput := t.hPut_eq g (s.handle g r.h) off data
  rw [State.hWrite_clean fun w hw => hgood w (hc w (hWords_subset hlo hhi (hv ▸ hw))), hv]
  refine ⟨rfl, ?_⟩
  dsimp only
  generalize hWords (s.handle g r.h) off data.length = ws
  rw [hput, State.freshWords]
  refine ⟨⟨by rw [State.setCore, hmem], fun key hk => ?_⟩, by rw [State.setCore, hrest], fun n hn => ?_, ?_, fun w hw => ?_⟩
  · refine (State.hPut_spad_ne fun j hj => ?_).trans (hspad key hk)
    have := hk r hr (off + j - r.off) (by omega)
    rwa [Nat.add_sub_cancel' (by omega)] at this
  · rw [State.core_setCore_ne _ _ hn]
    exact hothers n hn
  · rw [State.core_setCore_self]
    exact congrArg (fun c : Core => { c with bad := bankDrop (fun w => ws.contains w) c.bad, corrections := c.corrections.filter (fun w => !ws.contains w) }) hcore
  · rw [State.badBytes, State.core_setCore_self]
    by_cases hm : ws.contains w = true
    · exact bankGet_bankDrop_dropped 0 _ hm
    · exact (bankGet_bankDrop_kept (q := fun w => ws.contains w) 0 _ (by simpa using hm)).trans (hgood w hw)

end

end Sys2Proof.Machine
end


section
/-! PROOFS. How a unit carries out an operation (03 R86 to R90; 05 R157, R163): its record is found and ended, the checks are made in
order, and an effect that writes only the ranges of its operation carries it out. -/
namespace Sys2Proof.Machine
open Sys2Proof

/-! ### The record of an operation -/

theorem State.id_of_toRun {s : State} {g id : Nat} {fam : Family} {o : MacroOp} (h : s.toRun g id fam = some o) : o.id = id := by
  obtain ⟨r, hr, rfl⟩ := Option.map_eq_some_iff.mp h
  have := List.find?_some hr
  simp only [Bool.and_eq_true, decide_eq_true_eq] at this
  obtain ⟨⟨⟨hid, -⟩, -⟩, -⟩ := this
  exact hid

theorem State.fam_of_toRun {s : State} {g id : Nat} {fam : Family} {o : MacroOp} (h : s.toRun g id fam = some o) : o.fam = fam := by
  obtain ⟨r, hr, rfl⟩ := Option.map_eq_some_iff.mp h
  have := List.find?_some hr
  simp only [Bool.and_eq_true, decide_eq_true_eq] at this
  obtain ⟨⟨⟨-, hfam⟩, -⟩, -⟩ := this
  exact hfam

/-- The operation's record is done. -/
def State.ended (s : State) (g : Nat) (o : MacroOp) (err flags : Nat) : State :=
  s.setCore g { s.core g with started := doneRuns (s.core g).started o.id err flags }

theorem State.core_ended (s : State) (g : Nat) (o : MacroOp) (err flags : Nat) :
    (s.ended g o err flags).core g = { s.core g with started := doneRuns (s.core g).started o.id err flags } := State.core_setCore_self ..

theorem State.core_ended_ne (s : State) {g h : Nat} (o : MacroOp) (err flags : Nat) (hn : h ≠ g) :
    (s.ended g o err flags).core h = s.core h := State.core_setCore_ne _ _ hn


/-- What an effect leaves of the state and of its operation's record. -/
def Effect.finish (e : Effect) (g : Nat) (o : MacroOp) : State :=
  if e.stays then e.st.setRun g o.id (fun r => { r with level := e.level })
  else if e.blocks then e.st.setRun g o.id (fun r => { r with blocked := true })
  else e.st.ended g o e.err e.flags

theorem State.runOp_eq {s : State} {g id : Nat} {fam : Family} {o : MacroOp} (ho : s.toRun g id fam = some o)
    (ht : isHeavy fam = false ∨ arg o .token < 96) (f : State → MacroOp → Effect) : s.runOp g id fam f = (f s o).finish g o := by
  have hrange : ¬ ((isHeavy fam && 96 ≤ arg o .token) = true) := by
    rcases ht with ht | ht
    · simp [ht]
    · simp [Nat.not_le.mpr ht]
  rw [State.runOp, ho, ← State.id_of_toRun ho]
  dsimp only
  rw [if_neg hrange]
  rfl

/-- A heavy operation whose token number is out of range ends with that code (01 R42). -/
theorem State.runOp_tokenRange {s : State} {g id : Nat} {fam : Family} {o : MacroOp} (ho : s.toRun g id fam = some o)
    (hh : isHeavy fam = true) (ht : 96 ≤ arg o .token) (f : State → MacroOp → Effect) :
    s.runOp g id fam f = s.ended g o E_PLAN_TOKEN_RANGE 0 := by
  have hrange : (isHeavy fam && 96 ≤ arg o .token) = true := by simp [hh, ht]
  rw [State.runOp, ho, ← State.id_of_toRun ho]
  dsimp only
  rw [if_pos hrange]
  rfl

/-- An effect that neither stays nor blocks ends the record with its error and flags. -/
theorem completes_of_effect {c : Instr} {s : State} {g id : Nat} {fam : Family} {f : State → MacroOp → Effect} {o : MacroOp} {e : Effect}
    {post : State → Prop} (hc : exec c s = .next (s.runOp g id fam f)) (ho : s.toRun g id fam = some o)
    (ht : isHeavy fam = false ∨ arg o .token < 96) (he : f s o = e) (hs : e.stays = false) (hb : e.blocks = false)
    (hp : post (e.st.ended g o e.err e.flags)) : Completes c s post := by
  refine ⟨_, hc, ?_⟩
  rw [State.runOp_eq ho ht, he, Effect.finish, hs, hb]
  exact hp

/-- An effect that stays leaves its record with the level it waits at. -/
theorem completes_of_stays {c : Instr} {s : State} {g id : Nat} {fam : Family} {f : State → MacroOp → Effect} {o : MacroOp} {e : Effect}
    {post : State → Prop} (hc : exec c s = .next (s.runOp g id fam f)) (ho : s.toRun g id fam = some o)
    (ht : isHeavy fam = false) (he : f s o = e) (hs : e.stays = true)
    (hp : post (e.st.setRun g o.id (fun r => { r with level := e.level }))) : Completes c s post := by
  refine ⟨_, hc, ?_⟩
  rw [State.runOp_eq ho (.inl ht), he, Effect.finish, hs]
  exact hp

/-- An effect that changes nothing but its record, which ends with an error. -/
theorem completes_of_error {c : Instr} {s : State} {g id : Nat} {fam : Family} {f : State → MacroOp → Effect} {o : MacroOp} {code : Nat}
    (hc : exec c s = .next (s.runOp g id fam f)) (ho : s.toRun g id fam = some o) (ht : isHeavy fam = false ∨ arg o .token < 96)
    (he : f s o = { st := s, err := code }) :
    Completes c s (fun t => t = { s with cores := t.cores } ∧ (∀ h, h ≠ g → t.core h = s.core h) ∧
      t.core g = { s.core g with started := doneRuns (s.core g).started o.id code 0 }) :=
  completes_of_effect hc ho ht he rfl rfl ⟨rfl, fun _ hn => State.core_ended_ne _ _ _ _ hn, State.core_ended ..⟩

/-! ### The checks, in order -/

theorem State.checked_shape {s : State} {g : Nat} {o : MacroOp} {shape : Nat} (h : shape ≠ 0) (f : State → Effect) :
    s.checked g o shape f = { st := s, err := shape } := if_pos h

theorem State.checked_access {s : State} {g : Nat} {o : MacroOp} {shape : Nat} (hs : shape = 0) (h : s.accessCode g o ≠ 0) (f : State → Effect) :
    s.checked g o shape f = { st := s, err := s.accessCode g o } := by
  rw [State.checked, if_neg (not_not.mpr hs)]
  exact if_pos h

theorem State.checked_word {s : State} {g : Nat} {o : MacroOp} {shape w : Nat} {ws : List Nat} (hs : shape = 0) (h : s.accessCode g o = 0)
    (hw : s.wordsOf g (opReads o) = w :: ws) (hb : 3 ≤ s.badBytes g w) (f : State → Effect) :
    s.checked g o shape f = { st := s.noteUe g w, err := E_SPAD_UNCORRECTABLE } := by
  rw [State.checked, if_neg (not_not.mpr hs), State.consume, hw, State.consumeWords_bad ws hb]
  dsimp only
  rw [if_neg (not_not.mpr h)]
  rfl

/-- The ranges of an operation whose words are good have good words. -/
theorem cleanOp.words {s : State} {g : Nat} {o : MacroOp} (h : cleanOp s g o) {r : HRange} (hr : r ∈ opReads o ++ opWrites o) :
    ∀ w ∈ hWords (s.handle g r.h) r.off r.len, s.badBytes g w = 0 :=
  fun w hw => h w (List.mem_flatMap.mpr ⟨r, hr, hw⟩)

theorem cleanOp.writes {s : State} {g : Nat} {o : MacroOp} (h : cleanOp s g o) {r : HRange} (hr : r ∈ opWrites o) :
    ∀ w ∈ hWords (s.handle g r.h) r.off r.len, s.badBytes g w = 0 := h.words (List.mem_append_right _ hr)

theorem cleanOp.consume {s : State} {g : Nat} {o : MacroOp} (h : cleanOp s g o) : s.consume g o = (s, 0) :=
  State.consumeWords_clean fun w hw => h w (by rw [State.wordsOf, List.flatMap_append]; exact List.mem_append_left _ hw)

/-- With every check passed and every word good, the effect is carried out; one that stays has changed nothing. -/
theorem State.checked_clean {s : State} {g : Nat} {o : MacroOp} {shape : Nat} (hs : shape = 0) (h : s.accessCode g o = 0) (hc : cleanOp s g o)
    (f : State → Effect) : s.checked g o shape f = if (f s).stays then { f s with st := s } else f s := by
  rw [State.checked, if_neg (not_not.mpr hs), hc.consume]
  dsimp only
  rw [if_neg (not_not.mpr h), if_neg (by simp)]

theorem State.checked_run {s : State} {g : Nat} {o : MacroOp} {shape : Nat} (hs : shape = 0) (h : s.accessCode g o = 0) (hc : cleanOp s g o)
    {f : State → Effect} (hf : (f s).stays = false) : s.checked g o shape f = f s := by
  rw [State.checked_clean hs h hc, hf, if_neg (by simp)]

/-! ### An effect that carries its operation out -/

/-- The effect ends without an error, having written only the ranges listed, and leaves the accumulators `a`. -/
structure Effect.Carries (e : Effect) (s : State) (g : Nat) (a : AccFile) (rs : List HRange) : Prop where
  err : e.err = 0
  stays : e.stays = false
  blocks : e.blocks = false
  written : Written s e.st g a rs

/-- The effect that ends with one write of a range whose words are good. -/
theorem Effect.Carries.of_hWrite {s u : State} {g : Nat} {a : AccFile} {rs : List HRange} (h : Written s u g a rs) {r : HRange} (hr : r ∈ rs)
    (hc : ∀ w ∈ hWords (s.handle g r.h) r.off r.len, s.badBytes g w = 0) {data : List Byte} (hl : data.length = r.len) (flags : Nat) :
    ({ st := (u.hWrite g r.h r.off data).1, err := (u.hWrite g r.h r.off data).2, flags := flags } : Effect).Carries s g a rs := by
  obtain ⟨herr, hw⟩ := h.hWrite hr (le_refl _) (by rw [hl]) hc
  exact ⟨herr, rfl, rfl, hw⟩

theorem Effect.Carries.carriedOut {e : Effect} {s : State} {g : Nat} {a : AccFile} {o : MacroOp} (h : e.Carries s g a (opWrites o)) :
    CarriedOut s (e.st.ended g o e.err e.flags) g o ∧ ((e.st.ended g o e.err e.flags).core g).acc = a := by
  obtain ⟨herr, -, -, hspad, hrest, hothers, hcore, -⟩ := h
  rw [State.ended, herr]
  generalize e.st = t at *
  refine ⟨⟨hspad, by rw [State.setCore, hrest], fun n hn => ?_, e.flags, ?_, ?_⟩, ?_⟩
  · rw [State.core_setCore_ne _ _ hn]
    exact hothers n hn
  · rw [State.core_setCore_self, hcore]
  · rw [State.core_setCore_self]
    conv_lhs => rw [hcore]
    rw [hcore]
  · rw [State.core_setCore_self, hcore]

/-- An operation whose effect carries it out. -/
theorem completes_of_carries {c : Instr} {s : State} {g id : Nat} {fam : Family} {f : State → MacroOp → Effect} {o : MacroOp} {e : Effect}
    {a : AccFile} (hc : exec c s = .next (s.runOp g id fam f)) (ho : s.toRun g id fam = some o)
    (ht : isHeavy fam = false ∨ arg o .token < 96) (he : f s o = e) (h : e.Carries s g a (opWrites o)) :
    Completes c s (fun t => CarriedOut s t g o ∧ (t.core g).acc = a) :=
  completes_of_effect hc ho ht he h.stays h.blocks h.carriedOut

end Sys2Proof.Machine
end


section
/-! PROOFS. The bytes that packed rows take (04 Table 4.1, Table 4.3): a list cut in pieces keeps its sizes, and what each unit writes has the
length of the range that its operation names. -/
namespace Sys2Proof.Machine
open Sys2Proof

@[simp] theorem length_leBytes (n v : Nat) : (leBytes n v).length = n := by simp [leBytes]

@[simp] theorem length_packRow (f : Fmt) (vals : List Nat) : (packRow f vals).length = rowBytes f vals.length := length_leBytes ..

theorem rowBytes_fp32 (n : Nat) : rowBytes .fp32 n = 4 * n := by
  change (n * 32 + 7) / 8 = 4 * n
  omega

/-- A sum over rows of one length. -/
theorem sum_map_const {α : Type} {l : List α} {g : α → Nat} {n : Nat} (h : ∀ x ∈ l, g x = n) : (l.map g).sum = l.length * n := by
  rw [List.map_congr_left h, List.map_const', List.sum_replicate, smul_eq_mul]

/-! ### A list in pieces -/

theorem length_chunks_le {α : Type} (n k : Nat) (l : List α) : (chunks n k l).length ≤ k := by
  induction k generalizing l with
  | zero => simp [chunks]
  | succ k ih =>
    rw [chunks]
    split
    · simp
    · simpa using ih (l.drop n)

theorem length_le_of_mem_chunks {α : Type} {n k : Nat} {l r : List α} (h : r ∈ chunks n k l) : r.length ≤ n := by
  induction k generalizing l with
  | zero => simp [chunks] at h
  | succ k ih =>
    rw [chunks] at h
    split at h
    · cases h
    · rcases List.mem_cons.mp h with rfl | h
      · simp
      · exact ih h

/-- What whole rows of n and a last row that may be short take, by what a row of a length takes. -/
def rowsTotal (g : Nat → Nat) (n len : Nat) : Nat := len / n * g n + if len % n = 0 then 0 else g (len % n)

/-- Enough pieces of n take what the list takes as whole rows and a last one. -/
theorem sum_chunks {α : Type} (g : Nat → Nat) {n k : Nat} (hn : 0 < n) {l : List α} (hk : l.length ≤ n * k) :
    ((chunks n k l).map (fun r => g r.length)).sum = rowsTotal g n l.length := by
  induction k generalizing l with
  | zero =>
    obtain rfl : l = [] := List.length_eq_zero_iff.mp (by omega)
    simp [chunks, rowsTotal]
  | succ k ih =>
    rw [chunks]
    cases l with
    | nil => simp [rowsTotal]
    | cons x l =>
      rw [if_neg (by simp), List.map_cons, List.sum_cons, ih (by rw [Nat.mul_succ] at hk; rw [List.length_drop]; omega)]
      rw [List.length_drop, List.length_take, rowsTotal, rowsTotal]
      rcases Nat.lt_or_ge (x :: l).length n with hlt | hge
      · rw [Nat.min_eq_right hlt.le, Nat.sub_eq_zero_of_le hlt.le, Nat.div_eq_of_lt hlt, Nat.mod_eq_of_lt hlt]
        simp
      · rw [Nat.min_eq_left hge, Nat.div_eq_sub_div hn hge, Nat.mod_eq_sub_mod hge, Nat.succ_mul]
        omega

theorem rowsTotal_id {n : Nat} (len : Nat) : rowsTotal id n len = len := by
  unfold rowsTotal
  have := Nat.div_add_mod len n
  rw [Nat.mul_comm] at this
  split <;> simp only [id] <;> omega

/-! ### Vectors (03 R97) -/

theorem vecCols_pos {o : MacroOp} : 0 < vecCols o := by
  unfold vecCols
  split <;> omega

/-- The rows of a vector hold its elements. -/
theorem len_le_vecRows (o : MacroOp) : arg o .len ≤ vecCols o * vecRows o := by
  have := Nat.lt_mul_div_succ (arg o .len + vecCols o - 1) (vecCols_pos (o := o))
  rw [Nat.mul_succ] at this
  unfold vecRows
  have := vecCols_pos (o := o)
  omega

/-- Packed rows of a vector's results take what its range holds. -/
theorem vecBytes_eq (o : MacroOp) (f : Fmt) : vecBytes o (some f) 0 = rowsTotal (rowBytes f) (vecCols o) (arg o .len) := rfl

theorem length_vecRows (o : MacroOp) (f : Fmt) {vals : List Nat} (h : vals.length = arg o .len) :
    ((chunks (vecCols o) (vecRows o) vals).flatMap (packRow f)).length = vecBytes o (some f) 0 := by
  rw [vecBytes_eq, ← h, ← sum_chunks (k := vecRows o) _ vecCols_pos (by rw [h]; exact len_le_vecRows o), List.length_flatMap]
  simp

/-! ### Scale rows (04 Table 4.3) -/

/-- REF and a scale for each block of 32 fit in a scale row. -/
theorem scales_le_scaleRowBytes {n c : Nat} (h : n ≤ (c + 31) / 32) : 4 + n ≤ scaleRowBytes c ∧ 32 ≤ scaleRowBytes c := by
  unfold scaleRowBytes
  omega

end Sys2Proof.Machine
end


section
/-! PROOFS. The units carry out their operations (03 R92 to R101): each effect writes the ranges that its operation names, and
nothing else. -/
namespace Sys2Proof.Machine
open Sys2Proof

section Units
variable {s : State} {g : Nat} {o : MacroOp}

/-- An effect that ends with one write of the range `r` of its operation. -/
theorem cleanOp.carries {u : State} {a : AccFile} (hc : cleanOp s g o) (hu : Written s u g a (opWrites o)) {r : HRange} (hr : r ∈ opWrites o)
    {data : List Byte} (hl : data.length = r.len) (flags : Nat) :
    ({ st := (u.hWrite g r.h r.off data).1, err := (u.hWrite g r.h r.off data).2, flags := flags } : Effect).Carries s g a (opWrites o) :=
  .of_hWrite hu hr (hc.writes hr) hl flags

/-! ### FILL, COPY and a MOVE within the core (03 R100, R101) -/

/-- The range that FILL and COPY write. -/
def dstRange (o : MacroOp) : HRange := { h := arg o .dstHandle, off := arg o .dstOff, len := arg o .size, align := 32 }

theorem dstRange_mem_fill (h : o.fam = .fill) : dstRange o ∈ opWrites o := by
  simp only [opWrites, h, dstRange, List.mem_singleton]

theorem dstRange_mem_copy (h : o.fam = .copy) : dstRange o ∈ opWrites o := by
  simp only [opWrites, h, dstRange, List.mem_singleton]

theorem dstRange_mem_move (h : o.fam = .move) (hd : arg o .dstKind = 0) : dstRange o ∈ opWrites o := by
  simp only [opWrites, h, if_pos hd, dstRange, List.mem_singleton]

@[simp] theorem State.length_hRead (s : State) (g h off len : Nat) : (s.hRead g h off len).length = len := by simp [State.hRead]

/-- The bytes of a FILL (03 R101). -/
def fillData (o : MacroOp) : List Byte := (List.range (arg o .size)).map (fun j => BitVec.ofNat 8 (arg o .pattern / 256 ^ (j % 4)))

/-- The effect that writes some bytes to the destination and no more. -/
def State.writesTo (s : State) (g : Nat) (o : MacroOp) (data : List Byte) : Effect :=
  { st := (s.hWrite g (arg o .dstHandle) (arg o .dstOff) data).1, err := (s.hWrite g (arg o .dstHandle) (arg o .dstOff) data).2 }

theorem cleanOp.writesTo (hc : cleanOp s g o) (hr : dstRange o ∈ opWrites o) {data : List Byte} (hl : data.length = arg o .size) :
    (s.writesTo g o data).Carries s g (s.core g).acc (opWrites o) := hc.carries (.refl s g _) hr hl 0

theorem State.fillEffect_run (ha : s.accessCode g o = 0) (hc : cleanOp s g o) : s.fillEffect g o = s.writesTo g o (fillData o) :=
  State.checked_run rfl ha hc rfl

theorem State.copyEffect_run (ha : s.accessCode g o = 0) (hc : cleanOp s g o) :
    s.copyEffect g o = s.writesTo g o (s.hRead g (arg o .srcHandle) (arg o .srcOff) (arg o .size)) :=
  State.checked_run rfl ha hc rfl

/-! ### MATMUL (03 R92, R93) -/

/-- The region that a MATMUL continues is open, with room for its products, on the bases that its scales give (03 R93; 04 R125). -/
def continuesRegion (s : State) (g : Nat) (o : MacroOp) (fa fb : Fmt) : Prop :=
  ∃ r, (s.core g).acc.regions.find? (fun r => r.base = arg o .accBase && r.m = arg o .m && r.n = arg o .n &&
      r.cls = (pairClass fa fb).getD 1) = some r ∧ r.kcount + arg o .k ≤ 1048576 ∧
    (r.cls = 1 → ∀ i < arg o .m, ∀ j < arg o .n, (bankGet {} (s.core g).acc.entries (arg o .accBase + (i * arg o .n + j))).b =
      regionBase (refOf (s.scaleRows g (arg o .hSA) fa (arg o .m) (arg o .k)) i) (refOf (s.scaleRows g (arg o .hSB) fb (arg o .n) (arg o .k)) j))

/-- Rows of n results, packed in order, take m rows. -/
theorem length_resultRows (f : Fmt) {m n : Nat} {res : List (Nat × Nat)} (h : res.length = m * n) :
    ((List.range m).flatMap (fun i => packRow f (((res.drop (i * n)).take n).map Prod.fst))).length = m * rowBytes f n := by
  rw [List.length_flatMap, sum_map_const (n := rowBytes f n), List.length_range]
  intro i hi
  have hin : (i + 1) * n ≤ m * n := Nat.mul_le_mul_right n (List.mem_range.mp hi)
  rw [Nat.succ_mul] at hin
  rw [length_packRow, List.length_map, List.length_take, List.length_drop, h, Nat.min_eq_left (by omega)]

theorem opWrites_matmul (h : o.fam = .matmul) (hw : arg o .wb = 1) :
    opWrites o = [{ h := arg o .hC, off := 0, len := matBytes (fmtArg o .fmtOut) (arg o .m) (arg o .n) }] := by
  simp only [opWrites, h, if_pos hw]

theorem State.matmulBody_carries {fa fb : Fmt} (hfam : o.fam = .matmul) (hc : cleanOp s g o) (hcont : arg o .cont ≠ 1 ∨ continuesRegion s g o fa fb)
    (hwb : arg o .wb = 1 → ∃ f, fmtArg o .fmtOut = some f) :
    ∃ a, (s.matmulBody g o fa fb ((pairClass fa fb).getD 1)).Carries s g a (opWrites o) := by
  unfold State.matmulBody
  extract_lets m n k base ta tb ra rb sa sb aRow bCol scaleNan flags c open_ cont bOf bs as entries others gone kept region f res data s1
  have hopen : ¬ ((cont && (open_.isNone || ((pairClass fa fb).getD 1 = 1 &&
      (List.range (m * n)).any (fun idx => (bankGet {} c.acc.entries (base + idx)).b ≠ bOf idx)))) = true) := by
    rcases hcont with hcont | ⟨r, hr, -, hb⟩
    · simp [cont, hcont]
    · have hcls : r.cls = (pairClass fa fb).getD 1 := by
        have := List.find?_some hr
        simp only [Bool.and_eq_true, decide_eq_true_eq] at this
        exact this.2
      rw [show open_ = some r from hr, ← hcls]
      simp only [Option.isNone_some, Bool.false_or, Bool.and_eq_true, decide_eq_true_eq, List.any_eq_true, List.mem_range]
      rintro ⟨-, hone, idx, hidx, hne⟩
      have hn : 0 < n := Nat.pos_of_ne_zero (fun hn => by simp [hn] at hidx)
      have := hb hone (idx / n) (Nat.div_lt_of_lt_mul (by rwa [Nat.mul_comm] at hidx)) (idx % n) (Nat.mod_lt _ hn)
      rw [Nat.div_add_mod'] at this
      exact hne this
  have hroom : ¬ ((cont && 1048576 < open_.elim 0 Region.kcount + k) = true) := by
    rcases hcont with hcont | ⟨r, hr, hk, -⟩
    · simp [cont, hcont]
    · rw [show open_ = some r from hr]
      rw [Option.elim_some, Bool.and_eq_true]
      exact fun h => absurd (of_decide_eq_true h.2) (Nat.not_lt.mpr hk)
  rw [if_neg hopen, if_neg hroom]
  by_cases hw : arg o .wb = 1
  · rw [if_pos hw]
    obtain ⟨fo, hfo⟩ := hwb hw
    have hwrites := opWrites_matmul hfam hw
    rw [hfo] at hwrites
    refine ⟨_, hc.carries (r := { h := arg o .hC, off := 0, len := matBytes (some fo) m n }) (data := data)
      (.setAcc s g { regions := others, entries := kept } _) (by rw [hwrites]; exact List.mem_singleton_self _) ?_ _⟩
    have hf : f = fo := by simp [f, hfo]
    exact hf ▸ length_resultRows f (by simp [res, entries])
  · rw [if_neg hw]
    exact ⟨_, rfl, rfl, rfl, .setAcc s g _ _⟩
/-! ### ATTN (03 R95, R96) -/

/-- A step of a query row keeps the length of its output. -/
theorem length_attnStep (r : AttnRow) (scores : List Val) (vs : List (List Val)) : (attnStep r scores vs).1.o.length = r.o.length := by
  unfold attnStep
  extract_lets mNew
  split
  · rfl
  · simp

/-- The running state's range, and that of the output where it is written. -/
def attnStateRange (o : MacroOp) : HRange := { h := arg o .hState, off := 0, len := arg o .rows * (8 + 4 * arg o .headDim) }
def attnOutRange (o : MacroOp) : HRange := { h := arg o .hOut, off := 0, len := matBytes (fmtArg o .fmtOut) (arg o .rows) (arg o .headDim) }

theorem opWrites_attn (h : o.fam = .attn) : opWrites o = attnStateRange o :: if arg o .final = 1 then [attnOutRange o] else [] := by
  simp only [opWrites, h]
  rfl

theorem State.attnBody_carries (fq fk fv : Fmt) (hfam : o.fam = .attn) (hc : cleanOp s g o)
    (hout : arg o .final = 1 → ∃ f, fmtArg o .fmtOut = some f) :
    (s.attnBody g o fq fk fv).Carries s g (s.core g).acc (opWrites o) := by
  have hwrites := opWrites_attn hfam
  unfold State.attnBody
  extract_lets q d b scale rq rk rv sq sk sv maskRows nanRow qs ks vcols vs scaleNan rows flags state f outs
  have hrows : ∀ x ∈ rows, x.1.o.length = d := fun x hx => by
    obtain ⟨i, -, rfl⟩ := List.mem_map.mp hx
    refine (length_attnStep ..).trans ?_
    split <;> simp [attnRowAt]
  have hstate : state.length = arg o .rows * (8 + 4 * arg o .headDim) := by
    rw [List.length_flatMap, sum_map_const (n := 8 + 4 * d) fun x hx => by
      simp only [length_packRow, List.length_cons, List.length_map, hrows x hx, rowBytes_fp32]; omega]
    simp [rows, q, d]
  have hs : attnStateRange o ∈ opWrites o := by rw [hwrites]; exact List.mem_cons_self ..
  obtain ⟨herr, hw⟩ := (Written.refl s g (opWrites o)).hWrite hs (off := 0) (data := state) (le_refl _) (by rw [hstate]; rfl) (hc.writes hs)
  change (s.hWrite g (arg o .hState) 0 state).2 = 0 at herr
  change Written s (s.hWrite g (arg o .hState) 0 state).1 g _ _ at hw
  generalize s.hWrite g (arg o .hState) 0 state = x at herr hw ⊢
  obtain ⟨t, e⟩ := x
  dsimp only at herr hw ⊢
  rw [herr, if_neg (not_not.mpr rfl)]
  split
  · rename_i hfinal
    obtain ⟨fo, hfo⟩ := hout hfinal
    rw [if_pos hfinal] at hwrites
    refine hc.carries (r := attnOutRange o) hw (by rw [hwrites]; simp) ?_ _
    have hf : f = fo := by simp [f, hfo]
    have houts : ∀ r ∈ outs, (packRow f (r.map Prod.fst)).length = rowBytes f d := fun r hr => by
      obtain ⟨x, hx, rfl⟩ := List.mem_map.mp hr
      rw [length_packRow, List.length_map, List.length_map, List.length_zipIdx, hrows x.1 (List.fst_mem_of_mem_zipIdx hx)]
    rw [List.length_flatMap, sum_map_const houts, attnOutRange, hfo, hf]
    simp [outs, rows, matBytes, q, d]
  · exact ⟨rfl, rfl, rfl, hw⟩

/-! ### VEC (03 R97; 04 R143) -/

/-- The ranges of the results, and of their scale rows where the destination is an MX format. -/
def vecDstRange (o : MacroOp) : HRange :=
  { h := arg o .dst, off := 0, len := if arg o .accumulate = 1 then 8 else vecBytes o (fmtArg o .fmtOut) 0 }
def vecScaleRange (o : MacroOp) : HRange := { h := arg o .hSC, off := 0, len := vecRows o * scaleRowBytes (vecCols o) }

theorem opWrites_vec (h : o.fam = .vec) : opWrites o = vecDstRange o :: if isMx (fmtArg o .fmtOut) then [vecScaleRange o] else [] := by
  simp only [opWrites, h]
  rfl

theorem vecDstRange_mem (h : o.fam = .vec) : vecDstRange o ∈ opWrites o := by
  rw [opWrites_vec h]
  exact List.mem_cons_self ..

/-- A VEC whose checks pass names a destination format. -/
theorem fmtOut_of_vecCode (h : vecCode o = 0) : ∃ f, fmtArg o .fmtOut = some f := by
  rcases hf : fmtArg o .fmtOut with _ | f
  · have hnone : ((List.range (vecSources (arg o .vop))).map (fun j => fmtArg o (vecSource j).2.1) ++ [fmtArg o .fmtOut]).any Option.isNone = true := by
      simp [hf]
    unfold vecCode at h
    dsimp only at h
    rw [if_pos hnone] at h
    split_ifs at h <;> cases h
  · exact ⟨f, rfl⟩

/-- The elements of a row of blocks are as many as the row's values. -/
theorem length_mxRow (f : Fmt) (o : MacroOp) (first : Nat) {c : Nat} {vals : List Val} (h : vals.length ≤ c) :
    (((chunks 32 ((c + 31) / 32) vals).zip ((chunks 32 ((c + 31) / 32) vals).map (mxScale f))).zipIdx.flatMap
      (fun b => mxElems f o (first + b.2 * 32) b.1.2 b.1.1)).length = vals.length := by
  have hlen (blocks : List (List Val)) : ((blocks.zip (blocks.map (mxScale f))).zipIdx.map (fun b => b.1.1.length)) = blocks.map List.length := by
    refine List.ext_getElem (by simp) fun i _ _ => by simp
  rw [List.length_flatMap]
  simp only [mxElems, List.length_map, List.length_zipIdx, hlen]
  exact (sum_chunks id (by decide) (by omega)).trans (rowsTotal_id _)

/-- A scale row, its REF raised to the largest scale, lies in the scale tensor's range: its word is read and it is written (04 R143). -/
theorem Written.scaleRow {t : State} {a : AccFile} (h : Written s t g a (opWrites o)) (hc : cleanOp s g o) (hr : vecScaleRange o ∈ opWrites o)
    {i : Nat} (hi : i < vecRows o) {scs : List Nat} (hn : scs.length ≤ (vecCols o + 31) / 32) (ref : Nat) :
    t.consumeWords g (hWords (t.handle g (arg o .hSC)) (i * scaleRowBytes (vecCols o)) 32) = (t, 0) ∧
    (t.hWrite g (arg o .hSC) (i * scaleRowBytes (vecCols o)) (leBytes 4 ref ++ scs.map (BitVec.ofNat 8))).2 = 0 ∧
    Written s (t.hWrite g (arg o .hSC) (i * scaleRowBytes (vecCols o)) (leBytes 4 ref ++ scs.map (BitVec.ofNat 8))).1 g a (opWrites o) := by
  obtain ⟨hfit, hword⟩ := scales_le_scaleRowBytes hn
  have hrow : (i + 1) * scaleRowBytes (vecCols o) ≤ vecRows o * scaleRowBytes (vecCols o) := Nat.mul_le_mul_right _ hi
  rw [Nat.succ_mul] at hrow
  refine ⟨State.consumeWords_clean fun w hw => ?_, h.hWrite hr (Nat.zero_le _) ?_ (hc.writes hr)⟩
  · rw [h.handle] at hw
    exact h.good w (hc.writes hr w (hWords_subset (Nat.zero_le _) (by rw [vecScaleRange]; dsimp only; omega) hw))
  · rw [List.length_append, length_leBytes, List.length_map]
    have hend : (vecScaleRange o).off + (vecScaleRange o).len = vecRows o * scaleRowBytes (vecCols o) := Nat.zero_add _
    omega

/-- Results written to an MX destination, with their scale rows, end without an error (04 R143). -/
theorem State.writeMx_written {f : Fmt} (hfam : o.fam = .vec) (hc : cleanOp s g o) (hf : fmtArg o .fmtOut = some f) (hmx : (fmtInfo f).mx = true)
    (hacc : arg o .accumulate ≠ 1) {vals : List Val} (hv : vals.length = arg o .len) :
    (s.writeMx g o f vals).2.1 = 0 ∧ Written s (s.writeMx g o f vals).1 g (s.core g).acc (opWrites o) := by
  have hdst := vecDstRange_mem hfam
  have hscale : vecScaleRange o ∈ opWrites o := by
    rw [opWrites_vec hfam, if_pos (by rw [hf]; exact hmx)]
    simp
  unfold State.writeMx
  extract_lets c rows packed data flags w
  have hrow : ∀ x ∈ packed.zipIdx, x.2 < vecRows o ∧ x.1.2.length ≤ (c + 31) / 32 := fun x hx => by
    have hlen : packed.length ≤ vecRows o := by simpa [packed] using length_chunks_le c (vecRows o) vals
    refine ⟨lt_of_lt_of_le (List.snd_lt_of_mem_zipIdx hx) hlen, ?_⟩
    obtain ⟨r, -, hr⟩ := List.mem_map.mp (List.fst_mem_of_mem_zipIdx hx)
    rw [← hr, List.length_map]
    exact length_chunks_le ..
  have hdata : data.length = vecBytes o (some f) 0 := by
    have hpacked : packed.map (fun r => (packRow f (r.1.map Prod.fst)).length) = rows.map (fun r => rowBytes f r.length) := by
      refine List.ext_getElem (by simp [packed]) fun i hi hj => ?_
      have hr : rows[i]'(by simpa [packed] using hi) ∈ rows := List.getElem_mem _
      simp only [packed, List.getElem_map, length_packRow, List.length_map, List.getElem_zipIdx]
      rw [length_mxRow f o _ (length_le_of_mem_chunks hr)]
    rw [List.length_flatMap, hpacked, vecBytes_eq, ← hv]
    exact sum_chunks _ vecCols_pos (hv ▸ len_le_vecRows o)
  obtain ⟨herr, hw⟩ := (Written.refl s g (opWrites o)).hWrite hdst (off := 0) (data := data) (le_refl _)
    (by rw [hdata, vecDstRange, if_neg hacc, hf]) (hc.writes hdst)
  change (s.hWrite g (arg o .dst) 0 data).2 = 0 at herr
  change Written s (s.hWrite g (arg o .dst) 0 data).1 g _ _ at hw
  generalize s.hWrite g (arg o .dst) 0 data = x at herr hw ⊢
  obtain ⟨t, e⟩ := x
  dsimp only at herr hw ⊢
  rw [herr, if_neg (not_not.mpr rfl)]
  refine List.foldlRecOn (motive := fun x : State × Nat => x.2 = 0 ∧ Written s x.1 g (s.core g).acc (opWrites o)) packed.zipIdx _ ⟨rfl, hw⟩
    fun x hx r hr => ?_
  obtain ⟨u, e⟩ := x
  obtain ⟨he, hu⟩ := hx
  obtain ⟨hi, hn⟩ := hrow r hr
  obtain ⟨hread, hwrite⟩ := hu.scaleRow hc hscale hi hn (r.1.2.foldl max ((u.hRead g (arg o .hSC) (r.2 * w) 1).headD 0).toNat)
  dsimp only at he ⊢
  rw [he, if_neg (not_not.mpr rfl), hread]
  exact hwrite

theorem State.vecBody_carries {f : Fmt} (hfam : o.fam = .vec) (hc : cleanOp s g o) (hf : fmtArg o .fmtOut = some f) :
    (s.vecBody g o f).Carries s g (s.core g).acc (opWrites o) := by
  have hdst := vecDstRange_mem hfam
  unfold State.vecBody
  extract_lets vop k src z
  generalize src 0 = s0, src 1 = s1, src 2 = s2
  obtain ⟨a, na⟩ := s0
  obtain ⟨b, nb⟩ := s1
  obtain ⟨c, nc⟩ := s2
  dsimp only
  generalize (if (na || nb || nc) = true then flScaleNan else 0) = sn
  split
  · rename_i hone
    exact hc.carries (.refl s g _) hdst (by rw [length_leBytes, vecDstRange, if_pos hone]) _
  · rename_i hone
    generalize hres : (List.range (arg o .len)).map (fun e => vecResult vop (arg o .pred) (f = .fp32) (a.getD e z) (b.getD e z) (c.getD e z)) = res
    have hlen : res.length = arg o .len := by rw [← hres, List.length_map, List.length_range]
    split
    · rename_i hmx
      obtain ⟨herr, hw⟩ := State.writeMx_written hfam hc hf hmx hone (vals := res.map Prod.fst) (by rw [List.length_map, hlen])
      exact ⟨herr, rfl, rfl, hw⟩
    · refine hc.carries (.refl s g _) hdst ?_ _
      rw [length_vecRows o f (by simpa using hlen), vecDstRange, if_neg hone, hf]

end Units
end Sys2Proof.Machine
end


section
/-! PROOFS. The outcomes of the units (03 R86 to R88, R92 to R101): the checks of each family and what it does once they pass. -/
namespace Sys2Proof.Machine
open Sys2Proof

section Units
variable {s : State} {g : Nat} {o : MacroOp}

/-! ### What a family's checks say once they pass -/

theorem fmtOut_of_matmulCode (h : matmulCode o = 0) (hw : arg o .wb = 1) : ∃ f, fmtArg o .fmtOut = some f := by
  unfold matmulCode at h
  dsimp only at h
  split at h
  · cases h
  split at h
  · split at h
    · cases h
    split at h
    · cases h
    rename_i hout
    rcases hf : fmtArg o .fmtOut with _ | f
    · simp [hw, hf] at hout
    · exact ⟨f, rfl⟩
  · cases h

theorem fmts_of_attnCode (h : attnCode o = 0) : ∃ q k v, fmtArg o .fmt1 = some q ∧ fmtArg o .fmt2 = some k ∧ fmtArg o .fmt3 = some v ∧
    (arg o .final = 1 → ∃ f, fmtArg o .fmtOut = some f) := by
  unfold attnCode at h
  dsimp only at h
  split at h
  · cases h
  split at h
  · rename_i q k v hq hk hv
    split at h
    · cases h
    split at h
    · cases h
    rename_i hout
    refine ⟨q, k, v, hq, hk, hv, fun hfinal => ?_⟩
    rcases hf : fmtArg o .fmtOut with _ | f
    · simp [hfinal, hf] at hout
    · exact ⟨f, rfl⟩
  · cases h

theorem fmts_of_reduceCode (h : reduceCode o = 0) : ∃ a f, fmtArg o .fmt1 = some a ∧ fmtArg o .fmtOut = some f := by
  unfold reduceCode at h
  split at h
  · cases h
  split at h
  · cases h
  split at h
  · exact ⟨_, _, ‹_›, ‹_›⟩
  · cases h

/-! ### The effects, once the checks pass -/

section Run
variable (ha : s.accessCode g o = 0) (hc : cleanOp s g o)
include ha hc

theorem matmulEffect_run (hm : matmulCode o = 0) {fa fb : Fmt} (hfa : fmtArg o .fmtA = some fa) (hfb : fmtArg o .fmtB = some fb)
    (hs : (s.matmulBody g o fa fb ((pairClass fa fb).getD 1)).stays = false) :
    s.matmulEffect g o = s.matmulBody g o fa fb ((pairClass fa fb).getD 1) := by
  unfold State.matmulEffect
  simp only [hfa, hfb]
  exact State.checked_run hm ha hc hs

theorem attnEffect_carries (hfam : o.fam = .attn) (hm : attnCode o = 0) : (s.attnEffect g o).Carries s g (s.core g).acc (opWrites o) := by
  obtain ⟨q, k, v, hq, hk, hv, hout⟩ := fmts_of_attnCode hm
  have hcarry := State.attnBody_carries (s := s) (g := g) q k v hfam hc hout
  unfold State.attnEffect
  simp only [hq, hk, hv]
  rwa [State.checked_run hm ha hc hcarry.stays]

theorem vecEffect_run (hfam : o.fam = .vec) (hm : vecCode o = 0) {f : Fmt} (hf : fmtArg o .fmtOut = some f) : s.vecEffect g o = s.vecBody g o f := by
  have hcarry := State.vecBody_carries (s := s) (g := g) hfam hc hf
  unfold State.vecEffect
  simp only [hf, Option.getD_some]
  exact State.checked_run hm ha hc hcarry.stays

theorem vecEffect_carries (hfam : o.fam = .vec) (hm : vecCode o = 0) : (s.vecEffect g o).Carries s g (s.core g).acc (opWrites o) := by
  obtain ⟨f, hf⟩ := fmtOut_of_vecCode hm
  rw [vecEffect_run ha hc hfam hm hf]
  exact State.vecBody_carries hfam hc hf

theorem reduceEffect_carries (hfam : o.fam = .reduce) (hm : reduceCode o = 0) : (s.reduceEffect g o).Carries s g (s.core g).acc (opWrites o) := by
  obtain ⟨a, f, hfa, hf⟩ := fmts_of_reduceCode hm
  have hwrites : opWrites o = [{ h := arg o .dst, off := 0, len := matBytes (some f) 1 (arg o .rows) }] := by simp only [opWrites, hfam, hf]
  have hcarry : (s.reduceBody g o a f).Carries s g (s.core g).acc (opWrites o) := by
    refine hc.carries (r := { h := arg o .dst, off := 0, len := matBytes (some f) 1 (arg o .rows) }) (.refl s g _) (by rw [hwrites]; simp) ?_ _
    simp [matBytes]
  unfold State.reduceEffect
  simp only [hfa, hf]
  rwa [State.checked_run hm ha hc hcarry.stays]

/-- A MOVE whose far sides pass their checks too. -/
theorem moveEffect_run {full : List HeadWait} (hsk : arg o .srcKind ≤ 4) (hdk : arg o .dstKind ≤ 3) (hsrc : s.moveSrcCode g o = 0)
    (hdst : s.moveDstCode g o = 0) :
    s.moveEffect g full o = if (s.moveBody g full o).stays then { s.moveBody g full o with st := s } else s.moveBody g full o := by
  rw [State.moveEffect, if_neg (by simp; omega), State.checked_clean rfl ha hc]
  simp only [hsrc, hdst, ne_eq, not_true_eq_false, if_false]

end Run

theorem moveSrcCode_local (h : arg o .srcKind = 0) : s.moveSrcCode g o = 0 := by
  unfold State.moveSrcCode
  simp only [h]

/-- A MOVE within the core that gives no counter writes its data to the destination (03 R100). -/
theorem moveEffect_local (ha : s.accessCode g o = 0) (hc : cleanOp s g o) (full : List HeadWait) (hsk : arg o .srcKind = 0)
    (hdk : arg o .dstKind = 0) (hsig : arg o .sigAmount % 2 ^ 16 = 0) :
    s.moveEffect g full o = s.writesTo g o (s.hRead g (arg o .srcHandle) (arg o .srcOff) (arg o .size)) := by
  have hdst : s.moveDstCode g o = 0 := by
    unfold State.moveDstCode
    simp only [hdk]
  have hown (t : State) : t.ownSignal g o.args = t := if_pos (by
    rw [Bool.or_eq_true]
    exact .inl (decide_eq_true hsig))
  have hbody : s.moveBody g full o = s.writesTo g o (s.hRead g (arg o .srcHandle) (arg o .srcOff) (arg o .size)) := by
    unfold State.moveBody
    simp only [hsk, hdk, if_true, hown, ite_self]
    rfl
  rw [moveEffect_run ha hc (by omega) (by omega) (moveSrcCode_local hsk) hdst, hbody]
  rfl

/-- The limits of MATMUL (03 R92). -/
theorem matmulCode_shape (h : arg o .m = 0 ∨ 256 < arg o .m ∨ 256 < arg o .n ∨ 4096 < arg o .m * arg o .n ∨ 1048576 < arg o .k ∨
    4096 < arg o .accBase + arg o .m * arg o .n) : matmulCode o = E_CORE_SHAPE := by
  refine if_pos ?_
  simp only [Bool.or_eq_true, decide_eq_true_eq]
  tauto

/-- A COPY whose first word read is uncorrectable (05 R157). -/
theorem copy_uncorrectable {id w : Nat} {ws : List Nat} (ho : s.toRun g id .copy = some o) (ha : s.accessCode g o = 0)
    (hw : s.wordsOf g (opReads o) = w :: ws) (hb : 3 ≤ s.badBytes g w) :
    Completes (.copy g id) s (fun t => t.mem = s.mem ∧ (t.core g).started = doneRuns (s.core g).started o.id E_SPAD_UNCORRECTABLE 0 ∧
      t.fld .SPAD_UE_ADDR_ADDR g = w * 32 % 2 ^ 19 ∧ t.fld .SPAD_UE_ADDR_VALID g = 1 ∧
      RegsBut s t [(.SPAD_UE, g), (.SPAD_UE_ADDR_ADDR, g), (.SPAD_UE_ADDR_VALID, g)]) := by
  obtain ⟨haddr, hvalid, -, hregs⟩ := s.noteUe_spec g w
  refine completes_of_effect rfl ho (.inl rfl) (State.checked_word rfl ha hw hb _) rfl rfl ⟨rfl, ?_, haddr, hvalid, hregs⟩
  rw [State.core_ended]
  rfl

end Units

theorem Completes.mono {c : Instr} {s : State} {p q : State → Prop} (h : Completes c s p) (hpq : ∀ t, p t → q t) : Completes c s q := by
  obtain ⟨t, ht, hp⟩ := h
  exact ⟨t, ht, hpq t hp⟩

/-- Settles O11: a family whose checks pass writes only its ranges; one whose checks fail ends with the first code and no other effect. -/
theorem unitOutcomes : Obligations.UnitOutcomes := by
  refine ⟨fun g id o fa fb s ho ht hm ha hc hfa hfb hcont => ?_, fun g id o s ho ht hm ha hc => ?_, fun g id o s ho hm ha hc => ?_,
    fun g id o s ho hm ha hc => ?_, fun g id o s ho ha hc => ?_, fun g id o s ho ha hc => ?_, fun g id full o s ho hsk hdk hsig ha hc => ?_,
    fun g id o s ho ht hm => ?_, fun g id o s ho ht => ?_, fun _ h => matmulCode_shape h, fun g id o s ho ht hm ha => ?_,
    fun g id o s ho hm => ?_, fun g id w ws o s ho ha hw hb => copy_uncorrectable ho ha hw hb⟩
  · obtain ⟨a, hcarry⟩ := State.matmulBody_carries (State.fam_of_toRun ho) hc hcont (fmtOut_of_matmulCode hm)
    exact (completes_of_carries rfl ho (.inr ht) (matmulEffect_run ha hc hm hfa hfb hcarry.stays) hcarry).mono fun _ h => h.1
  · exact completes_of_carries rfl ho (.inr ht) rfl (attnEffect_carries ha hc (State.fam_of_toRun ho) hm)
  · exact completes_of_carries rfl ho (.inl rfl) rfl (vecEffect_carries ha hc (State.fam_of_toRun ho) hm)
  · exact completes_of_carries rfl ho (.inl rfl) rfl (reduceEffect_carries ha hc (State.fam_of_toRun ho) hm)
  · exact completes_of_carries rfl ho (.inl rfl) (State.fillEffect_run ha hc) (hc.writesTo (dstRange_mem_fill (State.fam_of_toRun ho)) (by simp [fillData]))
  · exact completes_of_carries rfl ho (.inl rfl) (State.copyEffect_run ha hc) (hc.writesTo (dstRange_mem_copy (State.fam_of_toRun ho)) (by simp))
  · exact completes_of_carries rfl ho (.inl rfl) (moveEffect_local ha hc full hsk hdk hsig)
      (hc.writesTo (dstRange_mem_move (State.fam_of_toRun ho) hdk) (by simp))
  · exact (completes_of_error rfl ho (.inr ht) (State.checked_shape hm _)).mono fun _ h => ⟨h.1, h.2.2⟩
  · exact ⟨s.ended g o E_PLAN_TOKEN_RANGE 0, congrArg Host.Outcome.next (State.runOp_tokenRange ho rfl ht _), rfl, State.core_ended ..⟩
  · exact (completes_of_error rfl ho (.inr ht) (State.checked_access hm ha _)).mono fun _ h => ⟨h.1, h.2.2⟩
  · exact (completes_of_error rfl ho (.inl rfl) (State.checked_shape hm _)).mono fun _ h => ⟨h.1, h.2.2⟩

end Sys2Proof.Machine
end


section
/-! PROOFS. What the units leave (03 R97, R101; 04 R120, R124, R125, R139, R142): a handle's offsets have addresses of their own, bytes packed
in a row read back, and the INT8 sums and products are exact. -/
namespace Sys2Proof.Machine
open Sys2Proof

/-! ### The addresses of a handle (05 R160) -/

theorem hBanks_nodup (v : Nat) : (hBanks v).Nodup := List.nodup_range.filter _

theorem hBanks_length_pos {v : Nat} (h : hMask v ≠ 0) : 0 < (hBanks v).length := by
  obtain ⟨i, hi⟩ := Nat.exists_testBit_of_ne_zero h
  have hlt : i < 16 := by
    by_contra hge
    rw [hMask, Nat.testBit_mod_two_pow] at hi
    simp [hge] at hi
  exact List.length_pos_of_mem (List.mem_filter.mpr ⟨List.mem_range.mpr hlt, hi⟩)

/-- Words of a handle within its size and its banks have numbers of their own. -/
theorem hWord_inj {v w x : Nat} (hm : hMask v ≠ 0) (hb : hBase v + hRows v ≤ 1024) (hw : w < hSize v) (hx : x < hSize v)
    (h : hWord v w = hWord v x) : w = x := by
  have hn := hBanks_length_pos hm
  have row {y : Nat} (hy : y < hSize v) : hBase v + y / (hBanks v).length < 1024 := by
    have : y / (hBanks v).length < hRows v := by
      rw [hRows, Nat.div_lt_iff_lt_mul hn]
      have := Nat.lt_mul_div_succ (hSize v + (hBanks v).length - 1) hn
      rw [Nat.mul_succ, Nat.mul_comm] at this
      omega
    omega
  have hroww := row hw
  have hrowx := row hx
  unfold hWord at h
  dsimp only at h
  have split {p q b c : Nat} (hp : hBase v + p < 1024) (hq : hBase v + q < 1024) (he : b * 1024 + (hBase v + p) = c * 1024 + (hBase v + q)) :
      p = q ∧ b = c := by omega
  obtain ⟨hdiv, hbank⟩ := split hroww hrowx h
  rw [List.getD_eq_getElem _ _ (Nat.mod_lt _ hn), List.getD_eq_getElem _ _ (Nat.mod_lt _ hn)] at hbank
  have hmod := (hBanks_nodup v).getElem_inj_iff.mp hbank
  rw [← Nat.div_add_mod w (hBanks v).length, ← Nat.div_add_mod x (hBanks v).length, hdiv, hmod]

theorem hAddr_inj {v a b : Nat} (hm : hMask v ≠ 0) (hb : hBase v + hRows v ≤ 1024) (ha : a < hSize v * 32) (hb' : b < hSize v * 32)
    (h : hAddr v a = hAddr v b) : a = b := by
  unfold hAddr at h
  have hword : hWord v (a / 32) = hWord v (b / 32) := by omega
  have := hWord_inj hm hb (by omega) (by omega) hword
  omega

/-! ### The handle checks (05 R163) -/

theorem State.bounds_of_handleCode {s : State} {g h off len align : Nat} {perm : Perm} (hc : s.handleCode g h perm off len align = 0) :
    off + len ≤ hSize (s.handle g h) * 32 := by
  unfold State.handleCode at hc
  dsimp only at hc
  split at hc
  · cases hc
  split at hc
  · cases hc
  split at hc
  · cases hc
  split at hc
  · cases hc
  · omega

theorem State.rangesCode_mem {s : State} {g : Nat} {perm : Perm} {rs : List HRange} (h : s.rangesCode g perm rs = 0) {r : HRange} (hr : r ∈ rs) :
    s.handleCode g r.h perm r.off r.len r.align = 0 := by
  induction rs with
  | nil => cases hr
  | cons x rs ih =>
    rw [State.rangesCode] at h
    split at h
    · rename_i hx
      rcases List.mem_cons.mp hr with rfl | hr
      · exact hx
      · exact ih h hr
    · contradiction

theorem State.bounds_of_accessCode {s : State} {g : Nat} {o : MacroOp} (h : s.accessCode g o = 0) {r : HRange} (hr : r ∈ opWrites o) :
    r.off + r.len ≤ hSize (s.handle g r.h) * 32 := by
  unfold State.accessCode at h
  dsimp only at h
  split at h
  · exact bounds_of_handleCode (rangesCode_mem h (List.mem_append_left _ hr))
  · contradiction

/-! ### A range written reads back -/

/-- An operation that writes a whole range of a handle within its banks leaves each byte of it as written. -/
theorem cleanOp.hWrite_byte {s : State} {g : Nat} {o : MacroOp} (hc : cleanOp s g o) (ha : s.accessCode g o = 0) {r : HRange} (hr : r ∈ opWrites o)
    (hm : hMask (s.handle g r.h) ≠ 0) (hb : hBase (s.handle g r.h) + hRows (s.handle g r.h) ≤ 1024) {data : List Byte} (hl : data.length = r.len)
    {j : Nat} (hj : j < data.length) : (s.hWrite g r.h r.off data).1.spadByte g (hAddr (s.handle g r.h) (r.off + j)) = data[j] := by
  have hbound := State.bounds_of_accessCode ha hr
  rw [State.hWrite_clean (by rw [hl]; exact hc.writes hr)]
  exact State.hPut_spad_at (s := s) (g := g) (v := s.handle g r.h) (off := r.off) (fun i hi k hk he => by
    have := hAddr_inj hm hb (by omega) (by omega) he
    omega) hj

theorem fill_byte {s : State} {g id j : Nat} {o : MacroOp} (ho : s.toRun g id .fill = some o) (ha : s.accessCode g o = 0) (hc : cleanOp s g o)
    (hm : hMask (s.handle g (arg o .dstHandle)) ≠ 0) (hb : hBase (s.handle g (arg o .dstHandle)) + hRows (s.handle g (arg o .dstHandle)) ≤ 1024)
    (hj : j < arg o .size) :
    Completes (.fill g id) s (fun t => t.spadByte g (hAddr (s.handle g (arg o .dstHandle)) (arg o .dstOff + j)) =
      BitVec.ofNat 8 (arg o .pattern / 256 ^ (j % 4))) := by
  have hr := dstRange_mem_fill (State.fam_of_toRun ho)
  have hcarry := hc.writesTo hr (data := fillData o) (by simp [fillData])
  refine completes_of_effect rfl ho (.inl rfl) (State.fillEffect_run ha hc) hcarry.stays hcarry.blocks ?_
  refine (hc.hWrite_byte ha hr hm hb (data := fillData o) (by simp [fillData, dstRange]) (j := j) (by simpa [fillData] using hj)).trans ?_
  simp [fillData]

theorem copy_byte {s : State} {g id j : Nat} {o : MacroOp} (ho : s.toRun g id .copy = some o) (ha : s.accessCode g o = 0) (hc : cleanOp s g o)
    (hm : hMask (s.handle g (arg o .dstHandle)) ≠ 0) (hb : hBase (s.handle g (arg o .dstHandle)) + hRows (s.handle g (arg o .dstHandle)) ≤ 1024)
    (hj : j < arg o .size) :
    Completes (.copy g id) s (fun t => t.spadByte g (hAddr (s.handle g (arg o .dstHandle)) (arg o .dstOff + j)) =
      s.spadByte g (hAddr (s.handle g (arg o .srcHandle)) (arg o .srcOff + j))) := by
  have hr := dstRange_mem_copy (State.fam_of_toRun ho)
  have hcarry := hc.writesTo hr (data := s.hRead g (arg o .srcHandle) (arg o .srcOff) (arg o .size)) (by simp)
  refine completes_of_effect rfl ho (.inl rfl) (State.copyEffect_run ha hc) hcarry.stays hcarry.blocks ?_
  refine (hc.hWrite_byte ha hr hm hb (data := s.hRead g (arg o .srcHandle) (arg o .srcOff) (arg o .size)) (by simp [dstRange]) (j := j)
    (by simpa using hj)).trans ?_
  simp [State.hRead]

end Sys2Proof.Machine
end


section
/-! PROOFS. INT8 arithmetic is exact (04 R115, R116, R120, R124, R139, R142): the bytes of a row, the sum of two elements held to the format,
and products on the grid 2^-90. -/
namespace Sys2Proof.Machine
open Sys2Proof

/-! ### Bytes of a row -/

theorem leNat_eq_ofDigits (l : List Byte) : leNat l = Nat.ofDigits 256 (l.map BitVec.toNat) := by
  induction l with
  | nil => rfl
  | cons b l ih => rw [leNat, ih, List.map_cons, Nat.ofDigits_cons]

/-- A digit of a number in base 256. -/
theorem ofDigits_digit {l : List Nat} (h : ∀ d ∈ l, d < 256) {k : Nat} (hk : k < l.length) : Nat.ofDigits 256 l / 256 ^ k % 256 = l[k] := by
  rw [Nat.ofDigits_div_pow_eq_ofDigits_drop k (by decide) l h, List.drop_eq_getElem_cons hk, Nat.ofDigits_cons, Nat.add_mul_mod_self_left,
    Nat.mod_eq_of_lt (h _ (List.getElem_mem hk))]

/-- Element k of a row of INT8 elements is its byte k. -/
theorem elemBits_int8 {l : List Byte} {k : Nat} (hk : k < l.length) : elemBits .int8 (leNat l) k = l[k].toNat := by
  have hd : ∀ d ∈ l.map BitVec.toNat, d < 256 := fun d hd => by
    obtain ⟨b, -, rfl⟩ := List.mem_map.mp hd
    exact b.isLt
  change leNat l / 2 ^ (8 * k) % 2 ^ 8 = _
  rw [leNat_eq_ofDigits, Nat.pow_mul]
  exact (ofDigits_digit hd (by simpa using hk)).trans (by simp)

theorem sum_zipIdx_digits (l : List Nat) (i : Nat) : ((l.zipIdx i).map (fun x => x.1 * 2 ^ (8 * x.2))).sum = Nat.ofDigits 256 l * 256 ^ i := by
  induction l generalizing i with
  | nil => simp
  | cons d l ih =>
    rw [List.zipIdx_cons, List.map_cons, List.sum_cons, ih, Nat.ofDigits_cons, Nat.pow_mul]
    ring

/-- Byte k of a packed row of INT8 elements is element k. -/
theorem packRow_int8 {l : List Nat} (h : ∀ d ∈ l, d < 256) {k : Nat} (hk : k < l.length) :
    (packRow .int8 l)[k]'(by rw [length_packRow]; change k < (l.length * 8 + 7) / 8; omega) = BitVec.ofNat 8 l[k] := by
  have hsum : (l.zipIdx.map (fun x => x.1 * 2 ^ ((fmtInfo .int8).bits * x.2))).sum = Nat.ofDigits 256 l := by
    rw [← Nat.mul_one (Nat.ofDigits 256 l)]
    exact sum_zipIdx_digits l 0
  simp only [packRow, leBytes, List.getElem_map, List.getElem_range, hsum]
  refine BitVec.eq_of_toNat_eq ?_
  rw [BitVec.toNat_ofNat, BitVec.toNat_ofNat, Nat.mod_eq_of_lt (h _ (List.getElem_mem hk))]
  exact ofDigits_digit h hk

theorem rowBytes_int8 (n : Nat) : rowBytes .int8 n = n := by
  change (n * 8 + 7) / 8 = n
  omega

/-! ### Elements and their sum -/

theorem decodeElem_int8 {b : Nat} (h : b < 256) : decodeElem .int8 b = mkVal (sgn 8 b) 0 := by
  change mkVal (if b < 2 ^ 7 then (b : Int) else (b : Int) - 2 ^ 8) 0 = _
  rw [sgn, Nat.mod_eq_of_lt (show b < 2 ^ 8 from h)]

theorem sgn_byte (b : Nat) : -128 ≤ sgn 8 b ∧ sgn 8 b ≤ 127 := by
  unfold sgn
  split <;> omega

theorem sMant_mkVal (i : Int) : sMant (decide (i < 0)) i.natAbs = i := by
  unfold sMant
  split
  · rename_i hn
    rw [Int.ofNat_natAbs_of_nonpos (of_decide_eq_true hn).le, neg_neg]
  · rename_i hn
    exact Int.natAbs_of_nonneg (not_lt.mp (by simpa using hn))

/-- The exact sum of two whole numbers is a whole number. -/
theorem vAdd_mkVal (a b : Int) : ∃ neg m, (vAdd (mkVal a 0) (mkVal b 0)).1 = .fin neg m 0 ∧ sMant neg m = a + b := by
  have hsum : sMant (decide (a < 0)) a.natAbs * 2 ^ ((0 : Int) - min 0 0).toNat + sMant (decide (b < 0)) b.natAbs * 2 ^ ((0 : Int) - min 0 0).toNat = a + b := by
    simp [sMant_mkVal]
  simp only [mkVal, vAdd, hsum]
  split
  · rename_i hz
    exact ⟨_, 0, rfl, by simp [sMant, hz]⟩
  · exact ⟨_, _, rfl, sMant_mkVal _⟩

/-- A whole number written as INT8 is held to the format's smallest and largest values, whatever the rounding (04 R139, R142). -/
theorem writeVal_int8 (mode : RMode) (neg : Bool) (m : Nat) : (writeVal .int8 mode (.fin neg m 0)).1 < 256 ∧
    BitVec.ofNat 8 (writeVal .int8 mode (.fin neg m 0)).1 = BitVec.ofInt 8 (max (-128) (min 127 (sMant neg m))) := by
  have hk : roundSteps mode m 0 0 = m := by simp [roundSteps, cutAt]
  have hbits : (writeVal .int8 mode (.fin neg m 0)).1 =
      if (if neg then 128 else 127) < m then (if neg then 128 else 127) else if neg then (256 - m) % 256 else m := by
    simp only [writeVal, fmtInfo, hk]
    cases neg <;> simp
  rw [hbits]
  cases neg
  · simp only [Bool.false_eq_true, if_false, sMant]
    refine ⟨by split <;> omega, BitVec.eq_of_toNat_eq ?_⟩
    rw [BitVec.toNat_ofNat, BitVec.toNat_ofInt]
    split <;> omega
  · simp only [if_true, sMant]
    refine ⟨by split <;> omega, BitVec.eq_of_toNat_eq ?_⟩
    rw [BitVec.toNat_ofNat, BitVec.toNat_ofInt]
    split <;> omega

/-! ### Products on the grid 2^-90 (04 R124, R125) -/

theorem sMant_mul (x y : Bool) (m n : Nat) : sMant (x != y) (m * n) = sMant x m * sMant y n := by
  cases x <;> cases y <;> simp [sMant]

theorem sMant_scale (x : Bool) (m n : Nat) : sMant x (m * n) = sMant x m * n := by
  cases x <;> simp [sMant]

/-- A product of INT8 elements has a place of its own on the grid 2^-90. -/
theorem placeTerm_int8 (neg : Bool) {m : Nat} (hm : m ≤ 128 * 128) : placeTerm (-90) neg m 0 = (sMant neg m * 2 ^ 90, false, false) := by
  have hcut : cutAt m 0 (-90) = (m * 2 ^ 90, 0, 0) := if_pos (by decide)
  unfold placeTerm
  rw [hcut]
  dsimp only
  rw [if_pos rfl, if_neg (by omega), sMant_scale]
  rfl

theorem termsOf_int8 (a b : Int) : termsOf .int8 (mkVal a 0) (mkVal b 0) =
    [(.fin (decide (a < 0) != decide (b < 0)) (a.natAbs * b.natAbs) 0, false)] := rfl

/-- Products of INT8 elements accumulate exactly on the grid 2^-90. -/
theorem accumulateDot_int8 (A B : Nat → Int) (hA : ∀ x, (A x).natAbs ≤ 128) (hB : ∀ x, (B x).natAbs ≤ 128) (l : List Nat) {e : AccEntry}
    (he : e.b = -90) : (accumulateDot 1 .int8 e (l.map (fun x => mkVal (A x) 0)) (l.map (fun x => mkVal (B x) 0))).a =
      e.a + (l.map (fun x => A x * B x)).sum * 2 ^ 90 := by
  unfold accumulateDot
  simp only [List.zip_map', if_true]
  induction l generalizing e with
  | nil => simp
  | cons x l ih =>
    have hterm : e.addExact (.fin (decide (A x < 0) != decide (B x < 0)) ((A x).natAbs * (B x).natAbs) 0) false =
        { e with a := e.a + A x * B x * 2 ^ 90, sat := e.sat || false, low := e.low || false } := by
      simp only [AccEntry.addExact, he, placeTerm_int8 _ (Nat.mul_le_mul (hA x) (hB x)), sMant_mul, sMant_mkVal]
    simp only [List.map_cons, List.foldl_cons, List.sum_cons, termsOf_int8, List.foldl_nil, hterm]
    refine (ih (e := { e with a := e.a + A x * B x * 2 ^ 90, sat := e.sat || false, low := e.low || false }) he).trans ?_
    dsimp only
    ring

/-! ### The order of the terms (04 R127) -/

/-- Two terms added to an entry of the exact class may be added in either order. -/
theorem addExact_comm (e : AccEntry) (t u : Val) (i j : Bool) : (e.addExact t i).addExact u j = (e.addExact u j).addExact t i := by
  cases t with
  | nan =>
    cases u with
    | nan => simp [AccEntry.addExact, AccEntry.sticky, Bool.or_assoc, Bool.or_comm i j]
    | inf neg => cases neg <;> rfl
    | fin neg m x => rfl
  | inf neg =>
    cases u with
    | nan => cases neg <;> rfl
    | inf neg' => cases neg <;> cases neg' <;> rfl
    | fin neg' m x => cases neg <;> rfl
  | fin neg m x =>
    cases u with
    | nan => rfl
    | inf neg' => cases neg' <;> rfl
    | fin neg' n y =>
      simp only [AccEntry.addExact, Bool.or_right_comm e.sat, Bool.or_right_comm e.low, add_right_comm e.a]

/-- The terms of one pair, and the terms of another, may be added in either order. -/
theorem foldl_addExact_comm (l k : List (Val × Bool)) (e : AccEntry) :
    k.foldl (fun e t => e.addExact t.1 t.2) (l.foldl (fun e t => e.addExact t.1 t.2) e) =
      l.foldl (fun e t => e.addExact t.1 t.2) (k.foldl (fun e t => e.addExact t.1 t.2) e) := by
  rw [← List.foldl_append, ← List.foldl_append]
  exact List.Perm.foldl_eq' List.perm_append_comm (fun x _ y _ z => addExact_comm z x.1 y.1 x.2 y.2) e

/-- The exact class does not depend on the order in which the pairs are taken. -/
theorem accumulateDot_perm (f : Fmt) (e : AccEntry) {a b c d : List Val} (h : (a.zip b).Perm (c.zip d)) :
    accumulateDot 1 f e a b = accumulateDot 1 f e c d := by
  unfold accumulateDot
  simp only [if_true]
  exact h.foldl_eq' (fun x _ y _ z => foldl_addExact_comm (termsOf f x.1 x.2) (termsOf f y.1 y.2) z) e

end Sys2Proof.Machine
end


section
/-! PROOFS. The results of the units (03 R97, R101; 04 R120, R124, R125, R127, R139, R142): INT8 tensors of the scratchpad, their sums and
their products. -/
namespace Sys2Proof.Machine
open Sys2Proof

section Units
variable {s : State} {g : Nat} {o : MacroOp}

/-! ### INT8 tensors -/

/-- The INT8 element at byte e of a handle. -/
def State.int8At (s : State) (g h e : Nat) : Int := sgn 8 (s.spadByte g (hAddr (s.handle g h) e)).toNat

theorem State.natAbs_int8At (s : State) (g h e : Nat) : (s.int8At g h e).natAbs ≤ 128 := by
  have := sgn_byte (s.spadByte g (hAddr (s.handle g h) e)).toNat
  unfold State.int8At
  omega

/-- Element x of a row of INT8 elements that is read from a handle. -/
theorem State.elem_hRead {h off len x : Nat} (hx : x < len) :
    decodeElem .int8 (elemBits .int8 (leNat (s.hRead g h off len)) x) = mkVal (s.int8At g h (off + x)) 0 := by
  have hlen : x < (s.hRead g h off len).length := by simpa using hx
  have hbyte : (s.hRead g h off len)[x] = s.spadByte g (hAddr (s.handle g h) (off + x)) := by simp [State.hRead]
  rw [elemBits_int8 hlen, hbyte, decodeElem_int8 (BitVec.isLt _), State.int8At]

/-- Element x of row r of an INT8 matrix. -/
theorem State.elem_rowsAt {h rows cols r x : Nat} (hr : r < rows) (hx : x < cols) :
    decodeElem .int8 (elemBits .int8 ((s.rowsAt g h .int8 rows cols).getD r 0) x) = mkVal (s.int8At g h (r * cols + x)) 0 := by
  have hrow : (s.rowsAt g h .int8 rows cols).getD r 0 = leNat (s.hRead g h (r * cols) cols) := by
    rw [List.getD_eq_getElem _ _ (by simpa [State.rowsAt] using hr)]
    simp [State.rowsAt, rowBytes_int8]
  rw [hrow, State.elem_hRead hx]

/-! ### Element-wise sums (03 R97; 04 R139, R142) -/

/-- A VEC without a row length has one row. -/
theorem vecCols_of_cols (hl : 0 < arg o .len) (hc : arg o .cols = 0) : vecCols o = arg o .len := by
  rw [vecCols, if_pos hc]
  omega

theorem vecRows_of_cols (hl : 0 < arg o .len) (hc : arg o .cols = 0) : vecRows o = 1 := by
  rw [vecRows, vecCols_of_cols hl hc]
  exact Nat.div_eq_of_lt_le (by omega) (by omega)

/-- The elements of an INT8 vector without broadcast. -/
theorem State.vecElems_int8 {j : Nat} (hl : 0 < arg o .len) (hc : arg o .cols = 0) (hf : fmtArg o (vecSource j).2.1 = some .int8)
    (hb : arg o (vecSource j).2.2.1 = 0) :
    s.vecElems g o j = ((List.range (arg o .len)).map (fun e => mkVal (s.int8At g (arg o (vecSource j).1) e) 0), false) := by
  unfold State.vecElems
  generalize vecSource j = src at hf hb ⊢
  obtain ⟨h, fa, ba, sca⟩ := src
  dsimp only at hf hb ⊢
  rw [hf]
  simp only [hb, vecCols_of_cols hl hc, vecRows_of_cols hl hc, State.scaleRows]
  refine Prod.ext (List.map_congr_left fun e he => ?_) rfl
  have hlt := List.mem_range.mp he
  simp only [Nat.div_eq_of_lt hlt, Nat.mod_eq_of_lt hlt]
  simpa [fmtInfo, rowBytes_int8] using State.elem_hRead (s := s) (g := g) (h := arg o h) (off := 0) hlt

/-- The length of a VEC whose checks pass. -/
theorem len_pos_of_vecCode (h : vecCode o = 0) : 0 < arg o .len := by
  unfold vecCode at h
  dsimp only at h
  split at h
  · cases h
  · rename_i hl
    simp only [Bool.or_eq_true, decide_eq_true_eq, not_or] at hl
    omega

/-- A list that is not empty, cut into one piece of its length. -/
theorem chunks_one {α : Type} {l : List α} (h : l ≠ []) : chunks l.length 1 l = [l] := by
  rw [chunks, if_neg (by simpa using h), List.take_length, chunks]

/-- The result at position e of an element-wise INT8 sum. -/
def State.int8Sum (s : State) (g : Nat) (o : MacroOp) (e : Nat) : Nat :=
  (writeVal .int8 (rmode (arg o .round) (arg o .seed) 2 e) (vAdd (mkVal (s.int8At g (arg o .src1) e) 0) (mkVal (s.int8At g (arg o .src2) e) 0)).1).1

/-- It is the exact sum of the elements, held to the format's smallest and largest values (04 R139, R142). -/
theorem State.int8Sum_eq (s : State) (g : Nat) (o : MacroOp) (e : Nat) : s.int8Sum g o e < 256 ∧
    BitVec.ofNat 8 (s.int8Sum g o e) = BitVec.ofInt 8 (max (-128) (min 127 (s.int8At g (arg o .src1) e + s.int8At g (arg o .src2) e))) := by
  obtain ⟨neg, m, hv, hsum⟩ := vAdd_mkVal (s.int8At g (arg o .src1) e) (s.int8At g (arg o .src2) e)
  rw [State.int8Sum, hv, ← hsum]
  exact writeVal_int8 _ neg m

/-- An element-wise INT8 sum writes the row of its results. -/
theorem State.vecBody_int8_add (hl : 0 < arg o .len) (hv : arg o .vop = 0) (h1 : arg o .fmt1 = 3) (h2 : arg o .fmt2 = 3) (hc : arg o .cols = 0)
    (hb1 : arg o .bcast1 = 0) (hb2 : arg o .bcast2 = 0) (hacc : arg o .accumulate = 0) :
    (s.vecBody g o .int8).st = (s.hWrite g (arg o .dst) 0 (packRow .int8 ((List.range (arg o .len)).map (s.int8Sum g o)))).1 := by
  unfold State.vecBody
  extract_lets vop k src z
  have hk : k = 2 := by simp [k, vop, hv, vecSources]
  have hsrc1 : src 0 = _ := (if_pos (by omega)).trans (State.vecElems_int8 (s := s) (g := g) (j := 0) hl hc (congrArg fmtOf h1) hb1)
  have hsrc2 : src 1 = _ := (if_pos (by omega)).trans (State.vecElems_int8 (s := s) (g := g) (j := 1) hl hc (congrArg fmtOf h2) hb2)
  rw [hsrc1, hsrc2, show vop = 0 from hv]
  generalize src 2 = s2
  obtain ⟨c, nc⟩ := s2
  dsimp only
  rw [if_neg (by omega), if_neg (by decide)]
  have hchunk {l : List Nat} (h : l.length = arg o .len) : (chunks (vecCols o) (vecRows o) l).flatMap (packRow .int8) = packRow .int8 l := by
    rw [vecCols_of_cols hl hc, vecRows_of_cols hl hc, ← h, chunks_one (fun he => by simp [he] at h; omega), List.flatMap_singleton]
  dsimp only
  rw [hchunk (by simp)]
  refine congrArg (fun l => (s.hWrite g (arg o .dst) 0 (packRow .int8 l)).1) (List.ext_getElem (by simp) fun e h _ => ?_)
  have he : e < arg o .len := by simpa using h
  simp [vecResult, State.int8Sum, vecSource, he]

theorem vec_byte {id j : Nat} (ho : s.toRun g id .vec = some o) (hcode : vecCode o = 0) (ha : s.accessCode g o = 0) (hclean : cleanOp s g o)
    (hv : arg o .vop = 0) (h1 : arg o .fmt1 = 3) (h2 : arg o .fmt2 = 3) (hout : arg o .fmtOut = 3) (hc : arg o .cols = 0) (hb1 : arg o .bcast1 = 0)
    (hb2 : arg o .bcast2 = 0) (hacc : arg o .accumulate = 0) (hm : hMask (s.handle g (arg o .dst)) ≠ 0)
    (hb : hBase (s.handle g (arg o .dst)) + hRows (s.handle g (arg o .dst)) ≤ 1024) (hj : j < arg o .len) :
    Completes (.vec g id) s (fun t => t.spadByte g (hAddr (s.handle g (arg o .dst)) j) =
      BitVec.ofInt 8 (max (-128) (min 127 (s.int8At g (arg o .src1) j + s.int8At g (arg o .src2) j)))) := by
  have hl := len_pos_of_vecCode hcode
  have hf : fmtArg o .fmtOut = some .int8 := congrArg fmtOf hout
  have hfam := State.fam_of_toRun ho
  have hcarry := State.vecBody_carries (s := s) (g := g) hfam hclean hf
  refine completes_of_effect rfl ho (.inl rfl) (vecEffect_run ha hclean hfam hcode hf) hcarry.stays hcarry.blocks ?_
  generalize hsums : (List.range (arg o .len)).map (s.int8Sum g o) = sums
  have hlen : sums.length = arg o .len := by rw [← hsums, List.length_map, List.length_range]
  have hbyte : ∀ d ∈ sums, d < 256 := fun d hd => by
    obtain ⟨e, -, rfl⟩ := List.mem_map.mp (hsums ▸ hd)
    exact (s.int8Sum_eq g o e).1
  have hrange : (vecDstRange o).len = arg o .len := by
    rw [vecDstRange, if_neg (by omega), hf, ← length_vecRows o .int8 hlen, vecCols_of_cols hl hc, vecRows_of_cols hl hc, ← hlen,
      chunks_one (fun he => by simp [he] at hlen; omega), List.flatMap_singleton, length_packRow, rowBytes_int8]
  have hrow : (packRow .int8 sums).length = arg o .len := by rw [length_packRow, rowBytes_int8, hlen]
  have hread := hclean.hWrite_byte ha (vecDstRange_mem hfam) hm hb (hrow.trans hrange.symm) (hrow ▸ hj)
  have hlast : sums[j]'(hlen ▸ hj) = s.int8Sum g o j := by
    subst hsums
    rw [List.getElem_map, List.getElem_range]
  change (s.vecBody g o .int8).st.spadByte g _ = _
  rw [State.vecBody_int8_add hl hv h1 h2 hc hb1 hb2 hacc, hsums, ← (s.int8Sum_eq g o j).2, ← hlast, ← packRow_int8 hbyte (hlen ▸ hj), ← hread]
  exact congrArg _ (congrArg _ (Nat.zero_add j).symm)

/-! ### Products (03 R93; 04 R120, R124, R125) -/

theorem scaledVec_none (f : Fmt) (r : Nat) (bits : Nat → Nat) (n : Nat) :
    scaledVec f none r bits n = (List.range n).map (fun k => decodeElem f (bits k)) := rfl

/-- The exact products of an INT8 row and column, summed on the grid 2^-90. -/
def State.int8Dot (s : State) (g : Nat) (o : MacroOp) (i j : Nat) : Int :=
  ((List.range (arg o .k)).map (fun x => s.int8At g (arg o .hA) (i * arg o .k + x) * s.int8At g (arg o .hB) (x * arg o .n + j))).sum * 2 ^ 90

/-- An INT8 product that opens a region leaves the exact sum in each entry. -/
theorem State.matmulBody_int8 (hta : arg o .transA = 0) (htb : arg o .transB = 0) (hcont : arg o .cont = 0) (hwb : arg o .wb = 0) {i j : Nat}
    (hi : i < arg o .m) (hj : j < arg o .n) :
    (bankGet {} ((s.matmulBody g o .int8 .int8 1).st.core g).acc.entries (arg o .accBase + (i * arg o .n + j))).a = s.int8Dot g o i j := by
  unfold State.matmulBody
  extract_lets m n k base ta tb ra rb sa sb aRow bCol scaleNan flags c open_ cont bOf bs as entries others gone kept region f res data s1
  have hclosed : ¬ cont := by simp [cont, hcont]
  have hrowA : ¬ ta := by simp [ta, hta]
  have hrowB : ¬ tb := by simp [tb, htb]
  have hjn : j < n := hj
  have hidx : i * n + j < m * n := by
    have := Nat.mul_le_mul_right n (Nat.succ_le_of_lt (show i < m from hi))
    rw [Nat.succ_mul] at this
    omega
  have hdiv : (i * n + j) / n = i := by rw [Nat.mul_comm, Nat.mul_add_div (by omega), Nat.div_eq_of_lt hjn, Nat.add_zero]
  have hmod : (i * n + j) % n = j := by rw [Nat.mul_comm, Nat.mul_add_mod, Nat.mod_eq_of_lt hjn]
  have hrow : aRow i = (List.range k).map (fun x => mkVal (s.int8At g (arg o .hA) (i * k + x)) 0) := by
    have hra : ra = s.rowsAt g (arg o .hA) .int8 m k := by simp only [ra, if_neg hrowA]
    refine (scaledVec_none ..).trans (List.map_congr_left fun x hx => ?_)
    rw [if_neg hrowA, hra, State.elem_rowsAt hi (List.mem_range.mp hx)]
  have hcol : bCol j = (List.range k).map (fun x => mkVal (s.int8At g (arg o .hB) (x * n + j)) 0) := by
    have hrb : rb = s.rowsAt g (arg o .hB) .int8 k n := by simp only [rb, if_neg hrowB]
    refine (scaledVec_none ..).trans (List.map_congr_left fun x hx => ?_)
    rw [if_neg hrowB, hrb, State.elem_rowsAt (List.mem_range.mp hx) hjn]
  have hentry : entries[i * n + j]? = some (accumulateDot 1 .int8 { b := -90 } (aRow i) (bCol j)) := by
    have has : as.getD i [] = aRow i := by simp [as, show i < m from hi]
    have hbs : bs.getD j [] = bCol j := by simp [bs, hjn]
    rw [List.getElem?_map, List.getElem?_range hidx, Option.map_some, hdiv, hmod, has, hbs]
    have hrefA (r : Nat) : refOf sa r = 127 := rfl
    have hrefB (r : Nat) : refOf sb r = 127 := rfl
    have hbase (idx : Nat) : bOf idx = -90 := by
      simp only [bOf, hrefA, hrefB]
      rfl
    simp [hclosed, hrefA, hrefB, hbase]
  have hlen : entries.length = m * n := by simp [entries]
  rw [if_neg (by simp [hclosed]), if_neg (by simp [hclosed]), if_neg (by omega), State.core_setCore_self, bankGet_bankPutList,
    if_pos ⟨Nat.le_add_right .., by rw [hlen]; exact Nat.add_lt_add_left hidx base⟩, Nat.add_sub_cancel_left, List.getD_eq_getElem?_getD]
  change ((entries[i * n + j]?).getD {}).a = _
  rw [hentry, Option.getD_some, hrow, hcol]
  refine (accumulateDot_int8 _ _ (fun _ => s.natAbs_int8At _ _ _) (fun _ => s.natAbs_int8At _ _ _) _ rfl).trans ?_
  rw [zero_add]
  rfl

theorem matmul_entry {id i j : Nat} (ho : s.toRun g id .matmul = some o) (ht : arg o .token < 96) (hm : matmulCode o = 0) (ha : s.accessCode g o = 0)
    (hc : cleanOp s g o) (hfa : arg o .fmtA = 3) (hfb : arg o .fmtB = 3) (hta : arg o .transA = 0) (htb : arg o .transB = 0) (hcont : arg o .cont = 0)
    (hwb : arg o .wb = 0) (hi : i < arg o .m) (hj : j < arg o .n) :
    Completes (.matmul g id) s (fun t => (bankGet {} (t.core g).acc.entries (arg o .accBase + (i * arg o .n + j))).a = s.int8Dot g o i j) := by
  obtain ⟨a, hcarry⟩ := State.matmulBody_carries (fa := .int8) (fb := .int8) (State.fam_of_toRun ho) hc (.inl (by omega)) (fun h => by omega)
  refine completes_of_effect rfl ho (.inr ht) (matmulEffect_run ha hc hm (congrArg fmtOf hfa) (congrArg fmtOf hfb) hcarry.stays) hcarry.stays
    hcarry.blocks ?_
  rw [State.core_ended]
  exact State.matmulBody_int8 hta htb hcont hwb hi hj

end Units

/-- Settles O12: FILL and COPY leave each byte of the destination, INT8 sums are held to the format, and the exact class sums exactly in any
order. -/
theorem unitResults : Obligations.UnitResults :=
  ⟨fun _ _ _ _ _ ho ha hc hm hb hj => fill_byte ho ha hc hm hb hj,
    fun _ _ _ _ _ ho ha hc hm hb hj => copy_byte ho ha hc hm hb hj,
    fun _ _ _ _ _ ho hcode ha hc hv h1 h2 hout hcols hb1 hb2 hacc hm hb hj => vec_byte ho hcode ha hc hv h1 h2 hout hcols hb1 hb2 hacc hm hb hj,
    fun _ _ _ _ _ _ ho ht hm ha hc hfa hfb hta htb hcont hwb hi hj => matmul_entry ho ht hm ha hc hfa hfb hta htb hcont hwb hi hj,
    fun f e _ _ _ _ h => accumulateDot_perm f e h⟩
end Sys2Proof.Machine
end


section
/-! PROOFS. The control processor's layer (03 R81 to R85, R90, R112, R114): its counter, its scalar registers, a trace entry, and an error that
ends the stream. -/
namespace Sys2Proof.Machine
open Sys2Proof

/-! ### Entering FAULT -/

/-- The fields that entering FAULT can write (20 Table 20.4). -/
def faultFlds : List Fld :=
  .PLAN_STATUS_STATE :: .PLAN_PART_RUN :: .REPL_STATUS_STATE :: planErrorFlds ++ (snapFlds ++ vectorFlds)

theorem State.fld_faultActions (s : State) (p code : Nat) {f : Fld} (hf : ∀ e ∈ faultFlds, f.code % 16384 ≠ e.code % 16384) (i k : Nat) :
    (s.faultActions p code).fld f i k = s.fld f i k := by
  have sub (e : Fld) (he : e ∈ snapFlds ++ vectorFlds) : e ∈ faultFlds := List.mem_append_right _ he
  rw [State.faultActions_eq, (KeptBut.faultShown _ p).fld _ _ _ (fun e he => hf e (sub e he)), State.faultEntered, State.clearHolds,
    State.fld_setPart, State.fld_setPState_name _ (hf .PLAN_STATUS_STATE (by decide)) (hf .PLAN_PART_RUN (by decide))]
  refine (KeptBut.faultRecorded s p code).fld _ _ _ (fun e he => hf e ?_)
  revert e
  decide

theorem State.cores_faultActions (s : State) (p code : Nat) : (s.faultActions p code).cores = s.cores := by
  rw [State.faultActions_eq, (KeptBut.faultShown _ p).cores]
  exact (KeptBut.faultRecorded s p code).cores

theorem State.fld_enterFault (s : State) (p code : Nat) {f : Fld} (hf : ∀ e ∈ faultFlds, f.code % 16384 ≠ e.code % 16384) (i k : Nat) :
    (s.enterFault p code).fld f i k = s.fld f i k := by
  unfold State.enterFault
  split
  · refine (KeptBut.planError s p code).fld _ _ _ (fun e he => hf e ?_)
    revert e
    decide
  · split
    · exact s.fld_faultActions p code hf i k
    · rfl

theorem State.cores_enterFault (s : State) (p code : Nat) : (s.enterFault p code).cores = s.cores := by
  unfold State.enterFault
  split
  · exact (KeptBut.planError s p code).cores
  · split
    · exact s.cores_faultActions p code
    · rfl

/-! ### An error of a core (03 R90, R114) -/

/-- The first code is kept, with its tag. -/
theorem State.fld_coreError {s : State} {g : Nat} (h : s.fld .CORE_ERROR_CODE g = 0) (code tag : Nat) :
    (s.coreError g code tag).fld .CORE_ERROR_CODE g = code % 2 ^ 16 ∧ (s.coreError g code tag).fld .CORE_ERROR_TAG g = tag % 2 ^ 16 := by
  have hfirst : s.recordFirst .CORE_ERROR_CODE .CORE_ERROR_MULTI code g = (s.setFld .CORE_ERROR_CODE code g).queueEvent (.code code) := if_pos h
  have hcode (u : State) (v : Nat) : (u.setFld .CORE_ERROR_TAG v g).fld .CORE_ERROR_CODE g = u.fld .CORE_ERROR_CODE g :=
    State.fld_setFld_name u (by decide) ..
  have hrec : ((s.setFld .CORE_ERROR_CODE code g).queueEvent (.code code)).fld .CORE_ERROR_CODE g = code % 2 ^ 16 := by
    rw [(KeptBut.queueEvent _ _).fld _ _ _ (by decide)]
    exact State.fld_setFld_self ..
  have hdie (u : State) (c : Bool) (v nn : Nat) {f : Fld} (h1 : f.code % 16384 ≠ Fld.DIE_ERROR_CORE_CORE.code % 16384)
      (h2 : f.code % 16384 ≠ Fld.DIE_ERROR_CORE_VALID.code % 16384) :
      (if c then (u.setFld .DIE_ERROR_CORE_CORE v nn).setFld .DIE_ERROR_CORE_VALID 1 nn else u).fld f g = u.fld f g := by
    split
    · rw [State.fld_setFld_name _ h2, State.fld_setFld_name _ h1]
    · rfl
  unfold State.coreError
  simp only [h, hfirst, decide_true, if_true]
  rw [hdie _ _ _ _ (by decide) (by decide), hdie _ _ _ _ (by decide) (by decide), hcode, hrec]
  exact ⟨rfl, State.fld_setFld_self ..⟩

theorem State.core_coreFault (s : State) (g code tag h : Nat) : (s.coreFault g code tag).core h = s.core h := by
  rw [State.coreFault, State.core, State.cores_enterFault, (KeptBut.coreError s g code tag).cores, State.core]

/-- A core's error is recorded, and a partition that runs enters FAULT. -/
theorem State.coreFault_spec {s : State} {g : Nat} (h : s.fld .CORE_ERROR_CODE g = 0) {code : Nat} (hc : code < 2 ^ 16) (tag : Nat) :
    (s.coreFault g code tag).fld .CORE_ERROR_CODE g = code ∧ (s.coreFault g code tag).fld .CORE_ERROR_TAG g = tag % 2 ^ 16 ∧
    (s.coreFault g code tag).mem = s.mem ∧
    ((s.pstate (s.corePart g)).active = true → (s.coreFault g code tag).pstate (s.corePart g) = .fault) := by
  obtain ⟨hcode, htag⟩ := State.fld_coreError h code tag
  obtain ⟨-, hmem⟩ := s.coreFault_keeps g code tag
  refine ⟨?_, ?_, hmem, fun ha => ?_⟩
  · rw [State.coreFault, State.fld_enterFault _ _ _ (by decide), hcode, Nat.mod_eq_of_lt hc]
  · rw [State.coreFault, State.fld_enterFault _ _ _ (by decide), htag]
  · have hact : ((s.coreError g code tag).pstate (s.corePart g)).active = true := by
      rwa [(KeptBut.coreError s g code tag).pstate (by decide)]
    rw [State.coreFault, State.enterFault_active hact, State.pstate_faultActions]

/-! ### CP_PC and the scalar registers -/

theorem State.setPc_eq {v : Nat} (h : v < 16384) (s : State) (g : Nat) : s.setPc g v = s.setFld .CP_PC v g := if_pos h

@[simp] theorem State.pc_setCore (s : State) (g : Nat) (c : Core) (h : Nat) : (s.setCore g c).pc h = s.pc h := rfl

theorem State.pc_setPc {v : Nat} (h : v < 16384) (s : State) (g : Nat) : (s.setPc g v).pc g = v := by
  rw [State.setPc_eq h, State.pc, State.fld_setFld_self]
  exact Nat.mod_eq_of_lt h

theorem State.pc_nextPc {s : State} {g : Nat} (h : s.pc g < 16383) : (s.nextPc g).pc g = s.pc g + 1 := State.pc_setPc (by omega) ..

@[simp] theorem State.pc_setSreg (s : State) (g n v h : Nat) : (s.setSreg g n v).pc h = s.pc h := by
  unfold State.setSreg
  split
  · rfl
  · exact State.fld_setFld64_name s (by decide) (by decide) ..

@[simp] theorem State.sreg_setPc (s : State) (g v h n : Nat) : (s.setPc g v).sreg h n = s.sreg h n := by
  have hset (u : State) : (u.setFld .CP_PC v g).sreg h n = u.sreg h n := by
    unfold State.sreg State.fld64
    rw [State.fld_setFld_name _ (by decide), State.fld_setFld_name _ (by decide)]
  unfold State.setPc
  split
  · exact hset s
  · exact hset _

/-- A scalar register after a write; s0 stays zero (03 Table 3.1). -/
theorem State.sreg_setSreg (s : State) (g v : Nat) {n rd : Nat} (hn : n < 32) (hr : rd < 32) :
    (s.setSreg g rd v).sreg g n = if n = rd ∧ rd ≠ 0 then v % 2 ^ 64 else s.sreg g n := by
  by_cases h0 : rd = 0
  · rw [State.setSreg, if_pos h0, if_neg (by simp [h0])]
  · rw [State.setSreg, if_neg h0]
    by_cases he : n = rd
    · subst he
      rw [if_pos ⟨rfl, h0⟩, State.sreg, if_neg h0, State.fld64_setFld64 _ rfl rfl (by decide)]
    · rw [if_neg (fun h => he h.1)]
      have hk : n % 256 ≠ rd % 256 := by omega
      unfold State.sreg State.fld64 State.setFld64
      simp only [State.fld_setFld_ne _ _ (.inr (.inr hk))]

/-- The fields that a write of a scalar register and the step to the next instruction change. -/
def scalarFlds (g : Nat) : List (Fld × Nat) := [(.SCALAR_LO, g), (.SCALAR_HI, g), (.CP_PC, g)]

theorem RegsBut.setSreg {s t : State} {g : Nat} (h : RegsBut s t (scalarFlds g)) (rd v : Nat) : RegsBut s (t.setSreg g rd v) (scalarFlds g) := by
  unfold State.setSreg
  split
  · exact h
  · exact (h.setFld _ _ (by decide) (by simp [scalarFlds])).setFld _ _ (by decide) (by simp [scalarFlds])

theorem RegsBut.nextPc {s t : State} {g : Nat} {fs : List (Fld × Nat)} (h : RegsBut s t fs) (hm : (.CP_PC, g) ∈ fs) : RegsBut s (t.nextPc g) fs := by
  unfold State.nextPc State.setPc
  split
  · exact h.setFld _ 0 (by decide) hm
  · exact RegsBut.setFld (t := t.setCore g _) h _ 0 (by decide) hm

/-- A scalar register takes a value and the next instruction comes next: registers only, but for the end of the store. -/
theorem State.writeNext_spec {s : State} {g rd : Nat} (hp : s.pc g < 16383) (hr : rd < 32) (v : Nat) :
    (∀ n < 32, ((s.setSreg g rd v).nextPc g).sreg g n = if n = rd ∧ rd ≠ 0 then v % 2 ^ 64 else s.sreg g n) ∧
    ((s.setSreg g rd v).nextPc g).pc g = s.pc g + 1 ∧ OnlyRegs s ((s.setSreg g rd v).nextPc g) (scalarFlds g) := by
  refine ⟨fun n hn => ?_, ?_, ?_, ((RegsBut.refl s _).setSreg rd v).nextPc (by simp [scalarFlds])⟩
  · rw [State.nextPc, State.sreg_setPc, State.sreg_setSreg s g v hn hr]
  · rw [State.pc_nextPc (by simpa using hp), State.pc_setSreg]
  · rw [State.nextPc, State.setPc_eq (by simpa using (by omega : s.pc g + 1 < 16384))]
    unfold State.setSreg
    split <;> rfl

/-! ### A step of the control processor -/

/-- The core executes the instruction at CP_PC when it is of the command's class. -/
theorem State.cpStep_run {s : State} {g : Nat} {i : CpInstr} (hr : s.cpReady g = true) (hi : s.instr g = i) (hu : i ≠ .undecodable)
    (hd : i ≠ .damaged) (f : CpInstr → Option State) : s.cpStep g f = (f i).getD s := by
  rw [State.cpStep, if_pos hr, hi]
  split
  · contradiction
  · contradiction
  · rfl

theorem State.cpStep_undecodable {s : State} {g : Nat} (hr : s.cpReady g = true) (hi : s.instr g = .undecodable) (f : CpInstr → Option State) :
    s.cpStep g f = s.cpError g E_CORE_ILLEGAL_OP := by
  rw [State.cpStep, if_pos hr, hi]

theorem State.active_of_cpReady {s : State} {g : Nat} (h : s.cpReady g = true) : (s.pstate (s.corePart g)).active = true := by
  simp only [State.cpReady, Bool.and_eq_true] at h
  obtain ⟨⟨⟨⟨-, ha⟩, -⟩, -⟩, -⟩ := h
  exact ha

/-- An error that the control processor raises ends its stream at the instruction. -/
theorem State.cpError_spec {s : State} {g code : Nat} (hr : s.cpReady g = true) (he : s.fld .CORE_ERROR_CODE g = 0) (hc : code < 2 ^ 16) :
    ((s.cpError g code).core g).cp = .error ∧ (s.cpError g code).fld .CORE_ERROR_CODE g = code ∧ (s.cpError g code).pc g = s.pc g ∧
    (s.cpError g code).mem = s.mem ∧ (s.cpError g code).pstate (s.corePart g) = .fault := by
  obtain ⟨hcode, -, hmem, hpart⟩ := State.coreFault_spec (s := s.setCore g { s.core g with cp := .error }) he hc 0
  have hact := State.active_of_cpReady hr
  refine ⟨?_, hcode, ?_, hmem, hpart hact⟩
  · rw [State.cpError, State.core_coreFault, State.core_setCore_self]
  · rw [State.cpError, State.pc, State.coreFault, State.fld_enterFault _ _ _ (by decide), (KeptBut.coreError _ g code 0).fld _ _ _ (by decide)]
    rfl

/-- A step that raises an error. -/
theorem completes_of_cpError {c : Instr} {s t : State} {g code : Nat} (hc : exec c s = .next t) (ht : t = s.cpError g code)
    (hr : s.cpReady g = true) (he : s.fld .CORE_ERROR_CODE g = 0) (hb : code < 2 ^ 16) :
    Completes c s (fun t => (t.core g).cp = .error ∧ t.fld .CORE_ERROR_CODE g = code ∧ t.pc g = s.pc g ∧ t.mem = s.mem ∧
      t.pstate (s.corePart g) = .fault) :=
  ⟨t, hc, ht ▸ State.cpError_spec hr he hb⟩

/-! ### Trace entries and the frame of a step -/

@[simp] theorem State.core_addFld (s : State) (f : Fld) (n i k h : Nat) : (s.addFld f n i k).core h = s.core h := rfl

/-- A trace entry changes the entries of its core's record. -/
theorem State.core_trace (s : State) (g kind value : Nat) :
    (s.trace g kind value).core g = { s.core g with trace := ((s.trace g kind value).core g).trace, traceLost := ((s.trace g kind value).core g).traceLost } := by
  rcases s.trace_cases g kind value with h | h | ⟨l, h⟩ <;> rw [h]
  · rw [State.core_addFld, State.core_setCore_self]
  · rw [State.core_setCore_self]

theorem State.core_trace_ne (s : State) {g h : Nat} (kind value : Nat) (hn : h ≠ g) : (s.trace g kind value).core h = s.core h := by
  rcases s.trace_cases g kind value with ht | ht | ⟨l, ht⟩ <;> rw [ht]
  · exact State.core_setCore_ne _ _ hn
  · exact State.core_setCore_ne _ _ hn

@[simp] theorem State.pc_trace (s : State) (g kind value h : Nat) : (s.trace g kind value).pc h = s.pc h :=
  State.fld_trace s g kind value (by decide) (by decide) h 0

namespace CpFrame
variable {s t : State} {g : Nat} {fs : List (Fld × Nat)}

theorem refl (s : State) (g : Nat) (fs : List (Fld × Nat)) : CpFrame s s g fs := ⟨rfl, fun _ _ => rfl, RegsBut.refl s _⟩

theorem setCore (h : CpFrame s t g fs) (c : Core) : CpFrame s (t.setCore g c) g fs := by
  obtain ⟨hrest, hcores, hregs⟩ := h
  exact ⟨by rw [hrest]; rfl, fun n hn => (State.core_setCore_ne t c hn).trans (hcores n hn), hregs⟩

theorem setFld (h : CpFrame s t g fs) {f : Fld} {i : Nat} (v k : Nat) (hf : f.code < 16384) (hm : (f, i) ∈ fs) : CpFrame s (t.setFld f v i k) g fs := by
  obtain ⟨hrest, hcores, hregs⟩ := h
  exact ⟨by rw [hrest]; rfl, hcores, hregs.setFld v k hf (List.mem_cons_of_mem _ hm)⟩

theorem setPc (h : CpFrame s t g fs) (v : Nat) (hm : (.CP_PC, g) ∈ fs) : CpFrame s (t.setPc g v) g fs := by
  unfold State.setPc
  split
  · exact h.setFld _ 0 (by decide) hm
  · exact (h.setCore _).setFld _ 0 (by decide) hm

theorem setSreg (h : CpFrame s t g (scalarFlds g)) (rd v : Nat) : CpFrame s (t.setSreg g rd v) g (scalarFlds g) := by
  unfold State.setSreg
  split
  · exact h
  · exact (h.setFld _ _ (by decide) (by simp [scalarFlds])).setFld _ _ (by decide) (by simp [scalarFlds])

theorem trace (h : CpFrame s t g fs) (hp : t.corePart g = s.corePart g) (kind value : Nat) : CpFrame s (t.trace g kind value) g fs := by
  obtain ⟨hrest, hcores, hregs⟩ := h
  obtain ⟨-, -, hentry⟩ := t.trace_keeps g kind value
  refine ⟨?_, fun n hn => (t.core_trace_ne kind value hn).trans (hcores n hn), hregs.trans (hentry.mono fun e he => ?_)⟩
  · rcases t.trace_cases g kind value with ht | ht | ⟨l, ht⟩ <;> rw [ht, hrest] <;> rfl
  · rw [hp] at he
    exact List.mem_cons.mpr (.inl (List.mem_singleton.mp he))

end CpFrame
end Sys2Proof.Machine
end


section
/-! PROOFS. SCALAR, READ and FETCH of the control processor (03 R82 to R84, R104, Table 3.2; 05 R163). -/
namespace Sys2Proof.Machine
open Sys2Proof

section Instructions
variable {s : State} {g : Nat}

theorem State.handleCode_lt (s : State) (g h : Nat) (perm : Perm) (off len align : Nat) : s.handleCode g h perm off len align < 2 ^ 16 := by
  unfold State.handleCode
  dsimp only
  split_ifs <;> decide

theorem leNat_lt (l : List Byte) : leNat l < 256 ^ l.length := by
  rw [leNat_eq_ofDigits, ← List.length_map (f := BitVec.toNat)]
  refine Nat.ofDigits_lt_base_pow_length (by decide) fun d hd => ?_
  obtain ⟨b, -, rfl⟩ := List.mem_map.mp hd
  exact b.isLt

/-! ### What each class does -/

theorem exec_scalar_some {op : ScalarOp} {rd ra v : Nat} {b : ScalarSrc} (hr : s.cpReady g = true) (hi : s.instr g = .scalar op rd ra b)
    (hv : scalarResult op (s.sreg g ra) (s.scalarSrc g b) = some v) : exec (.scalar g) s = .next ((s.setSreg g rd v).nextPc g) := by
  change Host.Outcome.next (s.cpScalar g) = _
  rw [State.cpScalar, State.cpStep_run hr hi (by simp) (by simp)]
  dsimp only
  rw [hv]
  rfl

theorem exec_scalar_none {op : ScalarOp} {rd ra : Nat} {b : ScalarSrc} (hr : s.cpReady g = true) (hi : s.instr g = .scalar op rd ra b)
    (hv : scalarResult op (s.sreg g ra) (s.scalarSrc g b) = none) :
    exec (.scalar g) s = .next ((s.draw.2.setSreg g rd s.draw.1.toNat).nextPc g) := by
  change Host.Outcome.next (s.cpScalar g) = _
  rw [State.cpScalar, State.cpStep_run hr hi (by simp) (by simp)]
  dsimp only
  rw [hv]
  rfl

theorem exec_readPrm {rd n : Nat} (hr : s.cpReady g = true) (hi : s.instr g = .readPrm rd n) :
    exec (.readSc g) s = .next ((s.setSreg g rd (s.fld .PRM g n)).nextPc g) := by
  change Host.Outcome.next (s.cpRead g) = _
  rw [State.cpRead, State.cpStep_run hr hi (by simp) (by simp)]
  rfl

theorem exec_readSlot_value {rd n v : Nat} (hr : s.cpReady g = true) (hi : s.instr g = .readSlot rd n) (hv : s.readSlotReg g n = .value v) :
    exec (.readSc g) s = .next (((s.slotDone g).setSreg g rd v).nextPc g) := by
  change Host.Outcome.next (s.cpRead g) = _
  rw [State.cpRead, State.cpStep_run hr hi (by simp) (by simp)]
  dsimp only
  rw [hv]
  rfl

theorem cpRead_absent {rd n : Nat} (hr : s.cpReady g = true) (hi : s.instr g = .readSlot rd n) (hq : s.coreRole g = 0) :
    s.cpRead g = s.cpError g E_CORE_SLOT := by
  have hv : s.readSlotReg g n = .absent := if_pos hq
  rw [State.cpRead, State.cpStep_run hr hi (by simp) (by simp)]
  dsimp only
  rw [hv]
  rfl

theorem exec_mark {v : Nat} (hr : s.cpReady g = true) (hi : s.instr g = .mark v) : exec (.mark g) s = .next ((s.trace g 6 v).nextPc g) := by
  change Host.Outcome.next (s.cpMark g) = _
  rw [State.cpMark, State.cpStep_run hr hi (by simp) (by simp)]
  rfl

theorem cpFetch_denied {rd h : Nat} {src : ScalarSrc} (hr : s.cpReady g = true) (hi : s.instr g = .fetch rd h src)
    (hc : s.handleCode g h .lr (s.scalarSrc g src) 8 8 ≠ 0) : s.cpFetch g = s.cpError g (s.handleCode g h .lr (s.scalarSrc g src) 8 8) := by
  rw [State.cpFetch, State.cpStep_run hr hi (by simp) (by simp)]
  dsimp only
  rw [if_pos hc]
  rfl

/-- A load that no earlier write holds back, of good words, gives the bytes to its register. -/
theorem cpFetch_load {rd h : Nat} {src : ScalarSrc} (hr : s.cpReady g = true) (hi : s.instr g = .fetch rd h src)
    (hc : s.handleCode g h .lr (s.scalarSrc g src) 8 8 = 0)
    (ho : ∀ o ∈ (s.core g).started.map Running.op ++ (s.core g).queue,
      overlap (hSpans (s.handle g h) (s.scalarSrc g src) 8) (s.spansOf g (opWrites o)) = false)
    (hw : ∀ w ∈ hWords (s.handle g h) (s.scalarSrc g src) 8, s.badBytes g w = 0) :
    s.cpFetch g = (s.setSreg g rd (leNat (s.hRead g h (s.scalarSrc g src) 8))).nextPc g := by
  have hfree : ¬ ((((s.core g).started.map Running.op ++ (s.core g).queue).any
      (fun o => overlap (hSpans (s.handle g h) (s.scalarSrc g src) 8) (s.spansOf g (opWrites o)))) = true) := by
    rw [List.any_eq_true]
    rintro ⟨o, hm, h⟩
    rw [ho o hm] at h
    cases h
  rw [State.cpFetch, State.cpStep_run hr hi (by simp) (by simp)]
  dsimp only
  rw [if_neg (not_not.mpr hc), if_neg hfree, State.consumeWords_clean hw]
  rfl

/-! ### The outcomes -/

theorem scalar_result {rd ra v : Nat} {op : ScalarOp} {b : ScalarSrc} (hr : s.cpReady g = true) (hp : s.pc g < 16383)
    (hi : s.instr g = .scalar op rd ra b) (hd : rd < 32) (hv : scalarResult op (s.sreg g ra) (s.scalarSrc g b) = some v) :
    Completes (.scalar g) s (fun t => (∀ n < 32, t.sreg g n = if n = rd ∧ rd ≠ 0 then v % 2 ^ 64 else s.sreg g n) ∧
      t.pc g = s.pc g + 1 ∧ OnlyRegs s t (scalarFlds g)) :=
   ⟨_, exec_scalar_some hr hi hv, State.writeNext_spec hp hd v⟩

theorem scalar_add {rd ra rb : Nat} (hr : s.cpReady g = true) (hp : s.pc g < 16383) (hi : s.instr g = .scalar .add rd ra (.reg rb))
    (h0 : 0 < rd) (hd : rd < 32) : Completes (.scalar g) s (fun t => t.sreg g rd = (s.sreg g ra + s.sreg g rb) % 2 ^ 64) := by
  refine (scalar_result hr hp hi hd rfl).mono fun t h => ?_
  obtain ⟨hs, -, -⟩ := h
  rw [hs rd hd, if_pos ⟨rfl, by omega⟩, State.scalarSrc, Nat.mod_mod]

/-- A shift by 64 or more, whose result the spec does not state, writes a free value (log entry 17). -/
theorem scalar_longShift {rd ra v : Nat} {op : ScalarOp} (hr : s.cpReady g = true) (hp : s.pc g < 16383)
    (hi : s.instr g = .scalar op rd ra (.imm v)) (h0 : 0 < rd) (hd : rd < 32) (ho : op = .shl ∨ op = .shr ∨ op = .sar) (hv : 64 ≤ v)
    (hw : v < 2 ^ 32) :
    Completes (.scalar g) s (fun t => t.sreg g rd = (Config.freeValue s.free).toNat ∧ t.pc g = s.pc g + 1 ∧
      t = { s with regs := t.regs, free := s.free + 1 } ∧ RegsBut s t (scalarFlds g)) := by
  have hnone : scalarResult op (s.sreg g ra) (s.scalarSrc g (.imm v)) = none := by
    have hsrc : s.scalarSrc g (.imm v) = v := Nat.mod_eq_of_lt hw
    rw [hsrc]
    rcases ho with rfl | rfl | rfl <;> exact if_neg (by omega)
  obtain ⟨hs, hpc, hrest, hregs⟩ := State.writeNext_spec (s := s.draw.2) (g := g) hp hd s.draw.1.toNat
  refine ⟨_, exec_scalar_none hr hi hnone, ?_, hpc, ?_, hregs⟩
  · rw [hs rd hd, if_pos ⟨rfl, by omega⟩]
    exact Nat.mod_eq_of_lt (BitVec.isLt _)
  · conv_lhs => rw [hrest]
    rfl

/-- What READ leaves in its register. -/
theorem State.sreg_writeNext (hp : s.pc g < 16383) {rd : Nat} (hd : rd < 32) (v : Nat) :
    ((s.setSreg g rd v).nextPc g).sreg g rd = if rd = 0 then 0 else v % 2 ^ 64 := by
  obtain ⟨hs, -, -⟩ := State.writeNext_spec hp hd v
  rw [hs rd hd]
  by_cases h0 : rd = 0
  · simp [h0, State.sreg]
  · simp [h0]

theorem readPrm_value {rd n : Nat} (hr : s.cpReady g = true) (hp : s.pc g < 16383) (hi : s.instr g = .readPrm rd n) (hd : rd < 32) :
    Completes (.readSc g) s (fun t => t.sreg g rd = (if rd = 0 then 0 else s.fld .PRM g n % 2 ^ 64) ∧ t.pc g = s.pc g + 1 ∧
      OnlyRegs s t (scalarFlds g)) := by
  obtain ⟨-, hpc, honly⟩ := State.writeNext_spec hp hd (s.fld .PRM g n)
  exact ⟨_, exec_readPrm hr hi, State.sreg_writeNext hp hd _, hpc, honly⟩

theorem readSlot_value {rd n v : Nat} (hr : s.cpReady g = true) (hp : s.pc g < 16383) (hi : s.instr g = .readSlot rd n) (hd : rd < 32)
    (hv : s.readSlotReg g n = .value v) :
    Completes (.readSc g) s (fun t => t.sreg g rd = (if rd = 0 then 0 else v % 2 ^ 64) ∧ t.pc g = s.pc g + 1 ∧
      t.core g = { s.core g with slotWait := false } ∧ CpFrame s t g (scalarFlds g)) := by
  have hp' : (s.slotDone g).pc g < 16383 := hp
  obtain ⟨-, hpc, hrest, -⟩ := State.writeNext_spec hp' hd v
  refine ⟨_, exec_readSlot_value hr hi hv, State.sreg_writeNext hp' hd v, hpc, ?_, ?_⟩
  · rw [hrest]
    exact State.core_setCore_self ..
  · exact ((CpFrame.refl s g _).setCore _).setSreg rd v |>.setPc _ (by simp [scalarFlds])

/-- An instruction at the end of the store is followed by none that decodes (03 R82). -/
theorem mark_last {v : Nat} (hr : s.cpReady g = true) (hp : s.pc g = 16383) (hi : s.instr g = .mark v) :
    Completes (.mark g) s (fun t => (t.core g).ranOut ∧ t.instr g = .undecodable ∧ t.mem = s.mem) := by
  have hnext : (s.trace g 6 v).nextPc g =
      ((s.trace g 6 v).setCore g { (s.trace g 6 v).core g with ranOut := true }).setFld .CP_PC 16384 g := by
    rw [State.nextPc, State.pc_trace, hp]
    exact if_neg (by decide)
  have hran : (((s.trace g 6 v).nextPc g).core g).ranOut = true := by rw [hnext, State.core_setFld, State.core_setCore_self]
  refine ⟨_, exec_mark hr hi, hran, if_pos hran, ?_⟩
  rw [hnext]
  exact s.mem_trace g 6 v

/-- An instruction that decodes to no class ends the stream, whatever the command (03 R82, R114). -/
theorem undecodable_ends (hr : s.cpReady g = true) (hi : s.instr g = .undecodable) (he : s.fld .CORE_ERROR_CODE g = 0) :
    ∀ c ∈ [Instr.scalar g, .readSc g, .fetch g, .skip g, .loop g, .endloop g, .tick g, .mark g, .fin g],
      Completes c s (fun t => (t.core g).cp = .error ∧ t.fld .CORE_ERROR_CODE g = E_CORE_ILLEGAL_OP ∧ t.pc g = s.pc g ∧ t.mem = s.mem) := by
  have ends {c : Instr} {f : CpInstr → Option State} (hc : exec c s = .next (s.cpStep g f)) :
      Completes c s (fun t => (t.core g).cp = .error ∧ t.fld .CORE_ERROR_CODE g = E_CORE_ILLEGAL_OP ∧ t.pc g = s.pc g ∧ t.mem = s.mem) :=
    (completes_of_cpError hc (State.cpStep_undecodable hr hi f) hr he (by decide)).mono fun t h => by
      obtain ⟨hcp, hcode, hpc, hmem, -⟩ := h
      exact ⟨hcp, hcode, hpc, hmem⟩
  simp only [List.forall_mem_cons, List.not_mem_nil, false_imp_iff, implies_true, and_true]
  exact ⟨ends rfl, ends rfl, ends rfl, ends rfl, ends rfl, ends rfl, ends rfl, ends rfl, ends rfl⟩

theorem fetch_load {rd h : Nat} {src : ScalarSrc} (hr : s.cpReady g = true) (hp : s.pc g < 16383) (hi : s.instr g = .fetch rd h src) (hd : rd < 32)
    (hc : s.handleCode g h .lr (s.scalarSrc g src) 8 8 = 0)
    (ho : ∀ o ∈ (s.core g).started.map Running.op ++ (s.core g).queue,
      overlap (hSpans (s.handle g h) (s.scalarSrc g src) 8) (s.spansOf g (opWrites o)) = false)
    (hw : ∀ w ∈ hWords (s.handle g h) (s.scalarSrc g src) 8, s.badBytes g w = 0) :
    Completes (.fetch g) s (fun t => t.sreg g rd = (if rd = 0 then 0 else leNat (s.hRead g h (s.scalarSrc g src) 8)) ∧ t.pc g = s.pc g + 1 ∧
      OnlyRegs s t (scalarFlds g)) := by
  have hlt := leNat_lt (s.hRead g h (s.scalarSrc g src) 8)
  rw [State.length_hRead] at hlt
  obtain ⟨-, hpc, honly⟩ := State.writeNext_spec hp hd (leNat (s.hRead g h (s.scalarSrc g src) 8))
  refine ⟨_, congrArg Host.Outcome.next (cpFetch_load hr hi hc ho hw), ?_, hpc, honly⟩
  rw [State.sreg_writeNext hp hd, show (2 : Nat) ^ 64 = 256 ^ 8 by decide, Nat.mod_eq_of_lt hlt]

end Instructions

/-- Settles O8: SCALAR, READ and FETCH write their register and go on; what fails ends the stream with its code. -/
theorem cpInstructions : Obligations.CpInstructions := by
  refine ⟨fun _ _ _ _ _ _ _ hr hp hi hd hv => scalar_result hr hp hi hd hv, fun _ _ _ _ _ hr hp hi h0 hd => scalar_add hr hp hi h0 hd,
    fun _ _ _ _ _ _ hr hp hi h0 hd ho hv hw => scalar_longShift hr hp hi h0 hd ho hv hw, fun _ _ _ _ hr hp hi hd => readPrm_value hr hp hi hd,
    fun _ _ _ _ _ hr hp hi hd hv => readSlot_value hr hp hi hd hv, fun g _ _ s hr hi hq he => ?_, fun _ _ _ hr hp hi => mark_last hr hp hi,
    fun _ _ hr hi he => undecodable_ends hr hi he, fun _ _ _ _ _ hr hp hi hd hc ho hw => fetch_load hr hp hi hd hc ho hw,
    fun g _ _ _ s hr hi hc he => ?_⟩
  · exact completes_of_cpError rfl (cpRead_absent hr hi hq) hr he (by decide)
  · exact completes_of_cpError rfl (cpFetch_denied hr hi hc) hr he (s.handleCode_lt ..)

end Sys2Proof.Machine
end


section
/-! PROOFS. The flow of the control processor (03 R83, R105 to R107, Table 3.2): SKIP, LOOP and ENDLOOP, TICK, MARK and END. -/
namespace Sys2Proof.Machine
open Sys2Proof

theorem State.core_setPc {v : Nat} (h : v < 16384) (s : State) (g k : Nat) : (s.setPc g v).core k = s.core k := by
  rw [State.setPc_eq h, State.core_setFld]

theorem State.core_nextPc {s : State} {g : Nat} (h : s.pc g < 16383) (k : Nat) : (s.nextPc g).core k = s.core k := State.core_setPc (by omega) ..

/-- An ENDLOOP that is found lies at or after where the search begins. -/
theorem le_matchEnd {l : List CpInstr} {i depth last : Nat} (h : matchEnd l i depth = some last) : i ≤ last := by
  induction l generalizing i depth with
  | nil => cases h
  | cons x l ih =>
    cases x
    case fin => cases h
    case endloop =>
      rw [matchEnd] at h
      split at h
      · cases h
        exact le_rfl
      · exact (Nat.le_succ i).trans (ih h)
    all_goals exact (Nat.le_succ i).trans (ih h)

section Flow
variable {s : State} {g : Nat}

/-! ### SKIP -/

theorem cpSkip_none {rs n : Nat} {c : SkipCond} (hr : s.cpReady g = true) (hi : s.instr g = .skip c rs n) (hc : skipHolds c (s.sreg g rs) = false) :
    s.cpSkip g = s.nextPc g := by
  rw [State.cpSkip, State.cpStep_run hr hi (by simp) (by simp)]
  dsimp only
  rw [if_pos (by simp [hc])]
  rfl

theorem cpSkip_beyond {rs n : Nat} {c : SkipCond} (hr : s.cpReady g = true) (hi : s.instr g = .skip c rs n) (hc : skipHolds c (s.sreg g rs) = true)
    (hb : skipBeyond (s.core g) (s.pc g) (s.pc g + 1 + n) = true) : s.cpSkip g = s.cpError g E_CORE_SKIP_RANGE := by
  rw [State.cpSkip, State.cpStep_run hr hi (by simp) (by simp)]
  dsimp only
  rw [if_neg (by simp [hc]), if_pos hb]
  rfl

theorem cpSkip_taken {rs n : Nat} {c : SkipCond} (hr : s.cpReady g = true) (hi : s.instr g = .skip c rs n) (hc : skipHolds c (s.sreg g rs) = true)
    (hb : skipBeyond (s.core g) (s.pc g) (s.pc g + 1 + n) = false) : s.cpSkip g = (s.trace g 4 n).setPc g (s.pc g + 1 + n) := by
  rw [State.cpSkip, State.cpStep_run hr hi (by simp) (by simp)]
  dsimp only
  rw [if_neg (by simp [hc]), if_neg (by simp [hb])]
  rfl

theorem skip_flow {rs n : Nat} {c : SkipCond} (hr : s.cpReady g = true) (hi : s.instr g = .skip c rs n) (hp : s.pc g + 1 + n < 16384)
    (hb : skipHolds c (s.sreg g rs) = false ∨ skipBeyond (s.core g) (s.pc g) (s.pc g + 1 + n) = false) :
    Completes (.skip g) s (fun t => t.pc g = (if skipHolds c (s.sreg g rs) then s.pc g + 1 + n else s.pc g + 1) ∧
      t.core g = { s.core g with trace := (t.core g).trace, traceLost := (t.core g).traceLost } ∧ CpFrame s t g [(.CP_PC, g)]) := by
  by_cases hc : skipHolds c (s.sreg g rs) = true
  · have hb' : skipBeyond (s.core g) (s.pc g) (s.pc g + 1 + n) = false := hb.resolve_left (by simp [hc])
    refine ⟨_, congrArg Host.Outcome.next (cpSkip_taken hr hi hc hb'), ?_, ?_, ((CpFrame.refl s g _).trace rfl 4 n).setPc _ (by simp)⟩
    · rw [State.pc_setPc hp, if_pos hc]
    · rw [State.core_setPc hp]
      exact s.core_trace g 4 n
  · have hc' : skipHolds c (s.sreg g rs) = false := by simpa using hc
    have hp' : s.pc g < 16383 := by omega
    refine ⟨_, congrArg Host.Outcome.next (cpSkip_none hr hi hc'), ?_, ?_, (CpFrame.refl s g _).setPc _ (by simp)⟩
    · rw [State.pc_nextPc hp', if_neg hc]
    · rw [State.core_nextPc hp']

/-! ### LOOP and ENDLOOP -/

section Loop
variable {count : Operand} {last : Nat} (hr : s.cpReady g = true) (hi : s.instr g = .loop count)
  (hm : matchEnd ((s.core g).prog.drop (s.pc g + 1)) (s.pc g + 1) 0 = some last)
include hr hi hm

/-- A LOOP at depth 4 (03 R107). -/
theorem cpLoop_depth (hd : 4 ≤ (s.core g).loops.length) : s.cpLoop g = s.cpError g E_CORE_LOOP_DEPTH := by
  rw [State.cpLoop, State.cpStep_run hr hi (by simp) (by simp)]
  dsimp only
  rw [hm]
  dsimp only
  rw [if_pos hd]
  rfl

/-- A loop with a TICK whose count is no immediate (03 R106). -/
theorem cpLoop_tick (hd : (s.core g).loops.length < 4) (hc : isImm count = false)
    (ht : (((s.core g).prog.drop (s.pc g + 1)).take (last - s.pc g)).any isTick = true) : s.cpLoop g = s.cpError g E_CORE_LOOP_TICK := by
  rw [State.cpLoop, State.cpStep_run hr hi (by simp) (by simp)]
  dsimp only
  rw [hm]
  dsimp only
  rw [if_neg (by omega), if_pos (by simp [hc, ht])]
  rfl

/-- The state in which a LOOP enters its body or goes past it. -/
theorem cpLoop_enter {v : Nat} (hd : (s.core g).loops.length < 4)
    (hc : isImm count = true ∨ (((s.core g).prog.drop (s.pc g + 1)).take (last - s.pc g)).any isTick = false)
    (hv : s.operand g count = .value v) :
    s.cpLoop g = if v % 2 ^ 32 = 0 then ((s.slotDone g).trace g 3 (v % 2 ^ 32)).setPc g (last + 1)
      else (((s.slotDone g).trace g 3 (v % 2 ^ 32)).setCore g { ((s.slotDone g).trace g 3 (v % 2 ^ 32)).core g with
        loops := { left := v % 2 ^ 32, body := s.pc g + 1, last := last } :: (((s.slotDone g).trace g 3 (v % 2 ^ 32)).core g).loops }).nextPc g := by
  have hallowed : ¬ ((!isImm count && (((s.core g).prog.drop (s.pc g + 1)).take (last - s.pc g)).any isTick) = true) := by
    rcases hc with hc | hc <;> simp [hc]
  rw [State.cpLoop, State.cpStep_run hr hi (by simp) (by simp)]
  dsimp only
  rw [hm]
  dsimp only
  rw [if_neg (by omega), if_neg hallowed, hv]
  dsimp only
  split <;> rfl

theorem loop_enters {v : Nat} (hl : last < 16383) (hd : (s.core g).loops.length < 4)
    (hc : isImm count = true ∨ (((s.core g).prog.drop (s.pc g + 1)).take (last - s.pc g)).any isTick = false)
    (hv : s.operand g count = .value v) :
    Completes (.loop g) s (fun t => t.pc g = (if v % 2 ^ 32 = 0 then last + 1 else s.pc g + 1) ∧
      t.core g = { s.core g with
        slotWait := false, trace := (t.core g).trace, traceLost := (t.core g).traceLost,
        loops := if v % 2 ^ 32 = 0 then (s.core g).loops else { left := v % 2 ^ 32, body := s.pc g + 1, last := last } :: (s.core g).loops } ∧
      CpFrame s t g [(.CP_PC, g)]) := by
  have hpc : s.pc g < 16383 := by
    have := le_matchEnd hm
    omega
  have hframe : CpFrame s ((s.slotDone g).trace g 3 (v % 2 ^ 32)) g [(.CP_PC, g)] := ((CpFrame.refl s g _).setCore _).trace rfl 3 _
  have hcore := (s.slotDone g).core_trace g 3 (v % 2 ^ 32)
  have hdone : (s.slotDone g).core g = { s.core g with slotWait := false } := State.core_setCore_self ..
  rw [hdone] at hcore
  have hat : ((s.slotDone g).trace g 3 (v % 2 ^ 32)).pc g = s.pc g := State.pc_trace ..
  refine ⟨_, congrArg Host.Outcome.next (cpLoop_enter hr hi hm hd hc hv), ?_⟩
  generalize (s.slotDone g).trace g 3 (v % 2 ^ 32) = t at *
  by_cases h0 : v % 2 ^ 32 = 0
  · simp only [if_pos h0]
    refine ⟨State.pc_setPc (by omega) .., ?_, hframe.setPc _ (by simp)⟩
    rw [State.core_setPc (by omega)]
    exact hcore
  · simp only [if_neg h0]
    refine ⟨?_, ?_, (hframe.setCore _).setPc _ (by simp)⟩
    · rw [State.pc_nextPc (by rw [State.pc_setCore, hat]; exact hpc), State.pc_setCore, hat]
    · rw [State.core_nextPc (by rw [State.pc_setCore, hat]; exact hpc), State.core_setCore_self, hcore]

end Loop

theorem cpEndloop_eq {l : LoopLevel} {rest : List LoopLevel} (hr : s.cpReady g = true) (hi : s.instr g = .endloop) (hl : (s.core g).loops = l :: rest) :
    s.cpEndloop g = if 1 < l.left then (s.setCore g { s.core g with loops := { l with left := l.left - 1 } :: rest }).setPc g l.body
      else (s.setCore g { s.core g with loops := rest }).nextPc g := by
  rw [State.cpEndloop, State.cpStep_run hr hi (by simp) (by simp)]
  dsimp only
  rw [hl]
  dsimp only
  split <;> rfl

theorem endloop_flow {l : LoopLevel} {rest : List LoopLevel} (hr : s.cpReady g = true) (hi : s.instr g = .endloop) (hl : (s.core g).loops = l :: rest)
    (hp : s.pc g < 16383) (hb : l.body < 16384) :
    Completes (.endloop g) s (fun t => t.pc g = (if 1 < l.left then l.body else s.pc g + 1) ∧
      t.core g = { s.core g with loops := if 1 < l.left then { l with left := l.left - 1 } :: rest else rest } ∧ CpFrame s t g [(.CP_PC, g)]) := by
  refine ⟨_, congrArg Host.Outcome.next (cpEndloop_eq hr hi hl), ?_⟩
  by_cases h1 : 1 < l.left
  · simp only [if_pos h1]
    refine ⟨State.pc_setPc hb .., ?_, ((CpFrame.refl s g _).setCore _).setPc _ (by simp)⟩
    rw [State.core_setPc hb, State.core_setCore_self]
  · simp only [if_neg h1]
    refine ⟨State.pc_nextPc hp, ?_, ((CpFrame.refl s g _).setCore _).setPc _ (by simp)⟩
    exact (State.core_nextPc (s := s.setCore g _) hp g).trans (State.core_setCore_self ..)

/-! ### TICK, MARK and END -/

theorem tick_flow (hr : s.cpReady g = true) (hp : s.pc g < 16383) (hi : s.instr g = .tick) :
    Completes (.tick g) s (fun t => t.pc g = s.pc g + 1 ∧ t.core g = { s.core g with tick := (s.core g).tick + 1 } ∧
      CpFrame s t g [(.CP_PC, g)]) := by
  have hrun : s.cpTick g = (s.setCore g { s.core g with tick := (s.core g).tick + 1 }).nextPc g := by
    rw [State.cpTick, State.cpStep_run hr hi (by simp) (by simp)]
    rfl
  refine ⟨_, congrArg Host.Outcome.next hrun, State.pc_nextPc hp, ?_, ((CpFrame.refl s g _).setCore _).setPc _ (by simp)⟩
  exact (State.core_nextPc (s := s.setCore g _) hp g).trans (State.core_setCore_self ..)

theorem mark_flow {v : Nat} (hr : s.cpReady g = true) (hp : s.pc g < 16383) (hi : s.instr g = .mark v) :
    Completes (.mark g) s (fun t => t.pc g = s.pc g + 1 ∧
      t.core g = { s.core g with trace := (t.core g).trace, traceLost := (t.core g).traceLost } ∧ CpFrame s t g [(.CP_PC, g)]) := by
  have hat : (s.trace g 6 v).pc g < 16383 := by rwa [State.pc_trace]
  refine ⟨_, exec_mark hr hi, ?_, ?_, ((CpFrame.refl s g _).trace rfl 6 v).setPc _ (by simp)⟩
  · rw [State.pc_nextPc hat, State.pc_trace]
  · rw [State.core_nextPc hat]
    exact s.core_trace g 6 v

theorem fin_flow (hr : s.cpReady g = true) (hi : s.instr g = .fin) :
    Completes (.fin g) s (fun t => t.core g = { s.core g with cp := .ended } ∧ CpFrame s t g []) := by
  have hrun : s.cpEnd g = s.setCore g { s.core g with cp := .ended } := by
    rw [State.cpEnd, State.cpStep_run hr hi (by simp) (by simp)]
    rfl
  exact ⟨_, congrArg Host.Outcome.next hrun, State.core_setCore_self .., (CpFrame.refl s g _).setCore _⟩

end Flow

/-- Settles O9: each class of the control processor's flow moves CP_PC, its loops and its tick as stated, or ends the stream with its code. -/
theorem cpFlow : Obligations.CpFlow := by
  refine ⟨fun _ _ _ _ _ hr hi hp hb => skip_flow hr hi hp hb, fun g rs n c s hr hi hc hb he => ?_,
    fun _ _ _ _ _ hr hi hm hl hd hc hv => loop_enters hr hi hm hl hd hc hv, fun _ _ _ _ hr hi hl hp hb => endloop_flow hr hi hl hp hb,
    fun g last count s hr hi hm hd he => ?_, fun g last count s hr hi hm hd hc ht he => ?_, fun _ _ hr hp hi => tick_flow hr hp hi,
    fun _ _ _ hr hp hi => mark_flow hr hp hi, fun _ _ hr hi => fin_flow hr hi⟩
  · refine (completes_of_cpError (c := .skip g) rfl (cpSkip_beyond hr hi hc hb) hr he (by decide)).mono fun t h => ?_
    obtain ⟨hcp, hcode, hpc, hmem, -⟩ := h
    exact ⟨hcp, hcode, hpc, hmem⟩
  · refine (completes_of_cpError (c := .loop g) rfl (cpLoop_depth hr hi hm hd) hr he (by decide)).mono fun t h => ?_
    obtain ⟨hcp, hcode, -, hmem, -⟩ := h
    exact ⟨hcp, hcode, hmem⟩
  · refine (completes_of_cpError (c := .loop g) rfl (cpLoop_tick hr hi hm hd hc ht) hr he (by decide)).mono fun t h => ?_
    obtain ⟨hcp, hcode, -, hmem, -⟩ := h
    exact ⟨hcp, hcode, hmem⟩

end Sys2Proof.Machine
end


section
/-! PROOFS. Issue, breakpoints, start and completion of operations (03 R86, R87, R90, R100, R108, R109; 01 R42; 04 R144, R145). -/
namespace Sys2Proof.Machine
open Sys2Proof

@[simp] theorem State.core_setFld64 (s : State) (lo hi : Fld) (v i k h : Nat) : (s.setFld64 lo hi v i k).core h = s.core h := rfl
@[simp] theorem State.core_countUp (s : State) (p id sub inst n h : Nat) : (s.countUp p id sub inst n).core h = s.core h := rfl

@[simp] theorem State.fld_countUp (s : State) (p id sub inst n : Nat) (f : Fld) (i k : Nat) : (s.countUp p id sub inst n).fld f i k = s.fld f i k := rfl
@[simp] theorem State.mem_setFld64 (s : State) (lo hi : Fld) (v i k : Nat) : (s.setFld64 lo hi v i k).mem = s.mem := rfl
@[simp] theorem State.mem_countUp (s : State) (p id sub inst n : Nat) : (s.countUp p id sub inst n).mem = s.mem := rfl

theorem RegsBut.setCore {s t : State} {fs : List (Fld × Nat)} (h : RegsBut s t fs) (g : Nat) (c : Core) : RegsBut s (t.setCore g c) fs := h

theorem RegsBut.countUp {s t : State} {fs : List (Fld × Nat)} (h : RegsBut s t fs) (p id sub inst n : Nat) :
    RegsBut s (t.countUp p id sub inst n) fs := h

theorem RegsBut.setFld64 {s t : State} {fs : List (Fld × Nat)} (h : RegsBut s t fs) {lo hi : Fld} {j : Nat} (v k : Nat) (hl : lo.code < 16384)
    (hh : hi.code < 16384) (hml : (lo, j) ∈ fs) (hmh : (hi, j) ∈ fs) : RegsBut s (t.setFld64 lo hi v j k) fs :=
  (h.setFld v k hl hml).setFld _ k hh hmh

/-! ### Issue (03 R87) -/

section Issue
variable {s : State} {g : Nat} {m : MacroT}

/-- Where a core may issue: its partition runs or stops, or entered BREAK in this cycle. -/
def State.mayIssue (s : State) (g : Nat) : Prop :=
  s.pstate (s.corePart g) = .running ∨ s.pstate (s.corePart g) = .stopping ∨
    (s.pstate (s.corePart g) = .brk ∧ (s.part (s.corePart g)).breakAt = s.raw + 1)

/-- The operation at CP_PC can be issued: it is a legal one, nothing blocks it, the queue has room and its operands have values. -/
structure State.Issuable (s : State) (g : Nat) (m : MacroT) : Prop where
  part : s.mayIssue g
  ready : s.cpReady g = true
  instr : s.instr g = .issue m
  legal : m.fam ≠ .illegal
  free : (s.core g).issueBlocked = false
  room : (s.core g).queue.length < 8
  operands : (s.resolve g m.args).1 = .value 0

/-- The operation that is issued, its operands resolved, under the number that counts it. -/
def State.issued (s : State) (g : Nat) (m : MacroT) : MacroOp :=
  { id := s.fld64 .MACRO_COUNT_LO .MACRO_COUNT_HI g, tick := (s.core g).tick, fam := m.fam, tag := m.tag, args := (s.resolve g m.args).2 }

/-- The state in which an operation has been put at the end of the queue and counted. -/
def State.queued (s : State) (g : Nat) (m : MacroT) : State :=
  let n := s.fld64 .MACRO_COUNT_LO .MACRO_COUNT_HI g
  let u := (s.slotDone g).trace g 1 m.tag
  let c := u.core g
  let o : MacroOp := { id := n, tick := c.tick, fam := m.fam, tag := m.tag, args := (s.resolve g m.args).2 }
  ((u.setCore g { c with queue := c.queue ++ [o], resume := false, lastTick := c.tick + 1 }).countUp (s.corePart g) 0x03 (famSub m.fam) g 1).setFld64
    .MACRO_COUNT_LO .MACRO_COUNT_HI (n + 1) g

theorem State.cpIssue_eq (h : s.Issuable g m) :
    s.cpIssue g = if s.breakMask g m.tag ≠ 0 && !(s.core g).resume then (s.slotDone g).breakFire g (s.breakMask g m.tag) m.tag
      else if s.pstate (s.corePart g) = .brk then s else (s.queued g m).nextPc g := by
  obtain ⟨hpart, hready, hinstr, hlegal, hfree, hroom, hops⟩ := h
  have hguard : ¬ ((s.pstate (s.corePart g) ≠ .running && s.pstate (s.corePart g) ≠ .stopping &&
      !(decide (s.pstate (s.corePart g) = .brk) && (s.part (s.corePart g)).breakAt = s.raw + 1)) = true) := by
    rcases hpart with h | h | ⟨h, hb⟩
    · simp [h]
    · simp [h]
    · simp [h, hb]
  have hres : s.resolve g m.args = (.value 0, (s.resolve g m.args).2) := Prod.ext hops rfl
  unfold State.cpIssue
  dsimp only
  rw [if_neg hguard, State.cpStep_run hready hinstr (by simp) (by simp)]
  dsimp only
  rw [if_neg hlegal, if_neg (by simp [hfree, hroom]), hres]
  dsimp only
  by_cases hb : (s.breakMask g m.tag ≠ 0 && !(s.core g).resume) = true
  · rw [if_pos hb, if_pos hb]
    rfl
  · rw [if_neg hb, if_neg hb]
    by_cases ha : s.pstate (s.corePart g) = .brk
    · rw [if_pos ha, if_pos (by simpa using ha)]
      rfl
    · rw [if_neg ha, if_neg (by simpa using ha), Option.getD_some, State.queued]

/-- An operation that no breakpoint stops goes to the end of the queue. -/
theorem State.cpIssue_queued (h : s.Issuable g m) (hb : s.breakMask g m.tag = 0) (ha : s.pstate (s.corePart g) ≠ .brk) :
    s.cpIssue g = (s.queued g m).nextPc g := by
  rw [State.cpIssue_eq h, if_neg (by simp [hb]), if_neg ha]

theorem State.cpIssue_break (h : s.Issuable g m) (hb : s.breakMask g m.tag ≠ 0) (hr : (s.core g).resume = false) :
    s.cpIssue g = (s.slotDone g).breakFire g (s.breakMask g m.tag) m.tag := by
  rw [State.cpIssue_eq h, if_pos (by simp [hb, hr])]

/-- The fields that an issue changes. -/
def issueFlds (s : State) (g : Nat) : List (Fld × Nat) :=
  [(.CP_PC, g), (.MACRO_COUNT_LO, g), (.MACRO_COUNT_HI, g), (.OBS_TRACE_LOST, s.corePart g)]

/-- An operation is put at the end of the queue with its operands' values, and counted (03 R87). -/
theorem State.queued_spec (s : State) (g : Nat) (m : MacroT) :
    ((s.queued g m).core g).queue = (s.core g).queue ++ [s.issued g m] ∧
    (s.queued g m).pc g = s.pc g ∧
    (s.queued g m).fld64 .MACRO_COUNT_LO .MACRO_COUNT_HI g = (s.fld64 .MACRO_COUNT_LO .MACRO_COUNT_HI g + 1) % 2 ^ 64 ∧
    (s.queued g m).mem = s.mem ∧ (∀ h, h ≠ g → (s.queued g m).core h = s.core h) ∧ RegsBut s (s.queued g m) (issueFlds s g) := by
  have hdone : (s.slotDone g).core g = { s.core g with slotWait := false } := State.core_setCore_self ..
  have hcore := (s.slotDone g).core_trace g 1 m.tag
  rw [hdone] at hcore
  have hothers (h : Nat) (hn : h ≠ g) : ((s.slotDone g).trace g 1 m.tag).core h = s.core h :=
    ((s.slotDone g).core_trace_ne 1 m.tag hn).trans (State.core_setCore_ne _ _ hn)
  have hpc : ((s.slotDone g).trace g 1 m.tag).pc g = s.pc g := State.pc_trace ..
  have hmem : ((s.slotDone g).trace g 1 m.tag).mem = s.mem := State.mem_trace ..
  have hregs : RegsBut s ((s.slotDone g).trace g 1 m.tag) (issueFlds s g) := by
    obtain ⟨-, -, h⟩ := (s.slotDone g).trace_keeps g 1 m.tag
    exact RegsBut.mono (fs := [(.OBS_TRACE_LOST, s.corePart g)]) h (by simp [issueFlds])
  unfold State.queued
  generalize (s.slotDone g).trace g 1 m.tag = u at *
  refine ⟨?_, ?_, State.fld64_setFld64 _ rfl rfl (by decide) .., ?_, fun h hn => ?_, ?_⟩
  · rw [State.core_setFld64, State.core_countUp, State.core_setCore_self, hcore, State.issued]
  · rw [State.pc, State.fld_setFld64_name _ (by decide) (by decide), State.fld_countUp, State.fld_setCore]
    exact hpc
  · rw [State.mem_setFld64, State.mem_countUp, State.setCore_mem, hmem]
  · rw [State.core_setFld64, State.core_countUp, State.core_setCore_ne _ _ hn, hothers h hn]
  · exact RegsBut.setFld64 (RegsBut.countUp (RegsBut.setCore hregs g _) _ _ _ _ _) _ 0 (by decide) (by decide) (by simp [issueFlds]) (by simp [issueFlds])

theorem issue_queued (h : s.Issuable g m) (hp : s.pc g < 16383) (hb : s.breakMask g m.tag = 0) (ha : s.pstate (s.corePart g) ≠ .brk) :
    Completes (.issue g) s (fun t => t.pc g = s.pc g + 1 ∧
      (t.core g).queue = (s.core g).queue ++ [s.issued g m] ∧
      t.fld64 .MACRO_COUNT_LO .MACRO_COUNT_HI g = (s.fld64 .MACRO_COUNT_LO .MACRO_COUNT_HI g + 1) % 2 ^ 64 ∧ t.mem = s.mem ∧
      (∀ h, h ≠ g → t.core h = s.core h) ∧ RegsBut s t (issueFlds s g)) := by
  obtain ⟨hqueue, hpc, hcount, hmem, hothers, hregs⟩ := s.queued_spec g m
  refine ⟨_, congrArg Host.Outcome.next (State.cpIssue_queued h hb ha), ?_⟩
  generalize s.queued g m = t at *
  have hlt : t.pc g < 16383 := by omega
  refine ⟨?_, ?_, ?_, ?_, fun k hk => ?_, hregs.nextPc (by simp [issueFlds])⟩
  · rw [State.pc_nextPc hlt, hpc]
  · rw [State.core_nextPc hlt, hqueue]
  · rw [State.nextPc, State.setPc_eq (by omega), State.fld64, State.fld_setFld_name _ (by decide), State.fld_setFld_name _ (by decide),
      ← hcount, State.fld64]
  · rw [State.nextPc, State.setPc_eq (by omega), State.setFld_mem, hmem]
  · rw [State.core_nextPc hlt, hothers k hk]

/-! ### Breakpoints (03 R108, R109) -/

/-- The fields in which a breakpoint is shown. -/
def brkShownFlds : List Fld :=
  [.BRK_STATUS_COUNT_HIT, .BRK_STATUS_TAG_HIT, .BRK_STATUS_TICK_HIT, .DIE_BREAK_CORE_CORE, .DIE_BREAK_CORE_VALID]

/-- The registers show the conditions that matched, and the die's lowest core at a breakpoint. -/
def State.breakShown (s : State) (g mask : Nat) : State :=
  let nn := g / 96
  let s := if mask.testBit 0 then s.setFld .BRK_STATUS_COUNT_HIT 1 g else s
  let s := if mask.testBit 1 then s.setFld .BRK_STATUS_TAG_HIT 1 g else s
  let s := if mask.testBit 2 then s.setFld .BRK_STATUS_TICK_HIT 1 g else s
  if s.fld .DIE_BREAK_CORE_VALID nn = 0 || g % 96 < s.fld .DIE_BREAK_CORE_CORE nn then
    (s.setFld .DIE_BREAK_CORE_CORE (g % 96) nn).setFld .DIE_BREAK_CORE_VALID 1 nn
  else s

theorem KeptBut.breakShown (s : State) (g mask : Nat) : KeptBut s (s.breakShown g mask) brkShownFlds := by
  have hit (t : State) (h : KeptBut s t brkShownFlds) (n : Nat) {f : Fld} (hf : f ∈ brkShownFlds) :
      KeptBut s (if mask.testBit n then t.setFld f 1 g else t) brkShownFlds := .ite (h.setFld hf 1 g 0) h
  have all := hit _ (hit _ (hit s (.refl s _) 0 (f := .BRK_STATUS_COUNT_HIT) (by decide)) 1 (f := .BRK_STATUS_TAG_HIT) (by decide)) 2
    (f := .BRK_STATUS_TICK_HIT) (by decide)
  exact .ite ((all.setFld (f := .DIE_BREAK_CORE_CORE) (by decide) _ _ 0).setFld (f := .DIE_BREAK_CORE_VALID) (by decide) _ _ 0) all

/-- The core is stopped before the operation, with its trace entry. -/
def State.breakNoted (s : State) (g mask tag : Nat) : State :=
  ((s.breakShown g mask).setCore g { (s.breakShown g mask).core g with fired := mask }).trace g 7 tag

/-- The partition enters BREAK, to go back to the state it was in (01 Table 1.6). -/
def State.enterBreak (s : State) (p : Nat) : State :=
  ((s.setPart p { s.part p with prev := s.fld .PLAN_STATUS_STATE p, breakAt := s.raw + 1 }).setPState p .brk).raiseVector (8 + p)

theorem State.breakFire_eq (s : State) (g mask tag : Nat) : s.breakFire g mask tag =
    if (s.breakNoted g mask tag).pstate (s.corePart g) = .brk then s.breakNoted g mask tag
    else (s.breakNoted g mask tag).enterBreak (s.corePart g) := rfl

theorem State.breakNoted_spec (s : State) (g mask tag : Nat) :
    ((s.breakNoted g mask tag).core g).queue = (s.core g).queue ∧ ((s.breakNoted g mask tag).core g).fired = mask ∧
    (s.breakNoted g mask tag).parts = s.parts ∧ (s.breakNoted g mask tag).mem = s.mem ∧
    ∀ (f : Fld) (i k : Nat), f.code < 16384 → f.code ≠ Fld.OBS_TRACE_LOST.code → (∀ e ∈ brkShownFlds, f.code % 16384 ≠ e.code % 16384) →
      (s.breakNoted g mask tag).fld f i k = s.fld f i k := by
  have hshown := KeptBut.breakShown s g mask
  unfold State.breakNoted
  generalize s.breakShown g mask = u at *
  have hcore := (u.setCore g { u.core g with fired := mask }).core_trace g 7 tag
  rw [State.core_setCore_self, hshown.core] at hcore
  refine ⟨?_, ?_, ?_, ?_, fun f i k hf hn hb => ?_⟩
  · rw [hshown.core, hcore]
  · rw [hshown.core, hcore]
  · rw [State.parts_trace]
    exact hshown.parts
  · rw [State.mem_trace]
    exact hshown.mem
  · rw [State.fld_trace _ _ _ _ hf hn]
    exact hshown.fld f i k hb

/-- What a core keeps at a breakpoint, whether or not its partition is in BREAK already. -/
theorem State.breakFire_core (s : State) (g mask tag : Nat) :
    (s.breakFire g mask tag).pc g = s.pc g ∧ ((s.breakFire g mask tag).core g).queue = (s.core g).queue ∧
    ((s.breakFire g mask tag).core g).fired = mask ∧ (s.breakFire g mask tag).pstate (s.corePart g) = .brk ∧ (s.breakFire g mask tag).mem = s.mem := by
  obtain ⟨hqueue, hfired, -, hmem, hfld⟩ := s.breakNoted_spec g mask tag
  have hpc : (s.breakNoted g mask tag).pc g = s.pc g := hfld .CP_PC g 0 (by decide) (by decide) (by decide)
  rw [State.breakFire_eq]
  generalize s.breakNoted g mask tag = u at *
  by_cases hb : u.pstate (s.corePart g) = .brk
  · rw [if_pos hb]
    exact ⟨hpc, hqueue, hfired, hb, hmem⟩
  · rw [if_neg hb, State.enterBreak]
    have hkept := KeptBut.raiseVector ((u.setPart (s.corePart g) { u.part (s.corePart g) with
      prev := u.fld .PLAN_STATUS_STATE (s.corePart g), breakAt := u.raw + 1 }).setPState (s.corePart g) .brk) (8 + s.corePart g)
    refine ⟨?_, ?_, ?_, ?_, ?_⟩
    · rw [State.pc, hkept.fld _ _ _ (by decide), State.fld_setPState_name _ (by decide) (by decide), State.fld_setPart]
      exact hpc
    · rw [hkept.core]
      exact hqueue
    · rw [hkept.core]
      exact hfired
    · rw [hkept.pstate (by decide), State.pstate_setPState]
    · rw [hkept.mem]
      exact hmem

theorem issue_break (h : s.Issuable g m) (hp : s.pstate (s.corePart g) ≠ .brk) (hb : s.breakMask g m.tag ≠ 0) (hr : (s.core g).resume = false) :
    Completes (.issue g) s (fun t => t.pc g = s.pc g ∧ (t.core g).queue = (s.core g).queue ∧ (t.core g).fired = s.breakMask g m.tag ∧
      t.pstate (s.corePart g) = .brk ∧ (t.part (s.corePart g)).prev = s.fld .PLAN_STATUS_STATE (s.corePart g) ∧ t.mem = s.mem) := by
  have hdone : (s.slotDone g).core g = { s.core g with slotWait := false } := State.core_setCore_self ..
  obtain ⟨hpc, hqueue, hfired, hst, hmem⟩ := (s.slotDone g).breakFire_core g (s.breakMask g m.tag) m.tag
  obtain ⟨-, -, -, -, hfld⟩ := (s.slotDone g).breakNoted_spec g (s.breakMask g m.tag) m.tag
  have hstate := hfld .PLAN_STATUS_STATE (s.corePart g) 0 (by decide) (by decide) (by decide)
  rw [hdone] at hqueue
  refine ⟨_, congrArg Host.Outcome.next (State.cpIssue_break h hb hr), hpc, hqueue, hfired, hst, ?_, hmem⟩
  have hout : ((s.slotDone g).breakNoted g (s.breakMask g m.tag) m.tag).pstate ((s.slotDone g).corePart g) ≠ .brk := by
    rw [State.pstate]
    change PState.ofCode (((s.slotDone g).breakNoted g (s.breakMask g m.tag) m.tag).fld .PLAN_STATUS_STATE (s.corePart g)) ≠ .brk
    rw [hstate]
    exact hp
  rw [State.breakFire_eq, if_neg hout, State.enterBreak, (KeptBut.raiseVector _ _).part]
  change (((State.setPart _ (s.corePart g) _).setPState (s.corePart g) .brk).part (s.corePart g)).prev = _
  rw [State.part_setPState, State.part_setPart_self]
  exact hstate

/-- A second core at a breakpoint in the cycle in which the partition entered BREAK. -/
theorem issue_break_second (h : s.Issuable g m) (hp : s.pstate (s.corePart g) = .brk) (hb : s.breakMask g m.tag ≠ 0)
    (hr : (s.core g).resume = false) :
    Completes (.issue g) s (fun t => t.pc g = s.pc g ∧ (t.core g).queue = (s.core g).queue ∧ (t.core g).fired = s.breakMask g m.tag ∧
      t.pstate (s.corePart g) = .brk ∧ t.parts = s.parts ∧ t.mem = s.mem) := by
  have hdone : (s.slotDone g).core g = { s.core g with slotWait := false } := State.core_setCore_self ..
  obtain ⟨hpc, hqueue, hfired, hst, hmem⟩ := (s.slotDone g).breakFire_core g (s.breakMask g m.tag) m.tag
  obtain ⟨-, -, hparts, -, hfld⟩ := (s.slotDone g).breakNoted_spec g (s.breakMask g m.tag) m.tag
  have hstate := hfld .PLAN_STATUS_STATE (s.corePart g) 0 (by decide) (by decide) (by decide)
  rw [hdone] at hqueue
  refine ⟨_, congrArg Host.Outcome.next (State.cpIssue_break h hb hr), hpc, hqueue, hfired, hst, ?_, hmem⟩
  have hin : ((s.slotDone g).breakNoted g (s.breakMask g m.tag) m.tag).pstate ((s.slotDone g).corePart g) = .brk :=
    (congrArg PState.ofCode hstate).trans hp
  rw [State.breakFire_eq, if_pos hin, hparts]
  rfl

end Issue
end Sys2Proof.Machine
end


section
/-! PROOFS. Start and completion of operations (03 R86, R88, R90, R100; 01 R42; 04 R144, R145), and the outcomes of their flow. -/
namespace Sys2Proof.Machine
open Sys2Proof

section Flow
variable {s : State} {g id : Nat}

/-! ### Starting (03 R86, R88, R89) -/

theorem macroOpStart_runs {o : MacroOp} (hq : (s.core g).queue.find? (fun x => x.id = id) = some o) (hw : s.awake (g / 96) = true)
    (hs : s.stepping (g / 96) = false) (ha : (s.pstate (s.corePart g)).active = true) (hc : (s.core g).cp ≠ .error)
    (hu : (s.core g).unitFree o = true) (ht : (s.core g).tokenReady o = true) (hb : s.boardFree g o = true)
    (he : waitsForAll o.fam = false ∨ (s.core g).earlier id = []) :
    Completes (.macroOpStart g id) s (fun t => t = { s with cores := t.cores } ∧ (∀ h, h ≠ g → t.core h = s.core h) ∧
      t.core g = { s.core g with queue := (s.core g).queue.filter (fun x => x.id ≠ id), started := (s.core g).started ++ [{ op := o }] }) := by
  have hstart : s.macroOpStart g id = s.setCore g { s.core g with
      queue := (s.core g).queue.filter (fun x => x.id ≠ id), started := (s.core g).started ++ [{ op := o }] } := by
    have halone : (!waitsForAll o.fam || ((s.core g).earlier id).isEmpty) = true := by
      rcases he with he | he <;> simp [he]
    unfold State.macroOpStart
    dsimp only
    rw [hq]
    exact if_pos (by simp only [hw, hs, ha, hu, ht, hb, halone, decide_eq_true hc, Bool.not_false, Bool.and_true])
  refine ⟨_, congrArg Host.Outcome.next hstart, rfl, fun h hn => State.core_setCore_ne _ _ hn, State.core_setCore_self ..⟩

/-! ### Completing (03 R90; 04 R144) -/

theorem State.tokens_trace (s : State) (g kind value : Nat) : (s.trace g kind value).tokens = s.tokens := by
  rcases s.trace_cases g kind value with h | h | ⟨l, h⟩ <;> rw [h] <;> rfl

/-- The fields of a core's arithmetic flags. -/
def flagFlds (g : Nat) : List (Fld × Nat) :=
  (.ARITH_FIRST_TAG_TAG, g) :: (.ARITH_FIRST_TAG_VALID, g) :: arithFlags.map (fun f => (f, g))

/-- The flags of an operation set in their registers. -/
def State.flagsSet (s : State) (g flags : Nat) : State :=
  arithFlags.zipIdx.foldl (fun s f => if flags.testBit f.2 then s.setFld f.1 1 g else s) s

theorem State.flagsSet_spec (s : State) (g flags : Nat) :
    KeptBut s (s.flagsSet g flags) arithFlags ∧ (s.flagsSet g flags).tokens = s.tokens ∧ RegsBut s (s.flagsSet g flags) (flagFlds g) := by
  refine List.foldlRecOn (motive := fun t : State => KeptBut s t arithFlags ∧ t.tokens = s.tokens ∧ RegsBut s t (flagFlds g)) arithFlags.zipIdx _
    ⟨.refl s _, rfl, .refl s _⟩ fun t ht f hf => ?_
  have hmem : f.1 ∈ arithFlags := List.fst_mem_of_mem_zipIdx hf
  have hcode : ∀ f ∈ arithFlags, f.code < 16384 := by decide
  obtain ⟨hkept, htokens, hregs⟩ := ht
  split
  · exact ⟨hkept.setFld hmem 1 g 0, htokens, hregs.setFld 1 0 (hcode _ hmem)
      (List.mem_cons_of_mem _ (List.mem_cons_of_mem _ (List.mem_map_of_mem hmem)))⟩
  · exact ⟨hkept, htokens, hregs⟩

theorem State.raiseFlags_cases (s : State) (g flags tag id : Nat) :
    s.raiseFlags g flags tag id = s ∨ s.raiseFlags g flags tag id = s.flagsSet g flags ∨
    ∃ x, s.raiseFlags g flags tag id = (((s.flagsSet g flags).setFld .ARITH_FIRST_TAG_TAG tag g).setFld .ARITH_FIRST_TAG_VALID 1 g).setCore g
      { (s.flagsSet g flags).core g with tagAt := x } := by
  unfold State.raiseFlags
  dsimp only
  split
  · exact .inl rfl
  · split
    · exact .inr (.inr ⟨_, rfl⟩)
    · exact .inr (.inl rfl)

/-- What raising flags changes: their registers, and which operation was the first. -/
theorem State.raiseFlags_spec (s : State) (g flags tag id : Nat) :
    (s.raiseFlags g flags tag id).parts = s.parts ∧ (s.raiseFlags g flags tag id).tokens = s.tokens ∧
    (∃ x, (s.raiseFlags g flags tag id).core g = { s.core g with tagAt := x }) ∧ RegsBut s (s.raiseFlags g flags tag id) (flagFlds g) := by
  obtain ⟨hkept, htokens, hregs⟩ := s.flagsSet_spec g flags
  rcases s.raiseFlags_cases g flags tag id with h | h | ⟨x, h⟩ <;> rw [h]
  · exact ⟨rfl, rfl, ⟨_, rfl⟩, .refl s _⟩
  · exact ⟨hkept.parts, htokens, ⟨_, hkept.core g⟩, hregs⟩
  · refine ⟨hkept.parts, htokens, ⟨x, ?_⟩, RegsBut.setCore ((hregs.setFld _ 0 (by decide) ?_).setFld _ 0 (by decide) ?_) g _⟩
    · rw [State.core_setCore_self, hkept.core]
    · exact List.mem_cons_self ..
    · exact List.mem_cons_of_mem _ (List.mem_cons_self ..)

/-- A token given back is no longer among those of its die (01 R42). -/
theorem State.releaseToken_spec (s : State) (g id : Nat) :
    (∃ k, (s.releaseToken g id).core g = { s.core g with token := k }) ∧
    (∀ e ∈ bankGet [] (s.releaseToken g id).tokens (g / 96), e.2.1 = g → e.2.2 ≠ id) ∧ (s.releaseToken g id).regs = s.regs := by
  have hgone : ∀ e ∈ bankGet [] (bankSet [] s.tokens (g / 96) ((bankGet [] s.tokens (g / 96)).filter (fun e => !(e.2.1 = g && e.2.2 = id)))) (g / 96),
      e.2.1 = g → e.2.2 ≠ id := fun e he hg hid => by
    rw [bankGet_bankSet_self] at he
    have hkept := (List.mem_filter.mp he).2
    simp [hg, hid] at hkept
  unfold State.releaseToken
  dsimp only
  split
  · exact ⟨⟨none, State.core_setCore_self ..⟩, hgone, rfl⟩
  · exact ⟨⟨_, rfl⟩, hgone, rfl⟩

/-- The state in which an operation has left its unit and given its token back, before its flags are noted. -/
def State.unitLeft (s : State) (g id : Nat) : State :=
  ((s.setCore g { s.core g with started := (s.core g).started.filter (fun x => x.op.id ≠ id) }).releaseToken g id).progress (s.corePart g)

theorem State.unitLeft_spec (s : State) (g id : Nat) :
    (∃ k, (s.unitLeft g id).core g = { s.core g with started := (s.core g).started.filter (fun x => x.op.id ≠ id), token := k }) ∧
    (∀ e ∈ bankGet [] (s.unitLeft g id).tokens (g / 96), e.2.1 = g → e.2.2 ≠ id) ∧ ((s.unitLeft g id).part (s.corePart g)).noProg = 0 ∧
    (s.unitLeft g id).regs = s.regs ∧ (s.unitLeft g id).mem = s.mem := by
  have hcore := State.core_setCore_self s g { s.core g with started := (s.core g).started.filter (fun x => x.op.id ≠ id) }
  unfold State.unitLeft
  generalize hu : s.setCore g { s.core g with started := (s.core g).started.filter (fun x => x.op.id ≠ id) } = u at hcore
  obtain ⟨⟨k, hk⟩, htokens, hregs⟩ := u.releaseToken_spec g id
  obtain ⟨-, hmem⟩ := u.releaseToken_keeps g id
  refine ⟨⟨k, ?_⟩, htokens, ?_, ?_, ?_⟩
  · rw [hcore] at hk
    exact hk
  · rw [State.progress, State.part_setPart_self]
  · rw [State.progress, State.setPart_regs, hregs, ← hu]
    rfl
  · rw [State.progress, State.setPart_mem, hmem, ← hu]
    rfl

/-- A completed operation's flags, noted with its trace entry. -/
def State.flagsNoted (s : State) (g id : Nat) (r : Running) : State := ((s.unitLeft g id).trace g 2 r.op.tag).raiseFlags g r.flags r.op.tag id

theorem State.macroOpComplete_eq {r : Running} (hr : (s.core g).started.find? (fun x => x.op.id = id && x.done && s.leftSource g x) = some r) :
    s.macroOpComplete g id =
      if (if r.err ≠ 0 then r.err else (s.flagsNoted g id r).trapCode g r.flags) = 0 then s.flagsNoted g id r
      else ((s.flagsNoted g id r).setCore g { (s.flagsNoted g id r).core g with cp := .error }).coreFault g
        (if r.err ≠ 0 then r.err else (s.flagsNoted g id r).trapCode g r.flags) r.op.tag := by
  unfold State.macroOpComplete
  dsimp only
  rw [hr]
  rfl

/-- What an operation leaves when it completes: the unit and the token free, its flags noted (03 R90; 04 R144). -/
theorem State.flagsNoted_spec (s : State) (g id : Nat) (r : Running) :
    ((s.flagsNoted g id r).core g).started = (s.core g).started.filter (fun x => x.op.id ≠ id) ∧
    ((s.flagsNoted g id r).core g).queue = (s.core g).queue ∧ ((s.flagsNoted g id r).core g).cp = (s.core g).cp ∧
    (∀ e ∈ bankGet [] (s.flagsNoted g id r).tokens (g / 96), e.2.1 = g → e.2.2 ≠ id) ∧
    ((s.flagsNoted g id r).part (s.corePart g)).noProg = 0 ∧ (s.flagsNoted g id r).mem = s.mem ∧
    RegsBut s (s.flagsNoted g id r) ((.OBS_TRACE_LOST, s.corePart g) :: flagFlds g) := by
  obtain ⟨⟨k, hk⟩, htokens, hprog, hregs, hmem⟩ := s.unitLeft_spec g id
  have hpart : (s.unitLeft g id).corePart g = s.corePart g := State.corePart_congr (fun q => by rw [State.fld, State.fld, hregs]) g
  have hentry := (s.unitLeft g id).core_trace g 2 r.op.tag
  obtain ⟨htparts, htmem, htregs⟩ := (s.unitLeft g id).trace_keeps g 2 r.op.tag
  have httokens := (s.unitLeft g id).tokens_trace g 2 r.op.tag
  rw [hpart] at htregs
  rw [hk] at hentry
  unfold State.flagsNoted
  generalize (s.unitLeft g id).trace g 2 r.op.tag = t at *
  obtain ⟨hfparts, hftokens, ⟨x, hx⟩, hfregs⟩ := t.raiseFlags_spec g r.flags r.op.tag id
  obtain ⟨-, hfmem⟩ := t.raiseFlags_keeps g r.flags r.op.tag id
  rw [hentry] at hx
  refine ⟨by rw [hx], by rw [hx], by rw [hx], ?_, ?_, ?_, ?_⟩
  · rw [hftokens, httokens]
    exact htokens
  · rw [State.part, hfparts, htparts]
    exact hprog
  · rw [hfmem, htmem, hmem]
  · refine ((RegsBut.of_regs hregs _).trans (htregs.mono ?_)).trans (hfregs.mono fun e he => List.mem_cons_of_mem _ he)
    simp

/-- The names of the fields that a completion can write. -/
def completeFlds : List Fld := .OBS_TRACE_LOST :: .ARITH_FIRST_TAG_TAG :: .ARITH_FIRST_TAG_VALID :: arithFlags

theorem apart_of_completeFlds {f : Fld} (h : ∀ n ∈ completeFlds, f.code ≠ n.code) (p g i : Nat) :
    ∀ e ∈ (Fld.OBS_TRACE_LOST, p) :: flagFlds g, f.code ≠ e.1.code ∨ i ≠ e.2 :=
  fun _ he => .inl (h _ (List.mem_map_of_mem (f := Prod.fst) he))

theorem macroOpComplete_done {r : Running} (hr : (s.core g).started.find? (fun x => x.op.id = id && x.done && s.leftSource g x) = some r)
    (he : r.err = 0) (ht : s.trapCode g r.flags = 0) :
    Completes (.macroOpComplete g id) s (fun t => (t.core g).started = (s.core g).started.filter (fun x => x.op.id ≠ id) ∧
      (t.core g).queue = (s.core g).queue ∧ (t.core g).cp = (s.core g).cp ∧
      (∀ e ∈ bankGet [] t.tokens (g / 96), e.2.1 = g → e.2.2 ≠ id) ∧ (t.part (s.corePart g)).noProg = 0 ∧ t.mem = s.mem ∧
      RegsBut s t ((.OBS_TRACE_LOST, s.corePart g) :: flagFlds g)) := by
  have hspec := s.flagsNoted_spec g id r
  refine ⟨_, congrArg Host.Outcome.next (State.macroOpComplete_eq hr), ?_⟩
  have htrap : (s.flagsNoted g id r).trapCode g r.flags = 0 := by
    obtain ⟨-, -, -, -, -, -, hregs⟩ := hspec
    have harith := hregs .ARITH_TRAP g 0 (by decide) (apart_of_completeFlds (by decide) _ g g)
    rw [State.trapCode, harith]
    exact ht
  rw [if_pos (by rw [if_neg (not_not.mpr he), htrap])]
  exact hspec

theorem macroOpComplete_error {r : Running} (hr : (s.core g).started.find? (fun x => x.op.id = id && x.done && s.leftSource g x) = some r)
    (he : r.err ≠ 0) (hb : r.err < 2 ^ 16) (hc : s.fld .CORE_ERROR_CODE g = 0) :
    Completes (.macroOpComplete g id) s (fun t => (t.core g).cp = .error ∧ t.fld .CORE_ERROR_CODE g = r.err ∧
      t.fld .CORE_ERROR_TAG g = r.op.tag % 2 ^ 16 ∧ t.mem = s.mem) := by
  obtain ⟨-, -, -, -, -, hmem, hregs⟩ := s.flagsNoted_spec g id r
  have hcode : ((s.flagsNoted g id r).setCore g { (s.flagsNoted g id r).core g with cp := .error }).fld .CORE_ERROR_CODE g = 0 :=
    (hregs .CORE_ERROR_CODE g 0 (by decide) (apart_of_completeFlds (by decide) _ g g)).trans hc
  obtain ⟨herr, htag, hkept, -⟩ := State.coreFault_spec hcode hb r.op.tag
  refine ⟨_, congrArg Host.Outcome.next (State.macroOpComplete_eq hr), ?_⟩
  rw [if_pos he, if_neg he]
  refine ⟨?_, herr, htag, hkept.trans hmem⟩
  rw [State.core_coreFault, State.core_setCore_self]

theorem macroOpComplete_waits (h : ∀ r ∈ (s.core g).started, r.op.id = id → s.leftSource g r = false) :
    Completes (.macroOpComplete g id) s (fun t => t = s) := by
  have hnone : (s.core g).started.find? (fun x => x.op.id = id && x.done && s.leftSource g x) = none := by
    rw [List.find?_eq_none]
    intro r hr hx
    simp only [Bool.and_eq_true, decide_eq_true_eq] at hx
    obtain ⟨⟨hid, -⟩, hleft⟩ := hx
    rw [h r hr hid] at hleft
    cases hleft
  refine ⟨_, rfl, ?_⟩
  unfold State.macroOpComplete
  dsimp only
  rw [hnone]

end Flow

/-- Settles O10: issue, breakpoints, start and completion, each a clause of its own. -/
theorem macroFlow : Obligations.MacroFlow := by
  refine ⟨fun g m s hp hr hpc hi hf hb hq ho hm => ?_, fun g m s hp hr hi hf hb hq ho hm hres => ?_, fun g m s hp hat hr hi hf hb hq ho hm hres => ?_,
    fun _ _ _ _ hq hw hs ha hc hu ht hb he => macroOpStart_runs hq hw hs ha hc hu ht hb he,
    fun _ _ _ _ hr he ht => macroOpComplete_done hr he ht, fun _ _ _ _ hr he hb hc => macroOpComplete_error hr he hb hc,
    fun _ _ _ h => macroOpComplete_waits h⟩
  · have hout : s.pstate (s.corePart g) ≠ .brk := by rcases hp with h | h <;> rw [h] <;> decide
    exact issue_queued ⟨hp.imp_right .inl, hr, hi, hf, hb, hq, ho⟩ hpc hm hout
  · have hout : s.pstate (s.corePart g) ≠ .brk := by rcases hp with h | h <;> rw [h] <;> decide
    exact issue_break ⟨hp.imp_right .inl, hr, hi, hf, hb, hq, ho⟩ hout hm hres
  · exact issue_break_second ⟨.inr (.inr ⟨hp, hat⟩), hr, hi, hf, hb, hq, ho⟩ hp hm hres

end Sys2Proof.Machine
end


section
/-! PROOFS. MOVE and SAMPLE that leave the core (03 R99, R100; 05 R167, R181; 07 R233; 09 R303; 11 R353). -/
namespace Sys2Proof.Machine
open Sys2Proof

section Sends
variable {s : State} {g : Nat} {o : MacroOp}

/-! ### Sending packets -/

theorem State.inject_sends (s : State) (p : Nat) (k : Pkt) : ∃ a b, s.inject p k = { s with outs := a, flight := b } := by
  unfold State.inject
  split
  · split <;> exact ⟨_, _, rfl⟩
  · exact ⟨_, _, rfl⟩

/-- Sending packets changes the outputs and what is on the fabric. -/
theorem State.sendAll_sends (s : State) (p : Nat) (ks : List Pkt) : ∃ a b, s.sendAll p ks = { s with outs := a, flight := b } := by
  refine List.foldlRecOn (motive := fun t : State => ∃ a b, t = { s with outs := a, flight := b }) ks _ ⟨_, _, rfl⟩ fun t ht k _ => ?_
  obtain ⟨a, b, rfl⟩ := ht
  obtain ⟨c, d, h⟩ := State.inject_sends { s with outs := a, flight := b } p k
  exact ⟨c, d, h⟩

/-- A packet for a unit of the device goes out as it is, in its partition. -/
theorem State.outs_inject {p : Nat} {k : Pkt} (h : s.offDevice p k = false) : (s.inject p k).outs = s.outs ++ [.packet { k with part := p }] := by
  have hst : s.stamped p k = some { k with part := p } := if_neg (by simp [h])
  unfold State.inject
  rw [hst]
  dsimp only
  split <;> rfl

section SendOp
variable {p : Nat} {ks : List Pkt} (hh : ks.any (s.mustHold p) = false) (hc : s.sendCode p ks = 0)
include hh hc

theorem State.sendOp_sends (after : State → Effect) : s.sendOp p [] ks after = after (s.sendAll p ks) := by
  unfold State.sendOp
  dsimp only
  rw [if_neg (by simp [hh]), if_neg (not_not.mpr hc), if_neg (by simp)]

/-- An injection that waits: the operation stays, at the level of the buffer it waits on (07 R233). -/
theorem State.sendOp_waits (w : HeadWait) (full : List HeadWait) (after : State → Effect) :
    s.sendOp p (w :: full) ks after = { st := s, stays := true, level := bpLevel (w :: full) } := by
  unfold State.sendOp
  dsimp only
  rw [if_neg (by simp [hh]), if_neg (not_not.mpr hc), if_pos (by simp)]

end SendOp

/-- The state after a transfer's packets have been sent and its pool requests noted. -/
def State.sent (s : State) (g tick : Nat) (ks : List Pkt) : State := (s.sendAll (s.corePart g) ks).notePool (s.corePart g) tick ks

theorem State.sent_spec (s : State) (g tick : Nat) (ks : List Pkt) :
    (s.sent g tick ks).outs = (s.sendAll (s.corePart g) ks).outs ∧ (s.sent g tick ks).flight = (s.sendAll (s.corePart g) ks).flight ∧
    (s.sent g tick ks).mem = s.mem ∧ (s.sent g tick ks).regs = s.regs ∧ ∀ h, (s.sent g tick ks).core h = s.core h := by
  obtain ⟨a, b, h⟩ := s.sendAll_sends (s.corePart g) ks
  rw [State.sent, h]
  unfold State.notePool
  dsimp only
  split <;> exact ⟨rfl, rfl, rfl, rfl, fun _ => rfl⟩

/-- What a transfer leaves in its core: its record, and the number of the next. -/
theorem State.core_addXfer (s : State) (g : Nat) (x : Xfer) :
    (s.addXfer g x).core g = { s.core g with xfers := (s.core g).xfers ++ [x], nextXfer := ((s.core g).nextXfer + 1) % 2 ^ 16 } :=
  State.core_setCore_self ..

theorem State.core_addXfer_ne (s : State) {g h : Nat} (x : Xfer) (hn : h ≠ g) : (s.addXfer g x).core h = s.core h := State.core_setCore_ne _ _ hn

/-! ### MOVE (03 R100) -/

/-- The write packets of a MOVE from the scratchpad. -/
def State.movePkts (s : State) (g : Nat) (o : MacroOp) : List Pkt :=
  s.writePkts g (s.core g).nextXfer o.tick o.args 0 (s.hRead g (arg o .srcHandle) (arg o .srcOff) (arg o .size)) true

/-- The state after a MOVE from the scratchpad has sent its data: acknowledgements to come are kept. -/
def State.written (s : State) (g : Nat) (o : MacroOp) : State :=
  if ackCount (arg o .dstKind) (s.movePkts g o) = 0 then s.sent g o.tick (s.movePkts g o)
  else (s.sent g o.tick (s.movePkts g o)).addXfer g
    { id := (s.core g).nextXfer, left := 0, acks := ackCount (arg o .dstKind) (s.movePkts g o), args := o.args, tag := o.tag }

section Write
variable (ha : s.accessCode g o = 0) (hc : cleanOp s g o) (hs : arg o .srcKind = 0) (hd : 1 ≤ arg o .dstKind) (hd3 : arg o .dstKind ≤ 3)
  (hm : s.moveDstCode g o = 0) (hk : s.sendCode (s.corePart g) (s.movePkts g o) = 0)
  (hh : (s.movePkts g o).any (s.mustHold (s.corePart g)) = false)
include ha hc hs hd hd3 hm hk hh

theorem moveEffect_write : s.moveEffect g [] o = { st := s.written g o } := by
  have hbody : s.moveBody g [] o = { st := s.written g o } := by
    unfold State.moveBody
    dsimp only
    rw [if_pos hs, if_neg (by omega)]
    exact State.sendOp_sends hh hk _
  rw [moveEffect_run ha hc (by omega) hd3 (moveSrcCode_local hs) hm, hbody]
  rfl

theorem moveEffect_waits (w : HeadWait) (full : List HeadWait) :
    s.moveEffect g (w :: full) o = { st := s, stays := true, level := bpLevel (w :: full) } := by
  have hbody : s.moveBody g (w :: full) o = { st := s, stays := true, level := bpLevel (w :: full) } := by
    unfold State.moveBody
    dsimp only
    rw [if_pos hs, if_neg (by omega)]
    exact State.sendOp_waits hh hk w full _
  rw [moveEffect_run ha hc (by omega) hd3 (moveSrcCode_local hs) hm, hbody]
  rfl

end Write

theorem State.written_spec (s : State) (g : Nat) (o : MacroOp) :
    (s.written g o).outs = (s.sendAll (s.corePart g) (s.movePkts g o)).outs ∧ (s.written g o).flight = (s.sendAll (s.corePart g) (s.movePkts g o)).flight ∧
    (s.written g o).mem = s.mem ∧ (s.written g o).regs = s.regs ∧ ((s.written g o).core g).started = (s.core g).started ∧
    (∀ h, h ≠ g → (s.written g o).core h = s.core h) ∧
    ((s.written g o).core g).xfers = (s.core g).xfers ++ (if ackCount (arg o .dstKind) (s.movePkts g o) = 0 then [] else
      [{ id := (s.core g).nextXfer, left := 0, acks := ackCount (arg o .dstKind) (s.movePkts g o), args := o.args, tag := o.tag }]) := by
  obtain ⟨houts, hflight, hmem, hregs, hcore⟩ := s.sent_spec g o.tick (s.movePkts g o)
  unfold State.written
  generalize s.sent g o.tick (s.movePkts g o) = t at *
  split
  · exact ⟨houts, hflight, hmem, hregs, by rw [hcore], fun h _ => hcore h, by rw [hcore, List.append_nil]⟩
  · refine ⟨houts, hflight, hmem, hregs, ?_, fun h hn => (State.core_addXfer_ne t _ hn).trans (hcore h), ?_⟩
    · rw [State.core_addXfer, hcore]
    · rw [State.core_addXfer, hcore]

/-- The state after a MOVE from elsewhere has sent its requests: the data to come is kept. -/
def State.requested (s : State) (g : Nat) (o : MacroOp) : State :=
  ((s.sent g o.tick (s.readPkts g (s.core g).nextXfer o)).addXfer g
    { id := (s.core g).nextXfer, left := (s.readPkts g (s.core g).nextXfer o).length, args := o.args, tag := o.tag }).setRun g o.id
      (fun r => { r with xfer := some (s.core g).nextXfer })

theorem moveEffect_read (ha : s.accessCode g o = 0) (hc : cleanOp s g o) (hs : 1 ≤ arg o .srcKind) (hs4 : arg o .srcKind ≤ 4)
    (hd : arg o .dstKind ≤ 3) (hr : s.moveSrcCode g o = 0) (hm : s.moveDstCode g o = 0)
    (hk : s.sendCode (s.corePart g) (s.readPkts g (s.core g).nextXfer o) = 0)
    (hh : (s.readPkts g (s.core g).nextXfer o).any (s.mustHold (s.corePart g)) = false) :
    s.moveEffect g [] o = { st := s.requested g o } := by
  have hbody : s.moveBody g [] o = { st := s.requested g o } := by
    unfold State.moveBody
    dsimp only
    rw [if_neg (by omega)]
    exact State.sendOp_sends hh hk _
  rw [moveEffect_run ha hc hs4 hd hr hm, hbody]
  rfl

/-- Records whose transfer is noted, then done. -/
theorem doneRuns_xfer (l : List Running) (id x : Nat) :
    doneRuns (l.map (fun r => if r.op.id = id then { r with xfer := some x } else r)) id 0 0 =
      l.map (fun r => if r.op.id = id then { r with done := true, level := 0, err := 0, flags := 0, xfer := some x } else r) := by
  rw [doneRuns, List.map_map]
  refine List.map_congr_left fun r _ => ?_
  by_cases h : r.op.id = id
  · simp [h]
  · simp [h]

theorem State.requested_spec (s : State) (g : Nat) (o : MacroOp) :
    (s.requested g o).outs = (s.sendAll (s.corePart g) (s.readPkts g (s.core g).nextXfer o)).outs ∧
    (s.requested g o).flight = (s.sendAll (s.corePart g) (s.readPkts g (s.core g).nextXfer o)).flight ∧
    (s.requested g o).mem = s.mem ∧ (s.requested g o).regs = s.regs ∧
    ((s.requested g o).core g).started = (s.core g).started.map (fun r => if r.op.id = o.id then { r with xfer := some (s.core g).nextXfer } else r) ∧
    (∀ h, h ≠ g → (s.requested g o).core h = s.core h) ∧
    ((s.requested g o).core g).xfers = (s.core g).xfers ++
      [{ id := (s.core g).nextXfer, left := (s.readPkts g (s.core g).nextXfer o).length, args := o.args, tag := o.tag }] := by
  obtain ⟨houts, hflight, hmem, hregs, hcore⟩ := s.sent_spec g o.tick (s.readPkts g (s.core g).nextXfer o)
  unfold State.requested
  generalize s.sent g o.tick (s.readPkts g (s.core g).nextXfer o) = t at *
  refine ⟨houts, hflight, hmem, hregs, ?_, fun h hn => ?_, ?_⟩
  · rw [State.setRun, State.core_setCore_self, State.core_addXfer, hcore]
  · rw [State.setRun, State.core_setCore_ne _ _ hn, State.core_addXfer_ne t _ hn, hcore]
  · rw [State.setRun, State.core_setCore_self, State.core_addXfer, hcore]

/-! ### SAMPLE (03 R99) -/

/-- The state after a SAMPLE has handed its logits over: its rows are due. -/
def State.sampled (s : State) (g : Nat) (o : MacroOp) (f : Fmt) : State :=
  let t := s.sendAll (s.corePart g) (s.samplePkts g o f)
  t.setSrv (s.corePart g) { t.srv (s.corePart g) with rowsDue := (t.srv (s.corePart g)).rowsDue + arg o .rows }

theorem sampleEffect_run {f : Fmt} (hs : s.sampleCode g o = 0) (ha : s.accessCode g o = 0) (hc : cleanOp s g o) (hf : fmtArg o .fmt1 = some f)
    (hk : s.sendCode (s.corePart g) (s.samplePkts g o f) = 0) (hh : (s.samplePkts g o f).any (s.mustHold (s.corePart g)) = false) :
    s.sampleEffect g [] o = { st := s.sampled g o f } := by
  have hsend : s.sendOp (s.corePart g) [] (s.samplePkts g o ((fmtArg o .fmt1).getD .fp32)) (fun t =>
      { st := t.setSrv (s.corePart g) { t.srv (s.corePart g) with rowsDue := (t.srv (s.corePart g)).rowsDue + arg o .rows } }) =
      { st := s.sampled g o f } := by
    rw [hf]
    exact State.sendOp_sends hh hk _
  unfold State.sampleEffect
  rw [State.checked_run hs ha hc (by dsimp only; rw [hsend])]
  exact hsend

theorem State.sampled_spec (s : State) (g : Nat) (o : MacroOp) (f : Fmt) :
    (s.sampled g o f).outs = (s.sendAll (s.corePart g) (s.samplePkts g o f)).outs ∧ (s.sampled g o f).mem = s.mem ∧
    (s.sampled g o f).regs = s.regs ∧ ((s.sampled g o f).srv (s.corePart g)).rowsDue = (s.srv (s.corePart g)).rowsDue + arg o .rows ∧
    ∀ h, (s.sampled g o f).core h = s.core h := by
  obtain ⟨a, b, h⟩ := s.sendAll_sends (s.corePart g) (s.samplePkts g o f)
  rw [State.sampled, h]
  refine ⟨rfl, rfl, rfl, ?_, fun _ => rfl⟩
  exact congrArg Srv.rowsDue (bankGet_bankSet_self ..)

/-- A SAMPLE that fails its checks ends with the first code. -/
theorem sampleEffect_fails {full : List HeadWait} (h : s.sampleCode g o ≠ 0 ∨ s.accessCode g o ≠ 0) :
    s.sampleEffect g full o = { st := s, err := if s.sampleCode g o ≠ 0 then s.sampleCode g o else s.accessCode g o } := by
  unfold State.sampleEffect
  by_cases hs : s.sampleCode g o = 0
  · rw [if_neg (not_not.mpr hs)]
    exact State.checked_access hs (h.resolve_left (not_not.mpr hs)) _
  · rw [if_pos hs]
    exact State.checked_shape hs _

end Sends

/-- Settles O13: every packet of a transfer is sent in order and what it awaits is kept; one whose injection waits stays as it was. -/
theorem moveSends : Obligations.MoveSends := by
  refine ⟨fun g id o s ho hs hd hd3 ha hc hm hk hh => ?_, fun g id o s ho hs hs4 hd ha hc hr hm hk hh => ?_,
    fun g id o w full s ho hs hd hd3 ha hc hm hk hh => ?_, fun g id o f s ho hs ha hc hf hk hh => ?_,
    fun g id o full s ho h => completes_of_error rfl ho (.inl rfl) (sampleEffect_fails h), fun _ _ _ h => State.outs_inject h⟩
  · refine completes_of_effect rfl ho (.inl rfl) (moveEffect_write ha hc hs hd hd3 hm hk hh) rfl rfl ?_
    obtain ⟨houts, hflight, hmem, hregs, hstarted, hothers, hxfers⟩ := s.written_spec g o
    refine ⟨houts, hflight, hmem, hregs, ?_, fun h hn => (State.core_ended_ne _ _ _ _ hn).trans (hothers h hn), ?_⟩
    · rw [State.core_ended, hstarted]
    · rw [State.core_ended]
      exact hxfers
  · refine completes_of_effect rfl ho (.inl rfl) (moveEffect_read ha hc hs hs4 hd hr hm hk hh) rfl rfl ?_
    obtain ⟨houts, hflight, hmem, hregs, hstarted, hothers, hxfers⟩ := s.requested_spec g o
    refine ⟨houts, hflight, hmem, hregs, ?_, fun h hn => (State.core_ended_ne _ _ _ _ hn).trans (hothers h hn), ?_⟩
    · rw [State.core_ended, hstarted, doneRuns_xfer]
    · rw [State.core_ended]
      exact hxfers
  · refine completes_of_stays rfl ho rfl (moveEffect_waits ha hc hs hd hd3 hm hk hh w full) rfl ?_
    exact ⟨rfl, fun h hn => State.core_setCore_ne _ _ hn, State.core_setCore_self ..⟩
  · refine completes_of_effect rfl ho (.inl rfl) (sampleEffect_run hs ha hc hf hk hh) rfl rfl ?_
    obtain ⟨houts, hmem, hregs, hrows, hcore⟩ := s.sampled_spec g o f
    refine ⟨houts, hmem, hregs, hrows, ?_, fun h hn => (State.core_ended_ne _ _ _ _ hn).trans (hcore h)⟩
    rw [State.core_ended, hcore]
end Sys2Proof.Machine
end


section
/-! PROOFS. Registers of a core that software writes, and side reads (03 R103, R111; 04 R145; 05 R157, R172 to R174, Table 5.6). -/
namespace Sys2Proof.Machine
open Sys2Proof

/-! ### Parameters, traps and breakpoints -/

section Registers
variable {s : State} {party : Party} {g v : Nat}

theorem State.prmWrite_patchable (hp : party ≠ .mgmt) (ha : s.patchable (s.corePart g) = true) (n : Nat) :
    s.prmWrite party g n v = s.setFld .PRM v g n := by
  rw [State.prmWrite, if_neg hp, if_pos ha]

theorem State.prmWrite_refused (hp : party ≠ .mgmt) (ha : s.patchable (s.corePart g) = false) (n : Nat) :
    s.prmWrite party g n v = s.setFld .CORE_STATUS_PATCH_REJECT 1 g := by
  rw [State.prmWrite, if_neg hp, if_neg (by simp [ha])]

theorem prmWrite_writes {n : Nat} (hp : party ≠ .mgmt) (ha : s.patchable (s.corePart g) = true) (hn : n < 64) (hv : v < 2 ^ 32) :
    Completes (.prmWrite party g n v) s (fun t => t.fld .PRM g n = v ∧ (∀ m < 64, m ≠ n → t.fld .PRM g m = s.fld .PRM g m) ∧
      OnlyRegs s t [(.PRM, g)]) := by
  refine ⟨_, congrArg Host.Outcome.next (State.prmWrite_patchable hp ha n), ?_, fun m hm hne => ?_, ?_⟩
  · exact (State.fld_setFld_self ..).trans (Nat.mod_eq_of_lt hv)
  · exact State.fld_setFld_ne s v (.inr (.inr (by omega)))
  · exact (OnlyRegs.refl s _).setFld v n (by decide) (by simp)

theorem arithTrapWrite_writes (hp : party ≠ .mgmt) (ha : s.patchable (s.corePart g) = true) (hv : v < 512) :
    Completes (.arithTrapWrite party g v) s (fun t => t.fld .ARITH_TRAP g = v ∧ OnlyRegs s t [(.ARITH_TRAP, g)]) := by
  have hw : s.arithTrapWrite party g v = s.setFld .ARITH_TRAP v g := by rw [State.arithTrapWrite, if_neg hp, if_pos ha]
  exact ⟨_, congrArg Host.Outcome.next hw, (State.fld_setFld_self ..).trans (Nat.mod_eq_of_lt hv),
    (OnlyRegs.refl s _).setFld v 0 (by decide) (by simp)⟩

theorem brkTagWrite_writes (hp : party ≠ .mgmt) (ha : s.debugOpen (s.corePart g) party = true) (hv : v < 2 ^ 32) :
    Completes (.brkRegWrite party g 1 v) s (fun t => t.fld .BRK_TAG_VALUE g = v % 2 ^ 16 ∧ t.fld .BRK_TAG_MASK g = v / 2 ^ 16 ∧
      OnlyRegs s t [(.BRK_TAG_VALUE, g), (.BRK_TAG_MASK, g)]) := by
  have hw : s.brkWrite party g 1 v = (s.setFld .BRK_TAG_VALUE v g).setFld .BRK_TAG_MASK (v / 2 ^ 16) g := by
    rw [State.brkWrite, if_neg hp, if_neg (by simp [ha])]
  refine ⟨_, congrArg Host.Outcome.next hw, ?_, ?_, ?_⟩
  · rw [State.fld_setFld_name _ (by decide), State.fld_setFld_self]
    rfl
  · refine (State.fld_setFld_self ..).trans (Nat.mod_eq_of_lt ?_)
    change v / 2 ^ 16 < 2 ^ 16
    omega
  · exact ((OnlyRegs.refl s _).setFld _ 0 (by decide) (by simp)).setFld _ 0 (by decide) (by simp)

theorem brkRegWrite_denied {which : Nat} (hp : party ≠ .mgmt) (ha : s.debugOpen (s.corePart g) party = false) :
    Completes (.brkRegWrite party g which v) s (fun t => t.fld .BRK_STATUS_DENIED g = 1 ∧ OnlyRegs s t [(.BRK_STATUS_DENIED, g)]) := by
  have hw : s.brkWrite party g which v = s.setFld .BRK_STATUS_DENIED 1 g := (if_neg hp).trans (if_pos (by simp [ha]))
  exact ⟨_, congrArg Host.Outcome.next hw, State.fld_setFld_self .., (OnlyRegs.refl s _).setFld 1 0 (by decide) (by simp)⟩

end Registers

/-! ### SPAD_RECOVERY (05 R172) -/

/-- A number by its bit n, what lies above and what lies below. -/
theorem testBit_mid {r n : Nat} (hr : r < 2 ^ n) (a : Nat) (c : Bool) (m : Nat) :
    (2 ^ n * (2 * a + c.toNat) + r).testBit m = if m = n then c else if m < n then r.testBit m else a.testBit (m - n - 1) := by
  rw [Nat.testBit_two_pow_mul_add _ hr]
  rcases lt_trichotomy m n with h | h | h
  · rw [if_pos h, if_neg h.ne, if_pos h]
  · subst h
    cases c <;> simp [Nat.testBit_zero, Nat.add_mod]
  · obtain ⟨k, rfl⟩ := Nat.exists_eq_add_of_lt h
    rw [if_neg (by omega), if_neg (by omega), if_neg (by omega), show n + k + 1 - n = k + 1 by omega, Nat.testBit_succ, Nat.add_sub_cancel]
    congr 1
    have := Bool.toNat_lt c
    omega

theorem eq_mid (v n : Nat) : v = 2 ^ n * (2 * (v / 2 ^ (n + 1)) + (v.testBit n).toNat) + v % 2 ^ n := by
  rw [Nat.toNat_testBit, Nat.pow_succ, ← Nat.div_div_eq_div_mul, Nat.div_add_mod, Nat.div_add_mod]

theorem putBit_eq (v n : Nat) (b : Bool) : putBit v n b = 2 ^ n * (2 * (v / 2 ^ (n + 1)) + b.toNat) + v % 2 ^ n := by
  have hv := eq_mid v n
  unfold putBit
  by_cases hb : v.testBit n = b
  · rw [if_pos hb, ← hb]
    exact hv
  · rw [if_neg hb]
    rw [Bool.eq_not.mpr hb, Nat.mul_add] at hv
    rw [Nat.mul_add]
    cases b <;> simp at hv ⊢ <;> omega

/-- The bits of a number with one set or cleared. -/
theorem testBit_putBit (v n m : Nat) (b : Bool) : (putBit v n b).testBit m = if m = n then b else v.testBit m := by
  have hr := Nat.mod_lt v (Nat.two_pow_pos n)
  conv_rhs => rw [eq_mid v n]
  rw [putBit_eq, testBit_mid hr, testBit_mid hr]
  by_cases h : m = n
  · rw [if_pos h, if_pos h]
  · simp only [if_neg h]

theorem State.bit_setBit (s : State) {f : Fld} {m : Nat} (hm : m < f.width) (n : Nat) (b : Bool) :
    (s.setBit f n b).bit f m = if m = n then b else s.bit f m := by
  rw [State.bit, State.setBit, State.fld_setFld_self, Nat.testBit_mod_two_pow, decide_eq_true hm, Bool.true_and, testBit_putBit]
  rfl

/-- A partition whose bit SPAD_RECOVERY takes: it is STOPPED or in FAULT, with tenant debug open (05 R172). -/
def State.recoverable (s : State) (p : Nat) : Bool := (s.pstate p = .stopped || s.pstate p = .fault) && s.flag .SEC_PART_DEBUG p

theorem State.recoverable_setFld (s : State) (v i k p : Nat) : (s.setFld .SPAD_RECOVERY v i k).recoverable p = s.recoverable p := by
  unfold State.recoverable State.pstate State.flag
  rw [State.fld_setFld_name _ (by decide), State.fld_setFld_name _ (by decide)]

/-- The bits of SPAD_RECOVERY written one after another. -/
theorem State.bit_recovery_foldl (v : Nat) (l : List Nat) (s : State) {q : Nat} (hq : q < 16) :
    (l.foldl (fun s p => s.setBit .SPAD_RECOVERY p (v.testBit p && s.recoverable p)) s).bit .SPAD_RECOVERY q =
      if q ∈ l then v.testBit q && s.recoverable q else s.bit .SPAD_RECOVERY q := by
  induction l generalizing s with
  | nil => rfl
  | cons p l ih =>
    rw [List.foldl_cons, ih, State.bit_setBit s hq, State.setBit, State.recoverable_setFld]
    by_cases hl : q ∈ l
    · rw [if_pos hl, if_pos (List.mem_cons_of_mem _ hl)]
    · rw [if_neg hl]
      by_cases hp : q = p
      · rw [if_pos hp, if_pos (hp ▸ List.mem_cons_self ..), hp]
      · rw [if_neg hp, if_neg (by simp [hp, hl])]

theorem recoveryWrite_takes (v : Nat) (s : State) :
    Completes (.spadRecoveryWrite v) s (fun t =>
      (∀ p < 16, t.bit .SPAD_RECOVERY p = (v.testBit p && (s.pstate p = .stopped || s.pstate p = .fault) && s.flag .SEC_PART_DEBUG p)) ∧
      OnlyRegs s t [(.SPAD_RECOVERY, 0)]) := by
  have hfold : s.recoveryWrite v = (List.range 16).foldl (fun s p => s.setBit .SPAD_RECOVERY p (v.testBit p && s.recoverable p)) s := by
    simp only [State.recoveryWrite, State.recoverable, Bool.and_assoc]
  refine ⟨_, congrArg Host.Outcome.next hfold, fun p hp => ?_, ?_⟩
  · rw [State.bit_recovery_foldl v _ s hp, if_pos (List.mem_range.mpr hp), State.recoverable, Bool.and_assoc]
  · exact List.foldlRecOn (motive := fun t : State => OnlyRegs s t [(.SPAD_RECOVERY, 0)]) _ _ (.refl s _)
      fun t ht p _ => ht.setFld _ 0 (by decide) (by simp)

/-! ### Side reads (05 R157, R172 to R174) -/

/-- A side read's shape registers as a write of SIDE_CTRL sets them. -/
def State.sideSet (s : State) (v : Nat) : State := (s.setFld .SIDE_CTRL_TRANSPOSE (v / 2)).setFld .SIDE_CTRL_ESIZE (v / 4)

theorem State.fld_sideSet (s : State) (v : Nat) {f : Fld} (h1 : f.code % 16384 ≠ Fld.SIDE_CTRL_TRANSPOSE.code % 16384)
    (h2 : f.code % 16384 ≠ Fld.SIDE_CTRL_ESIZE.code % 16384) (i k : Nat) : (s.sideSet v).fld f i k = s.fld f i k := by
  rw [State.sideSet, State.fld_setFld_name _ h2, State.fld_setFld_name _ h1]

theorem State.corePart_sideSet (s : State) (v g : Nat) : (s.sideSet v).corePart g = s.corePart g :=
  State.corePart_congr (fun _ => s.fld_sideSet v (by decide) (by decide) _ _) g

theorem State.sideAllowed_sideSet (s : State) (v : Nat) (by_ : SideBy) (p : Nat) : (s.sideSet v).sideAllowed by_ p = s.sideAllowed by_ p := by
  cases by_ with
  | thimble => simp only [State.sideAllowed, s.fld_sideSet v (f := .SPAD_MODE) (by decide) (by decide)]
  | host =>
    have hbit : (s.sideSet v).bit .SPAD_RECOVERY p = s.bit .SPAD_RECOVERY p :=
      congrArg (Nat.testBit · p) (s.fld_sideSet v (by decide) (by decide) ..)
    have hstate : (s.sideSet v).pstate p = s.pstate p := congrArg PState.ofCode (s.fld_sideSet v (by decide) (by decide) ..)
    have hdebug : (s.sideSet v).flag .SEC_PART_DEBUG p = s.flag .SEC_PART_DEBUG p :=
      congrArg (· != 0) (s.fld_sideSet v (by decide) (by decide) ..)
    simp only [State.sideAllowed, hbit, hstate, hdebug]
  | mgmt => rfl

theorem State.handleCode_sideSet (s : State) (v g h : Nat) (perm : Perm) (off len align : Nat) :
    (s.sideSet v).handleCode g h perm off len align = s.handleCode g h perm off len align := by
  have hhandle : (s.sideSet v).handle g h = s.handle g h := rfl
  unfold State.handleCode
  rw [hhandle, s.corePart_sideSet, s.fld_sideSet v (by decide) (by decide)]

/-- What ends a side read: it is no longer busy, done, with its code. -/
theorem State.sideEnd_spec (s : State) {code : Nat} (hc : code < 2 ^ 16) :
    (s.sideEnd code).fld .SIDE_STATUS_BUSY = 0 ∧ (s.sideEnd code).fld .SIDE_STATUS_DONE = 1 ∧ (s.sideEnd code).fld .SIDE_STATUS_CODE = code ∧
    s.sideEnd code = { s with regs := (s.sideEnd code).regs, side := none } ∧
    RegsBut s (s.sideEnd code) [(.SIDE_STATUS_BUSY, 0), (.SIDE_STATUS_DONE, 0), (.SIDE_STATUS_CODE, 0)] := by
  refine ⟨?_, ?_, ?_, rfl, ?_⟩
  · rw [State.sideEnd, State.fld_setFld_name _ (by decide), State.fld_setFld_name _ (by decide), State.fld_setFld_self]
    rfl
  · rw [State.sideEnd, State.fld_setFld_name _ (by decide), State.fld_setFld_self]
    rfl
  · exact (State.fld_setFld_self ..).trans (Nat.mod_eq_of_lt hc)
  · have h0 : RegsBut s { s with side := none } [(.SIDE_STATUS_BUSY, 0), (.SIDE_STATUS_DONE, 0), (.SIDE_STATUS_CODE, 0)] := RegsBut.refl s _
    exact ((h0.setFld 0 0 (by decide) (by simp)).setFld 1 0 (by decide) (by simp)).setFld code 0 (by decide) (by simp)

section SideRead
variable {s : State} {by_ : SideBy} {v : Nat}

theorem State.sideGo_open (hm : by_ ≠ .mgmt) (hb : s.flag .SIDE_STATUS_BUSY = false) :
    s.sideGo by_ v = if (!s.sideAllowed by_ (s.corePart (s.fld .SIDE_SRC_CORE))) = true then (s.sideSet v).sideEnd E_SPAD_SIDE_DENIED
      else if (s.sideSet v).sideShapeBad = true then (s.sideSet v).sideEnd E_SPAD_SIDE_SHAPE
      else if s.handleCode (s.fld .SIDE_SRC_CORE) (s.fld .SIDE_SRC_HANDLE) .lr (s.fld .SIDE_OFFSET) (s.sideSet v).sideLen 1 ≠ 0 then
        (s.sideSet v).sideEnd (s.handleCode (s.fld .SIDE_SRC_CORE) (s.fld .SIDE_SRC_HANDLE) .lr (s.fld .SIDE_OFFSET) (s.sideSet v).sideLen 1)
      else (({ s.sideSet v with side := some ((s.sideSet v).sideJob by_) }).setFld .SIDE_STATUS_BUSY 1).setFld .SIDE_STATUS_CODE 0 := by
  have hcore : (s.sideSet v).fld .SIDE_SRC_CORE = s.fld .SIDE_SRC_CORE := s.fld_sideSet v (by decide) (by decide) 0 0
  have hhandle : (s.sideSet v).fld .SIDE_SRC_HANDLE = s.fld .SIDE_SRC_HANDLE := s.fld_sideSet v (by decide) (by decide) 0 0
  have hoff : (s.sideSet v).fld .SIDE_OFFSET = s.fld .SIDE_OFFSET := s.fld_sideSet v (by decide) (by decide) 0 0
  unfold State.sideGo
  rw [if_neg (by simp [hm, hb])]
  dsimp only
  rw [show (s.setFld .SIDE_CTRL_TRANSPOSE (v / 2)).setFld .SIDE_CTRL_ESIZE (v / 4) = s.sideSet v from rfl, hcore, hhandle, hoff,
    s.corePart_sideSet, s.sideAllowed_sideSet, s.handleCode_sideSet]

theorem sideReadGo_denied (hm : by_ ≠ .mgmt) (hb : s.flag .SIDE_STATUS_BUSY = false)
    (ha : s.sideAllowed by_ (s.corePart (s.fld .SIDE_SRC_CORE)) = false) :
    Completes (.sideReadGo by_ v) s (fun t => t.fld .SIDE_STATUS_CODE = E_SPAD_SIDE_DENIED ∧ t.fld .SIDE_STATUS_DONE = 1 ∧
      t.flag .SIDE_STATUS_BUSY = false ∧ t = { s with regs := t.regs, side := none } ∧
      RegsBut s t [(.SIDE_CTRL_TRANSPOSE, 0), (.SIDE_CTRL_ESIZE, 0), (.SIDE_STATUS_BUSY, 0), (.SIDE_STATUS_DONE, 0), (.SIDE_STATUS_CODE, 0)]) := by
  obtain ⟨hbusy, hdone, hcode, -, hregs⟩ := (s.sideSet v).sideEnd_spec (code := E_SPAD_SIDE_DENIED) (by decide)
  refine ⟨_, congrArg Host.Outcome.next ((State.sideGo_open hm hb).trans (if_pos (by simp [ha]))), hcode, hdone, ?_, rfl, ?_⟩
  · rw [State.flag, hbusy]
    rfl
  · have hset : RegsBut s (s.sideSet v) [(.SIDE_CTRL_TRANSPOSE, 0), (.SIDE_CTRL_ESIZE, 0)] :=
      ((RegsBut.refl s _).setFld _ 0 (by decide) (by simp)).setFld _ 0 (by decide) (by simp)
    exact (hset.mono (by simp)).trans (hregs.mono (by simp))

theorem sideReadGo_begins (hm : by_ ≠ .mgmt) (hb : s.flag .SIDE_STATUS_BUSY = false)
    (ha : s.sideAllowed by_ (s.corePart (s.fld .SIDE_SRC_CORE)) = true) (hs : (s.sideSet v).sideShapeBad = false)
    (hc : s.handleCode (s.fld .SIDE_SRC_CORE) (s.fld .SIDE_SRC_HANDLE) .lr (s.fld .SIDE_OFFSET) (s.sideSet v).sideLen 1 = 0) :
    Completes (.sideReadGo by_ v) s (fun t => t.fld .SIDE_STATUS_BUSY = 1 ∧ t.fld .SIDE_STATUS_CODE = 0 ∧
      t.side = some ((s.sideSet v).sideJob by_) ∧ t = { s with regs := t.regs, side := t.side } ∧
      RegsBut s t [(.SIDE_CTRL_TRANSPOSE, 0), (.SIDE_CTRL_ESIZE, 0), (.SIDE_STATUS_BUSY, 0), (.SIDE_STATUS_CODE, 0)]) := by
  have hgo : s.sideGo by_ v =
      (({ s.sideSet v with side := some ((s.sideSet v).sideJob by_) }).setFld .SIDE_STATUS_BUSY 1).setFld .SIDE_STATUS_CODE 0 := by
    rw [State.sideGo_open hm hb, if_neg (by simp [ha]), if_neg (by simp [hs]), if_neg (not_not.mpr hc)]
  refine ⟨_, congrArg Host.Outcome.next hgo, ?_, ?_, rfl, rfl, ?_⟩
  · rw [State.fld_setFld_name _ (by decide), State.fld_setFld_self]
    rfl
  · exact State.fld_setFld_self ..
  · have h0 : RegsBut s { s.sideSet v with side := some ((s.sideSet v).sideJob by_) }
        [(.SIDE_CTRL_TRANSPOSE, 0), (.SIDE_CTRL_ESIZE, 0), (.SIDE_STATUS_BUSY, 0), (.SIDE_STATUS_CODE, 0)] :=
      ((RegsBut.refl s _).setFld _ 0 (by decide) (by simp)).setFld _ 0 (by decide) (by simp)
    exact (h0.setFld 1 0 (by decide) (by simp)).setFld 0 0 (by decide) (by simp)

/-- The elements of a side read, row by row, go to host memory (05 R174). -/
theorem sideReadDone_writes {j : SideJob} (hj : s.side = some j) (ht : j.transpose = false) (hw : ∀ w ∈ j.words, s.badBytes j.core w = 0) :
    Completes .sideReadDone s (fun t => t.fld .SIDE_STATUS_BUSY = 0 ∧ t.fld .SIDE_STATUS_DONE = 1 ∧ t.fld .SIDE_STATUS_CODE = 0 ∧
      t = { s with regs := t.regs, outs := t.outs, side := none } ∧ RegsBut s t [(.SIDE_STATUS_BUSY, 0), (.SIDE_STATUS_DONE, 0), (.SIDE_STATUS_CODE, 0)] ∧
      t.outs = s.outs ++ [.hostWrite j.dst ((List.range j.rows).flatMap (fun i => (List.range j.cols).flatMap (fun c =>
        (List.range j.esize).map (fun b => s.spadByte j.core (hAddr j.entry (j.off + i * j.stride + c * j.esize + b)))))) (s.partTee (s.corePart j.core))]) := by
  have hdone : s.sideDone = (s.out (.hostWrite j.dst (s.sideData j) (s.partTee (s.corePart j.core)))).sideEnd 0 := by
    unfold State.sideDone
    rw [hj]
    dsimp only
    rw [State.consumeWords_clean hw]
    rfl
  have hdata : s.sideData j = (List.range j.rows).flatMap (fun i => (List.range j.cols).flatMap (fun c =>
      (List.range j.esize).map (fun b => s.spadByte j.core (hAddr j.entry (j.off + i * j.stride + c * j.esize + b))))) := if_neg (by simp [ht])
  obtain ⟨hbusy, hend, hcode, -, hregs⟩ :=
    (s.out (.hostWrite j.dst (s.sideData j) (s.partTee (s.corePart j.core)))).sideEnd_spec (code := 0) (by decide)
  exact ⟨_, congrArg Host.Outcome.next hdone, hbusy, hend, hcode, rfl, hregs,
    congrArg (fun l => s.outs ++ [Out.hostWrite j.dst l (s.partTee (s.corePart j.core))]) hdata⟩

/-- A side read that meets an uncorrectable word ends with its code (05 R157). -/
theorem sideReadDone_uncorrectable {j : SideJob} {w : Nat} {ws : List Nat} (hj : s.side = some j) (hw : j.words = w :: ws)
    (hb : 3 ≤ s.badBytes j.core w) :
    Completes .sideReadDone s (fun t => t.fld .SIDE_STATUS_BUSY = 0 ∧ t.fld .SIDE_STATUS_DONE = 1 ∧ t.fld .SIDE_STATUS_CODE = E_SPAD_UNCORRECTABLE ∧
      t.outs = s.outs ∧ t.mem = s.mem ∧ t.fld .SPAD_UE_ADDR_ADDR j.core = w * 32 % 2 ^ 19) := by
  have hdone : s.sideDone = (s.noteUe j.core w).sideEnd E_SPAD_UNCORRECTABLE := by
    unfold State.sideDone
    rw [hj]
    dsimp only
    rw [hw, State.consumeWords_bad ws hb]
    rfl
  obtain ⟨haddr, -, hrest, -⟩ := s.noteUe_spec j.core w
  obtain ⟨hbusy, hend, hcode, -, hregs⟩ := (s.noteUe j.core w).sideEnd_spec (code := E_SPAD_UNCORRECTABLE) (by decide)
  refine ⟨_, congrArg Host.Outcome.next hdone, hbusy, hend, hcode, ?_, ?_, ?_⟩
  · change (s.noteUe j.core w).outs = s.outs
    rw [hrest]
  · change (s.noteUe j.core w).mem = s.mem
    rw [hrest]
  · rw [hregs _ _ _ (by decide) (by simp [Fld.SPAD_UE_ADDR_ADDR, Fld.SIDE_STATUS_BUSY, Fld.SIDE_STATUS_DONE, Fld.SIDE_STATUS_CODE]), haddr]

end SideRead

/-- Settles O16: who may write a core's registers, and when a side read begins, writes its elements or ends. -/
theorem coreRegistersAndSideReads : Obligations.CoreRegistersAndSideReads := by
  refine ⟨fun _ _ _ _ _ hp ha hn hv => prmWrite_writes hp ha hn hv, fun party g n v s hp ha => ?_, fun g n v s => ?_,
    fun _ _ _ _ hp ha hv => arithTrapWrite_writes hp ha hv, fun _ _ _ _ hp ha hv => brkTagWrite_writes hp ha hv,
    fun _ _ _ _ _ hp ha => brkRegWrite_denied hp ha, fun v s _ => recoveryWrite_takes v s, fun _ _ _ hm hb ha => sideReadGo_denied hm hb ha,
    fun _ _ _ hm hb ha hs hc => sideReadGo_begins hm hb ha hs hc, fun _ _ hj ht hw => sideReadDone_writes hj ht hw,
    fun _ _ _ _ hj hw hb => sideReadDone_uncorrectable hj hw hb⟩
  · exact ⟨_, congrArg Host.Outcome.next (State.prmWrite_refused hp ha n), State.fld_setFld_self .., (OnlyRegs.refl s _).setFld 1 0 (by decide) (by simp)⟩
  · simp only [List.forall_mem_cons, List.not_mem_nil, false_imp_iff, implies_true, and_true]
    exact ⟨⟨s, rfl, rfl⟩, ⟨s, rfl, rfl⟩, ⟨s, rfl, rfl⟩⟩

end Sys2Proof.Machine
end

section
/-! PROOFS. What leaves the memories alone: function by function, in the order of the model's files, up to the commands that write no memory.
A higher-order function leaves them alone when its argument does; of a command, `KeepsMem` says so of the outcome. -/
namespace Sys2Proof.Machine
open Sys2Proof

/-- The next state that an outcome names, if any, has the memories of `s`. -/
def KeepsMem (s : State) : Host.Outcome State Fault Refusal → Prop
  | .next t => t.mem = s.mem
  | .fault _ | .refused _ => True

@[simp] theorem keepsMem_next (s t : State) : KeepsMem s (.next t) ↔ t.mem = s.mem := Iff.rfl

theorem keepsMem_some (s t u : State) (h : t.mem = s.mem) : KeepsMem s (.next ((some t).getD u)) := h

/-- What the step of a fold keeps of every entry of the list, the fold keeps. -/
theorem foldl_mem_of_mem {β : Type} (f : State → β → State) (l : List β) (s : State) (h : ∀ b ∈ l, ∀ t, (f t b).mem = t.mem) :
    (l.foldl f s).mem = s.mem := by
  induction l generalizing s with
  | nil => rfl
  | cons b t ih => exact (ih _ fun c hc => h c (List.mem_cons_of_mem _ hc)).trans (h b List.mem_cons_self s)

/-! ### Machine/Ops.lean -/

@[simp] theorem State.setPState_mem (s : State) (p st) : (s.setPState p st).mem = s.mem := (s.setPState_keeps p st).2
@[simp] theorem State.counterRecords_mem (s : State) (p) : (s.counterRecords p).mem = s.mem := (s.counterRecords_keeps p).2
@[simp] theorem State.trace_mem (s : State) (g kind value) : (s.trace g kind value).mem = s.mem := by simp [State.trace]

/-! ### Machine/Domain.lean -/

@[simp] theorem State.dieWake_mem (s : State) (nn) : (s.dieWake nn).mem = s.mem := by simp [State.dieWake]

/-! ### Machine/HbmOps.lean -/

@[simp] theorem State.setStack_mem (s : State) (n x) : (s.setStack n x).mem = s.mem := by simp [State.setStack]
@[simp] theorem State.drawPair_mem (s : State) (who) : (s.drawPair who).mem = s.mem := by simp [State.drawPair]
@[simp] theorem State.hbmUe_mem (s : State) (n b) : (s.hbmUe n b).mem = s.mem := by simp [State.hbmUe]
@[simp] theorem State.hbmCount_mem (s : State) (n b found) : (s.hbmCount n b found).mem = s.mem := by simp [State.hbmCount]
@[simp] theorem State.backInvalidate_mem (s : State) (n line) : (s.backInvalidate n line).mem = s.mem := by simp [State.backInvalidate]
@[simp] theorem State.recall_mem (s : State) (a) : (s.recall a).mem = s.mem := by unfold State.recall; dsimp only; (repeat' split) <;> simp
@[simp] theorem State.recallRange_mem (s : State) (p a len) : (s.recallRange p a len).mem = s.mem := by simp [State.recallRange]
@[simp] theorem State.hbmKeySwitch_mem (s : State) (p) : (s.hbmKeySwitch p).mem = s.mem := by simp [State.hbmKeySwitch]
@[simp] theorem State.drawHbmKey_mem (s : State) (p tenant) : (s.drawHbmKey p tenant).mem = s.mem := by simp [State.drawHbmKey]

/-! ### Machine/FabOps.lean -/

@[simp] theorem State.fabError_mem (s : State) (node edge p code) : (s.fabError node edge p code).mem = s.mem := by simp [State.fabError]
@[simp] theorem State.routeError_mem (s : State) (code tag n) : (s.routeError code tag n).mem = s.mem := by simp [State.routeError]
@[simp] theorem State.leavesFabric_mem (s : State) (k) : (s.leavesFabric k).mem = s.mem := by simp [State.leavesFabric]
@[simp] theorem State.atSleeve_mem (s : State) (b k f) (h : (f s).mem = s.mem) : (s.atSleeve b k f).mem = s.mem := by simp [State.atSleeve, h]
@[simp] theorem State.fenceDrop_mem (s : State) (n edge k) : (s.fenceDrop n edge k).mem = s.mem := by simp [State.fenceDrop]
@[simp] theorem State.arriveAt_mem (s : State) (b k f) (h : ∀ t, (f t).mem = t.mem) : (s.arriveAt b k f).mem = s.mem := by simp [State.arriveAt, h]
@[simp] theorem State.failXfer_mem (s : State) (g x code) : (s.failXfer g x code).mem = s.mem := by simp [State.failXfer]
@[simp] theorem State.unsent_mem (s : State) (k code) : (s.unsent k code).mem = s.mem := by unfold State.unsent; split <;> simp
@[simp] theorem State.sendOrWait_mem (s : State) (p k) : (s.sendOrWait p k).mem = s.mem := by simp [State.sendOrWait]
@[simp] theorem State.flush_mem (s : State) : s.flush.mem = s.mem := by simp [State.flush]
@[simp] theorem State.post_mem (s : State) (p k) : (s.post p k).mem = s.mem := by simp [State.post]

/-! ### Machine/SyncOps.lean -/

@[simp] theorem State.inCycle_mem (s : State) (tied) : (s.inCycle tied).mem = s.mem := by simp [State.inCycle]
@[simp] theorem State.settleBarrier_mem (s : State) (p i n) : (s.settleBarrier p i n).mem = s.mem := by
  induction n generalizing s with
  | zero => rfl
  | succ n ih => simp [State.settleBarrier, ih]
@[simp] theorem State.startBarriers_mem (s : State) (p) : (s.startBarriers p).mem = s.mem := by simp [State.startBarriers]

/-! ### Machine/Cause.lean -/

@[simp] theorem State.noteDenied_mem (s : State) (p) : (s.noteDenied p).mem = s.mem := by simp [State.noteDenied]

/-! ### Machine/Plan.lean -/

@[simp] theorem State.stop_mem (s : State) (p) : (s.stop p).mem = s.mem := by simp [State.stop]
@[simp] theorem State.cmdReject_mem (s : State) (p) : (s.cmdReject p).mem = s.mem := by simp [State.cmdReject]
@[simp] theorem State.notOwner_mem (s : State) : s.notOwner.mem = s.mem := by simp [State.notOwner]
@[simp] theorem State.emptyOwners_mem (s : State) (p parity) : (s.emptyOwners p parity).mem = s.mem := by simp [State.emptyOwners]
@[simp] theorem State.grant_mem (s : State) (p t) : (s.grant p t).mem = s.mem := by simp [State.grant]
@[simp] theorem State.sleeveOps_mem (s : State) (g) : (s.sleeveOps g).mem = s.mem := by simp [State.sleeveOps]
@[simp] theorem State.startCore_mem (s : State) (g) : (s.startCore g).mem = s.mem := by simp [State.startCore]
@[simp] theorem State.sendHold_mem (s : State) (p h cause) : (s.sendHold p h cause).mem = s.mem := by simp [State.sendHold]
@[simp] theorem State.checkLate_mem (s : State) (p) : (s.checkLate p).mem = s.mem := by unfold State.checkLate; (repeat' split) <;> simp
@[simp] theorem State.grantZero_mem (s : State) (p) : (s.grantZero p).mem = s.mem := by simp [State.grantZero]
@[simp] theorem State.tryStart_mem (s : State) (p) : (s.tryStart p).mem = s.mem := by simp [State.tryStart]
@[simp] theorem State.sendReport_mem (s : State) (p t stopped) : (s.sendReport p t stopped).mem = s.mem := by simp [State.sendReport]
@[simp] theorem State.sendRelease_mem (s : State) (p t) : (s.sendRelease p t).mem = s.mem := by simp [State.sendRelease]
@[simp] theorem execTickComplete_keeps (p) (s : State) : KeepsMem s (execTickComplete p s) := by
  unfold execTickComplete
  dsimp only
  split
  · simp
  · split <;> simp
@[simp] theorem execTickGrant_keeps (p) (s : State) : KeepsMem s (execTickGrant p s) := by simp [execTickGrant]
@[simp] theorem State.foreignCtl_mem (s : State) (port tag) : (s.foreignCtl port tag).mem = s.mem := by simp [State.foreignCtl]
@[simp] theorem State.forwardCtl_mem (s : State) (j port f) : (s.forwardCtl j port f).mem = s.mem := by simp [State.forwardCtl]
@[simp] theorem State.onFlit_mem (s : State) (port f transit run) (ht : ∀ j, (transit j).mem = s.mem) (hr : ∀ j p, (run j p).mem = s.mem) :
    (s.onFlit port f transit run).mem = s.mem := by
  unfold State.onFlit; split <;> simp [ht, hr]
@[simp] theorem execReportReceive_keeps (port f) (s : State) : KeepsMem s (execReportReceive port f s) := by simp [execReportReceive]
@[simp] theorem execHoldReceive_keeps (port f) (s : State) : KeepsMem s (execHoldReceive port f s) := by simp [execHoldReceive]
@[simp] theorem execReleaseReceive_keeps (port f) (s : State) : KeepsMem s (execReleaseReceive port f s) := by
  refine State.onFlit_mem _ _ _ _ _ (fun j => by simp) (fun j p => ?_)
  dsimp only
  split <;> simp
@[simp] theorem execHoldEntryExpire_keeps (p) (s : State) : KeepsMem s (execHoldEntryExpire p s) := by simp [execHoldEntryExpire]
@[simp] theorem execFaultStopReceive_keeps (port f) (s : State) : KeepsMem s (execFaultStopReceive port f s) := by
  refine State.onFlit_mem _ _ _ _ _ (fun j => by simp) (fun j p => ?_)
  split <;> simp
@[simp] theorem State.planCmd_mem (s : State) (p f) (h : (f s).mem = s.mem) : (s.planCmd p f).mem = s.mem := by simp [State.planCmd, h]
@[simp] theorem execPlanCtrlArm_keeps (party p) (s : State) : KeepsMem s (execPlanCtrlArm party p s) := by simp [execPlanCtrlArm]
@[simp] theorem execPlanCtrlStartNow_keeps (party p) (s : State) : KeepsMem s (execPlanCtrlStartNow party p s) := by simp [execPlanCtrlStartNow]
@[simp] theorem execPlanStartTimeReached_keeps (p) (s : State) : KeepsMem s (execPlanStartTimeReached p s) := by simp [execPlanStartTimeReached]
@[simp] theorem execPlanCtrlStop_keeps (p) (s : State) : KeepsMem s (execPlanCtrlStop p s) := by simp [execPlanCtrlStop]
@[simp] theorem execPlanCtrlAbort_keeps (p) (s : State) : KeepsMem s (execPlanCtrlAbort p s) := by simp [execPlanCtrlAbort]
@[simp] theorem State.resumeCore_mem (s : State) (g) : (s.resumeCore g).mem = s.mem := by simp [State.resumeCore]
@[simp] theorem execPlanCtrlResume_keeps (party p) (s : State) : KeepsMem s (execPlanCtrlResume party p s) := by simp [execPlanCtrlResume]
@[simp] theorem execPlanCtrlUnload_keeps (p) (s : State) : KeepsMem s (execPlanCtrlUnload p s) := by simp [execPlanCtrlUnload]
@[simp] theorem execHemDepthWrite_keeps (p v) (s : State) : KeepsMem s (execHemDepthWrite p v s) := by simp [execHemDepthWrite]
@[simp] theorem execPlanSettingWrite_keeps (p which v) (s : State) : KeepsMem s (execPlanSettingWrite p which v s) := by
  simp only [execPlanSettingWrite, keepsMem_next]; (repeat' split) <;> simp
@[simp] theorem execTokenGrant_keeps (g) (s : State) (rivals) : KeepsMem s (execTokenGrant g s rivals) := by
  simp only [execTokenGrant, keepsMem_next]; split <;> simp

/-! ### Machine/Armature.lean -/

@[simp] theorem State.armError_mem (s : State) (code) : (s.armError code).mem = s.mem := by simp [State.armError]
@[simp] theorem State.armFail_mem (s : State) (code) : (s.armFail code).mem = s.mem := by simp [State.armFail]
@[simp] theorem State.armCmd_mem (s : State) (party clash f) (h : (f s).mem = s.mem) : (s.armCmd party clash f).mem = s.mem := by
  simp [State.armCmd, h]
@[simp] theorem State.armStage_mem (s : State) : s.armStage.mem = s.mem := by simp [State.armStage]
@[simp] theorem execArmCtrlStage_keeps (party clash) (s : State) : KeepsMem s (execArmCtrlStage party clash s) := by simp [execArmCtrlStage]
@[simp] theorem State.armVerify_mem (s : State) (img) : (s.armVerify img).mem = s.mem := by simp [State.armVerify]
@[simp] theorem State.armDiscard_mem (s : State) : s.armDiscard.mem = s.mem := by simp [State.armDiscard]
@[simp] theorem execArmCtrlDiscard_keeps (party clash) (s : State) : KeepsMem s (execArmCtrlDiscard party clash s) := by simp [execArmCtrlDiscard]
@[simp] theorem State.armApply_mem (s : State) : s.armApply.mem = s.mem := by unfold State.armApply; split <;> simp
@[simp] theorem execArmCtrlApply_keeps (party clash) (s : State) : KeepsMem s (execArmCtrlApply party clash s) := by simp [execArmCtrlApply]
@[simp] theorem State.armPhase_mem (s : State) (k f) (h : ∀ i, (f i).mem = s.mem) : (s.armPhase k f).mem = s.mem := by
  unfold State.armPhase; split <;> simp [h]
@[simp] theorem State.setPhase_mem (s : State) (k) : (s.setPhase k).mem = s.mem := by simp [State.setPhase]
@[simp] theorem execArmDrainTimeout_keeps (s : State) : KeepsMem s (execArmDrainTimeout s) := by simp [execArmDrainTimeout]
@[simp] theorem State.armShadow_mem (s : State) (ok) : (s.armShadow ok).mem = s.mem := by simp [State.armShadow]
@[simp] theorem execArmSharedSwitch_keeps (s : State) : KeepsMem s (execArmSharedSwitch s) := by simp [execArmSharedSwitch]
@[simp] theorem State.commitQuads_mem (s : State) (r) : (s.commitQuads r).mem = s.mem := by simp [-State.setFld_mem, State.commitQuads]
@[simp] theorem State.commitPart_mem (s t : State) (r p) : (s.commitPart t r p).mem = s.mem := by simp [State.commitPart]
@[simp] theorem State.commitGeom_mem (s t : State) (r p) : (s.commitGeom t r p).mem = s.mem := by simp [State.commitGeom]
@[simp] theorem State.commitSlice_mem (s t : State) (r sl) : (s.commitSlice t r sl).mem = s.mem := by simp [State.commitSlice]
@[simp] theorem State.commitKeys_mem (s t : State) (r p) : (s.commitKeys t r p).mem = s.mem := by simp [State.commitKeys]
@[simp] theorem State.commitPort_mem (s t : State) (r n) : (s.commitPort t r n).mem = s.mem := by unfold State.commitPort; split <;> simp
@[simp] theorem State.commitRoutes_mem (s t : State) (i) : (s.commitRoutes t i).mem = s.mem := by simp [State.commitRoutes]
@[simp] theorem State.dropPart_mem (s : State) (p) : (s.dropPart p).mem = s.mem := by simp [State.dropPart]
@[simp] theorem State.setWords_mem (s : State) (f n v) : (s.setWords f n v).mem = s.mem := by simp [-State.setFld_mem, State.setWords]
@[simp] theorem State.commitShape_mem (t : State) (i) : (State.commitShape t i).mem = t.mem := by simp [State.commitShape]
@[simp] theorem State.armCommit_mem (s : State) : s.armCommit.mem = s.mem := by simp [-State.setFld_mem, State.armCommit]

/-! ### Machine/MacroOps.lean -/

@[simp] theorem State.runOp_mem (s : State) (g id fam f) (h : ∀ o, (f s o).st.mem = s.mem) : (s.runOp g id fam f).mem = s.mem := by
  unfold State.runOp; split <;> simp [h]
@[simp] theorem State.consume_mem (s : State) (g o) : (s.consume g o).1.mem = s.mem := State.consumeWords_mem ..
@[simp] theorem State.checked_mem (s : State) (g o shape f) (h : ∀ t, (f t).st.mem = t.mem) : (s.checked g o shape f).st.mem = s.mem := by
  simp [State.checked, h]
@[simp] theorem State.macroOpComplete_mem (s : State) (g id) : (s.macroOpComplete g id).mem = s.mem := by
  unfold State.macroOpComplete; dsimp only; split <;> simp

/-! ### Machine/Mover.lean -/

@[simp] theorem State.notePool_mem (s : State) (p tick ks) : (s.notePool p tick ks).mem = s.mem := by simp [State.notePool]
@[simp] theorem State.sendAll_mem (s : State) (p ks) : (s.sendAll p ks).mem = s.mem := by simp [State.sendAll]
@[simp] theorem State.sendOp_mem (s : State) (p full ks after) (h : ∀ t, (after t).st.mem = t.mem) : (s.sendOp p full ks after).st.mem = s.mem := by
  simp [State.sendOp, h]
@[simp] theorem State.ownSignal_mem (s : State) (g args) : (s.ownSignal g args).mem = s.mem := by simp [State.ownSignal]
@[simp] theorem State.addXfer_mem (s : State) (g x) : (s.addXfer g x).mem = s.mem := by simp [State.addXfer]
@[simp] theorem State.sampleEffect_mem (g full) (s : State) (o) : (State.sampleEffect g full s o).st.mem = s.mem := by simp [State.sampleEffect]
@[simp] theorem execSample_keeps (g id) (s : State) (full) : KeepsMem s (execSample g id s full) := by simp [execSample]

/-! ### Machine/Sync.lean -/

@[simp] theorem State.autoAdvance_mem (s : State) (idx auto i) : (s.autoAdvance idx auto i).mem = s.mem := by simp [State.autoAdvance]
@[simp] theorem State.syncDeclCommit_mem (s : State) (party g hi) : (s.syncDeclCommit party g hi).mem = s.mem := by simp [State.syncDeclCommit]
@[simp] theorem State.givePacket_mem (s : State) (k) : (s.givePacket k).mem = s.mem := by unfold State.givePacket; split <;> simp
@[simp] theorem execGivePacketArrive_keeps (k) (s : State) (tied) : KeepsMem s (execGivePacketArrive k s tied) := by simp [execGivePacketArrive]
@[simp] theorem State.foreignArrival_mem (s : State) (p i rank) : (s.foreignArrival p i rank).mem = s.mem := by
  unfold State.foreignArrival; dsimp only; (repeat' split) <;> simp
@[simp] theorem State.barArrive_mem (s : State) (k) : (s.barArrive k).mem = s.mem := by unfold State.barArrive; split <;> simp
@[simp] theorem execBarArriveReceive_keeps (k) (s : State) : KeepsMem s (execBarArriveReceive k s) := by simp [execBarArriveReceive]
@[simp] theorem State.barRelease_mem (s : State) (k) : (s.barRelease k).mem = s.mem := by unfold State.barRelease; split <;> simp
@[simp] theorem execBarReleaseReceive_keeps (k) (s : State) : KeepsMem s (execBarReleaseReceive k s) := by simp [execBarReleaseReceive]
@[simp] theorem State.barRanksWrite_mem (s : State) (party p i v) : (s.barRanksWrite party p i v).mem = s.mem := by simp [State.barRanksWrite]
@[simp] theorem State.barrierMemberWrite_mem (s : State) (party g v) : (s.barrierMemberWrite party g v).mem = s.mem := by
  simp [State.barrierMemberWrite]

/-! ### Machine/SyncMac.lean -/

@[simp] theorem State.syncFail_mem (s : State) (g counter amount code) : (s.syncFail g counter amount code).st.mem = s.mem := by
  simp [State.syncFail]
@[simp] theorem State.giveOwn_mem (s : State) (g c n) : (s.giveOwn g c n).st.mem = s.mem := by simp [State.giveOwn]
@[simp] theorem State.giveEffect_mem (g full) (s : State) (o) : (State.giveEffect g full s o).st.mem = s.mem := by simp [State.giveEffect]
@[simp] theorem execGive_keeps (g id) (s : State) (full tied) : KeepsMem s (execGive g id s full tied) := by simp [execGive]
@[simp] theorem State.takeEffect_mem (take g) (s : State) (o) : (State.takeEffect take g s o).st.mem = s.mem := by simp [State.takeEffect]
@[simp] theorem execTake_keeps (g id) (s : State) (tied) : KeepsMem s (execTake g id s tied) := by simp [execTake]
@[simp] theorem execWait_keeps (g id) (s : State) (tied) : KeepsMem s (execWait g id s tied) := by simp [execWait]
@[simp] theorem State.takeSatisfied_mem (s : State) (g) : (s.takeSatisfied g).mem = s.mem := by unfold State.takeSatisfied; split <;> simp
@[simp] theorem execTakeSatisfied_keeps (g) (s : State) (tied) : KeepsMem s (execTakeSatisfied g s tied) := by simp [execTakeSatisfied]
@[simp] theorem State.barSend_mem (s t : State) (blocks) (h : t.mem = s.mem) : (s.barSend t blocks).st.mem = s.mem := by
  unfold State.barSend; split <;> simp [h]
@[simp] theorem State.barrierEffect_mem (g) (s : State) (o) : (State.barrierEffect g s o).st.mem = s.mem := by simp [State.barrierEffect]
@[simp] theorem execBarrier_keeps (g id) (s : State) : KeepsMem s (execBarrier g id s) := by simp [execBarrier]

/-! ### Machine/Spad.lean -/

@[simp] theorem State.findBad_mem (s : State) (g w found) : (s.findBad g w found).mem = s.mem := by simp [State.findBad]
@[simp] theorem State.spadScrub_mem (s : State) (g b found) : (s.spadScrub g b found).mem = s.mem := by simp [State.spadScrub]
@[simp] theorem State.spadWriteback_mem (s : State) (g w) : (s.spadWriteback g w).mem = s.mem := by simp [State.spadWriteback]
@[simp] theorem State.entryReject_mem (s : State) (g code) : (s.entryReject g code).mem = s.mem := by simp [State.entryReject]
@[simp] theorem State.handleCommit_mem (s : State) (party g hi) : (s.handleCommit party g hi).mem = s.mem := by simp [State.handleCommit]
@[simp] theorem State.windowCommit_mem (s : State) (party g hi) : (s.windowCommit party g hi).mem = s.mem := by simp [State.windowCommit]
@[simp] theorem State.remoteReject_mem (s : State) (g) : (s.remoteReject g).mem = s.mem := by simp [State.remoteReject]
@[simp] theorem State.landBad_mem (s : State) (g ws bad) : (s.landBad g ws bad).mem = s.mem := by simp [State.landBad]
@[simp] theorem State.remoteRead_mem (s : State) (k) : (s.remoteRead k).mem = s.mem := by unfold State.remoteRead; split <;> simp
@[simp] theorem execRemoteReadArrive_keeps (k) (s : State) : KeepsMem s (execRemoteReadArrive k s) := by simp [execRemoteReadArrive]
@[simp] theorem State.stepXfer_mem (s : State) (g x) : (s.stepXfer g x).mem = s.mem := by simp [State.stepXfer]
@[simp] theorem State.errorResp_mem (s : State) (k) : (s.errorResp k).mem = s.mem := by unfold State.errorResp; split <;> simp
@[simp] theorem execErrorRespArrive_keeps (k) (s : State) : KeepsMem s (execErrorRespArrive k s) := by simp [execErrorRespArrive]
@[simp] theorem State.memoryAck_mem (s : State) (k) : (s.memoryAck k).mem = s.mem := by unfold State.memoryAck; split <;> simp
@[simp] theorem execMemoryAckArrive_keeps (k) (s : State) (tied) : KeepsMem s (execMemoryAckArrive k s tied) := by simp [execMemoryAckArrive]
@[simp] theorem State.recoveryWrite_mem (s : State) (v) : (s.recoveryWrite v).mem = s.mem := by simp [State.recoveryWrite]
@[simp] theorem State.sideEnd_mem (s : State) (code) : (s.sideEnd code).mem = s.mem := by simp [State.sideEnd]
@[simp] theorem State.sideGo_mem (s : State) (by_ v) : (s.sideGo by_ v).mem = s.mem := by simp [State.sideGo]
@[simp] theorem State.sideDone_mem (s : State) : s.sideDone.mem = s.mem := by
  unfold State.sideDone
  split
  · rfl
  · simp [apply_ite, State.consumeWords_mem]
@[simp] theorem State.poolTake_mem (s : State) (bank core tick) : (s.poolTake bank core tick).mem = s.mem := by simp [State.poolTake]
@[simp] theorem State.poolMeet_mem (s : State) (bank core tick) : (s.poolMeet bank core tick).1.mem = s.mem := by
  unfold State.poolMeet; split <;> simp
@[simp] theorem State.poolConflict_mem (s : State) (bank owner later tick tag) :
    (s.poolConflict bank owner later tick tag).mem = s.mem := by
  simp [State.poolConflict]
@[simp] theorem State.poolMeetAll_mem (s : State) (core tick l) : (s.poolMeetAll core tick l).1.mem = s.mem := by
  induction l generalizing s with
  | nil => rfl
  | cons b t ih =>
    simp only [State.poolMeetAll]
    split <;> simp [ih]
@[simp] theorem State.poolScrub_mem (s : State) (w found) : (s.poolScrub w found).mem = s.mem := by simp [State.poolScrub]

/-! ### Machine/Plinth.lean -/

@[simp] theorem State.plinthServe_mem (s : State) (k) : (s.plinthServe k).mem = s.mem := by simp [State.plinthServe]
@[simp] theorem State.plinthDrain_mem (s : State) : s.plinthDrain.mem = s.mem := by simp [State.plinthDrain]
theorem plinthReadServed_mem (s : State) (k : Pkt) :
    (if s.upkeepDie = k.dstNode - 76 then { s with plinthWait := s.plinthWait ++ [k] } else s.plinthServe k).mem = s.mem := by
  split
  · rfl
  · exact State.plinthServe_mem ..
theorem State.arriveAt_keeps (s : State) (b k f) (h : ∀ t, KeepsMem t (.next (f t))) : (s.arriveAt b k f).mem = s.mem :=
  State.arriveAt_mem s b k f h
@[simp] theorem execPlinthReadRequest_keeps (k) (s : State) : KeepsMem s (execPlinthReadRequest k s) :=
  State.arriveAt_keeps s (pktBlock k) k _ fun t => (keepsMem_next ..).2 (plinthReadServed_mem t k)
@[simp] theorem State.upkeepWindow_mem (s : State) (k) : (s.upkeepWindow k).mem = s.mem := by simp [State.upkeepWindow]
@[simp] theorem State.nonceDraw_mem (s : State) : s.nonceDraw.mem = s.mem := by simp [State.nonceDraw]
@[simp] theorem State.nonceRead_mem (s : State) (party) : (s.nonceRead party).mem = s.mem := by simp [State.nonceRead]
@[simp] theorem State.useNonce_mem (s : State) : s.useNonce.mem = s.mem := by simp [State.useNonce]
@[simp] theorem State.plinthFail_mem (s : State) (code) : (s.plinthFail code).mem = s.mem := by simp [State.plinthFail]
@[simp] theorem State.plinthDone_mem (s : State) : s.plinthDone.mem = s.mem := by simp [State.plinthDone]
@[simp] theorem State.plinthBusy_mem (s : State) : s.plinthBusy.mem = s.mem := by simp [State.plinthBusy]
@[simp] theorem State.plinthInstall_mem (s : State) (p withDelete) : (s.plinthInstall p withDelete).mem = s.mem := by simp [State.plinthInstall]
@[simp] theorem State.plinthDelete_mem (s : State) (t) : (s.plinthDelete t).mem = s.mem := by simp [State.plinthDelete]
@[simp] theorem State.auditLayer_mem (s : State) (n layer ok) : (s.auditLayer n layer ok).mem = s.mem := by simp [State.auditLayer]
@[simp] theorem State.bindCommit_mem (s : State) (party w3) : (s.bindCommit party w3).mem = s.mem := by simp [State.bindCommit]
@[simp] theorem State.replCode_mem (s : State) (p code) : (s.replCode p code).mem = s.mem := by simp [State.replCode]
@[simp] theorem State.replArm_mem (s : State) (party p) : (s.replArm party p).mem = s.mem := by simp [State.replArm]
@[simp] theorem State.replFetched_mem (s : State) (p desc) : (s.replFetched p desc).mem = s.mem := by simp [State.replFetched]
@[simp] theorem State.replStep_mem (s : State) (p) : (s.replStep p).mem = s.mem := by simp [State.replStep]
@[simp] theorem State.replEnd_mem (s : State) (p st) : (s.replEnd p st).mem = s.mem := by unfold State.replEnd; dsimp only; split <;> simp
@[simp] theorem State.replAbort_mem (s : State) (party p) : (s.replAbort party p).mem = s.mem := by simp [State.replAbort]
@[simp] theorem State.replFinish_mem (s : State) (party p) : (s.replFinish party p).mem = s.mem := by simp [State.replFinish]

/-! ### Machine/Serving.lean -/

@[simp] theorem State.srvNote_mem (s : State) (p code seq) : (s.srvNote p code seq).mem = s.mem := by
  unfold State.srvNote; (repeat' split) <;> simp
@[simp] theorem State.srvError_mem (s : State) (p code seq) : (s.srvError p code seq).mem = s.mem := by simp [State.srvError]
@[simp] theorem State.addRec_mem (s : State) (p r) : (s.addRec p r).mem = s.mem := by simp [State.addRec]
@[simp] theorem State.srvReject_mem (s : State) (p) : (s.srvReject p).mem = s.mem := by simp [State.srvReject]
@[simp] theorem State.srvRefuse_mem (s : State) (p) : (s.srvRefuse p).mem = s.mem := by simp [State.srvRefuse]
@[simp] theorem State.admitThrough_mem (s : State) (party p hi) : (s.admitThrough party p hi).mem = s.mem := by simp [State.admitThrough]
@[simp] theorem State.srvCfg_mem (s : State) (party p v) : (s.srvCfg party p v).mem = s.mem := by simp [State.srvCfg]
@[simp] theorem State.srvKv_mem (s : State) (party p off v) : (s.srvKv party p off v).mem = s.mem := by
  unfold State.srvKv; dsimp only; (repeat' split) <;> simp
@[simp] theorem State.storeOverflow_mem (s : State) (p) : (s.storeOverflow p).mem = s.mem := by simp [State.storeOverflow]
@[simp] theorem State.reqFetch_mem (s : State) (q data) : (s.reqFetch q data).mem = s.mem := by simp [State.reqFetch]
@[simp] theorem State.dropReq_mem (s : State) (p num) : (s.dropReq p num).mem = s.mem := by simp [State.dropReq]
@[simp] theorem State.decided_mem (s : State) (p v) : (s.decided p v).mem = s.mem := by simp [State.decided]
@[simp] theorem State.rejectReq_mem (s : State) (p v r why) : (s.rejectReq p v r why).mem = s.mem := by simp [State.rejectReq]
@[simp] theorem State.admitReq_mem (s : State) (p r) : (s.admitReq p r).mem = s.mem := by simp [State.admitReq]
theorem State.submit_mem {s t : State} {p v r} (h : s.submit p v r = some t) : t.mem = s.mem := by
  simp only [State.submit] at h
  split at h
  · cases h; simp
  · split at h <;> cases h; simp
@[simp] theorem State.endSeq_mem (s : State) (p num) : (s.endSeq p num).mem = s.mem := by simp [State.endSeq]
theorem State.cancel_mem {s t : State} {p v r} (h : s.cancel p v r = some t) : t.mem = s.mem := by
  simp only [State.cancel] at h
  split at h
  · cases h; simp
  · split at h
    · cases h; simp
    · split at h
      · split at h <;> cases h; simp
      · cases h; simp
@[simp] theorem State.admitScan_mem (s : State) (p v n) : (s.admitScan p v n).mem = s.mem := by
  induction n generalizing s with
  | zero => rfl
  | succ n ih =>
    unfold State.admitScan
    split
    · rfl
    · split
      · rfl
      · split
        · rfl
        next h =>
          rw [ih, State.decided_mem]
          split at h
          · exact State.cancel_mem h
          · exact State.submit_mem h
@[simp] theorem State.slotBuild_mem (s : State) (p) : (s.slotBuild p).mem = s.mem := by simp [State.slotBuild]
@[simp] theorem State.publish_mem (s : State) (p) : (s.publish p).mem = s.mem := by unfold State.publish; dsimp only; split <;> simp
@[simp] theorem State.missedSample_mem (s : State) (p) : (s.missedSample p).mem = s.mem := by
  unfold State.missedSample; dsimp only; split <;> simp
@[simp] theorem State.recordWrite_mem (s : State) (p) : (s.recordWrite p).mem = s.mem := by
  change KeepsMem s (.next _)
  unfold State.recordWrite
  extract_lets x q
  split
  · rfl
  · split
    · rfl
    · extract_lets t u y z
      have ht : t.mem = s.mem := (State.out_mem ..).trans (State.setSrv_keeps ..).2
      clear_value t
      have hu : u.mem = s.mem := (State.indexMoved_keeps ..).2.trans <| (State.addFld_keeps ..).2.trans ht
      clear_value u
      split
      · exact (State.queueIrq_keeps ..).2.trans <| (State.setQueue_keeps ..).2.trans hu
      · exact (State.setQueue_keeps ..).2.trans hu
@[simp] theorem State.srvAbandon_mem (s : State) (p) : (s.srvAbandon p).mem = s.mem := by simp [State.srvAbandon]
@[simp] theorem State.srvDiscard_mem (s : State) (p) : (s.srvDiscard p).mem = s.mem := by simp [State.srvDiscard]

/-! ### Machine/Clear.lean -/

@[simp] theorem State.zeroErrors_mem (s : State) (p) : (s.zeroErrors p).mem = s.mem := by simp [State.zeroErrors]
@[simp] theorem State.planClear_mem (s : State) (p) : (s.planClear p).mem = s.mem := by simp [State.planClear]
@[simp] theorem execPlanCtrlClear_keeps (p) (s : State) : KeepsMem s (execPlanCtrlClear p s) := by simp [execPlanCtrlClear]
@[simp] theorem State.clearBegin_mem (s : State) (p) : (s.clearBegin p).mem = s.mem := by simp [State.clearBegin]
@[simp] theorem State.clearStart_mem (s : State) (mask) : (s.clearStart mask).mem = s.mem := by simp [State.clearStart]

/-! ### Machine/Cp.lean -/

@[simp] theorem State.setPc_mem (s : State) (g v) : (s.setPc g v).mem = s.mem := by simp [State.setPc]
@[simp] theorem State.cpError_mem (s : State) (g code) : (s.cpError g code).mem = s.mem := by simp [State.cpError]
theorem State.cpStep_mem (s : State) (g f) (h : ∀ i, ((f i).getD s).mem = s.mem) : (s.cpStep g f).mem = s.mem := by
  unfold State.cpStep
  split
  · split
    · simp
    · simp
    · exact h _
  · rfl
@[simp] theorem State.nextPc_mem (s : State) (g) : (s.nextPc g).mem = s.mem := by simp [State.nextPc]
@[simp] theorem State.setSreg_mem (s : State) (g n v) : (s.setSreg g n v).mem = s.mem := by simp [State.setSreg]
@[simp] theorem State.waitSlot_mem (s : State) (g) : (s.waitSlot g).mem = s.mem := by simp [State.waitSlot]
@[simp] theorem State.slotDone_mem (s : State) (g) : (s.slotDone g).mem = s.mem := by simp [State.slotDone]
@[simp] theorem State.cpScalar_mem (s : State) (g) : (s.cpScalar g).mem = s.mem := by
  refine State.cpStep_mem _ _ _ fun i => ?_
  split
  · split <;> simp
  · rfl
@[simp] theorem State.cpRead_mem (s : State) (g) : (s.cpRead g).mem = s.mem := by
  refine State.cpStep_mem _ _ _ fun i => ?_
  split
  · simp
  · split <;> simp
  · rfl
@[simp] theorem State.cpFetch_mem (s : State) (g) : (s.cpFetch g).mem = s.mem := by
  refine State.cpStep_mem _ _ _ fun i => ?_
  split
  · dsimp only
    split
    · simp
    · split
      · rfl
      · split <;> simp [State.consumeWords_mem]
  · rfl
@[simp] theorem State.cpSkip_mem (s : State) (g) : (s.cpSkip g).mem = s.mem := by
  refine State.cpStep_mem _ _ _ fun i => ?_
  split
  · split
    · simp
    · dsimp only
      split <;> simp
  · rfl
@[simp] theorem State.cpLoop_mem (s : State) (g) : (s.cpLoop g).mem = s.mem := by
  refine State.cpStep_mem _ _ _ fun i => ?_
  split
  · dsimp only
    (repeat' split) <;> simp
  · rfl
@[simp] theorem State.cpEndloop_mem (s : State) (g) : (s.cpEndloop g).mem = s.mem := by
  refine State.cpStep_mem _ _ _ fun i => ?_
  split
  · dsimp only
    (repeat' split) <;> simp only [Option.getD_some, State.setPc_mem, State.nextPc_mem, State.cpError_mem, State.setCore_mem]
  · rfl
@[simp] theorem State.cpTick_mem (s : State) (g) : (s.cpTick g).mem = s.mem := by
  refine State.cpStep_mem _ _ _ fun i => ?_
  split <;> simp
@[simp] theorem State.cpMark_mem (s : State) (g) : (s.cpMark g).mem = s.mem := by
  refine State.cpStep_mem _ _ _ fun i => ?_
  split <;> simp
@[simp] theorem State.cpEnd_mem (s : State) (g) : (s.cpEnd g).mem = s.mem := by
  refine State.cpStep_mem _ _ _ fun i => ?_
  split <;> simp
@[simp] theorem State.breakFire_mem (s : State) (g mask tag) : (s.breakFire g mask tag).mem = s.mem := by simp [State.breakFire]
theorem State.cpStep_keeps (s : State) (g f) (h : ∀ i, KeepsMem s (.next ((f i).getD s))) : (s.cpStep g f).mem = s.mem := State.cpStep_mem s g f h
@[simp] theorem State.cpIssue_mem (s : State) (g) : (s.cpIssue g).mem = s.mem := by
  unfold State.cpIssue
  extract_lets p alone
  rw [ite_mem, State.cpStep_keeps, ite_self]
  intro i
  split
  · extract_lets mask t c
    repeat' split
    · exact keepsMem_some _ _ _ (State.cpError_mem ..)
    · exact keepsMem_some _ _ _ rfl
    · exact keepsMem_some _ _ _ (State.cpError_mem ..)
    · exact keepsMem_some _ _ _ (State.waitSlot_mem ..)
    · exact keepsMem_some _ _ _ ((State.breakFire_mem ..).trans (State.slotDone_mem ..))
    · exact keepsMem_some _ _ _ rfl
    · exact keepsMem_some _ _ _ <| (State.nextPc_mem ..).trans <| (State.setFld64_keeps ..).2.trans <| (State.countUp_keeps ..).2.trans <|
        (State.setCore_mem ..).trans <| (State.trace_mem ..).trans (State.slotDone_mem ..)
  · rfl
@[simp] theorem State.prmWrite_mem (s : State) (party g n v) : (s.prmWrite party g n v).mem = s.mem := by simp [State.prmWrite]
@[simp] theorem State.arithTrapWrite_mem (s : State) (party g v) : (s.arithTrapWrite party g v).mem = s.mem := by simp [State.arithTrapWrite]
@[simp] theorem State.brkWrite_mem (s : State) (party g which v) : (s.brkWrite party g which v).mem = s.mem := by
  unfold State.brkWrite; dsimp only; (repeat' split) <;> simp

/-! ### Machine/Deadlock.lean -/

@[simp] theorem State.listPath_mem (s : State) (p path) : (s.listPath p path).mem = s.mem := by simp [-State.setFld_mem, State.listPath]
@[simp] theorem State.holdTimeoutExpire_mem (s : State) (p) : (s.holdTimeoutExpire p).mem = s.mem := by
  unfold State.holdTimeoutExpire; (repeat' split) <;> simp

/-! ### Machine/Fabric.lean -/

@[simp] theorem State.headDrop_mem (s : State) (n edge k code) : (s.headDrop n edge k code).mem = s.mem := by simp [State.headDrop]
@[simp] theorem State.countFlits_mem (s : State) (n e k) : (s.countFlits n e k).mem = s.mem := by simp [State.countFlits]
@[simp] theorem State.fabReceive_mem (s : State) (n edge k headBad) : (s.fabReceive n edge k headBad).mem = s.mem := by simp [State.fabReceive]
@[simp] theorem State.setEdge_mem (s : State) (n e out up) : (s.setEdge n e out up).mem = s.mem := by simp [State.setEdge]
@[simp] theorem State.edgeFail_mem (s : State) (n e retries) : (s.edgeFail n e retries).mem = s.mem := by unfold State.edgeFail; split <;> simp

/-! ### Machine/TimeBase.lean -/

@[simp] theorem State.timeError_mem (s : State) (code) : (s.timeError code).mem = s.mem := by simp [State.timeError]
@[simp] theorem State.divFree_mem (s : State) (a d) : (s.divFree a d).2.mem = s.mem := by simp [State.divFree]
@[simp] theorem State.syncWord_mem (s : State) (d diff) : (s.syncWord d diff).mem = s.mem := by simp [State.syncWord]
@[simp] theorem State.setRefGood_mem (s : State) (c b) : (s.setRefGood c b).mem = s.mem := by unfold State.setRefGood; split <;> simp
@[simp] theorem State.unlockRef_mem (s : State) : s.unlockRef.mem = s.mem := by simp [State.unlockRef]
@[simp] theorem State.selectRef_mem (s : State) (c) : (s.selectRef c).mem = s.mem := by simp [State.selectRef]
@[simp] theorem State.lockBest_mem (s : State) : s.lockBest.mem = s.mem := by unfold State.lockBest; dsimp only; (repeat' split) <;> simp
@[simp] theorem State.refLost_mem (s : State) (c) : (s.refLost c).mem = s.mem := by simp [State.refLost]
@[simp] theorem State.betterRef_mem (s : State) : s.betterRef.mem = s.mem := by unfold State.betterRef; split <;> simp
@[simp] theorem State.refRequalified_mem (s : State) (c full) : (s.refRequalified c full).mem = s.mem := by simp [State.refRequalified]
@[simp] theorem State.writeClkCtrl_mem (s : State) (v) : (s.writeClkCtrl v).mem = s.mem := by simp [State.writeClkCtrl]
@[simp] theorem State.pllUnlock_mem (s : State) : s.pllUnlock.mem = s.mem := by simp [State.pllUnlock]
@[simp] theorem State.timeRefuse_mem (s : State) (code) : (s.timeRefuse code).mem = s.mem := by simp [State.timeRefuse]
@[simp] theorem State.setRate_mem (s : State) (r) : (s.setRate r).mem = s.mem := by simp [State.setRate]
@[simp] theorem State.rateWrite_mem (s : State) (party hi) : (s.rateWrite party hi).mem = s.mem := by simp [State.rateWrite]
@[simp] theorem State.putSOffset_mem (s : State) (v) : (s.putSOffset v).mem = s.mem := by simp [State.putSOffset]
@[simp] theorem State.changeSOffset_mem (s : State) (v) : (s.changeSOffset v).mem = s.mem := by simp [State.changeSOffset]
@[simp] theorem State.stepPps_mem (s t : State) : (s.stepPps t).mem = t.mem := by simp [State.stepPps]
@[simp] theorem State.timeStep_mem (s : State) (amt) : (s.timeStep amt).mem = s.mem := by simp [-State.setFld_mem, State.timeStep]
@[simp] theorem State.stepWrite_mem (s : State) (party hi) : (s.stepWrite party hi).mem = s.mem := by simp [State.stepWrite]
@[simp] theorem State.sOffsetCommit_mem (s : State) (party ext) : (s.sOffsetCommit party ext).mem = s.mem := by simp [State.sOffsetCommit]
@[simp] theorem State.setTport_mem (s : State) (n x) : (s.setTport n x).mem = s.mem := by simp [State.setTport]
@[simp] theorem State.servoReset_mem (s : State) : s.servoReset.mem = s.mem := by simp [State.servoReset]
@[simp] theorem State.setTime_mem (s : State) (st) : (s.setTime st).mem = s.mem := by simp [State.setTime]
@[simp] theorem State.followParent_mem (s : State) (n) : (s.followParent n).mem = s.mem := by simp [State.followParent]
@[simp] theorem State.adoptTod_mem (s : State) (n) : (s.adoptTod n).mem = s.mem := by
  have hclock (t : State) (c : Clock) : ({ t with clock := c } : State).mem = t.mem := rfl
  unfold State.adoptTod
  split
  · rfl
  · split
    · split
      · exact (hclock _ _).trans (State.changeSOffset_mem ..)
      · rfl
    · rfl
@[simp] theorem State.setParent_mem (s : State) (n) : (s.setParent n).mem = s.mem := by simp [State.setParent]
@[simp] theorem State.chooseParent_mem (s : State) (but) : (s.chooseParent but).mem = s.mem := by unfold State.chooseParent; split <;> simp
@[simp] theorem State.lookForParent_mem (s : State) : s.lookForParent.mem = s.mem := by simp [State.lookForParent]
@[simp] theorem State.roleOff_mem (s : State) : s.roleOff.mem = s.mem := by simp [State.roleOff]
@[simp] theorem State.roleGm_mem (s : State) : s.roleGm.mem = s.mem := by simp [State.roleGm]
@[simp] theorem State.roleFollower_mem (s : State) : s.roleFollower.mem = s.mem := by simp [State.roleFollower]
@[simp] theorem State.setRole_mem (s : State) (r) : (s.setRole r).mem = s.mem := by unfold State.setRole; split <;> simp
@[simp] theorem State.acceptStep_mem (s : State) : s.acceptStep.mem = s.mem := by simp [-State.setFld_mem, State.acceptStep]
@[simp] theorem State.noParent_mem (s : State) : s.noParent.mem = s.mem := by simp [State.noParent]
@[simp] theorem State.parentLost_mem (s : State) : s.parentLost.mem = s.mem := by simp [State.parentLost]
@[simp] theorem State.prioritySwitch_mem (s : State) : s.prioritySwitch.mem = s.mem := by
  unfold State.prioritySwitch; dsimp only; (repeat' split) <;> simp

/-! ### Machine/Links.lean -/

@[simp] theorem State.setPort_mem (s : State) (n x) : (s.setPort n x).mem = s.mem := by simp [State.setPort]
@[simp] theorem State.newDwell_mem (s : State) (n) : (s.newDwell n).mem = s.mem := by simp [State.newDwell]
@[simp] theorem State.recoveredLost_mem (s : State) (n st) : (s.recoveredLost n st).mem = s.mem := by simp [State.recoveredLost]
@[simp] theorem State.setLink_mem (s : State) (n st) : (s.setLink n st).mem = s.mem := by simp [State.setLink]
@[simp] theorem State.linkError_mem (s : State) (n code tag lane) : (s.linkError n code tag lane).mem = s.mem := by simp [State.linkError]
@[simp] theorem State.transitStop_mem (s : State) (n tag rank) : (s.transitStop n tag rank).mem = s.mem := by
  unfold State.transitStop; split <;> simp
@[simp] theorem State.jobLoss_mem (s : State) (n code k) : (s.jobLoss n code k).mem = s.mem := by unfold State.jobLoss; split <;> simp
@[simp] theorem State.portLost_mem (s : State) (n lane) : (s.portLost n lane).mem = s.mem := by simp [State.portLost]
@[simp] theorem State.leaveLink_mem (s : State) (n st lane) : (s.leaveLink n st lane).mem = s.mem := by simp [State.leaveLink]
@[simp] theorem State.trainFail_mem (s : State) (n code) : (s.trainFail n code).mem = s.mem := by simp [State.trainFail]
@[simp] theorem State.portWake_mem (s : State) (n) : (s.portWake n).mem = s.mem := by simp [State.portWake]
@[simp] theorem State.linkEnable_mem (s : State) (n) : (s.linkEnable n).mem = s.mem := by simp [State.linkEnable]
@[simp] theorem execLinkEnable_keeps (n) (s : State) : KeepsMem s (execLinkEnable n s) := s.linkEnable_mem n
@[simp] theorem State.portOff_mem (s : State) (n) : (s.portOff n).mem = s.mem := by simp [State.portOff]
@[simp] theorem State.linkDisable_mem (s : State) (n) : (s.linkDisable n).mem = s.mem := by simp [State.linkDisable]
@[simp] theorem execLinkDisable_keeps (n) (s : State) : KeepsMem s (execLinkDisable n s) := s.linkDisable_mem n
@[simp] theorem State.fastRetrain_mem (s : State) (n) : (s.fastRetrain n).mem = s.mem := by simp [State.fastRetrain]
@[simp] theorem execLinkRetrain_keeps (n) (s : State) : KeepsMem s (execLinkRetrain n s) := s.fastRetrain_mem n
@[simp] theorem execLinkFullTrain_keeps (n) (s : State) : KeepsMem s (execLinkFullTrain n s) := by simp [execLinkFullTrain]
@[simp] theorem execDownTimerExpire_keeps (n) (s : State) : KeepsMem s (execDownTimerExpire n s) := by simp [execDownTimerExpire]
@[simp] theorem execLossOfSignal_keeps (n) (s : State) : KeepsMem s (execLossOfSignal n s) := by simp [execLossOfSignal]
@[simp] theorem execTrainTimeout_keeps (n) (s : State) : KeepsMem s (execTrainTimeout n s) := by simp [execTrainTimeout]
@[simp] theorem execDetectDwellExpire_keeps (n) (s : State) : KeepsMem s (execDetectDwellExpire n s) := by simp [execDetectDwellExpire]
@[simp] theorem State.freshTraining_mem (s : State) (n) : (s.freshTraining n).mem = s.mem := by simp [State.freshTraining]
@[simp] theorem execDetectPatternHeard_keeps (n) (s : State) : KeepsMem s (execDetectPatternHeard n s) := by simp [execDetectPatternHeard]
@[simp] theorem State.setDarn_mem (s : State) (n lane failed) : (s.setDarn n lane failed).mem = s.mem := by simp [State.setDarn]
@[simp] theorem State.noDarn_mem (s : State) (n) : (s.noDarn n).mem = s.mem := by simp [State.noDarn]
@[simp] theorem State.toIdentify_mem (s : State) (n) : (s.toIdentify n).mem = s.mem := by simp [State.toIdentify]
@[simp] theorem State.lanesLocked_mem (s : State) (n rates lanes) : (s.lanesLocked n rates lanes).mem = s.mem := by
  unfold State.lanesLocked; dsimp only; (repeat' split) <;> simp [-State.setFld_mem]
@[simp] theorem State.enterHalf_mem (s : State) (n half) : (s.enterHalf n half).mem = s.mem := by
  unfold State.enterHalf; dsimp only; split <;> simp
@[simp] theorem State.noteFailed_mem (s : State) (n lane) : (s.noteFailed n lane).mem = s.mem := by simp [State.noteFailed]
@[simp] theorem State.sendStatement_mem (s : State) (n peer) : (s.sendStatement n peer).mem = s.mem := by simp [State.sendStatement]
@[simp] theorem State.identityBlock_mem (s : State) (n key port rates halfOk nonce pub) :
    (s.identityBlock n key port rates halfOk nonce pub).mem = s.mem := by
  simp [State.identityBlock]
@[simp] theorem State.sendMsg_mem (s : State) (n m waits) : (s.sendMsg n m waits).mem = s.mem := by simp [State.sendMsg]
@[simp] theorem State.tellDarn_mem (s : State) (n lane) : (s.tellDarn n lane).mem = s.mem := by simp [State.tellDarn]
@[simp] theorem State.tellLanes_mem (s : State) (n) : (s.tellLanes n).mem = s.mem := by simp [State.tellLanes]
@[simp] theorem State.toAlign_mem (s : State) (n) : (s.toAlign n).mem = s.mem := by simp [State.toAlign]
@[simp] theorem State.portKeys_mem (s : State) (n) : (s.portKeys n).mem = s.mem := by simp [State.portKeys]
@[simp] theorem State.portStatement_mem (s : State) (n chainOk key sigOk peerHeld) :
    (s.portStatement n chainOk key sigOk peerHeld).mem = s.mem := by
  simp [State.portStatement]
@[simp] theorem execLinkAcceptPeer_keeps (n) (s : State) : KeepsMem s (execLinkAcceptPeer n s) := by simp [execLinkAcceptPeer]
@[simp] theorem execHeldIdlePatternEnd_keeps (n detect) (s : State) : KeepsMem s (execHeldIdlePatternEnd n detect s) := by
  simp [execHeldIdlePatternEnd]
@[simp] theorem State.alignDone_mem (s : State) (n rtt) : (s.alignDone n rtt).mem = s.mem := by simp [State.alignDone]
@[simp] theorem State.queueCtl_mem (s : State) (n f) : (s.queueCtl n f).mem = s.mem := by simp [State.queueCtl]
@[simp] theorem State.startReplay_mem (s : State) (n) : (s.startReplay n).mem = s.mem := by unfold State.startReplay; dsimp only; split <;> simp
@[simp] theorem State.replayTimer_mem (s : State) (n) : (s.replayTimer n).mem = s.mem := by simp [State.replayTimer]
@[simp] theorem State.beginSeq_mem (s : State) (n k lane failed) : (s.beginSeq n k lane failed).mem = s.mem := by simp [State.beginSeq]
@[simp] theorem State.startDarn_mem (s : State) (n lane failed) : (s.startDarn n lane failed).mem = s.mem := by simp [State.startDarn]
@[simp] theorem State.startUndarn_mem (s : State) (n lane) : (s.startUndarn n lane).mem = s.mem := by simp [State.startUndarn]
@[simp] theorem State.startHalf_mem (s : State) (n lane) : (s.startHalf n lane).mem = s.mem := by simp [State.startHalf]
@[simp] theorem State.endCal_mem (s : State) (n) : (s.endCal n).mem = s.mem := by simp [State.endCal]
@[simp] theorem State.keepDarned_mem (s : State) (n lane) : (s.keepDarned n lane).mem = s.mem := by simp [State.keepDarned]
@[simp] theorem State.laneRequest_mem (s : State) (n lane) : (s.laneRequest n lane).mem = s.mem := by simp [State.laneRequest]
@[simp] theorem State.laneFail_mem (s : State) (n lane) : (s.laneFail n lane).mem = s.mem := by simp [State.laneFail]
@[simp] theorem State.darnComplete_mem (s : State) (n) : (s.darnComplete n).mem = s.mem := by simp [State.darnComplete]
@[simp] theorem State.measure_mem (s : State) (n) : (s.measure n).mem = s.mem := by simp [State.measure]
@[simp] theorem State.undarnComplete_mem (s : State) (n) : (s.undarnComplete n).mem = s.mem := by
  unfold State.undarnComplete; dsimp only; split <;> simp
@[simp] theorem State.checkSeq_mem (s : State) (n) : (s.checkSeq n).mem = s.mem := by
  unfold State.checkSeq; dsimp only; (repeat' split) <;> simp
@[simp] theorem State.darnSwitch_mem (s : State) (n) : (s.darnSwitch n).mem = s.mem := by simp [State.darnSwitch]
@[simp] theorem State.undarnTimeout_mem (s : State) (n) : (s.undarnTimeout n).mem = s.mem := by simp [State.undarnTimeout]
@[simp] theorem State.calStart_mem (s : State) (n) : (s.calStart n).mem = s.mem := by simp [State.calStart]
@[simp] theorem State.calDwell_mem (s : State) (n) : (s.calDwell n).mem = s.mem := by unfold State.calDwell; split <;> simp
@[simp] theorem State.onMsg_mem (s : State) (n m reply act) (h : (act s).mem = s.mem) : (s.onMsg n m reply act).mem = s.mem := by
  unfold State.onMsg; split <;> [rfl; (dsimp only; split <;> simp [h])]
@[simp] theorem State.answered_mem (s : State) (n ops) : (s.answered n ops).mem = s.mem := by simp [State.answered]
@[simp] theorem State.darnReq_mem (s : State) (n m) : (s.darnReq n m).mem = s.mem := by simp [State.darnReq]
@[simp] theorem execDarnReq_keeps (n m) (s : State) : KeepsMem s (execDarnReq n m s) := by unfold execDarnReq; dsimp only; (repeat' split) <;> simp
@[simp] theorem State.darnStart_mem (s : State) (n lane failed) : (s.darnStart n lane failed).mem = s.mem := by simp [State.darnStart]
@[simp] theorem execDarnStart_keeps (n m) (s : State) : KeepsMem s (execDarnStart n m s) := by simp [execDarnStart]
@[simp] theorem execDarnAck_keeps (n m) (s : State) : KeepsMem s (execDarnAck n m s) := by simp [execDarnAck]
@[simp] theorem State.doneIn_mem (s : State) (n k m) : (s.doneIn n k m).mem = s.mem := by simp [State.doneIn]
@[simp] theorem execDarnDone_keeps (n m) (s : State) : KeepsMem s (execDarnDone n m s) := State.doneIn_mem ..
@[simp] theorem execUndarnStart_keeps (n m) (s : State) : KeepsMem s (execUndarnStart n m s) := by simp [execUndarnStart]
@[simp] theorem execUndarnAck_keeps (n m) (s : State) : KeepsMem s (execUndarnAck n m s) := by simp [execUndarnAck]
@[simp] theorem execUndarnDone_keeps (n m) (s : State) : KeepsMem s (execUndarnDone n m s) := State.doneIn_mem ..
@[simp] theorem State.takeHalf_mem (s : State) (n half) : (s.takeHalf n half).mem = s.mem := by simp [State.takeHalf]
@[simp] theorem execHalfStart_keeps (n m) (s : State) : KeepsMem s (execHalfStart n m s) := by simp [execHalfStart]
@[simp] theorem execHalfAck_keeps (n m) (s : State) : KeepsMem s (execHalfAck n m s) := by
  refine State.onMsg_mem _ _ _ _ _ ?_
  cases h : ((s.answered n [0x08]).port n).pendingHalf <;> simp [h]
@[simp] theorem execRttProbe_keeps (n m) (s : State) : KeepsMem s (execRttProbe n m s) := by simp [execRttProbe]
@[simp] theorem execRttEcho_keeps (n m ns) (s : State) : KeepsMem s (execRttEcho n m ns s) := by simp [execRttEcho]
@[simp] theorem State.msgRepeat_mem (s : State) (n) : (s.msgRepeat n).mem = s.mem := by simp [State.msgRepeat]
@[simp] theorem State.retrainDone_mem (s : State) (n) : (s.retrainDone n).mem = s.mem := by
  unfold State.retrainDone
  cases h : (s.port n).pendingHalf <;> simp [h]
@[simp] theorem execRetrainTimeout_keeps (n) (s : State) : KeepsMem s (execRetrainTimeout n s) := by simp [execRetrainTimeout]

/-! ### Machine/Routing.lean -/

@[simp] theorem State.setSlotRec_mem (s : State) (j x) : (s.setSlotRec j x).mem = s.mem := by simp [State.setSlotRec]
@[simp] theorem State.setSlotState_mem (s : State) (j st) : (s.setSlotState j st).mem = s.mem := by simp [State.setSlotState]
@[simp] theorem State.slotReject_mem (s : State) (j code) : (s.slotReject j code).mem = s.mem := by simp [State.slotReject]
@[simp] theorem State.tagArrives_mem (s : State) (j) : (s.tagArrives j).mem = s.mem := by simp [State.tagArrives]
@[simp] theorem State.drainedCheck_mem (s : State) (j) : (s.drainedCheck j).mem = s.mem := by simp [State.drainedCheck]
@[simp] theorem State.slotActivate_mem (s : State) (j) : (s.slotActivate j).mem = s.mem := by simp [State.slotActivate]
@[simp] theorem State.cancelSwitch_mem (s : State) (j) : (s.cancelSwitch j).mem = s.mem := by simp [State.cancelSwitch]
@[simp] theorem State.slotDrain_mem (s : State) (j) : (s.slotDrain j).mem = s.mem := by simp [State.slotDrain]
@[simp] theorem State.slotClose_mem (s : State) (j) : (s.slotClose j).mem = s.mem := by simp [State.slotClose]
@[simp] theorem State.switchArm_mem (s : State) (j) : (s.switchArm j).mem = s.mem := by simp [-State.setFld_mem, State.switchArm]
@[simp] theorem State.switchAbort_mem (s : State) (j) : (s.switchAbort j).mem = s.mem := by simp [State.switchAbort]
@[simp] theorem State.switchStart_mem (s : State) (j) : (s.switchStart j).mem = s.mem := by simp [State.switchStart]
@[simp] theorem State.switchDone_mem (s : State) (j) : (s.switchDone j).mem = s.mem := by simp [State.switchDone]
@[simp] theorem State.tblHold_mem (s : State) (party ports v) : (s.tblHold party ports v).mem = s.mem := by simp [State.tblHold]
@[simp] theorem State.tblDropHeld_mem (s : State) : s.tblDropHeld.mem = s.mem := by simp [State.tblDropHeld]
@[simp] theorem State.tblIndex_mem (s : State) (party v) : (s.tblIndex party v).mem = s.mem := by simp [State.tblIndex]
@[simp] theorem State.tblCommit_mem (s : State) (party v) : (s.tblCommit party v).mem = s.mem := by simp [State.tblCommit]
@[simp] theorem State.slotField_mem (s : State) (j f v ok) : (s.slotField j f v ok).mem = s.mem := by simp [State.slotField]
@[simp] theorem State.slotConfig_mem (s : State) (party j which v) : (s.slotConfig party j which v).mem = s.mem := by
  unfold State.slotConfig; (repeat' split) <;> simp
@[simp] theorem State.countDrops_mem (s : State) (n counts m) : (s.countDrops n counts m).mem = s.mem := by simp [State.countDrops]
@[simp] theorem State.egress_mem (s : State) (k) : (s.egress k).mem = s.mem := by unfold State.egress; dsimp only; (repeat' split) <;> simp
@[simp] theorem execEgressPacketSend_keeps (k) (s : State) : KeepsMem s (execEgressPacketSend k s) := by simp [execEgressPacketSend]
@[simp] theorem State.dropArrival_mem (s : State) (n k counts) : (s.dropArrival n k counts).mem = s.mem := by simp [State.dropArrival]
@[simp] theorem State.carriedIn_mem (s : State) (n k) : (s.carriedIn n k).mem = s.mem := by
  unfold State.carriedIn
  cases s.jobSlot k.pkt.tag <;> simp
@[simp] theorem State.overrun_mem (s : State) (n k) : (s.overrun n k).mem = s.mem := by simp [State.overrun]
@[simp] theorem State.deliver_mem (s : State) (n j k) : (s.deliver n j k).mem = s.mem := by simp [State.deliver]
@[simp] theorem State.transitDrop_mem (s : State) (n code k) : (s.transitDrop n code k).mem = s.mem := by simp [State.transitDrop]
@[simp] theorem State.transit_mem (s : State) (n j k) : (s.transit n j k).mem = s.mem := by unfold State.transit; (repeat' split) <;> simp
@[simp] theorem State.arrive_mem (s : State) (n k) : (s.arrive n k).mem = s.mem := by unfold State.arrive; split <;> simp
@[simp] theorem State.ingressDeliver_mem (s : State) (n vc) : (s.ingressDeliver n vc).mem = s.mem := by
  unfold State.ingressDeliver; dsimp only; (repeat' split) <;> simp
@[simp] theorem State.dropWaiting_mem (s : State) (n k) : (s.dropWaiting n k).mem = s.mem := by simp [State.dropWaiting]
@[simp] theorem State.forward_mem (s : State) (n m) : (s.forward n m).mem = s.mem := by
  unfold State.forward; dsimp only; (repeat' split) <;> simp

/-! ### Machine/Time.lean -/

@[simp] theorem State.steerRate_mem (s : State) : s.steerRate.mem = s.mem := by simp [State.steerRate]
@[simp] theorem State.servo_mem (s : State) (n th) : (s.servo n th).mem = s.mem := by simp [State.servo]
@[simp] theorem State.sendTime_mem (s : State) (n l) : (s.sendTime n l).mem = s.mem := by simp [State.sendTime]
@[simp] theorem State.dropLate_mem (s : State) (n) : (s.dropLate n).mem = s.mem := by simp [State.dropLate]
@[simp] theorem State.stampRx_mem (s : State) (n ph) : (s.stampRx n ph).2.mem = s.mem := by simp [State.stampRx]
@[simp] theorem State.agePort_mem (s : State) (n) : (s.agePort n).mem = s.mem := by simp [State.agePort]
@[simp] theorem State.periodElapse_mem (s : State) (n ph) : (s.periodElapse n ph).mem = s.mem := by simp [State.periodElapse]
@[simp] theorem State.timeMark_mem (s : State) (n id ph) : (s.timeMark n id ph).mem = s.mem := by simp [State.timeMark]
@[simp] theorem State.putSigned_mem (s : State) (f v n) : (s.putSigned f v n).mem = s.mem := by simp [State.putSigned]
/-- The division is kept abstract: the kernel would otherwise evaluate it to compare two forms of the goal. -/
@[simp] theorem State.exchange_mem (s : State) (n t1 t2 t3 t4 at_) : (s.exchange n t1 t2 t3 t4 at_).mem = s.mem := by
  unfold State.exchange
  extract_lets p q th
  split
  · exact (State.addFld_keeps ..).2
  obtain ⟨free, hf⟩ : ∃ f, f = @State.divFree := ⟨_, rfl⟩
  have hFree : ∀ s a d, (free s a d).2.mem = s.mem := hf ▸ State.divFree_mem
  rw [← hf]
  clear hf
  simp [hFree]
@[simp] theorem State.finishExchs_mem (s : State) (n) : (s.finishExchs n).mem = s.mem := by simp [State.finishExchs]
@[simp] theorem State.txStamp_mem (s : State) (n m) : (s.txStamp n m).mem = s.mem := by simp [State.txStamp]
@[simp] theorem State.rxStamp_mem (s : State) (n m) : (s.rxStamp n m).mem = s.mem := by simp [State.rxStamp]
@[simp] theorem State.announce_mem (s : State) (n m) : (s.announce n m).mem = s.mem := by simp [State.announce]
@[simp] theorem State.todAIn_mem (s : State) (n m) : (s.todAIn n m).mem = s.mem := by simp [State.todAIn]
@[simp] theorem State.todBIn_mem (s : State) (n m) : (s.todBIn n m).mem = s.mem := by simp [State.todBIn]
@[simp] theorem State.asymDone_mem (s : State) (n) : (s.asymDone n).mem = s.mem := by unfold State.asymDone; split <;> simp
@[simp] theorem State.asymIn_mem (s : State) (n m) : (s.asymIn n m).mem = s.mem := by simp [State.asymIn]
@[simp] theorem State.asymMeasure_mem (s : State) (n cycle skew) : (s.asymMeasure n cycle skew).mem = s.mem := by simp [State.asymMeasure]
@[simp] theorem State.ppsIn_mem (s : State) : s.ppsIn.mem = s.mem := by simp [State.ppsIn]
@[simp] theorem State.ppsMissing_mem (s : State) : s.ppsMissing.mem = s.mem := by simp [State.ppsMissing]
@[simp] theorem State.ppsRise_mem (s : State) : s.ppsRise.mem = s.mem := by simp [State.ppsRise]
@[simp] theorem State.ppsFall_mem (s : State) : s.ppsFall.mem = s.mem := by unfold State.ppsFall; split <;> simp
@[simp] theorem State.writeTimeCtrl_mem (s : State) (v) : (s.writeTimeCtrl v).mem = s.mem := by simp [State.writeTimeCtrl]

/-! ### Machine/Frames.lean -/

@[simp] theorem State.countSlot_mem (s : State) (n x2) : (s.countSlot n x2).mem = s.mem := by unfold State.countSlot; (repeat' split) <;> simp
@[simp] theorem State.markSent_mem (s : State) (n) : (s.markSent n).mem = s.mem := by simp [State.markSent]
@[simp] theorem State.emit_mem (s : State) (n f) : (s.emit n f).mem = s.mem := by simp [State.emit]
@[simp] theorem State.sendIdle_mem (s : State) (n) : (s.sendIdle n).mem = s.mem := by simp [State.sendIdle]
@[simp] theorem State.sendData_mem (s : State) (n) : (s.sendData n).mem = s.mem := by unfold State.sendData; dsimp only; split <;> simp
@[simp] theorem State.resend_mem (s : State) (n) : (s.resend n).mem = s.mem := by unfold State.resend; dsimp only; (repeat' split) <;> simp
@[simp] theorem State.frameSend_mem (s : State) (n) : (s.frameSend n).mem = s.mem := by
  unfold State.frameSend; dsimp only; (repeat' split) <;> simp
@[simp] theorem nextOr_mem (s : State) (r) (h : KeepsMem s r) : (nextOr s r).mem = s.mem := by
  cases r with
  | next t => exact h
  | fault _ | refused _ => rfl
@[simp] theorem State.nakRule_mem (s : State) (n) : (s.nakRule n).mem = s.mem := by simp [State.nakRule]
@[simp] theorem State.packetIn_mem (s : State) (n k ok) : (s.packetIn n k ok).mem = s.mem := by simp [State.packetIn]
@[simp] theorem State.headIn_mem (s : State) (n p) : (s.headIn n p).1.mem = s.mem := by unfold State.headIn; split <;> simp
@[simp] theorem State.takeSlot_mem (s : State) (n w) : (s.takeSlot n w).mem = s.mem := by
  unfold State.takeSlot; dsimp only; (repeat' split) <;> simp
@[simp] theorem State.ctlIn_mem (s : State) (n f) : (s.ctlIn n f).mem = s.mem := by
  unfold State.ctlIn
  split <;> simp
@[simp] theorem State.linkMsgIn_mem (s : State) (n m rtt) : (s.linkMsgIn n m rtt).mem = s.mem := by
  unfold State.linkMsgIn
  split <;> simp
@[simp] theorem State.timeMsgIn_mem (s : State) (n m stamp) : (s.timeMsgIn n m stamp).mem = s.mem := by unfold State.timeMsgIn; split <;> simp
@[simp] theorem State.release_mem (s : State) (n k) : (s.release n k).mem = s.mem := by simp [State.release]
@[simp] theorem State.ackIn_mem (s : State) (n f) : (s.ackIn n f).mem = s.mem := by simp [State.ackIn]
@[simp] theorem State.headerIn_mem (s : State) (n f chk) : (s.headerIn n f chk).mem = s.mem := by unfold State.headerIn; split <;> simp
@[simp] theorem State.tagFail_mem (s : State) (n) : (s.tagFail n).mem = s.mem := by simp [State.tagFail]
@[simp] theorem State.accept_mem (s : State) (n f) : (s.accept n f).mem = s.mem := by unfold State.accept; split <;> simp
@[simp] theorem State.goodFrame_mem (s : State) (n f chk) : (s.goodFrame n f chk).mem = s.mem := by simp [State.goodFrame]
@[simp] theorem State.failLanes_mem (s : State) (n bad) : (s.failLanes n bad).mem = s.mem := by simp [State.failLanes]
@[simp] theorem State.laneWindow_mem (s : State) (n errs) : (s.laneWindow n errs).mem = s.mem := by simp [State.laneWindow]
@[simp] theorem State.marksIn_mem (s : State) (n marks) : (s.marksIn n marks).mem = s.mem := by simp [State.marksIn]
@[simp] theorem State.lanesIn_mem (s : State) (n f chk) : (s.lanesIn n f chk).mem = s.mem := by simp [State.lanesIn]
@[simp] theorem State.frameReceive_mem (s : State) (n f chk) : (s.frameReceive n f chk).mem = s.mem := by simp [State.frameReceive]

/-! ### Machine/Hbm.lean -/

@[simp] theorem State.setStackState_mem (s : State) (n st) : (s.setStackState n st).mem = s.mem := by simp [State.setStackState]
@[simp] theorem State.hdmDeny_mem (s : State) (r) : (s.hdmDeny r).mem = s.mem := by simp [State.hdmDeny]
@[simp] theorem State.listLine_mem (s : State) (n b) : (s.listLine n b).mem = s.mem := by simp [State.listLine]
@[simp] theorem State.copyFails_mem (s : State) (q code) : (s.copyFails q code).mem = s.mem := by unfold State.copyFails; split <;> simp
@[simp] theorem State.serveCopyOut_mem (s : State) (q n b len addr) : (s.serveCopyOut q n b len addr).mem = s.mem := by
  simp [State.serveCopyOut]
@[simp] theorem State.finishClosing_mem (s : State) : s.finishClosing.mem = s.mem := by simp [State.finishClosing]
@[simp] theorem State.hdmMode_mem (s : State) (party sl open_) : (s.hdmMode party sl open_).mem = s.mem := by simp [State.hdmMode]
@[simp] theorem State.hbmTemp_mem (s : State) (n c) : (s.hbmTemp n c).mem = s.mem := by simp [State.hbmTemp]
@[simp] theorem State.rinseStart_mem (s : State) (n) : (s.rinseStart n).mem = s.mem := by simp [State.rinseStart]
@[simp] theorem State.rinseCheck_mem (s : State) (n pc ok) : (s.rinseCheck n pc ok).mem = s.mem := by simp [State.rinseCheck]
@[simp] theorem State.hbmScrub_mem (s : State) (n w found odecc) : (s.hbmScrub n w found odecc).mem = s.mem := by simp [State.hbmScrub]
@[simp] theorem State.hbmWriteback_mem (s : State) (n w) : (s.hbmWriteback n w).mem = s.mem := by simp [State.hbmWriteback]

/-! ### Machine/Host.lean -/

@[simp] theorem State.setHostLink_mem (s : State) (mode rate width) : (s.setHostLink mode rate width).mem = s.mem := by simp [State.setHostLink]
@[simp] theorem State.hostTrain_mem (s : State) (offers) : (s.hostTrain offers).mem = s.mem := by
  unfold State.hostTrain; dsimp only; split <;> simp
@[simp] theorem State.setIntMode_mem (s : State) : s.setIntMode.mem = s.mem := by simp [State.setIntMode]
@[simp] theorem State.configWrite_mem (s : State) (off v) : (s.configWrite off v).mem = s.mem := by unfold State.configWrite; split <;> simp
@[simp] theorem State.configRequest_mem (s : State) (write off v) : (s.configRequest write off v).mem = s.mem := by simp [State.configRequest]
@[simp] theorem execBarAccessError_keeps (read) (s : State) : KeepsMem s (execBarAccessError read s) := by simp [execBarAccessError]
@[simp] theorem execHdmDecoderCommit_keeps (ways size) (s : State) : KeepsMem s (execHdmDecoderCommit ways size s) := by
  simp only [execHdmDecoderCommit]
  split <;> simp
@[simp] theorem State.doorbell_mem (s : State) (q idx) : (s.doorbell q idx).mem = s.mem := by simp [State.doorbell]
@[simp] theorem execDoorbellWrite_keeps (q idx) (s : State) : KeepsMem s (execDoorbellWrite q idx s) := by simp [execDoorbellWrite]
@[simp] theorem State.shadowWrite_mem (s : State) (q) : (s.shadowWrite q).mem = s.mem := by simp [State.shadowWrite]
@[simp] theorem State.cfgReject_mem (s : State) (q) : (s.cfgReject q).mem = s.mem := by simp [State.cfgReject]
@[simp] theorem State.putCfg_mem (s : State) (q v) : (s.putCfg q v).mem = s.mem := by simp [State.putCfg]
@[simp] theorem State.queueEnable_mem (s : State) (party q v) : (s.queueEnable party q v).mem = s.mem := by simp [State.queueEnable]
@[simp] theorem State.queueDisable_mem (s : State) (party q) : (s.queueDisable party q).mem = s.mem := by simp [State.queueDisable]
@[simp] theorem State.queueCfg_mem (s : State) (party q v) : (s.queueCfg party q v).mem = s.mem := by simp [State.queueCfg]
@[simp] theorem State.resTimer_mem (s : State) (q) : (s.resTimer q).mem = s.mem := by simp [State.resTimer]
@[simp] theorem State.completeCmd_mem (s : State) (q flags code) : (s.completeCmd q flags code).mem = s.mem := by simp [State.completeCmd]
@[simp] theorem State.fetchDone_mem (s : State) (q ok entry) : (s.fetchDone q ok entry).mem = s.mem := by simp [State.fetchDone]
@[simp] theorem State.beginCmd_mem (s : State) (q c) : (s.beginCmd q c).mem = s.mem := by simp [State.beginCmd]
@[simp] theorem State.nopCmd_mem (s : State) (q) : (s.nopCmd q).mem = s.mem := by unfold State.nopCmd; split <;> simp
@[simp] theorem State.loadRefused_mem (s : State) (p tag code) : (s.loadRefused p tag code).mem = s.mem := by simp [State.loadRefused]
@[simp] theorem State.loadCore_mem (s : State) (c) : (s.loadCore c).mem = s.mem := by simp [-State.setFld_mem, State.loadCore]
@[simp] theorem State.becomeLoaded_mem (s : State) (p) : (s.becomeLoaded p).mem = s.mem :=
  (State.setPState_keeps ..).2.trans <| (State.setPart_mem ..).trans <| (State.setFld_mem ..).trans <|
    (State.setFld64_keeps ..).2.trans (State.zeroSync_keeps ..).2
@[simp] theorem State.loadImage_mem (s : State) (p i) : (s.loadImage p i).mem = s.mem := by
  simp [-State.setFld_mem, -State.setCore_mem, State.loadImage]
@[simp] theorem State.loadFull_mem (s : State) (q i) : (s.loadFull q i).mem = s.mem := by unfold State.loadFull; split <;> simp
@[simp] theorem State.loadResident_mem (s : State) (q) : (s.loadResident q).mem = s.mem := by unfold State.loadResident; split <;> simp
@[simp] theorem State.copyStops_mem (s : State) (q) : (s.copyStops q).mem = s.mem := by simp [State.copyStops]
@[simp] theorem State.loadLost_mem (s : State) (p c) : (s.loadLost p c).mem = s.mem := by
  unfold State.loadLost; dsimp only; (repeat' split) <;> simp
@[simp] theorem State.commandComplete_mem (s : State) (q fetched) : (s.commandComplete q fetched).mem = s.mem := by
  unfold State.commandComplete; split <;> simp
@[simp] theorem State.queueRegsReset_mem (s : State) (q) : (s.queueRegsReset q).mem = s.mem := by simp [State.queueRegsReset]
/-- What a hot reset does to one queue. -/
theorem State.queueReset_mem (s : State) (q) : ((((match (s.queue q).cmd with
    | some c => s.loadLost q c
    | none => s).queueRegsReset q).copyStops q).setQueue q {}).mem = s.mem := by
  simp only [State.setQueue_keeps, State.copyStops_mem, State.queueRegsReset_mem]
  split <;> simp
@[simp] theorem State.hotReset_mem (s : State) (down) : (s.hotReset down).mem = s.mem := by
  change KeepsMem s (.next _)
  unfold State.hotReset
  extract_lets a b c d e f
  have hb : b.mem = s.mem := rfl
  clear_value b
  have hd : d.mem = s.mem :=
    (foldl_mem _ (fun t q => (State.queueOff_keeps _ q).2.trans (t.queueReset_mem q)) _ _).trans <| (State.setFld_mem ..).trans hb
  clear_value d
  have hf : f.mem = s.mem := (State.hostError_keeps ..).2.trans <| (State.addFld_keeps ..).2.trans <| (State.setFld_mem ..).trans <|
    (State.setFld_mem ..).trans hd
  split
  · exact (State.setHostLink_mem ..).trans hf
  · exact hf
@[simp] theorem State.setSecure_mem (s : State) (stream b) : (s.setSecure stream b).mem = s.mem := by simp [State.setSecure]
@[simp] theorem State.doeRequest_mem (s : State) (inst kind len read key) : (s.doeRequest inst kind len read key).mem = s.mem := by
  unfold State.doeRequest; (repeat' split) <;> simp
@[simp] theorem State.ideFailure_mem (s : State) (stream) : (s.ideFailure stream).mem = s.mem := by simp [State.ideFailure]

/-! ### Machine/ThimOps.lean -/

@[simp] theorem State.ask_mem (s : State) (ch op f) (h : (f s).mem = s.mem) : (s.ask ch op f).mem = s.mem := by
  unfold State.ask; split <;> [rfl; split <;> simp [h]]
@[simp] theorem State.endDebug_mem (s : State) (p) : (s.endDebug p).mem = s.mem := by simp [-State.setFld_mem, State.endDebug]
@[simp] theorem State.unbindHost_mem (s : State) (p) : (s.unbindHost p).mem = s.mem := by simp [-State.setFld_mem, State.unbindHost]
@[simp] theorem State.bringIdle_mem (s : State) (p) : (s.bringIdle p).mem = s.mem := by unfold State.bringIdle; split <;> simp

/-! ### Machine/Tokens.lean -/

@[simp] theorem State.setNonce_mem (s : State) (k v) : (s.setNonce k v).mem = s.mem := by simp [State.setNonce]
@[simp] theorem State.drawNonce_mem (s : State) (k) : (s.drawNonce k).2.mem = s.mem := by simp [State.drawNonce]
@[simp] theorem State.secNonceDraw_mem (s : State) : s.secNonceDraw.mem = s.mem := by simp [-State.setFld_mem, State.secNonceDraw]
@[simp] theorem State.secNonceRead_mem (s : State) (party) : (s.secNonceRead party).mem = s.mem := by
  unfold State.secNonceRead
  split
  · rfl
  · exact (State.out_mem ..).trans s.secNonceDraw_mem
@[simp] theorem State.getNonce_mem (s : State) (ch) : (s.getNonce ch).mem = s.mem := by simp [State.getNonce]
@[simp] theorem State.setOperator_mem (s : State) (key) : (s.setOperator key).mem = s.mem := by simp [State.setOperator]
@[simp] theorem State.setPublishers_mem (s : State) (l) : (s.setPublishers l).mem = s.mem := by simp [State.setPublishers]
@[simp] theorem State.grantObserve_mem (s : State) (t) : (s.grantObserve t).mem = s.mem := by simp [State.grantObserve]
@[simp] theorem State.grantDebug_mem (s : State) (t) : (s.grantDebug t).mem = s.mem := by simp [State.grantDebug]
@[simp] theorem State.applyPolicy_mem (s : State) (t) : (s.applyPolicy t).mem = s.mem := by simp [State.applyPolicy]
@[simp] theorem State.runPlinth_mem (s : State) (ch code f) (h : (f s).mem = s.mem) : (s.runPlinth ch code f).mem = s.mem := by
  simp [State.runPlinth, h]
@[simp] theorem State.enrolOperator_mem (s : State) (ch key) : (s.enrolOperator ch key).mem = s.mem := by
  unfold State.enrolOperator; split <;> simp
@[simp] theorem State.grantExpire_mem (s : State) (which) : (s.grantExpire which).mem = s.mem := by unfold State.grantExpire; split <;> simp
@[simp] theorem State.endGrant_mem (s : State) (ch p) : (s.endGrant ch p).mem = s.mem := by unfold State.endGrant; split <;> simp

/-! ### Machine/Secrecy.lean -/

@[simp] theorem State.grantSession_mem (s : State) (ch p session) : (s.grantSession ch p session).mem = s.mem := by
  unfold State.grantSession; split <;> simp
@[simp] theorem State.askTenant_mem (s : State) (id p f) (h : (f s).mem = s.mem) : (s.askTenant id p f).mem = s.mem := by simp [State.askTenant, h]
@[simp] theorem State.setHbmKey_mem (s : State) (id p k1 k2) : (s.setHbmKey id p k1 k2).mem = s.mem := by simp [State.setHbmKey]
@[simp] theorem State.bindCkid_mem (s : State) (id p ckid) : (s.bindCkid id p ckid).mem = s.mem := by simp [State.bindCkid]
@[simp] theorem State.bindQueues_mem (s : State) (id p stream) : (s.bindQueues id p stream).mem = s.mem := by
  simp [-State.setFld_mem, State.bindQueues]
@[simp] theorem State.askKey_mem (s : State) (ch op p fetched f) (h : ∀ q, (f s q).mem = s.mem) : (s.askKey ch op p fetched f).mem = s.mem := by
  unfold State.askKey; split <;> simp [h]
@[simp] theorem State.zeroSeal_mem (s : State) (p gen) : (s.zeroSeal p gen).mem = s.mem := by simp [State.zeroSeal]
@[simp] theorem State.setJobKey_mem (s : State) (ch p gen sealedMode kseq secret fetched) :
    (s.setJobKey ch p gen sealedMode kseq secret fetched).mem = s.mem := by
  simp [State.setJobKey]
@[simp] theorem State.switchKgen_mem (s : State) (ch p gen t fetched) : (s.switchKgen ch p gen t fetched).mem = s.mem := by
  simp [State.switchKgen]
@[simp] theorem State.kgenSwitchTime_mem (s : State) (p) : (s.kgenSwitchTime p).mem = s.mem := by unfold State.kgenSwitchTime; split <;> simp
@[simp] theorem State.clearKgen_mem (s : State) (ch p gen fetched) : (s.clearKgen ch p gen fetched).mem = s.mem := by simp [State.clearKgen]
@[simp] theorem State.getKfloor_mem (s : State) (id) : (s.getKfloor id).mem = s.mem := by simp [State.getKfloor]
@[simp] theorem State.mbxGo_mem (s : State) (party) : (s.mbxGo party).mem = s.mem := by simp [State.mbxGo]
@[simp] theorem State.askSpdm_mem (s : State) (ch rom f) (hr : (rom s).mem = s.mem) (h : (f s).mem = s.mem) : (s.askSpdm ch rom f).mem = s.mem := by
  unfold State.askSpdm; split <;> [rfl; (dsimp only; split <;> simp [h, hr])]
@[simp] theorem State.romRefuse_mem (s : State) (ch) : (s.romRefuse ch).mem = s.mem := by unfold State.romRefuse; split <;> simp
@[simp] theorem State.spdm_mem (s : State) (ch r) : (s.spdm ch r).mem = s.mem := State.askSpdm_mem _ _ _ _ (State.romRefuse_mem ..) rfl
@[simp] theorem execGetDigests_keeps (ch slot) (s : State) : KeepsMem s (execGetDigests ch slot s) := by simp [execGetDigests]
@[simp] theorem execGetCertificate_keeps (ch slot) (s : State) : KeepsMem s (execGetCertificate ch slot s) := by simp [execGetCertificate]
@[simp] theorem State.getMeasurements_mem (s : State) (ch idx) : (s.getMeasurements ch idx).mem = s.mem := State.askSpdm_mem _ _ _ _ rfl rfl
@[simp] theorem State.setSessions_mem (s : State) (l) : (s.setSessions l).mem = s.mem := by simp [State.setSessions]
@[simp] theorem State.keyExchange_mem (s : State) (ch id) : (s.keyExchange ch id).mem = s.mem := by simp [State.keyExchange]
@[simp] theorem State.inSession_mem (s : State) (id r f) (h : (f s).mem = s.mem) : (s.inSession id r f).mem = s.mem := by simp [State.inSession, h]
@[simp] theorem State.finish_mem (s : State) (id tenant) : (s.finish id tenant).mem = s.mem := by simp [State.finish]
@[simp] theorem execHeartbeat_keeps (id) (s : State) : KeepsMem s (execHeartbeat id s) := by simp [execHeartbeat]
@[simp] theorem State.keyUpdate_mem (s : State) (id) : (s.keyUpdate id).mem = s.mem := by simp [State.keyUpdate]
@[simp] theorem State.dropSession_mem (s : State) (id) : (s.dropSession id).mem = s.mem := by simp [State.dropSession]
@[simp] theorem State.dropSessions_mem (s : State) : s.dropSessions.mem = s.mem := by simp [State.dropSessions]
@[simp] theorem execEndSession_keeps (id) (s : State) : KeepsMem s (execEndSession id s) := by simp [execEndSession]

/-! ### Machine/Mgmt.lean -/

@[simp] theorem State.setAddr_mem (s : State) (b v) : (s.setAddr b v).mem = s.mem := by simp [State.setAddr]
@[simp] theorem State.i3cAddress_mem (s : State) (b addr) : (s.i3cAddress b addr).mem = s.mem := by simp [State.i3cAddress]
@[simp] theorem State.i3cReset_mem (s : State) (b) : (s.i3cReset b).mem = s.mem := by simp [State.i3cReset]
@[simp] theorem State.setStuck_mem (s : State) (b on) : (s.setStuck b on).mem = s.mem := by simp [State.setStuck]
@[simp] theorem State.busStuckLow_mem (s : State) (b) : (s.busStuckLow b).mem = s.mem := by simp [State.busStuckLow]
@[simp] theorem State.busIsolate_mem (s : State) (b) : (s.busIsolate b).mem = s.mem := by simp [State.busIsolate]
@[simp] theorem State.busReturn_mem (s : State) (b) : (s.busReturn b).mem = s.mem := by simp [State.busReturn]
@[simp] theorem State.mctp_mem (s : State) (b data) : (s.mctp b data).mem = s.mem := by simp [State.mctp]
@[simp] theorem State.mctpControl_mem (s : State) (b f) (h : (f s).mem = s.mem) : (s.mctpControl b f).mem = s.mem := by simp [State.mctpControl, h]
@[simp] theorem State.setEndpoint_mem (s : State) (b eid) : (s.setEndpoint b eid).mem = s.mem := by simp [State.setEndpoint]
@[simp] theorem execGetEndpointId_keeps (b) (s : State) : KeepsMem s (execGetEndpointId b s) := by simp [execGetEndpointId]
@[simp] theorem execGetMctpVersionSupport_keeps (b) (s : State) : KeepsMem s (execGetMctpVersionSupport b s) := by simp [execGetMctpVersionSupport]
@[simp] theorem execGetMessageTypeSupport_keeps (b) (s : State) : KeepsMem s (execGetMessageTypeSupport b s) := by simp [execGetMessageTypeSupport]
@[simp] theorem execGetVendorDefinedMsgSupport_keeps (b) (s : State) : KeepsMem s (execGetVendorDefinedMsgSupport b s) := by
  simp [execGetVendorDefinedMsgSupport]
@[simp] theorem State.mctpMsg_mem (s : State) (b f) (h : (f s).mem = s.mem) : (s.mctpMsg b f).mem = s.mem := by simp [State.mctpMsg, h]
@[simp] theorem execMctpUnsupportedType_keeps (b) (s : State) : KeepsMem s (execMctpUnsupportedType b s) := by simp [execMctpUnsupportedType]
@[simp] theorem execGettid_keeps (b) (s : State) : KeepsMem s (execGettid b s) := by simp [execGettid]
@[simp] theorem execGetpldmversion_keeps (b) (s : State) : KeepsMem s (execGetpldmversion b s) := by simp [execGetpldmversion]
@[simp] theorem execGetpldmtypes_keeps (b) (s : State) : KeepsMem s (execGetpldmtypes b s) := by simp [execGetpldmtypes]
@[simp] theorem execGetpldmcommands_keeps (b type) (s : State) : KeepsMem s (execGetpldmcommands b type s) := by simp [execGetpldmcommands]
@[simp] theorem execFruDataRead_keeps (b) (s : State) : KeepsMem s (execFruDataRead b s) := by simp [execFruDataRead]
@[simp] theorem execGetpdr_keeps (b) (s : State) : KeepsMem s (execGetpdr b s) := by simp [execGetpdr]
@[simp] theorem State.takeEvents_mem (s : State) (b n) : (s.takeEvents b n).mem = s.mem := by simp [State.takeEvents]
@[simp] theorem execGetEvents_keeps (b) (s : State) : KeepsMem s (execGetEvents b s) := by simp [execGetEvents]
@[simp] theorem execPollForPlatformEventMessage_keeps (b) (s : State) : KeepsMem s (execPollForPlatformEventMessage b s) := by
  simp [execPollForPlatformEventMessage]
@[simp] theorem State.refreshTemp_mem (s : State) (id) : (s.refreshTemp id).mem = s.mem := by unfold State.refreshTemp; split <;> simp
@[simp] theorem State.driveTherm_mem (s : State) : s.driveTherm.mem = s.mem := by simp [State.driveTherm]
@[simp] theorem State.sensorRefresh_mem (s : State) (mv ca watts) : (s.sensorRefresh mv ca watts).mem = s.mem := by simp [State.sensorRefresh]
@[simp] theorem State.takePlan_mem (s : State) (b) : (s.takePlan b).mem = s.mem := by simp [State.takePlan]
@[simp] theorem State.claimPlan_mem (s : State) (party) : (s.claimPlan party).mem = s.mem := by simp [State.claimPlan]
@[simp] theorem State.writeCap_mem (s : State) (party v also) : (s.writeCap party v also).mem = s.mem := by
  unfold State.writeCap; (repeat' split) <;> simp
@[simp] theorem State.envelope_mem (s : State) (party f) (h : (f s).mem = s.mem) : (s.envelope party f).mem = s.mem := by simp [State.envelope, h]
@[simp] theorem State.writeEnvelope_mem (s : State) (party v) : (s.writeEnvelope party v).mem = s.mem := by simp [State.writeEnvelope]
@[simp] theorem State.writeClockCap_mem (s : State) (party v) : (s.writeClockCap party v).mem = s.mem := by simp [State.writeClockCap]
@[simp] theorem State.clearFault_mem (s : State) (b input) : (s.clearFault b input).mem = s.mem := by simp [State.clearFault]
@[simp] theorem State.setUpdate_mem (s : State) (u) : (s.setUpdate u).mem = s.mem := by simp [State.setUpdate]
@[simp] theorem State.endUpdate_mem (s : State) (st) : (s.endUpdate st).mem = s.mem := by simp [State.endUpdate]
@[simp] theorem execRequestUpdate_keeps (b) (s : State) : KeepsMem s (execRequestUpdate b s) := by simp [execRequestUpdate]
@[simp] theorem State.setStored_mem (s : State) (f) : (s.setStored f).mem = s.mem := by simp [State.setStored]
@[simp] theorem State.fwBroken_mem (s : State) (h) : (s.fwBroken h).mem = s.mem := by simp [State.fwBroken]
@[simp] theorem State.fwComplete_mem (s : State) (h body) : (s.fwComplete h body).mem = s.mem := by simp [State.fwComplete]
@[simp] theorem State.fwReceive_mem (s : State) (d) : (s.fwReceive d).mem = s.mem := by
  have hthimble (t : State) (x : Thimble) : ({ t with thimble := x } : State).mem = t.mem := rfl
  unfold State.fwReceive
  split
  · rfl
  · split
    · extract_lets code t
      split
      · exact (State.endUpdate_mem ..).trans (State.mgmtError_keeps ..).2
      · exact (hthimble _ _).trans <| (State.setUpdate_mem ..).trans (State.setStored_mem ..)
    · extract_lets l
      split
      · exact State.setUpdate_mem ..
      · exact State.fwComplete_mem ..
    · rfl
@[simp] theorem State.fwStop_mem (s : State) (code) : (s.fwStop code).mem = s.mem := by unfold State.fwStop; (repeat' split) <;> simp
@[simp] theorem execFirmwareTransferTimeout_keeps (s : State) : KeepsMem s (execFirmwareTransferTimeout s) := by simp [execFirmwareTransferTimeout]
@[simp] theorem execCancelUpdate_keeps (b) (s : State) : KeepsMem s (execCancelUpdate b s) := by simp [execCancelUpdate]
@[simp] theorem State.activate_mem (s : State) (b) : (s.activate b).mem = s.mem := by simp [State.activate]
@[simp] theorem State.romStart_mem (s : State) : s.romStart.mem = s.mem := by unfold State.romStart; split <;> simp
@[simp] theorem State.restartDone_mem (s : State) : s.restartDone.mem = s.mem := by simp [State.restartDone]

/-! ### Machine/Reset.lean -/

@[simp] theorem State.pwrError_mem (s : State) (code item) : (s.pwrError code item).mem = s.mem := by unfold State.pwrError; split <;> simp
@[simp] theorem State.setPwr_mem (s : State) (st) : (s.setPwr st).mem = s.mem := by simp [State.setPwr]
@[simp] theorem State.setPower_mem (s : State) (x) : (s.setPower x).mem = s.mem := by simp [State.setPower]
@[simp] theorem State.inputLost_mem (s : State) : s.inputLost.mem = s.mem := by simp [State.inputLost]
@[simp] theorem State.porRelease_mem (s : State) : s.porRelease.mem = s.mem := by
  unfold State.porRelease; dsimp only; (repeat' split) <;> simp
@[simp] theorem execInputLow_keeps (on) (s : State) : KeepsMem s (execInputLow on s) := by simp [execInputLow]
@[simp] theorem execInputHigh_keeps (on) (s : State) : KeepsMem s (execInputHigh on s) := by simp [execInputHigh]
@[simp] theorem execAoPathRetry_keeps (clear) (s : State) : KeepsMem s (execAoPathRetry clear s) := by simp [execAoPathRetry]
@[simp] theorem execSenseOpen_keeps (s : State) : KeepsMem s (execSenseOpen s) := by simp [execSenseOpen]
@[simp] theorem execWatchdogRestart_keeps (s : State) : KeepsMem s (execWatchdogRestart s) := by simp [execWatchdogRestart]
@[simp] theorem execRailsRestore_keeps (s : State) : KeepsMem s (execRailsRestore s) := by simp [execRailsRestore]
@[simp] theorem State.perstRelease_mem (s : State) : s.perstRelease.mem = s.mem := by
  unfold State.perstRelease; dsimp only; (repeat' split) <;> simp
@[simp] theorem execPerstGlitch_keeps (s : State) : KeepsMem s (execPerstGlitch s) := by simp [execPerstGlitch]
@[simp] theorem State.judgeOptions_mem (s : State) : s.judgeOptions.mem = s.mem := by simp [State.judgeOptions]
@[simp] theorem State.applyOptions_mem (s : State) (first) : (s.applyOptions first).mem = s.mem := by
  simp [-State.setFld_mem, State.applyOptions]
@[simp] theorem State.optionLoad_mem (s : State) (code) : (s.optionLoad code).mem = s.mem := by simp [State.optionLoad]

/-! ### Machine/Power.lean -/

@[simp] theorem State.setChannels_mem (s : State) (st) : (s.setChannels st).mem = s.mem := by simp [State.setChannels]
@[simp] theorem State.startMove_mem (s : State) (st) : (s.startMove st).mem = s.mem := by simp [State.startMove]
@[simp] theorem State.closeEfuse_mem (s : State) : s.closeEfuse.mem = s.mem := by simp [State.closeEfuse]
@[simp] theorem State.requestMove_mem (s : State) (st) : (s.requestMove st).mem = s.mem := by simp [State.requestMove]
@[simp] theorem State.setPowerState_mem (s : State) (b st) : (s.setPowerState b st).mem = s.mem := by simp [State.setPowerState]
@[simp] theorem State.moveEnd_mem (s : State) : s.moveEnd.mem = s.mem := by simp [State.moveEnd]
@[simp] theorem execRailInRegulation_keeps (s : State) : KeepsMem s (execRailInRegulation s) := by simp [execRailInRegulation]
@[simp] theorem State.bringRom_mem (s : State) (storeBad) : (s.bringRom storeBad).mem = s.mem := by simp [State.bringRom]
@[simp] theorem State.bringRails_mem (s : State) : s.bringRails.mem = s.mem := by simp [State.bringRails]
@[simp] theorem State.bringTime_mem (s : State) : s.bringTime.mem = s.mem := by simp [State.bringTime]
@[simp] theorem State.bringEdges_mem (s : State) (edges) : (s.bringEdges edges).mem = s.mem := by simp [State.bringEdges]
@[simp] theorem State.bringBase_mem (s : State) : s.bringBase.mem = s.mem := by unfold State.bringBase; dsimp only; (repeat' split) <;> simp
@[simp] theorem State.bringLive_mem (s : State) : s.bringLive.mem = s.mem := by simp [State.bringLive]
@[simp] theorem State.passGates_mem (s : State) : s.passGates.mem = s.mem := by simp [State.passGates]
@[simp] theorem State.dieGate_mem (s : State) (nn) : (s.dieGate nn).mem = s.mem := by simp [State.dieGate]
@[simp] theorem State.domainDisable_mem (s : State) (k) : (s.domainDisable k).mem = s.mem := by simp [State.domainDisable]
@[simp] theorem State.setThermStep_mem (s : State) (nn v) : (s.setThermStep nn v).mem = s.mem := by simp [State.setThermStep]
@[simp] theorem State.sleeveRefuse_mem (s : State) (b code) : (s.sleeveRefuse b code).mem = s.mem := by simp [State.sleeveRefuse]
@[simp] theorem State.sleeveGo_mem (s : State) (party b host) : (s.sleeveGo party b host).mem = s.mem := by
  unfold State.sleeveGo; (repeat' split) <;> simp
@[simp] theorem State.dropAcc_mem (s : State) (x1) : (s.dropAcc x1).mem = s.mem := by unfold State.dropAcc; split <;> simp
@[simp] theorem State.resetBlock_mem (s : State) (b) : (s.resetBlock b).mem = s.mem := by
  simp [-State.setFld_mem, -State.setCore_mem, State.resetBlock]
@[simp] theorem State.sleeveDrain_mem (s : State) : s.sleeveDrain.mem = s.mem := by simp [State.sleeveDrain]
@[simp] theorem State.lineStuck_mem (s : State) (line) : (s.lineStuck line).mem = s.mem := by simp [State.lineStuck]

/-! ### Machine/Observe.lean -/

@[simp] theorem State.latchHigh_mem (s : State) (party lo v) : (s.latchHigh party lo v).mem = s.mem := by simp [State.latchHigh]
@[simp] theorem State.counterSelected_mem (s : State) (party p) : (s.counterSelected party p).1.mem = s.mem := by simp [State.counterSelected]
@[simp] theorem State.counterFetch_mem (s : State) (party p) : (s.counterFetch party p).1.mem = s.mem := by simp [State.counterFetch]
@[simp] theorem State.counterRead_mem (s : State) (party p) : (s.counterRead party p).mem = s.mem := by simp [State.counterRead]
@[simp] theorem State.latchAgg_mem (s : State) (pair) : (s.latchAgg pair).mem = s.mem := by simp [State.latchAgg]
@[simp] theorem State.aggLatch_mem (s : State) : s.aggLatch.mem = s.mem := by simp [State.aggLatch]
@[simp] theorem State.starchRefused_mem (s : State) : s.starchRefused.mem = s.mem := by simp [State.starchRefused]
@[simp] theorem State.starchNow_mem (s : State) : s.starchNow.mem = s.mem := by simp [State.starchNow]
@[simp] theorem State.starchArm_mem (s : State) : s.starchArm.mem = s.mem := by simp [State.starchArm]
@[simp] theorem State.starchTime_mem (s : State) : s.starchTime.mem = s.mem := by simp [State.starchTime]
@[simp] theorem State.starchRelease_mem (s : State) : s.starchRelease.mem = s.mem := by simp [State.starchRelease]
@[simp] theorem State.dropBarred_mem (s : State) (p) : (s.dropBarred p).mem = s.mem := by simp [State.dropBarred]
@[simp] theorem State.starchDrained_mem (s : State) : s.starchDrained.mem = s.mem := by simp [State.starchDrained]
@[simp] theorem State.drawBytes_mem (s : State) (n) : (s.drawBytes n).1.mem = s.mem := by
  induction n generalizing s with
  | zero => rfl
  | succ n ih => simp [State.drawBytes, ih]
@[simp] theorem State.putRec_mem (s : State) (p r) : (s.putRec p r).mem = s.mem := by simp [State.putRec]
@[simp] theorem State.putPad_mem (s : State) (p n) : (s.putPad p n).mem = s.mem := by simp [State.putPad]
@[simp] theorem State.plasterWritten_mem (s : State) (p) : (s.plasterWritten p).mem = s.mem := by simp [State.plasterWritten]
@[simp] theorem State.dropRec_mem (s : State) (p r) : (s.dropRec p r).mem = s.mem := by simp [State.dropRec]
@[simp] theorem State.obsRecordWrite_mem (s : State) (p) : (s.obsRecordWrite p).mem = s.mem := by
  unfold State.obsRecordWrite
  split
  · rfl
  · split
    · exact State.dropBarred_mem ..
    · split
      · rfl
      · extract_lets pad t u
        split
        · rfl
        · have ht : t.mem = s.mem := by
            unfold t
            split <;> simp
          have hu : u.mem = s.mem := (State.dropRec_mem ..).trans <| (State.putRec_mem ..).trans ht
          split
          · exact ht
          · split
            · exact (State.plasterWritten_mem ..).trans hu
            · exact hu
@[simp] theorem State.obsReject_mem (s : State) (p) : (s.obsReject p).mem = s.mem := by simp [State.obsReject]
@[simp] theorem State.obsCfg_mem (s : State) (p v) : (s.obsCfg p v).mem = s.mem := by simp [State.obsCfg]
@[simp] theorem State.obsRingWrite_mem (s : State) (party p reg v) : (s.obsRingWrite party p reg v).mem = s.mem := by
  unfold State.obsRingWrite; (repeat' split) <;> simp
@[simp] theorem State.obsCiWrite_mem (s : State) (party p v) : (s.obsCiWrite party p v).mem = s.mem := by simp [State.obsCiWrite]
@[simp] theorem State.plasterDemand_mem (s : State) (party p) : (s.plasterDemand party p).mem = s.mem := by simp [State.plasterDemand]
@[simp] theorem State.asOf_mem (s : State) (x) : (s.asOf x).mem = s.mem := by simp [State.asOf]
@[simp] theorem State.plasterSend_mem (s : State) (p) : (s.plasterSend p).mem = s.mem := by unfold State.plasterSend; split <;> simp
@[simp] theorem State.dumpCfg_mem (s : State) (p k v) : (s.dumpCfg p k v).mem = s.mem := by simp [State.dumpCfg]
@[simp] theorem State.dumpWrite_mem (s : State) (party p k reg v) : (s.dumpWrite party p k reg v).mem = s.mem := by
  unfold State.dumpWrite; (repeat' split) <;> simp
@[simp] theorem State.dumpCount_mem (s : State) (i) : (s.dumpCount i).mem = s.mem := by unfold State.dumpCount; split <;> simp
@[simp] theorem State.dumpTrigger_mem (s : State) (p k tag) : (s.dumpTrigger p k tag).mem = s.mem := by simp [State.dumpTrigger]
@[simp] theorem State.dumpSend_mem (s : State) (p k seen n c) : (s.dumpSend p k seen n c).mem = s.mem := by
  induction n generalizing s c with
  | zero => rfl
  | succ n ih => simp [State.dumpSend, ih]
@[simp] theorem State.dumpUes_mem (s : State) (i seen) : (s.dumpUes i seen).mem = s.mem := by simp [State.dumpUes]
@[simp] theorem State.dumpComplete_mem (s : State) (p k seen) : (s.dumpComplete p k seen).mem = s.mem := by simp [State.dumpComplete]
@[simp] theorem State.traceLost_mem (s : State) (p entries t) : (s.traceLost p entries t).mem = s.mem := by simp [State.traceLost]
@[simp] theorem State.traceSend_mem (s : State) (g) : (s.traceSend g).mem = s.mem := by unfold State.traceSend; dsimp only; split <;> simp
@[simp] theorem State.ndCtrlWrite_mem (s : State) (party p v) : (s.ndCtrlWrite party p v).mem = s.mem := by simp [State.ndCtrlWrite]

/-! ### Machine/RegAccess.lean -/

@[simp] theorem State.advanceIndex_mem (s : State) (r) : (s.advanceIndex r).mem = s.mem := by simp [State.advanceIndex]
@[simp] theorem State.latchPair_mem (s : State) (party a r) : (s.latchPair party a r).mem = s.mem := by unfold State.latchPair; split <;> simp
@[simp] theorem State.clearRc_mem (s : State) (r counted) : (s.clearRc r counted).mem = s.mem := by simp [State.clearRc]
@[simp] theorem State.beforeRead_mem (s : State) (party r) : (s.beforeRead party r).mem = s.mem := by simp [State.beforeRead]
@[simp] theorem State.afterRead_mem (s : State) (party a r counted) : (s.afterRead party a r counted).mem = s.mem := by simp [State.afterRead]
@[simp] theorem State.readReg_mem (s : State) (party a r counted) : (s.readReg party a r counted).1.mem = s.mem := by simp [State.readReg]
@[simp] theorem State.readAt_mem (s : State) (party a) : (s.readAt party a).1.mem = s.mem := by unfold State.readAt; split <;> simp
@[simp] theorem State.readKind_mem (s : State) (party a counted kind) : (s.readKind party a counted kind).mem = s.mem := by
  unfold State.readKind; split <;> simp
@[simp] theorem execPairLoRead_keeps (party bar2 off) (s : State) (part) : KeepsMem s (execPairLoRead party bar2 off s part) := by
  unfold execPairLoRead; split <;> simp
@[simp] theorem execRcCounterRead_keeps (party bar2 off counted) (s : State) : KeepsMem s (execRcCounterRead party bar2 off counted s) := by
  simp [execRcCounterRead]
@[simp] theorem State.writeFld_mem (s : State) (f i k v) : (s.writeFld f i k v).mem = s.mem := by unfold State.writeFld; split <;> simp
@[simp] theorem State.dropCode_mem (s : State) (f i v) : (s.dropCode f i v).mem = s.mem := by unfold State.dropCode; (repeat' split) <;> simp
@[simp] theorem State.writeFlds_mem (s : State) (r v) : (s.writeFlds r v).mem = s.mem := by simp [State.writeFlds]
@[simp] theorem State.pairValue_mem (s : State) (party a r v) : (s.pairValue party a r v).2.mem = s.mem := by simp [State.pairValue]
@[simp] theorem State.writePair_mem (s : State) (party a r v) : (s.writePair party a r v).mem = s.mem := by simp [State.writePair]
@[simp] theorem State.after_mem (s : State) (f : State → Host.Outcome State Fault Refusal) (h : KeepsMem s (f s)) : (s.after f).mem = s.mem := by
  unfold State.after
  cases hf : f s with
  | next t => rw [hf] at h; exact h
  | fault _ | refused _ => rfl
@[simp] theorem State.bitCmds_mem (s : State) (v fs) (h : ∀ f ∈ fs, ∀ t : State, (f t).mem = t.mem) : (s.bitCmds v fs).mem = s.mem := by
  refine foldl_mem_of_mem _ _ _ fun e he t => ?_
  split
  · exact h _ (List.fst_mem_of_mem_zipIdx he) t
  · rfl
theorem planCmds_mem {party : Party} {p : Nat} {f : State → State} (h : f ∈ planCmds party p) (t : State) : (f t).mem = t.mem := by
  simp only [planCmds, List.mem_cons, List.not_mem_nil, or_false] at h
  rcases h with rfl | rfl | rfl | rfl | rfl | rfl | rfl <;> simp
@[simp] theorem State.writePlanCtrl_mem (s : State) (party p v) : (s.writePlanCtrl party p v).mem = s.mem := by
  rw [State.writePlanCtrl, State.bitCmds_mem _ _ _ fun _ hf t => planCmds_mem hf t]
  simp
@[simp] theorem State.writePlan_mem (s : State) (party a r v) : (s.writePlan party a r v).mem = s.mem := by
  unfold State.writePlan; split <;> simp
@[simp] theorem State.armRun_mem (s : State) (party x2) : (s.armRun party x2).mem = s.mem := by unfold State.armRun; (repeat' split) <;> simp
@[simp] theorem State.writeArm_mem (s : State) (party r v) : (s.writeArm party r v).mem = s.mem := by unfold State.writeArm; split <;> simp
@[simp] theorem State.writeFlags_mem (s : State) (r v) : (s.writeFlags r v).mem = s.mem := by simp [State.writeFlags]
@[simp] theorem State.writeCore_mem (s : State) (party a r v) : (s.writeCore party a r v).mem = s.mem := by
  unfold State.writeCore; split <;> simp
@[simp] theorem State.writeSpad_mem (s : State) (party a r v) : (s.writeSpad party a r v).mem = s.mem := by
  unfold State.writeSpad; split <;> simp
@[simp] theorem State.writeLinkCtrl_mem (s : State) (r v) : (s.writeLinkCtrl r v).mem = s.mem := by
  unfold State.writeLinkCtrl
  rw [State.bitCmds_mem _ _ _ (by simp)]
  simp
@[simp] theorem State.writePort_mem (s : State) (party a r v) : (s.writePort party a r v).mem = s.mem := by simp [State.writePort]
@[simp] theorem State.writeRoute_mem (s : State) (party a r v) : (s.writeRoute party a r v).mem = s.mem := by
  unfold State.writeRoute; (repeat' split) <;> simp
@[simp] theorem State.writeTime_mem (s : State) (party r v) : (s.writeTime party r v).mem = s.mem := by
  unfold State.writeTime
  split
  case h_7 => exact State.after_mem _ _ (State.holdLow_mem ..)
  case h_8 => exact State.after_mem _ _ (State.holdLow_mem ..)
  all_goals simp
@[simp] theorem State.writeHbm_mem (s : State) (party r v) : (s.writeHbm party r v).mem = s.mem := by simp [State.writeHbm]
@[simp] theorem State.replWhileWriting_mem (s : State) (party r v) : (s.replWhileWriting party r v).mem = s.mem := by
  simp [State.replWhileWriting]
@[simp] theorem State.writeRepl_mem (s : State) (party a r v) : (s.writeRepl party a r v).mem = s.mem := by simp [State.writeRepl]
@[simp] theorem State.writePlinth_mem (s : State) (party a r v) : (s.writePlinth party a r v).mem = s.mem := by
  unfold State.writePlinth; split <;> simp
@[simp] theorem State.writeSrv_mem (s : State) (party r v) : (s.writeSrv party r v).mem = s.mem := by
  unfold State.writeSrv; (repeat' split) <;> simp
@[simp] theorem State.writeQueue_mem (s : State) (party a r v) : (s.writeQueue party a r v).mem = s.mem := by
  unfold State.writeQueue; split <;> simp
@[simp] theorem State.writePower_mem (s : State) (party r v) : (s.writePower party r v).mem = s.mem := by
  unfold State.writePower; split <;> simp
@[simp] theorem State.writeObs_mem (s : State) (party a r v) : (s.writeObs party a r v).mem = s.mem := by unfold State.writeObs; split <;> simp
@[simp] theorem State.writeObsPart_mem (s : State) (party a r v) : (s.writeObsPart party a r v).mem = s.mem := by
  unfold State.writeObsPart; (repeat' split) <;> simp
@[simp] theorem State.writeDump_mem (s : State) (party a r v) : (s.writeDump party a r v).mem = s.mem := by
  unfold State.writeDump; split <;> simp
@[simp] theorem State.writeLow_mem (s : State) (party a r v) : (s.writeLow party a r v).mem = s.mem := by simp [State.writeLow]
@[simp] theorem State.writeReg_mem (s : State) (party a r v) : (s.writeReg party a r v).mem = s.mem := by
  unfold State.writeReg; (repeat' split) <;> simp
@[simp] theorem State.writeAt_mem (s : State) (party a v) : (s.writeAt party a v).mem = s.mem := by unfold State.writeAt; split <;> simp
@[simp] theorem State.tiePlanCtrl_mem (s : State) (hp p h m) : (s.tiePlanCtrl hp p h m).mem = s.mem := by
  refine (foldl_mem_of_mem _ _ _ fun e he t => ?_).trans (State.after_mem _ _ (execPlanSettingWrite_keeps ..))
  obtain ⟨ha, hb⟩ := List.of_mem_zip (List.fst_mem_of_mem_zipIdx he)
  dsimp only
  split
  · rfl
  · split
    · exact (planCmds_mem hb _).trans (planCmds_mem ha t)
    · exact planCmds_mem ha t
@[simp] theorem State.tieArm_mem (s : State) (hp h m) : (s.tieArm hp h m).mem = s.mem := by unfold State.tieArm; split <;> simp
@[simp] theorem State.tieSleeve_mem (s : State) (r h m) : (s.tieSleeve r h m).mem = s.mem := by simp [State.tieSleeve]
@[simp] theorem State.bothWrite_mem (s : State) (hp a r h m) : (s.bothWrite hp a r h m).mem = s.mem := by unfold State.bothWrite; split <;> simp
@[simp] theorem State.hwSets_mem (s : State) (r sets) : (s.hwSets r sets).mem = s.mem := by simp [State.hwSets]
@[simp] theorem State.writeTied_mem (s : State) (party a r v also) : (s.writeTied party a r v also).mem = s.mem := by
  unfold State.writeTied; split <;> simp
@[simp] theorem State.writeKind_mem (s : State) (party a v kind also) : (s.writeKind party a v kind also).mem = s.mem := by
  unfold State.writeKind; split <;> simp
@[simp] theorem State.msixWrite_mem (s : State) (k v) : (s.msixWrite k v).mem = s.mem := by simp [State.msixWrite]
@[simp] theorem execRegisterWrite_keeps (party bar2 off v) (s : State) (also) : KeepsMem s (execRegisterWrite party bar2 off v s also) := by
  unfold execRegisterWrite
  split <;> simp
@[simp] theorem execPairLoWrite_keeps (party bar2 off v) (s : State) (hi) : KeepsMem s (execPairLoWrite party bar2 off v s hi) := by
  unfold execPairLoWrite; split <;> simp
@[simp] theorem State.proxyRead_mem (s : State) (b off) : (s.proxyRead b off).mem = s.mem := by simp [State.proxyRead]
@[simp] theorem State.proxyWrite_mem (s : State) (b off v) : (s.proxyWrite b off v).mem = s.mem := by simp [State.proxyWrite]

/-! ### Machine/Tick.lean -/

@[simp] theorem State.passTimer_mem (s : State) (ns p) : (s.passTimer ns p).mem = s.mem := by simp [State.passTimer]
@[simp] theorem State.passHold_mem (s : State) (ns p) : (s.passHold ns p).mem = s.mem := by simp [State.passHold]
@[simp] theorem State.passTokens_mem (s : State) (ns p) : (s.passTokens ns p).mem = s.mem := by simp [State.passTokens]
@[simp] theorem State.passBuild_mem (s : State) (ns p) : (s.passBuild ns p).mem = s.mem := by simp [State.passBuild]
@[simp] theorem State.passAbort_mem (s : State) (p) : (s.passAbort p).mem = s.mem := by
  unfold State.passAbort; dsimp only; (repeat' split) <;> simp
@[simp] theorem State.passPart_mem (s : State) (ns p) : (s.passPart ns p).mem = s.mem := by simp [State.passPart]
@[simp] theorem State.passPort_mem (s : State) (ns n) : (s.passPort ns n).mem = s.mem := by unfold State.passPort; split <;> simp

end Sys2Proof.Machine
end

section
/-! PROOFS. What writes the memories keeps their canonical form (05 R149, 11 R355, 12 R374), from the operations of Laws/Memory.lean upward. -/
namespace Sys2Proof.Machine
open Sys2Proof

@[simp] theorem ite_wf (c : Prop) [Decidable c] (a b : Memory) : (if c then a else b).wf = if c then a.wf else b.wf := apply_ite ..
theorem wf_of_mem {s t : State} (h : t.mem = s.mem) (w : s.mem.wf = true) : t.mem.wf = true := h ▸ w
theorem memWf_of_mem {s t : State} (h : t.mem = s.mem) (w : s.memWf = true) : t.memWf = true := wf_of_mem h w
theorem foldl_wf {β : Type} (f : State → β → State) (h : ∀ s b, s.mem.wf = true → (f s b).mem.wf = true) (l : List β) (s : State)
    (w : s.mem.wf = true) : (l.foldl f s).mem.wf = true := foldl_memWf f h l s w

theorem foldl_fst_wf {β : Type} (f : State × Nat → β → State × Nat) (h : ∀ a b, a.1.mem.wf = true → (f a b).1.mem.wf = true) (l : List β)
    (a : State × Nat) (w : a.1.mem.wf = true) : (l.foldl f a).1.mem.wf = true := by
  induction l generalizing a with
  | nil => exact w
  | cons b t ih => exact ih _ (h a b w)

section
variable (s : State) (w : s.mem.wf = true)
include w

@[simp] theorem State.hPut_wf (g v off data) : (s.hPut g v off data).mem.wf = true := State.hPut_memWf s g v off data w
@[simp] theorem State.hWrite_wf (g h off data) : (s.hWrite g h off data).1.mem.wf = true := State.hWrite_memWf s g h off data w
@[simp] theorem State.clearCores_wf (m) : (s.clearCores m).mem.wf = true := State.clearCores_memWf s m w
@[simp] theorem State.clearGroups_wf (m) : (s.clearGroups m).mem.wf = true := State.clearGroups_memWf s m w
@[simp] theorem State.hbmStore_wf (n b data skip) : (s.hbmStore n b data skip).mem.wf = true := State.hbmStore_memWf s n b data skip w
@[simp] theorem State.partHbmWrite_wf (p a data) : (s.partHbmWrite p a data).mem.wf = true := State.partHbmWrite_memWf s p a data w
@[simp] theorem State.eraseObj_wf (n) : (s.eraseObj n).mem.wf = true := State.eraseObj_memWf s n w

@[simp] theorem State.hbmTake_wf (n b data bad) : (s.hbmTake n b data bad).mem.wf = true := by simp [State.hbmTake, w]
@[simp] theorem State.partHbmPut_wf (p a data) : (s.partHbmPut p a data).mem.wf = true :=
  foldl_wf _ (fun t x h => by split; exacts [h, State.hbmStore_wf t h ..]) _ s w

/-! ### Arming and the operations of the units -/

@[simp] theorem State.armPhase_wf (k f) (h : ∀ i, (f i).mem.wf = true) : (s.armPhase k f).mem.wf = true := by
  unfold State.armPhase; split <;> simp [w, h]
@[simp] theorem State.armDrained_wf : s.armDrained.mem.wf = true :=
  State.armPhase_wf s w _ _ fun i => by simp [w]
@[simp] theorem State.runOp_wf (g id fam f) (h : ∀ o, (f s o).st.mem.wf = true) : (s.runOp g id fam f).mem.wf = true := by
  unfold State.runOp; split <;> simp [w, h]
@[simp] theorem State.checked_wf (g o shape f) (h : ∀ t, t.mem.wf = true → (f t).st.mem.wf = true) :
    (s.checked g o shape f).st.mem.wf = true := by
  simp [State.checked, h, w]
@[simp] theorem State.matmulBody_wf (g o fa fb cls) : (s.matmulBody g o fa fb cls).st.mem.wf = true := by
  simp [State.matmulBody, w]
@[simp] theorem State.matmulEffect_wf (g o) : (State.matmulEffect g s o).st.mem.wf = true := by
  unfold State.matmulEffect
  refine State.checked_wf s w _ _ _ _ fun t h => ?_
  split <;> simp [h]
@[simp] theorem State.attnBody_wf (g o fq fk fv) : (s.attnBody g o fq fk fv).st.mem.wf = true := by
  simp [State.attnBody, w]
@[simp] theorem State.attnEffect_wf (g o) : (State.attnEffect g s o).st.mem.wf = true := by
  unfold State.attnEffect
  refine State.checked_wf s w _ _ _ _ fun t h => ?_
  split <;> simp [h]
@[simp] theorem State.writeMx_wf (g o f vals) : (s.writeMx g o f vals).1.mem.wf = true := by
  unfold State.writeMx
  extract_lets +onlyGivenNames c rows done data flags w0
  have h := State.hWrite_wf s w g (arg o .dst) 0 data
  generalize s.hWrite g (arg o .dst) 0 data = r at h
  obtain ⟨t, e⟩ := r
  dsimp only at h ⊢
  split
  · exact h
  · refine foldl_fst_wf _ (fun acc r ha => ?_) _ (t, 0) h
    split
    · exact ha
    · have hc := wf_of_mem (State.consumeWords_mem acc.1 g (hWords (acc.1.handle g (arg o .hSC)) (r.2 * w0) 32)) ha
      split
      · exact hc
      · exact State.hWrite_wf _ hc ..
@[simp] theorem State.vecBody_wf (g o f) : (s.vecBody g o f).st.mem.wf = true := by
  simp [State.vecBody, w]
@[simp] theorem State.vecEffect_wf (g o) : (State.vecEffect g s o).st.mem.wf = true :=
  State.checked_wf s w _ _ _ _ fun t h => State.vecBody_wf t h ..
@[simp] theorem State.reduceBody_wf (g o fa f) : (s.reduceBody g o fa f).st.mem.wf = true := by
  simp [State.reduceBody, w]
@[simp] theorem State.reduceEffect_wf (g o) : (State.reduceEffect g s o).st.mem.wf = true := by
  unfold State.reduceEffect
  refine State.checked_wf s w _ _ _ _ fun t h => ?_
  split <;> simp [h]
@[simp] theorem State.sendOp_wf (p full ks after) (h : ∀ t, t.mem.wf = true → (after t).st.mem.wf = true) :
    (s.sendOp p full ks after).st.mem.wf = true := by
  simp [State.sendOp, h, w]
@[simp] theorem State.moveBody_wf (g full o) : (s.moveBody g full o).st.mem.wf = true := by
  unfold State.moveBody
  simp +contextual [w]
@[simp] theorem State.moveEffect_wf (g full o) : (State.moveEffect g full s o).st.mem.wf = true := by
  simp +contextual [State.moveEffect, w]
@[simp] theorem State.fillEffect_wf (g o) : (State.fillEffect g s o).st.mem.wf = true := by
  simp +contextual [State.fillEffect, w]
@[simp] theorem State.copyEffect_wf (g o) : (State.copyEffect g s o).st.mem.wf = true := by
  simp +contextual [State.copyEffect, w]

/-! ### Packets that arrive -/

@[simp] theorem State.atSleeve_wf (b k f) (h : (f s).mem.wf = true) : (s.atSleeve b k f).mem.wf = true := by
  simp [State.atSleeve, h, w]
theorem State.arriveAt_wf (b k f) (h : ∀ t, t.mem.wf = true → (f t).mem.wf = true) : (s.arriveAt b k f).mem.wf = true := by
  unfold State.arriveAt
  split
  · exact w
  split
  · simpa using w
  · exact State.atSleeve_wf _ (by simpa using w) _ _ _ (h _ (by simpa using w))
@[simp] theorem State.inCycle_wf (tied) : (s.inCycle tied).mem.wf = true := by simp [State.inCycle, w]
@[simp] theorem State.remoteWrite_wf (k) : (s.remoteWrite k).mem.wf = true := by
  unfold State.remoteWrite
  split <;> simp [w]
@[simp] theorem State.readResp_wf (k) : (s.readResp k).mem.wf = true := by
  unfold State.readResp
  split <;> simp [w]
@[simp] theorem State.poolRequest_wf (k) : (s.poolRequest k).mem.wf = true := by
  unfold State.poolRequest
  extract_lets +onlyGivenNames group core p die x a len n banks
  have ha : a.mem.wf = true := wf_of_mem (State.setPart_mem ..) w
  clear_value a
  have hb := wf_of_mem (State.poolMeetAll_mem a core k.tick banks) ha
  generalize a.poolMeetAll core k.tick banks = r at hb
  obtain ⟨t, c⟩ := r
  dsimp -zeta only at hb ⊢
  split
  · exact wf_of_mem (State.poolConflict_mem ..) hb
  · extract_lets +onlyGivenNames w0 e
    split
    · extract_lets +onlyGivenNames m u v z
      have hu : u.mem.wf = true := Memory.putPool_wf t.mem e k.data hb
      have hz : z.mem.wf = true := by
        refine foldl_wf _ (fun t x h => ?_) _ v hu
        exact h
      split <;> simp [hz]
    · simp [hb]
@[simp] theorem State.layerWritten_wf (data) : (s.layerWritten data).mem.wf = true := by
  change State.memWf _ = true
  unfold State.layerWritten
  extract_lets +onlyGivenNames n o
  split
  · exact w
  split
  · exact w
  · rename_i e he
    split
    · exact memWf_of_mem (State.plinthFail_mem ..) (State.eraseObj_wf s w n)
    · extract_lets +onlyGivenNames m t
      have ht : t.memWf = true := Memory.putPlinth_wf s.mem (plinthKey n e.off) data w
      split
      · exact memWf_of_mem ((State.plinthDone_mem ..).trans (State.setObj_keeps ..).2) ht
      · exact memWf_of_mem (State.setObj_keeps ..).2 ht
@[simp] theorem State.eraseDone_wf (n) : (s.eraseDone n).mem.wf = true := by simp [State.eraseDone, w]
@[simp] theorem State.replCopy_wf (p n) : (s.replCopy p n).mem.wf = true := by
  unfold State.replCopy
  extract_lets +onlyGivenNames r l
  split <;> simp [w]
@[simp] theorem State.replCopied_wf (p fixed bad) : (s.replCopied p fixed bad).mem.wf = true := by
  unfold State.replCopied
  extract_lets +onlyGivenNames dest t
  split
  · exact w
  split
  · simp [w]
  · have ht : t.mem.wf = true := by simp [t, w]
    clear_value t
    split
    · simp [ht]
    · extract_lets +onlyGivenNames l u r v
      have hv : v.mem.wf = true := by simp [v, u, ht]
      clear_value v
      simp [hv]
@[simp] theorem State.blockTableAck_wf (p seq ok) : (s.blockTableAck p seq ok).mem.wf = true := by
  unfold State.blockTableAck
  extract_lets +onlyGivenNames x
  split
  · exact w
  · extract_lets +onlyGivenNames n a
    split
    · simp [w]
    split
    · extract_lets +onlyGivenNames data t
      exact State.partHbmWrite_wf t w ..
    · simp [w]
@[simp] theorem State.rowDone_wf (k token) : (s.rowDone k token).mem.wf = true := by simp [State.rowDone, w]
@[simp] theorem State.sampleFor_wf (k y q f) : (s.sampleFor k y q f).mem.wf = true := by
  unfold State.sampleFor
  simp [w]
@[simp] theorem State.sampleRow_wf (k) : (s.sampleRow k).mem.wf = true := by
  unfold State.sampleRow
  extract_lets +onlyGivenNames p g x t
  have ht : t.mem.wf = true := w
  clear_value t
  (repeat' split) <;> simp [w, ht]

/-! ### The partition clear and the bindings -/

@[simp] theorem State.partClear_wf (p) : (s.partClear p).mem.wf = true := by simp [State.partClear, w]
@[simp] theorem State.clearDone_wf (p) : (s.clearDone p).mem.wf = true := by simp [State.clearDone, w]
@[simp] theorem State.thimbleClear_wf (p) : (s.thimbleClear p).mem.wf = true := by simp [State.thimbleClear, w]
@[simp] theorem State.endBinding_wf (p) : (s.endBinding p).mem.wf = true := by simp [State.endBinding, w]
@[simp] theorem State.endAllBindings_wf : s.endAllBindings.mem.wf = true :=
  foldl_wf _ (fun t x h => by split; exacts [State.endBinding_wf t h _, h]) _ s w
@[simp] theorem State.enterFa_wf : s.enterFa.mem.wf = true := by
  unfold State.enterFa
  extract_lets +onlyGivenNames others t u
  have ht : t.mem.wf = true := foldl_wf _ (fun t p h => State.thimbleClear_wf t h p) _ _ (State.endAllBindings_wf s w)
  clear_value t
  simp [u, ht]
@[simp] theorem State.operatorReset_wf : s.operatorReset.mem.wf = true := by simp [State.operatorReset, w]
@[simp] theorem State.tokenAction_wf (t) : (s.tokenAction t).mem.wf = true := by
  unfold State.tokenAction
  split
  · exact wf_of_mem (State.grantObserve_mem ..) w
  · exact wf_of_mem (State.grantDebug_mem ..) w
  · exact State.enterFa_wf s w
  · exact wf_of_mem (State.setOperator_mem ..) w
  · simp [w]
  · exact wf_of_mem (State.setPublishers_mem ..) w
  · exact wf_of_mem (State.applyPolicy_mem ..) w
  · exact wf_of_mem (State.setFld_mem ..) w
  · exact State.operatorReset_wf s w
  · exact w
@[simp] theorem State.runToken_wf (ch t) : (s.runToken ch t).mem.wf = true := by simp [State.runToken, w]
@[simp] theorem State.ask_wf (ch op f) (h : (f s).mem.wf = true) : (s.ask ch op f).mem.wf = true := by
  unfold State.ask; split <;> [exact w; split <;> simp [h, w]]
@[simp] theorem State.submitToken_wf (ch t fetched) : (s.submitToken ch t fetched).mem.wf = true := by
  unfold State.submitToken
  refine State.ask_wf s w _ _ _ ?_
  (repeat' split) <;> simp [w]
@[simp] theorem State.submitAs_wf (action ch t) : (s.submitAs action ch t).mem.wf = true := by simp [State.submitAs, w]
@[simp] theorem State.evict_wf (ch p) : (s.evict ch p).mem.wf = true := by
  unfold State.evict
  split <;> simp [w]
@[simp] theorem State.bindTo_wf (p tenant) : (s.bindTo p tenant).mem.wf = true := by
  change State.memWf _ = true
  unfold State.bindTo
  extract_lets +onlyGivenNames a b c h
  have ha : a.memWf = true := by
    unfold a
    split
    · exact State.thimbleClear_wf s w p
    · exact w
  have hb : b.memWf = true := memWf_of_mem ((State.setFld_mem ..).trans ((State.dropKgens_keeps ..).2.trans (State.drawHbmKey_mem ..))) ha
  have hc : c.memWf = true := memWf_of_mem ((State.setFld_mem ..).trans (State.setFld64_keeps ..).2) hb
  have hk (t : State) (x) : ({ t with thimble := x } : State).mem = t.mem := rfl
  exact memWf_of_mem ((State.setBit_keeps ..).2.trans (hk c _)) hc
@[simp] theorem State.bindPartition_wf (id p) : (s.bindPartition id p).mem.wf = true := by
  refine State.ask_wf s w _ _ _ ?_
  dsimp only
  (repeat' split) <;> simp [w]
@[simp] theorem State.unbind_wf (id p) : (s.unbind id p).mem.wf = true := by
  simp [State.unbind, State.askTenant, w]

/-! ### The stacks of HBM -/

@[simp] theorem State.servePkt_wf (k odecc) : (s.servePkt k odecc).mem.wf = true := by simp [State.servePkt, w]
@[simp] theorem State.serveHdm_wf (r) : (s.serveHdm r).mem.wf = true := by simp [State.serveHdm, w]
@[simp] theorem State.serveCopyIn_wf (q n b data) : (s.serveCopyIn q n b data).mem.wf = true := by simp [State.serveCopyIn, w]
@[simp] theorem State.serve_wf (a) : (s.serve a).mem.wf = true := by cases a <;> simp [State.serve, w]
omit w in
theorem State.drainAcc_wf (still l) (w : s.mem.wf = true) : (s.drainAcc still l).1.mem.wf = true := by
  induction l generalizing s still with
  | nil => exact w
  | cons a t ih =>
    unfold State.drainAcc
    split
    · exact ih _ _ (State.serve_wf s w a)
    · exact ih _ _ (by simpa using w)
@[simp] theorem State.drainStack_wf (n) : (s.drainStack n).mem.wf = true := by
  simp [State.drainStack, State.drainAcc_wf, w]
@[simp] theorem State.hbmAccess_wf (a) : (s.hbmAccess a).mem.wf = true := by simp [State.hbmAccess, w]
@[simp] theorem State.hdmRequest_wf (r) : (s.hdmRequest r).mem.wf = true := by simp [State.hdmRequest, w]
@[simp] theorem State.backInvResp_wf (n b data bad) : (s.backInvResp n b data bad).mem.wf = true := by simp [State.backInvResp, w]
@[simp] theorem State.refreshWindow_wf (n pc) : (s.refreshWindow n pc).mem.wf = true := by simp [State.refreshWindow, w]
@[simp] theorem State.stackFail_wf (n) : (s.stackFail n).mem.wf = true := by simp [State.stackFail, w]
@[simp] theorem State.rinseEnd_wf (n checks) : (s.rinseEnd n checks).mem.wf = true := by simp [State.rinseEnd, w]
@[simp] theorem State.copyIn_wf (q data) : (s.copyIn q data).mem.wf = true := by
  unfold State.copyIn
  split
  · exact w
  · rename_i c _
    have h : (s.beginCmd q c).mem.wf = true := by simp [w]
    extract_lets +onlyGivenNames code
    split
    · exact foldl_wf _ (fun t x h => State.hbmAccess_wf t h _) _ _ h
    · simp [w]
@[simp] theorem State.copyOut_wf (q) : (s.copyOut q).mem.wf = true := by
  unfold State.copyOut
  split
  · exact w
  · rename_i c _
    have h : (s.beginCmd q c).mem.wf = true := by simp [w]
    extract_lets +onlyGivenNames code
    split
    · exact foldl_wf _ (fun t x h => State.hbmAccess_wf t h _) _ _ h
    · simp [w]

/-! ### Power -/

@[simp] theorem State.powerOn_wf : s.powerOn.mem.wf = true := Memory.plinthOnly_wf _ w
@[simp] theorem State.offAo_wf : s.offAo.mem.wf = true := Memory.plinthOnly_wf _ w
@[simp] theorem State.dropAo_wf : s.dropAo.mem.wf = true := by simp [State.dropAo, w]
@[simp] theorem State.brownout_wf (lost) : (s.brownout lost).mem.wf = true := by simp [State.brownout, w]
@[simp] theorem State.openEfuse_wf : s.openEfuse.mem.wf = true := by simp [State.openEfuse, w]
@[simp] theorem State.reverse_wf : s.reverse.mem.wf = true := by simp [State.reverse, w]
@[simp] theorem State.efuseTrip_wf (aoPath) : (s.efuseTrip aoPath).mem.wf = true := by simp [State.efuseTrip, w]
@[simp] theorem State.removeRails_wf (f) : (s.removeRails f).mem.wf = true := by simp [State.removeRails, w]
@[simp] theorem State.powerCycle_wf (b seconds) : (s.powerCycle b seconds).mem.wf = true := by simp [State.powerCycle, w]
@[simp] theorem State.perstAssert_wf : s.perstAssert.mem.wf = true := by simp [State.perstAssert, w]
@[simp] theorem State.settle_wf (st) : (s.settle st).mem.wf = true := by
  unfold State.settle
  split
  · simp [w]
  split
  · extract_lets +onlyGivenNames t
    have ht : t.mem.wf = true := foldl_wf _ (fun t x h => by split <;> simp [h]) _ _ (by simp [w])
    clear_value t
    simp [ht]
  · extract_lets +onlyGivenNames t
    have ht : t.mem.wf = true := State.dropAo_wf s w
    clear_value t
    exact wf_of_mem (foldl_mem _ (fun _ _ => State.setFld_mem ..) _ _) ht
@[simp] theorem State.moveDone_wf : s.moveDone.mem.wf = true := by simp [State.moveDone, w]
@[simp] theorem State.railTimeout_wf : s.railTimeout.mem.wf = true := by simp [State.railTimeout, w]
@[simp] theorem State.bringSram_wf : s.bringSram.mem.wf = true := by simp [State.bringSram, w]
@[simp] theorem State.bringStacks_wf (failed) : (s.bringStacks failed).mem.wf = true := by
  unfold State.bringStacks
  extract_lets +onlyGivenNames t
  have ht : t.mem.wf = true := by simp [t, w]
  clear_value t
  exact wf_of_mem (State.setChannels_mem ..) (foldl_wf _ (fun t x h => by split <;> simp [h]) _ _ ht)
@[simp] theorem State.bringState_wf : s.bringState.mem.wf = true := by simp [State.bringState, w]
@[simp] theorem State.bringUp_wf (k storeBad edges untrained) : (s.bringUp k storeBad edges untrained).mem.wf = true := by
  unfold State.bringUp
  split
  · exact w
  · simp only [State.setPower_mem]
    split <;> simp [w]
@[simp] theorem State.onDomain_wf (k f) : (s.onDomain k f).mem.wf = true := by simp [State.onDomain, w]
@[simp] theorem State.thermalTrip_wf (input) : (s.thermalTrip input).mem.wf = true := by simp [State.thermalTrip, w]
@[simp] theorem State.tempSample_wf (temps) : (s.tempSample temps).mem.wf = true := by simp [State.tempSample, w]
@[simp] theorem State.postReset_wf (b) : (s.postReset b).mem.wf = true := by simp [State.postReset, w]
@[simp] theorem State.sleeveEnd_wf : s.sleeveEnd.mem.wf = true := by simp [State.sleeveEnd, w]
@[simp] theorem State.idle_wf : s.idle.mem.wf = true := by
  unfold State.idle
  split
  · exact w
  · extract_lets +onlyGivenNames ns a b c d
    have ha : a.mem.wf = true := wf_of_mem (State.passGates_mem _) w
    clear_value a
    have hc : c.mem.wf = true := by simp [c, b, ha]
    clear_value b c
    have hd : d.mem.wf = true := foldl_wf _ (fun t x h => State.drainStack_wf t h _) _ _ hc
    clear_value d
    split <;> simp [hd]
end

end Sys2Proof.Machine
end

section
/-! PROOFS. Every step keeps the memories in canonical form: one line for each command, by what its outcome leaves alone or writes. -/
namespace Sys2Proof.Machine
open Sys2Proof

/-- The next state that an outcome names, if any, has its memories in canonical form. -/
def KeepsWf : Host.Outcome State Fault Refusal → Prop
  | .next t => t.memWf = true
  | .fault _ | .refused _ => True

theorem KeepsMem.keepsWf {s : State} {o : Host.Outcome State Fault Refusal} (h : KeepsMem s o) (w : s.memWf = true) : KeepsWf o := by
  cases o with
  | next t => exact memWf_of_mem h w
  | fault f => trivial
  | refused r => trivial

theorem execSampleRowReceive_wf (s : State) (w : s.mem.wf = true) (k : Pkt) (tied : Bool) : KeepsWf (execSampleRowReceive k s tied) := by
  unfold execSampleRowReceive
  change (State.mem (ite ..)).wf = true
  split
  · exact w
  · have h : ((s.inCycle tied).progress k.part).mem.wf = true := by simp [w]
    exact State.atSleeve_wf _ h _ _ _ (State.sampleRow_wf _ h _)
theorem execWatchdogExpire_wf (s : State) (w : s.mem.wf = true) : KeepsWf (execWatchdogExpire s) := by
  simp [execWatchdogExpire, KeepsWf, State.memWf, w]
theorem execOvervoltageTrip_wf (s : State) (w : s.mem.wf = true) : KeepsWf (execOvervoltageTrip s) := by
  simp [execOvervoltageTrip, KeepsWf, State.memWf, w]

/-- Each command either leaves the memories alone or writes them by operations that keep the canonical form. -/
theorem exec_keepsWf (i : Instr) (s : State) (w : s.memWf = true) : KeepsWf (exec i s) :=
  match i with
  | .registerWrite .. => KeepsMem.keepsWf (execRegisterWrite_keeps ..) w
  | .pairLoRead .. => KeepsMem.keepsWf (execPairLoRead_keeps ..) w
  | .pairLoWrite .. => KeepsMem.keepsWf (execPairLoWrite_keeps ..) w
  | .pairHiWrite .. => KeepsMem.keepsWf (State.writeKind_mem ..) w
  | .rcCounterRead .. => KeepsMem.keepsWf (execRcCounterRead_keeps ..) w
  | .tickComplete .. => KeepsMem.keepsWf (execTickComplete_keeps ..) w
  | .tickGrant .. => KeepsMem.keepsWf (execTickGrant_keeps ..) w
  | .reportReceive .. => KeepsMem.keepsWf (execReportReceive_keeps ..) w
  | .holdReceive .. => KeepsMem.keepsWf (execHoldReceive_keeps ..) w
  | .releaseReceive .. => KeepsMem.keepsWf (execReleaseReceive_keeps ..) w
  | .holdEntryExpire .. => KeepsMem.keepsWf (execHoldEntryExpire_keeps ..) w
  | .faultStopReceive .. => KeepsMem.keepsWf (execFaultStopReceive_keeps ..) w
  | .planCtrlArm .. => KeepsMem.keepsWf (execPlanCtrlArm_keeps ..) w
  | .planCtrlStartNow .. => KeepsMem.keepsWf (execPlanCtrlStartNow_keeps ..) w
  | .planStartTimeReached .. => KeepsMem.keepsWf (execPlanStartTimeReached_keeps ..) w
  | .planCtrlStop .. => KeepsMem.keepsWf (execPlanCtrlStop_keeps ..) w
  | .planCtrlAbort .. => KeepsMem.keepsWf (execPlanCtrlAbort_keeps ..) w
  | .planCtrlResume .. => KeepsMem.keepsWf (execPlanCtrlResume_keeps ..) w
  | .planCtrlClear .. => KeepsMem.keepsWf (execPlanCtrlClear_keeps ..) w
  | .planCtrlUnload .. => KeepsMem.keepsWf (execPlanCtrlUnload_keeps ..) w
  | .hemDepthWrite .. => KeepsMem.keepsWf (execHemDepthWrite_keeps ..) w
  | .planSettingWrite .. => KeepsMem.keepsWf (execPlanSettingWrite_keeps ..) w
  | .holdTimeoutExpire .. => KeepsMem.keepsWf (State.holdTimeoutExpire_mem ..) w
  | .powerTokensRecompute => KeepsMem.keepsWf (State.setFld_mem ..) w
  | .tokenGrant .. => KeepsMem.keepsWf (execTokenGrant_keeps ..) w
  | .armCtrlStage .. => KeepsMem.keepsWf (execArmCtrlStage_keeps ..) w
  | .armVerifyComplete .. => KeepsMem.keepsWf (State.armVerify_mem ..) w
  | .armCtrlDiscard .. => KeepsMem.keepsWf (execArmCtrlDiscard_keeps ..) w
  | .armCtrlApply .. => KeepsMem.keepsWf (execArmCtrlApply_keeps ..) w
  | .armDrainDone => State.armDrained_wf s w ..
  | .armDrainTimeout => KeepsMem.keepsWf (execArmDrainTimeout_keeps ..) w
  | .armShadowCheckDone .. => KeepsMem.keepsWf (State.armShadow_mem ..) w
  | .armSharedSwitch => KeepsMem.keepsWf (execArmSharedSwitch_keeps ..) w
  | .armCommit => KeepsMem.keepsWf (State.armCommit_mem ..) w
  | .scalar .. => KeepsMem.keepsWf (State.cpScalar_mem ..) w
  | .readSc .. => KeepsMem.keepsWf (State.cpRead_mem ..) w
  | .fetch .. => KeepsMem.keepsWf (State.cpFetch_mem ..) w
  | .skip .. => KeepsMem.keepsWf (State.cpSkip_mem ..) w
  | .loop .. => KeepsMem.keepsWf (State.cpLoop_mem ..) w
  | .endloop .. => KeepsMem.keepsWf (State.cpEndloop_mem ..) w
  | .issue .. => KeepsMem.keepsWf (State.cpIssue_mem ..) w
  | .tick .. => KeepsMem.keepsWf (State.cpTick_mem ..) w
  | .mark .. => KeepsMem.keepsWf (State.cpMark_mem ..) w
  | .fin .. => KeepsMem.keepsWf (State.cpEnd_mem ..) w
  | .macroOpStart .. => KeepsMem.keepsWf ((State.macroOpStart_keeps ..).2) w
  | .matmul .. => State.runOp_wf s w _ _ _ _ fun _ => State.matmulEffect_wf s w ..
  | .attn .. => State.runOp_wf s w _ _ _ _ fun _ => State.attnEffect_wf s w ..
  | .vec .. => State.runOp_wf s w _ _ _ _ fun _ => State.vecEffect_wf s w ..
  | .reduce .. => State.runOp_wf s w _ _ _ _ fun _ => State.reduceEffect_wf s w ..
  | .sample .. => KeepsMem.keepsWf (execSample_keeps ..) w
  | .move .. => State.runOp_wf s w _ _ _ _ fun _ => State.moveEffect_wf s w ..
  | .fill .. => State.runOp_wf s w _ _ _ _ fun _ => State.fillEffect_wf s w ..
  | .copy .. => State.runOp_wf s w _ _ _ _ fun _ => State.copyEffect_wf s w ..
  | .give .. => KeepsMem.keepsWf (execGive_keeps ..) w
  | .take .. => KeepsMem.keepsWf (execTake_keeps ..) w
  | .wait .. => KeepsMem.keepsWf (execWait_keeps ..) w
  | .takeSatisfied .. => KeepsMem.keepsWf (execTakeSatisfied_keeps ..) w
  | .barrier .. => KeepsMem.keepsWf (execBarrier_keeps ..) w
  | .macroOpComplete .. => KeepsMem.keepsWf (State.macroOpComplete_mem ..) w
  | .prmWrite .. => KeepsMem.keepsWf (State.prmWrite_mem ..) w
  | .arithTrapWrite .. => KeepsMem.keepsWf (State.arithTrapWrite_mem ..) w
  | .brkRegWrite .. => KeepsMem.keepsWf (State.brkWrite_mem ..) w
  | .spadScrubRead .. => KeepsMem.keepsWf (State.spadScrub_mem ..) w
  | .spadCorrectionWriteback .. => KeepsMem.keepsWf (State.spadWriteback_mem ..) w
  | .handleEntryCommit .. => KeepsMem.keepsWf (State.handleCommit_mem ..) w
  | .windowEntryCommit .. => KeepsMem.keepsWf (State.windowCommit_mem ..) w
  | .remoteWriteArrive .. => State.arriveAt_wf _ (State.inCycle_wf s w _) _ _ _ fun t h => State.remoteWrite_wf t h _
  | .remoteReadArrive .. => KeepsMem.keepsWf (execRemoteReadArrive_keeps ..) w
  | .readRespArrive .. => State.arriveAt_wf _ (State.inCycle_wf s w _) _ _ _ fun t h => State.readResp_wf t h _
  | .errorRespArrive .. => KeepsMem.keepsWf (execErrorRespArrive_keeps ..) w
  | .memoryAckArrive .. => KeepsMem.keepsWf (execMemoryAckArrive_keeps ..) w
  | .spadRecoveryWrite .. => KeepsMem.keepsWf (State.recoveryWrite_mem ..) w
  | .sideReadGo .. => KeepsMem.keepsWf (State.sideGo_mem ..) w
  | .sideReadDone => KeepsMem.keepsWf (State.sideDone_mem ..) w
  | .poolRequestArrive .. => foldl_wf _ (fun t _ h => State.arriveAt_wf t h _ _ _ fun u hu => State.poolRequest_wf u hu _) _ s w
  | .poolScrubRead .. => KeepsMem.keepsWf (State.poolScrub_mem ..) w
  | .partitionClearStart .. => KeepsMem.keepsWf (State.clearStart_mem ..) w
  | .partitionClearDone .. => State.clearDone_wf s w ..
  | .syncDeclCommit .. => KeepsMem.keepsWf (State.syncDeclCommit_mem ..) w
  | .givePacketArrive .. => KeepsMem.keepsWf (execGivePacketArrive_keeps ..) w
  | .barArriveReceive .. => KeepsMem.keepsWf (execBarArriveReceive_keeps ..) w
  | .barReleaseReceive .. => KeepsMem.keepsWf (execBarReleaseReceive_keeps ..) w
  | .barRanksWrite .. => KeepsMem.keepsWf (State.barRanksWrite_mem ..) w
  | .barrierMemberWrite .. => KeepsMem.keepsWf (State.barrierMemberWrite_mem ..) w
  | .fabricPacketReceive .. => KeepsMem.keepsWf (State.fabReceive_mem ..) w
  | .edgeRetry .. => KeepsMem.keepsWf ((State.addFld_keeps ..).2) w
  | .edgeModuleFail .. => KeepsMem.keepsWf (State.edgeFail_mem ..) w
  | .frameSend .. => KeepsMem.keepsWf (State.frameSend_mem ..) w
  | .frameReceive .. => KeepsMem.keepsWf (State.frameReceive_mem ..) w
  | .replayTimerExpire .. => KeepsMem.keepsWf (State.replayTimer_mem ..) w
  | .retrainComplete .. => KeepsMem.keepsWf (State.retrainDone_mem ..) w
  | .retrainTimeout .. => KeepsMem.keepsWf (execRetrainTimeout_keeps ..) w
  | .planCtlQueue .. => KeepsMem.keepsWf (State.queueCtl_mem ..) w
  | .linkMsgRepeat .. => KeepsMem.keepsWf (State.msgRepeat_mem ..) w
  | .darnReq .. => KeepsMem.keepsWf (execDarnReq_keeps ..) w
  | .darnStart .. => KeepsMem.keepsWf (execDarnStart_keeps ..) w
  | .darnAck .. => KeepsMem.keepsWf (execDarnAck_keeps ..) w
  | .darnDone .. => KeepsMem.keepsWf (execDarnDone_keeps ..) w
  | .undarnStart .. => KeepsMem.keepsWf (execUndarnStart_keeps ..) w
  | .undarnAck .. => KeepsMem.keepsWf (execUndarnAck_keeps ..) w
  | .undarnDone .. => KeepsMem.keepsWf (execUndarnDone_keeps ..) w
  | .halfStart .. => KeepsMem.keepsWf (execHalfStart_keeps ..) w
  | .halfAck .. => KeepsMem.keepsWf (execHalfAck_keeps ..) w
  | .rttProbe .. => KeepsMem.keepsWf (execRttProbe_keeps ..) w
  | .rttEcho .. => KeepsMem.keepsWf (execRttEcho_keeps ..) w
  | .laneFail .. => KeepsMem.keepsWf (State.laneFail_mem ..) w
  | .darnSwitch .. => KeepsMem.keepsWf (State.darnSwitch_mem ..) w
  | .undarnTimeout .. => KeepsMem.keepsWf (State.undarnTimeout_mem ..) w
  | .calCycleStart .. => KeepsMem.keepsWf (State.calStart_mem ..) w
  | .calDwellDone .. => KeepsMem.keepsWf (State.calDwell_mem ..) w
  | .detectDwellExpire .. => KeepsMem.keepsWf (execDetectDwellExpire_keeps ..) w
  | .detectPatternHeard .. => KeepsMem.keepsWf (execDetectPatternHeard_keeps ..) w
  | .lanesLocked .. => KeepsMem.keepsWf (State.lanesLocked_mem ..) w
  | .identityBlockReceive .. => KeepsMem.keepsWf (State.identityBlock_mem ..) w
  | .portStatementReceive .. => KeepsMem.keepsWf (State.portStatement_mem ..) w
  | .portAlignDone .. => KeepsMem.keepsWf (State.alignDone_mem ..) w
  | .trainTimeout .. => KeepsMem.keepsWf (execTrainTimeout_keeps ..) w
  | .lossOfSignal .. => KeepsMem.keepsWf (execLossOfSignal_keeps ..) w
  | .downTimerExpire .. => KeepsMem.keepsWf (execDownTimerExpire_keeps ..) w
  | .linkEnable .. => KeepsMem.keepsWf (execLinkEnable_keeps ..) w
  | .linkDisable .. => KeepsMem.keepsWf (execLinkDisable_keeps ..) w
  | .linkRetrain .. => KeepsMem.keepsWf (execLinkRetrain_keeps ..) w
  | .linkFullTrain .. => KeepsMem.keepsWf (execLinkFullTrain_keeps ..) w
  | .linkAcceptPeer .. => KeepsMem.keepsWf (execLinkAcceptPeer_keeps ..) w
  | .ingressDeliver .. => KeepsMem.keepsWf (State.ingressDeliver_mem ..) w
  | .transitForwardStart .. => KeepsMem.keepsWf (State.forward_mem ..) w
  | .egressPacketSend .. => KeepsMem.keepsWf (execEgressPacketSend_keeps ..) w
  | .slotCtrlActivate .. => KeepsMem.keepsWf (State.slotActivate_mem ..) w
  | .slotCtrlDrain .. => KeepsMem.keepsWf (State.slotDrain_mem ..) w
  | .slotCtrlClose .. => KeepsMem.keepsWf (State.slotClose_mem ..) w
  | .slotCtrlSwitchArm .. => KeepsMem.keepsWf (State.switchArm_mem ..) w
  | .slotCtrlSwitchAbort .. => KeepsMem.keepsWf (State.switchAbort_mem ..) w
  | .slotDrained .. => KeepsMem.keepsWf (State.drainedCheck_mem ..) w
  | .epochSwitchStart .. => KeepsMem.keepsWf (State.switchStart_mem ..) w
  | .epochSwitchComplete .. => KeepsMem.keepsWf (State.switchDone_mem ..) w
  | .routeTblHoldWrite .. => KeepsMem.keepsWf (State.tblHold_mem ..) w
  | .routeTblCommit .. => KeepsMem.keepsWf (State.tblCommit_mem ..) w
  | .routeTblIndexWrite .. => KeepsMem.keepsWf (State.tblIndex_mem ..) w
  | .slotConfigWrite .. => KeepsMem.keepsWf (State.slotConfig_mem ..) w
  | .timeSyncWord .. => KeepsMem.keepsWf (State.syncWord_mem ..) w
  | .refLost .. => KeepsMem.keepsWf (State.refLost_mem ..) w
  | .refRequalified .. => KeepsMem.keepsWf (State.refRequalified_mem ..) w
  | .aoRefclkLost => KeepsMem.keepsWf (State.setFld_mem ..) w
  | .aoRelock => KeepsMem.keepsWf (State.setFld_mem ..) w
  | .pllUnlock => KeepsMem.keepsWf (State.pllUnlock_mem ..) w
  | .dieWake .. => KeepsMem.keepsWf (State.dieWake_mem ..) w
  | .dieWakeComplete .. => KeepsMem.keepsWf ((State.dieWoken_keeps ..).2) w
  | .clockStepRequest .. => KeepsMem.keepsWf ((State.requestStep_keeps ..).2) w
  | .clockStepSwitch .. => KeepsMem.keepsWf ((State.switchStep_keeps ..).2) w
  | .timeRateWrite .. => KeepsMem.keepsWf (State.rateWrite_mem ..) w
  | .timeStepWrite .. => KeepsMem.keepsWf (State.stepWrite_mem ..) w
  | .timeSOffsetHoldWrite .. => KeepsMem.keepsWf (State.holdLow_mem ..) w
  | .timeSOffsetCommit .. => KeepsMem.keepsWf (State.sOffsetCommit_mem ..) w
  | .timeWrap => KeepsMem.keepsWf (State.putSOffset_mem ..) w
  | .timePeriodElapse .. => KeepsMem.keepsWf (State.periodElapse_mem ..) w
  | .timeMark .. => KeepsMem.keepsWf (State.timeMark_mem ..) w
  | .txStamp .. => KeepsMem.keepsWf (State.txStamp_mem ..) w
  | .rxStamp .. => KeepsMem.keepsWf (State.rxStamp_mem ..) w
  | .announce .. => KeepsMem.keepsWf (State.announce_mem ..) w
  | .todA .. => KeepsMem.keepsWf (State.todAIn_mem ..) w
  | .todB .. => KeepsMem.keepsWf (State.todBIn_mem ..) w
  | .asym .. => KeepsMem.keepsWf (State.asymIn_mem ..) w
  | .asymMeasure .. => KeepsMem.keepsWf (State.asymMeasure_mem ..) w
  | .timeRoleOff => KeepsMem.keepsWf (State.roleOff_mem ..) w
  | .timeRoleGrandmaster => KeepsMem.keepsWf (State.roleGm_mem ..) w
  | .timeRoleFollower => KeepsMem.keepsWf (State.roleFollower_mem ..) w
  | .timeAcceptStep => KeepsMem.keepsWf (State.acceptStep_mem ..) w
  | .noParentTimeout => KeepsMem.keepsWf (State.noParent_mem ..) w
  | .parentLost => KeepsMem.keepsWf (State.parentLost_mem ..) w
  | .parentPrioritySwitch => KeepsMem.keepsWf (State.prioritySwitch_mem ..) w
  | .ppsInEdge => KeepsMem.keepsWf (State.ppsIn_mem ..) w
  | .ppsMissingTimeout => KeepsMem.keepsWf (State.ppsMissing_mem ..) w
  | .ppsOutRise => KeepsMem.keepsWf (State.ppsRise_mem ..) w
  | .ppsOutFall => KeepsMem.keepsWf (State.ppsFall_mem ..) w
  | .hbmWriteArrive .. => State.arriveAt_wf s w _ _ _ fun t h => State.hbmAccess_wf t h _
  | .hbmReadArrive .. => State.arriveAt_wf s w _ _ _ fun t h => State.hbmAccess_wf t h _
  | .hdmRequest .. => State.hdmRequest_wf s w ..
  | .backInvalidateResponse .. => State.backInvResp_wf s w ..
  | .refreshWindow .. => State.refreshWindow_wf s w ..
  | .hbmTempCross .. => KeepsMem.keepsWf (State.hbmTemp_mem ..) w
  | .rinseWindowStart .. => KeepsMem.keepsWf (State.rinseStart_mem ..) w
  | .rinseWindowEnd .. => State.rinseEnd_wf s w ..
  | .hbmScrubRead .. => KeepsMem.keepsWf (State.hbmScrub_mem ..) w
  | .hbmScrubWriteback .. => KeepsMem.keepsWf (State.hbmWriteback_mem ..) w
  | .hbmKeySwitch .. => KeepsMem.keepsWf (State.hbmKeySwitch_mem ..) w
  | .hdmModeWrite .. => KeepsMem.keepsWf (State.hdmMode_mem ..) w
  | .plinthUpkeepWindow .. => KeepsMem.keepsWf (State.upkeepWindow_mem ..) w
  | .plinthNonceRead .. => KeepsMem.keepsWf (State.nonceRead_mem ..) w
  | .plinthInstall .. => KeepsMem.keepsWf (State.plinthInstall_mem ..) w
  | .plinthLayerWritten .. => State.layerWritten_wf s w ..
  | .plinthDelete .. => KeepsMem.keepsWf (State.plinthDelete_mem ..) w
  | .plinthEraseDone .. => State.eraseDone_wf s w ..
  | .plinthAuditLayer .. => KeepsMem.keepsWf (State.auditLayer_mem ..) w
  | .bindCommit .. => KeepsMem.keepsWf (State.bindCommit_mem ..) w
  | .replCtrlArm .. => KeepsMem.keepsWf (State.replArm_mem ..) w
  | .replDescFetched .. => KeepsMem.keepsWf (State.replFetched_mem ..) w
  | .replStepBegin .. => KeepsMem.keepsWf (State.replStep_mem ..) w
  | .replLayerCopied .. => State.replCopied_wf s w ..
  | .replCtrlAbort .. => KeepsMem.keepsWf (State.replAbort_mem ..) w
  | .replCtrlFinish .. => KeepsMem.keepsWf (State.replFinish_mem ..) w
  | .reqDescriptorFetch .. => KeepsMem.keepsWf (State.reqFetch_mem ..) w
  | .srvAdmitThroughWrite .. => KeepsMem.keepsWf (State.admitThrough_mem ..) w
  | .srvCfgWrite .. => KeepsMem.keepsWf (State.srvCfg_mem ..) w
  | .srvKvWrite .. => KeepsMem.keepsWf (State.srvKv_mem ..) w
  | .slotBuild .. => KeepsMem.keepsWf (State.slotBuild_mem ..) w
  | .blockTableAck .. => State.blockTableAck_wf s w ..
  | .slotBankPublish .. => KeepsMem.keepsWf (State.publish_mem ..) w
  | .sampleRowReceive .. => execSampleRowReceive_wf s w ..
  | .missedSampleDetect .. => KeepsMem.keepsWf (State.missedSample_mem ..) w
  | .resultRecordWrite .. => KeepsMem.keepsWf (State.recordWrite_mem ..) w
  | .hostLinkTrain .. => KeepsMem.keepsWf (State.hostTrain_mem ..) w
  | .hotReset .. => KeepsMem.keepsWf (State.hotReset_mem ..) w
  | .configRequest .. => KeepsMem.keepsWf (State.configRequest_mem ..) w
  | .barAccessError .. => KeepsMem.keepsWf (execBarAccessError_keeps ..) w
  | .doorbellWrite .. => KeepsMem.keepsWf (execDoorbellWrite_keeps ..) w
  | .shadowWrite .. => KeepsMem.keepsWf (State.shadowWrite_mem ..) w
  | .queueEnable .. => KeepsMem.keepsWf (State.queueEnable_mem ..) w
  | .queueDisable .. => KeepsMem.keepsWf (State.queueDisable_mem ..) w
  | .qCfgWrite .. => KeepsMem.keepsWf (State.queueCfg_mem ..) w
  | .queueFetchDone .. => KeepsMem.keepsWf (State.fetchDone_mem ..) w
  | .nop .. => KeepsMem.keepsWf (State.nopCmd_mem ..) w
  | .loadFull .. => KeepsMem.keepsWf (State.loadFull_mem ..) w
  | .loadResident .. => KeepsMem.keepsWf (State.loadResident_mem ..) w
  | .copyIn .. => State.copyIn_wf s w ..
  | .copyOut .. => State.copyOut_wf s w ..
  | .resIrqTimer .. => KeepsMem.keepsWf (State.resTimer_mem ..) w
  | .doeRequest .. => KeepsMem.keepsWf (State.doeRequest_mem ..) w
  | .ideFailure .. => KeepsMem.keepsWf (State.ideFailure_mem ..) w
  | .hdmDecoderCommit .. => KeepsMem.keepsWf (execHdmDecoderCommit_keeps ..) w
  | .getTimestamp => KeepsMem.keepsWf (State.out_mem ..) w
  | .setTimestamp => KeepsMem.keepsWf (State.out_mem ..) w
  | .observe .. => State.submitAs_wf s w ..
  | .tenantDebug .. => State.submitAs_wf s w ..
  | .vendorFa .. => State.submitAs_wf s w ..
  | .replaceOperator .. => State.submitAs_wf s w ..
  | .enrolPublisher .. => State.submitAs_wf s w ..
  | .removePublisher .. => State.submitAs_wf s w ..
  | .setPolicy .. => State.submitAs_wf s w ..
  | .raiseArmSvn .. => State.submitAs_wf s w ..
  | .operatorReset .. => State.submitAs_wf s w ..
  | .enrolOperator .. => KeepsMem.keepsWf (State.enrolOperator_mem ..) w
  | .grantExpire .. => KeepsMem.keepsWf (State.grantExpire_mem ..) w
  | .endGrant .. => KeepsMem.keepsWf (State.endGrant_mem ..) w
  | .secNonceRead .. => KeepsMem.keepsWf (State.secNonceRead_mem ..) w
  | .getNonce .. => KeepsMem.keepsWf (State.getNonce_mem ..) w
  | .submitToken .. => State.submitToken_wf s w ..
  | .grantSession .. => KeepsMem.keepsWf (State.grantSession_mem ..) w
  | .evict .. => State.evict_wf s w ..
  | .bindPartition .. => State.bindPartition_wf s w ..
  | .unbind .. => State.unbind_wf s w ..
  | .setHbmKey .. => KeepsMem.keepsWf (State.setHbmKey_mem ..) w
  | .setJobKey .. => KeepsMem.keepsWf (State.setJobKey_mem ..) w
  | .switchKgen .. => KeepsMem.keepsWf (State.switchKgen_mem ..) w
  | .kgenSwitchTime .. => KeepsMem.keepsWf (State.kgenSwitchTime_mem ..) w
  | .clearKgen .. => KeepsMem.keepsWf (State.clearKgen_mem ..) w
  | .bindCkid .. => KeepsMem.keepsWf (State.bindCkid_mem ..) w
  | .bindQueues .. => KeepsMem.keepsWf (State.bindQueues_mem ..) w
  | .getKfloor .. => KeepsMem.keepsWf (State.getKfloor_mem ..) w
  | .getVersion .. => KeepsMem.keepsWf (State.spdm_mem ..) w
  | .getCapabilities .. => KeepsMem.keepsWf (State.spdm_mem ..) w
  | .negotiateAlgorithms .. => KeepsMem.keepsWf (State.spdm_mem ..) w
  | .getDigests .. => KeepsMem.keepsWf (execGetDigests_keeps ..) w
  | .getCertificate .. => KeepsMem.keepsWf (execGetCertificate_keeps ..) w
  | .challenge .. => KeepsMem.keepsWf (State.spdm_mem ..) w
  | .getMeasurements .. => KeepsMem.keepsWf (State.getMeasurements_mem ..) w
  | .keyExchange .. => KeepsMem.keepsWf (State.keyExchange_mem ..) w
  | .finishMsg .. => KeepsMem.keepsWf (State.finish_mem ..) w
  | .heartbeat .. => KeepsMem.keepsWf (execHeartbeat_keeps ..) w
  | .keyUpdate .. => KeepsMem.keepsWf (State.keyUpdate_mem ..) w
  | .endSession .. => KeepsMem.keepsWf (execEndSession_keeps ..) w
  | .chunkSend .. => KeepsMem.keepsWf (State.spdm_mem ..) w
  | .chunkGet .. => KeepsMem.keepsWf (State.spdm_mem ..) w
  | .spdmUnsupportedRequest .. => KeepsMem.keepsWf (State.spdm_mem ..) w
  | .mbxCtrlGo .. => KeepsMem.keepsWf (State.mbxGo_mem ..) w
  | .i3cDynamicAddress .. => KeepsMem.keepsWf (State.i3cAddress_mem ..) w
  | .i3cRstdaa .. => KeepsMem.keepsWf (State.i3cReset_mem ..) w
  | .busStuckLow .. => KeepsMem.keepsWf (State.busStuckLow_mem ..) w
  | .busIsolate .. => KeepsMem.keepsWf (State.busIsolate_mem ..) w
  | .busReturn .. => KeepsMem.keepsWf (State.busReturn_mem ..) w
  | .setEndpointId .. => KeepsMem.keepsWf (State.setEndpoint_mem ..) w
  | .getEndpointId .. => KeepsMem.keepsWf (execGetEndpointId_keeps ..) w
  | .getMctpVersionSupport .. => KeepsMem.keepsWf (execGetMctpVersionSupport_keeps ..) w
  | .getMessageTypeSupport .. => KeepsMem.keepsWf (execGetMessageTypeSupport_keeps ..) w
  | .getVendorDefinedMsgSupport .. => KeepsMem.keepsWf (execGetVendorDefinedMsgSupport_keeps ..) w
  | .mctpUnsupportedType .. => KeepsMem.keepsWf (execMctpUnsupportedType_keeps ..) w
  | .gettid .. => KeepsMem.keepsWf (execGettid_keeps ..) w
  | .getpldmversion .. => KeepsMem.keepsWf (execGetpldmversion_keeps ..) w
  | .getpldmtypes .. => KeepsMem.keepsWf (execGetpldmtypes_keeps ..) w
  | .getpldmcommands .. => KeepsMem.keepsWf (execGetpldmcommands_keeps ..) w
  | .getpdr .. => KeepsMem.keepsWf (execGetpdr_keeps ..) w
  | .fruDataRead .. => KeepsMem.keepsWf (execFruDataRead_keeps ..) w
  | .pollForPlatformEventMessage .. => KeepsMem.keepsWf (execPollForPlatformEventMessage_keeps ..) w
  | .readReg .. => KeepsMem.keepsWf (State.proxyRead_mem ..) w
  | .writeReg .. => KeepsMem.keepsWf (State.proxyWrite_mem ..) w
  | .takePlan .. => KeepsMem.keepsWf (State.takePlan_mem ..) w
  | .setPowerState .. => KeepsMem.keepsWf (State.setPowerState_mem ..) w
  | .powerStateMoveDone => State.moveDone_wf s w ..
  | .powerCycle .. => State.powerCycle_wf s w ..
  | .clearFault .. => KeepsMem.keepsWf (State.clearFault_mem ..) w
  | .getEvents .. => KeepsMem.keepsWf (execGetEvents_keeps ..) w
  | .sensorRefresh .. => KeepsMem.keepsWf (State.sensorRefresh_mem ..) w
  | .controlOwnerClaim .. => KeepsMem.keepsWf (State.claimPlan_mem ..) w
  | .powerCapWrite .. => KeepsMem.keepsWf (State.writeCap_mem ..) w
  | .powerEnvelopeWrite .. => KeepsMem.keepsWf (State.writeEnvelope_mem ..) w
  | .clockCapWrite .. => KeepsMem.keepsWf (State.writeClockCap_mem ..) w
  | .requestUpdate .. => KeepsMem.keepsWf (execRequestUpdate_keeps ..) w
  | .firmwareDataReceive .. => KeepsMem.keepsWf (State.fwReceive_mem ..) w
  | .firmwareTransferTimeout => KeepsMem.keepsWf (execFirmwareTransferTimeout_keeps ..) w
  | .cancelUpdate .. => KeepsMem.keepsWf (execCancelUpdate_keeps ..) w
  | .activateFirmware .. => KeepsMem.keepsWf (State.activate_mem ..) w
  | .thimbleRestartDone => KeepsMem.keepsWf (State.restartDone_mem ..) w
  | .watchdogRestart => KeepsMem.keepsWf (execWatchdogRestart_keeps ..) w
  | .watchdogExpire => execWatchdogExpire_wf s w
  | .inputBrownout .. => State.brownout_wf s w ..
  | .porRelease => KeepsMem.keepsWf (State.porRelease_mem ..) w
  | .inputLow .. => KeepsMem.keepsWf (execInputLow_keeps ..) w
  | .inputHigh .. => KeepsMem.keepsWf (execInputHigh_keeps ..) w
  | .overvoltageTrip => execOvervoltageTrip_wf s w
  | .reversePolarity => State.reverse_wf s w ..
  | .efuseTrip .. => State.efuseTrip_wf s w ..
  | .aoPathRetry .. => KeepsMem.keepsWf (execAoPathRetry_keeps ..) w
  | .senseOpen => KeepsMem.keepsWf (execSenseOpen_keeps ..) w
  | .senseRestore => KeepsMem.keepsWf (State.setFld_mem ..) w
  | .railInRegulation => KeepsMem.keepsWf (execRailInRegulation_keeps ..) w
  | .railTimeout => State.railTimeout_wf s w ..
  | .dieGateTimer .. => KeepsMem.keepsWf (State.dieGate_mem ..) w
  | .domainDisable .. => KeepsMem.keepsWf (State.domainDisable_mem ..) w
  | .domainEnable .. => State.onDomain_wf s w ..
  | .isolationComplete .. => State.onDomain_wf s w ..
  | .railFallen .. => State.onDomain_wf s w ..
  | .railOff .. => State.onDomain_wf s w ..
  | .domainWakeComplete .. => State.onDomain_wf s w ..
  | .tempSample .. => State.tempSample_wf s w ..
  | .perstAssert => State.perstAssert_wf s w ..
  | .perstRelease => KeepsMem.keepsWf (State.perstRelease_mem ..) w
  | .optionLoad .. => KeepsMem.keepsWf (State.optionLoad_mem ..) w
  | .bringUp .. => State.bringUp_wf s w ..
  | .sleeveGo .. => KeepsMem.keepsWf (State.sleeveGo_mem ..) w
  | .sleeveDrainTimeout => KeepsMem.keepsWf (State.sleeveDrain_mem ..) w
  | .sleeveResetDone => State.sleeveEnd_wf s w ..
  | .statusLineStuck .. => KeepsMem.keepsWf (State.lineStuck_mem ..) w
  | .obsCounterRead .. => KeepsMem.keepsWf (State.counterRead_mem ..) w
  | .aggPeriodLatch => KeepsMem.keepsWf (State.aggLatch_mem ..) w
  | .starchCtrlNow => KeepsMem.keepsWf (State.starchNow_mem ..) w
  | .starchCtrlArm => KeepsMem.keepsWf (State.starchArm_mem ..) w
  | .starchTimeReached => KeepsMem.keepsWf (State.starchTime_mem ..) w
  | .starchCtrlRelease => KeepsMem.keepsWf (State.starchRelease_mem ..) w
  | .starchDrainDone => KeepsMem.keepsWf (State.starchDrained_mem ..) w
  | .obsRecordWrite .. => KeepsMem.keepsWf (State.obsRecordWrite_mem ..) w
  | .obsRingCfgWrite .. => KeepsMem.keepsWf (State.obsRingWrite_mem ..) w
  | .obsRingCiWrite .. => KeepsMem.keepsWf (State.obsCiWrite_mem ..) w
  | .plasterDemand .. => KeepsMem.keepsWf (State.plasterDemand_mem ..) w
  | .plasterSend .. => KeepsMem.keepsWf (State.plasterSend_mem ..) w
  | .dumpCfgWrite .. => KeepsMem.keepsWf (State.dumpWrite_mem ..) w
  | .dumpTrigger .. => KeepsMem.keepsWf (State.dumpTrigger_mem ..) w
  | .dumpComplete .. => KeepsMem.keepsWf (State.dumpComplete_mem ..) w
  | .traceRecordSend .. => KeepsMem.keepsWf (State.traceSend_mem ..) w
  | .ndCtrlWrite .. => KeepsMem.keepsWf (State.ndCtrlWrite_mem ..) w
  | .retrainPatternReceive .. => KeepsMem.keepsWf (State.fastRetrain_mem ..) w
  | .heldIdlePatternEnd .. => KeepsMem.keepsWf (execHeldIdlePatternEnd_keeps ..) w
  | .plinthReadRequest .. => KeepsMem.keepsWf (execPlinthReadRequest_keeps ..) w
  | .commandComplete .. => KeepsMem.keepsWf (State.commandComplete_mem ..) w
  | .hiReadAdvance .. => KeepsMem.keepsWf (State.readKind_mem ..) w
  | .perstGlitch => KeepsMem.keepsWf (execPerstGlitch_keeps ..) w
  | .railsRestore => KeepsMem.keepsWf (execRailsRestore_keeps ..) w

/-- Settles O60: no command but those that write the memories by an operation of the layer above changes them, and with no command waiting
the cycle that passes may drain the stacks of HBM. -/
theorem memWfStep : Obligations.MemWfStep := by
  intro s t w h
  have hk : KeepsWf (step s) := by
    unfold step
    split
    · exact State.idle_wf s w
    · rename_i c rest _
      exact exec_keepsWf c { s with pending := rest } w
  rwa [h] at hk

end Sys2Proof.Machine
end

section
/-! PROOFS. Scrubbing, write-back and the partition clear (05 R155, R158, R180, R182, R183, Table 5.7). -/
namespace Sys2Proof.Machine
open Sys2Proof

/-! ### A word found bad, counted or corrected -/

@[simp] theorem State.badBytes_setFld (s : State) (f : Fld) (v i k g w : Nat) : (s.setFld f v i k).badBytes g w = s.badBytes g w := rfl

theorem State.badBytes_congr {s t : State} {g : Nat} (h : (t.core g).bad = (s.core g).bad) (w : Nat) : t.badBytes g w = s.badBytes g w := by
  rw [State.badBytes, h, State.badBytes]

theorem State.badBytes_findBad (s : State) (g w found : Nat) : (s.findBad g w found).badBytes g w = max (s.badBytes g w) found := by
  rw [State.findBad, State.badBytes, State.core_setCore_self, bankGet_bankSet_self]

theorem uncorrectable_iff (n : Nat) : uncorrectable n = true ↔ 3 ≤ n := decide_eq_true_iff

theorem correctable_iff (n : Nat) : correctable n = true ↔ 1 ≤ n ∧ n ≤ 2 := by
  simp only [correctable, Bool.or_eq_true, decide_eq_true_eq]
  omega

/-- Reading a good word counts nothing. -/
theorem State.readWordCount_good {s : State} {g w : Nat} (h : s.badBytes g w = 0) : s.readWordCount g w = s := by
  rw [State.readWordCount, h]
  rfl

/-- A core with the correction of a word waiting. -/
def Core.toCorrect (c : Core) (w : Nat) : Core :=
  { c with corrections := if c.corrections.contains w then c.corrections else c.corrections ++ [w] }

theorem Core.mem_toCorrect (c : Core) (w : Nat) : w ∈ (c.toCorrect w).corrections := by
  unfold Core.toCorrect
  split
  · rename_i h
    simpa using h
  · simp

/-- Reading a correctable word counts it and leaves its correction waiting (05 R155). -/
theorem State.readWordCount_correctable {s : State} {g w : Nat} (h : correctable (s.badBytes g w) = true) :
    s.readWordCount g w = (s.setCore g ((s.core g).toCorrect w)).addFld .SPAD_CE 1 g := if_pos h

theorem State.mem_corrections_readWordCount {s : State} {g w : Nat} (h : correctable (s.badBytes g w) = true) :
    w ∈ ((s.readWordCount g w).core g).corrections := by
  rw [State.readWordCount_correctable h, State.core_addFld, State.core_setCore_self]
  exact Core.mem_toCorrect ..

/-- Of the cores, reading a word changes only the reading core, and of it only the corrections that wait. -/
theorem State.core_readWordCount (s : State) (g w h : Nat) : ∃ l, (s.readWordCount g w).core h =
    if h = g then { s.core g with corrections := l } else s.core h := by
  by_cases hc : correctable (s.badBytes g w) = true
  · rw [State.readWordCount_correctable hc, State.core_addFld]
    refine ⟨((s.core g).toCorrect w).corrections, ?_⟩
    split
    · rename_i hg
      rw [hg, State.core_setCore_self]
      rfl
    · rename_i hg
      rw [State.core_setCore_ne _ _ hg]
  · rw [State.readWordCount, if_neg hc]
    refine ⟨(s.core g).corrections, ?_⟩
    split
    · rename_i hg
      rw [hg]
    · rfl

theorem State.badBytes_readWordCount (s : State) (g w h x : Nat) : (s.readWordCount g w).badBytes h x = s.badBytes h x := by
  obtain ⟨l, hl⟩ := s.core_readWordCount g w h
  refine State.badBytes_congr ?_ x
  rw [hl]
  split
  · rename_i hg
    rw [hg]
  · rfl

/-! ### The scrubber of a bank -/

/-- The row counter moved on and what the read found recorded: the state that the scrubber judges. -/
def State.scrubbed (s : State) (g b found : Nat) : State :=
  (s.setCore g { s.core g with scrub := bankSet 0 (s.core g).scrub b ((bankGet 0 (s.core g).scrub b + 1) % 1024) }).findBad g
    (b * 1024 + bankGet 0 (s.core g).scrub b) found

theorem State.spadScrub_eq {s : State} {g b : Nat} (h : s.sideUses g b = false) (found : Nat) :
    s.spadScrub g b found = if uncorrectable ((s.scrubbed g b found).badBytes g (b * 1024 + bankGet 0 (s.core g).scrub b))
      then (s.scrubbed g b found).noteUe g (b * 1024 + bankGet 0 (s.core g).scrub b)
      else (s.scrubbed g b found).readWordCount g (b * 1024 + bankGet 0 (s.core g).scrub b) := by
  rw [State.spadScrub, if_neg (by simp [h])]
  rfl

theorem State.core_scrubbed_self (s : State) (g b found : Nat) : (s.scrubbed g b found).core g = { s.core g with
    scrub := bankSet 0 (s.core g).scrub b ((bankGet 0 (s.core g).scrub b + 1) % 1024),
    bad := bankSet 0 (s.core g).bad (b * 1024 + bankGet 0 (s.core g).scrub b)
      (max (s.badBytes g (b * 1024 + bankGet 0 (s.core g).scrub b)) found) } := by
  rw [State.scrubbed, State.findBad, State.core_setCore_self]
  simp only [State.core_setCore_self, State.badBytes]

theorem State.core_scrubbed_ne (s : State) {g h : Nat} (hn : h ≠ g) (b found : Nat) : (s.scrubbed g b found).core h = s.core h := by
  rw [State.scrubbed, State.findBad, State.core_setCore_ne _ _ hn, State.core_setCore_ne _ _ hn]

theorem State.badBytes_scrubbed (s : State) (g b found : Nat) :
    (s.scrubbed g b found).badBytes g (b * 1024 + bankGet 0 (s.core g).scrub b) =
      max (s.badBytes g (b * 1024 + bankGet 0 (s.core g).scrub b)) found := by
  rw [State.badBytes, State.core_scrubbed_self, bankGet_bankSet_self]

/-- What the scrubber leaves, whichever way it judges the word: the row counter, the bytes that are bad, and the other cores. -/
theorem State.spadScrub_frame {s : State} {g b : Nat} (h : s.sideUses g b = false) (found : Nat) :
    bankGet 0 ((s.spadScrub g b found).core g).scrub b = (bankGet 0 (s.core g).scrub b + 1) % 1024 ∧
    (s.spadScrub g b found).badBytes g (b * 1024 + bankGet 0 (s.core g).scrub b) =
      max (s.badBytes g (b * 1024 + bankGet 0 (s.core g).scrub b)) found ∧
    s.spadScrub g b found = { s with regs := (s.spadScrub g b found).regs, cores := (s.spadScrub g b found).cores } ∧
    ∀ k, k ≠ g → (s.spadScrub g b found).core k = s.core k := by
  rw [State.spadScrub_eq h]
  generalize hw : b * 1024 + bankGet 0 (s.core g).scrub b = w
  have hbad : (s.scrubbed g b found).badBytes g w = max (s.badBytes g w) found := by
    rw [← hw]
    exact s.badBytes_scrubbed ..
  have hrow : bankGet 0 ((s.scrubbed g b found).core g).scrub b = (bankGet 0 (s.core g).scrub b + 1) % 1024 := by
    rw [State.core_scrubbed_self, bankGet_bankSet_self]
  have hs : s.scrubbed g b found = { s with cores := (s.scrubbed g b found).cores } := rfl
  have hother (k : Nat) (hk : k ≠ g) := State.core_scrubbed_ne s hk b found
  generalize s.scrubbed g b found = u at hbad hrow hs hother ⊢
  split
  · exact ⟨hrow, hbad, by rw [hs]; rfl, hother⟩
  · refine ⟨?_, (State.badBytes_readWordCount ..).trans hbad, ?_, fun k hk => ?_⟩
    · obtain ⟨l, hl⟩ := u.core_readWordCount g w g
      rw [hl, if_pos rfl]
      exact hrow
    · rw [hs]
      unfold State.readWordCount
      split <;> rfl
    · obtain ⟨l, hl⟩ := u.core_readWordCount g w k
      rw [hl, if_neg hk, hother k hk]

/-- A row that reads good writes no register (05 R158). -/
theorem State.spadScrub_good {s : State} {g b found : Nat} (h : s.sideUses g b = false)
    (hn : max (s.badBytes g (b * 1024 + bankGet 0 (s.core g).scrub b)) found = 0) : s.spadScrub g b found = s.scrubbed g b found := by
  rw [State.spadScrub_eq h, State.badBytes_scrubbed, hn]
  exact State.readWordCount_good (by rw [State.badBytes_scrubbed, hn])

/-- A row that reads correctable is counted, and its correction waits. -/
theorem State.spadScrub_correctable {s : State} {g b found : Nat} (h : s.sideUses g b = false)
    (h1 : 1 ≤ max (s.badBytes g (b * 1024 + bankGet 0 (s.core g).scrub b)) found)
    (h2 : max (s.badBytes g (b * 1024 + bankGet 0 (s.core g).scrub b)) found ≤ 2) :
    (s.spadScrub g b found).fld .SPAD_CE g = (s.fld .SPAD_CE g + 1) % 2 ^ 32 ∧
    b * 1024 + bankGet 0 (s.core g).scrub b ∈ ((s.spadScrub g b found).core g).corrections ∧
    RegsBut s (s.spadScrub g b found) [(.SPAD_CE, g)] := by
  have hc : correctable ((s.scrubbed g b found).badBytes g (b * 1024 + bankGet 0 (s.core g).scrub b)) = true :=
    (correctable_iff _).mpr (by rw [State.badBytes_scrubbed]; exact ⟨h1, h2⟩)
  have he : s.spadScrub g b found = (s.scrubbed g b found).readWordCount g (b * 1024 + bankGet 0 (s.core g).scrub b) := by
    rw [State.spadScrub_eq h, if_neg (by rw [uncorrectable_iff, State.badBytes_scrubbed]; omega)]
  rw [he]
  refine ⟨?_, State.mem_corrections_readWordCount hc, ?_⟩
  · rw [State.readWordCount_correctable hc]
    exact State.fld_setFld_self ..
  · rw [State.readWordCount_correctable hc]
    exact RegsBut.setFld (t := State.setCore ..) (g := .SPAD_CE) (RegsBut.of_regs rfl _) _ 0 (by decide) (by simp)

/-- A row that reads uncorrectable is counted with its address. -/
theorem State.spadScrub_uncorrectable {s : State} {g b found : Nat} (h : s.sideUses g b = false)
    (h3 : 3 ≤ max (s.badBytes g (b * 1024 + bankGet 0 (s.core g).scrub b)) found) :
    (s.spadScrub g b found).fld .SPAD_UE g = (s.fld .SPAD_UE g + 1) % 2 ^ 32 ∧
    (s.spadScrub g b found).fld .SPAD_UE_ADDR_ADDR g = (b * 1024 + bankGet 0 (s.core g).scrub b) * 32 % 2 ^ 19 ∧
    (s.spadScrub g b found).fld .SPAD_UE_ADDR_VALID g = 1 := by
  rw [State.spadScrub_eq h, if_pos (by rw [uncorrectable_iff, State.badBytes_scrubbed]; exact h3)]
  obtain ⟨haddr, hvalid, -, -⟩ := (s.scrubbed g b found).noteUe_spec g (b * 1024 + bankGet 0 (s.core g).scrub b)
  refine ⟨?_, haddr, hvalid⟩
  rw [State.noteUe, State.fld_setFld_name _ (by decide), State.fld_setFld_name _ (by decide)]
  exact State.fld_setFld_self ..

theorem spadScrubRead_completes {g b : Nat} (found : Nat) {s : State} (hb : b < 16) (h : s.sideUses g b = false) :
    let w := b * 1024 + bankGet 0 (s.core g).scrub b
    let n := max (s.badBytes g w) found
    Completes (.spadScrubRead g b found) s (fun t => bankGet 0 (t.core g).scrub b = (bankGet 0 (s.core g).scrub b + 1) % 1024 ∧ t.badBytes g w = n ∧
      (n = 0 → t.regs = s.regs ∧ (t.core g).corrections = (s.core g).corrections) ∧
      (1 ≤ n → n ≤ 2 → t.fld .SPAD_CE g = (s.fld .SPAD_CE g + 1) % 2 ^ 32 ∧ w ∈ (t.core g).corrections ∧ RegsBut s t [(.SPAD_CE, g)]) ∧
      (3 ≤ n → t.fld .SPAD_UE g = (s.fld .SPAD_UE g + 1) % 2 ^ 32 ∧ t.fld .SPAD_UE_ADDR_ADDR g = w * 32 % 2 ^ 19 ∧ t.fld .SPAD_UE_ADDR_VALID g = 1) ∧
      t = { s with regs := t.regs, cores := t.cores } ∧ ∀ h, h ≠ g → t.core h = s.core h) := by
  intro w n
  obtain ⟨hrow, hbad, hs, hcores⟩ := State.spadScrub_frame h found
  refine ⟨s.spadScrub g b found, congrArg (fun x => Host.Outcome.next (s.spadScrub g x found)) (Nat.mod_eq_of_lt hb), hrow, hbad, fun hn => ?_, State.spadScrub_correctable h,
    State.spadScrub_uncorrectable h, hs, hcores⟩
  rw [State.spadScrub_good h hn]
  exact ⟨rfl, by rw [State.core_scrubbed_self]⟩

/-! ### Write-back and the pool's scrubber -/

theorem spadCorrectionWriteback_completes {g w : Nat} {s : State} (h : w ∈ (s.core g).corrections) :
    Completes (.spadCorrectionWriteback g w) s (fun t => t.badBytes g w = 0 ∧ w ∉ (t.core g).corrections ∧ t = { s with cores := t.cores } ∧
      (∀ h, h ≠ g → t.core h = s.core h) ∧ ∀ x, x ≠ w → t.badBytes g x = s.badBytes g x) := by
  refine ⟨s.setCore g { s.core g with bad := bankSet 0 (s.core g).bad w 0, corrections := (s.core g).corrections.filter (fun x => x ≠ w) },
    congrArg Host.Outcome.next (if_pos (by simpa using h)), ?_, ?_, rfl, fun k hk => State.core_setCore_ne _ _ hk, fun x hx => ?_⟩
  · rw [State.badBytes, State.core_setCore_self, bankGet_bankSet_self]
  · rw [State.core_setCore_self]
    simp
  · rw [State.badBytes, State.core_setCore_self, State.badBytes]
    change bankGet 0 (bankSet 0 (s.core g).bad w 0) x = _
    exact bankGet_bankSet_ne _ _ _ _ hx

theorem poolScrubRead_correctable {w found : Nat} {s : State} (hon : s.flag .POOL_SCRUB = true) (h2 : max (bankGet 0 s.poolBad w) found ≤ 2)
    (h1 : 1 ≤ max (bankGet 0 s.poolBad w) found) :
    Completes (.poolScrubRead w found) s (fun t => bankGet 0 t.poolBad w = 0 ∧
      t.fld .POOL_CE 0 (w / 1572864 / 16) = (s.fld .POOL_CE 0 (w / 1572864 / 16) + 1) % 2 ^ 32 ∧ t = { s with regs := t.regs, poolBad := t.poolBad } ∧
      RegsBut s t [(.POOL_CE, 0)]) := by
  refine ⟨({ s with poolBad := bankSet 0 s.poolBad w 0 } : State).addFld .POOL_CE 1 0 (w / 1572864 / 16), ?_, ?_, State.fld_setFld_self ..,
    rfl, RegsBut.setFld (t := { s with poolBad := bankSet 0 s.poolBad w 0 }) (g := .POOL_CE) (RegsBut.of_regs rfl _) _ _ (by decide) (by simp)⟩
  swap
  · exact bankGet_bankSet_self 0 s.poolBad w 0
  refine congrArg Host.Outcome.next ?_
  rw [State.poolScrub, if_neg (by simp [hon]), if_neg (by rw [uncorrectable_iff]; omega), if_pos ((correctable_iff _).mpr ⟨h1, h2⟩)]

theorem poolScrubRead_uncorrectable {w found : Nat} {s : State} (hon : s.flag .POOL_SCRUB = true) (h3 : 3 ≤ max (bankGet 0 s.poolBad w) found) :
    Completes (.poolScrubRead w found) s (fun t => t.fld .POOL_UE 0 (w / 1572864 / 16) = (s.fld .POOL_UE 0 (w / 1572864 / 16) + 1) % 2 ^ 32 ∧
      t = { s with regs := t.regs, poolBad := t.poolBad } ∧ RegsBut s t [(.POOL_UE, 0)]) := by
  refine ⟨({ s with poolBad := bankSet 0 s.poolBad w (max (bankGet 0 s.poolBad w) found) } : State).addFld .POOL_UE 1 0 (w / 1572864 / 16), ?_,
    State.fld_setFld_self .., rfl, RegsBut.setFld (t := { s with poolBad := bankSet 0 s.poolBad w _ }) (g := .POOL_UE) (RegsBut.of_regs rfl _) _ _
      (by decide) (by simp)⟩
  refine congrArg Host.Outcome.next ?_
  rw [State.poolScrub, if_neg (by simp [hon]), if_pos ((uncorrectable_iff _).mpr h3)]

/-! ### The partition clear begins, or is refused -/

/-- A mask of one bit names one partition. -/
theorem bitsOf_two_pow {p n : Nat} (h : p < n) : bitsOf (2 ^ p) n = [p] := by
  unfold bitsOf
  simp only [Nat.testBit_two_pow]
  induction n with
  | zero => cases h
  | succ n ih =>
    rw [List.range_succ, List.filter_append]
    rcases Nat.lt_succ_iff_lt_or_eq.mp h with hn | rfl
    · rw [ih hn]
      simp [Nat.ne_of_lt hn]
    · have hnil : (List.range p).filter (fun j => decide (p = j)) = [] :=
        List.filter_eq_nil_iff.mpr fun j hj => by simpa using Nat.ne_of_gt (List.mem_range.mp hj)
      rw [hnil]
      simp

@[simp] theorem State.cores_abortDumps (s : State) (p code : Nat) : (s.abortDumps p code).cores = s.cores := by
  refine foldl_keep State.cores _ (fun t k => ?_) _ s
  have hrec (u : State) (r : ObsRec) : (u.sendRec p r).cores = u.cores := (KeptBut.sendRec u p r).cores
  unfold State.abortDump
  extract_lets +onlyGivenNames i
  split
  · extract_lets +onlyGivenNames u v
    have hv : v.cores = t.cores := hrec t _
    split
    · exact hv
    · exact hv
  · rfl

theorem State.clearStart_bit (s : State) {p : Nat} (hp : p < 16) (hc : s.clearing p = false) : s.clearStart (2 ^ p) =
    if s.pstate p ≠ .idle || (s.fld .ARM_STATUS_STATE = armApplying && s.bit .ARM_SCOPE p) then s.setBit .SPAD_CLEAR_ERROR p true
    else s.clearBegin p := by
  rw [State.clearStart, bitsOf_two_pow hp, List.foldl_cons, List.foldl_nil, if_neg (by simp [hc])]

theorem partitionClearStart_begins {p : Nat} {s : State} (hp : p < 16) (hc : s.clearing p = false) (hi : s.pstate p = .idle)
    (ha : s.fld .ARM_STATUS_STATE ≠ armApplying) :
    Completes (.partitionClearStart (2 ^ p)) s (fun t => t.clearing p ∧ t.mem = s.mem ∧ t.cores = s.cores) := by
  refine ⟨s.clearBegin p, ?_, ?_, ?_, by rw [State.clearBegin, State.setBit, State.setFld_cores, State.cores_abortDumps]⟩
  · refine congrArg Host.Outcome.next ?_
    rw [State.clearStart_bit s hp hc, if_neg (by simp [hi, ha])]
  · rw [State.clearing, State.clearBegin, State.bit_setBit _ hp, if_pos rfl]
  · simp [State.clearBegin]

theorem partitionClearStart_refused {p : Nat} {s : State} (hp : p < 16) (hc : s.clearing p = false) (hi : s.pstate p ≠ .idle) :
    Completes (.partitionClearStart (2 ^ p)) s (fun t => t.bit .SPAD_CLEAR_ERROR p ∧ OnlyRegs s t [(.SPAD_CLEAR_ERROR, 0)]) := by
  refine ⟨s.setBit .SPAD_CLEAR_ERROR p true, ?_, ?_, (OnlyRegs.refl s _).setFld _ _ (by decide) (by simp)⟩
  · refine congrArg Host.Outcome.next ?_
    rw [State.clearStart_bit s hp hc, if_pos (by simp [hi])]
  · rw [State.bit_setBit _ hp, if_pos rfl]

/-! ### What a clear leaves of the cores -/

/-- A core without handle, window or declaration entries. -/
def Core.noEntries (c : Core) : Prop := c.handles = [] ∧ c.windows = [] ∧ c.decls = []

theorem State.entries_of_noEntries {s : State} {g : Nat} (h : (s.core g).noEntries) (i : Nat) : s.handle g i = 0 ∧ s.window g i = 0 ∧ s.decl g i = 0 := by
  obtain ⟨hh, hw, hd⟩ := h
  simp [State.handle, State.window, State.decl, hh, hw, hd, bankGet]

/-- A core that is emptied, or still to be emptied, has no entries in the end. -/
theorem State.noEntries_foldl_emptied {s : State} {g : Nat} (l : List (Nat × Core)) (h : (s.core g).noEntries ∨ ∃ e ∈ l, e.1 = g) :
    ((l.foldl (fun s e => s.setCore e.1 { e.2 with handles := [], windows := [], decls := [], bad := [], corrections := [] }) s).core g).noEntries := by
  induction l generalizing s with
  | nil => exact h.resolve_right (by simp)
  | cons e l ih =>
    refine ih ?_
    change ((s.setCore e.1 _).core g).noEntries ∨ _
    by_cases he : e.1 = g
    · left
      rw [he, State.core_setCore_self]
      exact ⟨rfl, rfl, rfl⟩
    · rw [State.core_setCore_ne _ _ (Ne.symm he)]
      exact h.imp_right fun ⟨x, hx, hg⟩ => ⟨x, (List.mem_cons.mp hx).resolve_left (fun hxe => he (hxe ▸ hg)), hg⟩

theorem State.noEntries_clearCores (s : State) {m : Nat → Bool} {g : Nat} (hm : m g = true) : ((s.clearCores m).core g).noEntries := by
  unfold State.clearCores
  refine State.noEntries_foldl_emptied _ ?_
  by_cases hg : ∃ e ∈ s.cores, e.1 = g
  · obtain ⟨e, he, rfl⟩ := hg
    exact .inr ⟨e, List.mem_filter.mpr ⟨he, hm⟩, rfl⟩
  · left
    have hcore : s.core g = {} := bankGet_of_forall_ne _ fun e he hge => hg ⟨e, he, hge⟩
    change (s.core g).noEntries
    rw [hcore]
    exact ⟨rfl, rfl, rfl⟩

theorem State.noEntries_zeroSync {s : State} {g : Nat} (h : (s.core g).noEntries) (p : Nat) : ((s.zeroSync p).core g).noEntries := by
  have hops (t : State) (k : Nat) (ht : (t.core g).noEntries) : ((t.endOps k).core g).noEntries := by
    unfold State.endOps
    by_cases hk : g = k
    · subst hk
      rw [State.core_setCore_self]
      exact ht
    · rw [State.core_setCore_ne _ _ hk]
      exact ht
  rw [State.zeroSync_eq]
  have h0 : ((s.syncCleared p).core g).noEntries := by rwa [(KeptBut.syncCleared s p).core]
  generalize s.syncCleared p = u at h0 ⊢
  generalize u.partCores p = l
  induction l generalizing u with
  | nil => exact h0
  | cons e l ih => exact ih _ (hops _ _ h0)

/-! ### The partition clear, done -/

/-- A clear of partition p before what it serves, binds and counts is discarded: its banks, its pool groups and its sync state. -/
def State.banksCleared (s : State) (p : Nat) : State :=
  ((s.clearCores (fun g => s.corePart g = p)).clearGroups (fun g => s.ownsGroup p g)).zeroSync p

/-- The rest of a clear. -/
def State.clearRest (s : State) (p : Nat) : State :=
  let s := s.srvDiscard p
  let s := s.setPart p { s.part p with resident := false, digest := 0 }
  let s := { s with binds := s.binds.map (fun (e : Nat × Nat) => if bPart e.2 = p && bValid e.2 then (e.1, e.2 - 1) else e) }
  let s := { s with binds := s.binds.filter (fun (e : Nat × Nat) => e.2 ≠ 0) }
  let nd : List Fld := [.ND_CTRL_OVERFLOW_DROP, .ND_CTRL_DROP_LO, .ND_CTRL_DROP_HI, .ND_EVENTS_LO, .ND_EVENTS_HI, .ND_FIRST_TICK]
  let s := s.dropFlds (fun f q => nd.any (fun x => x.code = f) && q = p)
  (s.zeroCounts p).dropPlaster p

theorem State.partClear_eq (s : State) (p : Nat) : s.partClear p = (s.banksCleared p).clearRest p := rfl

theorem State.cores_clearRest (s : State) (p : Nat) : (s.clearRest p).cores = s.cores := rfl

theorem State.mem_clearRest (s : State) (p : Nat) : (s.clearRest p).mem = s.mem := rfl

theorem State.given_clearRest (s : State) (p g c : Nat) : (s.clearRest p).fld .SYNC_GIVEN g c = s.fld .SYNC_GIVEN g c := by
  have hplaster (u : State) : (u.dropPlaster p).fld .SYNC_GIVEN g c = u.fld .SYNC_GIVEN g c := by
    rw [State.dropPlaster, State.fld_setFld_name _ (by decide), State.fld_setFld_name _ (by decide)]
    rfl
  have hsrv (u : State) : (u.srvDiscard p).fld .SYNC_GIVEN g c = u.fld .SYNC_GIVEN g c := by
    rw [State.srvDiscard, State.fld_setFld64_name _ (by decide) (by decide)]
    rfl
  have hcounts (u : State) : (u.zeroCounts p).fld .SYNC_GIVEN g c = u.fld .SYNC_GIVEN g c := rfl
  have hname : [Fld.ND_CTRL_OVERFLOW_DROP, .ND_CTRL_DROP_LO, .ND_CTRL_DROP_HI, .ND_EVENTS_LO, .ND_EVENTS_HI, .ND_FIRST_TICK].any
      (fun x => x.code = Fld.SYNC_GIVEN.code % 16384) = false := by decide
  rw [State.clearRest, hplaster, hcounts, State.fld_dropFlds_kept _ (by rw [hname]; rfl)]
  exact hsrv s

/-- The memories with the banks of some cores and some pool groups filled with zero. -/
def Memory.cleared (m : Memory) (cores groups : Nat → Bool) : Memory :=
  { m with spad := bankDrop (fun a => cores (a / 524288)) m.spad, pool := bankDrop (fun a => groups (a / 50331648)) m.pool }

theorem bankGet_bankDrop {α : Type} (d : α) (q : Nat → Bool) (b : List (Nat × α)) (k : Nat) :
    bankGet d (bankDrop q b) k = if q k then d else bankGet d b k := by
  split
  · rename_i h
    exact bankGet_bankDrop_dropped d b h
  · rename_i h
    exact bankGet_bankDrop_kept d b (by simpa using h)

theorem Memory.spad_cleared (m : Memory) (cores groups : Nat → Bool) (a : Nat) :
    bankGet 0 (m.cleared cores groups).spad a = if cores (a / 524288) then 0 else bankGet 0 m.spad a :=
  bankGet_bankDrop 0 (fun a => cores (a / 524288)) m.spad a

theorem Memory.pool_cleared (m : Memory) (cores groups : Nat → Bool) (a : Nat) :
    bankGet 0 (m.cleared cores groups).pool a = if groups (a / 50331648) then 0 else bankGet 0 m.pool a :=
  bankGet_bankDrop 0 (fun a => groups (a / 50331648)) m.pool a

theorem State.mem_banksCleared (s : State) (p : Nat) :
    (s.banksCleared p).mem = s.mem.cleared (fun g => s.corePart g = p) (fun g => s.ownsGroup p g) := by
  rw [State.banksCleared, (State.zeroSync_keeps _ p).2, State.clearGroups, State.clearCores]
  dsimp only
  rw [foldl_mem _ (fun _ _ => State.setCore_mem ..)]
  rfl

theorem State.regs_clearCores (s : State) (m : Nat → Bool) : (s.clearCores m).regs =
    (s.dropFlds (fun f g => [Fld.SYNC_GIVEN, .SYNC_TAKEN, .BAR_ARRIVED, .PRM, .ARITH_TRAP].any (fun x => x.code = f) && m g)).regs := by
  refine (foldl_keep State.regs _ ?_ _ _).trans rfl
  intro t e
  rfl

/-- A clear moves no core to another partition. -/
theorem State.corePart_cleared (s : State) (m n : Nat → Bool) (g : Nat) : ((s.clearCores m).clearGroups n).corePart g = s.corePart g := by
  refine State.corePart_congr (fun q => ?_) g
  change (s.clearCores m).fld _ _ = _
  rw [State.fld, State.regs_clearCores]
  exact State.fld_dropFlds_kept s (Bool.and_eq_false_iff.mpr (.inl (by decide))) 0

theorem State.given_banksCleared {s : State} {p g : Nat} (h : s.corePart g = p) (c : Nat) : (s.banksCleared p).fld .SYNC_GIVEN g c = 0 := by
  unfold State.banksCleared
  generalize hu : State.clearGroups _ _ = u
  have hg : u.corePart g = p := by rw [← hu, State.corePart_cleared, h]
  rw [State.fld_zeroSync_sync u (.inl rfl), if_pos hg]

theorem State.noEntries_banksCleared {s : State} {p g : Nat} (h : s.corePart g = p) : ((s.banksCleared p).core g).noEntries := by
  refine State.noEntries_zeroSync ?_ p
  change ((s.clearCores _).core g).noEntries
  exact State.noEntries_clearCores s (by simpa using h)

theorem partitionClearDone_completes {p : Nat} {s : State} (hp : p < 16) (hc : s.clearing p = true) :
    Completes (.partitionClearDone p) s (fun t => t.clearing p = false ∧ t.bit .SPAD_CLEAR_STATUS_DONE p ∧
      (∀ g a, a < 524288 → t.spadByte g a = if s.corePart g = p then 0 else s.spadByte g a) ∧
      (∀ a, bankGet 0 t.mem.pool a = if s.ownsGroup p (a / 50331648) then 0 else bankGet 0 s.mem.pool a) ∧
      t.mem = { s.mem with spad := t.mem.spad, pool := t.mem.pool } ∧
      (∀ g, s.corePart g = p → ∀ h, t.handle g h = 0 ∧ t.window g h = 0 ∧ t.decl g h = 0 ∧ t.fld .SYNC_GIVEN g h = 0)) := by
  have hdone : s.clearDone p = ((s.partClear p).setBit .SPAD_CLEAR_STATUS_BUSY p false).setBit .SPAD_CLEAR_STATUS_DONE p true := if_pos hc
  have hmem : (s.clearDone p).mem = s.mem.cleared (fun g => s.corePart g = p) (fun g => s.ownsGroup p g) := by
    rw [hdone, (State.setBit_keeps ..).2, (State.setBit_keeps ..).2, State.partClear_eq, State.mem_clearRest, State.mem_banksCleared]
  have hcore (g : Nat) : (s.clearDone p).core g = (s.banksCleared p).core g := by
    rw [hdone, State.core, State.setBit, State.setFld_cores, State.setBit, State.setFld_cores, State.partClear_eq, State.cores_clearRest]
    rfl
  refine ⟨s.clearDone p, rfl, ?_, ?_, fun g a ha => ?_, fun a => ?_, ?_, fun g hg c => ?_⟩
  · rw [hdone, State.clearing, State.bit, State.setBit, State.fld_setFld_name _ (by decide)]
    exact (State.bit_setBit _ hp p false).trans (if_pos rfl)
  · rw [hdone]
    exact (State.bit_setBit _ hp p true).trans (if_pos rfl)
  · have hkey : (g * 524288 + a) / 524288 = g := by omega
    rw [State.spadByte, hmem]
    exact (Memory.spad_cleared ..).trans (by simp only [hkey, decide_eq_true_eq]; rfl)
  · rw [hmem]
    exact Memory.pool_cleared ..
  · rw [hmem]
    rfl
  · obtain ⟨hh, hw, hd⟩ := State.entries_of_noEntries (s := s.clearDone p) (hcore g ▸ State.noEntries_banksCleared hg) c
    refine ⟨hh, hw, hd, ?_⟩
    rw [hdone, State.setBit, State.fld_setFld_name _ (by decide), State.setBit, State.fld_setFld_name _ (by decide), State.partClear_eq,
      State.given_clearRest]
    exact State.given_banksCleared hg c

/-- Settles O17: the scrubbers, clause by clause of what a read finds, and the partition clear, from what it drops of the memories, the cores and
the counters. -/
theorem scrubbingAndClear : Obligations.ScrubbingAndClear :=
  ⟨fun _ _ found _ hb h => spadScrubRead_completes found hb h,
    fun g b found s hb h => ⟨s, congrArg Host.Outcome.next (if_pos (by rwa [Nat.mod_eq_of_lt hb])), rfl⟩,
    fun _ _ _ h => spadCorrectionWriteback_completes h, fun _ _ _ hon h2 h1 => poolScrubRead_correctable hon h2 h1,
    fun _ _ _ hon h3 => poolScrubRead_uncorrectable hon h3, fun _ _ hp hc hi ha => partitionClearStart_begins hp hc hi ha,
    fun _ _ hp hc hi => partitionClearStart_refused hp hc hi, fun _ _ hp hc => partitionClearDone_completes hp hc⟩

end Sys2Proof.Machine
end

section
/-! PROOFS. Packets that land, and the requests of the pool (05 R175 to R178, R181; 07 R224). -/
namespace Sys2Proof.Machine
open Sys2Proof

/-! ### A packet that lands (07 R224; 01 R44) -/

/-- A packet has left the fabric, and the no-progress timer of its partition restarts. -/
def State.reached (s : State) (k : Pkt) : State := (s.leavesFabric k).progress k.part

/-- A packet that lands reaches the unit it is for. -/
theorem State.arriveAt_lands {s : State} {k : Pkt} (h : s.lands k = true) (f : State → State) :
    s.arriveAt (pktBlock k) k f = f (s.reached k) := by
  simp only [State.lands, Bool.and_eq_true, Bool.not_eq_true', decide_eq_true_eq] at h
  obtain ⟨⟨⟨hfits, hmay⟩, hfence⟩, hsleeve⟩ := h
  have hs : (s.reached k).fld .SLEEVE_STATUS_STATE ≠ 2 := hsleeve
  rw [State.arriveAt, if_neg (by simp [hfits, hmay]), if_neg (by simp [hfence]), ← State.reached, State.atSleeve, if_neg (by simp [hs])]

@[simp] theorem State.reached_regs (s : State) (k : Pkt) : (s.reached k).regs = s.regs := rfl
@[simp] theorem State.reached_cores (s : State) (k : Pkt) : (s.reached k).cores = s.cores := rfl
@[simp] theorem State.reached_mem (s : State) (k : Pkt) : (s.reached k).mem = s.mem := rfl
@[simp] theorem State.reached_outs (s : State) (k : Pkt) : (s.reached k).outs = s.outs := rfl
@[simp] theorem State.reached_outbox (s : State) (k : Pkt) : (s.reached k).outbox = s.outbox := rfl

theorem State.noProg_reached (s : State) (k : Pkt) : ((s.reached k).part k.part).noProg = 0 := by
  rw [State.reached, State.progress, State.part_setPart_self]

/-- The registers hold every field. -/
theorem State.fld_of_regs {s t : State} (h : t.regs = s.regs) : @State.fld t = @State.fld s := by
  funext f i k
  rw [State.fld, State.fld, h]

/-- The fields that give the device its rank in a partition's job (09 R287). -/
def rankFlds : List Fld := [.SLOT_STATUS_STATE, .SLOT_CFG_KIND, .SLOT_CFG_PARTITION, .SLOT_RANK]

theorem State.ownRank_congr {s t : State} (h : ∀ f ∈ rankFlds, ∀ j, t.fld f j = s.fld f j) (p : Nat) : t.ownRank p = s.ownRank p := by
  simp only [State.ownRank, State.runSlot, h .SLOT_STATUS_STATE (by decide), h .SLOT_CFG_KIND (by decide), h .SLOT_CFG_PARTITION (by decide),
    h .SLOT_RANK (by decide)]

theorem State.ownRank_of_regs {s t : State} (h : t.regs = s.regs) (p : Nat) : t.ownRank p = s.ownRank p :=
  State.ownRank_congr (fun _ _ _ => by rw [State.fld_of_regs h]) p

theorem State.ownRank_setFld (s : State) {g : Fld} (h : ∀ f ∈ rankFlds, f.code % 16384 ≠ g.code % 16384) (v i k p : Nat) :
    (s.setFld g v i k).ownRank p = s.ownRank p :=
  State.ownRank_congr (fun f hf j => State.fld_setFld_name s (h f hf) v i k j 0) p

/-- The registers give the partition of a core (02 R54). -/
theorem State.corePart_of_regs {s t : State} (h : t.regs = s.regs) (g : Nat) : t.corePart g = s.corePart g :=
  State.corePart_congr (fun _ => by rw [State.fld_of_regs h]) g

/-- And the state of a partition. -/
theorem State.pstate_of_regs {s t : State} (h : t.regs = s.regs) (p : Nat) : t.pstate p = s.pstate p := by
  rw [State.pstate, State.pstate, State.fld_of_regs h]

/-- An answer to a unit of the device stays on the device. -/
theorem State.offDevice_of_ownRank {s : State} {p : Nat} {k : Pkt} (h : k.dstRank = s.ownRank p) : s.offDevice p k = false := by
  simp [State.offDevice, h]

/-! ### The banks that a request meets (05 R177) -/

theorem State.poolOwner_poolTake_self (s : State) (b core : Nat) {tick : Nat} (ht : tick < 256) :
    (s.poolTake b core tick).poolOwner b tick = some (core, tick) := by
  simp only [State.poolOwner, State.poolTake, bankGet_bankSet_self]
  exact congrArg some (Prod.ext (by omega) (by omega))

theorem State.poolOwner_poolTake_ne (s : State) {b c : Nat} (h : c ≠ b) (core tick : Nat) :
    (s.poolTake b core tick).poolOwner c tick = s.poolOwner c tick := by
  simp only [State.poolOwner, State.poolTake]
  rw [bankGet_bankSet_ne _ _ _ _ (by omega)]

/-- Taking a bank keeps what the core owned already. -/
theorem State.poolOwner_poolTake_kept {s : State} {c core tick : Nat} (ht : tick < 256) (h : s.poolOwner c tick = some (core, tick)) (b : Nat) :
    (s.poolTake b core tick).poolOwner c tick = some (core, tick) := by
  by_cases hb : c = b
  · rw [hb, s.poolOwner_poolTake_self b core ht]
  · rw [s.poolOwner_poolTake_ne hb, h]

/-- In this tick no other core has reached the bank. -/
def State.poolFree (s : State) (core tick b : Nat) : Prop := ∀ c, s.poolOwner b tick = some (c, tick) → c = core

theorem State.poolFree_poolTake {s : State} {core tick c : Nat} (ht : tick < 256) (h : s.poolFree core tick c) (b : Nat) :
    (s.poolTake b core tick).poolFree core tick c := by
  intro x hx
  by_cases hb : c = b
  · rw [hb, s.poolOwner_poolTake_self b core ht] at hx
    simpa using (Eq.symm hx)
  · rw [s.poolOwner_poolTake_ne hb] at hx
    exact h x hx

/-- A word reaches a bank that no other core has reached: the bank is the core's already, or is taken. -/
theorem State.poolMeet_free {s : State} {core tick b : Nat} (h : s.poolFree core tick b) :
    (s.poolOwner b tick = some (core, tick) ∧ s.poolMeet b core tick = (s, none)) ∨ s.poolMeet b core tick = (s.poolTake b core tick, none) := by
  unfold State.poolMeet
  split
  · rename_i c t hc
    by_cases ht : t = tick
    · subst ht
      have hcore := h c hc
      subst hcore
      exact .inl ⟨hc, by simp⟩
    · exact .inr (if_neg ht)
  · exact .inr rfl

/-- A word reaches a bank of another core: they conflict. -/
theorem State.poolMeet_other {s : State} {core tick b c : Nat} (ho : s.poolOwner b tick = some (c, tick)) (hc : c ≠ core) :
    s.poolMeet b core tick = (s, some c) := by
  simp [State.poolMeet, ho, hc]

/-- The state after the banks of a request are reached: only owners are noted, and the banks are the core's. -/
structure State.Met (s t : State) (core tick : Nat) (bs : List Nat) : Prop where
  owners : ∃ o, t = { s with owners := o }
  owned : ∀ b ∈ bs, t.poolOwner b tick = some (core, tick)
  kept : ∀ b, s.poolOwner b tick = some (core, tick) → t.poolOwner b tick = some (core, tick)

/-- A request whose banks no other core has reached in its tick meets none. -/
theorem State.poolMeetAll_free {core tick : Nat} (ht : tick < 256) {bs : List Nat} {s : State} (h : ∀ b ∈ bs, s.poolFree core tick b) :
    ∃ t, s.poolMeetAll core tick bs = (t, none) ∧ s.Met t core tick bs := by
  induction bs generalizing s with
  | nil => exact ⟨s, rfl, ⟨s.owners, rfl⟩, by simp, fun _ hb => hb⟩
  | cons b bs ih =>
    rw [List.forall_mem_cons] at h
    obtain ⟨hb, hbs⟩ := h
    rcases State.poolMeet_free hb with ⟨hown, hm⟩ | hm
    · obtain ⟨t, hall, how, howned, hkept⟩ := ih hbs
      refine ⟨t, ?_, how, List.forall_mem_cons.mpr ⟨hkept b hown, howned⟩, hkept⟩
      rw [State.poolMeetAll, hm]
      exact hall
    · obtain ⟨t, hall, ⟨o, how⟩, howned, hkept⟩ := ih (s := s.poolTake b core tick) (fun c hc => State.poolFree_poolTake ht (hbs c hc) b)
      refine ⟨t, ?_, ⟨o, how⟩, List.forall_mem_cons.mpr ⟨hkept b (s.poolOwner_poolTake_self b core ht), howned⟩,
        fun c hc => hkept c (State.poolOwner_poolTake_kept ht hc b)⟩
      rw [State.poolMeetAll, hm]
      exact hall

/-- A request whose first bank is another core's in its tick meets it there. -/
theorem State.poolMeetAll_other {s : State} {core tick b c : Nat} (ho : s.poolOwner b tick = some (c, tick)) (hc : c ≠ core) (bs : List Nat) :
    s.poolMeetAll core tick (b :: bs) = (s, some (b, c)) := by
  rw [State.poolMeetAll, State.poolMeet_other ho hc]

/-! ### A request at a pool die (05 R175 to R178) -/

/-- The pool group a request is for, and the core it comes from. -/
def pktGroup (k : Pkt) : Nat := (k.dstNode - 72) * 16 + (k.dstUnit - 96)
def pktOrigin (k : Pkt) : Nat := k.srcNode * 96 + k.srcUnit

/-- The number of words of a request. -/
def pktWords (k : Pkt) : Nat := ((if k.op = .memWrite then k.data.length else k.len) + 31) / 32

/-- The banks of a request, in the order in which its words reach them. -/
def pktBanks (k : Pkt) : List Nat := (List.range (min 16 (pktWords k))).map (fun j => pktGroup k * 16 + (k.addr / 32 + j) % 16)

/-- The device address of the first byte of a request. -/
def pktPoolAddr (k : Pkt) : Nat := pktGroup k * 50331648 + k.addr

/-- A request of a partition is no longer expected. -/
def State.poolArrived (s : State) (k : Pkt) : State :=
  let p := s.corePart (pktOrigin k)
  let x := s.part p
  s.setPart p { x with poolPending := match x.poolPending.findIdx? (fun t => t % 256 = k.tick) with
    | some i => x.poolPending.eraseIdx i
    | none => x.poolPending }

/-- The bytes of a write are in the pool, and its words are as good as they came. -/
def State.poolStored (s : State) (k : Pkt) : State :=
  let w0 := poolWord (pktGroup k) k.addr
  let s := { s with mem.pool := bankPutList 0 s.mem.pool (pktPoolAddr k) k.data }
  let s := { s with poolBad := bankDrop (fun w => w0 ≤ w && w < w0 + pktWords k) s.poolBad }
  k.bad.zipIdx.foldl (fun s x => { s with poolBad := bankSet 0 s.poolBad (w0 + x.2) x.1 }) s

/-- The words of a read, as good or bad as it finds them. -/
def State.poolFound (s : State) (k : Pkt) : List Nat :=
  (List.range (pktWords k)).map (fun j => max (bankGet 0 s.poolBad (poolWord (pktGroup k) k.addr + j)) (k.bad.getD j 0))

/-- A read writes back what is correctable, and counts it. -/
def State.poolRead (s : State) (k : Pkt) : State :=
  let w0 := poolWord (pktGroup k) k.addr
  let s' := (s.poolFound k).zipIdx.foldl (fun s x => { s with poolBad := bankSet 0 s.poolBad (w0 + x.2) (if uncorrectable x.1 then x.1 else 0) }) s
  s'.addFld .POOL_CE ((s.poolFound k).filter correctable).length 0 (pktGroup k / 16)

/-- A request once its banks are reached: the core, and its partition `p`, get what it leads to. -/
def poolServed (k : Pkt) (p : Nat) : State × Option (Nat × Nat) → State
  | (s, some (b, o)) => s.poolConflict b o (pktOrigin k) k.tick (((s.core (pktOrigin k)).xfers.find? (fun x => x.id = k.xfer)).elim 0 Xfer.tag)
  | (s, none) =>
    if k.op = .memWrite then
      let t := s.poolStored k
      if k.final then t.inject p (answer k .ack) else t
    else
      let t := s.poolRead k
      if (s.poolFound k).any uncorrectable then
        (t.addFld .POOL_UE ((s.poolFound k).filter uncorrectable).length 0 (pktGroup k / 16)).inject p
          { answer k .errorResp with code := E_POOL_UNCORRECTABLE }
      else t.inject p { answer k .readResp with data := bankList 0 t.mem.pool (pktPoolAddr k) k.len }

theorem State.poolRequest_eq (s : State) (k : Pkt) : s.poolRequest k =
    poolServed k (s.corePart (pktOrigin k)) ((s.poolArrived k).poolMeetAll (pktOrigin k) k.tick (pktBanks k)) := by
  unfold State.poolRequest
  extract_lets +onlyGivenNames group core p die x u len n banks
  change _ = poolServed k p (u.poolMeetAll core k.tick banks)
  generalize u.poolMeetAll core k.tick banks = r
  obtain ⟨r, _ | ⟨b, o⟩⟩ := r
  · rfl
  · rfl

/-- Of the state, a write that is stored changes the pool's bytes and the state of its words. -/
theorem State.poolStored_eq (s : State) (k : Pkt) : ∃ b, s.poolStored k =
    { s with mem.pool := bankPutList 0 s.mem.pool (pktPoolAddr k) k.data, poolBad := b } := by
  unfold State.poolStored
  extract_lets +onlyGivenNames w0 s1 s2
  refine List.foldlRecOn (motive := fun t : State => ∃ b, t = { s with mem.pool := bankPutList 0 s.mem.pool (pktPoolAddr k) k.data, poolBad := b })
    k.bad.zipIdx _ ⟨_, rfl⟩ fun t ht x _ => ?_
  obtain ⟨b, rfl⟩ := ht
  exact ⟨_, rfl⟩

/-- Of the state, a read changes the state of its words and the count of the correctable ones. -/
theorem State.poolRead_eq (s : State) (k : Pkt) : ∃ b n, s.poolRead k = ({ s with poolBad := b }).addFld .POOL_CE n 0 (pktGroup k / 16) := by
  unfold State.poolRead
  extract_lets +onlyGivenNames w0 s'
  have h : ∃ b, s' = { s with poolBad := b } := by
    refine List.foldlRecOn (motive := fun t : State => ∃ b, t = { s with poolBad := b }) (s.poolFound k).zipIdx _ ⟨_, rfl⟩ fun t ht x _ => ?_
    obtain ⟨b, rfl⟩ := ht
    exact ⟨_, rfl⟩
  obtain ⟨b, hb⟩ := h
  exact ⟨b, _, by rw [hb]⟩

/-- With no bad word in the pool and none brought, a read finds every word good. -/
theorem State.poolFound_good {s : State} {k : Pkt} (hs : s.poolBad = []) (hk : k.bad = []) : (s.poolFound k).any uncorrectable = false := by
  simp [State.poolFound, hs, hk, bankGet, uncorrectable]

/-- A request whose banks no other core has reached in its tick is served. -/
theorem State.poolRequest_free {s : State} {k : Pkt} (ht : k.tick < 256) (h : ∀ b ∈ pktBanks k, s.poolFree (pktOrigin k) k.tick b) :
    ∃ u, (s.poolArrived k).Met u (pktOrigin k) k.tick (pktBanks k) ∧ s.poolRequest k = poolServed k (s.corePart (pktOrigin k)) (u, none) := by
  obtain ⟨u, hall, hmet⟩ := State.poolMeetAll_free (s := s.poolArrived k) ht h
  exact ⟨u, hmet, by rw [State.poolRequest_eq, hall]⟩

theorem poolServed_write {s : State} {k : Pkt} (ho : k.op = .memWrite) (p : Nat) :
    poolServed k p (s, none) = if k.final then (s.poolStored k).inject p (answer k .ack) else s.poolStored k := if_pos ho

theorem poolServed_read {s : State} {k : Pkt} (ho : k.op ≠ .memWrite) (hg : (s.poolFound k).any uncorrectable = false) (p : Nat) :
    poolServed k p (s, none) =
      (s.poolRead k).inject p { answer k .readResp with data := bankList 0 (s.poolRead k).mem.pool (pktPoolAddr k) k.len } :=
  (if_neg ho).trans (if_neg (by simp [hg]))

theorem pktBanks_lt {k : Pkt} (h : pktGroup k < 64) {b : Nat} (hb : b ∈ pktBanks k) : b < 1024 := by
  obtain ⟨j, -, rfl⟩ := List.mem_map.mp hb
  omega

/-- The first bank of a write that brings bytes. -/
theorem pktBanks_cons {k : Pkt} (ho : k.op = .memWrite) (hd : 0 < k.data.length) :
    ∃ bs, pktBanks k = (pktGroup k * 16 + k.addr / 32 % 16) :: bs := by
  have hn : min 16 (pktWords k) = min 16 (pktWords k) - 1 + 1 := by
    rw [pktWords, if_pos ho]
    omega
  rw [pktBanks, hn, List.range_succ_eq_map]
  exact ⟨_, rfl⟩

/-! ### The clauses of Obligations.PoolRequests -/

/-- A request that comes alone. -/
theorem execPoolRequestArrive_alone {k : Pkt} {s : State} (h : s.lands k = true) :
    exec (.poolRequestArrive k []) s = .next ((s.reached k).poolRequest k) :=
  congrArg Host.Outcome.next (State.arriveAt_lands h _)

section Free
variable {k : Pkt} {s : State} (hl : s.lands k = true) (ht : k.tick < 256)
  (hfree : ∀ b < 1024, ∀ c, s.poolOwner b k.tick = some (c, k.tick) → c = pktOrigin k) (hgroup : pktGroup k < 64)

section Served
include hl ht hfree hgroup

/-- What is served finds the state as it was, but for what a request's arrival changes. -/
theorem poolServed_alone : ∃ u, exec (.poolRequestArrive k []) s = .next (poolServed k (s.corePart (pktOrigin k)) (u, none)) ∧
    u.mem = s.mem ∧ u.regs = s.regs ∧ u.cores = s.cores ∧ u.poolBad = s.poolBad := by
  obtain ⟨u, ⟨⟨o, how⟩, -, -⟩, hserved⟩ := State.poolRequest_free (s := s.reached k) ht (fun b hb => hfree b (pktBanks_lt hgroup hb))
  refine ⟨u, ?_, ?_⟩
  · rw [execPoolRequestArrive_alone hl, hserved]
    rfl
  · rw [how]
    exact ⟨rfl, rfl, rfl, rfl⟩

end Served

section Answered
variable (hrank : k.srcRank = s.ownRank (s.corePart (pktOrigin k)))
include hl ht hfree hgroup hrank

theorem poolRequests_write (ho : k.op = .memWrite) (hf : k.final = true) :
    Completes (.poolRequestArrive k []) s (fun t => (∀ j b, k.data[j]? = some b → bankGet 0 t.mem.pool (pktPoolAddr k + j) = b) ∧
      (∀ a, (a < pktPoolAddr k ∨ pktPoolAddr k + k.data.length ≤ a) → bankGet 0 t.mem.pool a = bankGet 0 s.mem.pool a) ∧
      t.mem = { s.mem with pool := t.mem.pool } ∧ .packet { answer k .ack with part := s.corePart (pktOrigin k) } ∈ t.outs ∧
      t.regs = s.regs ∧ t.cores = s.cores) := by
  obtain ⟨u, hex, hmem, hregs, hcores, -⟩ := poolServed_alone hl ht hfree hgroup
  rw [poolServed_write ho, if_pos hf] at hex
  obtain ⟨b, hst⟩ := u.poolStored_eq k
  have hoff : (u.poolStored k).offDevice (s.corePart (pktOrigin k)) (answer k .ack) = false := by
    refine State.offDevice_of_ownRank (hrank.trans (State.ownRank_of_regs ?_ _).symm)
    rw [hst, ← hregs]
  have houts := State.outs_inject hoff
  obtain ⟨a, fl, hinj⟩ := State.inject_sends (u.poolStored k) (s.corePart (pktOrigin k)) (answer k .ack)
  refine ⟨_, hex, ?_⟩
  beta_reduce
  rw [houts, hinj, hst]
  dsimp only
  rw [hmem]
  refine ⟨fun j b hj => ?_, fun a ha => ?_, rfl, by simp, hregs, hcores⟩
  · obtain ⟨hlt, hget⟩ := List.getElem?_eq_some_iff.mp hj
    rw [bankGet_bankPutList, if_pos (by omega), Nat.add_sub_cancel_left, List.getD_eq_getElem _ _ hlt, hget]
  · rw [bankGet_bankPutList, if_neg (by omega)]

theorem poolRequests_read (ho : k.op = .memRead) (hbad : k.bad = []) (hs : s.poolBad = []) :
    Completes (.poolRequestArrive k []) s (fun t => t.mem = s.mem ∧ t.cores = s.cores ∧ RegsBut s t [(.POOL_CE, 0)] ∧
      .packet { answer k .readResp with part := s.corePart (pktOrigin k), data := bankList 0 s.mem.pool (pktPoolAddr k) k.len } ∈ t.outs) := by
  obtain ⟨u, hex, hmem, hregs, hcores, hb⟩ := poolServed_alone hl ht hfree hgroup
  rw [poolServed_read (by rw [ho]; decide) (State.poolFound_good (hb.trans hs) hbad)] at hex
  obtain ⟨b, n, hrd⟩ := u.poolRead_eq k
  have hrmem : (u.poolRead k).mem = s.mem := by rw [hrd]; exact hmem
  rw [hrmem] at hex
  have hregsBut : RegsBut s (u.poolRead k) [(.POOL_CE, 0)] := by
    rw [hrd]
    exact RegsBut.setFld (t := { u with poolBad := b }) (g := .POOL_CE) (RegsBut.of_regs hregs _) _ _ (by decide) (by simp)
  have hrk : (u.poolRead k).ownRank (s.corePart (pktOrigin k)) = s.ownRank (s.corePart (pktOrigin k)) := by
    rw [hrd, State.addFld, State.ownRank_setFld _ (by decide)]
    exact State.ownRank_of_regs hregs _
  have houts := State.outs_inject (s := u.poolRead k) (p := s.corePart (pktOrigin k))
    (k := { answer k .readResp with data := bankList 0 s.mem.pool (pktPoolAddr k) k.len })
    (State.offDevice_of_ownRank (hrank.trans hrk.symm))
  have hkeep := KeptBut.inject (u.poolRead k) (s.corePart (pktOrigin k))
    { answer k .readResp with data := bankList 0 s.mem.pool (pktPoolAddr k) k.len }
  refine ⟨_, hex, ?_⟩
  beta_reduce
  rw [hkeep.mem, hkeep.cores, houts]
  refine ⟨hrmem, by rw [hrd]; exact hcores, hregsBut.trans fun f i k _ _ => hkeep.fld f i k (by simp), by simp⟩

end Answered

end Free

/-! ### Two cores that meet at a bank (05 R177, R178) -/

/-- Of the registers, a core's error writes those of the error and those of FAULT. -/
theorem State.fld_coreFault (s : State) (g code tag : Nat) {f : Fld} (hc : ∀ e ∈ coreErrorFlds, f.code % 16384 ≠ e.code % 16384)
    (hf : ∀ e ∈ faultFlds, f.code % 16384 ≠ e.code % 16384) (i k : Nat) : (s.coreFault g code tag).fld f i k = s.fld f i k := by
  rw [State.coreFault, State.fld_enterFault _ _ _ hf, (KeptBut.coreError s g code tag).fld _ _ _ hc]

/-- A conflict is noted, where none is. -/
def State.conflictNoted (s : State) (bank owner later tick : Nat) : State :=
  let t := ((s.setFld .POOL_CONFLICT_LOC_DIE (bank / 256)).setFld .POOL_CONFLICT_LOC_BANK (bank % 256)).setFld .POOL_CONFLICT_LOC_TICK tick
  ((t.setFld .POOL_CONFLICT_LOC_VALID 1).setFld .POOL_CONFLICT_CORES_OWNER owner).setFld .POOL_CONFLICT_CORES_LATER later

/-- The fields that note a conflict. -/
def conflictFlds : List Fld := [.POOL_CONFLICT_LOC_DIE, .POOL_CONFLICT_LOC_BANK, .POOL_CONFLICT_LOC_TICK, .POOL_CONFLICT_LOC_VALID,
  .POOL_CONFLICT_CORES_OWNER, .POOL_CONFLICT_CORES_LATER]

theorem KeptBut.conflictNoted (s : State) (bank owner later tick : Nat) : KeptBut s (s.conflictNoted bank owner later tick) conflictFlds :=
  (((((((KeptBut.refl s conflictFlds).setFld (f := .POOL_CONFLICT_LOC_DIE) (by decide) _ _ _).setFld (f := .POOL_CONFLICT_LOC_BANK) (by decide)
    _ _ _).setFld (f := .POOL_CONFLICT_LOC_TICK) (by decide) _ _ _).setFld (f := .POOL_CONFLICT_LOC_VALID) (by decide) _ _ _).setFld
    (f := .POOL_CONFLICT_CORES_OWNER) (by decide) _ _ _).setFld (f := .POOL_CONFLICT_CORES_LATER) (by decide) _ _ _)

section Conflict
variable {s : State} (hv : s.flag .POOL_CONFLICT_LOC_VALID = false)
include hv

theorem State.poolConflict_eq (bank owner later tick tag : Nat) : s.poolConflict bank owner later tick tag =
    ((s.conflictNoted bank owner later tick).setCore later { s.core later with cp := .error }).coreFault later E_POOL_CONFLICT tag := by
  unfold State.poolConflict
  rw [if_neg (by simp [hv])]
  rfl

/-- The first conflict is recorded with its cores. -/
theorem State.fld_poolConflict {owner later : Nat} (ho : owner < 6144) (hl : later < 6144) (bank tick tag : Nat) :
    (s.poolConflict bank owner later tick tag).fld .POOL_CONFLICT_CORES_OWNER = owner ∧
    (s.poolConflict bank owner later tick tag).fld .POOL_CONFLICT_CORES_LATER = later ∧
    (s.poolConflict bank owner later tick tag).fld .POOL_CONFLICT_LOC_VALID = 1 := by
  rw [State.poolConflict_eq hv]
  refine ⟨?_, ?_, ?_⟩
  · rw [State.fld_coreFault _ _ _ _ (by decide) (by decide), State.fld_setCore, State.conflictNoted, State.fld_setFld_name _ (by decide),
      State.fld_setFld_self]
    exact Nat.mod_eq_of_lt (by rw [show Fld.POOL_CONFLICT_CORES_OWNER.width = 13 from rfl]; omega)
  · rw [State.fld_coreFault _ _ _ _ (by decide) (by decide), State.fld_setCore, State.conflictNoted, State.fld_setFld_self]
    exact Nat.mod_eq_of_lt (by rw [show Fld.POOL_CONFLICT_CORES_LATER.width = 13 from rfl]; omega)
  · rw [State.fld_coreFault _ _ _ _ (by decide) (by decide), State.fld_setCore, State.conflictNoted, State.fld_setFld_name _ (by decide),
      State.fld_setFld_name _ (by decide), State.fld_setFld_self]
    rfl

/-- The later core stops with the error, and its partition, where it runs, enters FAULT. -/
theorem State.poolConflict_fault {later : Nat} (he : s.fld .CORE_ERROR_CODE later = 0) (ha : (s.pstate (s.corePart later)).active = true)
    (bank owner tick tag : Nat) : (s.poolConflict bank owner later tick tag).mem = s.mem ∧
      ((s.poolConflict bank owner later tick tag).core later).cp = .error ∧
      (s.poolConflict bank owner later tick tag).fld .CORE_ERROR_CODE later = E_POOL_CONFLICT ∧
      (s.poolConflict bank owner later tick tag).pstate (s.corePart later) = .fault := by
  have hk := KeptBut.conflictNoted s bank owner later tick
  have hpart : ((s.conflictNoted bank owner later tick).setCore later { s.core later with cp := .error }).corePart later = s.corePart later :=
    State.corePart_congr (s := s) (fun q => hk.fld _ _ _ (by decide)) later
  have hcode : ((s.conflictNoted bank owner later tick).setCore later { s.core later with cp := .error }).fld .CORE_ERROR_CODE later = 0 :=
    (hk.fld _ _ _ (by decide)).trans he
  obtain ⟨h1, -, h3, h4⟩ := State.coreFault_spec hcode (code := E_POOL_CONFLICT) (by decide) tag
  rw [State.poolConflict_eq hv, State.core_coreFault, State.core_setCore_self]
  rw [hpart] at h4
  exact ⟨h3.trans hk.mem, rfl, h1, h4 ((congrArg _ (hk.pstate (by decide) _)).trans ha)⟩

end Conflict

/-- A write whose first bank is another core's in its tick meets it there. -/
theorem State.poolRequest_meets {s : State} {k : Pkt} {c : Nat} (hw : k.op = .memWrite) (hd : 0 < k.data.length)
    (ho : s.poolOwner (pktGroup k * 16 + k.addr / 32 % 16) k.tick = some (c, k.tick)) (hc : c ≠ pktOrigin k) :
    ∃ tag, s.poolRequest k = (s.poolArrived k).poolConflict (pktGroup k * 16 + k.addr / 32 % 16) c (pktOrigin k) k.tick tag := by
  obtain ⟨bs, hbs⟩ := pktBanks_cons hw hd
  have hm := State.poolMeetAll_other (s := s.poolArrived k) ho hc bs
  rw [State.poolRequest_eq, hbs, hm]
  exact ⟨_, rfl⟩

theorem poolRequests_conflict {k : Pkt} {c : Nat} {s : State} (hl : s.lands k = true) (hw : k.op = .memWrite) (hd : 0 < k.data.length)
    (ho : s.poolOwner (pktGroup k * 16 + k.addr / 32 % 16) k.tick = some (c, k.tick)) (hc : c ≠ pktOrigin k)
    (hv : s.flag .POOL_CONFLICT_LOC_VALID = false) (h1 : c < 6144) (h2 : pktOrigin k < 6144)
    (ha : (s.pstate (s.corePart (pktOrigin k))).active = true) (he : s.fld .CORE_ERROR_CODE (pktOrigin k) = 0) :
    Completes (.poolRequestArrive k []) s (fun t => t.mem = s.mem ∧ t.fld .POOL_CONFLICT_CORES_OWNER = c ∧
      t.fld .POOL_CONFLICT_CORES_LATER = pktOrigin k ∧ t.fld .POOL_CONFLICT_LOC_VALID = 1 ∧ (t.core (pktOrigin k)).cp = .error ∧
      t.fld .CORE_ERROR_CODE (pktOrigin k) = E_POOL_CONFLICT ∧ t.pstate (s.corePart (pktOrigin k)) = .fault) := by
  obtain ⟨tag, htag⟩ := State.poolRequest_meets (s := s.reached k) hw hd ho hc
  obtain ⟨hown, hlat, hval⟩ := State.fld_poolConflict (s := (s.reached k).poolArrived k) hv h1 h2 (pktGroup k * 16 + k.addr / 32 % 16) k.tick tag
  obtain ⟨hmem, hcp, hcode, hst⟩ := State.poolConflict_fault (s := (s.reached k).poolArrived k) hv he ha (pktGroup k * 16 + k.addr / 32 % 16) c
    k.tick tag
  refine ⟨_, execPoolRequestArrive_alone hl, ?_⟩
  beta_reduce
  rw [htag]
  exact ⟨hmem, hown, hlat, hval, hcp, hcode, hst⟩

/-- Whether a packet lands is a matter of the registers, of what is on the fabric, and of the loader. -/
theorem State.lands_congr {s t : State} (hr : t.regs = s.regs) (hf : t.flight = s.flight) (hl : t.loader = s.loader) (k : Pkt) :
    t.lands k = s.lands k := by
  have hfld := State.fld_of_regs hr
  have hoff : @State.offDevice t = @State.offDevice s := by
    funext p k
    rw [State.offDevice, State.offDevice, State.ownRank_of_regs hr]
  have hnode : @State.routingNode t = @State.routingNode s := by
    funext k
    rw [State.routingNode, State.routingNode, hoff]
  have hsame : @State.sameStream t = @State.sameStream s := by
    funext j k
    rw [State.sameStream, State.sameStream, hnode, State.channel, State.channel, State.channel, State.channel, State.classVc, State.classVc,
      State.classVc, State.classVc, hfld]
  rw [State.lands, State.lands, State.mayLand, State.mayLand, State.overtakes, State.overtakes, State.sharedPaused, State.sharedPaused,
    State.fenced, State.fenced, hsame, hf, hl, hnode, hoff, hfld, State.corePart_of_regs hr]

/-- A write whose banks no other core has reached in its tick, and which is not the last of its transfer, is stored; its banks are its core's. -/
theorem State.poolRequest_stored {k : Pkt} {s : State} (ht : k.tick < 256) (hfree : ∀ b ∈ pktBanks k, s.poolFree (pktOrigin k) k.tick b)
    (hw : k.op = .memWrite) (hf : k.final = false) :
    (s.poolRequest k).regs = s.regs ∧ (s.poolRequest k).flight = s.flight ∧ (s.poolRequest k).loader = s.loader ∧
    ∀ b ∈ pktBanks k, (s.poolRequest k).poolOwner b k.tick = some (pktOrigin k, k.tick) := by
  obtain ⟨u, ⟨⟨o, how⟩, howned, -⟩, hserved⟩ := State.poolRequest_free ht hfree
  obtain ⟨b, hst⟩ := u.poolStored_eq k
  rw [hserved, poolServed_write hw, if_neg (by simp [hf]), hst]
  refine ⟨?_, ?_, ?_, howned⟩ <;> · rw [how]; rfl

theorem byCore_pair {j k : Pkt} (h : pktOrigin k < pktOrigin j) : byCore j [k] = [k, j] := if_neg (Nat.lt_asymm h)

/-- Two requests that come together: that of the lower core is served first (05 R177). -/
theorem execPoolRequestArrive_pair {j k : Pkt} {s : State} (h : pktOrigin k < pktOrigin j) (hk : s.lands k = true)
    (hj : ((s.reached k).poolRequest k).lands j = true) :
    exec (.poolRequestArrive j [k]) s = .next ((((s.reached k).poolRequest k).reached j).poolRequest j) := by
  have hf : exec (.poolRequestArrive j [k]) s =
    .next ((byCore j [k]).foldl (fun s i => s.arriveAt (pktBlock i) i (fun s => s.poolRequest i)) s) := rfl
  rw [hf, byCore_pair h, List.foldl_cons, State.arriveAt_lands hk, List.foldl_cons, State.arriveAt_lands hj, List.foldl_nil]

theorem poolRequests_rival {j k : Pkt} {s : State} (hflight : s.flight = []) (hj : s.lands j = true) (hk : s.lands k = true)
    (hwj : j.op = .memWrite) (hwk : k.op = .memWrite) (hdj : 0 < j.data.length) (hdk : 0 < k.data.length) (hf : k.final = false)
    (htick : j.tick = k.tick) (ht : k.tick < 256) (hgroup : pktGroup j = pktGroup k) (haddr : j.addr = k.addr)
    (hlt : pktOrigin k < pktOrigin j) (hlast : pktOrigin j < 6144) (howners : s.owners = []) (hv : s.flag .POOL_CONFLICT_LOC_VALID = false) :
    Completes (.poolRequestArrive j [k]) s (fun t => t.fld .POOL_CONFLICT_CORES_OWNER = pktOrigin k ∧
      t.fld .POOL_CONFLICT_CORES_LATER = pktOrigin j ∧ t.fld .POOL_CONFLICT_LOC_VALID = 1) := by
  have hfree (b : Nat) : (s.reached k).poolFree (pktOrigin k) k.tick b := by
    intro c hc
    rw [State.poolOwner, show (s.reached k).owners = [] from howners] at hc
    cases hc
  obtain ⟨hregs, hfl, hload, hown⟩ := State.poolRequest_stored (s := s.reached k) ht (fun b _ => hfree b) hwk hf
  have hbank : pktGroup j * 16 + j.addr / 32 % 16 ∈ pktBanks k := by
    obtain ⟨bs, hbs⟩ := pktBanks_cons hwk hdk
    rw [hgroup, haddr, hbs]
    exact List.mem_cons_self
  have hempty : (s.reached k).flight = s.flight := by
    rw [hflight]
    exact congrArg (List.eraseP _) hflight
  have hpair := execPoolRequestArrive_pair (s := s) hlt hk
  generalize (s.reached k).poolRequest k = u at *
  have hlands : u.lands j = true := (State.lands_congr (s := s) hregs (hfl.trans hempty) hload j).trans hj
  have hmeet : (u.reached j).poolOwner (pktGroup j * 16 + j.addr / 32 % 16) j.tick = some (pktOrigin k, j.tick) := by
    rw [htick]
    exact hown _ hbank
  obtain ⟨tag, htag⟩ := State.poolRequest_meets hwj hdj hmeet (Nat.ne_of_lt hlt)
  have hvalid : u.flag .POOL_CONFLICT_LOC_VALID = false := by
    rw [State.flag, State.fld_of_regs hregs]
    exact hv
  refine ⟨_, hpair hlands, ?_⟩
  beta_reduce
  rw [htag]
  exact State.fld_poolConflict (s := (u.reached j).poolArrived j) hvalid (Nat.lt_trans hlt hlast) hlast _ _ _

/-- Settles O20: a request reaches its banks one after another, which changes only their owners; where no other core has reached them in the tick
it is served, and where its first bank is another core's the conflict is recorded. -/
theorem poolRequests : Obligations.PoolRequests := by
  refine ⟨?_, ?_, ?_, ?_⟩
  · intro k s hl ho ht group core hfree hgroup hf hrank
    exact poolRequests_write hl ht hfree hgroup hrank ho hf
  · intro k s hl ho ht hbad group core hfree hgroup hs hrank
    exact poolRequests_read hl ht hfree hgroup hrank ho hbad hs
  · intro k c s hl hw hd _ group core ho hc hv h1 h2 ha he
    exact poolRequests_conflict hl hw hd ho hc hv h1 h2 ha he
  · intro j k s hflight hj hk hwj hwk hdj hdk hf htick ht hnode hunit haddr _ hlt hlast howners hv
    exact poolRequests_rival hflight hj hk hwj hwk hdj hdk hf htick ht (by rw [pktGroup, hnode, hunit, pktGroup]) haddr hlt hlast howners hv

end Sys2Proof.Machine
end

section
/-! PROOFS. Handle, window and counter-declaration entries, committed or refused (05 R161, R162, R166; 06 R192). -/
namespace Sys2Proof.Machine
open Sys2Proof

/-! ### An entry of a core is written, and its index moves on -/

section Index
variable {s t : State} {idx : Fld} {g : Nat} (auto : Fld)

theorem State.autoAdvance_eq (s : State) (idx auto : Fld) (g : Nat) : s.autoAdvance idx auto g = { s with regs := (s.autoAdvance idx auto g).regs } := by
  unfold State.autoAdvance
  split <;> rfl

theorem RegsBut.autoAdvance (h : RegsBut s t [(idx, g)]) (hi : idx.code < 16384) : RegsBut s (t.autoAdvance idx auto g) [(idx, g)] := by
  unfold State.autoAdvance
  split
  · exact h.setFld (t.fld idx g + 1) 0 hi (by simp)
  · exact h

/-- A core's record is replaced, and an index of the core moves on if it is to. -/
theorem State.entryWritten (hs : t = { s with held := t.held }) (c : Core) (hi : idx.code < 16384) :
    let u := (t.setCore g c).autoAdvance idx auto g
    u.core g = c ∧ u = { s with regs := u.regs, cores := u.cores, held := u.held } ∧ (∀ h, h ≠ g → u.core h = s.core h) ∧ RegsBut s u [(idx, g)] := by
  have hcore (h : Nat) : ((t.setCore g c).autoAdvance idx auto g).core h = (t.setCore g c).core h := by
    rw [State.autoAdvance_eq]
    rfl
  refine ⟨?_, ?_, fun h hne => ?_, RegsBut.autoAdvance auto ?_ hi⟩
  · rw [hcore, State.core_setCore_self]
  · rw [State.autoAdvance_eq, hs]
    rfl
  · rw [hcore, State.core_setCore_ne _ _ hne, hs]
    rfl
  · rw [hs]
    exact RegsBut.of_regs rfl _

end Index

/-! ### The halves of an entry (00 R9) -/

/-- The held low half of a pair is used up. -/
def State.heldUsed (s : State) (party : Party) (a : Nat) : State := { s with held := bankSet 0 s.held (pairKey party a) 0 }

section Used
variable (s : State) (party : Party) (a : Nat)

theorem State.commitPair_eq (cur hi : Nat) : s.commitPair party a cur hi = ((s.commitPair party a cur hi).1, s.heldUsed party a) := rfl

@[simp] theorem State.patchable_heldUsed (p : Nat) : (s.heldUsed party a).patchable p = s.patchable p := rfl
@[simp] theorem State.corePart_heldUsed (g : Nat) : (s.heldUsed party a).corePart g = s.corePart g := rfl
@[simp] theorem State.handleRefused_heldUsed (p i v : Nat) : (s.heldUsed party a).handleRefused p i v = s.handleRefused p i v := rfl
@[simp] theorem State.windowRefused_heldUsed (p i v : Nat) : (s.heldUsed party a).windowRefused p i v = s.windowRefused p i v := rfl
@[simp] theorem State.core_heldUsed (g : Nat) : (s.heldUsed party a).core g = s.core g := rfl

end Used

/-! ### The three families of entries -/

section Commit
variable {party : Party} {g hi v : Nat} {s : State} (hp : party ≠ .mgmt) (ha : s.patchable (s.corePart g) = true)
include hp ha

section Handle
variable (hv : (s.commitPair party (coreAddr g 0x404) (s.handle g (s.fld .HANDLE_INDEX_INDEX g) % 2 ^ 32) hi).1 = v)
include hv

/-- What a write of HANDLE_HI does where the partition may be patched (05 R161). -/
theorem State.handleCommit_patchable : s.handleCommit party g hi =
    if s.handleRefused (s.corePart g) (s.fld .HANDLE_INDEX_INDEX g) v then (s.heldUsed party (coreAddr g 0x404)).entryReject g E_SPAD_HANDLE_INVALID
    else ((s.heldUsed party (coreAddr g 0x404)).setCore g { s.core g with
      handles := bankSet 0 (s.core g).handles (s.fld .HANDLE_INDEX_INDEX g) v }).autoAdvance .HANDLE_INDEX_INDEX .HANDLE_INDEX_AUTO g := by
  rw [State.handleCommit, if_neg hp]
  dsimp only
  rw [State.commitPair_eq, hv]
  simp only [State.patchable_heldUsed, State.corePart_heldUsed, ha, Bool.not_true, Bool.false_eq_true, if_false]
  rfl

theorem handleEntryCommit_commits (hr : s.handleRefused (s.corePart g) (s.fld .HANDLE_INDEX_INDEX g) v = false) :
    Completes (.handleEntryCommit party g hi) s (fun t => t.handle g (s.fld .HANDLE_INDEX_INDEX g) = v ∧
      (∀ j, j ≠ s.fld .HANDLE_INDEX_INDEX g → t.handle g j = s.handle g j) ∧ t = { s with regs := t.regs, cores := t.cores, held := t.held } ∧
      (∀ h, h ≠ g → t.core h = s.core h) ∧ RegsBut s t [(.HANDLE_INDEX_INDEX, g)]) := by
  refine ⟨_, congrArg Host.Outcome.next (State.handleCommit_patchable hp ha hv), ?_⟩
  beta_reduce
  rw [if_neg (by simp [hr])]
  obtain ⟨hcore, hst, hcores, hregs⟩ := State.entryWritten (s := s) (t := s.heldUsed party (coreAddr g 0x404)) (idx := .HANDLE_INDEX_INDEX)
    (g := g) .HANDLE_INDEX_AUTO rfl { s.core g with handles := bankSet 0 (s.core g).handles (s.fld .HANDLE_INDEX_INDEX g) v } (by decide)
  refine ⟨?_, fun j hj => ?_, hst, hcores, hregs⟩
  · rw [State.handle, hcore, bankGet_bankSet_self]
  · rw [State.handle, hcore, bankGet_bankSet_ne _ _ _ _ hj, State.handle]

theorem handleEntryCommit_refuses (hr : s.handleRefused (s.corePart g) (s.fld .HANDLE_INDEX_INDEX g) v = true) :
    Completes (.handleEntryCommit party g hi) s (fun t => t.fld .SPAD_CFG_STATUS_REJECT g = 1 ∧ t.fld .SPAD_CFG_STATUS_CODE g = E_SPAD_HANDLE_INVALID ∧
      t = { s with regs := t.regs, held := t.held } ∧ RegsBut s t [(.SPAD_CFG_STATUS_REJECT, g), (.SPAD_CFG_STATUS_CODE, g)]) := by
  refine ⟨_, congrArg Host.Outcome.next (State.handleCommit_patchable hp ha hv), ?_⟩
  beta_reduce
  rw [if_pos hr, State.entryReject]
  refine ⟨?_, ?_, rfl, ?_⟩
  · rw [State.fld_setFld_name _ (by decide), State.fld_setFld_self]
    rfl
  · rw [State.fld_setFld_self]
    rfl
  · have h0 : RegsBut s (s.heldUsed party (coreAddr g 0x404)) [(.SPAD_CFG_STATUS_REJECT, g), (.SPAD_CFG_STATUS_CODE, g)] := RegsBut.of_regs rfl _
    exact (h0.setFld (g := .SPAD_CFG_STATUS_REJECT) 1 0 (by decide) (by simp)).setFld (g := .SPAD_CFG_STATUS_CODE) _ 0 (by decide) (by simp)

end Handle

/-- A window entry that is allowed is committed (05 R166). -/
theorem windowEntryCommit_commits
    (hv : (s.commitPair party (coreAddr g 0x410) (s.window g (s.fld .WINDOW_INDEX_INDEX g) % 2 ^ 32) hi).1 = v)
    (hr : s.windowRefused (s.corePart g) (s.fld .WINDOW_INDEX_INDEX g) v = false) :
    Completes (.windowEntryCommit party g hi) s (fun t => t.window g (s.fld .WINDOW_INDEX_INDEX g) = v ∧
      (∀ j, j ≠ s.fld .WINDOW_INDEX_INDEX g → t.window g j = s.window g j) ∧ t = { s with regs := t.regs, cores := t.cores, held := t.held } ∧
      (∀ h, h ≠ g → t.core h = s.core h) ∧ RegsBut s t [(.WINDOW_INDEX_INDEX, g)]) := by
  have hc : s.windowCommit party g hi = ((s.heldUsed party (coreAddr g 0x410)).setCore g { s.core g with
      windows := bankSet 0 (s.core g).windows (s.fld .WINDOW_INDEX_INDEX g) v }).autoAdvance .WINDOW_INDEX_INDEX .WINDOW_INDEX_AUTO g := by
    rw [State.windowCommit, if_neg hp]
    dsimp only
    rw [State.commitPair_eq, hv]
    simp [ha, hr]
  obtain ⟨hcore, hst, hcores, hregs⟩ := State.entryWritten (s := s) (t := s.heldUsed party (coreAddr g 0x410)) (idx := .WINDOW_INDEX_INDEX)
    (g := g) .WINDOW_INDEX_AUTO rfl { s.core g with windows := bankSet 0 (s.core g).windows (s.fld .WINDOW_INDEX_INDEX g) v } (by decide)
  refine ⟨_, congrArg Host.Outcome.next hc, ?_, fun j hj => ?_, hst, hcores, hregs⟩
  · rw [State.window, hcore, bankGet_bankSet_self]
  · rw [State.window, hcore, bankGet_bankSet_ne _ _ _ _ hj, State.window]

/-- A counter declaration that is allowed is committed (06 R192). -/
theorem syncDeclCommit_commits
    (hv : (s.commitPair party (coreAddr g 0x504) (s.decl g (s.fld .SYNC_DECL_INDEX_INDEX g) % 2 ^ 32) hi).1 = v) (hr : declRefused v = false) :
    Completes (.syncDeclCommit party g hi) s (fun t => t.decl g (s.fld .SYNC_DECL_INDEX_INDEX g) = v ∧
      (∀ j, j ≠ s.fld .SYNC_DECL_INDEX_INDEX g → t.decl g j = s.decl g j) ∧ t = { s with regs := t.regs, cores := t.cores, held := t.held } ∧
      (∀ h, h ≠ g → t.core h = s.core h) ∧ RegsBut s t [(.SYNC_DECL_INDEX_INDEX, g)]) := by
  have hc : s.syncDeclCommit party g hi = ((s.heldUsed party (coreAddr g 0x504)).setCore g { s.core g with
      decls := bankSet 0 (s.core g).decls (s.fld .SYNC_DECL_INDEX_INDEX g) v }).autoAdvance .SYNC_DECL_INDEX_INDEX .SYNC_DECL_INDEX_AUTO g := by
    rw [State.syncDeclCommit, if_neg hp]
    dsimp only
    rw [State.commitPair_eq, hv]
    simp [ha, hr]
  obtain ⟨hcore, hst, hcores, hregs⟩ := State.entryWritten (s := s) (t := s.heldUsed party (coreAddr g 0x504)) (idx := .SYNC_DECL_INDEX_INDEX)
    (g := g) .SYNC_DECL_INDEX_AUTO rfl { s.core g with decls := bankSet 0 (s.core g).decls (s.fld .SYNC_DECL_INDEX_INDEX g) v } (by decide)
  refine ⟨_, congrArg Host.Outcome.next hc, ?_, fun j hj => ?_, hst, hcores, hregs⟩
  · rw [State.decl, hcore, bankGet_bankSet_self]
  · rw [State.decl, hcore, bankGet_bankSet_ne _ _ _ _ hj, State.decl]

end Commit

/-- A valid handle entry with no bank, with a size of no or too many words, or beyond the last row, is refused (05 R161). -/
theorem State.handleRefused_of_shape {v : Nat} (hv : hValid v = true)
    (h : hMask v = 0 ∨ hSize v = 0 ∨ 16384 < hSize v ∨ 1024 < hBase v + hRows v) (p i : Nat) (s : State) : s.handleRefused p i v = true := by
  simp only [State.handleRefused, hv, Bool.true_and, Bool.or_eq_true, decide_eq_true_eq]
  tauto

/-- Settles O18: an entry that is allowed replaces the indexed one and moves the index on, one that is refused is recorded. -/
theorem entryCommits : Obligations.EntryCommits := by
  refine ⟨?_, ?_, ?_, ?_, ?_, ?_⟩
  · intro party g hi v s hp ha hv hr
    exact handleEntryCommit_commits hp ha hv hr
  · intro party g hi v s hp ha hv hr
    exact handleEntryCommit_refuses hp ha hv hr
  · intro party g hi v s hp ha hv hr
    exact windowEntryCommit_commits hp ha hv hr
  · intro party g hi v s hp ha hv hr
    exact syncDeclCommit_commits hp ha hv hr
  · intro v hv h p i s
    exact State.handleRefused_of_shape hv h p i s
  · intro party lo hi cur s a _ hhi h
    rw [State.commitPair_of_held h, Nat.mod_eq_of_lt hhi]

end Sys2Proof.Machine
end

section
/-! PROOFS. Remote writes and reads at their target (05 R168 to R170; 07 R224, R230, R232). -/
namespace Sys2Proof.Machine
open Sys2Proof

/-! ### A packet that has arrived -/

/-- What a packet that lands, in a cycle of its own or in that of the event before, has changed before it has its effect. -/
structure Arrived (s u : State) (k : Pkt) : Prop where
  eq : u = { s with parts := u.parts, flight := u.flight, gives := u.gives }
  noProg : (u.part k.part).noProg = 0

theorem State.inCycle_eq (s : State) (tied : Bool) : s.inCycle tied = { s with gives := (s.inCycle tied).gives } := by
  cases tied <;> rfl

theorem State.arrived_reached (s : State) (k : Pkt) (tied : Bool) : Arrived s ((s.inCycle tied).reached k) k := by
  refine ⟨?_, State.noProg_reached ..⟩
  cases tied <;> rfl

theorem State.arriveAt_inCycle {s : State} {k : Pkt} (h : s.lands k = true) (tied : Bool) (f : State → State) :
    (s.inCycle tied).arriveAt (pktBlock k) k f = f ((s.inCycle tied).reached k) :=
  State.arriveAt_lands (by cases tied <;> exact h) f

namespace Arrived
variable {s u : State} {k : Pkt} (h : Arrived s u k)
include h

theorem regs : u.regs = s.regs := by rw [h.eq]
theorem mem : u.mem = s.mem := by rw [h.eq]
theorem cores : u.cores = s.cores := by rw [h.eq]
theorem outs : u.outs = s.outs := by rw [h.eq]
theorem outbox : u.outbox = s.outbox := by rw [h.eq]
theorem core (g : Nat) : u.core g = s.core g := by rw [State.core, h.cores, State.core]
theorem handle (g n : Nat) : u.handle g n = s.handle g n := by rw [State.handle, h.core, State.handle]
theorem tagPart (tag : Nat) : u.tagPart tag = s.tagPart tag := by rw [h.eq]; rfl
theorem corePart (g : Nat) : u.corePart g = s.corePart g := State.corePart_of_regs h.regs g
theorem pstate (p : Nat) : u.pstate p = s.pstate p := State.pstate_of_regs h.regs p
theorem handleCode (g n : Nat) (perm : Perm) (off len align : Nat) : u.handleCode g n perm off len align = s.handleCode g n perm off len align := by
  rw [h.eq]; rfl
theorem inLanding (p v off len : Nat) : u.inLanding p v off len = s.inLanding p v off len := by rw [h.eq]; rfl
theorem xferOf (j : Pkt) : u.xferOf j = s.xferOf j := by rw [State.xferOf, h.core, State.xferOf]
theorem hRead (g n off len : Nat) : u.hRead g n off len = s.hRead g n off len := by rw [h.eq]; rfl
theorem mustHold (p : Nat) (j : Pkt) : u.mustHold p j = s.mustHold p j := by rw [h.eq]; rfl

theorem spadBut {t : State} {g : Nat} {rs : List HRange} (hb : SpadBut u t g rs) : SpadBut s t g rs := by
  rw [SpadBut] at hb ⊢
  simpa only [h.mem, h.handle] using hb

end Arrived

/-! ### Bytes that land in a range of a handle (05 R155, R168; 07 R230) -/

/-- Between the two states only what is known of the words of core g has changed. -/
structure WordsOnly (s t : State) (g : Nat) : Prop where
  rest : t = { s with cores := t.cores }
  others : ∀ h, h ≠ g → t.core h = s.core h
  core : t.core g = { s.core g with bad := (t.core g).bad, corrections := (t.core g).corrections }

theorem WordsOnly.refl (s : State) (g : Nat) : WordsOnly s s g := ⟨rfl, fun _ _ => rfl, rfl⟩

theorem WordsOnly.setCore {s t : State} {g : Nat} (h : WordsOnly s t g) (bad : List (Nat × Nat)) (corrections : List Nat) :
    WordsOnly s (t.setCore g { t.core g with bad := bad, corrections := corrections }) g := by
  obtain ⟨hrest, hothers, hcore⟩ := h
  refine ⟨?_, fun h hne => (State.core_setCore_ne _ _ hne).trans (hothers h hne), ?_⟩
  · rw [hrest]
    rfl
  · rw [State.core_setCore_self, hcore]

theorem WordsOnly.landBad {s t : State} {g : Nat} (h : WordsOnly s t g) (ws bad : List Nat) : WordsOnly s (t.landBad g ws bad) g := by
  refine List.foldlRecOn (motive := fun u : State => WordsOnly s u g) (ws.zip bad) _ h fun u hu x _ => ?_
  split
  · exact hu
  · exact hu.setCore _ _

/-- Bytes arrive in a range, whole words of it, and bring the bad words of their packet. -/
def State.arrivesIn (s : State) (g v off : Nat) (data : List Byte) (bad : List Nat) : State :=
  ((s.hPut g v off data).freshWords g (hWords v off data.length)).landBad g (hWords v off data.length) bad

theorem State.arrivesIn_wordsOnly (s : State) (g v off : Nat) (data : List Byte) (bad : List Nat) :
    WordsOnly (s.hPut g v off data) (s.arrivesIn g v off data bad) g :=
  ((WordsOnly.refl _ g).setCore _ _).landBad _ _

section ArrivesIn
variable (s : State) (g v off : Nat) (data : List Byte) (bad : List Nat)

theorem State.arrivesIn_mem : (s.arrivesIn g v off data bad).mem = (s.hPut g v off data).mem := by
  rw [(s.arrivesIn_wordsOnly g v off data bad).rest]

theorem State.arrivesIn_eq : s.arrivesIn g v off data bad =
    { s with cores := (s.arrivesIn g v off data bad).cores, mem := (s.arrivesIn g v off data bad).mem } := by
  have h := (s.arrivesIn_wordsOnly g v off data bad).rest
  rw [s.hPut_eq g v off data] at h
  rw [s.arrivesIn_mem g v off data bad, s.hPut_eq g v off data]
  exact h

theorem State.core_arrivesIn_ne {h : Nat} (hne : h ≠ g) : (s.arrivesIn g v off data bad).core h = s.core h := by
  rw [(s.arrivesIn_wordsOnly g v off data bad).others h hne, s.hPut_eq g v off data]
  rfl

theorem State.xfers_arrivesIn : ((s.arrivesIn g v off data bad).core g).xfers = (s.core g).xfers := by
  rw [(s.arrivesIn_wordsOnly g v off data bad).core, s.hPut_eq g v off data]
  rfl

/-- Nothing outside the range changes. -/
theorem State.spadBut_arrivesIn (n : Nat) (hv : s.handle g n = v) :
    SpadBut s (s.arrivesIn g v off data bad) g [{ h := n, off := off, len := data.length }] := by
  rw [SpadBut, s.arrivesIn_mem]
  refine ⟨congrArg State.mem (s.hPut_eq g v off data), fun key hk => State.hPut_spad_ne fun j hj => ?_⟩
  have := hk _ (List.mem_singleton.mpr rfl) j hj
  rwa [hv] at this

/-- Each byte lands at its own address. -/
theorem State.spadByte_arrivesIn (hm : hMask v ≠ 0) (hb : hBase v + hRows v ≤ 1024) (hsize : off + data.length ≤ hSize v * 32) {j : Nat} {b : Byte}
    (hj : data[j]? = some b) : (s.arrivesIn g v off data bad).spadByte g (hAddr v (off + j)) = b := by
  obtain ⟨hlt, rfl⟩ := List.getElem?_eq_some_iff.mp hj
  rw [State.spadByte, s.arrivesIn_mem]
  refine State.hPut_spad_at (fun i hi n hn he => ?_) hlt
  have := hAddr_inj hm hb (by omega) (by omega) he
  omega

end ArrivesIn

/-! ### A remote write at its target (05 R168) -/

section Write
variable {k : Pkt} {q : Nat} {s : State} (ht : s.tagPart k.tag = some q) (hd : xferKey k ∉ (s.core (pktCore k)).dropped)
include ht hd

theorem State.remoteWrite_lands (hc : s.handleCode (pktCore k) k.handle .rwr k.off k.data.length 32 = 0)
    (hin : s.inLanding (s.corePart (pktCore k)) (s.handle (pktCore k) k.handle) k.off k.data.length = true) (hf : k.final = false ∨ k.sig = false) :
    s.remoteWrite k = s.arrivesIn (pktCore k) (s.handle (pktCore k) k.handle) k.off k.data k.bad := by
  have hsig : (k.final && k.sig) = false := by rcases hf with h | h <;> simp [h]
  rw [State.remoteWrite, ht]
  dsimp only
  rw [if_neg (by simpa using hd), if_neg (by simp [hc, hin]), if_neg (by simp [hsig])]
  rfl

/-- A write that fails the checks is counted, and so is no later packet of its transfer. -/
theorem State.remoteWrite_rejects (hc : s.handleCode (pktCore k) k.handle .rwr k.off k.data.length 32 ≠ 0) :
    s.remoteWrite k = (if k.final then s else s.setCore (pktCore k)
      { s.core (pktCore k) with dropped := (s.core (pktCore k)).dropped ++ [xferKey k] }).remoteReject (pktCore k) := by
  rw [State.remoteWrite, ht]
  dsimp only
  rw [if_neg (by simpa using hd), if_pos (by simp [hc])]

end Write

/-- A rejection at a partition that does not run is counted and has no other effect. -/
theorem State.remoteReject_quiet {s : State} {g : Nat} (h : (s.pstate (s.corePart g)).active = false) :
    s.remoteReject g = s.addFld .SPAD_REMOTE_REJECT 1 g := by
  have hst : ((s.addFld .SPAD_REMOTE_REJECT 1 g).pstate ((s.addFld .SPAD_REMOTE_REJECT 1 g).corePart g)).active = false := by
    have hk := (KeptBut.refl s [Fld.SPAD_REMOTE_REJECT]).addFld (f := .SPAD_REMOTE_REJECT) (by decide) 1 g 0
    rw [State.corePart_congr (s := s) (fun q => hk.fld _ _ _ (by decide)) g, hk.pstate (by decide), h]
  rw [State.remoteReject, if_neg (by simp [hst])]

theorem remoteWriteArrive_lands {k : Pkt} {q j : Nat} {b : Byte} {s : State} (hl : s.lands k = true) (ht : s.tagPart k.tag = some q)
    (hd : xferKey k ∉ (s.core (pktCore k)).dropped) (hc : s.handleCode (pktCore k) k.handle .rwr k.off k.data.length 32 = 0)
    (hin : s.inLanding (s.corePart (pktCore k)) (s.handle (pktCore k) k.handle) k.off k.data.length = true) (hf : k.final = false ∨ k.sig = false)
    (hm : hMask (s.handle (pktCore k) k.handle) ≠ 0)
    (hb : hBase (s.handle (pktCore k) k.handle) + hRows (s.handle (pktCore k) k.handle) ≤ 1024) (hj : k.data[j]? = some b) (tied : Bool) :
    Completes (.remoteWriteArrive k tied) s (fun t => t.spadByte (pktCore k) (hAddr (s.handle (pktCore k) k.handle) (k.off + j)) = b ∧
      SpadBut s t (pktCore k) [{ h := k.handle, off := k.off, len := k.data.length }] ∧ t.regs = s.regs ∧ t.outs = s.outs ∧
      (t.part k.part).noProg = 0 ∧ ∀ h, h ≠ pktCore k → t.core h = s.core h) := by
  refine ⟨_, congrArg Host.Outcome.next (State.arriveAt_inCycle hl tied _), ?_⟩
  have hu := s.arrived_reached k tied
  generalize (s.inCycle tied).reached k = u at hu
  beta_reduce
  rw [State.remoteWrite_lands ((hu.tagPart _).trans ht) (by rwa [hu.core]) ((hu.handleCode ..).trans hc)
    (by rwa [hu.inLanding, hu.corePart, hu.handle]) hf, hu.handle]
  have hbound := State.bounds_of_handleCode hc
  have hspad := u.spadBut_arrivesIn (pktCore k) _ k.off k.data k.bad k.handle (hu.handle (pktCore k) k.handle)
  have hrest := u.arrivesIn_eq (pktCore k) (s.handle (pktCore k) k.handle) k.off k.data k.bad
  refine ⟨u.spadByte_arrivesIn _ _ _ _ _ hm hb hbound hj, hu.spadBut hspad, ?_, ?_, ?_, fun h hne => ?_⟩
  · rw [hrest, ← hu.regs]
  · rw [hrest, ← hu.outs]
  · rw [hrest]
    exact hu.noProg
  · rw [State.core_arrivesIn_ne _ _ _ _ _ _ hne, hu.core]

theorem remoteWriteArrive_rejects {k : Pkt} {q : Nat} {s : State} (hl : s.lands k = true) (ht : s.tagPart k.tag = some q)
    (hd : xferKey k ∉ (s.core (pktCore k)).dropped) (hc : s.handleCode (pktCore k) k.handle .rwr k.off k.data.length 32 ≠ 0)
    (ha : (s.pstate (s.corePart (pktCore k))).active = false) (tied : Bool) :
    Completes (.remoteWriteArrive k tied) s (fun t => t.fld .SPAD_REMOTE_REJECT (pktCore k) = (s.fld .SPAD_REMOTE_REJECT (pktCore k) + 1) % 2 ^ 32 ∧
      t.mem = s.mem ∧ t.outs = s.outs ∧ RegsBut s t [(.SPAD_REMOTE_REJECT, pktCore k)] ∧
      (k.final = false → xferKey k ∈ (t.core (pktCore k)).dropped)) := by
  refine ⟨_, congrArg Host.Outcome.next (State.arriveAt_inCycle hl tied _), ?_⟩
  have hu := s.arrived_reached k tied
  generalize (s.inCycle tied).reached k = u at hu
  beta_reduce
  rw [State.remoteWrite_rejects ((hu.tagPart _).trans ht) (by rwa [hu.core]) (by rwa [hu.handleCode])]
  obtain ⟨w, hw⟩ : ∃ w, w = if k.final then u else u.setCore (pktCore k)
    { u.core (pktCore k) with dropped := (u.core (pktCore k)).dropped ++ [xferKey k] } := ⟨_, rfl⟩
  rw [← hw]
  have hregs : w.regs = s.regs := by rw [hw, ← hu.regs]; split <;> rfl
  have hmem : w.mem = s.mem := by rw [hw, ← hu.mem]; split <;> rfl
  have houts : w.outs = s.outs := by rw [hw, ← hu.outs]; split <;> rfl
  rw [State.remoteReject_quiet (by rwa [State.corePart_of_regs hregs, State.pstate_of_regs hregs])]
  refine ⟨?_, hmem, houts, (RegsBut.of_regs hregs _).setFld (g := .SPAD_REMOTE_REJECT) _ 0 (by decide) (by simp), fun hf => ?_⟩
  · rw [State.addFld, State.fld_setFld_self, State.fld_of_regs hregs]
    rfl
  · rw [State.core_addFld, hw, if_neg (by simp [hf]), State.core_setCore_self]
    simp

/-! ### What is sent as soon as it may go (07 R219; 09 R289) -/

section Post
variable {s : State} (ho : s.outbox = [])
include ho

/-- Where nothing waits, what is posted is tried at once. -/
theorem State.post_alone (p : Nat) (j : Pkt) : s.post p j = s.sendOrWait p j := by
  have hs : ({ s with outbox := [] } : State) = s := by rw [← ho]
  have hf : (s.queueOut p j).flush = (s.outbox ++ [(p, j)]).foldl (fun s e => s.sendOrWait e.1 e.2) { s with outbox := [] } := rfl
  rw [State.post, hf, hs, ho]
  rfl

theorem State.post_sends {p : Nat} {j : Pkt} (hh : s.mustHold p j = false) (hc : s.injectCode p j = 0) : s.post p j = s.inject p j := by
  rw [State.post_alone ho, State.sendOrWait, if_neg (by simp [hh]), if_pos hc]

theorem State.post_waits {p : Nat} {j : Pkt} (hh : s.mustHold p j = true) : s.post p j = { s with outbox := [(p, j)] } := by
  rw [State.post_alone ho, State.sendOrWait, if_pos hh, ho]
  rfl

end Post

/-- A response to a unit of the device always has a way (07 R227). -/
theorem State.injectCode_response {s : State} {p : Nat} {j : Pkt} (ho : s.offDevice p j = false) (hr : onRsp j = true) : s.injectCode p j = 0 := by
  rw [State.injectCode, if_neg (by simp [ho]), if_pos (by simp [hr])]

/-- Whether an injection waits is a matter of these fields, of the loader, of the job slots and of the time. -/
def holdFlds : List Fld := rankFlds ++ ([.SLOT_STATUS_SWITCH_PENDING, .SLEEVE_STATUS_STATE, .SLEEVE_STATUS_BLOCK, .ARM_STATUS_STATE,
  .TIME_OFFSET_LO, .TIME_OFFSET_HI, .TIME_RATE_LO, .TIME_RATE_HI] : List Fld)

theorem State.mustHold_congr {s t : State} (h : t = { s with regs := t.regs, cores := t.cores }) (hf : ∀ f ∈ holdFlds, ∀ i, t.fld f i = s.fld f i)
    (p : Nat) (j : Pkt) : t.mustHold p j = s.mustHold p j := by
  have hload : t.loader = s.loader := by rw [h]
  have hslots : t.jobSlots = s.jobSlots := by rw [h]
  have hraw : t.raw = s.raw := by rw [h]
  have hclock : t.clock = s.clock := by rw [h]
  have hrank : ∀ q, t.ownRank q = s.ownRank q := State.ownRank_congr (fun f hm => hf f (List.mem_append_left _ hm))
  have hrun : t.runSlot p = s.runSlot p := by
    simp only [State.runSlot, hf .SLOT_STATUS_STATE (by decide), hf .SLOT_CFG_KIND (by decide), hf .SLOT_CFG_PARTITION (by decide)]
  have hnow : t.now = s.now := by
    rw [State.now, State.now, State.rateGain, State.rateGain, State.timeRate, State.timeRate, State.timeOff, State.timeOff, State.fld64,
      State.fld64, State.fld64, State.fld64, hf .TIME_OFFSET_LO (by decide), hf .TIME_OFFSET_HI (by decide), hf .TIME_RATE_LO (by decide),
      hf .TIME_RATE_HI (by decide), hraw, hclock]
  have hguard (i : Nat) : t.inGuard i = s.inGuard i := by
    rw [State.inGuard, State.inGuard, State.flag, State.flag, hf .SLOT_STATUS_SWITCH_PENDING (by decide), hslots, State.timeReached,
      State.timeReached, hnow]
  have hwaits : t.injectionWaits p = s.injectionWaits p := by
    rw [State.injectionWaits, State.injectionWaits, hrun]
    cases s.runSlot p with
    | none => rfl
    | some i =>
      dsimp only
      rw [hf .SLOT_STATUS_STATE (by decide), hguard]
  have hshut : t.diesShut j.srcNode = s.diesShut j.srcNode := by
    rw [State.diesShut, State.diesShut, hload, hf .SLEEVE_STATUS_STATE (by decide), hf .SLEEVE_STATUS_BLOCK (by decide)]
  rw [State.mustHold, State.mustHold, State.shared, State.shared, State.offDevice, State.offDevice, State.sharedPaused, State.sharedPaused,
    hrank, hwaits, hshut, hload, hf .ARM_STATUS_STATE (by decide)]

/-! ### A remote read at its target (05 R169; 07 R230) -/

/-- Words are read, and the correctable ones of them counted. -/
def State.wordsRead (s : State) (g : Nat) (ws : List Nat) : State := ws.foldl (fun s w => s.readWordCount g w) s

theorem State.readWordCount_counts (s : State) (g w : Nat) : s.readWordCount g w = { s with regs := (s.readWordCount g w).regs, cores := (s.readWordCount g w).cores } ∧
    RegsBut s (s.readWordCount g w) [(.SPAD_CE, g)] := by
  unfold State.readWordCount
  split
  · exact ⟨rfl, RegsBut.setFld (t := s.setCore g _) (g := .SPAD_CE) (RegsBut.refl s _) _ 0 (by decide) (by simp)⟩
  · exact ⟨rfl, RegsBut.refl s _⟩

theorem State.wordsRead_counts (s : State) (g : Nat) (ws : List Nat) : s.wordsRead g ws = { s with regs := (s.wordsRead g ws).regs, cores := (s.wordsRead g ws).cores } ∧
    RegsBut s (s.wordsRead g ws) [(.SPAD_CE, g)] := by
  refine List.foldlRecOn (motive := fun t : State => t = { s with regs := t.regs, cores := t.cores } ∧ RegsBut s t [(.SPAD_CE, g)]) ws _
    ⟨rfl, RegsBut.refl s _⟩ fun t ht w _ => ?_
  obtain ⟨heq, hregs⟩ := ht
  obtain ⟨h1, h2⟩ := t.readWordCount_counts g w
  refine ⟨?_, hregs.trans h2⟩
  rw [h1, heq]

/-- The answer to a read that passes its checks. -/
def readAnswer (k : Pkt) (data : List Byte) (bad : List Nat) : Pkt := { answer k .readResp with data := data, bad := bad }

/-- The answer to a read that fails them. -/
def readRefusal (k : Pkt) : Pkt := { answer k .errorResp with code := E_SPAD_REMOTE_REJECT }

theorem State.mustHold_readAnswer (s : State) (p : Nat) (k : Pkt) (data : List Byte) (bad : List Nat) :
    s.mustHold p (readAnswer k data bad) = s.mustHold p (Machine.answer k .readResp) := rfl

theorem State.mustHold_readRefusal (s : State) (p : Nat) (k : Pkt) : s.mustHold p (readRefusal k) = s.mustHold p (Machine.answer k .errorResp) := rfl

theorem State.remoteRead_answers {s : State} {k : Pkt} {p : Nat} (ht : s.tagPart k.tag = some p)
    (hc : s.handleCode (pktCore k) k.handle .rr k.off k.len 32 = 0) : ∃ ws bad, s.remoteRead k = (s.wordsRead (pktCore k) ws).post p
      (readAnswer k (s.hRead (pktCore k) k.handle k.off k.len) bad) := by
  refine ⟨hWords (s.handle (pktCore k) k.handle) k.off k.len, (hWords (s.handle (pktCore k) k.handle) k.off k.len).map (fun w =>
    if uncorrectable (s.badBytes (pktCore k) w) then s.badBytes (pktCore k) w else 0), ?_⟩
  rw [State.remoteRead, ht]
  dsimp only
  rw [if_neg (not_not.mpr hc)]
  rfl

/-- A read that fails its checks is answered with the error. -/
theorem State.remoteRead_refuses {s : State} {k : Pkt} {p : Nat} (ht : s.tagPart k.tag = some p)
    (hc : s.handleCode (pktCore k) k.handle .rr k.off k.len 32 ≠ 0) :
    s.remoteRead k = (s.remoteReject (pktCore k)).post p (readRefusal k) := by
  rw [State.remoteRead, ht]
  dsimp only
  rw [if_pos hc]
  rfl

/-- Where only the cores' records and one counter have changed, an answer to a unit of the device is sent, or waits, as it would have been. -/
theorem State.post_answer {s u : State} {p g : Nat} {f : Fld} {j : Pkt} (heq : u = { s with regs := u.regs, cores := u.cores })
    (hregs : RegsBut s u [(f, g)]) (hn : ∀ e ∈ holdFlds, e.code < 16384 ∧ e.code ≠ f.code) (ho : s.outbox = []) :
    (s.mustHold p j = true → u.post p j = { u with outbox := [(p, j)] }) ∧
    (s.mustHold p j = false → j.dstRank = s.ownRank p → onRsp j = true →
      u.post p j = u.inject p j ∧ (u.inject p j).outs = s.outs ++ [.packet { j with part := p }]) := by
  have hfld (e : Fld) (he : e ∈ holdFlds) (i : Nat) : u.fld e i = s.fld e i := by
    obtain ⟨hlt, hne⟩ := hn e he
    exact hregs e i 0 hlt (by simp [hne])
  have hhold := State.mustHold_congr heq hfld p j
  have hout : u.outbox = [] := by rw [heq]; exact ho
  refine ⟨fun hh => State.post_waits hout (hhold.trans hh), fun hh hr hon => ?_⟩
  have hoff : u.offDevice p j = false :=
    State.offDevice_of_ownRank (hr.trans (State.ownRank_congr (fun e he => hfld e (List.mem_append_left _ he)) p).symm)
  refine ⟨State.post_sends hout (hhold.trans hh) (State.injectCode_response hoff hon), ?_⟩
  rw [State.outs_inject hoff, show u.outs = s.outs by rw [heq]]

section Read
variable {k : Pkt} {p : Nat} {s : State} (hl : s.lands k = true) (ht : s.tagPart k.tag = some p)

section Reads
include hl ht

/-- What a read that passes its checks leaves before it is answered. -/
theorem remoteReadArrive_reads (hc : s.handleCode (pktCore k) k.handle .rr k.off k.len 32 = 0) :
    ∃ u bad, exec (.remoteReadArrive k) s = .next (u.post p (readAnswer k (s.hRead (pktCore k) k.handle k.off k.len) bad)) ∧
      u = { s.reached k with regs := u.regs, cores := u.cores } ∧ RegsBut (s.reached k) u [(.SPAD_CE, pktCore k)] := by
  obtain ⟨ws, bad, hread⟩ := State.remoteRead_answers (s := s.reached k) ht hc
  obtain ⟨heq, hregs⟩ := (s.reached k).wordsRead_counts (pktCore k) ws
  refine ⟨_, bad, congrArg Host.Outcome.next ((State.arriveAt_lands hl _).trans hread), heq, hregs⟩

end Reads

variable (ho : s.outbox = [])
include hl ht ho

theorem remoteReadArrive_answers (hr : k.srcRank = s.ownRank p) (hh : s.mustHold p (answer k .readResp) = false)
    (hc : s.handleCode (pktCore k) k.handle .rr k.off k.len 32 = 0) :
    Completes (.remoteReadArrive k) s (fun t => t.mem = s.mem ∧
      (∃ bad, .packet { answer k .readResp with part := p, data := s.hRead (pktCore k) k.handle k.off k.len, bad := bad } ∈ t.outs) ∧
      RegsBut s t [(.SPAD_CE, pktCore k)]) := by
  obtain ⟨u, bad, hex, heq, hregs⟩ := remoteReadArrive_reads hl ht hc
  obtain ⟨-, hsend⟩ := State.post_answer (j := readAnswer k (s.hRead (pktCore k) k.handle k.off k.len) bad) (p := p) heq hregs (by decide) ho
  obtain ⟨hpost, houts⟩ := hsend hh hr rfl
  have hmem : u.mem = s.mem := by rw [heq]; rfl
  have hk := KeptBut.inject u p (readAnswer k (s.hRead (pktCore k) k.handle k.off k.len) bad)
  refine ⟨_, hex, ?_⟩
  beta_reduce
  rw [hpost]
  refine ⟨hk.mem.trans hmem, ⟨bad, ?_⟩, hregs.trans fun f i l _ _ => hk.fld f i l (by simp)⟩
  rw [houts]
  exact List.mem_append_right _ (List.mem_singleton.mpr rfl)

theorem remoteReadArrive_waits (hh : s.mustHold p (answer k .readResp) = true) (hc : s.handleCode (pktCore k) k.handle .rr k.off k.len 32 = 0) :
    Completes (.remoteReadArrive k) s (fun t => t.mem = s.mem ∧ t.outs = s.outs ∧
      ∃ bad, t.outbox = [(p, { answer k .readResp with data := s.hRead (pktCore k) k.handle k.off k.len, bad := bad })]) := by
  obtain ⟨u, bad, hex, heq, hregs⟩ := remoteReadArrive_reads hl ht hc
  obtain ⟨hwait, -⟩ := State.post_answer (j := readAnswer k (s.hRead (pktCore k) k.handle k.off k.len) bad) (p := p) heq hregs (by decide) ho
  have hmem : u.mem = s.mem := by rw [heq]; rfl
  have houts : u.outs = s.outs := by rw [heq]; rfl
  refine ⟨_, hex, ?_⟩
  beta_reduce
  rw [hwait hh]
  exact ⟨hmem, houts, bad, rfl⟩

theorem remoteReadArrive_refuses (hr : k.srcRank = s.ownRank p) (hh : s.mustHold p (answer k .errorResp) = false)
    (hc : s.handleCode (pktCore k) k.handle .rr k.off k.len 32 ≠ 0) (ha : (s.pstate (s.corePart (pktCore k))).active = false) :
    Completes (.remoteReadArrive k) s (fun t => t.mem = s.mem ∧
      .packet { answer k .errorResp with part := p, code := E_SPAD_REMOTE_REJECT } ∈ t.outs) := by
  have hrej := State.remoteReject_quiet (s := s.reached k) (g := pktCore k) ha
  obtain ⟨u, hu⟩ : ∃ u, u = (s.reached k).addFld .SPAD_REMOTE_REJECT 1 (pktCore k) := ⟨_, rfl⟩
  have heq : u = { s.reached k with regs := u.regs, cores := u.cores } := by rw [hu]; rfl
  have hregs : RegsBut (s.reached k) u [(.SPAD_REMOTE_REJECT, pktCore k)] := by
    rw [hu]
    exact (RegsBut.refl _ _).setFld (g := .SPAD_REMOTE_REJECT) (j := pktCore k) _ 0 (by decide) (List.mem_singleton.mpr rfl)
  obtain ⟨-, hsend⟩ := State.post_answer (j := readRefusal k) (p := p) heq hregs (by decide) ho
  obtain ⟨hpost, houts⟩ := hsend hh hr rfl
  have hmem : u.mem = s.mem := by rw [heq]; rfl
  refine ⟨_, congrArg Host.Outcome.next (State.arriveAt_lands hl _), ?_⟩
  beta_reduce
  rw [State.remoteRead_refuses (s := s.reached k) ht hc, hrej, ← hu, hpost]
  refine ⟨(KeptBut.inject u p (readRefusal k)).mem.trans hmem, ?_⟩
  rw [houts]
  exact List.mem_append_right _ (List.mem_singleton.mpr rfl)

end Read

/-! ### Packets that do not arrive (07 R224, R232) -/

/-- The fence turns away a packet that may reach its unit. -/
theorem State.arriveAt_fenced {s : State} {k : Pkt} (hf : k.fits = true) (hm : s.mayLand k = true) (hn : s.fenced k.dstNode k = true)
    (b : Option Nat) (f : State → State) : s.arriveAt b k f = s.fenceDrop k.dstNode 6 k := by
  rw [State.arriveAt, if_neg (by simp [hf, hm]), if_pos hn]

/-- A packet that would overtake another of its stream changes nothing. -/
theorem State.arriveAt_overtakes {s : State} {k : Pkt} (h : s.overtakes k = true) (b : Option Nat) (f : State → State) : s.arriveAt b k f = s := by
  rw [State.arriveAt, if_pos (by simp [State.mayLand, h])]

/-- The fields that an error of the fabric can write (07 R236). -/
def fabErrorFlds : List Fld := .FAB_ERROR_CODE :: .FAB_ERROR_MULTI :: eventFlds ++
  ([.FAB_ERROR_INFO_NODE, .FAB_ERROR_INFO_EDGE, .FAB_ERROR_INFO_PARTITION, .FAB_ERROR_INFO_VALID] : List Fld) ++ vectorFlds

/-- The first fabric error's place is noted. -/
def State.fabPlace (s : State) (node edge p : Nat) : State :=
  if s.flag .FAB_ERROR_INFO_VALID then s
  else ((s.setFld .FAB_ERROR_INFO_NODE node).setFld .FAB_ERROR_INFO_EDGE edge).setFld .FAB_ERROR_INFO_PARTITION p |>.setFld .FAB_ERROR_INFO_VALID 1

theorem KeptBut.fabPlace (s : State) (node edge p : Nat) : KeptBut s (s.fabPlace node edge p)
    [.FAB_ERROR_INFO_NODE, .FAB_ERROR_INFO_EDGE, .FAB_ERROR_INFO_PARTITION, .FAB_ERROR_INFO_VALID] :=
  .ite (.refl s _) (((((KeptBut.refl s _).setFld (f := .FAB_ERROR_INFO_NODE) (by decide) _ _ _).setFld (f := .FAB_ERROR_INFO_EDGE) (by decide) _ _
    _).setFld (f := .FAB_ERROR_INFO_PARTITION) (by decide) _ _ _).setFld (f := .FAB_ERROR_INFO_VALID) (by decide) _ _ _)

theorem State.fabError_eq (s : State) (node edge p code : Nat) :
    s.fabError node edge p code = ((s.recordFirst .FAB_ERROR_CODE .FAB_ERROR_MULTI code).fabPlace node edge p).raiseVector 0 := rfl

theorem KeptBut.fabError (s : State) (node edge p code : Nat) : KeptBut s (s.fabError node edge p code) fabErrorFlds := by
  rw [State.fabError_eq]
  exact (((KeptBut.recordFirst s .FAB_ERROR_CODE .FAB_ERROR_MULTI code 0).mono (fs := fabErrorFlds) (by decide)).andThen
    (.fabPlace _ node edge p) (by decide)).andThen (.raiseVector _ 0) (by decide)

/-- The first code is kept. -/
theorem State.fld_fabError_code {s : State} (h : s.fld .FAB_ERROR_CODE = 0) (node edge p code : Nat) :
    (s.fabError node edge p code).fld .FAB_ERROR_CODE = code % 2 ^ 16 := by
  rw [State.fabError_eq, (KeptBut.raiseVector _ 0).fld _ _ _ (by decide), (KeptBut.fabPlace _ node edge p).fld _ _ _ (by decide),
    State.recordFirst, if_pos h, (KeptBut.queueEvent _ _).fld _ _ _ (by decide), State.fld_setFld_self]
  rfl

/-- What the fence discards is counted and recorded, and reaches no unit. -/
theorem State.fenceDrop_spec {s : State} (h : s.fld .FAB_ERROR_CODE = 0) (n : Nat) (k : Pkt) :
    (s.fenceDrop n 6 k).fld .FAB_FENCE_DROP n = (s.fld .FAB_FENCE_DROP n + 1) % 2 ^ 32 ∧ (s.fenceDrop n 6 k).fld .FAB_ERROR_CODE = E_FAB_FENCE ∧
    (s.fenceDrop n 6 k).mem = s.mem ∧ (s.fenceDrop n 6 k).cores = s.cores ∧
    ∀ g c, (s.fenceDrop n 6 k).fld .SYNC_GIVEN g c = s.fld .SYNC_GIVEN g c := by
  obtain ⟨u, hu⟩ : ∃ u, u = (s.leavesFabric k).addFld .FAB_FENCE_DROP 1 n := ⟨_, rfl⟩
  have hd : s.fenceDrop n 6 k = (u.fabError n 6 k.part E_FAB_FENCE).enterFault k.part E_FAB_FENCE := by rw [State.fenceDrop, hu]
  have hk := KeptBut.fabError u n 6 k.part E_FAB_FENCE
  have hku : KeptBut s u [.FAB_FENCE_DROP] := by
    rw [hu]
    exact (KeptBut.of_eq rfl rfl rfl rfl : KeptBut s (s.leavesFabric k) [.FAB_FENCE_DROP]).addFld (by decide) 1 n 0
  rw [hd]
  refine ⟨?_, ?_, ?_, ?_, fun g c => ?_⟩
  · rw [State.fld_enterFault _ _ _ (by decide), hk.fld _ _ _ (by decide), hu, State.addFld, State.fld_setFld_self]
    rfl
  · rw [State.fld_enterFault _ _ _ (by decide), State.fld_fabError_code ((hku.fld _ _ _ (by decide)).trans h)]
    rfl
  · obtain ⟨-, hmem⟩ := (u.fabError n 6 k.part E_FAB_FENCE).enterFault_keeps k.part E_FAB_FENCE
    rw [hmem, hk.mem, hku.mem]
  · rw [State.cores_enterFault, hk.cores, hku.cores]
  · rw [State.fld_enterFault _ _ _ (by decide), hk.fld _ _ _ (by decide), hku.fld _ _ _ (by decide)]

/-- The packets that the statement names are handled where they arrive. -/
theorem exec_arrivals (k : Pkt) (tied : Bool) (s : State) : ∀ c ∈ [Instr.remoteWriteArrive k tied, .remoteReadArrive k, .readRespArrive k tied, .givePacketArrive k tied],
    ∃ b f, exec c s = .next ((s.inCycle b).arriveAt (pktBlock k) k f) := by
  simp only [List.forall_mem_cons, List.not_mem_nil, false_imp_iff, implies_true, and_true]
  exact ⟨⟨tied, _, rfl⟩, ⟨true, _, rfl⟩, ⟨tied, _, rfl⟩, ⟨tied, _, rfl⟩⟩

theorem arrivals_fenced {k : Pkt} {s : State} (hf : k.fits = true) (hm : s.mayLand k = true) (hn : s.fenced k.dstNode k = true)
    (he : s.fld .FAB_ERROR_CODE = 0) (tied : Bool) :
    ∀ c ∈ [Instr.remoteWriteArrive k tied, .remoteReadArrive k, .readRespArrive k tied, .givePacketArrive k tied],
      Completes c s (fun t => t.fld .FAB_FENCE_DROP k.dstNode = (s.fld .FAB_FENCE_DROP k.dstNode + 1) % 2 ^ 32 ∧ t.fld .FAB_ERROR_CODE = E_FAB_FENCE ∧
        t.mem = s.mem ∧ t.cores = s.cores ∧ ∀ c, t.fld .SYNC_GIVEN (pktCore k) c = s.fld .SYNC_GIVEN (pktCore k) c) := by
  intro c hc
  obtain ⟨b, f, hex⟩ := exec_arrivals k tied s c hc
  have heq := s.inCycle_eq b
  generalize s.inCycle b = u at hex heq
  have hd : u.arriveAt (pktBlock k) k f = u.fenceDrop k.dstNode 6 k :=
    State.arriveAt_fenced hf (by rw [heq]; exact hm) (by rw [heq]; exact hn) _ _
  have hfld : @State.fld u = @State.fld s := State.fld_of_regs (by rw [heq])
  have hmem : u.mem = s.mem := by rw [heq]
  have hcores : u.cores = s.cores := by rw [heq]
  obtain ⟨h1, h2, h3, h4, h5⟩ := State.fenceDrop_spec (s := u) (by rw [hfld, he]) k.dstNode k
  refine ⟨_, hex, ?_⟩
  beta_reduce
  rw [hd, ← hfld]
  exact ⟨h1, h2, h3.trans hmem, h4.trans hcores, h5 _⟩

theorem arrivals_overtaking {k : Pkt} {s : State} (h : s.overtakes k = true) (tied : Bool) :
    ∀ c ∈ [Instr.remoteWriteArrive k tied, .remoteReadArrive k, .readRespArrive k tied, .givePacketArrive k tied],
      Completes c s (fun t => t = { s with gives := t.gives }) := by
  intro c hc
  obtain ⟨b, f, hex⟩ := exec_arrivals k tied s c hc
  refine ⟨_, hex, ?_⟩
  beta_reduce
  rw [State.arriveAt_overtakes (s := s.inCycle b) (by rw [s.inCycle_eq b]; exact h)]
  exact s.inCycle_eq b

end Sys2Proof.Machine
end


section
/-! PROOFS. Responses and acknowledgements at the core that asked (05 R170, R181; 06 R196). -/
namespace Sys2Proof.Machine
open Sys2Proof

/-! ### A transfer steps on -/

/-- The transfers of a core when one of them steps on: it is forgotten when it expects nothing more. -/
def steppedXfers (l : List Xfer) (x : Xfer) : List Xfer :=
  if x.left = 0 ∧ x.acks = 0 then l.filter (fun y => y.id ≠ x.id) else l.map (fun y => if y.id = x.id then x else y)

/-- A transfer without a signal to give changes its core's transfers only. -/
theorem State.stepXfer_quiet {s : State} {g : Nat} {x : Xfer} (h : x.failed = true ∨ argOf x.args .sigAmount = 0) :
    s.stepXfer g x = s.setCore g { s.core g with xfers := steppedXfers (s.core g).xfers x } := by
  rw [State.stepXfer]
  dsimp only
  by_cases hx : x.left = 0 ∧ x.acks = 0
  · rw [if_pos (by simpa using hx), steppedXfers, if_pos hx]
    split
    · rfl
    · rename_i hf
      have hsig : argOf x.args .sigAmount = 0 := h.resolve_left hf
      exact if_pos (by simp [hsig])
  · rw [if_neg (by simpa using hx), steppedXfers, if_neg hx]

/-! ### Returning data (05 R170; 07 R230) -/

/-- Data that returns to a local destination lands there, and its transfer steps on. -/
theorem State.readResp_local {s : State} {k : Pkt} {x : Xfer} (hx : s.xferOf k = some x) (hk : argOf x.args .dstKind = 0) :
    s.readResp k = (s.arrivesIn (pktCore k) (s.handle (pktCore k) (argOf x.args .dstHandle)) (argOf x.args .dstOff + k.sub) k.data k.bad).stepXfer
      (pktCore k) { x with left := x.left - 1 } := by
  rw [State.readResp, hx]
  dsimp only
  rw [if_pos hk]
  rfl

theorem readRespArrive_lands {k : Pkt} {x : Xfer} {j : Nat} {b : Byte} {s : State} (hl : s.lands k = true) (hx : s.xferOf k = some x)
    (hk : argOf x.args .dstKind = 0) (hsig : argOf x.args .sigAmount = 0) (hacks : x.acks = 0)
    (hm : hMask (s.handle (pktCore k) (argOf x.args .dstHandle)) ≠ 0)
    (hb : hBase (s.handle (pktCore k) (argOf x.args .dstHandle)) + hRows (s.handle (pktCore k) (argOf x.args .dstHandle)) ≤ 1024)
    (hsize : argOf x.args .dstOff + k.sub + k.data.length ≤ 32 * hSize (s.handle (pktCore k) (argOf x.args .dstHandle)))
    (hj : k.data[j]? = some b) (tied : Bool) :
    Completes (.readRespArrive k tied) s (fun t =>
      t.spadByte (pktCore k) (hAddr (s.handle (pktCore k) (argOf x.args .dstHandle)) (argOf x.args .dstOff + k.sub + j)) = b ∧
      SpadBut s t (pktCore k) [{ h := argOf x.args .dstHandle, off := argOf x.args .dstOff + k.sub, len := k.data.length }] ∧ t.regs = s.regs ∧
      (x.left ≤ 1 → (t.core (pktCore k)).xfers = (s.core (pktCore k)).xfers.filter (fun y => y.id ≠ x.id)) ∧
      (1 < x.left → (t.core (pktCore k)).xfers = (s.core (pktCore k)).xfers.map (fun y => if y.id = x.id then { x with left := x.left - 1 } else y))) := by
  refine ⟨_, congrArg Host.Outcome.next (State.arriveAt_inCycle hl tied _), ?_⟩
  have hu := s.arrived_reached k tied
  generalize (s.inCycle tied).reached k = u at hu
  beta_reduce
  rw [State.readResp_local ((hu.xferOf k).trans hx) hk, hu.handle,
    State.stepXfer_quiet (x := { x with left := x.left - 1 }) (.inr hsig), State.xfers_arrivesIn, hu.core]
  have hbyte := u.spadByte_arrivesIn (pktCore k) _ (argOf x.args .dstOff + k.sub) k.data k.bad hm hb (by omega) hj
  have hspad := u.spadBut_arrivesIn (pktCore k) _ (argOf x.args .dstOff + k.sub) k.data k.bad (argOf x.args .dstHandle) (hu.handle ..)
  have hrest := u.arrivesIn_eq (pktCore k) (s.handle (pktCore k) (argOf x.args .dstHandle)) (argOf x.args .dstOff + k.sub) k.data k.bad
  have hregs := hu.regs
  generalize u.arrivesIn (pktCore k) _ _ _ _ = w at hbyte hspad hrest ⊢
  refine ⟨hbyte, hu.spadBut hspad, ?_, fun hleft => ?_, fun hleft => ?_⟩
  · rw [← hregs, hrest]
    rfl
  · rw [State.core_setCore_self, steppedXfers, if_pos ⟨Nat.sub_eq_zero_of_le hleft, hacks⟩]
  · rw [State.core_setCore_self, steppedXfers, if_neg (fun ⟨h, _⟩ => Nat.sub_ne_zero_of_lt hleft h)]

/-! ### Acknowledgements (05 R181; 06 R196) -/

theorem memoryAckArrive_steps {k : Pkt} {x : Xfer} {s : State} (hl : s.lands k = true) (hx : s.xferOf k = some x)
    (hsig : argOf x.args .sigAmount = 0) (tied : Bool) :
    Completes (.memoryAckArrive k tied) s (fun t => t.mem = s.mem ∧ t.regs = s.regs ∧ t.outs = s.outs ∧
      (t.core (pktCore k)).xfers = if x.left = 0 ∧ x.acks ≤ 1 then (s.core (pktCore k)).xfers.filter (fun y => y.id ≠ x.id)
        else (s.core (pktCore k)).xfers.map (fun y => if y.id = x.id then { x with acks := x.acks - 1 } else y)) := by
  refine ⟨_, congrArg Host.Outcome.next (State.arriveAt_inCycle hl tied _), ?_⟩
  have hu := s.arrived_reached k tied
  generalize (s.inCycle tied).reached k = u at hu
  have hack : u.memoryAck k = u.stepXfer (pktCore k) { x with acks := x.acks - 1 } := by
    rw [State.memoryAck, hu.xferOf, hx]
  beta_reduce
  rw [hack, State.stepXfer_quiet (x := { x with acks := x.acks - 1 }) (.inr hsig), State.core_setCore_self, hu.core]
  refine ⟨hu.mem, hu.regs, hu.outs, ?_⟩
  have hcond : (x.left = 0 ∧ x.acks - 1 = 0) ↔ (x.left = 0 ∧ x.acks ≤ 1) := by omega
  simp only [steppedXfers, hcond]

/-! ### Error responses (05 R170; 03 R90) -/

/-- A core's record when a transfer of it fails. -/
def Core.xferFailed (c : Core) (x : Xfer) : Core :=
  { c with xfers := c.xfers.map (fun y => if y.id = x.id then { y with failed := true } else y),
           started := c.started.filter (fun r => r.xfer ≠ some x.id), cp := .error }

/-- What a failing transfer changes before its error is recorded. -/
def State.xferEnded (s : State) (g : Nat) (x : Xfer) : State :=
  let t := s.setCore g ((s.core g).xferFailed x)
  if (s.core g).started.any (fun r => r.xfer = some x.id) then (t.progress (t.corePart g)).trace g 2 x.tag else t

theorem State.failXfer_eq (s : State) (g : Nat) (x : Xfer) (code : Nat) : s.failXfer g x code = (s.xferEnded g x).coreFault g code x.tag := rfl

theorem State.xferEnded_keeps (s : State) (g : Nat) (x : Xfer) : (s.xferEnded g x).mem = s.mem ∧ ((s.xferEnded g x).core g).cp = .error ∧
    ∀ f : Fld, f.code < 16384 → f.code ≠ Fld.OBS_TRACE_LOST.code → ∀ i, (s.xferEnded g x).fld f i = s.fld f i := by
  unfold State.xferEnded
  extract_lets t
  have hcore : (t.core g).cp = .error := congrArg Core.cp (State.core_setCore_self ..)
  split
  · refine ⟨State.mem_trace .., ?_, fun f hf hn i => State.fld_trace _ g 2 x.tag hf hn i 0⟩
    rw [State.core_trace]
    exact hcore
  · exact ⟨rfl, hcore, fun _ _ _ _ => rfl⟩

theorem errorRespArrive_fails {k : Pkt} {x : Xfer} {s : State} (hl : s.lands k = true) (hx : s.xferOf k = some x) (hcode : k.code < 2 ^ 16)
    (he : s.fld .CORE_ERROR_CODE (pktCore k) = 0) (ha : (s.pstate (s.corePart (pktCore k))).active = true) :
    Completes (.errorRespArrive k) s (fun t => t.fld .CORE_ERROR_CODE (pktCore k) = k.code ∧ (t.core (pktCore k)).cp = .error ∧
      t.pstate (s.corePart (pktCore k)) = .fault ∧ t.mem = s.mem) := by
  have herr : (s.reached k).errorResp k = ((s.reached k).failXfer (pktCore k) x k.code).stepXfer (pktCore k)
      { x with left := x.left - 1, acks := if x.left = 0 then x.acks - 1 else x.acks, failed := true } := by
    rw [State.errorResp, show (s.reached k).xferOf k = some x from hx]
  refine ⟨_, congrArg Host.Outcome.next (State.arriveAt_lands hl _), ?_⟩
  beta_reduce
  rw [herr, State.stepXfer_quiet (.inl rfl), State.failXfer_eq]
  obtain ⟨hmem, hcp, hfld⟩ := (s.reached k).xferEnded_keeps (pktCore k) x
  generalize (s.reached k).xferEnded (pktCore k) x = u at *
  have hpart : u.corePart (pktCore k) = s.corePart (pktCore k) :=
    State.corePart_congr (s := s) (fun q => hfld .ARM_QUAD_PARTITION (by decide) (by decide) q) _
  have hact : (u.pstate (u.corePart (pktCore k))).active = true := by
    rw [hpart, State.pstate, hfld _ (by decide) (by decide)]
    exact ha
  obtain ⟨h1, -, h3, h4⟩ := State.coreFault_spec ((hfld _ (by decide) (by decide) _).trans he) hcode x.tag
  have h4 := h4 hact
  rw [hpart] at h4
  rw [← State.core_coreFault u (pktCore k) k.code x.tag] at hcp
  generalize u.coreFault (pktCore k) k.code x.tag = w at *
  refine ⟨h1, ?_, h4, h3.trans hmem⟩
  rw [State.core_setCore_self]
  exact hcp

/-- Settles O19: a packet that lands has the effect that its checks allow, one that does not land has none, and a response or an acknowledgement
steps its transfer on. -/
theorem remoteAccess : Obligations.RemoteAccess := by
  refine ⟨?_, ?_, ?_, ?_, ?_, ?_, ?_, ?_, ?_, ?_⟩
  · intro k q j b tied s hl ht hd hc hin hf hm hb hj
    exact remoteWriteArrive_lands hl ht hd hc hin hf hm hb hj tied
  · intro k q tied s hl ht hd hc ha
    exact remoteWriteArrive_rejects hl ht hd hc ha tied
  · intro k p s hl ht hr ho hh hc
    exact remoteReadArrive_answers hl ht ho hr hh hc
  · intro k p s hl ht hr ho hh hc ha
    exact remoteReadArrive_refuses hl ht ho hr hh hc ha
  · intro k p s hl ht ho hh hc
    exact remoteReadArrive_waits hl ht ho hh hc
  · intro k tied s hf hm hn he
    exact arrivals_fenced hf hm hn he tied
  · intro k tied s h
    exact arrivals_overtaking h tied
  · intro k x j b tied s hl hx hk hsig hacks v hm hb hsize hj
    exact readRespArrive_lands hl hx hk hsig hacks hm hb hsize hj tied
  · intro k x s hl hx _ hcode he ha
    exact errorRespArrive_fails hl hx hcode he ha
  · intro k x tied s hl hx hsig
    exact memoryAckArrive_steps hl hx hsig tied

end Sys2Proof.Machine
end

section
/-! PROOFS. The sync counters (06 R188, R194, R195, R199, R200, Table 6.7): what a raise of GIVEN or TAKEN and the record of a sync error write,
and what a give comes to by its checks. -/
namespace Sys2Proof.Machine
open Sys2Proof

/-! ### Events of one cycle (06 R200) -/

/-- Where a cycle begins, goes on, or a give of it is noted, only what is noted of its gives differs. -/
structure OfCycle (s u : State) : Prop where
  eq : u = { s with gives := u.gives }

theorem State.ofCycle_inCycle (s : State) (tied : Bool) : OfCycle s (s.inCycle tied) := ⟨s.inCycle_eq tied⟩

theorem State.ofCycle_noteGive (s : State) (g c : Nat) (refused : Bool) : OfCycle s (s.noteGive g c refused) := ⟨rfl⟩

namespace OfCycle
variable {s u : State} (h : OfCycle s u)
include h

theorem fld : @State.fld u = @State.fld s := by rw [h.eq]; rfl
theorem regs : u.regs = s.regs := by rw [h.eq]
theorem mem : u.mem = s.mem := by rw [h.eq]
theorem outs : u.outs = s.outs := by rw [h.eq]
theorem core (g : Nat) : u.core g = s.core g := by rw [h.eq]; rfl
theorem corePart (g : Nat) : u.corePart g = s.corePart g := by rw [h.eq]; rfl
theorem bound (g c : Nat) : u.bound g c = s.bound g c := by rw [h.eq]; rfl
theorem dropMarked (p c : Nat) : u.dropMarked p c = s.dropMarked p c := by rw [h.eq]; rfl
theorem toRun (g id : Nat) (fam : Family) : u.toRun g id fam = s.toRun g id fam := by rw [h.eq]; rfl
theorem regsBut {t : State} {fs : List (Fld × Nat)} (hb : RegsBut u t fs) : RegsBut s t fs := (RegsBut.of_regs h.regs fs).trans hb

end OfCycle

/-! ### Counting -/

theorem State.fld_addFld_self (s : State) (f : Fld) (n i k : Nat) : (s.addFld f n i k).fld f i k = (s.fld f i k + n) % 2 ^ f.width :=
  State.fld_setFld_self ..

theorem State.noProg_progress {s : State} {p q : Nat} (h : q = p ∨ (s.part q).noProg = 0) : ((s.progress p).part q).noProg = 0 := by
  by_cases hq : q = p
  · rw [hq, State.progress, State.part_setPart_self]
  · rw [State.progress, State.part_setPart_ne _ _ hq]
    exact h.resolve_left hq

/-- A counter of a core rises: of the registers only that counter changes, and beside them the no-progress timer and the gives of the cycle. -/
structure Counted (s t : State) (f : Fld) (g c n : Nat) : Prop where
  raised : t.fld f g c = (s.fld f g c + n) % 2 ^ f.width
  others : ∀ d, d % 256 ≠ c % 256 → t.fld f g d = s.fld f g d
  regs : RegsBut s t [(f, g)]
  eq : t = { s with regs := t.regs, parts := t.parts, gives := t.gives }

theorem Counted.addFld {s t u : State} {f : Fld} {g c n : Nat} (hf : f.code < 16384) (hu : OfCycle s u)
    (ht : t = { u.addFld f n g c with parts := t.parts }) : Counted s t f g c n := by
  have hset : @State.fld t = @State.fld (u.addFld f n g c) := by rw [ht]; rfl
  refine ⟨?_, fun d hd => ?_, hu.regsBut ?_, by rw [ht, hu.eq]; rfl⟩
  · rw [hset, State.fld_addFld_self, hu.fld]
  · rw [hset, State.addFld, State.fld_setFld_ne _ _ (.inr (.inr hd)), hu.fld]
  · have hregs : RegsBut u (u.addFld f n g c) [(f, g)] := (RegsBut.refl u _).setFld _ c hf (by simp)
    intro h i k hh hn
    rw [hset]
    exact hregs h i k hh hn

theorem State.raiseGiven_counts (s : State) (g c n : Nat) : Counted s (s.raiseGiven g c n) .SYNC_GIVEN g c n :=
  .addFld (by decide) (s.ofCycle_noteGive g c false) rfl

theorem State.raiseTaken_counts (s : State) (g c n : Nat) : Counted s (s.raiseTaken g c n) .SYNC_TAKEN g c n := .addFld (by decide) ⟨rfl⟩ rfl

theorem State.noProg_raiseGiven {s : State} {g q : Nat} (h : q = s.corePart g ∨ (s.part q).noProg = 0) (c n : Nat) :
    ((s.raiseGiven g c n).part q).noProg = 0 := State.noProg_progress h

/-- What a covered TAKE (`take`) or WAIT leaves of the counter. -/
def State.takenBy (s : State) (take : Bool) (g c n : Nat) : State := if take then s.raiseTaken g c n else s

theorem State.takenBy_spec (s : State) (take : Bool) (g c n : Nat) :
    (s.takenBy take g c n).fld .SYNC_TAKEN g c = (if take then (s.fld .SYNC_TAKEN g c + n) % 2 ^ 32 else s.fld .SYNC_TAKEN g c) ∧
    RegsBut s (s.takenBy take g c n) [(.SYNC_TAKEN, g)] ∧
    s.takenBy take g c n = { s with regs := (s.takenBy take g c n).regs, parts := (s.takenBy take g c n).parts } := by
  cases take with
  | false => exact ⟨rfl, RegsBut.refl s _, rfl⟩
  | true =>
    obtain ⟨hraised, -, hregs, -⟩ := s.raiseTaken_counts g c n
    exact ⟨hraised, hregs, rfl⟩

/-! ### The record of a sync error (06 Table 6.7) -/

/-- The fields of the record. -/
def syncErrFlds : List Fld := [.SYNC_ERR_INFO_COUNTER, .SYNC_ERR_INFO_AMOUNT, .SYNC_ERR_INFO_BARRIER, .SYNC_ERR_INFO_IS_BARRIER,
  .SYNC_ERR_INFO_ARRIVED, .SYNC_ERR_INFO_VALID, .SYNC_ERR_RANK]

section ErrInfo
variable (s : State) (g counter amount barrier : Nat) (isBar arrived : Bool) (rank : Nat)

theorem KeptBut.syncErrInfo : KeptBut s (s.syncErrInfo g counter amount barrier isBar arrived rank) syncErrFlds :=
  .ite (.refl s _) ((((((((KeptBut.refl s syncErrFlds).setFld (f := .SYNC_ERR_INFO_COUNTER) (by decide) _ _ _).setFld
    (f := .SYNC_ERR_INFO_AMOUNT) (by decide) _ _ _).setFld (f := .SYNC_ERR_INFO_BARRIER) (by decide) _ _ _).setFld
    (f := .SYNC_ERR_INFO_IS_BARRIER) (by decide) _ _ _).setFld (f := .SYNC_ERR_INFO_ARRIVED) (by decide) _ _ _).setFld
    (f := .SYNC_ERR_INFO_VALID) (by decide) _ _ _).setFld (f := .SYNC_ERR_RANK) (by decide) _ _ _)

@[simp] theorem State.syncErrInfo_outs : (s.syncErrInfo g counter amount barrier isBar arrived rank).outs = s.outs := by
  unfold State.syncErrInfo
  split <;> rfl

theorem State.core_syncErrInfo (h : Nat) : (s.syncErrInfo g counter amount barrier isBar arrived rank).core h = s.core h :=
  (KeptBut.syncErrInfo ..).core h

/-- The first error is recorded with its counter. -/
theorem State.fld_syncErrInfo_first (hv : s.flag .SYNC_ERR_INFO_VALID g = false) :
    (s.syncErrInfo g counter amount barrier isBar arrived rank).fld .SYNC_ERR_INFO_COUNTER g = counter % 2 ^ 8 ∧
    (s.syncErrInfo g counter amount barrier isBar arrived rank).fld .SYNC_ERR_INFO_VALID g = 1 := by
  rw [State.syncErrInfo, if_neg (by simp [hv])]
  dsimp only
  constructor
  · iterate 6 rw [State.fld_setFld_name _ (by decide)]
    exact State.fld_setFld_self ..
  · rw [State.fld_setFld_name _ (by decide), State.fld_setFld_self]
    rfl

end ErrInfo

/-! ### The checks of a give (06 R199) -/

theorem KeptBut.noteGive (s : State) (g c : Nat) (refused : Bool) (fs : List Fld) : KeptBut s (s.noteGive g c refused) fs := .of_eq rfl rfl rfl rfl

section Give
variable {s : State} {g c n : Nat} (hb : s.bound g c ≠ 0)
include hb

theorem State.giveCode_fits (h : s.giveOverflows g c n = false) : s.giveCode g c n = 0 := by
  rw [State.giveCode, if_neg hb, if_neg (by simp [h])]

theorem State.giveCode_overflows (h : s.giveOverflows g c n = true) : s.giveCode g c n = E_SYNC_OVERFLOW := by
  rw [State.giveCode, if_neg hb, if_pos h]

theorem State.giveOwn_fits (h : s.giveOverflows g c n = false) : s.giveOwn g c n = { st := s.raiseGiven g c n } := if_pos (State.giveCode_fits hb h)

/-- A give beyond BOUND to a counter that is not marked for overflow drop. -/
theorem State.giveOwn_overflows (h : s.giveOverflows g c n = true) (hd : s.dropMarked (s.corePart g) c = false) :
    s.giveOwn g c n = (s.noteGive g c true).syncFail g c n E_SYNC_OVERFLOW := by
  have hne : E_SYNC_OVERFLOW ≠ 0 := by decide
  rw [State.giveOwn, State.giveCode_overflows hb h, if_neg hne, if_neg (by simp [hd])]
  rfl

theorem State.outsideGive_fits (h : s.giveOverflows g c n = false) (arrived : Bool) (rank : Nat) :
    s.outsideGive g c n arrived rank = s.raiseGiven g c n := if_pos (State.giveCode_fits hb h)

/-- A give from outside that is refused is counted, and ends the core's partition where it runs. -/
theorem State.outsideGive_overflows (h : s.giveOverflows g c n = true) (hd : s.dropMarked (s.corePart g) c = false)
    (ha : (s.pstate (s.corePart g)).active = true) (arrived : Bool) (rank : Nat) :
    s.outsideGive g c n arrived rank =
      (((s.noteGive g c true).addFld .SYNC_REMOTE_DROP 1 g).syncErrInfo g c n 0 false arrived rank).coreFault g E_SYNC_OVERFLOW 0 := by
  have hne : E_SYNC_OVERFLOW ≠ 0 := by decide
  have hact : (((s.noteGive g c true).addFld .SYNC_REMOTE_DROP 1 g).pstate (s.corePart g)).active = true := by
    rw [((KeptBut.refl (s.noteGive g c true) [Fld.SYNC_REMOTE_DROP]).addFld (f := .SYNC_REMOTE_DROP) (by decide) 1 g 0).pstate (by decide)]
    exact ha
  rw [State.outsideGive]
  dsimp only
  rw [State.giveCode_overflows hb h, if_neg hne, if_neg (by simp [hd])]
  exact if_pos hact

end Give

end Sys2Proof.Machine
end

section
/-! PROOFS. GIVE, TAKE and WAIT (06 R188, R194, R195, R200, Table 6.2). -/
namespace Sys2Proof.Machine
open Sys2Proof

/-! ### A sync operation in its cycle -/

theorem opCounter_lt (o : MacroOp) : opCounter o < 256 := Nat.mod_lt _ (by decide)

/-- An operation of the sync unit leaves what its effect does, in its cycle `u`. -/
theorem completes_in_cycle {c : Instr} {s u : State} {g id : Nat} {fam : Family} {f : State → MacroOp → Effect} {o : MacroOp} {post : State → Prop}
    (hu : OfCycle s u) (hc : exec c s = .next (u.runOp g id fam f)) (ho : s.toRun g id fam = some o) (ht : isHeavy fam = false)
    (hp : post ((f u o).finish g o)) : Completes c s post := by
  refine ⟨_, hc, ?_⟩
  rwa [State.runOp_eq ((hu.toRun ..).trans ho) (.inl ht)]

theorem State.started_ended (s : State) (g : Nat) (o : MacroOp) (err flags : Nat) :
    ((s.ended g o err flags).core g).started = doneRuns (s.core g).started o.id err flags := congrArg Core.started (State.core_ended ..)

/-- What an effect leaves that ends its operation. -/
theorem Effect.finish_ends (t : State) (err g : Nat) (o : MacroOp) : ({ st := t, err := err } : Effect).finish g o = t.ended g o err 0 := rfl

/-- What an effect leaves that blocks its operation. -/
theorem Effect.finish_blocks (t : State) (g : Nat) (o : MacroOp) :
    ({ st := t, blocks := true } : Effect).finish g o = t.setRun g o.id (fun r => { r with blocked := true }) := rfl

theorem State.started_setRun (s : State) (g id : Nat) (f : Running → Running) :
    ((s.setRun g id f).core g).started = (s.core g).started.map (fun r => if r.op.id = id then f r else r) :=
  congrArg Core.started (State.core_setCore_self ..)

theorem State.outs_trace (s : State) (g kind value : Nat) : (s.trace g kind value).outs = s.outs := by
  rcases s.trace_cases g kind value with h | h | ⟨l, h⟩ <;> rw [h] <;> rfl

theorem State.started_trace (s : State) (g kind value : Nat) : ((s.trace g kind value).core g).started = (s.core g).started := by
  rw [State.core_trace]

section Sync
variable {s : State} {g id n : Nat} {o : MacroOp} (hn : arg o .amount = n) (hpos : 0 < n) (tied : Bool)

/-! ### GIVE (06 Table 6.2) -/

section Give
variable (ho : s.toRun g id .give = some o) (hlt : n < 2 ^ 16) (hown : arg o .remote = 0)
include hn hpos hlt hown

/-- A GIVE to a counter of the own core. -/
theorem State.giveEffect_own (s : State) (full : List HeadWait) : State.giveEffect g full s o = s.giveOwn g (opCounter o) n := by
  rw [State.giveEffect, hn, Nat.mod_eq_of_lt hlt]
  dsimp only
  rw [if_neg (Nat.ne_of_gt hpos), if_pos hown]

include ho

theorem give_raises (hb : s.bound g (opCounter o) ≠ 0) (hf : (s.inCycle tied).giveOverflows g (opCounter o) n = false) :
    Completes (.give g id [] tied) s (fun t => t.fld .SYNC_GIVEN g (opCounter o) = (s.fld .SYNC_GIVEN g (opCounter o) + n) % 2 ^ 32 ∧
      (∀ c < 256, c ≠ opCounter o → t.fld .SYNC_GIVEN g c = s.fld .SYNC_GIVEN g c) ∧ RegsBut s t [(.SYNC_GIVEN, g)] ∧ t.mem = s.mem ∧ t.outs = s.outs ∧
      (t.core g).started = doneRuns (s.core g).started o.id 0 0 ∧ (t.part (s.corePart g)).noProg = 0) := by
  have hu := s.ofCycle_inCycle tied
  refine completes_in_cycle hu rfl ho rfl ?_
  generalize s.inCycle tied = u at hf hu
  rw [State.giveEffect_own hn hpos hlt hown, State.giveOwn_fits ((hu.bound ..).trans_ne hb) hf, Effect.finish_ends]
  obtain ⟨hraised, hothers, hregs, -⟩ := u.raiseGiven_counts g (opCounter o) n
  have hcore : (u.raiseGiven g (opCounter o) n).core g = u.core g := rfl
  have hc := opCounter_lt o
  refine ⟨hraised.trans (by rw [hu.fld]; rfl), fun c h256 hne => (hothers c (by omega)).trans (by rw [hu.fld]), hu.regsBut hregs, hu.mem,
    hu.outs, ?_, ?_⟩
  · rw [State.started_ended, hcore, hu.core]
  · exact State.noProg_raiseGiven (.inl (hu.corePart g).symm) (opCounter o) n

theorem give_overflows (hb : s.bound g (opCounter o) ≠ 0) (hf : (s.inCycle tied).giveOverflows g (opCounter o) n = true)
    (hd : s.dropMarked (s.corePart g) (opCounter o) = false) (hv : s.flag .SYNC_ERR_INFO_VALID g = false) :
    Completes (.give g id [] tied) s (fun t => (t.core g).started = doneRuns (s.core g).started o.id E_SYNC_OVERFLOW 0 ∧
      t.fld .SYNC_ERR_INFO_COUNTER g = opCounter o ∧ t.fld .SYNC_ERR_INFO_VALID g = 1 ∧ ∀ c, t.fld .SYNC_GIVEN g c = s.fld .SYNC_GIVEN g c) := by
  have hu := s.ofCycle_inCycle tied
  refine completes_in_cycle hu rfl ho rfl ?_
  generalize s.inCycle tied = u at hf hu
  rw [State.giveEffect_own hn hpos hlt hown,
    State.giveOwn_overflows ((hu.bound ..).trans_ne hb) hf (by rwa [hu.dropMarked, hu.corePart]), State.syncFail,
    Effect.finish_ends]
  have hw := u.ofCycle_noteGive g (opCounter o) true
  generalize u.noteGive g (opCounter o) true = w at hw
  have hfld := hw.fld.trans hu.fld
  have herr := KeptBut.syncErrInfo w g (opCounter o) (n % 2 ^ 16) 0 false false 0
  obtain ⟨hcounter, hvalid⟩ := State.fld_syncErrInfo_first w g (opCounter o) (n % 2 ^ 16) 0 false false 0 (by rw [State.flag, hfld]; exact hv)
  refine ⟨?_, hcounter.trans (Nat.mod_eq_of_lt (opCounter_lt o)), hvalid, fun c => ?_⟩
  · rw [State.started_ended, herr.core, hw.core, hu.core]
  · exact (herr.fld _ _ _ (by decide)).trans (by rw [hfld])

end Give

/-! ### TAKE and WAIT (06 Table 6.2) -/

/-- The commands that carry out a TAKE (`take`) and a WAIT. -/
theorem exec_take (take tied : Bool) (s : State) (g id : Nat) : exec (if take then .take g id tied else .wait g id tied) s =
    .next ((s.inCycle tied).runOp g id (if take then .take else .wait) (State.takeEffect take g)) := by
  cases take <;> rfl

theorem isHeavy_take (take : Bool) : isHeavy (if take then .take else .wait) = false := by cases take <;> rfl

/-- A TAKE or WAIT of an amount that its counter's bound allows. -/
theorem State.takeEffect_declared (hn : arg o .amount = n) (hpos : 0 < n) (hb : n ≤ s.bound g (opCounter o)) (take : Bool) :
    State.takeEffect take g s o =
    if n ≤ s.takeable g (opCounter o) then { st := s.takenBy take g (opCounter o) n }
    else if !take || arg o .waitFlag = 1 then { st := s.trace g 8 (opCounter o), blocks := true }
    else s.syncFail g (opCounter o) n E_SYNC_UNDERFLOW := by
  rw [State.takeEffect, hn, if_neg (Nat.ne_of_gt hpos), if_neg (by omega), if_neg (Nat.not_lt.mpr hb), State.takenBy]

section Take
variable (take : Bool) (ho : s.toRun g id (if take then .take else .wait) = some o) (hb : n ≤ s.bound g (opCounter o))
include hn hpos ho hb

theorem take_covered (hc : n ≤ (s.inCycle tied).takeable g (opCounter o)) :
    Completes (if take then .take g id tied else .wait g id tied) s (fun t =>
      t.fld .SYNC_TAKEN g (opCounter o) = (if take then (s.fld .SYNC_TAKEN g (opCounter o) + n) % 2 ^ 32 else s.fld .SYNC_TAKEN g (opCounter o)) ∧
      RegsBut s t [(.SYNC_TAKEN, g)] ∧ t.mem = s.mem ∧ t.outs = s.outs ∧ (t.core g).started = doneRuns (s.core g).started o.id 0 0) := by
  have hu := s.ofCycle_inCycle tied
  refine completes_in_cycle hu (exec_take take tied s g id) ho (isHeavy_take take) ?_
  generalize s.inCycle tied = u at hc hu
  rw [State.takeEffect_declared hn hpos (hb.trans_eq (hu.bound ..).symm), if_pos hc, Effect.finish_ends]
  obtain ⟨htaken, hregs, heq⟩ := u.takenBy_spec take g (opCounter o) n
  have hcore : (u.takenBy take g (opCounter o) n).core g = u.core g := by rw [heq]; rfl
  refine ⟨htaken.trans (by rw [hu.fld]), hu.regsBut hregs, (congrArg State.mem heq).trans hu.mem, (congrArg State.outs heq).trans hu.outs, ?_⟩
  rw [State.started_ended, hcore, hu.core]

theorem take_blocks (hc : (s.inCycle tied).takeable g (opCounter o) < n) (hw : take = false ∨ arg o .waitFlag = 1) :
    Completes (if take then .take g id tied else .wait g id tied) s (fun t =>
      (t.core g).started = (s.core g).started.map (fun r => if r.op.id = id then { r with blocked := true } else r) ∧
      t.mem = s.mem ∧ t.outs = s.outs ∧ RegsBut s t [(.OBS_TRACE_LOST, s.corePart g)]) := by
  have hu := s.ofCycle_inCycle tied
  refine completes_in_cycle hu (exec_take take tied s g id) ho (isHeavy_take take) ?_
  generalize s.inCycle tied = u at hc hu
  rw [State.takeEffect_declared hn hpos (hb.trans_eq (hu.bound ..).symm), if_neg (Nat.not_le.mpr hc), if_pos (by simpa using hw),
    Effect.finish_blocks]
  obtain ⟨-, hmem, hregs⟩ := u.trace_keeps g 8 (opCounter o)
  rw [hu.corePart] at hregs
  refine ⟨?_, hmem.trans hu.mem, (u.outs_trace g 8 _).trans hu.outs, hu.regsBut hregs⟩
  rw [State.started_setRun, State.started_trace, hu.core, State.id_of_toRun ho]

end Take

theorem take_underflows (hn : arg o .amount = n) (hpos : 0 < n) (ho : s.toRun g id .take = some o) (hb : n ≤ s.bound g (opCounter o))
    (hc : (s.inCycle tied).takeable g (opCounter o) < n) (hw : arg o .waitFlag = 0) :
    Completes (.take g id tied) s (fun t => (t.core g).started = doneRuns (s.core g).started o.id E_SYNC_UNDERFLOW 0 ∧
      t.fld .SYNC_TAKEN g (opCounter o) = s.fld .SYNC_TAKEN g (opCounter o) ∧ t.mem = s.mem) := by
  have hu := s.ofCycle_inCycle tied
  refine completes_in_cycle hu rfl ho rfl ?_
  generalize s.inCycle tied = u at hc hu
  rw [State.takeEffect_declared hn hpos (hb.trans_eq (hu.bound ..).symm), if_neg (Nat.not_le.mpr hc), if_neg (by simp [hw]), State.syncFail,
    Effect.finish_ends]
  have herr := KeptBut.syncErrInfo u g (opCounter o) (n % 2 ^ 16) 0 false false 0
  refine ⟨?_, ?_, herr.mem.trans hu.mem⟩
  · rw [State.started_ended, herr.core, hu.core]
  · exact (herr.fld _ _ _ (by decide)).trans (by rw [hu.fld])

end Sync

/-! ### The retry of a TAKE or WAIT that waits -/

/-- It is covered now: it is done, and its counter is as a TAKE or WAIT leaves it. -/
theorem State.takeSatisfied_covered {s : State} {g : Nat} {r : Running}
    (hr : (s.core g).started.find? (fun r => r.blocked && !r.done && (r.op.fam = .take || r.op.fam = .wait)) = some r)
    (hc : arg r.op .amount ≤ s.takeable g (opCounter r.op)) :
    s.takeSatisfied g = (s.takenBy (r.op.fam = .take) g (opCounter r.op) (arg r.op .amount)).setRun g r.op.id
      (fun x => { x with blocked := false, done := true }) := by
  rw [State.takeSatisfied, hr]
  dsimp only
  rw [if_pos hc]
  simp only [State.takenBy, decide_eq_true_eq]

theorem takeSatisfied_covered {s : State} {g : Nat} {r : Running} (tied : Bool)
    (hr : (s.core g).started.find? (fun r => r.blocked && !r.done && (r.op.fam = .take || r.op.fam = .wait)) = some r)
    (hc : arg r.op .amount ≤ (s.inCycle tied).takeable g (opCounter r.op)) :
    Completes (.takeSatisfied g tied) s (fun t => t.mem = s.mem ∧ t.outs = s.outs ∧ RegsBut s t [(.SYNC_TAKEN, g)] ∧
      t.fld .SYNC_TAKEN g (opCounter r.op) = (if r.op.fam = .take then (s.fld .SYNC_TAKEN g (opCounter r.op) + arg r.op .amount) % 2 ^ 32
        else s.fld .SYNC_TAKEN g (opCounter r.op)) ∧
      (t.core g).started = (s.core g).started.map (fun x => if x.op.id = r.op.id then { x with blocked := false, done := true } else x)) := by
  refine ⟨_, rfl, ?_⟩
  have hu := s.ofCycle_inCycle tied
  generalize s.inCycle tied = u at hc hu
  rw [State.takeSatisfied_covered (by rwa [hu.core]) hc]
  obtain ⟨htaken, hregs, heq⟩ := u.takenBy_spec (r.op.fam = .take) g (opCounter r.op) (arg r.op .amount)
  have hcore : (u.takenBy (r.op.fam = .take) g (opCounter r.op) (arg r.op .amount)).core g = u.core g := by rw [heq]; rfl
  refine ⟨(congrArg State.mem heq).trans hu.mem, (congrArg State.outs heq).trans hu.outs, hu.regsBut hregs, ?_, ?_⟩
  · simp only [decide_eq_true_eq, hu.fld] at htaken
    exact htaken
  · rw [State.started_setRun, hcore, hu.core]

/-- Settles O14: a give that its counter's bound allows raises GIVEN and one that it does not is recorded; a TAKE or WAIT that is covered is done,
one that is not waits or underflows, by the counter at the start of its cycle. -/
theorem syncOps : Obligations.SyncOps := by
  refine ⟨?_, ?_, ?_, ?_, ?_, ?_⟩
  · intro g id n tied o s ho hn hpos hlt hown hb hf
    exact give_raises hn hpos tied ho hlt hown hb hf
  · intro g id n tied o s ho hn hpos hlt hown hb hf hd hv
    exact give_overflows hn hpos tied ho hlt hown hb hf hd hv
  · intro g id n o take tied s ho hn hpos hb hc
    exact take_covered hn hpos tied take ho hb hc
  · intro g id n o take tied s ho hn hpos hb hc hw
    exact take_blocks hn hpos tied take ho hb hc hw
  · intro g id n tied o s ho hn hpos hb hc hw
    exact take_underflows tied hn hpos ho hb hc hw
  · intro g tied r s hr hc
    exact takeSatisfied_covered tied hr hc

end Sys2Proof.Machine
end

section
/-! PROOFS. Gives that arrive, and the barrier registers that software writes (06 R196, R199, R202). -/
namespace Sys2Proof.Machine
open Sys2Proof

/-! ### A give that arrives (06 R199) -/

section Arrive
variable {k : Pkt} {q n : Nat} {s : State} (hl : s.lands k = true) (ht : s.tagPart k.tag = some q) (tied : Bool)
include hl ht

/-- A give packet of a job that runs here reaches its core. -/
theorem exec_givePacketArrive : exec (.givePacketArrive k tied) s =
    .next (((s.inCycle tied).reached k).arrivingGive (pktCore k) k.sigCounter k.sigAmount k.srcRank) := by
  have hg : ((s.inCycle tied).reached k).givePacket k =
      ((s.inCycle tied).reached k).arrivingGive (pktCore k) k.sigCounter k.sigAmount k.srcRank := by
    rw [State.givePacket, (s.arrived_reached k tied).tagPart, ht]
  exact congrArg Host.Outcome.next ((State.arriveAt_inCycle hl tied _).trans hg)

theorem givePacketArrive_raises (hi : s.pstate (s.corePart (pktCore k)) ≠ .idle) (hn : k.sigAmount = n)
    (hb : s.bound (pktCore k) k.sigCounter ≠ 0) (hf : (s.inCycle tied).giveOverflows (pktCore k) k.sigCounter n = false) :
    Completes (.givePacketArrive k tied) s (fun t => t.fld .SYNC_GIVEN (pktCore k) k.sigCounter = (s.fld .SYNC_GIVEN (pktCore k) k.sigCounter + n) % 2 ^ 32 ∧
      (t.part k.part).noProg = 0 ∧ t.mem = s.mem ∧ t.cores = s.cores ∧ t.outs = s.outs ∧ RegsBut s t [(.SYNC_GIVEN, pktCore k)]) := by
  refine ⟨_, exec_givePacketArrive hl ht tied, ?_⟩
  have hu := s.arrived_reached k tied
  have hf : ((s.inCycle tied).reached k).giveOverflows (pktCore k) k.sigCounter n = false := hf
  generalize (s.inCycle tied).reached k = u at hu hf
  have hbound : u.bound (pktCore k) k.sigCounter ≠ 0 := by rwa [State.bound, State.decl, hu.core]
  rw [State.arrivingGive, hu.corePart, hu.pstate, if_neg hi, hn, State.outsideGive_fits hbound hf]
  obtain ⟨hraised, -, hregs, heq⟩ := u.raiseGiven_counts (pktCore k) k.sigCounter n
  refine ⟨hraised.trans (by rw [State.fld_of_regs hu.regs]; rfl), State.noProg_raiseGiven (.inr hu.noProg) _ _, ?_, ?_, ?_,
    (RegsBut.of_regs hu.regs _).trans hregs⟩
  · rw [heq, ← hu.mem]
  · rw [heq, ← hu.cores]
  · rw [heq, ← hu.outs]

theorem givePacketArrive_idle (hi : s.pstate (s.corePart (pktCore k)) = .idle) :
    Completes (.givePacketArrive k tied) s (fun t => t.fld .SYNC_REMOTE_DROP (pktCore k) = (s.fld .SYNC_REMOTE_DROP (pktCore k) + 1) % 2 ^ 32 ∧
      t.mem = s.mem ∧ t.cores = s.cores ∧ t.outs = s.outs ∧ RegsBut s t [(.SYNC_REMOTE_DROP, pktCore k)]) := by
  refine ⟨_, exec_givePacketArrive hl ht tied, ?_⟩
  have hu := s.arrived_reached k tied
  generalize (s.inCycle tied).reached k = u at hu
  rw [State.arrivingGive, hu.corePart, hu.pstate, if_pos hi]
  refine ⟨?_, hu.mem, hu.cores, hu.outs, (RegsBut.of_regs hu.regs _).setFld (g := .SYNC_REMOTE_DROP) _ 0 (by decide) (by simp)⟩
  rw [State.fld_addFld_self, State.fld_of_regs hu.regs]
  rfl

theorem givePacketArrive_overflows (ha : (s.pstate (s.corePart (pktCore k))).active = true) (hn : k.sigAmount = n)
    (hb : s.bound (pktCore k) k.sigCounter ≠ 0) (hf : (s.inCycle tied).giveOverflows (pktCore k) k.sigCounter n = true)
    (hd : s.dropMarked (s.corePart (pktCore k)) k.sigCounter = false) (he : s.fld .CORE_ERROR_CODE (pktCore k) = 0) :
    Completes (.givePacketArrive k tied) s (fun t => t.fld .SYNC_GIVEN (pktCore k) k.sigCounter = s.fld .SYNC_GIVEN (pktCore k) k.sigCounter ∧
      t.fld .CORE_ERROR_CODE (pktCore k) = E_SYNC_OVERFLOW ∧ t.pstate (s.corePart (pktCore k)) = .fault ∧ t.mem = s.mem) := by
  refine ⟨_, exec_givePacketArrive hl ht tied, ?_⟩
  have hu := s.arrived_reached k tied
  have hf : ((s.inCycle tied).reached k).giveOverflows (pktCore k) k.sigCounter n = true := hf
  generalize (s.inCycle tied).reached k = u at hu hf
  have hfld := State.fld_of_regs hu.regs
  have hbound : u.bound (pktCore k) k.sigCounter ≠ 0 := by rwa [State.bound, State.decl, hu.core]
  have hdrop : u.dropMarked (u.corePart (pktCore k)) k.sigCounter = false := by
    rwa [hu.corePart, State.dropMarked, State.flag, hfld]
  have hidle : s.pstate (s.corePart (pktCore k)) ≠ .idle := fun hi => by rw [hi] at ha; cases ha
  rw [State.arrivingGive, hu.corePart, hu.pstate, if_neg hidle, hn,
    State.outsideGive_overflows hbound hf hdrop (by rwa [hu.corePart, hu.pstate])]
  have hkept : KeptBut u (((u.noteGive (pktCore k) k.sigCounter true).addFld .SYNC_REMOTE_DROP 1 (pktCore k)).syncErrInfo (pktCore k) k.sigCounter n 0
      false true k.srcRank) (.SYNC_REMOTE_DROP :: syncErrFlds) :=
    ((KeptBut.noteGive u _ _ true _).addFld (f := .SYNC_REMOTE_DROP) (by decide) 1 _ 0).andThen (.syncErrInfo ..) (List.subset_cons_self ..)
  generalize ((u.noteGive (pktCore k) k.sigCounter true).addFld .SYNC_REMOTE_DROP 1 (pktCore k)).syncErrInfo (pktCore k) k.sigCounter n 0
      false true k.srcRank = w at hkept
  have hpart : w.corePart (pktCore k) = s.corePart (pktCore k) :=
    (State.corePart_congr (s := u) (fun q => hkept.fld _ _ _ (by decide)) _).trans (hu.corePart _)
  obtain ⟨hcode, -, hmem, hfault⟩ := State.coreFault_spec ((hkept.fld _ _ _ (by decide)).trans (by rw [hfld, he])) (code := E_SYNC_OVERFLOW)
    (by decide) 0
  refine ⟨?_, hcode, ?_, hmem.trans (hkept.mem.trans hu.mem)⟩
  · rw [State.fld_coreFault _ _ _ _ (by decide) (by decide), hkept.fld _ _ _ (by decide), hfld]
  · rw [hpart] at hfault
    exact hfault (by rwa [hkept.pstate (by decide), hu.pstate])

end Arrive

/-! ### BAR_RANKS (06 R202) -/

section Ranks
variable {party : Party} {p b v : Nat} {s : State} (hp : party ≠ .mgmt)
include hp

theorem barRanksWrite_takes (ha : s.patchable p = true) (hv : v % 2 ^ 16 ≤ v / 2 ^ 16 % 2 ^ 16) :
    Completes (.barRanksWrite party p b v) s (fun t => t.fld .BAR_RANKS_RANK_LO (p * 32 + b) = v % 2 ^ 16 ∧
      t.fld .BAR_RANKS_RANK_HI (p * 32 + b) = v / 2 ^ 16 % 2 ^ 16 ∧ OnlyRegs s t [(.BAR_RANKS_RANK_LO, p * 32 + b), (.BAR_RANKS_RANK_HI, p * 32 + b)]) := by
  have hw : s.barRanksWrite party p b v =
      (s.setFld .BAR_RANKS_RANK_LO (v % 2 ^ 16) (p * 32 + b)).setFld .BAR_RANKS_RANK_HI (v / 2 ^ 16 % 2 ^ 16) (p * 32 + b) := by
    rw [State.barRanksWrite, if_neg hp, if_neg (by simpa [ha] using hv)]
  refine ⟨_, congrArg Host.Outcome.next hw, ?_, ?_, ?_⟩
  · rw [State.fld_setFld_name _ (by decide), State.fld_setFld_self]
    exact Nat.mod_mod _ _
  · rw [State.fld_setFld_self]
    exact Nat.mod_mod _ _
  · exact ((OnlyRegs.refl s _).setFld (g := .BAR_RANKS_RANK_LO) _ 0 (by decide) (by simp)).setFld (g := .BAR_RANKS_RANK_HI) _ 0 (by decide) (by simp)

theorem barRanksWrite_rejects (h : s.patchable p = false ∨ v / 2 ^ 16 % 2 ^ 16 < v % 2 ^ 16) :
    Completes (.barRanksWrite party p b v) s (fun t => t.fld .BAR_CFG_REJECT (p * 32 + b) = 1 ∧ OnlyRegs s t [(.BAR_CFG_REJECT, p * 32 + b)]) := by
  have hw : s.barRanksWrite party p b v = s.setFld .BAR_CFG_REJECT 1 (p * 32 + b) := by
    rw [State.barRanksWrite, if_neg hp, if_pos (by simpa using h)]
  exact ⟨_, congrArg Host.Outcome.next hw, State.fld_setFld_self .., (OnlyRegs.refl s _).setFld 1 0 (by decide) (by simp)⟩

end Ranks

/-! ### BARRIER_MEMBER and LOCAL_COUNT (06 R202) -/

/-- Two filters of a list without repetition that agree but for one of its elements differ by it in length. -/
theorem length_filter_update {α : Type} {l : List α} {a : α} {p q : α → Bool} (hl : l.Nodup) (ha : a ∈ l) (h : ∀ b ∈ l, b ≠ a → q b = p b) :
    (l.filter q).length + (p a).toNat = (l.filter p).length + (q a).toNat := by
  induction l with
  | nil => cases ha
  | cons b l ih =>
    obtain ⟨hb, hl⟩ := List.nodup_cons.mp hl
    rw [List.filter_cons, List.filter_cons]
    by_cases hab : a = b
    · subst hab
      have hrest : l.filter q = l.filter p := List.filter_congr fun c hc => h c (List.mem_cons_of_mem _ hc) fun e => hb (e ▸ hc)
      rw [hrest]
      cases p a <;> cases q a <;> simp
    · have hlen := ih hl ((List.mem_cons.mp ha).resolve_left hab) fun c hc => h c (List.mem_cons_of_mem _ hc)
      rw [h b (List.mem_cons_self ..) (Ne.symm hab)]
      split
      · rw [List.length_cons, List.length_cons]
        omega
      · exact hlen

theorem State.localCount_update {s t : State} {p g i : Nat} (hg : g < 6144) (hp : s.corePart g = p) (hpart : ∀ h, t.corePart h = s.corePart h)
    (h : ∀ j, j ≠ g → t.bit .BARRIER_MEMBER i j = s.bit .BARRIER_MEMBER i j) :
    t.localCount p i + (s.bit .BARRIER_MEMBER i g).toNat = s.localCount p i + (t.bit .BARRIER_MEMBER i g).toNat := by
  have hlen := length_filter_update (p := fun j => s.bit .BARRIER_MEMBER i j && s.corePart j = p)
    (q := fun j => t.bit .BARRIER_MEMBER i j && t.corePart j = p) List.nodup_range (List.mem_range.mpr hg)
    (fun j _ hj => by rw [h j hj, hpart])
  beta_reduce at hlen
  rwa [hpart, decide_eq_true hp, Bool.and_true, Bool.and_true] at hlen

theorem barrierMemberWrite_takes {party : Party} {g v i : Nat} {s : State} (hp : party ≠ .mgmt) (ha : s.patchable (s.corePart g) = true)
    (hv : v < 2 ^ 32) (hg : g < 6144) :
    Completes (.barrierMemberWrite party g v) s (fun t => t.fld .BARRIER_MEMBER g = v ∧ OnlyRegs s t [(.BARRIER_MEMBER, g)] ∧
      t.localCount (s.corePart g) i + (s.bit .BARRIER_MEMBER i g).toNat = s.localCount (s.corePart g) i + (v.testBit i).toNat ∧
      ∀ h, h ≠ g → t.fld .BARRIER_MEMBER h = s.fld .BARRIER_MEMBER h) := by
  have hw : s.barrierMemberWrite party g v = s.setFld .BARRIER_MEMBER v g := by
    rw [State.barrierMemberWrite, if_neg hp, if_neg (by simp [ha]), Nat.mod_eq_of_lt hv, State.setMembers]
  have hself : (s.setFld .BARRIER_MEMBER v g).fld .BARRIER_MEMBER g = v := (State.fld_setFld_self ..).trans (Nat.mod_eq_of_lt hv)
  have hother (h : Nat) (hne : h ≠ g) : (s.setFld .BARRIER_MEMBER v g).fld .BARRIER_MEMBER h = s.fld .BARRIER_MEMBER h :=
    State.fld_setFld_ne s v (.inr (.inl hne))
  refine ⟨_, congrArg Host.Outcome.next hw, hself, (OnlyRegs.refl s _).setFld v 0 (by decide) (by simp), ?_, hother⟩
  have hcount := State.localCount_update (s := s) (t := s.setFld .BARRIER_MEMBER v g) (i := i) hg rfl
    (State.corePart_congr fun q => State.fld_setFld_name s (by decide) ..) (fun j hj => by rw [State.bit, hother j hj, State.bit])
  have hbit : (s.setFld .BARRIER_MEMBER v g).bit .BARRIER_MEMBER i g = v.testBit i := congrArg (Nat.testBit · i) hself
  rwa [hbit] at hcount

/-- Settles O21: a give that arrives raises its counter where the bound allows it and is counted as dropped where it is not; the barrier
registers take a value where the partition may be patched. -/
theorem arrivingGives : Obligations.ArrivingGives := by
  refine ⟨?_, ?_, ?_, ?_, ?_, ?_⟩
  · intro k q n tied s hl ht hi hn hb hf
    exact givePacketArrive_raises hl ht tied hi hn hb hf
  · intro k q tied s hl ht hi
    exact givePacketArrive_idle hl ht tied hi
  · intro k q n tied s hl ht ha hn hb hf hd he
    exact givePacketArrive_overflows hl ht tied ha hn hb hf hd he
  · intro party p b v s hp ha hv
    exact barRanksWrite_takes hp ha hv
  · intro party p b v s hp h
    exact barRanksWrite_rejects hp h
  · intro party g v i s hp ha hv _ hg
    exact barrierMemberWrite_takes hp ha hv hg

end Sys2Proof.Machine
end

section
/-! PROOFS. Barriers (06 R202 to R208): what arrivals and releases leave of the registers, of the operations started in a core and of the packets
that wait; what a device's place in a barrier rests on; the packets that set out. -/
namespace Sys2Proof.Machine
open Sys2Proof

/-! ### What arrivals and releases leave -/

/-- The fields that an arrival can write. -/
def arrivalFlds : List Fld := [.BAR_ARRIVED, .BAR_LOCAL_CUR, .BAR_LOCAL_NEXT, .BAR_HOME_CUR, .BAR_HOME_NEXT, .BAR_DROP]

/-- No field of the first list has the name of one of the second. -/
def apart (ns fs : List Fld) : Bool := ns.all (fun n => fs.all (fun f => n.code % 16384 ≠ f.code % 16384))

/-- Only register fields of the names listed have changed, every core has the same operations started, and no write has joined the packets
that wait. -/
structure BarrierKept (fs : List Fld) (s t : State) : Prop where
  fld : ∀ (g : Fld) (i k : Nat), (∀ f ∈ fs, g.code % 16384 ≠ f.code % 16384) → t.fld g i k = s.fld g i k
  ops : ∀ g, (t.core g).started.map Running.op = (s.core g).started.map Running.op
  outbox : (∀ e ∈ s.outbox, e.2.op ≠ .write) → ∀ e ∈ t.outbox, e.2.op ≠ .write

theorem ops_unblock (c : Core) : (unblock c).started.map Running.op = c.started.map Running.op := by
  have hop : Running.op ∘ (fun r : Running => if r.blocked && !r.done then { r with blocked := false, done := true } else r) = Running.op := by
    funext r
    rw [Function.comp_apply]
    split <;> rfl
  rw [unblock, List.map_map, hop]

namespace BarrierKept
variable {fs : List Fld} {s t u : State}

theorem refl (fs : List Fld) (s : State) : BarrierKept fs s s := ⟨fun _ _ _ _ => rfl, fun _ => rfl, id⟩

theorem trans (h : BarrierKept fs s t) (k : BarrierKept fs t u) : BarrierKept fs s u :=
  ⟨fun g i j hg => (k.fld g i j hg).trans (h.fld g i j hg), fun g => (k.ops g).trans (h.ops g), fun ho => k.outbox (h.outbox ho)⟩

theorem same (h : BarrierKept fs s t) (hr : u.regs = t.regs) (hc : u.cores = t.cores) (ho : u.outbox = t.outbox) : BarrierKept fs s u :=
  h.trans ⟨fun _ _ _ _ => by rw [State.fld_of_regs hr], fun g => by rw [State.core, hc, State.core], fun h => by rwa [ho]⟩

theorem setFld (h : BarrierKept fs s t) {f : Fld} (hf : f ∈ fs) (v i k : Nat) : BarrierKept fs s (t.setFld f v i k) :=
  h.trans ⟨fun _ _ _ hg => State.fld_setFld_name t (hg f hf) .., fun _ => rfl, id⟩

theorem addFld (h : BarrierKept fs s t) {f : Fld} (hf : f ∈ fs) (n i k : Nat) : BarrierKept fs s (t.addFld f n i k) := h.setFld hf _ i k

theorem progress (h : BarrierKept fs s t) (p : Nat) : BarrierKept fs s (t.progress p) := h.same rfl rfl rfl

theorem setCore (h : BarrierKept fs s t) {g : Nat} {c : Core} (hc : c.started.map Running.op = (t.core g).started.map Running.op) :
    BarrierKept fs s (t.setCore g c) := by
  refine h.trans ⟨fun _ _ _ _ => rfl, fun k => ?_, id⟩
  by_cases hk : k = g
  · rw [hk, State.core_setCore_self, hc]
  · rw [State.core_setCore_ne _ _ hk]

theorem queueOut (h : BarrierKept fs s t) (p : Nat) {k : Pkt} (hk : k.op ≠ .write) : BarrierKept fs s (t.queueOut p k) := by
  refine h.trans ⟨fun _ _ _ _ => rfl, fun _ => rfl, fun ho e he => ?_⟩
  rcases List.mem_append.mp he with he | he
  · exact ho e he
  · rw [List.mem_singleton.mp he]
    exact hk

theorem ite {c : Prop} [Decidable c] (h : BarrierKept fs s t) (k : BarrierKept fs s u) : BarrierKept fs s (if c then t else u) := by
  split
  · exact h
  · exact k

theorem foldl {β : Type} {f : State → β → State} (hf : ∀ t b, BarrierKept fs s t → BarrierKept fs s (f t b)) (l : List β)
    (h : BarrierKept fs s t) : BarrierKept fs s (l.foldl f t) := by
  induction l generalizing t with
  | nil => exact h
  | cons b l ih => exact ih (hf t b h)

section Arrivals
variable (hs : arrivalFlds ⊆ fs)
include hs

theorem homeCount (h : BarrierKept fs s t) (p i round : Nat) (member : Bool) : BarrierKept fs s (t.homeCount p i round member) := by
  have flagged (b : List (Nat × Nat)) : BarrierKept fs s { t with barFlags := b } := h.same rfl rfl rfl
  exact .ite (((flagged _).addFld (f := .BAR_HOME_CUR) (hs (by decide)) 1 _ 0).progress p)
    (.ite (((flagged _).addFld (f := .BAR_HOME_NEXT) (hs (by decide)) 1 _ 0).progress p) (h.addFld (f := .BAR_DROP) (hs (by decide)) 1 _ 0))

theorem deviceArrival (h : BarrierKept fs s t) (p i round : Nat) (member : Bool) : BarrierKept fs s (t.deviceArrival p i round member) :=
  .ite (h.homeCount hs p i round member) (.ite h (h.queueOut p (by decide : Op.barArrive ≠ .write)))

theorem acceptArrival (h : BarrierKept fs s t) (p i g n : Nat) : BarrierKept fs s (t.acceptArrival p i g n) := by
  have h0 := (h.setFld (f := .BAR_ARRIVED) (hs (by decide)) n g i).progress p
  have h1 (next : Bool) {u : State} (hu : BarrierKept fs s u) :
      BarrierKept fs s (if next then u.addFld .BAR_LOCAL_NEXT 1 (p * 32 + i) else u.addFld .BAR_LOCAL_CUR 1 (p * 32 + i)) :=
    .ite (hu.addFld (f := .BAR_LOCAL_NEXT) (hs (by decide)) _ _ _) (hu.addFld (f := .BAR_LOCAL_CUR) (hs (by decide)) _ _ _)
  exact .ite ((h1 _ h0).deviceArrival hs p i n true) (h1 _ h0)

theorem releaseCore (h : BarrierKept fs s t) (p i g : Nat) : BarrierKept fs s (t.releaseCore p i g) := by
  unfold State.releaseCore
  split
  · rename_i n stalled _
    refine .ite h (.ite (.ite ?_ h) (.ite (h.setCore (ops_unblock _)) h))
    have ha := h.acceptArrival hs p i g n
    dsimp only
    split
    · exact .ite (ha.setCore (ops_unblock _)) (ha.setCore rfl)
    · exact ha.setCore rfl
  · exact h

theorem released (h : BarrierKept fs s t) (p i : Nat) (l : List (Nat × Core)) :
    BarrierKept fs s (l.foldl (fun s e => s.releaseCore p i e.1) t) := .foldl (fun _ e hu => hu.releaseCore hs p i e.1) l h

/-- A release, once the round has moved on. -/
theorem afterRound (p i : Nat) (s : State) : BarrierKept fs (s.roundMoved p i) (s.applyRelease p i) := by
  have h := (refl fs (s.roundMoved p i)).released hs p i ((s.roundMoved p i).partCores p)
  rw [State.applyRelease_eq]
  exact .ite (h.deviceArrival hs p i _ false) h

theorem roundMoved (hr : Fld.BAR_ROUND ∈ fs) (h : BarrierKept fs s t) (p i : Nat) : BarrierKept fs s (t.roundMoved p i) := by
  have moved {u : State} (hu : BarrierKept fs s u) {cur next : Fld} (hc : cur ∈ arrivalFlds) (hn : next ∈ arrivalFlds) :
      BarrierKept fs s (u.tallyMoved cur next (p * 32 + i)) := (hu.setFld (hs hc) _ _ _).setFld (hs hn) _ _ _
  have flagged {u : State} (hu : BarrierKept fs s u) (b : List (Nat × Nat)) : BarrierKept fs s { u with barFlags := b } := hu.same rfl rfl rfl
  have counted := (h.addFld hr 1 (p * 32 + i) 0).progress p
  have tallied := moved (moved counted (cur := .BAR_LOCAL_CUR) (next := .BAR_LOCAL_NEXT) (by decide) (by decide))
    (cur := .BAR_HOME_CUR) (next := .BAR_HOME_NEXT) (by decide) (by decide)
  exact flagged tallied _

end Arrivals
end BarrierKept

/-- The releases of a round, to every rank but the home's. -/
def State.queueReleases (s : State) (p i : Nat) : State :=
  let lo := s.fld .BAR_RANKS_RANK_LO (p * 32 + i)
  let round := (s.fld .BAR_ROUND (p * 32 + i) + 1) % 2 ^ 32
  ((List.range (s.barSize p i)).drop 1).foldl (fun s d => s.queueOut p (s.barPacket .barRelease p i round (lo + d) false)) s

theorem BarrierKept.queueReleases (fs : List Fld) (s : State) (p i : Nat) : BarrierKept fs s (s.queueReleases p i) :=
  .foldl (fun _ _ hu => hu.queueOut p (by decide : Op.barRelease ≠ .write)) _ (.refl fs s)

/-- A home whose tally is not full completes no round. -/
theorem State.settleBarrier_partial {s : State} {p i : Nat} (h : s.barFull p i = false) (n : Nat) : s.settleBarrier p i n = s := by
  cases n with
  | zero => rfl
  | succ n => exact if_neg (by simp [h])

theorem State.settleBarrier_full {s : State} {p i : Nat} (h : s.barFull p i = true) (n : Nat) :
    s.settleBarrier p i (n + 1) = ((s.queueReleases p i).applyRelease p i).settleBarrier p i n := if_pos h

theorem BarrierKept.settleBarrier {fs : List Fld} (hs : arrivalFlds ⊆ fs) (hr : Fld.BAR_ROUND ∈ fs) (n : Nat) {s t : State}
    (h : BarrierKept fs s t) (p i : Nat) : BarrierKept fs s (t.settleBarrier p i n) := by
  induction n generalizing t with
  | zero => exact h
  | succ n ih =>
    cases hf : t.barFull p i with
    | false => rwa [State.settleBarrier_partial hf]
    | true =>
      rw [State.settleBarrier_full hf]
      exact ih (((h.trans (.queueReleases fs t p i)).roundMoved hs hr p i).trans (.afterRound hs p i _))

/-! ### Rounds (06 R206) -/

theorem State.fld_roundMoved_round (s : State) (p i : Nat) :
    (s.roundMoved p i).fld .BAR_ROUND (p * 32 + i) = (s.fld .BAR_ROUND (p * 32 + i) + 1) % 2 ^ 32 := by
  have moved (u : State) {cur next : Fld} (hc : Fld.BAR_ROUND.code % 16384 ≠ cur.code % 16384) (hn : Fld.BAR_ROUND.code % 16384 ≠ next.code % 16384) :
      (u.tallyMoved cur next (p * 32 + i)).fld .BAR_ROUND (p * 32 + i) = u.fld .BAR_ROUND (p * 32 + i) := by
    rw [State.tallyMoved, State.fld_setFld_name _ hn, State.fld_setFld_name _ hc]
  have flagged (u : State) (b : List (Nat × Nat)) : ({ u with barFlags := b } : State).fld .BAR_ROUND (p * 32 + i) = u.fld .BAR_ROUND (p * 32 + i) := rfl
  rw [State.roundMoved, flagged, moved _ (by decide) (by decide), moved _ (by decide) (by decide), State.progress, State.fld_setPart, State.fld_addFld_self]
  rfl

theorem State.roundMoved_keeps (s : State) (p i : Nat) : (s.roundMoved p i).outbox = s.outbox ∧ (s.roundMoved p i).mem = s.mem ∧
    (s.roundMoved p i).cores = s.cores ∧ (s.roundMoved p i).outs = s.outs := by
  simp [State.roundMoved, State.tallyMoved, State.addFld, State.progress]

/-- A release raises the round by one: the arrivals that follow it do not. -/
theorem State.fld_applyRelease_round (s : State) (p i : Nat) :
    (s.applyRelease p i).fld .BAR_ROUND (p * 32 + i) = (s.fld .BAR_ROUND (p * 32 + i) + 1) % 2 ^ 32 :=
  ((BarrierKept.afterRound (fs := arrivalFlds) (List.Subset.refl _) p i s).fld _ _ _ (by decide)).trans (s.fld_roundMoved_round p i)

/-- A home whose tally is full completes its round, and may complete the next with it. -/
theorem State.fld_settleBarrier_round {s : State} {p i : Nat} (h : s.barFull p i = true) :
    let round := (s.fld .BAR_ROUND (p * 32 + i) + 1) % 2 ^ 32
    (s.settleBarrier p i 2).fld .BAR_ROUND (p * 32 + i) = round ∨ (s.settleBarrier p i 2).fld .BAR_ROUND (p * 32 + i) = (round + 1) % 2 ^ 32 := by
  have first : ((s.queueReleases p i).applyRelease p i).fld .BAR_ROUND (p * 32 + i) = (s.fld .BAR_ROUND (p * 32 + i) + 1) % 2 ^ 32 := by
    rw [State.fld_applyRelease_round, (BarrierKept.queueReleases [] s p i).fld _ _ _ (by simp)]
  rw [State.settleBarrier_full h]
  generalize (s.queueReleases p i).applyRelease p i = u at first
  cases hf : u.barFull p i with
  | false =>
    rw [State.settleBarrier_partial hf]
    exact .inl first
  | true =>
    have second : ((u.queueReleases p i).applyRelease p i).fld .BAR_ROUND (p * 32 + i) = (u.fld .BAR_ROUND (p * 32 + i) + 1) % 2 ^ 32 := by
      rw [State.fld_applyRelease_round, (BarrierKept.queueReleases [] u p i).fld _ _ _ (by simp)]
    rw [State.settleBarrier_full hf, State.settleBarrier, second, first]
    exact .inr rfl

/-! ### A device's place in a barrier (06 R202) -/

/-- The fields that make a device the home of a barrier. -/
def homeFlds : List Fld := rankFlds ++ ([.BAR_RANKS_RANK_LO, .BAR_RANKS_RANK_HI] : List Fld)

namespace BarrierKept
variable {fs : List Fld} {s t : State} (h : BarrierKept fs s t)
include h

theorem fld_apart {ns : List Fld} (ha : apart ns fs = true) {n : Fld} (hn : n ∈ ns) (i k : Nat) : t.fld n i k = s.fld n i k :=
  h.fld n i k fun f hf => by simpa using List.all_eq_true.mp (List.all_eq_true.mp ha n hn) f hf

theorem runSlot (ha : apart homeFlds fs = true) (p : Nat) : t.runSlot p = s.runSlot p := by
  simp only [State.runSlot, h.fld_apart ha (n := .SLOT_STATUS_STATE) (by decide), h.fld_apart ha (n := .SLOT_CFG_KIND) (by decide),
    h.fld_apart ha (n := .SLOT_CFG_PARTITION) (by decide)]

theorem barHome (ha : apart homeFlds fs = true) (p i : Nat) : t.barHome p i = s.barHome p i := by
  rw [State.barHome, State.barHome, h.runSlot ha]
  cases s.runSlot p with
  | none => rfl
  | some j =>
    dsimp only
    rw [h.fld_apart ha (n := .SLOT_RANK) (by decide), h.fld_apart ha (n := .BAR_RANKS_RANK_LO) (by decide)]

theorem barSize (ha : apart homeFlds fs = true) (p i : Nat) : t.barSize p i = s.barSize p i := by
  rw [State.barSize, State.barSize, h.fld_apart ha (n := .BAR_RANKS_RANK_LO) (by decide), h.fld_apart ha (n := .BAR_RANKS_RANK_HI) (by decide)]

theorem barFull (ha : apart (.BAR_HOME_CUR :: homeFlds) fs = true) {p i : Nat}
    (hf : (bankGet 0 t.barFlags (p * 32 + i)).testBit 0 = (bankGet 0 s.barFlags (p * 32 + i)).testBit 0) : t.barFull p i = s.barFull p i := by
  have hhome : apart homeFlds fs = true := by
    rw [apart, List.all_cons, Bool.and_eq_true] at ha
    obtain ⟨-, ha⟩ := ha
    exact ha
  rw [State.barFull, State.barFull, h.barHome hhome, h.barSize hhome, h.fld_apart ha (List.mem_cons_self ..), hf]

theorem localCount (ha : apart [.BARRIER_MEMBER, .ARM_QUAD_PARTITION] fs = true) (p i : Nat) : t.localCount p i = s.localCount p i := by
  have hpart : @State.corePart t = @State.corePart s :=
    funext (State.corePart_congr fun q => h.fld_apart ha (n := .ARM_QUAD_PARTITION) (by decide) q 0)
  rw [State.localCount, State.localCount, State.barMembers, State.barMembers, hpart]
  simp only [State.bit, h.fld_apart ha (n := .BARRIER_MEMBER) (by decide)]

end BarrierKept

/-! ### Packets that set out -/

theorem State.flush_empty {s : State} (h : s.outbox = []) : s.flush = s := by
  rw [State.flush, h]
  change { s with outbox := [] } = s
  rw [← h]

/-- A packet that brings no write ends no transfer when it cannot be sent. -/
theorem KeptBut.sendOrWait {k : Pkt} (hk : k.op ≠ .write) (s : State) (p : Nat) : KeptBut s (s.sendOrWait p k) routeErrorFlds := by
  have hunsent (code : Nat) : KeptBut s (s.unsent k code) routeErrorFlds := by
    unfold State.unsent
    split
    · contradiction
    · exact .ite (.routeError s code k.tag 0) (.refl s _)
  exact .ite (.of_eq rfl rfl rfl rfl) (.ite ((KeptBut.inject s p k).mono (List.nil_subset _)) (hunsent _))

theorem KeptBut.flush {s : State} (h : ∀ e ∈ s.outbox, e.2.op ≠ .write) : KeptBut s s.flush routeErrorFlds :=
  List.foldlRecOn (motive := fun t : State => KeptBut s t routeErrorFlds) s.outbox _ (.of_eq rfl rfl rfl rfl)
    fun t ht e he => ht.andThen (.sendOrWait (h e he) t e.1) (List.Subset.refl _)

end Sys2Proof.Machine
end

section
/-! PROOFS. The BARRIER operation (06 R204 to R206). -/
namespace Sys2Proof.Machine
open Sys2Proof

/-! ### An arrival of a member core (06 R204, R206) -/

/-- An arrival for the round in progress, counted. -/
def State.arrivalCounted (s : State) (p i g n : Nat) : State := ((s.setFld .BAR_ARRIVED n g i).progress p).addFld .BAR_LOCAL_CUR 1 (p * 32 + i)

theorem BarrierKept.arrivalCounted (s : State) (p i g n : Nat) : BarrierKept [.BAR_ARRIVED, .BAR_LOCAL_CUR] s (s.arrivalCounted p i g n) :=
  (((BarrierKept.refl _ s).setFld (f := .BAR_ARRIVED) (by decide) n g i).progress p).addFld (f := .BAR_LOCAL_CUR) (by decide) 1 _ 0

theorem State.arrivalCounted_regs (s : State) (p i g n : Nat) :
    RegsBut s (s.arrivalCounted p i g n) [(.BAR_ARRIVED, g), (.BAR_LOCAL_CUR, p * 32 + i)] := by
  have h : RegsBut s ((s.setFld .BAR_ARRIVED n g i).progress p) [(.BAR_ARRIVED, g), (.BAR_LOCAL_CUR, p * 32 + i)] :=
    (RegsBut.refl s _).setFld n i (by decide) (by simp)
  exact h.setFld (g := .BAR_LOCAL_CUR) _ 0 (by decide) (by simp)

theorem State.fld_arrivalCounted_cur (s : State) (p i g n : Nat) :
    (s.arrivalCounted p i g n).fld .BAR_LOCAL_CUR (p * 32 + i) = (s.fld .BAR_LOCAL_CUR (p * 32 + i) + 1) % 2 ^ 13 := by
  rw [State.arrivalCounted, State.fld_addFld_self, State.progress, State.fld_setPart, State.fld_setFld_name _ (by decide)]
  rfl

theorem State.fld_arrivalCounted_arrived (s : State) (p i g : Nat) {n : Nat} (hn : n < 2 ^ 32) :
    (s.arrivalCounted p i g n).fld .BAR_ARRIVED g i = n := by
  rw [State.arrivalCounted, State.addFld, State.fld_setFld_name _ (by decide), State.progress, State.fld_setPart, State.fld_setFld_self]
  exact Nat.mod_eq_of_lt hn

/-- An arrival for the round in progress: the device arrives when its tally is full. -/
theorem State.acceptArrival_cur {s : State} {p i n : Nat} (hn : (s.fld .BAR_ROUND (p * 32 + i) + 1) % 2 ^ 32 = n) (g : Nat) :
    s.acceptArrival p i g n = if (s.fld .BAR_LOCAL_CUR (p * 32 + i) + 1) % 2 ^ 13 = s.localCount p i
      then (s.arrivalCounted p i g n).deviceArrival p i n true else s.arrivalCounted p i g n := by
  have hround : ((s.setFld .BAR_ARRIVED n g i).progress p).fld .BAR_ROUND (p * 32 + i) = s.fld .BAR_ROUND (p * 32 + i) :=
    State.fld_setFld_name s (by decide) ..
  have hnext : decide (n ≠ (((s.setFld .BAR_ARRIVED n g i).progress p).fld .BAR_ROUND (p * 32 + i) + 1) % 2 ^ 32) = false := by
    rw [hround, hn]
    simp
  rw [State.acceptArrival]
  simp only [hnext, Bool.false_eq_true, if_false]
  rw [← State.arrivalCounted, State.fld_arrivalCounted_cur, (BarrierKept.arrivalCounted s p i g n).localCount (by decide)]

/-! ### What the operation does -/

/-- The packets that a BARRIER's arrival leads to set out, or one has no route. -/
theorem State.barSend_cases (s t : State) (blocks : Bool) :
    s.barSend t blocks = { st := t.flush, blocks := blocks } ∨ ∃ code, s.barSend t blocks = { st := s, err := code } := by
  unfold State.barSend
  split
  · exact .inr ⟨_, rfl⟩
  · exact .inl rfl

theorem State.barSend_none {s t : State} (h : t.outbox = []) (blocks : Bool) : s.barSend t blocks = { st := t, blocks := blocks } := by
  rw [State.barSend, h, State.flush_empty h, List.drop_nil]
  rfl

/-- The core waits at barrier i with arrival number n. -/
def Core.waitsAt (c : Core) (i n : Nat) (stalled : Bool) : Core := { c with barrier := some (i, n, stalled) }

/-- An arrival with number n that is accepted: the rounds that it completes follow, and a core that asked to wait does so until its round is
reached. -/
def State.memberArrival (s : State) (p i g n : Nat) (wait : Bool) : Effect :=
  let t := (s.acceptArrival p i g n).settleBarrier p i 2
  if wait && !Machine.reached 32 (t.fld .BAR_ROUND (p * 32 + i)) n then s.barSend (t.setCore g ((t.core g).waitsAt i n false)) true
  else s.barSend t false

/-- The core stalls with arrival number n. -/
def State.stalled (s : State) (i g n : Nat) : State := s.setCore g ((s.core g).waitsAt i n true)

section Cases
variable {s : State} {g i n : Nat} {o : MacroOp}

theorem State.barrierEffect_foreign (hm : s.bit .BARRIER_MEMBER (arg o .index % 32) g = false) :
    State.barrierEffect g s o = { st := s.syncErrInfo g 0 0 (arg o .index % 32) true false 0, err := E_SYNC_UNDECLARED } := if_pos (by simp [hm])

section Member
variable (hi : arg o .index % 32 = i) (hm : s.bit .BARRIER_MEMBER i g = true) (hn : (s.fld .BAR_ARRIVED g i + 1) % 2 ^ 32 = n)
include hi hm hn

theorem State.barrierEffect_accepts
    (h : n = (s.fld .BAR_ROUND (s.corePart g * 32 + i) + 1) % 2 ^ 32 ∨ n = (s.fld .BAR_ROUND (s.corePart g * 32 + i) + 2) % 2 ^ 32) :
    State.barrierEffect g s o = s.memberArrival (s.corePart g) i g n (arg o .waitFlag = 1) := by
  rw [State.barrierEffect, hi, if_neg (by simp [hm])]
  dsimp only
  rw [hn, if_pos (by simpa using h)]
  rfl

theorem State.barrierEffect_stalls (h1 : n ≠ (s.fld .BAR_ROUND (s.corePart g * 32 + i) + 1) % 2 ^ 32)
    (h2 : n ≠ (s.fld .BAR_ROUND (s.corePart g * 32 + i) + 2) % 2 ^ 32) :
    State.barrierEffect g s o = { st := s.stalled i g n, blocks := true } := by
  rw [State.barrierEffect, hi, if_neg (by simp [hm])]
  dsimp only
  rw [hn, if_neg (by simpa using ⟨h1, h2⟩)]
  rfl

end Member

/-! ### The operations started in the core -/

/-- Whatever a BARRIER leads to, its core has the same operations started. -/
theorem State.memberArrival_ops (ho : s.outbox = []) (p i n : Nat) (wait : Bool) :
    (s.memberArrival p i g n wait).stays = false ∧ ((s.memberArrival p i g n wait).st.core g).started.map Running.op = (s.core g).started.map Running.op := by
  have hkept : BarrierKept (.BAR_ROUND :: arrivalFlds) s ((s.acceptArrival p i g n).settleBarrier p i 2) :=
    ((BarrierKept.refl _ s).acceptArrival (by simp) p i g n).settleBarrier (by simp) (by simp) 2 p i
  have sends {t : State} (ht : BarrierKept (.BAR_ROUND :: arrivalFlds) s t) (blocks : Bool) : (s.barSend t blocks).stays = false ∧
      ((s.barSend t blocks).st.core g).started.map Running.op = (s.core g).started.map Running.op := by
    rcases s.barSend_cases t blocks with h | ⟨code, h⟩ <;> rw [h]
    · refine ⟨rfl, ?_⟩
      rw [(KeptBut.flush (ht.outbox (by simp [ho]))).core, ht.ops]
    · exact ⟨rfl, rfl⟩
  unfold State.memberArrival
  generalize (s.acceptArrival p i g n).settleBarrier p i 2 = t at hkept
  dsimp only
  split
  · have hwait : BarrierKept (.BAR_ROUND :: arrivalFlds) s (t.setCore g ((t.core g).waitsAt i n false)) := hkept.setCore rfl
    exact sends hwait true
  · exact sends hkept false

theorem State.barrierEffect_ops (ho : s.outbox = []) (g : Nat) (o : MacroOp) : (State.barrierEffect g s o).stays = false ∧
    ((State.barrierEffect g s o).st.core g).started.map Running.op = (s.core g).started.map Running.op := by
  cases hm : s.bit .BARRIER_MEMBER (arg o .index % 32) g with
  | false =>
    rw [State.barrierEffect_foreign hm]
    exact ⟨rfl, by rw [State.core_syncErrInfo]⟩
  | true =>
    obtain ⟨n, hn⟩ : ∃ n, (s.fld .BAR_ARRIVED g (arg o .index % 32) + 1) % 2 ^ 32 = n := ⟨_, rfl⟩
    by_cases h : n = (s.fld .BAR_ROUND (s.corePart g * 32 + arg o .index % 32) + 1) % 2 ^ 32 ∨
        n = (s.fld .BAR_ROUND (s.corePart g * 32 + arg o .index % 32) + 2) % 2 ^ 32
    · rw [State.barrierEffect_accepts rfl hm hn h]
      exact State.memberArrival_ops ho ..
    · obtain ⟨h1, h2⟩ := not_or.mp h
      rw [State.barrierEffect_stalls rfl hm hn h1 h2]
      exact ⟨rfl, by rw [State.stalled, State.core_setCore_self, Core.waitsAt]⟩

/-- An effect that does not stay leaves its operation done or blocked, where the operation is still there. -/
theorem Effect.finish_record {e : Effect} {id : Nat} {fam : Family} (ho : s.toRun g id fam = some o) (hs : e.stays = false)
    (hops : (e.st.core g).started.map Running.op = (s.core g).started.map Running.op) :
    ∃ r ∈ ((e.finish g o).core g).started, r.op = o ∧ (r.done = true ∨ r.blocked = true) := by
  obtain ⟨r0, hfind, hr0⟩ := Option.map_eq_some_iff.mp ho
  have hmem : o ∈ (e.st.core g).started.map Running.op := by
    rw [hops, ← hr0]
    exact List.mem_map_of_mem (List.mem_of_find?_eq_some hfind)
  obtain ⟨r, hr, hop⟩ := List.mem_map.mp hmem
  rw [Effect.finish, hs]
  cases e.blocks with
  | true =>
    refine ⟨{ r with blocked := true }, ?_, hop, .inr rfl⟩
    rw [if_neg (by simp), if_pos rfl, State.started_setRun]
    exact List.mem_map.mpr ⟨r, hr, if_pos (by rw [hop])⟩
  | false =>
    refine ⟨{ r with done := true, level := 0, err := e.err, flags := e.flags }, ?_, hop, .inl rfl⟩
    rw [if_neg (by simp), if_neg (by simp), State.started_ended]
    exact List.mem_map.mpr ⟨r, hr, if_pos (by rw [hop])⟩

end Cases

/-! ### The outcomes -/

/-- A round does not reach the number after it (06 R189). -/
theorem reached_next {round n : Nat} (h : (round + 1) % 2 ^ 32 = n) : reached 32 round n = false := by
  simp only [reached, decide_eq_false_iff_not]
  omega

section Barrier
variable {s : State} {g id i n : Nat} {o : MacroOp} (ho : s.toRun g id .barrier = some o)
include ho

/-- A BARRIER leaves what its effect does. -/
theorem completes_barrier {post : State → Prop} (hp : post ((State.barrierEffect g s o).finish g o)) : Completes (.barrier g id) s post :=
  completes_in_cycle ⟨rfl⟩ rfl ho rfl hp

theorem barrier_runs (hout : s.outbox = []) :
    Completes (.barrier g id) s (fun t => ∃ r ∈ (t.core g).started, r.op = o ∧ (r.done = true ∨ r.blocked = true)) := by
  obtain ⟨hs, hops⟩ := State.barrierEffect_ops hout g o
  exact completes_barrier ho (Effect.finish_record ho hs hops)

section Index
variable (hi : arg o .index = i) (h32 : i < 32)
include hi h32

theorem barrier_foreign (hm : s.bit .BARRIER_MEMBER i g = false) :
    Completes (.barrier g id) s (fun t => (t.core g).started = doneRuns (s.core g).started o.id E_SYNC_UNDECLARED 0 ∧ t.mem = s.mem ∧ t.outs = s.outs) := by
  refine completes_barrier ho ?_
  rw [State.barrierEffect_foreign (by rwa [hi, Nat.mod_eq_of_lt h32]), Effect.finish_ends]
  refine ⟨?_, ?_, ?_⟩
  · rw [State.started_ended, State.core_syncErrInfo]
  · exact (KeptBut.syncErrInfo ..).mem
  · exact State.syncErrInfo_outs ..

variable (hm : s.bit .BARRIER_MEMBER i g = true) (hn : (s.fld .BAR_ARRIVED g i + 1) % 2 ^ 32 = n)
include hm hn

theorem barrier_stalls (h1 : n ≠ (s.fld .BAR_ROUND (s.corePart g * 32 + i) + 1) % 2 ^ 32)
    (h2 : n ≠ (s.fld .BAR_ROUND (s.corePart g * 32 + i) + 2) % 2 ^ 32) :
    Completes (.barrier g id) s (fun t => t = { s with cores := t.cores } ∧ (t.core g).barrier = some (i, n, true) ∧
      (t.core g).started = (s.core g).started.map (fun r => if r.op.id = id then { r with blocked := true } else r)) := by
  refine completes_barrier ho ?_
  rw [State.barrierEffect_stalls (by rw [hi, Nat.mod_eq_of_lt h32]) hm hn h1 h2, Effect.finish_blocks]
  refine ⟨rfl, ?_, ?_⟩
  · rw [State.setRun, State.core_setCore_self, State.stalled, State.core_setCore_self, Core.waitsAt]
  · rw [State.started_setRun, State.stalled, State.core_setCore_self, State.id_of_toRun ho, Core.waitsAt]

section Counted
variable (hr : (s.fld .BAR_ROUND (s.corePart g * 32 + i) + 1) % 2 ^ 32 = n) (hout : s.outbox = []) (hf : s.barFull (s.corePart g) i = false)
  (hc : s.acceptArrival (s.corePart g) i g n = s.arrivalCounted (s.corePart g) i g n)
include hr hout hf hc

omit ho in
/-- An arrival that is counted, and completes no round. -/
theorem State.barrierEffect_counted : State.barrierEffect g s o =
    let t := s.arrivalCounted (s.corePart g) i g n
    if arg o .waitFlag = 1 then { st := t.setCore g ((s.core g).waitsAt i n false), blocks := true } else { st := t } := by
  have hkept := BarrierKept.arrivalCounted s (s.corePart g) i g n
  have hpart := (hkept.barFull (p := s.corePart g) (i := i) (by decide) rfl).trans hf
  have hround : (s.arrivalCounted (s.corePart g) i g n).fld .BAR_ROUND (s.corePart g * 32 + i) = s.fld .BAR_ROUND (s.corePart g * 32 + i) :=
    hkept.fld _ _ _ (by decide)
  have hcore : (s.arrivalCounted (s.corePart g) i g n).core g = s.core g := rfl
  have hbox : (s.arrivalCounted (s.corePart g) i g n).outbox = [] := hout
  rw [State.barrierEffect_accepts (by rw [hi, Nat.mod_eq_of_lt h32]) hm hn (.inl hr.symm), State.memberArrival, hc,
    State.settleBarrier_partial hpart]
  dsimp only
  rw [hround, reached_next hr, hcore]
  by_cases hw : arg o .waitFlag = 1
  · rw [if_pos (by simp [hw]), if_pos hw]
    exact State.barSend_none (t := (s.arrivalCounted (s.corePart g) i g n).setCore g ((s.core g).waitsAt i n false)) hbox true
  · rw [if_neg (by simp [hw]), if_neg hw, State.barSend_none hbox]

theorem barrier_counted :
    Completes (.barrier g id) s (fun t => t.fld .BAR_ARRIVED g i = n ∧
      t.fld .BAR_LOCAL_CUR (s.corePart g * 32 + i) = (s.fld .BAR_LOCAL_CUR (s.corePart g * 32 + i) + 1) % 2 ^ 13 ∧
      t.fld .BAR_ROUND (s.corePart g * 32 + i) = s.fld .BAR_ROUND (s.corePart g * 32 + i) ∧ t.outs = s.outs ∧ t.mem = s.mem ∧
      RegsBut s t [(.BAR_ARRIVED, g), (.BAR_LOCAL_CUR, s.corePart g * 32 + i)] ∧
      (arg o .waitFlag = 1 → (t.core g).barrier = some (i, n, false) ∧
        (t.core g).started = (s.core g).started.map (fun r => if r.op.id = id then { r with blocked := true } else r)) ∧
      (arg o .waitFlag ≠ 1 → (t.core g).barrier = (s.core g).barrier ∧ (t.core g).started = doneRuns (s.core g).started o.id 0 0)) := by
  refine completes_barrier ho ?_
  rw [State.barrierEffect_counted hi h32 hm hn hr hout hf hc]
  have harr := s.fld_arrivalCounted_arrived (s.corePart g) i g (show n < 2 ^ 32 by omega)
  have hcur := s.fld_arrivalCounted_cur (s.corePart g) i g n
  have hround : (s.arrivalCounted (s.corePart g) i g n).fld .BAR_ROUND (s.corePart g * 32 + i) = s.fld .BAR_ROUND (s.corePart g * 32 + i) :=
    (BarrierKept.arrivalCounted ..).fld _ _ _ (by decide)
  have hregs := s.arrivalCounted_regs (s.corePart g) i g n
  have hcore : (s.arrivalCounted (s.corePart g) i g n).core g = s.core g := rfl
  dsimp only
  by_cases hw : arg o .waitFlag = 1
  · rw [if_pos hw, Effect.finish_blocks]
    refine ⟨harr, hcur, hround, rfl, rfl, hregs, fun _ => ⟨?_, ?_⟩, fun h => absurd hw h⟩
    · rw [State.setRun, State.core_setCore_self, State.core_setCore_self, Core.waitsAt]
    · rw [State.started_setRun, State.core_setCore_self, State.id_of_toRun ho, Core.waitsAt]
  · rw [if_neg hw, Effect.finish_ends]
    refine ⟨harr, hcur, hround, rfl, rfl, hregs, fun h => absurd h hw, fun _ => ⟨?_, ?_⟩⟩
    · rw [State.core_ended, hcore]
    · rw [State.started_ended, hcore]

end Counted
end Index
end Barrier

/-! ### A tally that fills where no job runs -/

theorem State.barHome_none {s : State} {p : Nat} (h : s.runSlot p = none) (i : Nat) : s.barHome p i = false := by rw [State.barHome, h]

theorem State.barFull_of_notHome {s : State} {p i : Nat} (h : s.barHome p i = false) : s.barFull p i = false := by
  rw [State.barFull, h, Bool.false_and, Bool.false_and]

/-- Without a RUN slot the partition has no home to send its arrival to. -/
theorem State.deviceArrival_none {s : State} {p : Nat} (h : s.runSlot p = none) (i round : Nat) (member : Bool) :
    s.deviceArrival p i round member = s := by
  rw [State.deviceArrival, State.barHome_none h, if_neg (by simp), if_pos (by simp [h])]

end Sys2Proof.Machine
end

section
/-! PROOFS. Arrivals at the home of a barrier, and releases (06 R206 to R208). -/
namespace Sys2Proof.Machine
open Sys2Proof

/-! ### The tallies of the home (06 R206) -/

/-- A device's arrival counted in a tally of the home, whose flag n says that a device with a member core has arrived. -/
def State.homeTallied (s : State) (cur : Fld) (n p i : Nat) (member : Bool) : State :=
  let fl := bankGet 0 s.barFlags (p * 32 + i)
  ({ s with barFlags := bankSet 0 s.barFlags (p * 32 + i) (if member then putBit fl n true else fl) }.addFld cur 1 (p * 32 + i)).progress p

section Tallied
variable (s : State) (cur : Fld) (n p i : Nat) (member : Bool)

theorem BarrierKept.homeTallied : BarrierKept [cur] s (s.homeTallied cur n p i member) := by
  have flagged (b : List (Nat × Nat)) : BarrierKept [cur] s { s with barFlags := b } := (BarrierKept.refl _ s).same rfl rfl rfl
  exact ((flagged _).addFld (List.mem_singleton_self cur) 1 _ 0).progress p

theorem State.fld_homeTallied : (s.homeTallied cur n p i member).fld cur (p * 32 + i) = (s.fld cur (p * 32 + i) + 1) % 2 ^ cur.width := by
  have flagged (b : List (Nat × Nat)) : ({ s with barFlags := b } : State).fld cur (p * 32 + i) = s.fld cur (p * 32 + i) := rfl
  rw [State.homeTallied, State.progress, State.fld_setPart, State.fld_addFld_self, flagged]

theorem State.homeTallied_regs {cur : Fld} (hc : cur.code < 16384) : RegsBut s (s.homeTallied cur n p i member) [(cur, p * 32 + i)] := by
  have flagged (b : List (Nat × Nat)) : RegsBut s { s with barFlags := b } [(cur, p * 32 + i)] := RegsBut.of_regs rfl _
  exact (flagged _).setFld _ 0 hc (by simp)

theorem State.homeTallied_eq : s.homeTallied cur n p i member = { s with
    regs := (s.homeTallied cur n p i member).regs, parts := (s.homeTallied cur n p i member).parts,
    barFlags := (s.homeTallied cur n p i member).barFlags } := rfl

/-- The member flag of a round is set by a device with a member core, and by no other. -/
theorem State.barFlag_homeTallied (m : Nat) : (bankGet 0 (s.homeTallied cur n p i member).barFlags (p * 32 + i)).testBit m =
    if member ∧ m = n then true else (bankGet 0 s.barFlags (p * 32 + i)).testBit m := by
  have hflags : (s.homeTallied cur n p i member).barFlags = bankSet 0 s.barFlags (p * 32 + i)
      (if member then putBit (bankGet 0 s.barFlags (p * 32 + i)) n true else bankGet 0 s.barFlags (p * 32 + i)) := rfl
  rw [hflags, bankGet_bankSet_self]
  cases member with
  | false => simp
  | true => simp [testBit_putBit]

end Tallied

/-! ### Arrivals at the home (06 R206) -/

section Count
variable {s : State} {p i round : Nat} {member : Bool}

theorem State.homeCount_cur (h : round = (s.fld .BAR_ROUND (p * 32 + i) + 1) % 2 ^ 32) :
    s.homeCount p i round member = s.homeTallied .BAR_HOME_CUR 0 p i member := if_pos h

theorem State.homeCount_next (h : round = (s.fld .BAR_ROUND (p * 32 + i) + 2) % 2 ^ 32) :
    s.homeCount p i round member = s.homeTallied .BAR_HOME_NEXT 1 p i member := by
  have hne : round ≠ (s.fld .BAR_ROUND (p * 32 + i) + 1) % 2 ^ 32 := by omega
  exact (if_neg hne).trans (if_pos h)

/-- The tally of the round in progress is full with this arrival, or is not. -/
theorem State.barFull_homeTallied_cur : (s.homeTallied .BAR_HOME_CUR 0 p i member).barFull p i =
    (s.barHome p i && (s.fld .BAR_HOME_CUR (p * 32 + i) + 1) % 2 ^ 17 = s.barSize p i &&
      (member || (bankGet 0 s.barFlags (p * 32 + i)).testBit 0)) := by
  have hkept := BarrierKept.homeTallied s .BAR_HOME_CUR 0 p i member
  have hflag : (bankGet 0 (s.homeTallied .BAR_HOME_CUR 0 p i member).barFlags (p * 32 + i)).testBit 0 =
      (member || (bankGet 0 s.barFlags (p * 32 + i)).testBit 0) := by
    rw [State.barFlag_homeTallied]
    cases member <;> simp
  rw [State.barFull, s.fld_homeTallied .BAR_HOME_CUR, hkept.barSize (by decide), hkept.barHome (by decide), hflag]
  rfl

/-- An arrival for the next round leaves the tally of the round in progress. -/
theorem State.barFull_homeTallied_next : (s.homeTallied .BAR_HOME_NEXT 1 p i member).barFull p i = s.barFull p i :=
  (BarrierKept.homeTallied s .BAR_HOME_NEXT 1 p i member).barFull (by decide) ((s.barFlag_homeTallied ..).trans (if_neg (by simp)))

/-- An arrival counted that completes no round. -/
theorem State.settled_partial {cur : Fld} {n : Nat} (hout : s.outbox = []) (hf : (s.homeTallied cur n p i member).barFull p i = false)
    (hc : s.homeCount p i round member = s.homeTallied cur n p i member) :
    ((s.homeCount p i round member).settleBarrier p i 2).flush = s.homeTallied cur n p i member := by
  rw [hc, State.settleBarrier_partial hf, State.flush_empty]
  rw [State.homeTallied_eq]
  exact hout

end Count

section Arrive
variable {k : Pkt} {p : Nat} {s : State} (hl : s.lands k = true) (ht : s.tagPart k.tag = some p)
include hl ht

/-- An arrival of a job that does not run here any more, or not yet. -/
theorem exec_barArriveReceive_idle (hi : s.pstate p = .idle) :
    exec (.barArriveReceive k) s = .next ((s.reached k).addFld .BAR_DROP 1 (p * 32 + k.barrier)) := by
  have hb : (s.reached k).barArrive k = (s.reached k).addFld .BAR_DROP 1 (p * 32 + k.barrier) := by
    rw [State.barArrive, show (s.reached k).tagPart k.tag = some p from ht]
    exact if_pos hi
  exact congrArg Host.Outcome.next ((State.arriveAt_lands hl _).trans hb)

section Home
variable (hi : s.pstate p ≠ .idle)
include hi

theorem exec_barArriveReceive_foreign
    (h : s.barHome p k.barrier = false ∨ k.srcRank < s.fld .BAR_RANKS_RANK_LO (p * 32 + k.barrier) ∨
      s.fld .BAR_RANKS_RANK_HI (p * 32 + k.barrier) < k.srcRank) :
    exec (.barArriveReceive k) s = .next ((s.reached k).foreignArrival p k.barrier k.srcRank) := by
  have hb : (s.reached k).barArrive k = (s.reached k).foreignArrival p k.barrier k.srcRank := by
    rw [State.barArrive, show (s.reached k).tagPart k.tag = some p from ht]
    refine (if_neg hi).trans (if_pos ?_)
    have h : (s.reached k).barHome p k.barrier = false ∨ k.srcRank < (s.reached k).fld .BAR_RANKS_RANK_LO (p * 32 + k.barrier) ∨
      (s.reached k).fld .BAR_RANKS_RANK_HI (p * 32 + k.barrier) < k.srcRank := h
    simpa [or_assoc] using h
  exact congrArg Host.Outcome.next ((State.arriveAt_lands hl _).trans hb)

variable (hh : s.barHome p k.barrier = true) (hlo : s.fld .BAR_RANKS_RANK_LO (p * 32 + k.barrier) ≤ k.srcRank)
  (hhi : k.srcRank ≤ s.fld .BAR_RANKS_RANK_HI (p * 32 + k.barrier))
include hh hlo hhi

theorem exec_barArriveReceive_home : exec (.barArriveReceive k) s =
    .next (((s.reached k).homeCount p k.barrier k.round k.member).settleBarrier p k.barrier 2).flush := by
  have hb : (s.reached k).barArrive k = (((s.reached k).homeCount p k.barrier k.round k.member).settleBarrier p k.barrier 2).flush := by
    rw [State.barArrive, show (s.reached k).tagPart k.tag = some p from ht]
    refine (if_neg hi).trans (if_neg ?_)
    have hh : (s.reached k).barHome p k.barrier = true := hh
    have hlo : (s.reached k).fld .BAR_RANKS_RANK_LO (p * 32 + k.barrier) ≤ k.srcRank := hlo
    have hhi : k.srcRank ≤ (s.reached k).fld .BAR_RANKS_RANK_HI (p * 32 + k.barrier) := hhi
    simp [hh, hlo, hhi]
  exact congrArg Host.Outcome.next ((State.arriveAt_lands hl _).trans hb)

variable (hout : s.outbox = [])
include hout

theorem barArriveReceive_counts (hr : k.round = (s.fld .BAR_ROUND (p * 32 + k.barrier) + 1) % 2 ^ 32)
    (hn : (s.fld .BAR_HOME_CUR (p * 32 + k.barrier) + 1) % 2 ^ 17 ≠ s.barSize p k.barrier) :
    Completes (.barArriveReceive k) s (fun t => t.fld .BAR_HOME_CUR (p * 32 + k.barrier) = (s.fld .BAR_HOME_CUR (p * 32 + k.barrier) + 1) % 2 ^ 17 ∧
      t.fld .BAR_ROUND (p * 32 + k.barrier) = s.fld .BAR_ROUND (p * 32 + k.barrier) ∧ t.mem = s.mem ∧ t.cores = s.cores ∧ t.outs = s.outs ∧
      RegsBut s t [(.BAR_HOME_CUR, p * 32 + k.barrier)]) := by
  have hpart : ((s.reached k).homeTallied .BAR_HOME_CUR 0 p k.barrier k.member).barFull p k.barrier = false := by
    have hn : ((s.reached k).fld .BAR_HOME_CUR (p * 32 + k.barrier) + 1) % 2 ^ 17 ≠ (s.reached k).barSize p k.barrier := hn
    rw [State.barFull_homeTallied_cur, decide_eq_false hn, Bool.and_false, Bool.false_and]
  refine ⟨_, exec_barArriveReceive_home hl ht hi hh hlo hhi, ?_⟩
  beta_reduce
  rw [State.settled_partial (s := s.reached k) hout hpart (State.homeCount_cur hr)]
  exact ⟨(s.reached k).fld_homeTallied .BAR_HOME_CUR 0 p k.barrier k.member,
    (BarrierKept.homeTallied (s.reached k) .BAR_HOME_CUR 0 p k.barrier k.member).fld _ _ _ (by decide), rfl, rfl, rfl,
    (s.reached k).homeTallied_regs 0 p k.barrier k.member (by decide)⟩

theorem barArriveReceive_completes (hr : k.round = (s.fld .BAR_ROUND (p * 32 + k.barrier) + 1) % 2 ^ 32)
    (hn : (s.fld .BAR_HOME_CUR (p * 32 + k.barrier) + 1) % 2 ^ 17 = s.barSize p k.barrier)
    (hm : k.member = true ∨ (bankGet 0 s.barFlags (p * 32 + k.barrier)).testBit 0 = true) :
    Completes (.barArriveReceive k) s (fun t => (t.fld .BAR_ROUND (p * 32 + k.barrier) = k.round ∨
      t.fld .BAR_ROUND (p * 32 + k.barrier) = (k.round + 1) % 2 ^ 32) ∧ t.mem = s.mem) := by
  have hfull : ((s.reached k).homeTallied .BAR_HOME_CUR 0 p k.barrier k.member).barFull p k.barrier = true := by
    have hhome : (s.reached k).barHome p k.barrier = true := hh
    have hn : ((s.reached k).fld .BAR_HOME_CUR (p * 32 + k.barrier) + 1) % 2 ^ 17 = (s.reached k).barSize p k.barrier := hn
    rw [State.barFull_homeTallied_cur, hhome, decide_eq_true hn, Bool.true_and, Bool.true_and, Bool.or_eq_true]
    exact hm
  have hround : ((s.reached k).homeTallied .BAR_HOME_CUR 0 p k.barrier k.member).fld .BAR_ROUND (p * 32 + k.barrier) =
    s.fld .BAR_ROUND (p * 32 + k.barrier) := (BarrierKept.homeTallied ..).fld _ _ _ (by decide)
  have hmem : ((s.reached k).homeTallied .BAR_HOME_CUR 0 p k.barrier k.member).mem = s.mem := rfl
  have houtbox : ((s.reached k).homeTallied .BAR_HOME_CUR 0 p k.barrier k.member).outbox = [] := hout
  refine ⟨_, exec_barArriveReceive_home hl ht hi hh hlo hhi, ?_⟩
  beta_reduce
  rw [State.homeCount_cur (s := s.reached k) hr]
  generalize (s.reached k).homeTallied .BAR_HOME_CUR 0 p k.barrier k.member = u at hfull hround hmem houtbox
  have hsettled : BarrierKept (.BAR_ROUND :: arrivalFlds) u (u.settleBarrier p k.barrier 2) :=
    (BarrierKept.refl _ u).settleBarrier (by simp) (by simp) 2 p k.barrier
  have hflush := KeptBut.flush (hsettled.outbox (by simp [houtbox]))
  refine ⟨?_, hflush.mem.trans ((State.settleBarrier_mem ..).trans hmem)⟩
  rw [hflush.fld _ _ _ (by decide), hr, ← hround]
  exact State.fld_settleBarrier_round hfull

theorem barArriveReceive_countsNext (hr : k.round = (s.fld .BAR_ROUND (p * 32 + k.barrier) + 2) % 2 ^ 32) (hf : s.barFull p k.barrier = false) :
    Completes (.barArriveReceive k) s (fun t => t.fld .BAR_HOME_NEXT (p * 32 + k.barrier) = (s.fld .BAR_HOME_NEXT (p * 32 + k.barrier) + 1) % 2 ^ 17 ∧
      t.mem = s.mem ∧ t.cores = s.cores ∧ t.outs = s.outs ∧ RegsBut s t [(.BAR_HOME_NEXT, p * 32 + k.barrier)]) := by
  have hpart : ((s.reached k).homeTallied .BAR_HOME_NEXT 1 p k.barrier k.member).barFull p k.barrier = false :=
    State.barFull_homeTallied_next.trans hf
  refine ⟨_, exec_barArriveReceive_home hl ht hi hh hlo hhi, ?_⟩
  beta_reduce
  rw [State.settled_partial (s := s.reached k) hout hpart (State.homeCount_next hr)]
  exact ⟨(s.reached k).fld_homeTallied .BAR_HOME_NEXT 1 p k.barrier k.member, rfl, rfl, rfl,
    (s.reached k).homeTallied_regs 1 p k.barrier k.member (by decide)⟩

end Home
end Arrive

/-! ### Packets that are dropped (06 R206, R208) -/

/-- A barrier packet that is dropped is counted, and has no other effect. -/
theorem State.barDrop_spec (s : State) (k : Pkt) (b : Nat) : ((s.reached k).addFld .BAR_DROP 1 b).fld .BAR_DROP b = (s.fld .BAR_DROP b + 1) % 2 ^ 32 ∧
    RegsBut s ((s.reached k).addFld .BAR_DROP 1 b) [(.BAR_DROP, b)] := by
  refine ⟨State.fld_addFld_self .., ?_⟩
  have h : RegsBut s (s.reached k) [(.BAR_DROP, b)] := RegsBut.of_regs rfl _
  exact h.setFld (g := .BAR_DROP) _ 0 (by decide) (by simp)

/-- A foreign arrival at a partition that does not run is dropped. -/
theorem State.foreignArrival_quiet {s : State} {p : Nat} (ha : (s.pstate p).active = false) (i rank : Nat) :
    s.foreignArrival p i rank = s.addFld .BAR_DROP 1 (p * 32 + i) := by
  have hact : ((s.addFld .BAR_DROP 1 (p * 32 + i)).pstate p).active = false := by
    rwa [((KeptBut.refl s [Fld.BAR_DROP]).addFld (f := .BAR_DROP) (by decide) 1 _ 0).pstate (by decide)]
  rw [State.foreignArrival]
  exact if_neg (by simp [hact])

section Drop
variable {k : Pkt} {p : Nat} {s : State} (hl : s.lands k = true) (ht : s.tagPart k.tag = some p)
include hl ht

theorem barArriveReceive_foreign (hi : s.pstate p ≠ .idle) (ha : (s.pstate p).active = false)
    (h : s.barHome p k.barrier = false ∨ k.srcRank < s.fld .BAR_RANKS_RANK_LO (p * 32 + k.barrier) ∨
      s.fld .BAR_RANKS_RANK_HI (p * 32 + k.barrier) < k.srcRank) :
    Completes (.barArriveReceive k) s (fun t => t.fld .BAR_DROP (p * 32 + k.barrier) = (s.fld .BAR_DROP (p * 32 + k.barrier) + 1) % 2 ^ 32 ∧
      t.mem = s.mem ∧ t.cores = s.cores ∧ t.outs = s.outs ∧ RegsBut s t [(.BAR_DROP, p * 32 + k.barrier)]) := by
  refine ⟨_, exec_barArriveReceive_foreign hl ht hi h, ?_⟩
  obtain ⟨hdrop, hregs⟩ := s.barDrop_spec k (p * 32 + k.barrier)
  rw [State.foreignArrival_quiet (s := s.reached k) ha]
  exact ⟨hdrop, rfl, rfl, rfl, hregs⟩

/-- A release that is not of the round after BAR_ROUND, or comes to a partition that is IDLE. -/
theorem exec_barReleaseReceive_drop (h : s.pstate p = .idle ∨ k.round ≠ (s.fld .BAR_ROUND (p * 32 + k.barrier) + 1) % 2 ^ 32) :
    exec (.barReleaseReceive k) s = .next ((s.reached k).addFld .BAR_DROP 1 (p * 32 + k.barrier)) := by
  have hb : (s.reached k).barRelease k = (s.reached k).addFld .BAR_DROP 1 (p * 32 + k.barrier) := by
    rw [State.barRelease, show (s.reached k).tagPart k.tag = some p from ht]
    refine if_pos ?_
    have h : (s.reached k).pstate p = .idle ∨ k.round ≠ ((s.reached k).fld .BAR_ROUND (p * 32 + k.barrier) + 1) % 2 ^ 32 := h
    simpa using h
  exact congrArg Host.Outcome.next ((State.arriveAt_lands hl _).trans hb)

theorem barPackets_idle (hi : s.pstate p = .idle) {c : Instr} (hc : c ∈ [Instr.barArriveReceive k, .barReleaseReceive k]) :
    Completes c s (fun t => t.mem = s.mem ∧ t.cores = s.cores ∧ t.outs = s.outs ∧
      t.fld .BAR_DROP (p * 32 + k.barrier) = (s.fld .BAR_DROP (p * 32 + k.barrier) + 1) % 2 ^ 32 ∧ RegsBut s t [(.BAR_DROP, p * 32 + k.barrier)]) := by
  have hex : exec c s = .next ((s.reached k).addFld .BAR_DROP 1 (p * 32 + k.barrier)) := by
    rcases List.mem_pair.mp hc with rfl | rfl
    · exact exec_barArriveReceive_idle hl ht hi
    · exact exec_barReleaseReceive_drop hl ht (.inl hi)
  obtain ⟨hdrop, hregs⟩ := s.barDrop_spec k (p * 32 + k.barrier)
  exact ⟨_, hex, rfl, rfl, rfl, hdrop, hregs⟩

theorem barReleaseReceive_drops (hr : k.round ≠ (s.fld .BAR_ROUND (p * 32 + k.barrier) + 1) % 2 ^ 32) :
    Completes (.barReleaseReceive k) s (fun t => t.fld .BAR_ROUND (p * 32 + k.barrier) = s.fld .BAR_ROUND (p * 32 + k.barrier) ∧
      t.fld .BAR_DROP (p * 32 + k.barrier) = (s.fld .BAR_DROP (p * 32 + k.barrier) + 1) % 2 ^ 32 ∧ t.cores = s.cores ∧ t.mem = s.mem) := by
  obtain ⟨hdrop, hregs⟩ := s.barDrop_spec k (p * 32 + k.barrier)
  exact ⟨_, exec_barReleaseReceive_drop hl ht (.inr hr), hregs _ _ _ (by decide) (by simp [Fld.BAR_ROUND, Fld.BAR_DROP]), hdrop, rfl, rfl⟩

end Drop

/-! ### Releases (06 R206, R207) -/

/-- With no core that could wait, and members to arrive later, a release only moves the round on. -/
theorem State.applyRelease_noCores {s : State} {p i : Nat} (hc : s.partCores p = []) (hl : s.localCount p i ≠ 0) :
    s.applyRelease p i = s.roundMoved p i := by
  have hkept : BarrierKept (.BAR_ROUND :: arrivalFlds) s (s.roundMoved p i) :=
    (BarrierKept.refl _ s).roundMoved (by simp) (by simp) p i
  have hpart : @State.corePart (s.roundMoved p i) = @State.corePart s := funext (State.corePart_congr fun q => hkept.fld _ _ _ (by decide))
  obtain ⟨-, -, hsame, -⟩ := s.roundMoved_keeps p i
  have hcores : (s.roundMoved p i).partCores p = [] := by rwa [State.partCores, hpart, hsame]
  have hlocal : (s.roundMoved p i).localCount p i ≠ 0 := by rwa [hkept.localCount (by decide)]
  rw [State.applyRelease_eq, hcores, List.foldl_nil]
  exact if_neg (by simp [hlocal])

/-- The tally of the next round becomes that of the round in progress. -/
theorem State.fld_roundMoved_local (s : State) (p i : Nat) :
    (s.roundMoved p i).fld .BAR_LOCAL_CUR (p * 32 + i) = s.fld .BAR_LOCAL_NEXT (p * 32 + i) % 2 ^ 13 ∧
    (s.roundMoved p i).fld .BAR_LOCAL_NEXT (p * 32 + i) = 0 := by
  have counted (f : Fld) (hf : f.code % 16384 ≠ Fld.BAR_ROUND.code % 16384) :
      ((s.addFld .BAR_ROUND 1 (p * 32 + i)).progress p).fld f (p * 32 + i) = s.fld f (p * 32 + i) := State.fld_setFld_name s hf ..
  have flagged (u : State) (b : List (Nat × Nat)) (f : Fld) : ({ u with barFlags := b } : State).fld f (p * 32 + i) = u.fld f (p * 32 + i) := rfl
  have home (u : State) (f : Fld) (h1 : f.code % 16384 ≠ Fld.BAR_HOME_CUR.code % 16384) (h2 : f.code % 16384 ≠ Fld.BAR_HOME_NEXT.code % 16384) :
      (u.tallyMoved .BAR_HOME_CUR .BAR_HOME_NEXT (p * 32 + i)).fld f (p * 32 + i) = u.fld f (p * 32 + i) := by
    rw [State.tallyMoved, State.fld_setFld_name _ h2, State.fld_setFld_name _ h1]
  rw [State.roundMoved]
  constructor
  · rw [flagged, home _ _ (by decide) (by decide), State.tallyMoved, State.fld_setFld_name _ (by decide), State.fld_setFld_self,
      counted _ (by decide)]
    rfl
  · rw [flagged, home _ _ (by decide) (by decide), State.tallyMoved, State.fld_setFld_self]
    exact Nat.zero_mod _

section Release
variable {k : Pkt} {p : Nat} {s : State} (hl : s.lands k = true) (ht : s.tagPart k.tag = some p) (hout : s.outbox = []) (hi : s.pstate p ≠ .idle)
  (hr : k.round = (s.fld .BAR_ROUND (p * 32 + k.barrier) + 1) % 2 ^ 32)
include hl ht hout hi hr

omit hout in
theorem exec_barReleaseReceive_applies : exec (.barReleaseReceive k) s = .next ((s.reached k).applyRelease p k.barrier).flush := by
  have hb : (s.reached k).barRelease k = ((s.reached k).applyRelease p k.barrier).flush := by
    rw [State.barRelease, show (s.reached k).tagPart k.tag = some p from ht]
    refine if_neg ?_
    have hi : (s.reached k).pstate p ≠ .idle := hi
    have hr : k.round = ((s.reached k).fld .BAR_ROUND (p * 32 + k.barrier) + 1) % 2 ^ 32 := hr
    simpa [hi] using hr
  exact congrArg Host.Outcome.next ((State.arriveAt_lands hl _).trans hb)

theorem barReleaseReceive_raises :
    Completes (.barReleaseReceive k) s (fun t => t.fld .BAR_ROUND (p * 32 + k.barrier) = k.round ∧ t.mem = s.mem) := by
  refine ⟨_, exec_barReleaseReceive_applies hl ht hi hr, ?_⟩
  have hkept : BarrierKept (.BAR_ROUND :: arrivalFlds) (s.reached k) ((s.reached k).applyRelease p k.barrier) :=
    ((BarrierKept.refl _ _).roundMoved (by simp) (by simp) p k.barrier).trans (.afterRound (by simp) p k.barrier _)
  have hflush := KeptBut.flush (hkept.outbox (by simp [hout]))
  obtain ⟨-, hmem⟩ := (s.reached k).applyRelease_keeps p k.barrier
  refine ⟨?_, hflush.mem.trans hmem⟩
  rw [hflush.fld _ _ _ (by decide), State.fld_applyRelease_round, hr]
  rfl

theorem barReleaseReceive_moves (hc : s.partCores p = []) (hn : s.localCount p k.barrier ≠ 0) :
    Completes (.barReleaseReceive k) s (fun t => t.fld .BAR_ROUND (p * 32 + k.barrier) = k.round ∧
      t.fld .BAR_LOCAL_CUR (p * 32 + k.barrier) = s.fld .BAR_LOCAL_NEXT (p * 32 + k.barrier) % 2 ^ 13 ∧ t.fld .BAR_LOCAL_NEXT (p * 32 + k.barrier) = 0 ∧
      t.mem = s.mem ∧ t.cores = s.cores ∧ t.outs = s.outs) := by
  obtain ⟨hbox, hmem, hcores, houts⟩ := (s.reached k).roundMoved_keeps p k.barrier
  have hround := (s.reached k).fld_roundMoved_round p k.barrier
  obtain ⟨hcur, hnext⟩ := (s.reached k).fld_roundMoved_local p k.barrier
  have happly : (s.reached k).applyRelease p k.barrier = (s.reached k).roundMoved p k.barrier := State.applyRelease_noCores hc hn
  refine ⟨_, exec_barReleaseReceive_applies hl ht hi hr, ?_⟩
  beta_reduce
  rw [happly]
  generalize (s.reached k).roundMoved p k.barrier = u at *
  rw [State.flush_empty (hbox.trans hout)]
  exact ⟨hround.trans hr.symm, hcur, hnext, hmem, hcores, houts⟩

end Release

/-- Settles O15: an arrival of a core is counted in its device's tally and one of a device in the home's, a tally that is full completes the round,
and a release raises it; every other packet is dropped and counted. -/
theorem barriers : Obligations.Barriers := by
  refine ⟨?_, ?_, ?_, ?_, ?_, ?_, ?_, ?_, ?_, ?_, ?_, ?_, ?_⟩
  · intro g id i n o s ho hi h32 hm hout hn hr hc hf
    exact barrier_counted ho hi h32 hm hn hr hout hf ((State.acceptArrival_cur hr g).trans (if_neg hc))
  · intro g id i n o s ho hi h32 hm hout hn hr hc hrun
    have hslot : (s.arrivalCounted (s.corePart g) i g n).runSlot (s.corePart g) = none :=
      ((BarrierKept.arrivalCounted s (s.corePart g) i g n).runSlot (by decide) _).trans hrun
    have haccept := ((State.acceptArrival_cur hr g).trans (if_pos hc)).trans (State.deviceArrival_none hslot i n true)
    refine (barrier_counted ho hi h32 hm hn hr hout (State.barFull_of_notHome (State.barHome_none hrun i)) haccept).mono ?_
    rintro t ⟨harr, hcur, -, houts, hmem, hregs, -, -⟩
    exact ⟨harr, hcur.trans hc, houts, hmem, hregs⟩
  · intro g id i n o s ho hi h32 hm hn h1 h2
    exact barrier_stalls ho hi h32 hm hn h1 h2
  · intro g id o s ho hout
    exact barrier_runs ho hout
  · intro g id i o s ho hi h32 hm
    exact barrier_foreign ho hi h32 hm
  · intro k p s hl hout ht hi hh hlo hhi hr hn
    exact barArriveReceive_counts hl ht hi hh hlo hhi hout hr hn
  · intro k p s hl hout ht hi hh hlo hhi hr hn hm
    exact barArriveReceive_completes hl ht hi hh hlo hhi hout hr hn hm
  · intro k p s hl hout ht hi hh hlo hhi hr hf
    exact barArriveReceive_countsNext hl ht hi hh hlo hhi hout hr hf
  · intro k p s hl ht hi ha h
    exact barArriveReceive_foreign hl ht hi ha h
  · intro k p s hl ht hi c hc
    exact barPackets_idle hl ht hi hc
  · intro k p s hl hout ht hi hr
    exact barReleaseReceive_raises hl ht hout hi hr
  · intro k p s hl hout ht hi hr hc hn
    exact barReleaseReceive_moves hl ht hout hi hr hc hn
  · intro k p s hl ht hr
    exact barReleaseReceive_drops hl ht hr

end Sys2Proof.Machine
end
